-- ==== Sys2Proof/Word.lean ====
section
/-! DEFINITION. The machine's words and the one shape every sparse store of the model has. -/
namespace Sys2Proof

/-- A 64-bit register word (R12). -/
abbrev Word := BitVec 64

/-- A byte of frames, records, payloads and SRAM. -/
abbrev Byte := BitVec 8

/-- A sparse store: keys strictly rising, no entry holding the default value (`Tab.wf`). -/
abbrev Tab (α : Type) := List (Nat × α)

end Sys2Proof
end

