-- ==== Sys2Proof/Syntax.lean ====
section
/-! DEFINITION. The commands of the block: one constructor of `Instr` per row of spec/opcode_table.json, with the operands
that its sender or its surroundings bring. -/
namespace Sys2Proof

/-- A Tuidan time value as it is written in a command: SEC, NSEC, FRAC (R1). -/
structure TimeVal where
  sec : Nat
  nsec : Nat
  frac : Nat
  deriving DecidableEq, Repr

/-- Who sends a command: a host function through one of its rings, a privileged Dravik thread through PCMD, or CP firmware. -/
inductive Caller
  | host (fn ring : Nat)
  | thread (t : Nat)
  | firmware
  deriving DecidableEq, Repr

/-- An edge at a REFIN ball: its direction, and the CLK_TSE cycles since the edge before it. -/
structure BallEdge where
  rise : Bool
  gap : Nat
  deriving DecidableEq, Repr

/-- Frame sync as a channel finds it: the channel, and the last two bits before the frame, D29* and D30* (R174). -/
structure SyncFound where
  ch : Nat
  last : Nat
  deriving DecidableEq, Repr

/-- The supply as a tamper source trips: whether main power is on, and the nanoseconds since the ball PWRGOOD fell at which a fall of
VDD_CORE began (R533), none while PWRGOOD is high. -/
structure Supply where
  powered : Bool
  fell : Option Nat
  deriving DecidableEq, Repr

/-- What CP firmware does with exported copies: the slots it has a copy of delivered from (R548), then the slot whose copy it
destroyed. -/
structure CopyCall where
  take : List Nat
  slot : Nat
  deriving DecidableEq, Repr

/-- Who makes a bus access (R652): a CP core, a host function, a Dravik thread, the DMA engine. -/
inductive Master
  | cp (core : Nat)
  | fn (f : Nat)
  | thread (t : Nat)
  | dma
  deriving DecidableEq, Repr

/-- The part of a register that an access addresses (R815). -/
inductive Half | full | low | high
  deriving DecidableEq, Repr

/-- What the DMA engine was doing when the watchdog reset its port (R656): reading a command's payload, writing its result, a ring
fetch, writing a page of a chain, writing a partition's checkpoint. -/
inductive DmaJob
  | payload (f r : Nat)
  | result (f r : Nat)
  | fetch (f r : Nat)
  | page (port : Nat)
  | checkpoint (part : Nat)
  deriving DecidableEq, Repr

/-- Where an access lands: the register map (BAR0), the MSI-X table (BAR2), the MSI-X control of configuration space. -/
inductive Space | map | msixTable | msixCtl
  deriving DecidableEq, Repr

/-- What a channel has measured at an epoch (R171): C/N0, seconds of lock, transmit time, accumulated phase, Doppler, and its
flags. -/
structure ChanMeas where
  ch : Nat
  cn0 : Nat
  lockS : Nat
  txMs : Nat
  txSubMs : Nat
  phase : Int
  doppler : Int
  halfOk : Bool
  slip : Bool
  deriving DecidableEq, Repr

/-- A boot control block copy (R716). -/
structure Bcb where
  seq : Nat
  active : Nat
  pending : Option Nat
  fallback : Bool
  confirmed : Bool
  triesA : Nat
  triesB : Nat
  deriving DecidableEq, Repr

/-- An ADPLL configuration as SYN_CFG takes it (R293), for ADPLL n. -/
structure SynSet where
  n : Nat
  tf : Nat
  mode : Nat
  refin : Nat
  bw : Nat
  lockWait : Nat
  fl : Nat
  deriving DecidableEq, Repr

/-- A PERSIST slot as the settings store keeps it (R552): slot, partition, blob, LAST_GEN. -/
structure KeptKey where
  slot : Nat
  part : Nat
  blob : List Byte
  lastGen : Nat
  deriving DecidableEq, Repr

/-- What the settings store holds (R726): register words of the blocks' configuration, ADPLL configurations, PERSIST slots, image
keys, Dravik images, the certificate chain, the held position with its 1σ, the last D0 second, AUTO_CONFIRM. -/
structure Settings where
  regs : List (Nat × Word) := []
  syn : List SynSet := []
  persist : List KeptKey := []
  imgKeys : List (Nat × Nat) := []
  images : List (List Byte) := []
  chain : List Byte := []
  pos : Option (Int × Int × Int × Nat) := none
  lastSec : Nat := 0
  autoConfirm : Bool := false
  deriving DecidableEq, Repr, Inhabited

/-- A valid settings store copy (R725): its format, STATE (0 FREE, 1 IN_USE, 2 RETAINED), sequence, body, and the SHA-384 of the
whole copy. -/
structure SetCopy where
  sfmt : Nat
  state : Nat
  seq : Nat
  body : Settings
  digest : BitVec 384
  deriving DecidableEq, Repr

/-- The boot flash (R713): the valid copies of the boot control block, of the settings store, and the bytes of the two slots. -/
structure Flash where
  bcb0 : Option Bcb := none
  bcb1 : Option Bcb := none
  set0 : Option SetCopy := none
  set1 : Option SetCopy := none
  slotA : List Byte := []
  slotB : List Byte := []
  deriving DecidableEq, Repr

/-- The commands, in the order of spec/opcode_table.json. -/
inductive Instr
  /-- REGISTER_WRITE (R13): A bus write to a register with no row of its own takes effect by its access code, including W1C clears and RWE direct writes. -/
  | registerWrite (m : Master) (sp : Space) (addr : Nat) (h : Half) (data : Word)
  /-- CLK_TSE_CYCLE (R62): Each CLK_TSE cycle TSE advances every running domain by its rate word plus FOFF and slew contribution. -/
  | clkTseCycle (core : Nat)
  /-- BOUND_UPDATE (R28): Every 1,250 CLK_TSE cycles TSE recomputes every domain's bound from its terms. -/
  | boundUpdate
  /-- DOMAIN_TIME_CAPTURE (R70): A read including bit 0 of DOMn_TIME_SEC captures the domain's time, bound, state and provenance for the requester. -/
  | domainTimeCapture (m : Master) (dom : Nat) (h : Half)
  /-- DOM_CONFIG (R57): PT0 sets a domain's kind, parent and owner. -/
  | domConfig (c : Caller) (dom kind parent owner : Nat)
  /-- DOM_SEED (R60): PT0 sets a domain's time and clears UNSEEDED, with the bound and provenance effects of the seed. -/
  | domSeed (c : Caller) (dom : Nat) (t : TimeVal) (bound : Nat)
  /-- DOM_START (R57): PT0 starts a STOPPED domain, which becomes RUNNING or HELD. -/
  | domStart (c : Caller) (dom : Nat)
  /-- DOM_STOP (R57): PT0 freezes a domain, which becomes STOPPED and UNBOUNDED. -/
  | domStop (c : Caller) (dom : Nat)
  /-- DOM_STEP (R67): The owner adds a signed amount to a domain's time, making passed alarms due. -/
  | domStep (c : Caller) (dom : Nat) (ticks : Int)
  /-- DOM_SLEW (R64): The owner adds an amount to a domain's remaining slew with an uncertainty and SLEW_MAX. -/
  | domSlew (c : Caller) (dom : Nat) (ticks : Int) (unc slewMax : Nat)
  /-- LEAP_SET (R75): PT0 schedules, replaces or cancels a leap second event. -/
  | leapSet (c : Caller) (type leapAt : Nat)
  /-- ALM_ARM (R90): A partition arms an alarm in a slot under the late policy. -/
  | almArm (c : Caller) (slot dom : Nat) (t : TimeVal) (kind target period policy : Nat)
  /-- ALM_CANCEL (R95): A partition cancels an armed alarm, or receives LATE when it is due. -/
  | almCancel (c : Caller) (slot : Nat)
  /-- LEAP_FIRE (R76): A LEAP alarm in AS0 or AS1 sets LEAP_FLAG or changes UTC_OFFSET. -/
  | leapFire
  /-- EVO_EDGE_FIRE (R284): An EVO_EDGE alarm fires and SYN places the event output edge. -/
  | evoEdgeFire
  /-- EMU_OPEN_FIRE (R123): An EMU_OPEN alarm fires and the EMU window opens. -/
  | emuOpenFire
  /-- EMU_CLOSE_FIRE (R142): An EMU_CLOSE alarm fires, the window closes and its result is produced. -/
  | emuCloseFire
  /-- TSV_EMIT_FIRE (R513): A TSV_EMIT alarm fires and TSV emits Sync or Announce messages for its calendar bucket. -/
  | tsvEmitFire
  /-- ESCROW_COMMIT_FIRE (R97): An ESCROW_COMMIT alarm fires and the escrow is judged and applied. -/
  | escrowCommitFire
  /-- TALLY_SNAP_FIRE (R690): A TALLY_SNAP alarm fires and every bank in scope copies to its shadows. -/
  | tallySnapFire
  /-- DSQ_WAKE_FIRE (R319): A thread's wait slot fires and the thread becomes ready with its lateness. -/
  | dsqWakeFire
  /-- SLW_CLOSE_FIRE (R440): An SLW_CLOSE alarm fires, closing the stamp ledger windows of a pair and opening the next. -/
  | slwCloseFire
  /-- HOST_INT_FIRE (R88): A HOST_INT alarm fires and sends an MSI-X vector to the owning function. -/
  | hostIntFire
  /-- QPUT_FIRE (R370): A QPUT alarm fires and posts a two-word item to a Dravik queue. -/
  | qputFire
  /-- RSH_SERVO_CLOSE (R216): RSH's SERVO_CLOSE alarm fires and RSH closes its servo period. -/
  | rshServoClose
  /-- HRL_SERVO_CLOSE (R594): HRL's SERVO_CLOSE alarm fires and HRL steers a RING domain. -/
  | hrlServoClose
  /-- HOLDOVER_SECOND_TICK (R229): Once per second in HOLD RSH updates FOFF and TINT and checks holdover end and verification. -/
  | holdoverSecondTick
  /-- CROSS_CHECK_ANCHOR (R211): Every CHK_SPAN_S seconds RSH anchors a new model cross-check prediction. -/
  | crossCheckAnchor
  /-- GNSS_PAIR_TIMEOUT (R204): A timing message with no paired EMU result within 2 ms gives no sample. -/
  | gnssPairTimeout
  /-- INPUT_CFG_WRITE (R111): A write that changes INn_CFG or INn_NOM restarts both monitors of the input in REJECTED. -/
  | inputCfgWrite (m : Master) (n : Nat) (nom : Bool) (h : Half) (data : Word)
  /-- REFIN_EDGE (R113): A prescaled edge of a REFIN input is judged by the activity monitor and reaches the EMUs. -/
  | refinEdge (src : Nat) (edge : BallEdge) (tdc : List (Nat × Nat × Nat))
  /-- ACT_GAP_TIMEOUT (R113): No edge within REJ/4 periods makes the activity monitor reject with REJ_GAP. -/
  | actGapTimeout (n : Nat)
  /-- ACT_ACCEPT_TIMEOUT (R113): ACC_MS without gap or glitch makes the activity monitor accept. -/
  | actAcceptTimeout (n : Nat)
  /-- FM_FAST_GATE_END (R114): At the end of each fast gate the frequency monitor forms estimates and may reject or accept.
The estimates are formed from the edges and intervals of State: the places of type Unit carry nothing. -/
  | fmFastGateEnd (n : Nat) (fastEdges fastTicks longEdges longTicks : Unit)
  /-- EMU_FIFO_READ (R147): A read of EMUm_FIFO takes the next word of the oldest result. -/
  | emuFifoRead (m : Master) (emu : Nat) (h : Half)
  /-- TDC_CAL_COLLECT_DONE (R139): A TDC has counted 2^24 CAL_RO edges, computes and checks its tables. -/
  | tdcCalCollectDone (t : Nat) (hp hb : List Nat)
  /-- TDC_CAL_TIMEOUT (R137): A collection not finished within 1 s ends with CAL_TIMEOUT. -/
  | tdcCalTimeout (t : Nat)
  /-- TDC_CAL_WAIT_END (R139): The 100 ms retry wait ends and the next calibration attempt starts. -/
  | tdcCalWaitEnd (t : Nat)
  /-- TDC_TABLE_INSTALL (R135): RIM installs a checked table in a cycle with no window open. -/
  | tdcTableInstall (t : Nat)
  /-- TDC_TEMP_TRIGGER (R136): A 5 °C move of the cluster temperature starts a TDC calibration. -/
  | tdcTempTrigger (temp : Int)
  /-- EMU_ARM (R122): PT0 arms an EMU with its open and close alarms. -/
  | emuArm (c : Caller) (m mode startSrc stopSrc dom : Nat) (t0 : TimeVal) (per w dests queue emptyReport lateOk : Nat)
  /-- EMU_DISARM (R128): PT0 disarms an EMU and cancels its alarms. -/
  | emuDisarm (c : Caller) (m : Nat)
  /-- TDC_CAL (R136): PT0 starts calibration of the named TDCs. -/
  | tdcCal (c : Caller) (mask : Nat)
  /-- MON_RESTART (R150): PT0 places both monitors of the named inputs in REJECTED. -/
  | monRestart (c : Caller) (mask : Nat)
  /-- COH_GATE_END (R157): At the end of each 1 ms gate GNB judges the sample clock coherence of each port, from
the samples alone: the place of type Unit carries nothing. -/
  | cohGateEnd (smp0 smp1 : List (Nat × Nat × Nat)) (rms : Unit)
  /-- GSP_CFG_WRITE (R159): A change to GSPn_CFG or GSPn_LO while enabled moves the port's channels to LOST. -/
  | gspCfgWrite (m : Master) (n : Nat) (lo : Bool) (h : Half) (data : Word)
  /-- ACQUISITION_SEARCH_DONE (R164): The acquisition engine completes a frequency-domain search of a satellite. -/
  | acquisitionSearchDone (signal sv : Nat) (found : Bool) (phase : Nat) (doppler : Int)
  /-- CHANNEL_ASSIGN (R168): CP assigns a signal, satellite, code phase and Doppler to an idle channel. -/
  | channelAssign (ch signal sv phase : Nat) (doppler : Int)
  /-- CHANNEL_LOCK (R168): A channel that held lock for 100 ms moves from PULL_IN to TRACK. -/
  | channelLock (ch : Nat)
  /-- PULL_IN_TIMEOUT (R168): A channel without lock after 200 ms moves to LOST. -/
  | pullInTimeout (ch : Nat)
  /-- BIT_SYNC_FOUND (R168): A channel finds bit or secondary-code alignment. -/
  | bitSyncFound (ch : Nat)
  /-- FRAME_SYNC_FOUND (R168): A channel finds frame sync and resolves transmit time. -/
  | frameSyncFound (sync : SyncFound)
  /-- CN0_LOSS (R168): C/N0 below the loss threshold for 500 ms moves a channel to LOST. -/
  | cn0Loss (ch : Nat)
  /-- CHANNEL_RELEASE (R168): CP releases a LOST channel to IDLE. -/
  | channelRelease (ch : Nat)
  /-- MEAS_EPOCH (R170): GNB latches all channel measurements and D0 at a measurement epoch. -/
  | measEpoch (meas : List ChanMeas)
  /-- NAV_UNIT_COMPLETE (R175): A navigation unit is received, checked and written as a record to NAVF and TAPF.
The check is of the bits received: the place of type Unit carries nothing. -/
  | navUnitComplete (ch fmt : Nat) (inverted : Bool) (fail : Unit) (rxc : Nat) (received : List Word) (taken : Nat)
  /-- GNB_TAPF_READ (R179): A read of GNB_TAPF takes the next word of the oldest record. -/
  | gnbTapfRead (m : Master) (h : Half)
  /-- GPPS_SCHEDULE_WRITE (R183): CP writes the GPPS schedule, which GNB accepts, replaces or refuses. -/
  | gppsScheduleWrite (sysSec est sigma mode flags used : Nat)
  /-- GPPS_EDGE (R180): GNB_RXC reaches EDGE_RXC, GNB emits the GPPS edge and delivers the timing message. -/
  | gppsEdge (tdc : List (Nat × Nat × Nat))
  /-- GNB_TMSG_CAPTURE (R186): A read of GNB_TMSG0 captures the four words of the timing message for the requester. -/
  | gnbTmsgCapture (m : Master) (h : Half)
  /-- SOLUTION_LOST_TIMEOUT (R200): No VALID timing message for 2 s makes SOLUTION_LOST live. -/
  | solutionLostTimeout
  /-- SURVEY_DONE (R190): A survey meets its target and sets the held or candidate position. GNB times the survey: the
place of type Unit carries nothing. -/
  | surveyDone (elapsed : Unit) (x y z : Int) (unc : Nat)
  /-- SURVEY_FAILED (R189): A survey reaches its maximum duration without meeting its target. GNB times
the survey: the place of type Unit carries nothing. -/
  | surveyFailed (elapsed : Unit) (unc : Nat)
  /-- HOLD_SUSPECT (R193): Residuals above five times expected for 60 s move the solution from HOLD to NAV. -/
  | holdSuspect
  /-- GNSS_CFG (R197): PT0 sets enabled signals, time system, masks and epoch period. -/
  | gnssCfg (c : Caller) (sigEn tsys elev cn0 span per : Nat)
  /-- GNSS_RESTART (R194): PT0 restarts the receiver cold or hot. -/
  | gnssRestart (c : Caller) (kind : Nat)
  /-- GNSS_SURVEY (R189): PT0 starts a position survey. -/
  | gnssSurvey (c : Caller) (min target max : Nat)
  /-- GNSS_POS_SET (R198): PT0 sets the held position or adopts the candidate. -/
  | gnssPosSet (c : Caller) (cand : Nat) (x y z : Int) (unc : Nat)
  /-- GNSS_POS_CLEAR (R197): PT0 clears the held position. -/
  | gnssPosClear (c : Caller)
  /-- GNSS_TAP (R178): PT0 turns the TAPF copy of navigation records on or off. -/
  | gnssTap (c : Caller) (on : Nat)
  /-- CFD_COMPLIANCE_SAMPLE (R240): Every 100 µs the compliance monitor samples VLOOP and the load and clamps CODE_OUT. -/
  | cfdComplianceSample (vloop vcfd imeas : Nat)
  /-- AOI_OFFLOAD_STEP (R242): Every PER_S seconds RSH moves CODE_CMD by the offload step. -/
  | aoiOffloadStep
  /-- AOI_MON_MEAN (R244): Each second the AOI monitors report means and may raise AOI_ALARM or an unlock. -/
  | aoiMonMean (codes : List Nat)
  /-- AOI_EOL_FIT (R247): Daily RSH fits the AOI ageing trends and reports months to the limit. -/
  | aoiEolFit
  /-- GAIN_CAL_PHASE_END (R250): A 1,000 s step of CFD_GAIN_CAL ends and RSH steps again or writes GAIN. -/
  | gainCalPhaseEnd
  /-- REF_FORCE (R214): PT0 forces or clears the forced candidate. -/
  | refForce (c : Caller) (cand : Nat)
  /-- REF_LOCKOUT (R209): PT0 locks a candidate out or releases it. -/
  | refLockout (c : Caller) (cand on : Nat)
  /-- RSH_OPEN (R235): PT0 opens the loop and hands D0's ports to software. -/
  | rshOpen (c : Caller)
  /-- RSH_CLOSE (R235): PT0 closes the loop with a continuous frequency command. -/
  | rshClose (c : Caller)
  /-- STEER_FREQ (R235): Software writes D0's frequency offset in STEER. -/
  | steerFreq (c : Caller) (foff : Int)
  /-- STEER_PHASE (R235): Software slews D0's phase in STEER. -/
  | steerPhase (c : Caller) (ticks : Int) (unc slewMax : Nat)
  /-- RSH_D0_SEED (R222): PT0 seeds D0 through RSH with a SEED provenance link. -/
  | rshD0Seed (c : Caller) (t : TimeVal) (bound : Nat)
  /-- AOI_STEER (R242): PT0 turns AOI C-field steering on or off. -/
  | aoiSteer (c : Caller) (on : Nat)
  /-- AOI_CFD_SET (R239): PT0 sets the C-field drive code. -/
  | aoiCfdSet (c : Caller) (code : Nat)
  /-- CFD_GAIN_CAL (R250): PT0 starts calibration of the C-field gain. -/
  | cfdGainCal (c : Caller) (step : Int)
  /-- BAND_SEARCH_STEP_END (R260): A 250 µs count of a band-search step ends and the search narrows. -/
  | bandSearchStepEnd (n count : Nat)
  /-- BAND_VERIFY_END (R261): A 16 µs verification count ends and passes or fails the band. -/
  | bandVerifyEnd (n count : Nat)
  /-- LOCK_WAIT_EXPIRE (R266): LOCK_WAIT elapses and the ADPLL is declared LOCKED. -/
  | lockWaitExpire (n : Nat)
  /-- PHASE_MONITOR_COMPARE (R268): Each microsecond the phase monitor compares f_S cycles with the target and may trip. -/
  | phaseMonitorCompare (n count : Nat)
  /-- ALIGN_ERR_COMPUTE (R275): Each microsecond SYN computes ALIGN_ERR and may start an AUTO_ALIGN slew. -/
  | alignErrCompute (n : Nat)
  /-- CLKOUT_SETTING_APPLY (R280): A CLKOUT takes up its new settings at its next rising-edge boundary. -/
  | clkoutSettingApply (o : Nat)
  /-- SYN_CFG (R293): PT0 configures an ADPLL and starts a retune where needed. -/
  | synCfg (c : Caller) (n tf mode refin bw lockWait fl : Nat)
  /-- SYN_PSTEP (R271): PT0 adds a phase step that SYN slews into the ADPLL. -/
  | synPstep (c : Caller) (n : Nat) (ticks : Int)
  /-- SYN_ALIGN (R276): PT0 removes ALIGN_ERR by SLEW or JUMP. -/
  | synAlign (c : Caller) (n method : Nat)
  /-- SYN_MEM_CLEAR (R263): PT0 clears an ADPLL's band memory. -/
  | synMemClear (c : Caller) (n : Nat)
  /-- SYN_OFF (R267): PT0 turns an ADPLL off and squelches its outputs. -/
  | synOff (c : Caller) (n : Nat)
  /-- SYN_EVO_ARM (R290): PT0 arms the two periodic edge alarms of an EVO pulse train. -/
  | synEvoArm (c : Caller) (v dom : Nat) (e0 : TimeVal) (per width pol lateOk : Nat)
  /-- SYN_EVO_DISARM (R294): PT0 cancels an EVO's alarms and drives IDLE_LEVEL. -/
  | synEvoDisarm (c : Caller) (v : Nat)
  /-- ENGINE_ISSUE_CYCLE (R350): Each engine cycle the engine chooses a partition and a ready thread to issue. -/
  | engineIssueCycle (e : Nat)
  /-- ADD (R309): ALU fn 0x0 adds two registers. -/
  | add (t rd ra rb : Nat)
  /-- SUB (R309): ALU fn 0x1 subtracts two registers. -/
  | sub (t rd ra rb : Nat)
  /-- AND (R309): ALU fn 0x2 takes the bitwise AND. -/
  | and (t rd ra rb : Nat)
  /-- OR (R309): ALU fn 0x3 takes the bitwise OR. -/
  | or (t rd ra rb : Nat)
  /-- XOR (R309): ALU fn 0x4 takes the bitwise XOR. -/
  | xor (t rd ra rb : Nat)
  /-- SHL (R309): ALU fn 0x5 shifts left. -/
  | shl (t rd ra rb : Nat)
  /-- SHR (R309): ALU fn 0x6 shifts right logically. -/
  | shr (t rd ra rb : Nat)
  /-- SRA (R309): ALU fn 0x7 shifts right arithmetically. -/
  | sra (t rd ra rb : Nat)
  /-- MUL (R309): ALU fn 0x8 takes the low 64 bits of the product. -/
  | mul (t rd ra rb : Nat)
  /-- MULHU (R309): ALU fn 0x9 takes the high 64 bits of the unsigned product. -/
  | mulhu (t rd ra rb : Nat)
  /-- MULHS (R309): ALU fn 0xa takes the high 64 bits of the signed product. -/
  | mulhs (t rd ra rb : Nat)
  /-- CMP (R309): ALU fn 0xb compares and sets flags only. -/
  | cmp (t ra rb : Nat)
  /-- MIN (R309): ALU fn 0xc takes the signed minimum. -/
  | min (t rd ra rb : Nat)
  /-- MAX (R309): ALU fn 0xd takes the signed maximum. -/
  | max (t rd ra rb : Nat)
  /-- ADDS (R309): ALU fn 0xe adds with saturation. -/
  | adds (t rd ra rb : Nat)
  /-- SUBS (R309): ALU fn 0xf subtracts with saturation. -/
  | subs (t rd ra rb : Nat)
  /-- ADDI (R310): Adds an immediate. -/
  | addi (t rd ra : Nat) (e : Bool) (imm : Nat)
  /-- ANDI (R310): ANDs an immediate. -/
  | andi (t rd ra : Nat) (e : Bool) (imm : Nat)
  /-- ORI (R310): ORs an immediate. -/
  | ori (t rd ra : Nat) (e : Bool) (imm : Nat)
  /-- XORI (R310): XORs an immediate. -/
  | xori (t rd ra : Nat) (e : Bool) (imm : Nat)
  /-- SHI (R310): Shifts by an immediate amount of the selected type. -/
  | shi (t rd ra ty amount : Nat)
  /-- CMPI (R310): Compares with an immediate. -/
  | cmpi (t ra : Nat) (e : Bool) (imm : Nat)
  /-- LI (R310): Loads an immediate. -/
  | li (t rd : Nat) (e : Bool) (imm : Nat)
  /-- LIU (R310): Loads the upper 32 bits of a register. -/
  | liu (t rd : Nat) (e : Bool) (imm : Nat)
  /-- FMUL (R311): Multiplies two Q32.32 values with rounding and saturation. -/
  | fmul (t rd ra rb rm : Nat)
  /-- FMAC (R311): Multiply-accumulates Q32.32 values. -/
  | fmac (t rd ra rb rm : Nat)
  /-- SAT (R311): Limits a value to a symmetric range. -/
  | sat (t rd ra rb : Nat)
  /-- ITOF (R311): FCVT kind 0 converts an integer to Q32.32. -/
  | itof (t rd ra : Nat)
  /-- FTOI (R311): FCVT kind 1 converts Q32.32 to an integer. -/
  | ftoi (t rd ra rm : Nat)
  /-- LD (R324): Issues a 64-bit bus read and waits for the data. -/
  | ld (t rd ra : Nat) (e : Bool) (imm : Nat)
  /-- LDW (R324): Issues a 32-bit bus read and waits for the data. -/
  | ldw (t rd ra : Nat) (e : Bool) (imm : Nat)
  /-- ST (R324): Issues a 64-bit bus write. -/
  | st (t rs ra : Nat) (e : Bool) (imm : Nat)
  /-- STW (R324): Issues a 32-bit bus write. -/
  | stw (t rs ra : Nat) (e : Bool) (imm : Nat)
  /-- TREAD (R312): Captures a domain's time and bound into a time register. -/
  | tread (t tn dom : Nat)
  /-- TSNAP (R312): Captures several domains in one cycle. -/
  | tsnap (t tn count gs : Nat)
  /-- TADD (R315): Adds an interval to a time register. -/
  | tadd (t tn ta gs : Nat) (ns : Bool)
  /-- TSUB (R316): Subtracts two time registers and optionally sums bounds. -/
  | tsub (t gd ta tb : Nat) (wb : Option Nat)
  /-- TCMP (R317): Compares two times or their bound intervals. -/
  | tcmp (t ta tb : Nat) (bnd : Bool)
  /-- TWAIT (R319): Arms the thread's wait slot and parks the thread. -/
  | twait (t tn gd : Nat)
  /-- TEMIT (R321): Arms an alarm from a descriptor, as ALM_ARM. -/
  | temit (t tn gd gs : Nat)
  /-- TGET (R318): Reads one field of a time register. -/
  | tget (t gd tn field : Nat)
  /-- TSET (R318): Writes one field of a time register. -/
  | tset (t tn gs field : Nat)
  /-- QPUT (R329): Writes a word to a message queue, waiting or failing when full. -/
  | qput (t gs q : Nat) (fin nb : Bool)
  /-- QGET (R329): Takes a word from a message queue, waiting or failing when empty. -/
  | qget (t gd q : Nat) (nb : Bool)
  /-- QCNT (R329): Reads the count of whole items in a queue. -/
  | qcnt (t gd q : Nat)
  /-- EBEGIN (R331): Opens the lowest free escrow of the partition. -/
  | ebegin (t gd : Nat)
  /-- EWR (R331): Stages a register write in an escrow. -/
  | ewr (t gd ga gs e : Nat)
  /-- ECOMMIT (R331): Commits an escrow now or arms its commit at an instant. -/
  | ecommit (t gd e : Nat) (at' : Option Nat) (late : Bool)
  /-- EABORT (R331): Discards an escrow and cancels its commit. -/
  | eabort (t gd e : Nat)
  /-- PCMD (R337): Issues a device command from the thread's data SRAM. -/
  | pcmd (t gd ga cmd : Nat)
  /-- KMAC (R339): Computes an AES-CMAC under a vault slot. -/
  | kmac (t gd ga gb : Nat)
  /-- BR (R333): Branches unconditionally. -/
  | br (t : Nat) (e : Bool) (off : Nat)
  /-- BCC (R334): Branches when its condition holds. -/
  | bcc (t cond : Nat) (e : Bool) (off : Nat)
  /-- CALL (R335): Writes the link register and branches. -/
  | call (t gl : Nat) (e : Bool) (off : Nat)
  /-- RET (R335): Sets PC from a register. -/
  | ret (t ga : Nat)
  /-- YIELD (R336): Ends the thread's turn. -/
  | yield (t : Nat)
  /-- HALT (R336): Stops the thread. -/
  | halt (t : Nat)
  /-- TRAP (R336): Raises the exception TRAP with its code. -/
  | trap (t code : Nat)
  /-- ILLEGAL_INSTRUCTION (R306): A reserved opcode or field raises ILLEGAL. -/
  | illegalInstruction (t : Nat)
  /-- THREAD_REPLY_ARRIVE (R355): A reply, capture or status arrives and a waiting thread becomes ready. -/
  | threadReplyArrive (t : Nat)
  /-- QUEUE_WAIT_WAKE (R368): A word or space is assigned to a thread waiting on a queue. -/
  | queueWaitWake (q : Nat)
  /-- YIELD_RELEASE (R355): Every other ready thread has issued once and a yielded thread is ready again. -/
  | yieldRelease (t : Nat)
  /-- ESCROW_IMMEDIATE_COMMIT (R96): An immediate commit is judged and applied in the cycle after acceptance. -/
  | escrowImmediateCommit
  /-- DSQ_SAMPLE_CAPTURE (R380): DSQ captures the named thread at its next issue slot and posts a sample record. -/
  | dsqSampleCapture (t : Nat)
  /-- DRV_LOAD (R344): The loader checks and installs a signed Dravik image. -/
  | drvLoad (c : Caller) (image : List Byte)
  /-- DRV_UNLOAD (R346): The loader removes a loaded image. -/
  | drvUnload (c : Caller) (part codeBase : Nat)
  /-- THR_START (R355): Starts a thread at an entry offset. -/
  | thrStart (c : Caller) (t off : Nat)
  /-- THR_STOP (R355): Stops a thread. -/
  | thrStop (c : Caller) (t : Nat)
  /-- THR_RESUME (R355): Resumes a halted or faulted thread with its registers kept. -/
  | thrResume (c : Caller) (t pc : Nat)
  /-- ESC_BEGIN (R373): Host opens an escrow. -/
  | escBegin (c : Caller)
  /-- ESC_WRITE (R373): Host stages a write in an escrow. -/
  | escWrite (c : Caller) (e addr : Nat) (w : Word)
  /-- ESC_COMMIT (R373): Host commits an escrow now or at an instant. -/
  | escCommit (c : Caller) (e : Nat) (at' : Option (Nat × TimeVal)) (lateOk : Bool)
  /-- ESC_ABORT (R373): Host discards an escrow. -/
  | escAbort (c : Caller) (e : Nat)
  /-- QUEUE_PUSH (R365): A host write of Qq_PUSH writes a word without the end mark. -/
  | queuePush (m : Master) (q : Nat) (h : Half) (data : Word)
  /-- QUEUE_PUSH_END (R365): A host write of Qq_PUSH_END writes a word with the end mark. -/
  | queuePushEnd (m : Master) (q : Nat) (h : Half) (data : Word)
  /-- QUEUE_DATA_READ (R371): A host read of Qq_DATA takes the next word of the oldest item. -/
  | queueDataRead (m : Master) (q : Nat) (h : Half)
  /-- QUEUE_CFG_WRITE (R363): PT0 configures a queue's owner, depth and base, or the write is ignored. -/
  | queueCfgWrite (m : Master) (q : Nat) (h : Half) (data : Word)
  /-- OCT_CFG (R388): PT0 sets the lane and FEC modes of an octet. -/
  | octCfg (c : Caller) (oct : Nat) (lmodes fecs : List Nat)
  /-- PAIR_SET (R417): PT0 joins two ports into a pass-through pair. -/
  | pairSet (c : Caller) (a b dom trailer skipLl xport : Nat)
  /-- PAIR_CLEAR (R425): PT0 stops a pair from forwarding. -/
  | pairClear (c : Caller) (port : Nat)
  /-- EXPORT_SET (R426): PT0 designates the export port. -/
  | exportSet (c : Caller) (port dst etype flush : Nat)
  /-- PORT_SEND (R433): A partition sends a frame on a service port, optionally with insertion or launch. -/
  | portSend (c : Caller) (port queue : Nat) (frame : List Byte) (tsReq : Option Nat) (insert timeOfs corrOfs csumOfs : Nat) (launch : Option TimeVal) (opp : Nat)
  /-- SERVICE_FRAME_RX (R469): A frame arrives on a service port, is stamped and classified for TSV or the slow path. -/
  | serviceFrameRx (port delta : Nat) (frame : List Byte) (bad : Bool)
  /-- PASS_FRAME_RX (R418): A frame begins at a pair's ingress and is stamped, digested and offered for export. -/
  | passFrameRx (port delta : Nat) (frame : List Byte) (bad : Bool) (gap : Nat)
  /-- PASS_FRAME_FORWARD (R418): The frame starts at the egress ball 410 ns after ingress. -/
  | passFrameForward (port : Nat)
  /-- FRAME_TX (R396): A frame starts on the wire, is stamped and may get on-the-fly insertion and a TXTS entry. -/
  | frameTx (port delta : Nat)
  /-- LAUNCH_OPPORTUNITY (R408): A reserved launch opportunity arrives and its frame is sent or discarded. -/
  | launchOpportunity (port delta : Nat)
  /-- DLM_MEASURE (R398): The deterministic-latency monitor measures a lane and writes LANEl_CAL. -/
  | dlmMeasure (lane : Nat) (done : Bool) (rx tx : Int)
  /-- PORT_LINK_UP (R398): A port lane reaches PCS lock and link up. -/
  | portLinkUp (lane : Nat)
  /-- PORT_LINK_DOWN (R435): A port loses its link. -/
  | portLinkDown (lane : Nat)
  /-- TXTS_FIFO_READ (R412): A read of TXTSp_FIFO takes the next word of the oldest entry. -/
  | txtsFifoRead (m : Master) (port : Nat) (h : Half)
  /-- EXPORT_FLUSH (R431): FLUSH elapses and the export frame is closed and queued. -/
  | exportFlush
  /-- SLG_ENABLE (R439): A partition enables the stamp ledger on a pair. -/
  | slgEnable (c : Caller) (port slot hdrLen winUs : Nat)
  /-- SLG_DISABLE (R457): A partition ends the stamp ledger chains of a pair. -/
  | slgDisable (c : Caller) (port : Nat)
  /-- SLG_PAGE_CHECK (R465): The device checks a page's TAG under the seal key. -/
  | slgPageCheck (c : Caller) (page : List Byte)
  /-- PAGE_SEAL (R449): The digest unit seals a closed page and writes it to the page ring. -/
  | pageSeal (port : Nat)
  /-- CHECKPOINT_BUILD (R450): SLG builds, signs and writes a checkpoint of a partition's pages. -/
  | checkpointBuild (part : Nat)
  /-- SLG_RING_ENABLE (R467): Setting EN of a stamp ledger ring zeroes its indexes. -/
  | slgRingEnable (m : Master) (p : Nat) (ckpt : Bool) (h : Half) (data : Word)
  /-- SVC_SET (R468): PT0 defines a service address. -/
  | svcSet (c : Caller) (a part port transport addr : Nat) (tags : List Nat) (ttl : Nat) (ptp ntp nts : Bool) (profile domNum : Nat) (mcast auth twoStep : Bool)
  /-- SVC_CLEAR (R521): PT0 removes a service address. -/
  | svcClear (c : Caller) (a : Nat)
  /-- NTS_KEY_ROLL (R492): A partition rolls the NTS master key of an address. -/
  | ntsKeyRoll (c : Caller) (a slot : Nat) (prevClear : Bool)
  /-- ASSOC_FLUSH (R512): A partition frees the associations of an address. -/
  | assocFlush (c : Caller) (a : Option Nat)
  /-- NTSKE_CFG (R498): PT0 configures NTS-KE for an address. -/
  | ntskeCfg (c : Caller) (a slot cert port : Nat) (records : List Byte)
  /-- XC_ADMIT (R474): TSV admits a claimed request or emission into an XC at an admission slot. -/
  | xcAdmit
  /-- XC_PARSE_DONE (R475): An XC finishes PARSE and moves to KEY or is dropped. -/
  | xcParseDone (x : Nat)
  /-- XC_KEY_DONE (R475): An XC obtains its key material and pins the generation. -/
  | xcKeyDone (i : Nat)
  /-- XC_VERIFY_DONE (R475): An XC is verified and policed and moves to BUILD. -/
  | xcVerifyDone (i opp : Nat)
  /-- XC_BUILD_DONE (R475): An XC's frame is built and handed to NPA. -/
  | xcBuildDone (i : Nat)
  /-- XC_TIMEOUT (R475): An XC's 1 ms timeout expires and it is freed. -/
  | xcTimeout (i : Nat)
  /-- POLICE_DECAY_SWEEP (R518): Each DECAY period the sweep decrements every non-zero police counter. -/
  | policeDecaySweep
  /-- ASSOC_EXPIRE (R512): An association record is freed 60 s after its last grant ends. -/
  | assocExpire (i : Nat)
  /-- NTSKE_HANDSHAKE (R498): CP firmware serves an NTS-KE TLS connection. -/
  | ntskeHandshake (a : Nat) (c2s s2c : List Byte)
  /-- TSV_TABLE_ENABLE (R509): Setting EN of TSV_ASSOC or TSV_POLICE clears and enables its table. -/
  | tsvTableEnable (m : Master) (police : Bool) (h : Half) (data : Word)
  /-- KEY_GEN (R543): KVC generates a key and returns its wrapped blob. -/
  | keyGen (c : Caller) (ty attr gen : Nat)
  /-- KEY_IMPORT (R544): KVC wraps supplied key material into a blob. -/
  | keyImport (c : Caller) (ty attr gen : Nat) (material : List Byte)
  /-- KEY_LOAD (R549): KVC checks a blob and loads it into a slot as the new generation. -/
  | keyLoad (c : Caller) (slot : Nat) (blob : List Byte) (kcv : Nat) (persist : Bool)
  /-- KEY_ERASE (R551): KVC moves a slot to ERASING and zeroises it once pins are released. -/
  | keyErase (c : Caller) (slot : Nat)
  /-- KEY_INFO (R565): KVC returns a slot's record. -/
  | keyInfo (c : Caller) (slot : Nat)
  /-- KVC_SIGN (R565): KVC signs a digest with an ECDSA slot. -/
  | kvcSign (c : Caller) (slot : Nat) (digest : List Byte)
  /-- SLOT_ASSIGN (R546): PT0 assigns a vault slot to a partition. -/
  | slotAssign (c : Caller) (slot part : Nat)
  /-- TAMPER_CFG (R534): PT0 configures the tamper sources. -/
  | tamperCfg (c : Caller) (modes filt en : Nat) (lo hi : Int)
  /-- KVC_SELFTEST (R563): KVC runs its known-answer tests. -/
  | kvcSelftest (c : Caller) (pass : Bool)
  /-- KVC_ZEROISE (R531): PT0 commands zeroisation of the vault. -/
  | kvcZeroise (c : Caller)
  /-- VAULT_PROVISION (R528): PT0 provisions a new vault root with a token. -/
  | vaultProvision (c : Caller) (token : List Byte)
  /-- TAMPER_TRIP (R531): A tamper source trips and KVC zeroises the vault within 2 µs. -/
  | tamperTrip (source : Nat) (supply : Supply)
  /-- ERASE_FORCE_TIMEOUT (R551): At 1 ms after ERASING KVC zeroises the slot whatever pins remain. -/
  | eraseForceTimeout (slot : Nat)
  /-- KEY_CACHE_MISS_DONE (R554): KVC finishes reading, checking and expanding a blob on a cache miss. -/
  | keyCacheMissDone (slot gen : Nat) (blob : List Byte)
  /-- CP_EXPORT_RELEASE (R548): CP firmware reports destruction of an exported key copy and the pin is released. -/
  | cpExportRelease (call : CopyCall) (gen : Nat)
  /-- CACHE_ECC_ERROR (R557): An uncorrectable cache error invalidates a generation or rederives a key. -/
  | cacheEccError (slot : Option Nat) (gen : Nat)
  /-- DRBG_RESEED (R562): The DRBG reseeds after 2^20 requests or 1 s. -/
  | drbgReseed
  /-- RNG_HEALTH_FAIL (R562): A noise source health test fails and RNG_OK clears. -/
  | rngHealthFail
  /-- HRL_ENABLE (R602): PT0 turns HRL on or off. -/
  | hrlEnable (c : Caller) (on : Nat)
  /-- HRL_SEND (R621): PT0 queues a BULK frame. -/
  | hrlSend (c : Caller) (gm : Bool) (payload : List Byte)
  /-- HRL_HANDOVER (R612): GM-A sets HANDOVER so GM-B promotes. -/
  | hrlHandover (c : Caller)
  /-- HRL_QUIET (R614): The steward starts a QUIET vote. -/
  | hrlQuiet (c : Caller)
  /-- HRL_WAKE (R617): A node sends a wake preamble and WAKE at once. -/
  | hrlWake (c : Caller)
  /-- HRL_KEY_SWITCH (R618): HRL schedules the ring key switch at turn T. -/
  | hrlKeySwitch (c : Caller) (turn : Nat)
  /-- HINGE_LINK_CHANGE (R602): A Hinge lane gains or loses LINK. -/
  | hingeLinkChange (e : Nat) (up : Bool) (rx tx : Int)
  /-- TIME_MARK_RX (R592): A TIME_MARK copy arrives; the first valid one starts the turn and yields phase samples. -/
  | timeMarkRx (e delta : Nat) (frame : List Byte) (crcOk : Bool)
  /-- COIN_RX (R595): A COIN arrives, passing holdership and carrying votes. -/
  | coinRx (e : Nat) (frame : List Byte) (crcOk : Bool)
  /-- BULK_RX (R598): A BULK copy arrives and is accepted or discarded by its SEQ. -/
  | bulkRx (e : Nat) (frame : List Byte) (crcOk : Bool)
  /-- ACK_RX (R599): An ACK arrives and releases acknowledged BULK frames. -/
  | ackRx (e : Nat) (frame : List Byte) (crcOk : Bool)
  /-- HEALTH_RX (R589): A HEALTH arrives, updating member state and hop delay measurements. -/
  | healthRx (e delta : Nat) (frame : List Byte) (crcOk : Bool)
  /-- CLAIM_RX (R603): A CLAIM arrives and is recorded, or admits a joining node. -/
  | claimRx (e : Nat) (frame : List Byte) (crcOk : Bool)
  /-- ROSTER_RX (R602): A ROSTER arrives and sets membership, index and roles. -/
  | rosterRx (e : Nat) (frame : List Byte) (crcOk : Bool)
  /-- WAKE_RX (R616): A WAKE arrives and voids or ends QUIET. -/
  | wakeRx (e : Nat) (frame : List Byte) (crcOk : Bool)
  /-- QUIET_RX (R615): A QUIET arrives and sets QUIET_TURN. -/
  | quietRx (e : Nat) (frame : List Byte) (crcOk : Bool)
  /-- FRAME_REPEAT (R579): A received frame is launched on the other lane 600 ns after arrival. -/
  | frameRepeat (e : Nat)
  /-- TURN_START (R586): GM-A's turn ends and the next turn starts. -/
  | turnStart
  /-- TURN_TIMEOUT (R586): No valid mark within 64 cycles after one turn length starts the member's turn. -/
  | turnTimeout
  /-- TIME_MARK_SEND (R582): GM-A or GM-B sends its TIME_MARK at turn offset 0. -/
  | timeMarkSend (deltaE deltaW : Nat)
  /-- HEALTH_SEND (R583): Each member sends its HEALTH at 0.4 µs. -/
  | healthSend (deltaE deltaW : Nat)
  /-- ACK_SEND (R597): Each member sends its ACK at 0.6 µs. -/
  | ackSend
  /-- GM_STREAM_SEND (R609): GM-A and GM-B send grandmaster stream frames at 1.0 µs. -/
  | gmStreamSend
  /-- BULK_SEND (R596): The coin holder sends its own stream frames. -/
  | bulkSend
  /-- COIN_SEND (R595): The coin holder sends the COIN at 9.0 µs. -/
  | coinSend
  /-- BULK_RETRANSMIT (R599): A BULK frame unacknowledged for 4 turns is repeated with REPEAT. -/
  | bulkRetransmit (gm : Bool)
  /-- CLAIM_SEND (R603): Every 1 ms a claiming node sends a CLAIM. -/
  | claimSend
  /-- STEWARD_ELECT (R603): After 36 ms as lowest GM-capable claimant a node becomes steward and mints the coin. -/
  | stewardElect
  /-- COIN_REMINT (R600): The steward mints a new coin after 4 turns without a COIN. -/
  | coinRemint
  /-- MEMBER_REMOVE (R606): The steward removes a member missing HEALTH for 3 turns. -/
  | memberRemove (k : Nat)
  /-- STEWARD_TAKEOVER (R606): With the steward's HEALTH missing for 3 turns the lowest GM-capable member becomes steward. -/
  | stewardTakeover
  /-- GMB_PROMOTE (R611): GM-B promotes itself to GM-A on GM-A's loss, failure or handover. -/
  | gmbPromote
  /-- RING_SILENCE_TIMEOUT (R602): 100 turns without frames of other members or a steward return the node to CLAIMING. -/
  | ringSilenceTimeout
  /-- GMB_SELFTEST (R610): Every 60 s GM-B runs its known-answer and loopback self-tests. -/
  | gmbSelftest (kat loop : Bool)
  /-- HRL_RXF_READ (R601): A read of HRL_RXF takes the next word of the oldest BULK item. -/
  | hrlRxfRead (m : Master) (h : Half)
  /-- PART_RESET (R634): PT0 resets a partition. -/
  | partReset (c : Caller) (p : Nat)
  /-- PARTITION_ENABLE_WRITE (R625): Setting or clearing PAR_PTp_CFG.EN enables a partition or resets and disables it. -/
  | partitionEnableWrite (m : Master) (p : Nat) (h : Half) (data : Word)
  /-- FUNCTION_LEVEL_RESET (R633): An FLR of a function resets its partition or the host state. -/
  | functionLevelReset (f : Nat)
  /-- PERST_ASSERT (R699): PERST# falls and host access stops. -/
  | perstAssert
  /-- PERST_RELEASE (R699): PERST# rises and the endpoint, rings and MSI-X return to reset values. -/
  | perstRelease
  /-- RING_DOORBELL (R645): A write of SQ_PROD submits command entries. -/
  | ringDoorbell (m : Master) (f r : Nat) (h : Half) (data : Word)
  /-- COMMAND_START (R644): A ring fetches and starts its next command, handling repeated CMD_IDs. -/
  | commandStart (f r : Nat) (entry ext : List Byte)
  /-- RING_ENABLE (R645): Setting EN of a ring zeroes its indexes and clears ERR. -/
  | ringEnable (m : Master) (f r : Nat) (h : Half) (data : Word)
  /-- MSIX_UNMASK (R631): Unmasking a vector sends one message for its pending events. -/
  | msixUnmask (f : Nat) (v : Option Nat)
  /-- BUS_WATCHDOG_EXPIRE (R656): After 4,096 cycles the watchdog resets a hung master port. -/
  | busWatchdogExpire (code : Nat) (job : DmaJob) (addr : Nat)
  /-- BLOCK_RESET_REACTION (R666): SUP resets the raising block. -/
  | blockResetReaction (kat : Bool)
  /-- CHIP_RESET_REACTION (R667): SUP performs a warm chip reset or escalates to SAFE. -/
  | chipResetReaction
  /-- FAULT_DEVICE_CLEAR (R663): The PF writes SUP_FSTAT0 to clear device sticky bits. -/
  | faultDeviceClear (m : Master) (h : Half) (data : Word)
  /-- FAULT_PARTITION_CLEAR (R663): A function writes SUP_PFSTATp to clear partition sticky bits. -/
  | faultPartitionClear (m : Master) (p : Nat) (h : Half) (data : Word)
  /-- COLLECTOR_PARITY (R670): A parity error in the collector forces SAFE. -/
  | collectorParity
  /-- LEDGER_ENTRY_WRITE (R675): SUP writes one staged event ledger entry in a cycle. -/
  | ledgerEntryWrite
  /-- SUP_LEDGER_READ (R676): A read of SUP_LEDGER takes the next word of the oldest entry. -/
  | supLedgerRead (m : Master) (h : Half)
  /-- HEARTBEAT_WRITE (R820): The CP writes SUP_HB and restarts the heartbeat limit. -/
  | heartbeatWrite (m : Master) (h : Half) (data : Word)
  /-- HEARTBEAT_EXPIRE (R820): HB_MS passes without a write and CP_HEARTBEAT becomes live. -/
  | heartbeatExpire
  /-- RESET_COUNT_CLEAR (R667): 19,660,800 AON cycles without a reaction reset clear RST_CNT. -/
  | resetCountClear
  /-- TALLY_WINDOW_END (R685): A WINDOW-mode window ends and its sum updates PEAK. -/
  | tallyWindowEnd
  /-- FAULT_INJECT (R694): PT0 injects a one-cycle live fault. -/
  | faultInject (c : Caller) (n p : Nat)
  /-- LEDGER_MARK (R694): A partition writes a MARK entry. -/
  | ledgerMark (c : Caller) (sev : Nat) (data : List Byte)
  /-- COLD_RESET (R697): PORn or PWRGOOD low resets the chip except the VBAT domain. -/
  | coldReset
  /-- WARM_RESET (R698): A warm chip reset clears state except the kept items. -/
  | warmReset
  /-- BOOT_ROM_START (R718): Reset is released, the boot ROM chooses and verifies a slot or halts. -/
  | bootRomStart (flash : Option Flash)
  /-- BOOT_COMPLETE (R720): Boot completes and the device enters CALIBRATE or SEALED. -/
  | bootComplete (rngOk kat : Bool)
  /-- DEV_RESET (R743): PT0 requests a warm reset. -/
  | devReset (c : Caller)
  /-- SERVICE_ENTER (R705): PT0 latches SERVICE. -/
  | serviceEnter (c : Caller)
  /-- SERVICE_EXIT (R705): PT0 clears SERVICE. -/
  | serviceExit (c : Caller)
  /-- SAFE_EXIT (R706): PT0 clears the SAFE latch. -/
  | safeExit (c : Caller)
  /-- FW_BEGIN (R733): PT0 erases the other slot and opens an update. -/
  | fwBegin (c : Caller) (len : Nat)
  /-- FW_WRITE (R734): PT0 writes image data to the update slot. -/
  | fwWrite (c : Caller) (offset : Nat) (data : List Byte)
  /-- FW_VERIFY (R735): The written image is verified. -/
  | fwVerify (c : Caller)
  /-- FW_ACTIVATE (R736): The verified slot becomes PENDING and a warm reset follows. -/
  | fwActivate (c : Caller)
  /-- FW_CONFIRM (R737): The running slot becomes ACTIVE and confirmed. -/
  | fwConfirm (c : Caller) (force : Bool)
  /-- ATTEST_QUOTE (R740): The device signs and returns an attestation quote. -/
  | attestQuote (c : Caller) (nonce : List Byte) (target : Nat)
  /-- ATTEST_HINGE_TIMEOUT (R740): A quote requested over the Hinge ring ends with TIMEOUT after 50 ms. -/
  | attestHingeTimeout
  /-- ATTEST_LOG (R724): CP firmware returns the measurement log. -/
  | attestLog (c : Caller)
  /-- MREG_EXTEND (R723): PT0 extends MREG15. -/
  | mregExtend (c : Caller) (data : List Byte)
  /-- OWNER_CLAIM (R731): A token registers or changes the owner key. -/
  | ownerClaim (c : Caller) (token : List Byte)
  /-- OWNER_LOCK (R731): PT0 sets or clears OWNER_LOCK or CSIG_REQ. -/
  | ownerLock (c : Caller) (act : Nat) (token : List Byte)
  /-- CERT_INSTALL (R744): PT0 installs the identity certificate chain. -/
  | certInstall (c : Caller) (chain : List Byte)
  /-- IMG_KEY_SET (R744): PT0 registers a partition's image key. -/
  | imgKeySet (c : Caller) (part key : Nat) (token : List Byte)
  /-- OSC_STABILITY_COMPARE (R749): At each AON edge an oscillator's stability counter is compared and may prove it. -/
  | oscStabilityCompare (k n : Nat)
  /-- OSC_EDGE_TIMEOUT (R750): No edge within the timeout makes an oscillator unproven. -/
  | oscEdgeTimeout (k : Nat)
  /-- PLL_PROOF_TIMER (R751): A CPLL or DPLL is proven 20 µs after starting a lock. -/
  | pllProofTimer (k : Nat)
  /-- REF_SYS_RETURN (R754): 100 ms after SYSXO is proven again REF_SYS returns to SYSXO. -/
  | refSysReturn
  /-- CLOCK_SOURCE_RELEASE (R762): A switching clock domain is released at the 17th edge of its new source. -/
  | clockSourceRelease (d heldNs : Nat)
  /-- IRC_FALLBACK_TIMEOUT (R758): IRC not proven within 66 AON cycles causes the supervisor's warm reset. -/
  | ircFallbackTimeout
  /-- IRC_RESTART_TIMER (R759): In a held reset the supervisor restarts IRC every 32,768 AON cycles. -/
  | ircRestartTimer
  /-- SYSXO_BOOT_WAIT_END (R759): SYSXO not proven within 10 ms at boot makes REF_SYS IRC. -/
  | sysxoBootWaitEnd
  /-- IRC_TRIM (R761): Every 10 ms PWR trims IRC against the trim source. -/
  | ircTrim (count : Nat)
  /-- PERIPHERAL_ENABLE_WRITE (R763): A write of PWR_EN gates or ungates peripheral clocks. -/
  | peripheralEnableWrite (m : Master) (h : Half) (data : Word)
  /-- FMC_START (R764): Writing START begins a frequency count. -/
  | fmcStart (m : Master) (h : Half) (data : Word)
  /-- FMC_DONE (R764): The gate ends and COUNT holds the result. -/
  | fmcDone (count : Nat)
  /-- FMC_STALL (R764): A clock without edges for 64 AON cycles stalls the count. -/
  | fmcStall
  /-- DVFS_TARGET_WRITE (R766): A write of TARGET changes the effective power level target. -/
  | dvfsTargetWrite (m : Master) (h : Half) (data : Word)
  /-- PMBUS_TRANSACTION_DONE (R769): A PMBus command completes and the sequencer proceeds. -/
  | pmbusTransactionDone (ok : Bool) (value : Nat)
  /-- DVFS_SETTLE_EXPIRE (R766): SETTLE_US elapses and the sequencer reads the voltage. -/
  | dvfsSettleExpire
  /-- DVFS_STEP_TIMEOUT (R767): A level step not done in 5 ms sets FAIL and raises PMBUS_FAULT. -/
  | dvfsStepTimeout
  /-- TEMP_READ (R770): Every 1 ms PWR reads the die sensors and evaluates TJ_WARN and TJ_CRIT. -/
  | tempRead (readings : List Int)
  /-- WEAR_MEASURE (R775): Hourly PWR measures every wear ring oscillator. -/
  | wearMeasure (d : List Nat)
  /-- WEAR_DAILY_FIT (R776): Daily CP firmware fits wear trends into PWR_EOLw. -/
  | wearDailyFit
  /-- EMU_STAT_READ_CLEAR (R13): A read of EMUm_STAT returns and clears LOST. -/
  | emuStatReadClear (m : Master) (emu : Nat) (h : Half)
  /-- GNB_TSTAT_READ_CLEAR (R13): A read of GNB_TSTAT returns and clears its counts. -/
  | gnbTstatReadClear (m : Master) (h : Half)
  /-- GNB_NAV_STAT_READ_CLEAR (R13): A read of GNB_NAV_STAT returns and clears its counts. -/
  | gnbNavStatReadClear (m : Master) (h : Half)
  /-- SYN_STAT_READ_CLEAR (R13): A read of SYNn_STAT returns and clears SEARCHES. -/
  | synStatReadClear (m : Master) (n : Nat) (h : Half)
  /-- EVO_STAT_READ_CLEAR (R13): A read of EVOv_STAT returns and clears its counts. -/
  | evoStatReadClear (m : Master) (v : Nat) (h : Half)
  /-- DSQ_STAT_READ_CLEAR (R13): A read of DSQ_STAT returns and clears its counts. -/
  | dsqStatReadClear (m : Master) (h : Half)
  /-- QUEUE_STAT_READ_CLEAR (R13): A read of Qq_STAT returns and clears DROPPED and ABORTED. -/
  | queueStatReadClear (m : Master) (q : Nat) (h : Half)
  /-- TSV_STAT_READ_CLEAR (R13): A read of TSV_STAT returns and clears XC_PEAK. -/
  | tsvStatReadClear (m : Master) (h : Half)
  /-- TSV_DROP_READ_CLEAR (R13): A read of TSV_DROPp returns and clears its counts. -/
  | tsvDropReadClear (m : Master) (p : Nat) (h : Half)
  /-- TSV_ERR_READ_CLEAR (R13): A read of TSV_ERRp returns and clears its counts. -/
  | tsvErrReadClear (m : Master) (p : Nat) (h : Half)
  /-- KVC_CACHE_STAT_READ_CLEAR (R13): A read of KVC_CACHE_STAT returns and clears its counts. -/
  | kvcCacheStatReadClear (m : Master) (h : Half)
  /-- VS_PINS_READ_CLEAR (R13): A read of VSs_PINS returns and clears FORCED. -/
  | vsPinsReadClear (m : Master) (v : Nat) (h : Half)
  /-- HRL_LTALLY_READ_CLEAR (R619): A read of HRL_LTALLY returns and clears the lane tallies. -/
  | hrlLtallyReadClear (m : Master) (h : Half)
  /-- NODE_TALLY_READ_CLEAR (R619): A read of NODEk_TALLY returns and clears the node tallies. -/
  | nodeTallyReadClear (m : Master) (k : Nat) (h : Half)
  /-- PAR_STAT_READ_CLEAR (R13): A read of PAR_STAT returns and clears ESC_IGN. -/
  | parStatReadClear (m : Master) (h : Half)
  /-- PAR_FN_STAT_READ_CLEAR (R13): A read of PAR_FNf_STAT returns and clears its counts. -/
  | parFnStatReadClear (m : Master) (f : Nat) (h : Half)
  /-- PAR_BUS_CNT_READ_CLEAR (R13): A read of PAR_BUS_CNT returns and clears HUNG. -/
  | parBusCntReadClear (m : Master) (h : Half)
  /-- LEDGER_STAT_READ_CLEAR (R13): A read of SUP_LEDGER_STAT returns and clears its counts. -/
  | ledgerStatReadClear (m : Master) (h : Half)
  /-- FCNT_READ_CLEAR (R662): A read of SUP_FCNTn returns and clears the pulse count. -/
  | fcntReadClear (m : Master) (n : Nat) (h : Half)
  /-- TB_STAT_READ_CLEAR (R686): A read of TBb_STAT returns and clears SMP_SKIP. -/
  | tbStatReadClear (m : Master) (b : Nat) (h : Half)
  /-- TB_PEAK_READ_CLEAR (R685): A read of TBb_PEAKi returns and clears the largest window sum. -/
  | tbPeakReadClear (m : Master) (b i : Nat) (h : Half)
  /-- EXP_STAT_READ_CLEAR (R13): A read of NPA_EXP_STAT returns and clears EXP_LOST. -/
  | expStatReadClear (m : Master) (h : Half)
  /-- SLG_STAT_READ_CLEAR (R13): A read of SLG_STATp returns and clears its counts. -/
  | slgStatReadClear (m : Master) (p : Nat) (h : Half)
  /-- PWR_CLK_CNT_READ_CLEAR (R13): A read of PWR_CLK_CNT returns and clears its counts. -/
  | pwrClkCntReadClear (m : Master) (h : Half)
  /-- PWR_DVFS_READ_CLEAR (R13): A read of PWR_DVFS returns and clears CHANGES. -/
  | pwrDvfsReadClear (m : Master) (h : Half)
  /-- PWR_TEMP_READ_CLEAR (R13): A read of PWR_TEMP returns and clears TJ_PEAK. -/
  | pwrTempReadClear (m : Master) (h : Half)
  /-- RNG_HEALTH_PASS (R562): The continuous health tests of the noise source pass again, RNG_OK returns to 1 and RNG_FAIL ceases to be live. -/
  | rngHealthPass
  /-- KEY_GEN_TIMEOUT (R562): KEY_GEN that has waited 10 ms for a failed generator ends with TIMEOUT. -/
  | keyGenTimeout
  /-- VBAT_WARN (R567): VBAT crosses WARN_MV, making VBAT_WARN live or not live and changing the REFUSED_BATTERY outcome. -/
  | vbatWarn (mv : Nat)
  /-- TAMPER_SOURCE_RELEASE (R535): A tripped tamper source returns to its programmed state, so TAMPER ceases to be live and VAULT_PROVISION is no longer refused with BUSY. -/
  | tamperSourceRelease (source : Nat)
  /-- AON_FAIL (R749): No AON edge arrives for 2^18 cycles of a proven oscillator, and AON_FAIL is set so no oscillator can be newly proven. -/
  | aonFail
  /-- PCIE_ERR (R671): The PCIe link goes down after training, or an uncorrectable error is logged in AER, making FS2 live. -/
  | pcieErr (live : Bool)
  /-- FEC_UNCORR (R435): A lane receives an uncorrectable FEC codeword, raising FEC_UNCORR and counting RX_FEC_UNCORR. -/
  | fecUncorr (lane : Nat)
  /-- WINDOW_DENY (R651): A function's access outside its windows completes at once with Unsupported Request or is dropped, and is counted in DENY. -/
  | windowDeny (f addr : Nat) (write : Bool)
  /-- PARTITION_RESET_COMPLETE (R634): A partition reset finishes its last stage, clears RESETTING, completes the FLR and PART_RESET, and the partition becomes ENABLED or DISABLED. -/
  | partitionResetComplete (p : Nat)
  /-- CHECKBIT_RATE_WINDOW (R671): The one-second window of check-bit errors moves on, and CHECKBIT_RATE becomes live or not live against CB_LIMIT. -/
  | checkbitRateWindow (errors : Nat)
  deriving DecidableEq, Repr

end Sys2Proof
end

