-- ==== Sys2Proof/Machine/Bits.lean ====
section
/-! DEFINITION. Bit fields, signed readings, saturation and rounding: the plain helpers every block uses. -/
namespace Sys2Proof.Machine

/-- A word of ones in bits [hi:lo]. -/
def fieldMask (hi lo : Nat) : Word := (BitVec.allOnes 64 >>> (63 - (hi - lo))) <<< lo

/-- Bits [hi:lo] of a register word, as a number. -/
def bitsOf (w : Word) (hi lo : Nat) : Nat := ((w &&& fieldMask hi lo) >>> lo).toNat

/-- The register word with bits [hi:lo] replaced by the low bits of `v`. -/
def setBits (w : Word) (hi lo v : Nat) : Word :=
  (w &&& ~~~ fieldMask hi lo) ||| ((BitVec.ofNat 64 v <<< lo) &&& fieldMask hi lo)

/-- Bit `n` of a number. -/
def bitOf (v n : Nat) : Bool := (v / 2 ^ n) % 2 == 1

/-- The number with bit `n` set. -/
def withBit (v n : Nat) : Nat := if bitOf v n then v else v + 2 ^ n

/-- The masks of several partitions joined. -/
def orMasks (l : List Nat) : Nat := l.foldl (· ||| ·) 0

/-- The number with bit `n` cleared. -/
def withoutBit (v n : Nat) : Nat := if bitOf v n then v - 2 ^ n else v

/-- A width-`w` field read as two's complement. -/
def signedOf (w v : Nat) : Int :=
  if v % 2 ^ w < 2 ^ (w - 1) then Int.ofNat (v % 2 ^ w) else Int.ofNat (v % 2 ^ w) - Int.ofNat (2 ^ w)

/-- The width-`w` two's complement code of an integer. -/
def codeOf (w : Nat) (x : Int) : Nat := (x % Int.ofNat (2 ^ w)).toNat

/-- `x` held within [lo, hi]. -/
def clampInt (lo hi x : Int) : Int := if x < lo then lo else if hi < x then hi else x

/-- `x` held within [lo, hi]. -/
def clampNat (lo hi x : Nat) : Nat := if x < lo then lo else if hi < x then hi else x

/-- Saturation to a signed `w`-bit number. -/
def satInt (w : Nat) (x : Int) : Int := clampInt (-(Int.ofNat (2 ^ (w - 1)))) (Int.ofNat (2 ^ (w - 1)) - 1) x

/-- Saturation to an unsigned `w`-bit number. -/
def satNat (w x : Nat) : Nat := if x < 2 ^ w then x else 2 ^ w - 1

/-- ceil(a / b), with the quotient by zero read as zero. -/
def ceilDiv (a b : Nat) : Nat := (a + b - 1) / b

/-- Rounding a quotient to the nearest, half away from zero (R814, RN of R303). -/
def roundDiv (a : Int) (b : Nat) : Int :=
  let m := (2 * a.natAbs + b) / (2 * b)
  if a < 0 then -(Int.ofNat m) else Int.ofNat m

/-- Quotient rounded away from zero. -/
def awayDiv (a : Int) (b : Nat) : Int :=
  let m := ceilDiv a.natAbs b
  if a < 0 then -(Int.ofNat m) else Int.ofNat m

/-- Integer square root, rounded down, by bits from `fuel` − 1 downwards. -/
def isqrtBits : Nat → Nat → Nat → Nat
  | 0, _, r => r
  | f + 1, n, r => let c := r + 2 ^ f; if c * c ≤ n then isqrtBits f n c else isqrtBits f n r

/-- Integer square root of a number below 2^128, rounded down. -/
def isqrt (n : Nat) : Nat := isqrtBits 64 n 0

/-- `n` bytes of a number, most significant first (R12). -/
def beBytes (n v : Nat) : List Byte := (List.range n).map fun i => BitVec.ofNat 8 (v / 2 ^ (8 * (n - 1 - i)))

/-- The number that big-endian bytes hold (R12). -/
def beNat (l : List Byte) : Nat := l.foldl (fun a b => a * 256 + b.toNat) 0

/-- The 64-bit words of a list of bytes, big-endian, the last one padded with zeros; `fuel` bounds their number. -/
def wordsOf : Nat → List Byte → List Word
  | 0, _ => []
  | _, [] => []
  | f + 1, l => BitVec.ofNat 64 (beNat ((l.take 8 ++ List.replicate 8 0#8).take 8)) :: wordsOf f (l.drop 8)

/-- The partitions of a bit mask, in rising order. -/
def maskList (n mask : Nat) : List Nat := (List.range n).filter fun i => bitOf mask i

/-- Serial arithmetic modulo 2^32: `a` is later than `b` (R576). -/
def laterSerial (w a b : Nat) : Bool :=
  let d := (a + 2 ^ w - b % 2 ^ w) % 2 ^ w
  decide (0 < d) && decide (d < 2 ^ (w - 1))

end Sys2Proof.Machine
end

