-- ==== Sys2Proof/Machine/RegMap.lean ====
section
/-! DEFINITION. The register map: every register table of the spec as an identifier (`RegId`) with its bus address,
strides, reset word and the access codes of its fields (R13; a field not listed is RO or reserved). -/
namespace Sys2Proof.Machine

/-- Access codes of R13; RO fields and reserved fields carry none. -/
inductive Acc | rw | rwe | w1c | wo | rc
  deriving DecidableEq, Repr

/-- A register, or a family of registers of one table (indices i and j). -/
inductive RegId
  | tseUtc -- TSE_UTC (02)
  | tseLeapAt -- TSE_LEAP_AT (02)
  | tseStepLimit -- TSE_STEP_LIMIT (02)
  | tseAlmQuota -- TSE_ALM_QUOTA_p (02)
  | domTimeSec -- DOMn_TIME_SEC (02)
  | domTimeSub -- DOMn_TIME_SUB (02)
  | domBound -- DOMn_BOUND (02)
  | domState -- DOMn_STATE (02)
  | domProv -- DOMn_PROV (02)
  | domUtc -- DOMn_UTC (02)
  | domFoff -- DOMn_FOFF (02)
  | domSlewRem -- DOMn_SLEW_REM (02)
  | domSlewMax -- DOMn_SLEW_MAX (02)
  | domBcSrc -- DOMn_BC_SRC, DOMn_BC_REF, DOMn_BC_SERVO (02)
  | domBcRef -- DOMn_BC_SRC, DOMn_BC_REF, DOMn_BC_SERVO (02)
  | domBcServo -- DOMn_BC_SRC, DOMn_BC_REF, DOMn_BC_SERVO (02)
  | domBcBook -- DOMn_BC_BOOK and DOMn_BOOK_UNC (02)
  | domBookUnc -- DOMn_BC_BOOK and DOMn_BOOK_UNC (02)
  | domHoldDfu -- DOMn_HOLD_DFU, DOMn_HOLD_AGE, DOMn_HOLD_TC (02)
  | domHoldAge -- DOMn_HOLD_DFU, DOMn_HOLD_AGE, DOMn_HOLD_TC (02)
  | domHoldTc -- DOMn_HOLD_DFU, DOMn_HOLD_AGE, DOMn_HOLD_TC (02)
  | domHoldTint -- DOMn_HOLD_TINT, DOMn_HOLD_T, DOMn_HOLD_B0 (02)
  | domHoldT -- DOMn_HOLD_TINT, DOMn_HOLD_T, DOMn_HOLD_B0 (02)
  | domHoldB0 -- DOMn_HOLD_TINT, DOMn_HOLD_T, DOMn_HOLD_B0 (02)
  | almCtl -- ALMs_CTL (02)
  | almInstSec -- ALMs_INST_SEC and ALMs_INST_SUB (02)
  | almInstSub -- ALMs_INST_SEC and ALMs_INST_SUB (02)
  | almPeriod -- ALMs_PERIOD (02)
  | almStat -- ALMs_STAT (02)
  | almLateness -- ALMs_LATENESS (02)
  | rimCtl -- RIM_CTL (03)
  | rimAoiIn -- RIM_AOI_IN (03)
  | rimTemp -- RIM_TEMP (03)
  | inCfg -- INn_CFG (03)
  | inNom -- INn_NOM (03)
  | inDelay -- INn_DELAY (03)
  | inAllow -- INn_ALLOW (03)
  | inSrcBound -- INn_SRC_BOUND (03)
  | inAct -- INn_ACT (03)
  | inFmLim -- INn_FM_LIM (03)
  | inFmGate -- INn_FM_GATE (03)
  | inStat -- INn_STAT (03)
  | inFmDf -- INn_FM_DF (03)
  | inFuseDly -- INn_FUSE_DLY (03)
  | emuCfg -- EMUm_CFG (03)
  | emuSlots -- EMUm_SLOTS (03)
  | emuStat -- EMUm_STAT (03)
  | emuResid -- EMUm_RESID (03)
  | emuFifo -- EMUm_FIFO (03)
  | emuFifoCnt -- EMUm_FIFO_CNT (03)
  | tdcBin -- TDCt_BINb (03)
  | tdcPhase -- TDCt_PHASEp (03)
  | tdcStat -- TDCt_STAT (03)
  | tdcResid -- TDCt_RESID (03)
  | gnbCtl -- GNB_CTL (04)
  | gnbRxc -- GNB_RXC (04)
  | gnbCfg -- GNB_CFG (04)
  | gnbTsysUnc -- GNB_TSYS_UNC (04)
  | gnbSigStat -- GNB_SIG_STAT (04)
  | gspCfg -- GSPn_CFG (04)
  | gspLo -- GSPn_LO (04)
  | gspDelay -- GSPn_DELAY and GSPn_ALLOW (04)
  | gspAllow -- GSPn_DELAY and GSPn_ALLOW (04)
  | gspLevel -- GSPn_LEVEL (04)
  | gnbTmsg -- GNB_TMSG0 to GNB_TMSG3 (04)
  | gnbTstat -- GNB_TSTAT (04)
  | gnbSurvey -- GNB_SURVEY (04)
  | gnbPos -- GNB_POS_X, GNB_POS_Y, GNB_POS_Z, GNB_CAND_X, GNB_CAND_Y, GNB_CAND_Z (04)
  | gnbPosUnc -- GNB_POS_UNC (04)
  | gnbTapf -- GNB_TAPF (04)
  | gnbTapfCnt -- GNB_TAPF_CNT (04)
  | gnbNavStat -- GNB_NAV_STAT (04)
  | chStat -- CHc_STAT (04)
  | rshCfg -- RSH_CFG (05)
  | rshStat -- RSH_STAT (05)
  | rshServoKp -- RSH_SERVO_KP and RSH_SERVO_KI (05)
  | rshServoKi -- RSH_SERVO_KP and RSH_SERVO_KI (05)
  | rshServoI -- RSH_SERVO_I, RSH_SERVO_E (05)
  | rshServoF -- RSH_SERVO_F (05)
  | rshServoE -- RSH_SERVO_I, RSH_SERVO_E (05)
  | rshServoFloor -- RSH_SERVO_FLOOR (05)
  | rshSwSlew -- RSH_SW_SLEW (05)
  | rshHoldCfg -- RSH_HOLD_CFG (05)
  | rshLearnCfg -- RSH_LEARN_CFG (05)
  | rshHoldLimit -- RSH_HOLD_LIMIT (05)
  | rshModelFtol -- RSH_MODELm_FTOL, _DFU, _AGE, _TC, _DFU_SAT (05)
  | rshModelDfu -- RSH_MODELm_FTOL, _DFU, _AGE, _TC, _DFU_SAT (05)
  | rshModelAge -- RSH_MODELm_FTOL, _DFU, _AGE, _TC, _DFU_SAT (05)
  | rshModelTc -- RSH_MODELm_FTOL, _DFU, _AGE, _TC, _DFU_SAT (05)
  | rshModelDfuSat -- RSH_MODELm_FTOL, _DFU, _AGE, _TC, _DFU_SAT (05)
  | rshLearnFavg -- RSH_LEARN_FAVG and RSH_LEARN_AAVG (05)
  | rshLearnAavg -- RSH_LEARN_FAVG and RSH_LEARN_AAVG (05)
  | rshLearnTref -- RSH_LEARN_TREF (05)
  | rshTemp -- RSH_TEMP (05)
  | refCfg -- REFc_CFG (05)
  | refStat -- REFc_STAT (05)
  | refPhase -- REFc_PHASE, REFc_CBOUND, REFc_FBOUND (05)
  | refCbound -- REFc_PHASE, REFc_CBOUND, REFc_FBOUND (05)
  | refFbound -- REFc_PHASE, REFc_CBOUND, REFc_FBOUND (05)
  | aoiCfdCtl -- AOI_CFD_CTL (05)
  | aoiCfdStat -- AOI_CFD_STAT (05)
  | aoiCfdGain -- AOI_CFD_GAIN (05)
  | aoiCfdLim -- AOI_CFD_LIM (05)
  | aoiCfdLoad -- AOI_CFD_LOAD (05)
  | aoiOffload -- AOI_OFFLOAD (05)
  | aoiMon -- AOI_MONk and AOI_MONk_LIM (05)
  | aoiMonLim -- AOI_MONk and AOI_MONk_LIM (05)
  | aoiTempCal -- AOI_TEMP_CAL (05)
  | aoiEol -- AOI_EOLk (05)
  | synCfg -- SYNn_CFG (06)
  | synFreq -- SYNn_FREQ (06)
  | synLimits -- SYNn_LIMITS (06)
  | synPhaseOfs -- SYNn_PHASE_OFS, SYNn_PSTEP_REM, SYNn_ALIGN_ERR (06)
  | synPstepRem -- SYNn_PHASE_OFS, SYNn_PSTEP_REM, SYNn_ALIGN_ERR (06)
  | synAlignPer -- SYNn_ALIGN_PER (06)
  | synAlignErr -- SYNn_PHASE_OFS, SYNn_PSTEP_REM, SYNn_ALIGN_ERR (06)
  | synStat -- SYNn_STAT (06)
  | synPmon -- SYNn_PMON (06)
  | synMemCfg -- SYNn_MEM_CFG (06)
  | synMemKey -- SYNn_MEMe_KEY and SYNn_MEMe_VAL (06)
  | synMemVal -- SYNn_MEMe_KEY and SYNn_MEMe_VAL (06)
  | outCfg -- OUTo_CFG (06)
  | outDiv -- OUTo_DIV (06)
  | outStat -- OUTo_STAT (06)
  | evoCfg -- EVOv_CFG (06)
  | evoDelay -- EVOv_DELAY (06)
  | evoFuse -- EVOv_FUSE (06)
  | evoStat -- EVOv_STAT (06)
  | evoSlots -- EVOv_SLOTS (06)
  | dsqCseq -- DSQ_CSEQ (08)
  | dsqStat -- DSQ_STAT (08)
  | dsqIwin -- DSQ_IWIN_p (07)
  | dsqDwin -- DSQ_DWIN_p (07)
  | dsqShare -- DSQ_SHARE_p (08)
  | dsqNotify -- DSQ_NOTIFY_p (08)
  | thrCfg -- THRt_CFG (08)
  | thrStat -- THRt_STAT (08)
  | thrExc -- THRt_EXC and THRt_EXC_DATA (08)
  | thrExcData -- THRt_EXC and THRt_EXC_DATA (08)
  | thrG -- THRt_Gr (08)
  | qCfg -- Qq_CFG (08)
  | qPtr -- Qq_PTR (08)
  | qCnt -- Qq_CNT (08)
  | qStat -- Qq_STAT (08)
  | qData -- Qq_DATA, Qq_PUSH, Qq_PUSH_END (08)
  | qPush -- Qq_DATA, Qq_PUSH, Qq_PUSH_END (08)
  | qPushEnd -- Qq_DATA, Qq_PUSH, Qq_PUSH_END (08)
  | escStat -- ESCk_STAT (08)
  | escSeq -- ESCk_SEQ and ESCk_LAST (08)
  | escLast -- ESCk_SEQ and ESCk_LAST (08)
  | octCfg -- OCTq_CFG (09)
  | laneCal -- LANEl_CAL (09)
  | laneStat -- LANEl_STAT (09)
  | portCfg -- PORTp_CFG (09)
  | portRxDelay -- PORTp_RX_DELAY and PORTp_TX_DELAY (09)
  | portTxDelay -- PORTp_RX_DELAY and PORTp_TX_DELAY (09)
  | portAllow -- PORTp_ALLOW (09)
  | portStat -- PORTp_STAT (09)
  | portHalf -- PORTp_HALF (09)
  | pairCfg -- PAIRp_CFG (09)
  | portCnt -- PORTp_CNTi and PORTp_SHDi (09)
  | portShd -- PORTp_CNTi and PORTp_SHDi (09)
  | txtsFifo -- TXTSp_FIFO (09)
  | txtsCnt -- TXTSp_CNT (09)
  | npaExpCfg -- NPA_EXP_CFG (09)
  | npaExpRate -- NPA_EXP_RATE (09)
  | npaExpDst -- NPA_EXP_DST (09)
  | npaExpStat -- NPA_EXP_STAT (09)
  | npaProbe -- NPA_PROBE (09)
  | slgCfg -- SLGl_CFG (10)
  | slgStat -- SLGl_STAT (10)
  | slgKcv -- SLGl_KCV (10)
  | slgPringBase -- SLG_PRINGp_BASE and SLG_CRINGp_BASE (10)
  | slgPringCfg -- SLG_PRINGp_CFG and SLG_CRINGp_CFG (10)
  | slgPringIdx -- SLG_PRINGp_IDX and SLG_CRINGp_IDX (10)
  | slgCringBase -- SLG_PRINGp_BASE and SLG_CRINGp_BASE (10)
  | slgCringCfg -- SLG_PRINGp_CFG and SLG_CRINGp_CFG (10)
  | slgCringIdx -- SLG_PRINGp_IDX and SLG_CRINGp_IDX (10)
  | slgPStat -- SLG_STATp (10)
  | slgCseq -- SLG_CSEQp (10)
  | tsvCfg -- TSV_CFG (11)
  | tsvStat -- TSV_STAT (11)
  | tsvAssoc -- TSV_ASSOC (11)
  | tsvPolice -- TSV_POLICE (11)
  | tsvRefts -- TSV_REFTS (11)
  | tsvShare -- TSV_SHAREp (11)
  | tsvGrant -- TSV_GRANTp (11)
  | tsvDrop -- TSV_DROPp (11)
  | tsvErr -- TSV_ERRp (11)
  | svcCfg -- SVCa_CFG (11)
  | svcAddrHi -- SVCa_ADDR_HI and SVCa_ADDR_LO (11)
  | svcAddrLo -- SVCa_ADDR_HI and SVCa_ADDR_LO (11)
  | svcTag -- SVCa_TAG (11)
  | svcPtp -- SVCa_PTP (11)
  | svcHoldSpec -- SVCa_HOLD_SPEC (11)
  | svcPqual -- SVCa_PQUAL and SVCa_POSLV (11)
  | svcPoslv -- SVCa_PQUAL and SVCa_POSLV (11)
  | svcNtp -- SVCa_NTP (11)
  | svcKeys -- SVCa_KEYS (11)
  | svcCnt -- SVCa_CNTi (11)
  | kvcStat -- KVC_STAT (12)
  | kvcImportOk -- KVC_IMPORT_OK (12)
  | kvcTamperCfg -- KVC_TAMPER_CFG (12)
  | kvcTempLim -- KVC_TEMP_LIM (12)
  | kvcTamperCause -- KVC_TAMPER_CAUSE (12)
  | kvcVbat -- KVC_VBAT (12)
  | kvcBlobBase -- KVC_BLOB_BASE (12)
  | kvcCacheStat -- KVC_CACHE_STAT (12)
  | kvcCacheUse -- KVC_CACHE_USE (12)
  | kvcNonce -- KVC_NONCE (12)
  | kvcShare -- KVC_SHAREp (12)
  | vsCfg -- VSs_CFG (12)
  | vsGen -- VSs_GEN (12)
  | vsKcv -- VSs_KCV (12)
  | vsPins -- VSs_PINS (12)
  | hrlCfg -- HRL_CFG (13)
  | hrlStat -- HRL_STAT (13)
  | hrlMisc -- HRL_MISC (13)
  | hrlKey -- HRL_KEY (13)
  | hrlDist -- HRL_DIST (13)
  | hrlRkp -- HRL_RKP and HRL_RKI (13)
  | hrlRki -- HRL_RKP and HRL_RKI (13)
  | hrlRservo -- HRL_RSERVO (13)
  | hrlTx -- HRL_TX (13)
  | hrlRxf -- HRL_RXF and HRL_RXF_CNT (13)
  | hrlRxfCnt -- HRL_RXF and HRL_RXF_CNT (13)
  | hrlLtally -- HRL_LTALLY (13)
  | hLaneStat -- LANEe_STAT (13)
  | hLaneNbr -- LANEe_NBR (13)
  | hLaneDelay -- LANEe_DELAY and LANEe_ALLOW (13)
  | hLaneAsym -- LANEe_ASYM (13)
  | hLaneAllow -- LANEe_DELAY and LANEe_ALLOW (13)
  | nodeId -- NODEk_ID (13)
  | nodeStat -- NODEk_STAT (13)
  | nodeHop -- NODEk_HOP (13)
  | nodeTally -- NODEk_TALLY (13)
  | hrlRdom -- HRL_RDOMd (13)
  | parStat -- PAR_STAT (14)
  | parPtCfg -- PAR_PTp_CFG (14)
  | parDram -- PAR_DRAMp (14)
  | parBusHung -- PAR_BUS_HUNG (14)
  | parBusCnt -- PAR_BUS_CNT (14)
  | parFnCfg -- PAR_FNf_CFG (14)
  | parFnStat -- PAR_FNf_STAT (14)
  | ringSqBase -- RINGr_SQ_BASE and RINGr_CQ_BASE (14)
  | ringCqBase -- RINGr_SQ_BASE and RINGr_CQ_BASE (14)
  | ringCfg -- RINGr_CFG (14)
  | ringSqIdx -- RINGr_SQ_IDX (14)
  | ringCqIdx -- RINGr_CQ_IDX (14)
  | supFstat0 -- SUP_FSTAT0 (15)
  | supFstat1 -- SUP_FSTAT1 (15)
  | supCtl -- SUP_CTL (15)
  | supHb -- SUP_HB (15)
  | supAon -- SUP_AON (15)
  | supLedger -- SUP_LEDGER (15)
  | supLedgerCnt -- SUP_LEDGER_CNT (15)
  | supLedgerStat -- SUP_LEDGER_STAT (15)
  | supLq -- SUP_LQp (15)
  | supReact -- SUP_REACTn (15)
  | supFcnt -- SUP_FCNTn (15)
  | supPfstat -- SUP_PFSTATp and SUP_PFLIVEp (15)
  | supPflive -- SUP_PFSTATp and SUP_PFLIVEp (15)
  | supSnapCtl -- SUP_SNAPp_CTL (15)
  | supSnapSec -- SUP_SNAPp_SEC, SUP_SNAPp_SUB, SUP_SNAPp_LATE (15)
  | supSnapSub -- SUP_SNAPp_SEC, SUP_SNAPp_SUB, SUP_SNAPp_LATE (15)
  | supSnapLate -- SUP_SNAPp_SEC, SUP_SNAPp_SUB, SUP_SNAPp_LATE (15)
  | supBseq -- SUP_BSEQb (15)
  | tbCfg -- TBb_CFG (15)
  | tbStat -- TBb_STAT (15)
  | tbCtl -- TBb_CTLi (15)
  | tbCnt -- TBb_CNTi, TBb_SHDi, TBb_PEAKi (15)
  | tbShd -- TBb_CNTi, TBb_SHDi, TBb_PEAKi (15)
  | tbPeak -- TBb_CNTi, TBb_SHDi, TBb_PEAKi (15)
  | cpxMode -- CPX_MODE (16)
  | cpxBoot -- CPX_BOOT (16)
  | cpxImg -- CPX_IMGs (16)
  | cpxOwner -- CPX_OWNER (16)
  | cpxUpd -- CPX_UPD (16)
  | cpxMreg -- CPX_MREGi_Wk (16)
  | pwrClkStat -- PWR_CLK_STAT (17)
  | pwrClkCfg -- PWR_CLK_CFG (17)
  | pwrClkCnt -- PWR_CLK_CNT (17)
  | pwrIrc -- PWR_IRC (17)
  | pwrEn -- PWR_EN (17)
  | pwrFmcCtl -- PWR_FMC_CTL (17)
  | pwrFmcRes -- PWR_FMC_RES (17)
  | pwrDvfs -- PWR_DVFS (17)
  | pwrPmbCfg -- PWR_PMB_CFG (17)
  | pwrPmbVcode -- PWR_PMB_VCODE (17)
  | pwrTherm -- PWR_THERM (17)
  | pwrTemp -- PWR_TEMP (17)
  | pwrWearCfg -- PWR_WEAR_CFG (17)
  | pwrStress -- PWR_STRESS (17)
  | pwrWear -- PWR_WEARw (17)
  | pwrEol -- PWR_EOLw (17)
  deriving DecidableEq, Repr

/-- What the spec's table says of a register family: the bus address of index (i, j) is base + si·i + sj·j. -/
structure RegInfo where
  base : Nat
  si : Nat := 0
  ni : Nat := 1
  sj : Nat := 0
  nj : Nat := 1
  /-- the reset word -/
  rst : Nat := 0
  /-- reset words of single indices i that differ -/
  ovr : List (Nat × Nat) := []
  /-- fields with an access code: (hi, lo, code) -/
  fields : List (Nat × Nat × Acc) := []
  deriving DecidableEq, Repr

/-- A field of a register family. -/
structure Field where
  reg : RegId
  hi : Nat
  lo : Nat
  deriving DecidableEq, Repr

/-- The register tables of the spec. -/
def regInfo : RegId → RegInfo
  | .tseUtc => { base := 0x100010, fields := [(15, 0, .rw)] }
  | .tseLeapAt => { base := 0x100018 }
  | .tseStepLimit => { base := 0x100020, rst := 0x4000000, fields := [(63, 0, .rw)] }
  | .tseAlmQuota => { base := 0x100040, si := 0x8, ni := 8, ovr := [(0, 0x1000)], fields := [(12, 0, .rw)] }
  | .domTimeSec => { base := 0x101000, si := 0x100, ni := 32 }
  | .domTimeSub => { base := 0x101008, si := 0x100, ni := 32 }
  | .domBound => { base := 0x101010, si := 0x100, ni := 32, rst := 0xffffffffffffffff }
  | .domState => { base := 0x101018, si := 0x100, ni := 32, rst := 0xc00, ovr := [(0, 0xc11)], fields := [(12, 12, .w1c)] }
  | .domProv => { base := 0x101020, si := 0x100, ni := 32 }
  | .domUtc => { base := 0x101028, si := 0x100, ni := 32 }
  | .domFoff => { base := 0x101038, si := 0x100, ni := 32, fields := [(47, 0, .rwe)] }
  | .domSlewRem => { base := 0x101040, si := 0x100, ni := 32 }
  | .domSlewMax => { base := 0x101048, si := 0x100, ni := 32, rst := 0x44b82fa, fields := [(46, 0, .rwe)] }
  | .domBcSrc => { base := 0x101050, si := 0x100, ni := 32, fields := [(63, 0, .rw)] }
  | .domBcRef => { base := 0x101058, si := 0x100, ni := 32, fields := [(63, 0, .rw)] }
  | .domBcServo => { base := 0x101060, si := 0x100, ni := 32, fields := [(63, 0, .rw)] }
  | .domBcBook => { base := 0x101068, si := 0x100, ni := 32 }
  | .domBookUnc => { base := 0x101070, si := 0x100, ni := 32 }
  | .domHoldDfu => { base := 0x101078, si := 0x100, ni := 32, fields := [(63, 0, .rwe)] }
  | .domHoldAge => { base := 0x101080, si := 0x100, ni := 32, fields := [(63, 0, .rwe)] }
  | .domHoldTc => { base := 0x101088, si := 0x100, ni := 32, fields := [(63, 0, .rwe)] }
  | .domHoldTint => { base := 0x101090, si := 0x100, ni := 32 }
  | .domHoldT => { base := 0x101098, si := 0x100, ni := 32 }
  | .domHoldB0 => { base := 0x1010a0, si := 0x100, ni := 32 }
  | .almCtl => { base := 0x110000, si := 0x40, ni := 4096 }
  | .almInstSec => { base := 0x110008, si := 0x40, ni := 4096 }
  | .almInstSub => { base := 0x110010, si := 0x40, ni := 4096 }
  | .almPeriod => { base := 0x110018, si := 0x40, ni := 4096 }
  | .almStat => { base := 0x110020, si := 0x40, ni := 4096 }
  | .almLateness => { base := 0x110028, si := 0x40, ni := 4096 }
  | .rimCtl => { base := 0x200000, rst := 0x2, fields := [(1, 1, .rw)] }
  | .rimAoiIn => { base := 0x200018 }
  | .rimTemp => { base := 0x200020 }
  | .inCfg => { base := 0x201000, si := 0x80, ni := 24, fields := [(31, 31, .rwe), (27, 25, .rwe), (24, 24, .rwe), (21, 20, .rwe), (19, 18, .rwe), (17, 17, .rwe), (15, 14, .rwe), (9, 0, .rwe)] }
  | .inNom => { base := 0x201008, si := 0x80, ni := 24, fields := [(47, 0, .rwe)] }
  | .inDelay => { base := 0x201010, si := 0x80, ni := 24, fields := [(63, 0, .rwe)] }
  | .inAllow => { base := 0x201018, si := 0x80, ni := 24, fields := [(63, 0, .rwe)] }
  | .inSrcBound => { base := 0x201020, si := 0x80, ni := 24, rst := 0xffffffffffffffff, fields := [(63, 0, .rwe)] }
  | .inAct => { base := 0x201028, si := 0x80, ni := 24, rst := 0x3e80000020a, fields := [(47, 32, .rwe), (15, 8, .rwe), (7, 0, .rwe)] }
  | .inFmLim => { base := 0x201030, si := 0x80, ni := 24, rst := 0x1676000012110, fields := [(63, 32, .rwe), (31, 0, .rwe)] }
  | .inFmGate => { base := 0x201038, si := 0x80, ni := 24, rst := 0xa00000064, fields := [(47, 32, .rwe), (15, 0, .rwe)] }
  | .inStat => { base := 0x201040, si := 0x80, ni := 24, fields := [(7, 7, .w1c), (6, 6, .w1c), (5, 5, .w1c)] }
  | .inFmDf => { base := 0x201048, si := 0x80, ni := 24 }
  | .inFuseDly => { base := 0x201050, si := 0x80, ni := 24 }
  | .emuCfg => { base := 0x204000, si := 0x100, ni := 32 }
  | .emuSlots => { base := 0x204008, si := 0x100, ni := 32 }
  | .emuStat => { base := 0x204010, si := 0x100, ni := 32, fields := [(63, 32, .rc)] }
  | .emuResid => { base := 0x204018, si := 0x100, ni := 32, rst := 0xffffffffffffffff }
  | .emuFifo => { base := 0x204020, si := 0x100, ni := 32 }
  | .emuFifoCnt => { base := 0x204028, si := 0x100, ni := 32 }
  | .tdcBin => { base := 0x208000, si := 0x1000, ni := 64, sj := 0x8, nj := 256 }
  | .tdcPhase => { base := 0x208800, si := 0x1000, ni := 64, sj := 0x8, nj := 8 }
  | .tdcStat => { base := 0x208840, si := 0x1000, ni := 64, rst := 0x4 }
  | .tdcResid => { base := 0x208848, si := 0x1000, ni := 64, rst := 0xffffffffffffffff }
  | .gnbCtl => { base := 0x300000 }
  | .gnbRxc => { base := 0x300008 }
  | .gnbCfg => { base := 0x300010, rst := 0xa1e000003ff }
  | .gnbTsysUnc => { base := 0x300018, fields := [(63, 0, .rw)] }
  | .gnbSigStat => { base := 0x300020 }
  | .gspCfg => { base := 0x300100, si := 0x40, ni := 2, fields := [(12, 8, .rw), (7, 6, .rw), (5, 5, .rw), (4, 4, .rw), (3, 3, .rw), (0, 0, .rw)] }
  | .gspLo => { base := 0x300108, si := 0x40, ni := 2, fields := [(47, 0, .rw)] }
  | .gspDelay => { base := 0x300110, si := 0x40, ni := 2, fields := [(63, 0, .rw)] }
  | .gspAllow => { base := 0x300118, si := 0x40, ni := 2, fields := [(63, 0, .rw)] }
  | .gspLevel => { base := 0x300120, si := 0x40, ni := 2 }
  | .gnbTmsg => { base := 0x300200, si := 0x8, ni := 4 }
  | .gnbTstat => { base := 0x300220, fields := [(63, 48, .rc), (47, 32, .rc), (31, 16, .rc)] }
  | .gnbSurvey => { base := 0x300300 }
  | .gnbPos => { base := 0x300308, si := 0x8, ni := 6 }
  | .gnbPosUnc => { base := 0x300338 }
  | .gnbTapf => { base := 0x300400 }
  | .gnbTapfCnt => { base := 0x300408 }
  | .gnbNavStat => { base := 0x300410, fields := [(63, 32, .rc), (31, 0, .rc)] }
  | .chStat => { base := 0x300800, si := 0x8, ni := 192 }
  | .rshCfg => { base := 0x400000, rst := 0x12c006203e80002, fields := [(63, 48, .rwe), (44, 40, .rwe), (39, 36, .rwe), (35, 32, .rwe), (31, 16, .rwe), (1, 1, .rwe)] }
  | .rshStat => { base := 0x400008, rst := 0x1f0000 }
  | .rshServoKp => { base := 0x400010, rst := 0x51eb852, fields := [(63, 0, .rwe)] }
  | .rshServoKi => { base := 0x400018, rst := 0x68db9, fields := [(63, 0, .rwe)] }
  | .rshServoI => { base := 0x400020 }
  | .rshServoF => { base := 0x400028 }
  | .rshServoE => { base := 0x400030 }
  | .rshServoFloor => { base := 0x400038, rst := 0x33334, fields := [(63, 0, .rwe)] }
  | .rshSwSlew => { base := 0x400040, rst := 0x44b82fa, fields := [(46, 0, .rwe)] }
  | .rshHoldCfg => { base := 0x400048, rst := 0x93a8000015180, fields := [(63, 32, .rwe), (31, 0, .rwe)] }
  | .rshLearnCfg => { base := 0x400050, rst := 0x384000000e10, fields := [(63, 32, .rwe), (31, 0, .rwe)] }
  | .rshHoldLimit => { base := 0x400058, rst := 0x7ff00000000, fields := [(63, 0, .rwe)] }
  | .rshModelFtol => { base := 0x400100, si := 0x40, ni := 2, fields := [(63, 0, .rwe)] }
  | .rshModelDfu => { base := 0x400108, si := 0x40, ni := 2, fields := [(63, 0, .rwe)] }
  | .rshModelAge => { base := 0x400110, si := 0x40, ni := 2, fields := [(63, 0, .rwe)] }
  | .rshModelTc => { base := 0x400118, si := 0x40, ni := 2, fields := [(63, 0, .rwe)] }
  | .rshModelDfuSat => { base := 0x400120, si := 0x40, ni := 2, fields := [(63, 0, .rwe)] }
  | .rshLearnFavg => { base := 0x400200 }
  | .rshLearnAavg => { base := 0x400208 }
  | .rshLearnTref => { base := 0x400210 }
  | .rshTemp => { base := 0x400220, fields := [(63, 63, .rwe)] }
  | .refCfg => { base := 0x401000, si := 0x40, ni := 26, rst := 0xa0800, ovr := [(24, 0x801), (25, 0x801)], fields := [(31, 16, .rwe), (11, 8, .rwe), (1, 1, .rwe), (0, 0, .rwe)] }
  | .refStat => { base := 0x401008, si := 0x40, ni := 26, fields := [(10, 10, .w1c), (9, 9, .w1c), (8, 8, .w1c)] }
  | .refPhase => { base := 0x401010, si := 0x40, ni := 26 }
  | .refCbound => { base := 0x401018, si := 0x40, ni := 26, rst := 0xffffffffffffffff }
  | .refFbound => { base := 0x401020, si := 0x40, ni := 26, fields := [(63, 0, .rwe)] }
  | .aoiCfdCtl => { base := 0x402000, fields := [(0, 0, .rw)] }
  | .aoiCfdStat => { base := 0x402008 }
  | .aoiCfdGain => { base := 0x402010, fields := [(63, 0, .rwe)] }
  | .aoiCfdLim => { base := 0x402018, rst := 0x1000000104b0, fields := [(55, 32, .rwe), (31, 16, .rwe)] }
  | .aoiCfdLoad => { base := 0x402020, rst := 0x3e800000000, fields := [(47, 32, .rwe)] }
  | .aoiOffload => { base := 0x402028, rst := 0x2710, fields := [(31, 0, .rwe)] }
  | .aoiMon => { base := 0x402100, si := 0x10, ni := 4 }
  | .aoiMonLim => { base := 0x402108, si := 0x10, ni := 4, rst := 0xffff0000, fields := [(31, 16, .rw), (15, 0, .rw)] }
  | .aoiTempCal => { base := 0x402140, fields := [(63, 32, .rwe), (31, 0, .rwe)] }
  | .aoiEol => { base := 0x402180, si := 0x8, ni := 3, rst := 0xffffffff }
  | .synCfg => { base := 0x501000, si := 0x200, ni := 8, rst := 0x13880040000200, ovr := [(0, 0x13880040000203)], fields := [(31, 31, .rwe), (30, 30, .rwe)] }
  | .synFreq => { base := 0x501008, si := 0x200, ni := 8, rst := 0x4a817c80000000 }
  | .synLimits => { base := 0x501010, si := 0x200, ni := 8, rst := 0x30d4000002710, fields := [(63, 32, .rwe), (31, 0, .rwe)] }
  | .synPhaseOfs => { base := 0x501018, si := 0x200, ni := 8 }
  | .synPstepRem => { base := 0x501020, si := 0x200, ni := 8 }
  | .synAlignPer => { base := 0x501028, si := 0x200, ni := 8, rst := 0x1900000, fields := [(63, 0, .rwe)] }
  | .synAlignErr => { base := 0x501030, si := 0x200, ni := 8 }
  | .synStat => { base := 0x501038, si := 0x200, ni := 8, fields := [(63, 48, .rc), (10, 10, .w1c)] }
  | .synPmon => { base := 0x501040, si := 0x200, ni := 8, rst := 0x400000000, fields := [(63, 32, .rwe)] }
  | .synMemCfg => { base := 0x501048, si := 0x200, ni := 8, rst := 0x140, fields := [(15, 0, .rwe)] }
  | .synMemKey => { base := 0x501100, si := 0x200, ni := 8, sj := 0x10, nj := 16 }
  | .synMemVal => { base := 0x501108, si := 0x200, ni := 8, sj := 0x10, nj := 16 }
  | .outCfg => { base := 0x503000, si := 0x20, ni := 24, fields := [(15, 13, .rwe), (12, 12, .rwe), (11, 11, .rwe), (10, 10, .rwe), (9, 8, .rwe), (6, 4, .rwe), (0, 0, .rwe)] }
  | .outDiv => { base := 0x503008, si := 0x20, ni := 24, rst := 0x8, fields := [(63, 40, .rwe), (31, 0, .rwe)] }
  | .outStat => { base := 0x503010, si := 0x20, ni := 24 }
  | .evoCfg => { base := 0x504000, si := 0x40, ni := 8, fields := [(9, 8, .rwe), (2, 2, .rwe), (1, 1, .rwe), (0, 0, .rwe)] }
  | .evoDelay => { base := 0x504008, si := 0x40, ni := 8, fields := [(63, 0, .rwe)] }
  | .evoFuse => { base := 0x504010, si := 0x40, ni := 8 }
  | .evoStat => { base := 0x504018, si := 0x40, ni := 8, fields := [(63, 48, .rc), (47, 32, .rc), (31, 16, .rc)] }
  | .evoSlots => { base := 0x504020, si := 0x40, ni := 8 }
  | .dsqCseq => { base := 0x600008 }
  | .dsqStat => { base := 0x600010, fields := [(63, 32, .rc), (31, 0, .rc)] }
  | .dsqIwin => { base := 0x600100, si := 0x10, ni := 8, ovr := [(0, 0x2000000)], fields := [(25, 16, .rw), (8, 0, .rw)] }
  | .dsqDwin => { base := 0x600108, si := 0x10, ni := 8, ovr := [(0, 0x1000000)], fields := [(24, 16, .rw), (7, 0, .rw)] }
  | .dsqShare => { base := 0x600200, si := 0x10, ni := 8, rst := 0x10, ovr := [(0, 0x2010)], fields := [(16, 8, .rw), (7, 0, .rw)] }
  | .dsqNotify => { base := 0x600208, si := 0x10, ni := 8, fields := [(26, 26, .rw), (25, 18, .rw), (17, 17, .rw), (16, 9, .rw), (8, 8, .rw), (7, 0, .rw)] }
  | .thrCfg => { base := 0x610000, si := 0x200, ni := 128, fields := [(2, 0, .rw)] }
  | .thrStat => { base := 0x610008, si := 0x200, ni := 128 }
  | .thrExc => { base := 0x610010, si := 0x200, ni := 128 }
  | .thrExcData => { base := 0x610018, si := 0x200, ni := 128 }
  | .thrG => { base := 0x610100, si := 0x200, ni := 128, sj := 0x8, nj := 32 }
  | .qCfg => { base := 0x620000, si := 0x40, ni := 256, fields := [(31, 31, .rw), (26, 24, .rw), (23, 20, .rw), (14, 0, .rw)] }
  | .qPtr => { base := 0x620008, si := 0x40, ni := 256 }
  | .qCnt => { base := 0x620010, si := 0x40, ni := 256 }
  | .qStat => { base := 0x620018, si := 0x40, ni := 256, fields := [(63, 32, .rc), (31, 16, .rc)] }
  | .qData => { base := 0x620020, si := 0x40, ni := 256 }
  | .qPush => { base := 0x620028, si := 0x40, ni := 256, fields := [(63, 0, .wo)] }
  | .qPushEnd => { base := 0x620030, si := 0x40, ni := 256, fields := [(63, 0, .wo)] }
  | .escStat => { base := 0x630000, si := 0x20, ni := 32 }
  | .escSeq => { base := 0x630008, si := 0x20, ni := 32 }
  | .escLast => { base := 0x630010, si := 0x20, ni := 32 }
  | .octCfg => { base := 0x1008000, si := 0x100000, ni := 8 }
  | .laneCal => { base := 0x1000000, si := 0x20000, ni := 64 }
  | .laneStat => { base := 0x1000008, si := 0x20000, ni := 64, fields := [(3, 3, .w1c)] }
  | .portCfg => { base := 0x1001000, si := 0x20000, ni := 64, rst := 0x5ee, fields := [(50, 40, .rwe), (34, 32, .rwe), (31, 31, .rwe), (20, 16, .rwe), (13, 0, .rwe)] }
  | .portRxDelay => { base := 0x1001008, si := 0x20000, ni := 64, fields := [(63, 0, .rwe)] }
  | .portTxDelay => { base := 0x1001010, si := 0x20000, ni := 64, fields := [(63, 0, .rwe)] }
  | .portAllow => { base := 0x1001018, si := 0x20000, ni := 64, fields := [(63, 0, .rwe)] }
  | .portStat => { base := 0x1001020, si := 0x20000, ni := 64, fields := [(4, 4, .w1c)] }
  | .portHalf => { base := 0x1001028, si := 0x20000, ni := 64, fields := [(63, 0, .w1c)] }
  | .pairCfg => { base := 0x1001040, si := 0x20000, ni := 64, rst := 0x4, fields := [(2, 2, .rwe)] }
  | .portCnt => { base := 0x1002000, si := 0x20000, ni := 64, sj := 0x8, nj := 64 }
  | .portShd => { base := 0x1002200, si := 0x20000, ni := 64, sj := 0x8, nj := 64 }
  | .txtsFifo => { base := 0x1003000, si := 0x20000, ni := 64 }
  | .txtsCnt => { base := 0x1003008, si := 0x20000, ni := 64 }
  | .npaExpCfg => { base := 0x100c000, rst := 0x88b5000000000064 }
  | .npaExpRate => { base := 0x100c008, rst := 0x100000000000, fields := [(44, 32, .rw)] }
  | .npaExpDst => { base := 0x100c010 }
  | .npaExpStat => { base := 0x100c018, fields := [(63, 32, .rc)] }
  | .npaProbe => { base := 0x100c020, rst := 0x88b6, fields := [(15, 0, .rw)] }
  | .slgCfg => { base := 0x1004000, si := 0x20000, ni := 64 }
  | .slgStat => { base := 0x1004008, si := 0x20000, ni := 64, rst := 0x2 }
  | .slgKcv => { base := 0x1004010, si := 0x20000, ni := 64 }
  | .slgPringBase => { base := 0x100c100, si := 0x40, ni := 8, fields := [(63, 12, .rw)] }
  | .slgPringCfg => { base := 0x100c108, si := 0x40, ni := 8, fields := [(26, 16, .rw), (5, 1, .rw), (0, 0, .rw)] }
  | .slgPringIdx => { base := 0x100c110, si := 0x40, ni := 8, fields := [(31, 0, .rw)] }
  | .slgCringBase => { base := 0x100c118, si := 0x40, ni := 8, fields := [(63, 12, .rw)] }
  | .slgCringCfg => { base := 0x100c120, si := 0x40, ni := 8, fields := [(26, 16, .rw), (5, 1, .rw), (0, 0, .rw)] }
  | .slgCringIdx => { base := 0x100c128, si := 0x40, ni := 8, fields := [(31, 0, .rw)] }
  | .slgPStat => { base := 0x100c130, si := 0x40, ni := 8, fields := [(63, 32, .rc), (31, 0, .rc)] }
  | .slgCseq => { base := 0x100c138, si := 0x40, ni := 8 }
  | .tsvCfg => { base := 0x700000, rst := 0x3e80064, fields := [(63, 48, .rw), (47, 32, .rw), (31, 16, .rw), (15, 0, .rw)] }
  | .tsvStat => { base := 0x700008, fields := [(45, 32, .rc)] }
  | .tsvAssoc => { base := 0x700010, rst := 0x16, fields := [(47, 20, .rw), (7, 7, .rw), (4, 0, .rw)] }
  | .tsvPolice => { base := 0x700018, rst := 0x6414, fields := [(47, 20, .rw), (15, 8, .rw), (7, 7, .rw), (4, 0, .rw)] }
  | .tsvRefts => { base := 0x700020 }
  | .tsvShare => { base := 0x700100, si := 0x20, ni := 8, rst := 0x2000000000000010, ovr := [(0, 0x2000000000800010)], fields := [(61, 48, .rw), (45, 32, .rw), (26, 16, .rw), (7, 0, .rw)] }
  | .tsvGrant => { base := 0x700108, si := 0x20, ni := 8, rst := 0x5f5e100, fields := [(31, 0, .rw)] }
  | .tsvDrop => { base := 0x700110, si := 0x20, ni := 8, fields := [(63, 32, .rc), (31, 0, .rc)] }
  | .tsvErr => { base := 0x700118, si := 0x20, ni := 8, fields := [(31, 16, .rc), (15, 0, .rc)] }
  | .svcCfg => { base := 0x701000, si := 0x80, ni := 64, rst := 0x40, fields := [(20, 20, .rwe)] }
  | .svcAddrHi => { base := 0x701008, si := 0x80, ni := 64 }
  | .svcAddrLo => { base := 0x701010, si := 0x80, ni := 64 }
  | .svcTag => { base := 0x701018, si := 0x80, ni := 64 }
  | .svcPtp => { base := 0x701020, si := 0x80, ni := 64, rst := 0x8080f9fd012c0000, fields := [(63, 56, .rwe), (55, 48, .rwe), (47, 40, .rwe), (39, 32, .rwe), (31, 16, .rwe)] }
  | .svcHoldSpec => { base := 0x701028, si := 0x80, ni := 64, rst := 0xfa00000, fields := [(63, 0, .rwe)] }
  | .svcPqual => { base := 0x701030, si := 0x80, ni := 64, rst := 0x62107218cfef8fe, fields := [(63, 48, .rwe), (47, 32, .rwe), (31, 16, .rwe), (15, 0, .rwe)] }
  | .svcPoslv => { base := 0x701038, si := 0x80, ni := 64, rst := 0x4e5d4e5dffffffff, fields := [(63, 48, .rwe), (47, 32, .rwe), (31, 16, .rwe), (15, 0, .rwe)] }
  | .svcNtp => { base := 0x701040, si := 0x80, ni := 64, rst := 0xe204118f0002a300, fields := [(63, 56, .rwe), (55, 48, .rwe), (47, 40, .rwe), (39, 36, .rwe), (35, 32, .rwe), (31, 0, .rwe)] }
  | .svcKeys => { base := 0x701048, si := 0x80, ni := 64, fields := [(47, 40, .rwe), (39, 32, .rwe), (9, 8, .rwe)] }
  | .svcCnt => { base := 0x701050, si := 0x80, ni := 64, sj := 0x8, nj := 6 }
  | .kvcStat => { base := 0x800000 }
  | .kvcImportOk => { base := 0x800008, fields := [(7, 0, .rw)] }
  | .kvcTamperCfg => { base := 0x800010, rst := 0x10700 }
  | .kvcTempLim => { base := 0x800018, rst := 0x7d0fe20 }
  | .kvcTamperCause => { base := 0x800020 }
  | .kvcVbat => { base := 0x800028, rst := 0xa2800000000, fields := [(47, 32, .rw)] }
  | .kvcBlobBase => { base := 0x800030, fields := [(47, 16, .rw), (0, 0, .rw)] }
  | .kvcCacheStat => { base := 0x800038, fields := [(63, 32, .rc), (31, 16, .rc), (15, 0, .rc)] }
  | .kvcCacheUse => { base := 0x800040 }
  | .kvcNonce => { base := 0x800048 }
  | .kvcShare => { base := 0x800100, si := 0x8, ni := 8, rst := 0x10, ovr := [(0, 0x800010)], fields := [(26, 16, .rw), (7, 0, .rw)] }
  | .vsCfg => { base := 0x801000, si := 0x20, ni := 256 }
  | .vsGen => { base := 0x801008, si := 0x20, ni := 256 }
  | .vsKcv => { base := 0x801010, si := 0x20, ni := 256 }
  | .vsPins => { base := 0x801018, si := 0x20, ni := 256, fields := [(63, 60, .rc)] }
  | .hrlCfg => { base := 0x900000, rst := 0x80000000000, fields := [(63, 48, .rwe), (43, 40, .rwe), (39, 32, .rwe), (18, 18, .rwe), (17, 17, .rwe), (16, 16, .rwe), (15, 8, .rwe), (1, 1, .rwe)] }
  | .hrlStat => { base := 0x900008, rst := 0xfffff060 }
  | .hrlMisc => { base := 0x900010 }
  | .hrlKey => { base := 0x900018 }
  | .hrlDist => { base := 0x900020, fields := [(38, 36, .rwe), (34, 0, .rwe)] }
  | .hrlRkp => { base := 0x900028, rst := 0x51eb852, fields := [(63, 0, .rwe)] }
  | .hrlRki => { base := 0x900030, rst := 0xa7c6, fields := [(63, 0, .rwe)] }
  | .hrlRservo => { base := 0x900038, rst := 0x64, fields := [(15, 0, .rwe)] }
  | .hrlTx => { base := 0x900040, rst := 0x100000000 }
  | .hrlRxf => { base := 0x900048 }
  | .hrlRxfCnt => { base := 0x900050 }
  | .hrlLtally => { base := 0x900058, fields := [(31, 16, .rc), (15, 0, .rc)] }
  | .hLaneStat => { base := 0x900100, si := 0x40, ni := 2, fields := [(7, 7, .w1c)] }
  | .hLaneNbr => { base := 0x900108, si := 0x40, ni := 2 }
  | .hLaneDelay => { base := 0x900110, si := 0x40, ni := 2 }
  | .hLaneAsym => { base := 0x900118, si := 0x40, ni := 2, rst := 0x40000, fields := [(63, 0, .rwe)] }
  | .hLaneAllow => { base := 0x900120, si := 0x40, ni := 2 }
  | .nodeId => { base := 0x901000, si := 0x20, ni := 16 }
  | .nodeStat => { base := 0x901008, si := 0x20, ni := 16 }
  | .nodeHop => { base := 0x901010, si := 0x20, ni := 16 }
  | .nodeTally => { base := 0x901018, si := 0x20, ni := 16, fields := [(11, 8, .rc), (7, 4, .rc), (3, 0, .rc)] }
  | .hrlRdom => { base := 0x902000, si := 0x8, ni := 32, fields := [(7, 7, .rwe), (4, 0, .rwe)] }
  | .parStat => { base := 0xc00000, rst := 0x1, fields := [(63, 32, .rc)] }
  | .parPtCfg => { base := 0xc00100, si := 0x10, ni := 8, ovr := [(0, 0x1)], fields := [(0, 0, .rwe)] }
  | .parDram => { base := 0xc00108, si := 0x10, ni := 8, rst := 0x10, ovr := [(0, 0x800010)], fields := [(26, 16, .rwe), (7, 0, .rwe)] }
  | .parBusHung => { base := 0xc00800 }
  | .parBusCnt => { base := 0xc00808, fields := [(31, 0, .rc)] }
  | .parFnCfg => { base := 0xc10000, si := 0x1000, ni := 9, ovr := [(0, 0x8), (2, 0x1), (3, 0x2), (4, 0x3), (5, 0x4), (6, 0x5), (7, 0x6), (8, 0x7)], fields := [(26, 16, .rw)] }
  | .parFnStat => { base := 0xc10008, si := 0x1000, ni := 9, fields := [(63, 32, .rc), (31, 16, .rc), (15, 0, .rc)] }
  | .ringSqBase => { base := 0xc10100, si := 0x1000, ni := 9, sj := 0x40, nj := 4, fields := [(63, 12, .rw)] }
  | .ringCqBase => { base := 0xc10108, si := 0x1000, ni := 9, sj := 0x40, nj := 4, fields := [(63, 12, .rw)] }
  | .ringCfg => { base := 0xc10110, si := 0x1000, ni := 9, sj := 0x40, nj := 4, fields := [(26, 16, .rw), (11, 8, .rw), (1, 1, .w1c), (0, 0, .rw)] }
  | .ringSqIdx => { base := 0xc10118, si := 0x1000, ni := 9, sj := 0x40, nj := 4, fields := [(31, 0, .rw)] }
  | .ringCqIdx => { base := 0xc10120, si := 0x1000, ni := 9, sj := 0x40, nj := 4, fields := [(31, 0, .rw)] }
  | .supFstat0 => { base := 0xa00000, fields := [(63, 0, .w1c)] }
  | .supFstat1 => { base := 0xa00008 }
  | .supCtl => { base := 0xa00010, rst := 0x3e8006400000000, fields := [(63, 48, .rw), (47, 32, .rw), (3, 3, .rw)] }
  | .supHb => { base := 0xa00018, fields := [(63, 0, .wo)] }
  | .supAon => { base := 0xa00020, fields := [(1, 1, .w1c), (0, 0, .w1c)] }
  | .supLedger => { base := 0xa00040 }
  | .supLedgerCnt => { base := 0xa00048 }
  | .supLedgerStat => { base := 0xa00050, fields := [(63, 32, .rc), (31, 0, .rc)] }
  | .supLq => { base := 0xa00080, si := 0x8, ni := 8, fields := [(9, 9, .rw), (7, 0, .rw)] }
  | .supReact => { base := 0xa00200, si := 0x8, ni := 64, ovr := [(0, 17), (1, 1), (2, 2), (3, 1), (4, 17), (5, 17), (6, 17), (7, 1), (8, 65), (9, 1), (10, 1), (11, 1), (12, 65), (13, 65), (14, 1), (15, 1), (16, 17), (17, 1), (18, 1), (19, 1), (20, 65), (21, 81), (22, 1), (23, 1), (24, 1), (25, 1), (26, 1), (27, 1), (28, 65), (29, 17), (30, 65), (31, 1), (32, 1), (33, 1), (34, 1), (35, 1), (36, 1), (37, 1), (38, 1), (39, 1), (40, 1), (41, 81), (42, 81), (43, 1), (44, 65), (45, 17), (46, 1), (47, 65), (48, 17), (49, 17), (50, 1), (51, 152), (52, 3), (53, 17), (54, 1), (55, 176), (56, 3), (57, 3), (58, 3), (59, 1), (60, 144), (61, 144), (62, 1), (63, 1)], fields := [(5, 5, .rw), (4, 4, .rw), (3, 3, .rw), (2, 2, .rw), (1, 1, .rw), (0, 0, .rw)] }
  | .supFcnt => { base := 0xa00400, si := 0x8, ni := 64, fields := [(15, 0, .rc)] }
  | .supPfstat => { base := 0xa00800, si := 0x10, ni := 8, fields := [(63, 0, .w1c)] }
  | .supPflive => { base := 0xa00808, si := 0x10, ni := 8 }
  | .supSnapCtl => { base := 0xa00900, si := 0x20, ni := 8 }
  | .supSnapSec => { base := 0xa00908, si := 0x20, ni := 8 }
  | .supSnapSub => { base := 0xa00910, si := 0x20, ni := 8 }
  | .supSnapLate => { base := 0xa00918, si := 0x20, ni := 8 }
  | .supBseq => { base := 0xa00c00, si := 0x8, ni := 256 }
  | .tbCfg => { base := 0xa10000, si := 0x200, ni := 64, fields := [(50, 40, .rw), (34, 32, .rw), (6, 0, .rw)] }
  | .tbStat => { base := 0xa10008, si := 0x200, ni := 64, fields := [(63, 32, .rc), (7, 0, .w1c)] }
  | .tbCtl => { base := 0xa10040, si := 0x200, ni := 64, sj := 0x8, nj := 8, fields := [(63, 63, .rw), (62, 61, .rw), (60, 60, .rw), (59, 55, .rw), (47, 24, .rw), (23, 16, .rw), (15, 8, .rw), (7, 0, .rw)] }
  | .tbCnt => { base := 0xa10080, si := 0x200, ni := 64, sj := 0x8, nj := 8, fields := [(47, 0, .rw)] }
  | .tbShd => { base := 0xa100c0, si := 0x200, ni := 64, sj := 0x8, nj := 8 }
  | .tbPeak => { base := 0xa10100, si := 0x200, ni := 64, sj := 0x8, nj := 8, fields := [(47, 0, .rc)] }
  | .cpxMode => { base := 0x0 }
  | .cpxBoot => { base := 0x8 }
  | .cpxImg => { base := 0x10, si := 0x8, ni := 2 }
  | .cpxOwner => { base := 0x20 }
  | .cpxUpd => { base := 0x28 }
  | .cpxMreg => { base := 0x100, si := 0x40, ni := 16, sj := 0x8, nj := 6 }
  | .pwrClkStat => { base := 0xb00000 }
  | .pwrClkCfg => { base := 0xb00008, rst := 0x1, fields := [(1, 1, .rw), (0, 0, .rw)] }
  | .pwrClkCnt => { base := 0xb00010, fields := [(63, 48, .rc), (47, 32, .rc), (31, 16, .rc), (15, 0, .rc)] }
  | .pwrIrc => { base := 0xb00018, rst := 0x200, fields := [(10, 10, .rw), (9, 0, .rw)] }
  | .pwrEn => { base := 0xb00020, rst := 0xfb0ffff, fields := [(27, 27, .rw), (26, 26, .rw), (25, 25, .rw), (24, 24, .rw), (23, 23, .rw), (21, 20, .rw), (15, 8, .rw), (7, 0, .rw)] }
  | .pwrFmcCtl => { base := 0xb00028, fields := [(63, 63, .wo), (52, 48, .rw), (44, 40, .rw), (36, 32, .rw)] }
  | .pwrFmcRes => { base := 0xb00030 }
  | .pwrDvfs => { base := 0xb00040, rst := 0x2011, fields := [(31, 16, .rc), (13, 12, .rw), (1, 0, .rw)] }
  | .pwrPmbCfg => { base := 0xb00048, rst := 0x6400000040, fields := [(47, 32, .rw), (17, 17, .rw), (16, 16, .rw), (6, 0, .rw)] }
  | .pwrPmbVcode => { base := 0xb00050, rst := 0xd9a0ccd0b850a66, fields := [(63, 48, .rw), (47, 32, .rw), (31, 16, .rw), (15, 0, .rw)] }
  | .pwrTherm => { base := 0xb00060, rst := 0x73006400050, fields := [(47, 32, .rw), (31, 16, .rw), (15, 0, .rw)] }
  | .pwrTemp => { base := 0xb00068, fields := [(31, 16, .rc)] }
  | .pwrWearCfg => { base := 0xb00100, rst := 0xc, fields := [(15, 0, .rw)] }
  | .pwrStress => { base := 0xb00108 }
  | .pwrWear => { base := 0xb00200, si := 0x10, ni := 17 }
  | .pwrEol => { base := 0xb00208, si := 0x10, ni := 17, rst := 0xffffffff }

/-- Every register of the map. -/
def regIds0 : List RegId :=
  [.tseUtc, .tseLeapAt, .tseStepLimit, .tseAlmQuota, .domTimeSec, .domTimeSub, .domBound, .domState, .domProv, .domUtc, .domFoff, .domSlewRem, .domSlewMax, .domBcSrc, .domBcRef, .domBcServo, .domBcBook, .domBookUnc, .domHoldDfu, .domHoldAge, .domHoldTc, .domHoldTint, .domHoldT, .domHoldB0, .almCtl, .almInstSec, .almInstSub, .almPeriod, .almStat, .almLateness, .rimCtl, .rimAoiIn, .rimTemp, .inCfg, .inNom, .inDelay, .inAllow, .inSrcBound, .inAct, .inFmLim, .inFmGate, .inStat, .inFmDf, .inFuseDly, .emuCfg, .emuSlots, .emuStat, .emuResid, .emuFifo, .emuFifoCnt, .tdcBin, .tdcPhase, .tdcStat, .tdcResid, .gnbCtl, .gnbRxc, .gnbCfg, .gnbTsysUnc, .gnbSigStat, .gspCfg]
def regIds1 : List RegId :=
  [.gspLo, .gspDelay, .gspAllow, .gspLevel, .gnbTmsg, .gnbTstat, .gnbSurvey, .gnbPos, .gnbPosUnc, .gnbTapf, .gnbTapfCnt, .gnbNavStat, .chStat, .rshCfg, .rshStat, .rshServoKp, .rshServoKi, .rshServoI, .rshServoF, .rshServoE, .rshServoFloor, .rshSwSlew, .rshHoldCfg, .rshLearnCfg, .rshHoldLimit, .rshModelFtol, .rshModelDfu, .rshModelAge, .rshModelTc, .rshModelDfuSat, .rshLearnFavg, .rshLearnAavg, .rshLearnTref, .rshTemp, .refCfg, .refStat, .refPhase, .refCbound, .refFbound, .aoiCfdCtl, .aoiCfdStat, .aoiCfdGain, .aoiCfdLim, .aoiCfdLoad, .aoiOffload, .aoiMon, .aoiMonLim, .aoiTempCal, .aoiEol, .synCfg, .synFreq, .synLimits, .synPhaseOfs, .synPstepRem, .synAlignPer, .synAlignErr, .synStat, .synPmon, .synMemCfg, .synMemKey]
def regIds2 : List RegId :=
  [.synMemVal, .outCfg, .outDiv, .outStat, .evoCfg, .evoDelay, .evoFuse, .evoStat, .evoSlots, .dsqCseq, .dsqStat, .dsqIwin, .dsqDwin, .dsqShare, .dsqNotify, .thrCfg, .thrStat, .thrExc, .thrExcData, .thrG, .qCfg, .qPtr, .qCnt, .qStat, .qData, .qPush, .qPushEnd, .escStat, .escSeq, .escLast, .octCfg, .laneCal, .laneStat, .portCfg, .portRxDelay, .portTxDelay, .portAllow, .portStat, .portHalf, .pairCfg, .portCnt, .portShd, .txtsFifo, .txtsCnt, .npaExpCfg, .npaExpRate, .npaExpDst, .npaExpStat, .npaProbe, .slgCfg, .slgStat, .slgKcv, .slgPringBase, .slgPringCfg, .slgPringIdx, .slgCringBase, .slgCringCfg, .slgCringIdx, .slgPStat, .slgCseq]
def regIds3 : List RegId :=
  [.tsvCfg, .tsvStat, .tsvAssoc, .tsvPolice, .tsvRefts, .tsvShare, .tsvGrant, .tsvDrop, .tsvErr, .svcCfg, .svcAddrHi, .svcAddrLo, .svcTag, .svcPtp, .svcHoldSpec, .svcPqual, .svcPoslv, .svcNtp, .svcKeys, .svcCnt, .kvcStat, .kvcImportOk, .kvcTamperCfg, .kvcTempLim, .kvcTamperCause, .kvcVbat, .kvcBlobBase, .kvcCacheStat, .kvcCacheUse, .kvcNonce, .kvcShare, .vsCfg, .vsGen, .vsKcv, .vsPins, .hrlCfg, .hrlStat, .hrlMisc, .hrlKey, .hrlDist, .hrlRkp, .hrlRki, .hrlRservo, .hrlTx, .hrlRxf, .hrlRxfCnt, .hrlLtally, .hLaneStat, .hLaneNbr, .hLaneDelay, .hLaneAsym, .hLaneAllow, .nodeId, .nodeStat, .nodeHop, .nodeTally, .hrlRdom, .parStat, .parPtCfg, .parDram]
def regIds4 : List RegId :=
  [.parBusHung, .parBusCnt, .parFnCfg, .parFnStat, .ringSqBase, .ringCqBase, .ringCfg, .ringSqIdx, .ringCqIdx, .supFstat0, .supFstat1, .supCtl, .supHb, .supAon, .supLedger, .supLedgerCnt, .supLedgerStat, .supLq, .supReact, .supFcnt, .supPfstat, .supPflive, .supSnapCtl, .supSnapSec, .supSnapSub, .supSnapLate, .supBseq, .tbCfg, .tbStat, .tbCtl, .tbCnt, .tbShd, .tbPeak, .cpxMode, .cpxBoot, .cpxImg, .cpxOwner, .cpxUpd, .cpxMreg, .pwrClkStat, .pwrClkCfg, .pwrClkCnt, .pwrIrc, .pwrEn, .pwrFmcCtl, .pwrFmcRes, .pwrDvfs, .pwrPmbCfg, .pwrPmbVcode, .pwrTherm, .pwrTemp, .pwrWearCfg, .pwrStress, .pwrWear, .pwrEol]
/-- Every register of the map. -/
def regIds : List RegId := regIds0 ++ regIds1 ++ regIds2 ++ regIds3 ++ regIds4

end Sys2Proof.Machine
end

