-- ==== Sys2Proof/Machine/Fields.lean ====
section
/-! DEFINITION. The named fields of the register tables, under the names of the spec. -/
namespace Sys2Proof.Machine.F

abbrev tseUtc_LEAP_TYPE : Field := ⟨.tseUtc, 19, 18⟩
abbrev tseUtc_LEAP_FLAG : Field := ⟨.tseUtc, 17, 17⟩
abbrev tseUtc_UTC_OFFSET : Field := ⟨.tseUtc, 15, 0⟩
abbrev tseLeapAt_LEAP_AT : Field := ⟨.tseLeapAt, 47, 0⟩
abbrev tseStepLimit_LIMIT : Field := ⟨.tseStepLimit, 63, 0⟩
abbrev tseAlmQuota_USED : Field := ⟨.tseAlmQuota, 28, 16⟩
abbrev tseAlmQuota_QUOTA : Field := ⟨.tseAlmQuota, 12, 0⟩
abbrev almCtl_PART : Field := ⟨.almCtl, 42, 40⟩
abbrev almCtl_DOMAIN : Field := ⟨.almCtl, 36, 32⟩
abbrev almCtl_TARGET : Field := ⟨.almCtl, 31, 16⟩
abbrev almCtl_KIND : Field := ⟨.almCtl, 11, 8⟩
abbrev almCtl_POLICY : Field := ⟨.almCtl, 4, 4⟩
abbrev almCtl_PERIODIC : Field := ⟨.almCtl, 3, 3⟩
abbrev almCtl_STATE : Field := ⟨.almCtl, 2, 0⟩
abbrev almStat_MISSED : Field := ⟨.almStat, 63, 32⟩
abbrev almStat_FIRES : Field := ⟨.almStat, 31, 3⟩
abbrev almStat_S : Field := ⟨.almStat, 2, 2⟩
abbrev almStat_L : Field := ⟨.almStat, 1, 1⟩
abbrev almStat_CANCEL_LATE : Field := ⟨.almStat, 0, 0⟩
abbrev rimCtl_CAL_AUTO : Field := ⟨.rimCtl, 1, 1⟩
abbrev rimAoiIn_VALID : Field := ⟨.rimAoiIn, 5, 5⟩
abbrev rimTemp_TEMP_NOW : Field := ⟨.rimTemp, 15, 0⟩
abbrev inCfg_CRIT : Field := ⟨.inCfg, 31, 31⟩
abbrev inCfg_PRESCALE : Field := ⟨.inCfg, 27, 25⟩
abbrev inCfg_TYPE : Field := ⟨.inCfg, 24, 24⟩
abbrev inCfg_TERM : Field := ⟨.inCfg, 19, 18⟩
abbrev inCfg_SLOPE : Field := ⟨.inCfg, 17, 17⟩
abbrev inCfg_MODE : Field := ⟨.inCfg, 15, 14⟩
abbrev inNom_NOM_FREQ : Field := ⟨.inNom, 47, 0⟩
abbrev inDelay_DELAY : Field := ⟨.inDelay, 63, 0⟩
abbrev inAllow_ALLOW : Field := ⟨.inAllow, 63, 0⟩
abbrev inSrcBound_SRC_BOUND : Field := ⟨.inSrcBound, 63, 0⟩
abbrev inAct_ACC_MS : Field := ⟨.inAct, 47, 32⟩
abbrev inAct_EARLY : Field := ⟨.inAct, 15, 8⟩
abbrev inAct_REJ : Field := ⟨.inAct, 7, 0⟩
abbrev inFmLim_REJ : Field := ⟨.inFmLim, 63, 32⟩
abbrev inFmLim_ACC : Field := ⟨.inFmLim, 31, 0⟩
abbrev inFmGate_HOLD_S : Field := ⟨.inFmGate, 47, 32⟩
abbrev inFmGate_FAST_MS : Field := ⟨.inFmGate, 15, 0⟩
abbrev inStat_CFG_ERR : Field := ⟨.inStat, 15, 15⟩
abbrev inStat_FAST_CLAMP : Field := ⟨.inStat, 14, 14⟩
abbrev inStat_REJ_FREQ : Field := ⟨.inStat, 7, 7⟩
abbrev inStat_REJ_GAP : Field := ⟨.inStat, 6, 6⟩
abbrev inStat_REJ_GLITCH : Field := ⟨.inStat, 5, 5⟩
abbrev inStat_MON_OK : Field := ⟨.inStat, 3, 3⟩
abbrev inStat_FREQ_OK : Field := ⟨.inStat, 2, 2⟩
abbrev inStat_ACT_OK : Field := ⟨.inStat, 1, 1⟩
abbrev inStat_PRESENT : Field := ⟨.inStat, 0, 0⟩
abbrev inFmDf_DF : Field := ⟨.inFmDf, 47, 0⟩
abbrev inFuseDly_FALL : Field := ⟨.inFuseDly, 63, 32⟩
abbrev inFuseDly_RISE : Field := ⟨.inFuseDly, 31, 0⟩
abbrev emuCfg_START_SRC : Field := ⟨.emuCfg, 55, 48⟩
abbrev emuCfg_STOP_SRC : Field := ⟨.emuCfg, 47, 40⟩
abbrev emuCfg_DOMAIN : Field := ⟨.emuCfg, 36, 32⟩
abbrev emuCfg_QUEUE : Field := ⟨.emuCfg, 31, 24⟩
abbrev emuCfg_EMPTY_REPORT : Field := ⟨.emuCfg, 19, 19⟩
abbrev emuCfg_DEST_QUEUE : Field := ⟨.emuCfg, 18, 18⟩
abbrev emuCfg_DEST_RSH : Field := ⟨.emuCfg, 17, 17⟩
abbrev emuCfg_DEST_FIFO : Field := ⟨.emuCfg, 16, 16⟩
abbrev emuCfg_MODE : Field := ⟨.emuCfg, 1, 1⟩
abbrev emuCfg_ARMED : Field := ⟨.emuCfg, 0, 0⟩
abbrev emuSlots_CLOSE_SLOT : Field := ⟨.emuSlots, 43, 32⟩
abbrev emuSlots_OPEN_SLOT : Field := ⟨.emuSlots, 11, 0⟩
abbrev emuStat_LOST : Field := ⟨.emuStat, 63, 32⟩
abbrev emuStat_OPEN : Field := ⟨.emuStat, 16, 16⟩
abbrev emuStat_SEQ : Field := ⟨.emuStat, 15, 0⟩
abbrev emuResid_MEAS_UNC : Field := ⟨.emuResid, 63, 0⟩
abbrev tdcBin_HITS : Field := ⟨.tdcBin, 39, 16⟩
abbrev tdcBin_CENTRE : Field := ⟨.tdcBin, 15, 0⟩
abbrev tdcPhase_HITS : Field := ⟨.tdcPhase, 41, 18⟩
abbrev tdcPhase_END : Field := ⟨.tdcPhase, 17, 0⟩
abbrev tdcStat_TEMP_CAL : Field := ⟨.tdcStat, 63, 48⟩
abbrev tdcStat_GEN : Field := ⟨.tdcStat, 47, 32⟩
abbrev tdcStat_WMAX : Field := ⟨.tdcStat, 31, 16⟩
abbrev tdcStat_USED : Field := ⟨.tdcStat, 15, 7⟩
abbrev tdcStat_STATE : Field := ⟨.tdcStat, 4, 3⟩
abbrev tdcStat_UNCAL : Field := ⟨.tdcStat, 2, 2⟩
abbrev tdcStat_LAST_FAIL : Field := ⟨.tdcStat, 1, 1⟩
abbrev tdcResid_RESID : Field := ⟨.tdcResid, 63, 0⟩
abbrev gnbCtl_RUN : Field := ⟨.gnbCtl, 1, 1⟩
abbrev gnbCtl_TAP_EN : Field := ⟨.gnbCtl, 0, 0⟩
abbrev gnbRxc_RXC : Field := ⟨.gnbRxc, 63, 0⟩
abbrev gnbCfg_ELEV_MASK : Field := ⟨.gnbCfg, 47, 40⟩
abbrev gnbCfg_CN0_MASK : Field := ⟨.gnbCfg, 39, 32⟩
abbrev gnbCfg_TSYS : Field := ⟨.gnbCfg, 25, 24⟩
abbrev gnbCfg_SIG_EN : Field := ⟨.gnbCfg, 9, 0⟩
abbrev gnbTsysUnc_TSYS_UNC : Field := ⟨.gnbTsysUnc, 63, 0⟩
abbrev gnbSigStat_SIG_OOB : Field := ⟨.gnbSigStat, 9, 0⟩
abbrev gspCfg_CLKOUT : Field := ⟨.gspCfg, 12, 8⟩
abbrev gspCfg_DIV : Field := ⟨.gspCfg, 7, 6⟩
abbrev gspCfg_INVERT : Field := ⟨.gspCfg, 5, 5⟩
abbrev gspCfg_SWAP_IQ : Field := ⟨.gspCfg, 4, 4⟩
abbrev gspCfg_FORMAT : Field := ⟨.gspCfg, 3, 3⟩
abbrev gspCfg_ENABLE : Field := ⟨.gspCfg, 0, 0⟩
abbrev gspLo_LO : Field := ⟨.gspLo, 47, 0⟩
abbrev gspAllow_VALUE : Field := ⟨.gspAllow, 63, 0⟩
abbrev gspLevel_COH_OK : Field := ⟨.gspLevel, 63, 63⟩
abbrev gspLevel_CFG_ERR : Field := ⟨.gspLevel, 62, 62⟩
abbrev gspLevel_DCLK_CNT : Field := ⟨.gspLevel, 49, 32⟩
abbrev gspLevel_FS_FRAC : Field := ⟨.gspLevel, 31, 16⟩
abbrev gspLevel_RMS : Field := ⟨.gspLevel, 15, 0⟩
abbrev gnbTmsg_WORD : Field := ⟨.gnbTmsg, 63, 0⟩
abbrev gnbTstat_SCHED_LATE : Field := ⟨.gnbTstat, 63, 48⟩
abbrev gnbTstat_SCHED_SKIP : Field := ⟨.gnbTstat, 47, 32⟩
abbrev gnbTstat_RESYNC : Field := ⟨.gnbTstat, 31, 16⟩
abbrev gnbSurvey_STATE : Field := ⟨.gnbSurvey, 63, 62⟩
abbrev gnbSurvey_POS_MODE : Field := ⟨.gnbSurvey, 61, 60⟩
abbrev gnbSurvey_HOLD_SUSPECT : Field := ⟨.gnbSurvey, 59, 59⟩
abbrev gnbSurvey_CAND : Field := ⟨.gnbSurvey, 58, 58⟩
abbrev gnbSurvey_ELAPSED : Field := ⟨.gnbSurvey, 31, 0⟩
abbrev gnbPos_COORD : Field := ⟨.gnbPos, 63, 0⟩
abbrev gnbPosUnc_SURV_UNC : Field := ⟨.gnbPosUnc, 63, 32⟩
abbrev gnbPosUnc_HOLD_UNC : Field := ⟨.gnbPosUnc, 31, 0⟩
abbrev gnbNavStat_NAV_LOST : Field := ⟨.gnbNavStat, 63, 32⟩
abbrev gnbNavStat_TAP_LOST : Field := ⟨.gnbNavStat, 31, 0⟩
abbrev chStat_SIGNAL : Field := ⟨.chStat, 55, 48⟩
abbrev chStat_SV : Field := ⟨.chStat, 47, 40⟩
abbrev chStat_CN0 : Field := ⟨.chStat, 31, 16⟩
abbrev chStat_STATE : Field := ⟨.chStat, 2, 0⟩
abbrev rshCfg_WTR_S : Field := ⟨.rshCfg, 63, 48⟩
abbrev rshCfg_GNSS_EMU : Field := ⟨.rshCfg, 44, 40⟩
abbrev rshCfg_K_GNSS : Field := ⟨.rshCfg, 39, 36⟩
abbrev rshCfg_MISS_N : Field := ⟨.rshCfg, 35, 32⟩
abbrev rshCfg_SERVO_PER_MS : Field := ⟨.rshCfg, 31, 16⟩
abbrev rshCfg_REVERT : Field := ⟨.rshCfg, 1, 1⟩
abbrev rshStat_SEL : Field := ⟨.rshStat, 20, 16⟩
abbrev rshStat_CFG_ERR : Field := ⟨.rshStat, 11, 11⟩
abbrev rshStat_SELST : Field := ⟨.rshStat, 10, 8⟩
abbrev rshStat_TRACE_OK : Field := ⟨.rshStat, 7, 7⟩
abbrev rshStat_ATOMIC : Field := ⟨.rshStat, 6, 6⟩
abbrev rshStat_SERVO_SAT : Field := ⟨.rshStat, 5, 5⟩
abbrev rshStat_LEARNED : Field := ⟨.rshStat, 4, 4⟩
abbrev rshStat_MODEL : Field := ⟨.rshStat, 3, 3⟩
abbrev rshStat_STATE : Field := ⟨.rshStat, 2, 0⟩
abbrev rshServoKp_GAIN : Field := ⟨.rshServoKp, 63, 0⟩
abbrev rshServoKi_GAIN : Field := ⟨.rshServoKi, 63, 0⟩
abbrev rshServoI_VALUE : Field := ⟨.rshServoI, 63, 0⟩
abbrev rshServoF_FOFF : Field := ⟨.rshServoF, 47, 0⟩
abbrev rshServoE_VALUE : Field := ⟨.rshServoE, 63, 0⟩
abbrev rshServoFloor_FLOOR : Field := ⟨.rshServoFloor, 63, 0⟩
abbrev rshSwSlew_SLEW_MAX : Field := ⟨.rshSwSlew, 46, 0⟩
abbrev rshHoldCfg_HOLD_MAX_S : Field := ⟨.rshHoldCfg, 63, 32⟩
abbrev rshHoldCfg_HOLD_AVG_S : Field := ⟨.rshHoldCfg, 31, 0⟩
abbrev rshLearnCfg_LEARN_MIN_S : Field := ⟨.rshLearnCfg, 63, 32⟩
abbrev rshHoldLimit_LIMIT : Field := ⟨.rshHoldLimit, 63, 0⟩
abbrev rshModelFtol_PARAM : Field := ⟨.rshModelFtol, 63, 0⟩
abbrev rshModelDfu_PARAM : Field := ⟨.rshModelDfu, 63, 0⟩
abbrev rshModelAge_PARAM : Field := ⟨.rshModelAge, 63, 0⟩
abbrev rshModelTc_PARAM : Field := ⟨.rshModelTc, 63, 0⟩
abbrev rshModelDfuSat_PARAM : Field := ⟨.rshModelDfuSat, 63, 0⟩
abbrev rshLearnFavg_VALUE : Field := ⟨.rshLearnFavg, 63, 0⟩
abbrev rshLearnAavg_VALUE : Field := ⟨.rshLearnAavg, 63, 0⟩
abbrev rshLearnTref_SPAN_S : Field := ⟨.rshLearnTref, 63, 32⟩
abbrev rshLearnTref_THETA_REF : Field := ⟨.rshLearnTref, 31, 0⟩
abbrev rshTemp_TEMP_SRC : Field := ⟨.rshTemp, 63, 63⟩
abbrev rshTemp_THETA_NOW : Field := ⟨.rshTemp, 31, 0⟩
abbrev refCfg_QUAL_S : Field := ⟨.refCfg, 31, 16⟩
abbrev refCfg_PRIO : Field := ⟨.refCfg, 11, 8⟩
abbrev refCfg_FREQ_VERIFY : Field := ⟨.refCfg, 1, 1⟩
abbrev refCfg_ENABLE : Field := ⟨.refCfg, 0, 0⟩
abbrev refStat_QUAL_LEFT : Field := ⟨.refStat, 31, 16⟩
abbrev refStat_DQ_MODEL : Field := ⟨.refStat, 10, 10⟩
abbrev refStat_DQ_MISS : Field := ⟨.refStat, 9, 9⟩
abbrev refStat_DQ_MON : Field := ⟨.refStat, 8, 8⟩
abbrev refStat_DISAGREE : Field := ⟨.refStat, 6, 6⟩
abbrev refStat_FREQ_ONLY : Field := ⟨.refStat, 5, 5⟩
abbrev refStat_LOCKOUT : Field := ⟨.refStat, 4, 4⟩
abbrev refStat_FORCED : Field := ⟨.refStat, 3, 3⟩
abbrev refStat_STATE : Field := ⟨.refStat, 1, 0⟩
abbrev refPhase_VALUE : Field := ⟨.refPhase, 63, 0⟩
abbrev refCbound_VALUE : Field := ⟨.refCbound, 63, 0⟩
abbrev refFbound_VALUE : Field := ⟨.refFbound, 63, 0⟩
abbrev aoiCfdCtl_CODE_CMD : Field := ⟨.aoiCfdCtl, 55, 32⟩
abbrev aoiCfdCtl_STEER : Field := ⟨.aoiCfdCtl, 1, 1⟩
abbrev aoiCfdCtl_CFD_EN : Field := ⟨.aoiCfdCtl, 0, 0⟩
abbrev aoiCfdStat_CODE_OUT : Field := ⟨.aoiCfdStat, 63, 40⟩
abbrev aoiCfdStat_VLOOP_MV : Field := ⟨.aoiCfdStat, 39, 24⟩
abbrev aoiCfdStat_VCFD_MV : Field := ⟨.aoiCfdStat, 23, 8⟩
abbrev aoiCfdStat_CFD_SAT : Field := ⟨.aoiCfdStat, 0, 0⟩
abbrev aoiCfdGain_GAIN : Field := ⟨.aoiCfdGain, 63, 0⟩
abbrev aoiCfdLim_STEP_MAX : Field := ⟨.aoiCfdLim, 55, 32⟩
abbrev aoiCfdLim_PER_S : Field := ⟨.aoiCfdLim, 31, 16⟩
abbrev aoiCfdLim_HR_MV : Field := ⟨.aoiCfdLim, 15, 0⟩
abbrev aoiCfdLoad_RLOAD_INIT : Field := ⟨.aoiCfdLoad, 47, 32⟩
abbrev aoiCfdLoad_IMEAS_UA : Field := ⟨.aoiCfdLoad, 31, 16⟩
abbrev aoiCfdLoad_RLOAD : Field := ⟨.aoiCfdLoad, 15, 0⟩
abbrev aoiOffload_TAU_S : Field := ⟨.aoiOffload, 31, 0⟩
abbrev aoiMon_VALUE : Field := ⟨.aoiMon, 15, 0⟩
abbrev aoiMonLim_HI : Field := ⟨.aoiMonLim, 31, 16⟩
abbrev aoiMonLim_LO : Field := ⟨.aoiMonLim, 15, 0⟩
abbrev aoiTempCal_SCALE : Field := ⟨.aoiTempCal, 63, 32⟩
abbrev aoiTempCal_OFFSET : Field := ⟨.aoiTempCal, 31, 0⟩
abbrev aoiEol_MONTHS : Field := ⟨.aoiEol, 31, 16⟩
abbrev aoiEol_LOW_MONTHS : Field := ⟨.aoiEol, 15, 0⟩
abbrev synCfg_LOCK_WAIT : Field := ⟨.synCfg, 56, 40⟩
abbrev synCfg_AUTO_ALIGN : Field := ⟨.synCfg, 31, 31⟩
abbrev synCfg_AUTO_RELOCK : Field := ⟨.synCfg, 30, 30⟩
abbrev synCfg_REFIN : Field := ⟨.synCfg, 20, 16⟩
abbrev synCfg_BW : Field := ⟨.synCfg, 10, 8⟩
abbrev synCfg_REF_MODE : Field := ⟨.synCfg, 1, 0⟩
abbrev synFreq_TARGET_F : Field := ⟨.synFreq, 55, 0⟩
abbrev synLimits_FOLLOW_LIM : Field := ⟨.synLimits, 63, 32⟩
abbrev synLimits_PSLEW_MAX : Field := ⟨.synLimits, 31, 0⟩
abbrev synPhaseOfs_VALUE : Field := ⟨.synPhaseOfs, 63, 0⟩
abbrev synPstepRem_VALUE : Field := ⟨.synPstepRem, 63, 0⟩
abbrev synAlignPer_ALIGN_PER : Field := ⟨.synAlignPer, 63, 0⟩
abbrev synAlignErr_VALUE : Field := ⟨.synAlignErr, 63, 0⟩
abbrev synStat_SEARCHES : Field := ⟨.synStat, 63, 48⟩
abbrev synStat_BAND : Field := ⟨.synStat, 47, 40⟩
abbrev synStat_FINE : Field := ⟨.synStat, 39, 24⟩
abbrev synStat_HIT : Field := ⟨.synStat, 13, 13⟩
abbrev synStat_MISALIGNED : Field := ⟨.synStat, 12, 12⟩
abbrev synStat_FOLLOW_SAT : Field := ⟨.synStat, 11, 11⟩
abbrev synStat_FL_SEEN : Field := ⟨.synStat, 10, 10⟩
abbrev synStat_CFG_ERR : Field := ⟨.synStat, 9, 9⟩
abbrev synStat_STATE : Field := ⟨.synStat, 3, 0⟩
abbrev synPmon_PMON_TOL : Field := ⟨.synPmon, 63, 32⟩
abbrev synPmon_DIFF : Field := ⟨.synPmon, 31, 0⟩
abbrev synMemCfg_TEMP_WIN : Field := ⟨.synMemCfg, 15, 0⟩
abbrev synMemKey_REF_MODE : Field := ⟨.synMemKey, 57, 56⟩
abbrev synMemKey_TARGET_F : Field := ⟨.synMemKey, 55, 0⟩
abbrev synMemVal_VALID : Field := ⟨.synMemVal, 63, 63⟩
abbrev synMemVal_BAND : Field := ⟨.synMemVal, 47, 40⟩
abbrev synMemVal_FINE : Field := ⟨.synMemVal, 39, 24⟩
abbrev synMemVal_TEMP : Field := ⟨.synMemVal, 23, 8⟩
abbrev synMemVal_LRU : Field := ⟨.synMemVal, 3, 0⟩
abbrev outCfg_FRAC_EN : Field := ⟨.outCfg, 12, 12⟩
abbrev outCfg_ALIGN : Field := ⟨.outCfg, 11, 11⟩
abbrev outCfg_SAFE_SQUELCH : Field := ⟨.outCfg, 10, 10⟩
abbrev outCfg_STD : Field := ⟨.outCfg, 9, 8⟩
abbrev outCfg_SRC : Field := ⟨.outCfg, 6, 4⟩
abbrev outCfg_EN : Field := ⟨.outCfg, 0, 0⟩
abbrev outDiv_F : Field := ⟨.outDiv, 63, 40⟩
abbrev outDiv_N : Field := ⟨.outDiv, 31, 0⟩
abbrev evoCfg_STD : Field := ⟨.evoCfg, 9, 8⟩
abbrev evoCfg_CFG_ERR : Field := ⟨.evoCfg, 3, 3⟩
abbrev evoCfg_UNTRACED_OK : Field := ⟨.evoCfg, 2, 2⟩
abbrev evoCfg_IDLE_LEVEL : Field := ⟨.evoCfg, 1, 1⟩
abbrev evoCfg_EN : Field := ⟨.evoCfg, 0, 0⟩
abbrev evoDelay_DELAY : Field := ⟨.evoDelay, 63, 0⟩
abbrev evoFuse_FD : Field := ⟨.evoFuse, 31, 0⟩
abbrev evoStat_LATE : Field := ⟨.evoStat, 63, 48⟩
abbrev evoStat_SUPPRESSED : Field := ⟨.evoStat, 47, 32⟩
abbrev evoStat_MERGED : Field := ⟨.evoStat, 31, 16⟩
abbrev evoStat_ARMED : Field := ⟨.evoStat, 1, 1⟩
abbrev evoStat_LEVEL : Field := ⟨.evoStat, 0, 0⟩
abbrev evoSlots_TRAIL_SLOT : Field := ⟨.evoSlots, 43, 32⟩
abbrev evoSlots_LEAD_SLOT : Field := ⟨.evoSlots, 11, 0⟩
abbrev dsqStat_SAMPLE_LOST : Field := ⟨.dsqStat, 63, 32⟩
abbrev dsqStat_CHECKBIT : Field := ⟨.dsqStat, 31, 0⟩
abbrev dsqIwin_SIZE : Field := ⟨.dsqIwin, 25, 16⟩
abbrev dsqIwin_BASE : Field := ⟨.dsqIwin, 8, 0⟩
abbrev dsqDwin_SIZE : Field := ⟨.dsqDwin, 24, 16⟩
abbrev dsqDwin_BASE : Field := ⟨.dsqDwin, 7, 0⟩
abbrev dsqShare_MIN : Field := ⟨.dsqShare, 16, 8⟩
abbrev dsqShare_WEIGHT : Field := ⟨.dsqShare, 7, 0⟩
abbrev dsqNotify_SMP_EN : Field := ⟨.dsqNotify, 26, 26⟩
abbrev dsqNotify_SMP_Q : Field := ⟨.dsqNotify, 25, 18⟩
abbrev dsqNotify_EXC_EN : Field := ⟨.dsqNotify, 17, 17⟩
abbrev dsqNotify_EXC_Q : Field := ⟨.dsqNotify, 16, 9⟩
abbrev dsqNotify_ESC_EN : Field := ⟨.dsqNotify, 8, 8⟩
abbrev dsqNotify_ESC_Q : Field := ⟨.dsqNotify, 7, 0⟩
abbrev thrCfg_PART : Field := ⟨.thrCfg, 2, 0⟩
abbrev thrStat_SLOT : Field := ⟨.thrStat, 55, 44⟩
abbrev thrStat_STOP_PEND : Field := ⟨.thrStat, 40, 40⟩
abbrev thrStat_STATE : Field := ⟨.thrStat, 34, 32⟩
abbrev thrStat_FLAGS : Field := ⟨.thrStat, 29, 24⟩
abbrev thrStat_PC : Field := ⟨.thrStat, 20, 0⟩
abbrev qCfg_EN : Field := ⟨.qCfg, 31, 31⟩
abbrev qCfg_PART : Field := ⟨.qCfg, 26, 24⟩
abbrev qCfg_DEPTH : Field := ⟨.qCfg, 23, 20⟩
abbrev qCfg_BASE : Field := ⟨.qCfg, 14, 0⟩
abbrev qPtr_WR : Field := ⟨.qPtr, 31, 16⟩
abbrev qPtr_RD : Field := ⟨.qPtr, 15, 0⟩
abbrev qStat_DROPPED : Field := ⟨.qStat, 63, 32⟩
abbrev qStat_ABORTED : Field := ⟨.qStat, 31, 16⟩
abbrev escStat_SLOT : Field := ⟨.escStat, 43, 32⟩
abbrev escStat_COUNT : Field := ⟨.escStat, 26, 16⟩
abbrev escStat_STATE : Field := ⟨.escStat, 1, 0⟩
abbrev octCfg_FEC : Field := ⟨.octCfg, 47, 32⟩
abbrev octCfg_LMODE : Field := ⟨.octCfg, 31, 0⟩
abbrev laneCal_TX_CAL : Field := ⟨.laneCal, 63, 32⟩
abbrev laneCal_RX_CAL : Field := ⟨.laneCal, 31, 0⟩
abbrev laneStat_DLM_FAILED : Field := ⟨.laneStat, 3, 3⟩
abbrev laneStat_DLM_VALID : Field := ⟨.laneStat, 2, 2⟩
abbrev laneStat_PCS_LOCK : Field := ⟨.laneStat, 1, 1⟩
abbrev laneStat_SIGNAL : Field := ⟨.laneStat, 0, 0⟩
abbrev portCfg_HALF_VEC : Field := ⟨.portCfg, 50, 40⟩
abbrev portCfg_PART : Field := ⟨.portCfg, 34, 32⟩
abbrev portCfg_EN : Field := ⟨.portCfg, 31, 31⟩
abbrev portCfg_ROLE : Field := ⟨.portCfg, 29, 28⟩
abbrev portCfg_DOMAIN : Field := ⟨.portCfg, 20, 16⟩
abbrev portCfg_MAX_FRAME : Field := ⟨.portCfg, 13, 0⟩
abbrev portRxDelay_DELAY : Field := ⟨.portRxDelay, 63, 0⟩
abbrev portTxDelay_DELAY : Field := ⟨.portTxDelay, 63, 0⟩
abbrev portAllow_ALLOW : Field := ⟨.portAllow, 63, 0⟩
abbrev portStat_CFG_ERR : Field := ⟨.portStat, 5, 5⟩
abbrev portStat_DOWN_SEEN : Field := ⟨.portStat, 4, 4⟩
abbrev portStat_LINK : Field := ⟨.portStat, 3, 3⟩
abbrev portStat_STAMP_OK : Field := ⟨.portStat, 2, 2⟩
abbrev portHalf_HALF : Field := ⟨.portHalf, 63, 0⟩
abbrev pairCfg_PARTNER : Field := ⟨.pairCfg, 13, 8⟩
abbrev pairCfg_EXPORT : Field := ⟨.pairCfg, 3, 3⟩
abbrev pairCfg_SKIP_LL : Field := ⟨.pairCfg, 2, 2⟩
abbrev pairCfg_TRAILER : Field := ⟨.pairCfg, 1, 1⟩
abbrev pairCfg_ACTIVE : Field := ⟨.pairCfg, 0, 0⟩
abbrev portCnt_COUNT : Field := ⟨.portCnt, 39, 0⟩
abbrev npaExpCfg_ETYPE : Field := ⟨.npaExpCfg, 63, 48⟩
abbrev npaExpCfg_PORT : Field := ⟨.npaExpCfg, 37, 32⟩
abbrev npaExpCfg_EN : Field := ⟨.npaExpCfg, 31, 31⟩
abbrev npaExpCfg_FLUSH : Field := ⟨.npaExpCfg, 15, 0⟩
abbrev npaExpRate_BURST : Field := ⟨.npaExpRate, 44, 32⟩
abbrev npaExpRate_RATE : Field := ⟨.npaExpRate, 31, 0⟩
abbrev npaExpDst_DST : Field := ⟨.npaExpDst, 47, 0⟩
abbrev npaExpStat_EXP_LOST : Field := ⟨.npaExpStat, 63, 32⟩
abbrev npaExpStat_SEQ : Field := ⟨.npaExpStat, 31, 0⟩
abbrev npaProbe_ETYPE : Field := ⟨.npaProbe, 15, 0⟩
abbrev slgCfg_EN : Field := ⟨.slgCfg, 63, 63⟩
abbrev slgCfg_SLOT : Field := ⟨.slgCfg, 55, 48⟩
abbrev slgCfg_DOMAIN : Field := ⟨.slgCfg, 44, 40⟩
abbrev slgCfg_HDR_LEN : Field := ⟨.slgCfg, 38, 32⟩
abbrev slgCfg_WIN_US : Field := ⟨.slgCfg, 19, 0⟩
abbrev slgStat_PSEQ : Field := ⟨.slgStat, 63, 32⟩
abbrev slgStat_FIRST_SEQ : Field := ⟨.slgStat, 31, 16⟩
abbrev slgStat_KEY_PEND : Field := ⟨.slgStat, 3, 3⟩
abbrev slgStat_STEPPED : Field := ⟨.slgStat, 2, 2⟩
abbrev slgStat_FIRST : Field := ⟨.slgStat, 1, 1⟩
abbrev slgStat_OPEN : Field := ⟨.slgStat, 0, 0⟩
abbrev slgKcv_KCV : Field := ⟨.slgKcv, 23, 0⟩
abbrev slgPringBase_ADDR : Field := ⟨.slgPringBase, 63, 12⟩
abbrev slgPringCfg_SIZE : Field := ⟨.slgPringCfg, 5, 1⟩
abbrev slgPringCfg_EN : Field := ⟨.slgPringCfg, 0, 0⟩
abbrev slgPringIdx_PROD : Field := ⟨.slgPringIdx, 63, 32⟩
abbrev slgPringIdx_CONS : Field := ⟨.slgPringIdx, 31, 0⟩
abbrev slgCringBase_ADDR : Field := ⟨.slgCringBase, 63, 12⟩
abbrev slgCringCfg_VEC : Field := ⟨.slgCringCfg, 26, 16⟩
abbrev slgCringCfg_SIZE : Field := ⟨.slgCringCfg, 5, 1⟩
abbrev slgCringCfg_EN : Field := ⟨.slgCringCfg, 0, 0⟩
abbrev slgCringIdx_PROD : Field := ⟨.slgCringIdx, 63, 32⟩
abbrev slgCringIdx_CONS : Field := ⟨.slgCringIdx, 31, 0⟩
abbrev slgPStat_PAGES_LOST : Field := ⟨.slgPStat, 63, 32⟩
abbrev slgPStat_CKPT_LOST : Field := ⟨.slgPStat, 31, 0⟩
abbrev slgCseq_CSEQ : Field := ⟨.slgCseq, 63, 0⟩
abbrev tsvCfg_BOUND_EF_TYPE : Field := ⟨.tsvCfg, 63, 48⟩
abbrev tsvCfg_ATT_EF_TYPE : Field := ⟨.tsvCfg, 47, 32⟩
abbrev tsvCfg_LAUNCH_LEAD : Field := ⟨.tsvCfg, 31, 16⟩
abbrev tsvCfg_LAUNCH_RATE : Field := ⟨.tsvCfg, 15, 0⟩
abbrev tsvStat_XC_PEAK : Field := ⟨.tsvStat, 45, 32⟩
abbrev tsvStat_XC_BUSY : Field := ⟨.tsvStat, 13, 0⟩
abbrev tsvAssoc_EN : Field := ⟨.tsvAssoc, 7, 7⟩
abbrev tsvAssoc_LOG_SIZE : Field := ⟨.tsvAssoc, 4, 0⟩
abbrev tsvPolice_EN : Field := ⟨.tsvPolice, 7, 7⟩
abbrev tsvPolice_LOG_LINES : Field := ⟨.tsvPolice, 4, 0⟩
abbrev tsvRefts_SEC : Field := ⟨.tsvRefts, 47, 0⟩
abbrev tsvShare_XC_MAX : Field := ⟨.tsvShare, 61, 48⟩
abbrev tsvShare_XC_MIN : Field := ⟨.tsvShare, 45, 32⟩
abbrev tsvShare_MIN : Field := ⟨.tsvShare, 26, 16⟩
abbrev tsvShare_WEIGHT : Field := ⟨.tsvShare, 7, 0⟩
abbrev tsvGrant_GRANT_USED : Field := ⟨.tsvGrant, 63, 32⟩
abbrev tsvGrant_GRANT_MAX : Field := ⟨.tsvGrant, 31, 0⟩
abbrev tsvDrop_XC_DROP : Field := ⟨.tsvDrop, 63, 32⟩
abbrev tsvDrop_TIMEOUT : Field := ⟨.tsvDrop, 31, 0⟩
abbrev tsvErr_ASSOC_FULL : Field := ⟨.tsvErr, 31, 16⟩
abbrev tsvErr_KEY_ABORT : Field := ⟨.tsvErr, 15, 0⟩
abbrev svcCfg_EN : Field := ⟨.svcCfg, 63, 63⟩
abbrev svcCfg_PART : Field := ⟨.svcCfg, 58, 56⟩
abbrev svcCfg_PORT : Field := ⟨.svcCfg, 53, 48⟩
abbrev svcCfg_TRANSPORT : Field := ⟨.svcCfg, 45, 44⟩
abbrev svcCfg_TAGS : Field := ⟨.svcCfg, 43, 42⟩
abbrev svcCfg_MCAST : Field := ⟨.svcCfg, 40, 40⟩
abbrev svcCfg_PTP_DOMAIN : Field := ⟨.svcCfg, 39, 32⟩
abbrev svcCfg_PROFILE : Field := ⟨.svcCfg, 27, 24⟩
abbrev svcCfg_TWO_STEP : Field := ⟨.svcCfg, 20, 20⟩
abbrev svcCfg_AUTH_REQ : Field := ⟨.svcCfg, 19, 19⟩
abbrev svcCfg_NTS : Field := ⟨.svcCfg, 18, 18⟩
abbrev svcCfg_NTP : Field := ⟨.svcCfg, 17, 17⟩
abbrev svcCfg_PTP : Field := ⟨.svcCfg, 16, 16⟩
abbrev svcCfg_TTL : Field := ⟨.svcCfg, 7, 0⟩
abbrev svcAddrHi_ADDR : Field := ⟨.svcAddrHi, 63, 0⟩
abbrev svcAddrLo_ADDR : Field := ⟨.svcAddrLo, 63, 0⟩
abbrev svcTag_OUTER : Field := ⟨.svcTag, 63, 32⟩
abbrev svcTag_INNER : Field := ⟨.svcTag, 31, 0⟩
abbrev svcPtp_PRIO1 : Field := ⟨.svcPtp, 63, 56⟩
abbrev svcPtp_PRIO2 : Field := ⟨.svcPtp, 55, 48⟩
abbrev svcPtp_MIN_LOG_SYNC : Field := ⟨.svcPtp, 47, 40⟩
abbrev svcPtp_MIN_LOG_ANN : Field := ⟨.svcPtp, 39, 32⟩
abbrev svcPtp_MAX_DURATION : Field := ⟨.svcPtp, 31, 16⟩
abbrev svcHoldSpec_HOLD_SPEC : Field := ⟨.svcHoldSpec, 63, 0⟩
abbrev svcPqual_LOCKED : Field := ⟨.svcPqual, 63, 48⟩
abbrev svcPqual_HOLD_IN : Field := ⟨.svcPqual, 47, 32⟩
abbrev svcPqual_HOLD_OUT : Field := ⟨.svcPqual, 31, 16⟩
abbrev svcPqual_FREE : Field := ⟨.svcPqual, 15, 0⟩
abbrev svcPoslv_LOCKED : Field := ⟨.svcPoslv, 63, 48⟩
abbrev svcPoslv_HOLD_IN : Field := ⟨.svcPoslv, 47, 32⟩
abbrev svcPoslv_HOLD_OUT : Field := ⟨.svcPoslv, 31, 16⟩
abbrev svcPoslv_FREE : Field := ⟨.svcPoslv, 15, 0⟩
abbrev svcNtp_PRECISION : Field := ⟨.svcNtp, 63, 56⟩
abbrev svcNtp_MINPOLL : Field := ⟨.svcNtp, 55, 48⟩
abbrev svcNtp_MAXPOLL : Field := ⟨.svcNtp, 47, 40⟩
abbrev svcNtp_RATE_LIMIT : Field := ⟨.svcNtp, 39, 36⟩
abbrev svcNtp_DROP_LIMIT : Field := ⟨.svcNtp, 35, 32⟩
abbrev svcNtp_COOKIE_LIFE : Field := ⟨.svcNtp, 31, 0⟩
abbrev svcKeys_NTS_CUR : Field := ⟨.svcKeys, 63, 56⟩
abbrev svcKeys_NTS_PREV : Field := ⟨.svcKeys, 55, 48⟩
abbrev svcKeys_PTP_KEY : Field := ⟨.svcKeys, 47, 40⟩
abbrev svcKeys_SPP : Field := ⟨.svcKeys, 39, 32⟩
abbrev svcKeys_AUTH_ALG : Field := ⟨.svcKeys, 9, 8⟩
abbrev svcKeys_PREV_VALID : Field := ⟨.svcKeys, 1, 1⟩
abbrev svcKeys_CUR_VALID : Field := ⟨.svcKeys, 0, 0⟩
abbrev svcCnt_COUNT : Field := ⟨.svcCnt, 39, 0⟩
abbrev kvcStat_ROOT_EPOCH : Field := ⟨.kvcStat, 63, 32⟩
abbrev kvcStat_VBAT_WARN : Field := ⟨.kvcStat, 7, 7⟩
abbrev kvcStat_OWNER_LOCK : Field := ⟨.kvcStat, 6, 6⟩
abbrev kvcStat_PROV_PEND : Field := ⟨.kvcStat, 5, 5⟩
abbrev kvcStat_KAT_OK : Field := ⟨.kvcStat, 3, 3⟩
abbrev kvcStat_RNG_OK : Field := ⟨.kvcStat, 2, 2⟩
abbrev kvcStat_ROOT_VALID : Field := ⟨.kvcStat, 1, 1⟩
abbrev kvcStat_ZEROISED : Field := ⟨.kvcStat, 0, 0⟩
abbrev kvcImportOk_IMPORT : Field := ⟨.kvcImportOk, 7, 0⟩
abbrev kvcTamperCfg_FILT : Field := ⟨.kvcTamperCfg, 19, 16⟩
abbrev kvcTamperCfg_CLKGLITCH_EN : Field := ⟨.kvcTamperCfg, 10, 10⟩
abbrev kvcTamperCfg_VGLITCH_EN : Field := ⟨.kvcTamperCfg, 9, 9⟩
abbrev kvcTamperCfg_TEMP_EN : Field := ⟨.kvcTamperCfg, 8, 8⟩
abbrev kvcTamperCfg_TMP_MODE : Field := ⟨.kvcTamperCfg, 7, 0⟩
abbrev kvcTempLim_TEMP_HI : Field := ⟨.kvcTempLim, 31, 16⟩
abbrev kvcTempLim_TEMP_LO : Field := ⟨.kvcTempLim, 15, 0⟩
abbrev kvcTamperCause_COUNT : Field := ⟨.kvcTamperCause, 63, 56⟩
abbrev kvcTamperCause_SEC : Field := ⟨.kvcTamperCause, 55, 24⟩
abbrev kvcVbat_WARN_MV : Field := ⟨.kvcVbat, 47, 32⟩
abbrev kvcVbat_VBAT_MV : Field := ⟨.kvcVbat, 15, 0⟩
abbrev kvcBlobBase_ADDR : Field := ⟨.kvcBlobBase, 47, 16⟩
abbrev kvcBlobBase_EN : Field := ⟨.kvcBlobBase, 0, 0⟩
abbrev kvcCacheStat_MISSES : Field := ⟨.kvcCacheStat, 63, 32⟩
abbrev kvcCacheStat_EVICTS : Field := ⟨.kvcCacheStat, 31, 16⟩
abbrev kvcCacheUse_PINNED : Field := ⟨.kvcCacheUse, 28, 16⟩
abbrev kvcCacheUse_USED : Field := ⟨.kvcCacheUse, 12, 0⟩
abbrev kvcShare_MIN : Field := ⟨.kvcShare, 26, 16⟩
abbrev vsCfg_LAST_GEN : Field := ⟨.vsCfg, 63, 32⟩
abbrev vsCfg_PART : Field := ⟨.vsCfg, 26, 24⟩
abbrev vsCfg_ATTR : Field := ⟨.vsCfg, 23, 16⟩
abbrev vsCfg_TYPE : Field := ⟨.vsCfg, 15, 8⟩
abbrev vsCfg_PERSIST : Field := ⟨.vsCfg, 4, 4⟩
abbrev vsCfg_BUSYOP : Field := ⟨.vsCfg, 3, 3⟩
abbrev vsCfg_STATE : Field := ⟨.vsCfg, 1, 0⟩
abbrev vsGen_CUR_GEN : Field := ⟨.vsGen, 63, 32⟩
abbrev vsGen_PREV_GEN : Field := ⟨.vsGen, 31, 0⟩
abbrev vsKcv_PREV_KCV : Field := ⟨.vsKcv, 55, 32⟩
abbrev vsKcv_CUR_KCV : Field := ⟨.vsKcv, 23, 0⟩
abbrev vsPins_FORCED : Field := ⟨.vsPins, 63, 60⟩
abbrev vsPins_PREV_PINS : Field := ⟨.vsPins, 51, 32⟩
abbrev vsPins_CUR_PINS : Field := ⟨.vsPins, 19, 0⟩
abbrev hrlCfg_RING_ID : Field := ⟨.hrlCfg, 63, 48⟩
abbrev hrlCfg_PRIO : Field := ⟨.hrlCfg, 43, 40⟩
abbrev hrlCfg_RX_Q : Field := ⟨.hrlCfg, 39, 32⟩
abbrev hrlCfg_RX_QEN : Field := ⟨.hrlCfg, 18, 18⟩
abbrev hrlCfg_QUIET_OK : Field := ⟨.hrlCfg, 17, 17⟩
abbrev hrlCfg_GM_CAPABLE : Field := ⟨.hrlCfg, 16, 16⟩
abbrev hrlCfg_KEY_SLOT : Field := ⟨.hrlCfg, 15, 8⟩
abbrev hrlCfg_AUTH : Field := ⟨.hrlCfg, 1, 1⟩
abbrev hrlCfg_EN : Field := ⟨.hrlCfg, 0, 0⟩
abbrev hrlStat_TURN : Field := ⟨.hrlStat, 63, 32⟩
abbrev hrlStat_GMB : Field := ⟨.hrlStat, 31, 27⟩
abbrev hrlStat_GMA : Field := ⟨.hrlStat, 26, 22⟩
abbrev hrlStat_STEWARD : Field := ⟨.hrlStat, 21, 17⟩
abbrev hrlStat_INDEX : Field := ⟨.hrlStat, 16, 12⟩
abbrev hrlStat_MEMBERS : Field := ⟨.hrlStat, 11, 7⟩
abbrev hrlStat_ROLE : Field := ⟨.hrlStat, 6, 5⟩
abbrev hrlStat_QUIET : Field := ⟨.hrlStat, 4, 4⟩
abbrev hrlStat_BROKEN : Field := ⟨.hrlStat, 3, 3⟩
abbrev hrlStat_STATE : Field := ⟨.hrlStat, 2, 0⟩
abbrev hrlMisc_ROLE_EPOCH : Field := ⟨.hrlMisc, 63, 48⟩
abbrev hrlMisc_KEY_PEND : Field := ⟨.hrlMisc, 33, 33⟩
abbrev hrlMisc_QUIET_PEND : Field := ⟨.hrlMisc, 32, 32⟩
abbrev hrlMisc_QUIET_TURN : Field := ⟨.hrlMisc, 31, 0⟩
abbrev hrlKey_SEND_GEN : Field := ⟨.hrlKey, 63, 32⟩
abbrev hrlKey_SWITCH_TURN : Field := ⟨.hrlKey, 31, 0⟩
abbrev hrlDist_COUNT : Field := ⟨.hrlDist, 38, 36⟩
abbrev hrlDist_DOM : Field := ⟨.hrlDist, 34, 0⟩
abbrev hrlRkp_GAIN : Field := ⟨.hrlRkp, 63, 0⟩
abbrev hrlRki_GAIN : Field := ⟨.hrlRki, 63, 0⟩
abbrev hrlRservo_PER_MS : Field := ⟨.hrlRservo, 15, 0⟩
abbrev hrlTx_NEXT_SEQ : Field := ⟨.hrlTx, 63, 32⟩
abbrev hrlTx_ACKED : Field := ⟨.hrlTx, 31, 0⟩
abbrev hrlLtally_EAST : Field := ⟨.hrlLtally, 15, 0⟩
abbrev hLaneStat_DOWN_SEEN : Field := ⟨.hLaneStat, 7, 7⟩
abbrev hLaneStat_HOP_VALID : Field := ⟨.hLaneStat, 4, 4⟩
abbrev hLaneStat_DLM_VALID : Field := ⟨.hLaneStat, 3, 3⟩
abbrev hLaneStat_LINK : Field := ⟨.hLaneStat, 2, 2⟩
abbrev hLaneStat_PCS_LOCK : Field := ⟨.hLaneStat, 1, 1⟩
abbrev hLaneStat_SIGNAL : Field := ⟨.hLaneStat, 0, 0⟩
abbrev hLaneNbr_NODE_ID : Field := ⟨.hLaneNbr, 63, 0⟩
abbrev hLaneDelay_VALUE : Field := ⟨.hLaneDelay, 63, 0⟩
abbrev hLaneAsym_ASYM : Field := ⟨.hLaneAsym, 63, 0⟩
abbrev hLaneAllow_VALUE : Field := ⟨.hLaneAllow, 63, 0⟩
abbrev nodeId_NODE_ID : Field := ⟨.nodeId, 63, 0⟩
abbrev nodeStat_BOUND : Field := ⟨.nodeStat, 47, 32⟩
abbrev nodeStat_MODE : Field := ⟨.nodeStat, 31, 28⟩
abbrev nodeStat_ROLE : Field := ⟨.nodeStat, 27, 26⟩
abbrev nodeStat_GM_CAPABLE : Field := ⟨.nodeStat, 25, 25⟩
abbrev nodeStat_QUIET_OK : Field := ⟨.nodeStat, 24, 24⟩
abbrev nodeStat_PRIO : Field := ⟨.nodeStat, 23, 20⟩
abbrev nodeStat_OK : Field := ⟨.nodeStat, 19, 19⟩
abbrev nodeStat_DIVERGE : Field := ⟨.nodeStat, 18, 18⟩
abbrev nodeStat_TRACEABLE : Field := ⟨.nodeStat, 17, 17⟩
abbrev nodeStat_UNTAGGED : Field := ⟨.nodeStat, 16, 16⟩
abbrev nodeStat_EAST_LINK : Field := ⟨.nodeStat, 15, 15⟩
abbrev nodeStat_WEST_LINK : Field := ⟨.nodeStat, 14, 14⟩
abbrev nodeStat_VALID : Field := ⟨.nodeStat, 13, 13⟩
abbrev nodeHop_DELAY : Field := ⟨.nodeHop, 63, 32⟩
abbrev nodeHop_ALLOW : Field := ⟨.nodeHop, 31, 0⟩
abbrev nodeTally_MISS : Field := ⟨.nodeTally, 11, 8⟩
abbrev hrlRdom_EN : Field := ⟨.hrlRdom, 7, 7⟩
abbrev hrlRdom_SRC_DOM : Field := ⟨.hrlRdom, 4, 0⟩
abbrev parStat_ESC_IGN : Field := ⟨.parStat, 63, 32⟩
abbrev parStat_RESETTING : Field := ⟨.parStat, 23, 16⟩
abbrev parStat_ENABLED : Field := ⟨.parStat, 7, 0⟩
abbrev parPtCfg_EN : Field := ⟨.parPtCfg, 0, 0⟩
abbrev parDram_MIN : Field := ⟨.parDram, 26, 16⟩
abbrev parBusHung_MASTER : Field := ⟨.parBusHung, 63, 60⟩
abbrev parBusHung_TARGET : Field := ⟨.parBusHung, 59, 56⟩
abbrev parBusHung_WRITE : Field := ⟨.parBusHung, 55, 55⟩
abbrev parBusHung_FUNC : Field := ⟨.parBusHung, 51, 48⟩
abbrev parBusHung_ADDR : Field := ⟨.parBusHung, 47, 0⟩
abbrev parBusCnt_HUNG : Field := ⟨.parBusCnt, 31, 0⟩
abbrev parFnCfg_FAULT_VEC : Field := ⟨.parFnCfg, 26, 16⟩
abbrev parFnStat_DENY : Field := ⟨.parFnStat, 63, 32⟩
abbrev parFnStat_ID_CONFLICT : Field := ⟨.parFnStat, 31, 16⟩
abbrev parFnStat_DUP : Field := ⟨.parFnStat, 15, 0⟩
abbrev ringCfg_VEC : Field := ⟨.ringCfg, 26, 16⟩
abbrev ringCfg_SIZE : Field := ⟨.ringCfg, 11, 8⟩
abbrev ringCfg_HALT : Field := ⟨.ringCfg, 2, 2⟩
abbrev ringCfg_ERR : Field := ⟨.ringCfg, 1, 1⟩
abbrev ringCfg_EN : Field := ⟨.ringCfg, 0, 0⟩
abbrev ringSqIdx_SQ_CONS : Field := ⟨.ringSqIdx, 63, 32⟩
abbrev ringSqIdx_SQ_PROD : Field := ⟨.ringSqIdx, 31, 0⟩
abbrev ringCqIdx_CQ_PROD : Field := ⟨.ringCqIdx, 63, 32⟩
abbrev ringCqIdx_CQ_CONS : Field := ⟨.ringCqIdx, 31, 0⟩
abbrev supFstat0_D : Field := ⟨.supFstat0, 63, 0⟩
abbrev supCtl_CB_LIMIT : Field := ⟨.supCtl, 63, 48⟩
abbrev supCtl_HB_MS : Field := ⟨.supCtl, 47, 32⟩
abbrev supCtl_HB_EN : Field := ⟨.supCtl, 3, 3⟩
abbrev supCtl_SAFE_HOLD : Field := ⟨.supCtl, 2, 2⟩
abbrev supCtl_NFAULT : Field := ⟨.supCtl, 1, 1⟩
abbrev supCtl_COLL_PAR : Field := ⟨.supCtl, 0, 0⟩
abbrev supAon_LAST_FS : Field := ⟨.supAon, 47, 40⟩
abbrev supAon_RST_CNT : Field := ⟨.supAon, 39, 32⟩
abbrev supAon_ESCALATED : Field := ⟨.supAon, 1, 1⟩
abbrev supAon_CLK_NO_FALLBACK : Field := ⟨.supAon, 0, 0⟩
abbrev supLedgerStat_LEDGER_LOST : Field := ⟨.supLedgerStat, 63, 32⟩
abbrev supLedgerStat_LEDGER_DROP : Field := ⟨.supLedgerStat, 31, 0⟩
abbrev supLq_EN : Field := ⟨.supLq, 9, 9⟩
abbrev supLq_QUEUE : Field := ⟨.supLq, 7, 0⟩
abbrev supReact_BLK_OK : Field := ⟨.supReact, 6, 6⟩
abbrev supReact_SAFE : Field := ⟨.supReact, 5, 5⟩
abbrev supReact_ERRPIN : Field := ⟨.supReact, 4, 4⟩
abbrev supReact_CHIP_RESET : Field := ⟨.supReact, 3, 3⟩
abbrev supReact_BLOCK_RESET : Field := ⟨.supReact, 2, 2⟩
abbrev supReact_NMI : Field := ⟨.supReact, 1, 1⟩
abbrev supReact_INT : Field := ⟨.supReact, 0, 0⟩
abbrev supFcnt_PULSES : Field := ⟨.supFcnt, 15, 0⟩
abbrev supPfstat_S_or_L : Field := ⟨.supPfstat, 63, 0⟩
abbrev supPflive_S_or_L : Field := ⟨.supPflive, 63, 0⟩
abbrev supSnapCtl_SEQ : Field := ⟨.supSnapCtl, 63, 32⟩
abbrev supSnapCtl_S : Field := ⟨.supSnapCtl, 21, 21⟩
abbrev supSnapCtl_L : Field := ⟨.supSnapCtl, 20, 20⟩
abbrev supSnapCtl_DOMAIN : Field := ⟨.supSnapCtl, 16, 12⟩
abbrev supSnapCtl_SLOT : Field := ⟨.supSnapCtl, 11, 0⟩
abbrev supBseq_SEQ : Field := ⟨.supBseq, 47, 0⟩
abbrev tbCfg_HALF_VEC : Field := ⟨.tbCfg, 50, 40⟩
abbrev tbCfg_PART : Field := ⟨.tbCfg, 34, 32⟩
abbrev tbCfg_SMP_THREAD : Field := ⟨.tbCfg, 6, 0⟩
abbrev tbStat_SMP_SKIP : Field := ⟨.tbStat, 63, 32⟩
abbrev tbStat_CFG_ERR : Field := ⟨.tbStat, 15, 8⟩
abbrev tbStat_HALF : Field := ⟨.tbStat, 7, 0⟩
abbrev tbCtl_EN : Field := ⟨.tbCtl, 63, 63⟩
abbrev tbCtl_MODE : Field := ⟨.tbCtl, 62, 61⟩
abbrev tbCtl_CHAIN : Field := ⟨.tbCtl, 60, 60⟩
abbrev tbCtl_WIN_LOG : Field := ⟨.tbCtl, 59, 55⟩
abbrev tbCtl_PERIOD : Field := ⟨.tbCtl, 47, 24⟩
abbrev tbCtl_INSTANCE : Field := ⟨.tbCtl, 23, 16⟩
abbrev tbCtl_BLOCK : Field := ⟨.tbCtl, 15, 8⟩
abbrev tbCtl_EVENT : Field := ⟨.tbCtl, 7, 0⟩
abbrev tbCnt_COUNT : Field := ⟨.tbCnt, 47, 0⟩
abbrev tbPeak_COUNT : Field := ⟨.tbPeak, 47, 0⟩
abbrev cpxMode_CAUSE : Field := ⟨.cpxMode, 47, 32⟩
abbrev cpxMode_PREV : Field := ⟨.cpxMode, 23, 20⟩
abbrev cpxMode_MODE : Field := ⟨.cpxMode, 3, 0⟩
abbrev cpxBoot_WARM_CAUSE : Field := ⟨.cpxBoot, 47, 40⟩
abbrev cpxBoot_RESET_KIND : Field := ⟨.cpxBoot, 39, 39⟩
abbrev cpxBoot_TRIES_B : Field := ⟨.cpxBoot, 35, 32⟩
abbrev cpxBoot_TRIES_A : Field := ⟨.cpxBoot, 31, 28⟩
abbrev cpxBoot_CONFIRMED : Field := ⟨.cpxBoot, 7, 7⟩
abbrev cpxBoot_FALLBACK : Field := ⟨.cpxBoot, 6, 6⟩
abbrev cpxBoot_PENDING : Field := ⟨.cpxBoot, 5, 5⟩
abbrev cpxBoot_SETTINGS_DEFAULT : Field := ⟨.cpxBoot, 4, 4⟩
abbrev cpxBoot_MIGRATED : Field := ⟨.cpxBoot, 3, 3⟩
abbrev cpxBoot_CHAIN_STALE : Field := ⟨.cpxBoot, 2, 2⟩
abbrev cpxBoot_SLOT : Field := ⟨.cpxBoot, 0, 0⟩
abbrev cpxImg_VERSION : Field := ⟨.cpxImg, 63, 32⟩
abbrev cpxImg_SFMT : Field := ⟨.cpxImg, 31, 16⟩
abbrev cpxImg_SVN : Field := ⟨.cpxImg, 15, 8⟩
abbrev cpxImg_CSIG : Field := ⟨.cpxImg, 2, 2⟩
abbrev cpxImg_VERIFIED : Field := ⟨.cpxImg, 1, 1⟩
abbrev cpxImg_PRESENT : Field := ⟨.cpxImg, 0, 0⟩
abbrev cpxOwner_OWNER_SEQ : Field := ⟨.cpxOwner, 63, 32⟩
abbrev cpxOwner_MIN_SVN : Field := ⟨.cpxOwner, 15, 8⟩
abbrev cpxOwner_CSIG_REQ : Field := ⟨.cpxOwner, 3, 3⟩
abbrev cpxOwner_OWNER_LOCK : Field := ⟨.cpxOwner, 2, 2⟩
abbrev cpxOwner_PT0_KEY : Field := ⟨.cpxOwner, 1, 1⟩
abbrev cpxOwner_OWNER_SET : Field := ⟨.cpxOwner, 0, 0⟩
abbrev cpxUpd_WRITTEN : Field := ⟨.cpxUpd, 63, 32⟩
abbrev cpxUpd_STATE : Field := ⟨.cpxUpd, 2, 0⟩
abbrev pwrClkStat_AON_FAIL : Field := ⟨.pwrClkStat, 31, 31⟩
abbrev pwrClkStat_CORE_ON_IRC : Field := ⟨.pwrClkStat, 15, 15⟩
abbrev pwrClkStat_SUP_ON_IRC : Field := ⟨.pwrClkStat, 14, 14⟩
abbrev pwrClkStat_REF_SYS : Field := ⟨.pwrClkStat, 13, 13⟩
abbrev pwrClkStat_CPLL_SEL : Field := ⟨.pwrClkStat, 12, 12⟩
abbrev pwrClkStat_SYN0_REF : Field := ⟨.pwrClkStat, 11, 11⟩
abbrev pwrClkStat_TSE_PROVEN : Field := ⟨.pwrClkStat, 7, 7⟩
abbrev pwrClkStat_LO_PROVEN : Field := ⟨.pwrClkStat, 6, 6⟩
abbrev pwrClkStat_IRC_PROVEN : Field := ⟨.pwrClkStat, 5, 5⟩
abbrev pwrClkStat_SYSXO_PROVEN : Field := ⟨.pwrClkStat, 4, 4⟩
abbrev pwrClkStat_IRC_RUN : Field := ⟨.pwrClkStat, 3, 3⟩
abbrev pwrClkCfg_IRC_IDLE : Field := ⟨.pwrClkCfg, 1, 1⟩
abbrev pwrClkCfg_RETURN_AUTO : Field := ⟨.pwrClkCfg, 0, 0⟩
abbrev pwrClkCnt_LATE_REF : Field := ⟨.pwrClkCnt, 63, 48⟩
abbrev pwrClkCnt_SWITCHES : Field := ⟨.pwrClkCnt, 47, 32⟩
abbrev pwrClkCnt_SYSXO_TRIPS : Field := ⟨.pwrClkCnt, 31, 16⟩
abbrev pwrClkCnt_IRC_TRIPS : Field := ⟨.pwrClkCnt, 15, 0⟩
abbrev pwrIrc_ERR_PPM : Field := ⟨.pwrIrc, 47, 32⟩
abbrev pwrIrc_TRIM_SRC : Field := ⟨.pwrIrc, 17, 16⟩
abbrev pwrIrc_TRIM_HOLD : Field := ⟨.pwrIrc, 10, 10⟩
abbrev pwrIrc_TRIM : Field := ⟨.pwrIrc, 9, 0⟩
abbrev pwrFmcCtl_STATE : Field := ⟨.pwrFmcCtl, 61, 60⟩
abbrev pwrFmcRes_COUNT : Field := ⟨.pwrFmcRes, 63, 0⟩
abbrev pwrDvfs_CHANGES : Field := ⟨.pwrDvfs, 31, 16⟩
abbrev pwrDvfs_THERM_CAP : Field := ⟨.pwrDvfs, 13, 12⟩
abbrev pwrDvfs_STATE : Field := ⟨.pwrDvfs, 10, 8⟩
abbrev pwrDvfs_CUR : Field := ⟨.pwrDvfs, 5, 4⟩
abbrev pwrDvfs_TARGET : Field := ⟨.pwrDvfs, 1, 0⟩
abbrev pwrPmbVcode_P0 : Field := ⟨.pwrPmbVcode, 63, 48⟩
abbrev pwrPmbVcode_P1 : Field := ⟨.pwrPmbVcode, 47, 32⟩
abbrev pwrPmbVcode_P2 : Field := ⟨.pwrPmbVcode, 31, 16⟩
abbrev pwrPmbVcode_P3 : Field := ⟨.pwrPmbVcode, 15, 0⟩
abbrev pwrTherm_TJ_CRIT : Field := ⟨.pwrTherm, 47, 32⟩
abbrev pwrTherm_TJ_WARN : Field := ⟨.pwrTherm, 31, 16⟩
abbrev pwrTherm_HYST : Field := ⟨.pwrTherm, 15, 0⟩
abbrev pwrTemp_TJ_MAX : Field := ⟨.pwrTemp, 47, 32⟩
abbrev pwrTemp_TJ_PEAK : Field := ⟨.pwrTemp, 31, 16⟩
abbrev pwrTemp_HOT : Field := ⟨.pwrTemp, 2, 0⟩
abbrev pwrWearCfg_LEAD_MONTHS : Field := ⟨.pwrWearCfg, 15, 0⟩
abbrev pwrStress_POWER_HOURS : Field := ⟨.pwrStress, 63, 32⟩
abbrev pwrStress_TJ_EQ : Field := ⟨.pwrStress, 15, 0⟩
abbrev pwrWear_VALUE : Field := ⟨.pwrWear, 31, 0⟩
abbrev pwrEol_MONTHS : Field := ⟨.pwrEol, 31, 16⟩
abbrev pwrEol_LOW_MONTHS : Field := ⟨.pwrEol, 15, 0⟩

end Sys2Proof.Machine.F
end

