-- ==== Sys2Proof/Config.lean ====
section
/-! DEFINITION. What a unit or its surroundings fix and the spec leaves open: constants with no body, so that nothing can be
proved of their values, and the plain constants of the spec. -/
namespace Sys2Proof.Config

/-- A value the spec leaves open, drawn anew at every use: `State.freeCtr` is the draw's number. -/
opaque freeValue : Nat → Nat

/-- The 1σ of a HOLD solution in ticks: the solution's own joined with that of the held position in mm, projected onto time. R192
names neither the projection nor the way they join. -/
opaque holdSigma : Nat → Nat → Nat

/-- SHA-384 of a byte string (its algorithm is FIPS 180-4's, outside the spec). -/
opaque sha384 : List Byte → BitVec 384

/-- AES-CMAC of a message under a key (R37, R339, R449, R536). -/
opaque cmac : List Byte → List Byte → BitVec 128

/-- HMAC-SHA-256 of a message under a key (R540, R541). -/
opaque hmac : List Byte → List Byte → BitVec 256

/-- The key stream that AES-256-GCM lays over a blob's material: key and IV (R542). -/
opaque gcmStream : List Byte → List Byte → BitVec 384

/-- The tag of AES-256-GCM: key, IV, additional data, ciphertext (R542). -/
opaque gcmTag : List Byte → List Byte → List Byte → List Byte → BitVec 128

/-- The tag (S2V) of AES-SIV-CMAC-256: key, associated data, plaintext (R489, R493). -/
opaque sivTag : List Byte → List (List Byte) → List Byte → BitVec 128

/-- Byte i of the key stream of AES-SIV-CMAC-256 for a tag. -/
opaque sivStream : List Byte → BitVec 128 → Nat → BitVec 8

/-- H1 and H2 of an association's key under the hash key (R510). -/
opaque assocHash : Nat → List Byte → Nat × Nat

/-- The keyed hash of a client address that chooses its police line and tag (R517). -/
opaque policeHash : Nat → List Byte → Nat

/-- The MAC address of a port of the device. -/
opaque portMac : Nat → Nat

/-- The MAC address to which a port sends for a network address, as address resolution answers (R394). -/
opaque neighbour : Nat → List Byte → Nat

/-- The public point x, y of a private scalar on P-256 or P-384, by the bytes of a coordinate (R541). -/
opaque ecdsaPub : Nat → Nat → BitVec 768

/-- The keyed hash of a command's opcode, LEN and payload (R647). -/
opaque cmdHash : Nat → List Byte → BitVec 64

/-- An ECDSA signature r, s of a digest on P-256 or P-384 (by the bytes of a coordinate), by a key, with fresh generator output
(R561, R738). -/
opaque ecdsa : Nat → Nat → Nat → Nat → BitVec 768

/-- A signature r, s over a SHA-384 digest verifies under a P-384 point x, y (R343, R715, R731). -/
opaque ecdsaVerify : Nat → BitVec 384 → Nat → Bool

/-- The Premiaris signing key that a VENDOR_KEY_ID names; none where the boot ROM holds no such hash (R715). -/
opaque vendorKey : Nat → Option Nat

/-- The Premiaris provisioning key of the boot ROM (R731). -/
opaque provKey : Nat

/-- The version of the boot ROM, as it measures it (R723). -/
opaque romVersion : List Byte

/-- The owner record's 256 bytes (R730 gives no layout): OWNER_SET, OWNER_LOCK, CSIG_REQ, OWNER_SEQ, owner key, PT0 key. -/
opaque ownerBytes : Bool → Bool → Bool → Nat → Nat → Nat → List Byte

/-- The public point of the leaf of a DER certificate chain; that each certificate verifies under the next (R744). -/
opaque certKey : List Byte → Nat
opaque certsOk : List Byte → Bool

/-- The digest of a settings store copy after its migration to another format, and its contents (R728). -/
opaque migrated : BitVec 384 → Nat → BitVec 384
opaque migratedBody : Settings → Nat → Settings

/-- The settings that a factory settings component holds (R714, R728). -/
opaque factorySettings : List Byte → Settings

/-- The silicon revision and the JEP106 identity of IDCODE (R805). -/
opaque siliconRev : Nat
opaque jep106 : Nat

/-- The fuse node ID of this device (R731, R738). -/
opaque fuseNodeId : Nat

/-- The fuse words, as the boot ROM measures them (R723). -/
opaque fuseWords : List Byte

/-- SVN fused as the minimum at manufacture (CPX_OWNER.MIN_SVN). -/
opaque fuseMinSvn : Nat

/-- The fused pad delay of an event output in a standard, in ticks (EVOv_FUSE). -/
opaque fusePadDelay : Nat → Nat → Nat

/-- The fused path delays of an input, rise and fall, in ticks (INn_FUSE_DLY). -/
opaque fusePathDelay : Nat → Bool → Nat

/-- The factory pad loop-back delay of a source of R121 other than a REFIN, in ticks. -/
opaque loopDelay : Nat → Nat

/-- The factory-fused latency of a lane in a lane mode, in ticks; the flag selects transmit (R398). -/
opaque laneFuse : Nat → Nat → Bool → Int

/-- The source address of the export port (R430). -/
opaque exportMac : Nat

/-- exp(−Ea / (k · Tj)) of a reading in 1/16 °C, as the stress monitor counts it (R777). -/
opaque arrhenius : Int → Nat

/-- The temperature, in 1/16 °C, whose weight is the mean of a sum over a number of readings (R777). -/
opaque arrheniusInv : Nat → Nat → Nat

/-- Ticks of one nanosecond (R1). -/
abbrev nsTicks : Nat := 262144

/-- Ticks of one second (R3). -/
abbrev secTicks : Nat := 262144000000000

/-- The bound that means UNBOUNDED (R5). -/
abbrev unb : Nat := 0xffffffffffffffff

/-- Units u = 1/(5 · 2^36) tick in one tick (R62). -/
abbrev uPerTick : Nat := 343597383680

/-- The nominal advance of one CLK_TSE cycle in units u (R62). -/
abbrev nomAdvance : Nat := 72057594037927936

/-- CLK_TSE cycles between bound updates (R28). -/
abbrev boundPeriod : Nat := 1250

end Sys2Proof.Config
end

