-- ==== Sys2Proof/Machine/State.lean ====
section
/-! DEFINITION. The state of the block as plain data: the register file, and the state that the spec implies behind it. -/
namespace Sys2Proof.Machine

/-- No command of this block ends in a fault: the type has the one constructor below, which nothing raises. Safe. -/
inductive Fault
  | unused
  deriving DecidableEq, Repr

/-- Why a command has no meaning. Raised by `exec` alone, for a row not modelled. Safe. -/
inductive Refusal
  | notModelled (mnemonic : String)
  deriving DecidableEq, Repr

/-- Status codes (R16). -/
inductive Status
  | ok | busy | badArg | refusedMode | refusedOwner | refusedBattery | noKey | keyGone | verifyFail
  | duplicate | timeout | partitionDenied | escrowConflict | late
  deriving DecidableEq, Repr

/-- The modes of R21, with the boot-halted state. -/
inductive Mode
  | reset | boot | calibrate | acquire | track | holdover | freerun | steer | standby | service | safe | sealed | halted
  deriving DecidableEq, Repr

/-! ### Standard Tuidan FIFO (R816) -/

structure Fifo where
  /-- whole entries waiting whose first word has not been taken -/
  items : List (List Word) := []
  /-- words still to be taken of the entry being read -/
  cur : List Word := []
  lastEnd : Bool := false
  /-- upper halves held for requesters that read by 32-bit halves -/
  half : Tab Word := []
  deriving DecidableEq, Repr

/-! ### What leaves the block -/

/-- Everything the block gives to the outside world. `State.out` lists it, newest first. -/
inductive Out
  | completion (fn ring cmdId status opcode flags orig resultLen sqIndex : Nat) (result : List Byte)
  | reply (thread status : Nat) (result : List Byte)
  | msix (fn vec addr data : Nat)
  | nmi (cause detail : Nat)
  | readData (m : Master) (data : Word)
  | unsupported (m : Master)
  | frame (port : Nat) (bytes : List Byte) (badFcs : Bool)
  | portFrame (port kind ident : Nat) (t bound : Nat)
  | hinge (lane : Nat) (bytes : List Byte)
  | evoEdge (v : Nat) (level : Bool) (t : Int)
  | clkStretch (o cycles : Nat)
  | gppsEdge (rxc : Nat)
  | dmaWrite (addr : Nat) (what : Nat) (bytes : List Byte)
  | pmbus (command value : Nat)
  | ledgerPost (queue : Nat)
  | quote (channel : Nat) (words : List Nat)
  | tms (v : Nat)
  | ntske (svc : Nat) (cookies : List (List Byte))
  deriving DecidableEq, Repr

/-! ### TSE (02_timescale.md) -/

/-- Domain kinds (R54). -/
inductive DomKind | off | ref | ring | derived | steered | free
  deriving DecidableEq, Repr

/-- Domain states (R57). -/
inductive DomState | off | stopped | running | held
  deriving DecidableEq, Repr

/-- A provenance link: kind [15:12], identifier [11:0] (R84). -/
structure Link where
  kind : Nat
  id : Nat
  deriving DecidableEq, Repr

/-- A time domain. `acc` counts units u of R62 (the own offset, for a DERIVED domain). -/
structure Dom where
  kind : DomKind := .off
  st : DomState := .off
  owner : Nat := 0
  parent : Nat := 0
  acc : Int := 0
  unseeded : Bool := true
  /-- UNBOUNDED set by R59, until a seed or the source re-establishes the bound -/
  lost : Bool := true
  /-- the bound of the last update (R28), `Config.unb` for UNBOUNDED -/
  bound : Nat := 0xffffffffffffffff
  traceable : Bool := false
  hold : Bool := false
  /-- DOM_HOLD_T: microseconds since HOLD was set -/
  holdT : Nat := 0
  /-- microseconds since the last write of BC_SRC or the last seed (t_w of R79) -/
  tw : Nat := 0
  foff : Int := 0
  foffSat : Bool := false
  /-- remaining slew in units u (R64) -/
  rem : Int := 0
  slewMax : Nat := 72057594
  bcSrc : Nat := 0
  bcRef : Nat := 0
  bcServo : Nat := 0
  bcBook : Nat := 0
  bookUnc : Nat := 0
  dfu : Nat := 0
  age : Nat := 0
  tc : Nat := 0
  tint : Nat := 0
  b0 : Nat := 0
  /-- BC_SRC + BC_REF + BC_SERVO at the last update (DOM_HOLD_B0 takes it when HOLD is set) -/
  sumLast : Nat := 0
  /-- the full chain of links, nearest first -/
  prov : List Link := []
  /-- what steps and seeds of the present cycle have added to the value, in units u: a capture leaves it out (R67, R73) -/
  moved : Int := 0
  deriving DecidableEq, Repr

/-- Alarm action kinds (R88); `none` is the slot that was never armed. -/
inductive AlarmKind
  | none | evoEdge | emuOpen | emuClose | tsvEmit | escrowCommit | tallySnap | dsqWake | slwClose | leap | hostInt | qput
  | servoClose
  deriving DecidableEq, Repr

/-- Alarm slot states (ALMs_CTL.STATE). -/
inductive AlarmState | free | armed | fired | cancelled
  deriving DecidableEq, Repr

/-- An alarm slot. -/
structure Alarm where
  st : AlarmState := .free
  part : Nat := 0
  dom : Nat := 0
  inst : Nat := 0
  kind : AlarmKind := .none
  target : Nat := 0
  period : Nat := 0
  /-- late policy: FIRE -/
  fire : Bool := false
  missed : Nat := 0
  fires : Nat := 0
  sFlag : Bool := false
  lFlag : Bool := false
  cancelLate : Bool := false
  lateness : Nat := 0
  /-- order of acceptance (R92) -/
  seq : Nat := 0
  /-- armed at an instant already past: fires in the next cycle with L (R90) -/
  lateArm : Bool := false
  /-- a slot held continuously: the wait slot of a started thread (R35) -/
  pinned : Bool := false
  /-- armed at the end of the present cycle: the alarm that it replaces is due in it (R95) -/
  armEnd : Bool := false
  deriving DecidableEq, Repr

/-- An alarm that is due in the present cycle: its slot, the alarm as it stood, its lateness, and whether a step made it due. -/
structure Due where
  slot : Nat
  al : Alarm
  lat : Nat
  step : Bool
  deriving DecidableEq, Repr

/-- What a capture of a domain holds for one requester (R70). -/
structure Cap where
  sec : Word := 0
  sub : Word := 0
  bound : Word := 0xffffffffffffffff
  state : Word := 0xc00
  prov : Word := 0
  utc : Word := 0
  deriving DecidableEq, Repr

structure Tse where
  doms : Tab Dom := [(0, { kind := .ref, st := .stopped })]
  alarms : Tab Alarm := []
  /-- alarms due in the present cycle, in the order of R92 -/
  due : List Due := []
  /-- escrows whose immediate commit was accepted (R96), in order of acceptance -/
  imm : List Nat := []
  /-- tally banks copied in the present cycle (R690) -/
  snapped : List Nat := []
  /-- the orders of acceptance of the alarms that have fired in the present cycle (R95) -/
  firedNow : List Nat := []
  /-- the bits that direct writes of the present cycle have written, by bus address (R34) -/
  direct : Tab Word := []
  /-- next order of acceptance -/
  seq : Nat := 1
  /-- capture sets, by requester · 32 + domain (R70) -/
  caps : Tab Cap := []
  /-- CLK_TSE cycles since the last bound update -/
  usPhase : Nat := 0
  /-- the model's own: CLK_TSE cycles that have passed, which give placed edges a common scale -/
  cyc : Nat := 0
  /-- FOFF and slew applied to D0 so far, in units u (R211) -/
  steer : Int := 0
  /-- D0 has been stepped or seeded since the ADPLL's last ALIGN_ERR, by ADPLL bit (R277) -/
  d0Moved : Nat := 0
  deriving DecidableEq, Repr

/-! ### RIM (03_reference_inputs.md) -/

/-- What a fast gate of a frequency monitor has counted (R114): prescaled edges, the span on D0 from the last edge before the gate
to its first, and from its first to its last, in units u, and the gate's length in ticks. -/
structure FmGate where
  e : Nat := 0
  lead : Nat := 0
  span : Nat := 0
  len : Nat := 0
  deriving DecidableEq, Repr

/-- The monitors of an input behind INn_STAT. -/
structure InMon where
  /-- an edge has come since the restart -/
  seen : Bool := false
  /-- the time for which the frequency monitor's accept condition has held, in ticks (R115) -/
  hold : Nat := 0
  /-- the activity monitor has stood ACCEPTED since the running fast gate began (R115) -/
  held : Bool := false
  /-- selected edges that the prescaler still withholds (R110) -/
  pre : Nat := 0
  /-- CLK_TSE cycles since the last prescaled edge, as far as the edges withheld since tell -/
  gap : Nat := 0
  /-- the running fast gate, and those of the last HOLD_S seconds, newest first (R114) -/
  cur : FmGate := {}
  gates : List FmGate := []
  deriving DecidableEq, Repr

/-- An edge that an EMU has taken: its time in ticks on the window's domain, and the domain's bound in its cycle. -/
structure EmuEdge where
  t : Int
  bound : Nat
  /-- what FOFF and slew had added to D0 by then, in ticks (R211) -/
  steer : Int := 0
  deriving DecidableEq, Repr

/-- An EMU behind its registers: the flags of its open window, what it has taken, and its read FIFO. -/
structure Emu where
  sFlag : Bool := false
  lFlag : Bool := false
  cut : Bool := false
  extra : Nat := 0
  start : Option EmuEdge := none
  stop : Option EmuEdge := none
  /-- the CLK_TSE cycle in which the window opened (R123) -/
  openCyc : Nat := 0
  fifo : Fifo := {}
  /-- a result has been dropped since one last entered the FIFO, and the Dravik queue (R146) -/
  lostF : Bool := false
  lostQ : Bool := false
  deriving DecidableEq, Repr

/-- A TDC behind its registers: the attempt that runs, the checked table (hits by phase, hits by bin), and whether no result has
been produced with the table in use. -/
structure Tdc where
  attempt : Nat := 0
  table : Option (List Nat × List Nat) := none
  fresh : Bool := false
  deriving DecidableEq, Repr

structure Rim where
  mons : Tab InMon := []
  emus : Tab Emu := []
  tdcs : Tab Tdc := []
  deriving DecidableEq, Repr

/-! ### GNB (04_gnss_baseband.md) -/

/-- A sample port: consecutive gates passed, and whether the gate that runs is not judged (R157). -/
structure Gsp where
  pass : Nat := 0
  skip : Bool := true
  deriving DecidableEq, Repr

/-- The result of an acquisition search (R164). -/
structure AcqRes where
  signal : Nat
  sv : Nat
  found : Bool
  phase : Nat
  doppler : Int
  deriving DecidableEq, Repr

/-- A GPPS schedule: SEC, EDGE_RXC, QERR, SIGMA, PATH_ALLOW and the low half of M3 (R183–R186). -/
structure Sched where
  sec : Nat
  edge : Nat
  qerr : Int
  sigma : Nat
  allow : Nat
  flags : Nat
  deriving DecidableEq, Repr

structure Gnb where
  gsp : Tab Gsp := []
  /-- GNB_RXC of the last gate judged, and of the last epoch -/
  gateAt : Option Nat := none
  epochAt : Option Nat := none
  /-- the code phase and Doppler from which each channel started (R166, R168) -/
  start : Tab (Nat × Int) := []
  /-- D29* and D30* for the next LNAV word of each channel (R174) -/
  lnav : Tab Nat := []
  /-- the signals used in the solution, by SIG_EN bit (R198) -/
  used : Nat := 0
  acq : Option AcqRes := none
  /-- epochs latched so far -/
  epoch : Nat := 0
  /-- the words of the measurement banks, by byte offset from 0x1_0000 -/
  bank : Tab Word := []
  measPer : Nat := 100
  acqSpan : Nat := 6000
  navf : Fifo := {}
  tapf : Fifo := {}
  /-- a record has been dropped since one last entered NAVF, and TAPF -/
  navLost : Bool := false
  tapLost : Bool := false
  sched : Option Sched := none
  /-- EDGE_RXC of the previous edge, where it can be measured from (R184) -/
  prev : Option Nat := none
  /-- the next timing message carries RESYNC -/
  resync : Bool := false
  seq : Nat := 0
  /-- the captured timing message words, by requester · 4 + word -/
  tcap : Tab Word := []
  /-- a VALID timing message has arrived, and none for 2 s since (R200) -/
  seenValid : Bool := false
  solLost : Bool := false
  survMin : Nat := 3600
  survTgt : Nat := 300
  survMax : Nat := 86400
  /-- GNB_RXC at the start of the survey -/
  survAt : Nat := 0
  /-- the 1σ of the candidate, in mm -/
  candUnc : Nat := 0
  /-- the last restart was cold -/
  coldStart : Bool := true
  deriving DecidableEq, Repr

/-! ### RSH (05_selection_holdover.md) -/

/-- A timing message of GNB: words M0 to M3 (R186). -/
structure TMsg where
  m0 : Nat := 0
  m1 : Nat := 0
  m2 : Nat := 0
  m3 : Nat := 0
  deriving DecidableEq, Repr

/-- A valid phase sample: measured instant on D0, p in ticks, BC_SRC and BC_REF, D0's applied FOFF and slew so far (ticks), and
the source's frequency estimate in units of 2^-56. -/
structure Sample where
  inst : Int
  p : Int
  src : Nat
  ref : Nat
  steer : Int := 0
  rate : Int := 0
  /-- it arrived before the last close (R216) -/
  old : Bool := false
  deriving DecidableEq, Repr

/-- What RSH keeps of a candidate behind its registers. -/
structure Cand where
  /-- valid samples since they were last used, oldest first -/
  smp : List Sample := []
  /-- D0's time at which MON_OK rose, none while it is clear (R208) -/
  upAt : Option Int := none
  /-- consecutive periods without a valid sample -/
  miss : Nat := 0
  /-- consecutive agreeing periods -/
  agree : Nat := 0
  /-- milliseconds left in QUALIFYING -/
  qualMs : Nat := 0
  /-- milliseconds QUALIFIED without interruption -/
  since : Nat := 0
  deriving DecidableEq, Repr

/-- An anchor of the model cross-check (R211): phase against the unsteered oscillator, instant, temperature integral in mK·s. -/
structure Chk where
  q : Int
  inst : Int
  tint : Nat
  deriving DecidableEq, Repr

/-- A calibration of the C-field gain that runs (R250): its step, whether the second step runs, i at the start of the present
step, and the change of i over the first. -/
structure GainCal where
  step : Int
  second : Bool
  i0 : Int
  di : Int
  deriving DecidableEq, Repr

structure Rsh where
  cand : Tab Cand := []
  /-- the candidate that the loop follows, 0x1f for none -/
  cur : Nat := 0x1f
  /-- a booking waits for the first valid sample -/
  bookPend : Bool := false
  /-- the candidate before the switch that is to be booked (R225) -/
  bookFrom : Nat := 0x1f
  /-- i, and f, is saturated (R218) -/
  iSat : Bool := false
  fSat : Bool := false
  /-- D0's time at the last close -/
  closeAt : Int := 0
  /-- the sum of FOFF over the CLK_TSE cycles in LOCKED since the last learned period, and their number (R227) -/
  learnFoff : Int := 0
  learnCyc : Nat := 0
  /-- |e| of the last 64 updates, newest first (R219) -/
  errs : List Nat := []
  /-- updates for which R219 still takes the oscillator's tolerance -/
  seedN : Nat := 0
  /-- learned periods, newest first: milliseconds, mean FOFF, θ in 2^-16 mK (R227) -/
  learn : List (Nat × Int × Int) := []
  /-- seconds since HOLD was set -/
  holdS : Nat := 0
  /-- FAVG, AAVG and θ_ref (2^-16 mK) that holdover goes by -/
  holdF : Int := 0
  holdA : Int := 0
  holdTh : Int := 0
  chk : Option Chk := none
  /-- a timing message that waits for its EMU result (R204) -/
  tmsg : Option TMsg := none
  /-- the constellations of the last GNSS sample -/
  consts : Nat := 0
  /-- SERVICE has suspended selection (R226) -/
  suspended : Bool := false
  gain : Option GainCal := none
  /-- compliance samples in a row with CODE_CMD 1 % below the limit (R240) -/
  satClear : Nat := 0
  /-- monitor channels outside their limits (R244), a mask -/
  monBad : Nat := 0
  /-- sums of the day and daily means of channel 0, channel 1 and CODE_OUT (R247) -/
  dayN : Nat := 0
  daySum : Tab Nat := []
  days : Tab (List Nat) := []
  deriving DecidableEq, Repr

/-! ### SYN (06_synthesis_outputs.md) -/

/-- What an ADPLL holds behind its registers. Phase counts in 1/(5 · 2^36 · 5^10) tick. -/
structure Adpll where
  /-- the target phase as time (R255), shifted by the steps slewed into it -/
  phase : Int := 0
  /-- PSTEP_REM exactly -/
  rem : Int := 0
  /-- the bit of the band that a search decides next, from 7 downwards, then 8 for the verification -/
  bit : Nat := 0
  /-- the band memory entry hopped to or locked on -/
  mem : Option Nat := none
  /-- the target phase at the start of the phase monitor -/
  pm0 : Int := 0
  /-- prescaled reference edges since the start of the phase monitor -/
  edges : Nat := 0
  /-- what has been slewed out of the target phase since the start of the phase monitor (R268) -/
  slewed : Int := 0
  /-- the edge grid of the outputs against the target phase: the whole f_S periods that SYN_ALIGN JUMP has moved it by (R276) -/
  grid : Int := 0
  /-- the phase monitor has tripped and LOCKED has not been reached since (R296) -/
  tripped : Bool := false
  deriving DecidableEq, Repr

/-- The settings an output has taken up (R280): OUTo_CFG and OUTo_DIV; whether it toggles, and the instant, in fine units of D0, of
the first rising edge that its divider was preset to (R275). -/
structure ClkOut where
  cfg : Word := 0
  div : Word := 8
  on : Bool := false
  first : Option Int := none
  deriving DecidableEq, Repr

structure Syn where
  adplls : Tab Adpll := []
  outs : Tab ClkOut := []
  /-- the placement of the last transition of each EVO, in interpolator steps (R287) -/
  evoLast : Tab (Option Int) := []
  /-- the orders of acceptance of the leading and the trailing alarm that SYN_EVO_ARM armed for each EVO (R290, R294) -/
  evoSeq : Tab (Nat × Nat) := []
  /-- the EVOs disarmed while an edge of theirs was due: they go to IDLE_LEVEL after it (R294), a mask -/
  evoPark : Nat := 0
  deriving DecidableEq, Repr

/-! ### DSQ (07_dravik_isa.md, 08_dravik_execution.md) -/

/-- A time register with its tag and bound (R298): the time as a tick count (R3). -/
structure TReg where
  t : Nat := 0
  dom : Nat := 0
  b : Nat := 0xffffffffffffffff
  deriving DecidableEq, Repr

/-- What a thread in WAIT_REPLY waits for: nothing; results that are ready to be written (G registers, time registers, and the
flags as they then stand); its access at the port; the completion of a device command (gd, address, opcode). -/
inductive Await
  | none
  | result (g : List (Nat × Word)) (tr : List (Nat × TReg)) (flags : Nat)
  | bus
  | cmd (gd addr op : Nat)
  deriving DecidableEq, Repr

/-- What a thread holds behind its registers. -/
structure Thr where
  tr : Tab TReg := []
  /-- the engine cycle before which it does not issue again (R354) -/
  cool : Nat := 0
  /-- threads that must issue before a yielded thread is ready (R336) -/
  yield : List Nat := []
  /-- Gd of the TWAIT, QGET or QPUT that waits -/
  gd : Nat := 0
  await : Await := .none
  /-- PC of the instruction that waits -/
  at' : Nat := 0
  /-- the offset at which it was started: its image (R344, R346) -/
  home : Option Nat := none
  deriving DecidableEq, Repr

/-- Whose hardware item it is (R364): of none that counts its own losses, a result of EMU m, a sample of thread t. -/
inductive ItemSrc
  | other
  | emu (m : Nat)
  | sample (t : Nat)
  deriving DecidableEq, Repr

/-- A thread that waits on a queue (R368): the word of a QPUT, none for a QGET, and the CLK_CORE cycle in which it began. -/
structure QWait where
  thread : Nat
  put : Option (Word × Bool)
  since : Nat
  deriving DecidableEq, Repr

/-- A message queue (R363–R372). -/
structure Queue where
  /-- words held with their end marks, oldest first, the open item last -/
  words : List (Word × Bool) := []
  /-- who has an item open, and its words so far -/
  opn : Option (Master × Nat) := none
  claim : Option Master := none
  /-- the hardware item held aside, and whose it is -/
  held : Option (List (Word × Bool) × ItemSrc) := none
  wr : Nat := 0
  rd : Nat := 0
  lastEnd : Bool := false
  waiters : List QWait := []
  /-- upper halves held for requesters that read by halves (R816) -/
  half : Tab Word := []
  deriving DecidableEq, Repr

/-- A loaded image (R341–R345). `boot`: installed in BOOT. Entries: offset, thread, AUTOSTART. -/
structure Image where
  part : Nat
  priv : Bool
  codeBase : Nat
  codeLen : Nat
  dataBase : Nat
  dataLen : Nat
  version : Nat
  entries : List (Nat × Nat × Bool)
  boot : Bool
  deriving DecidableEq, Repr

/-- A sample request that waits for its thread's next issue slot (R380): bank, D0 ticks, instructions issued since. -/
structure SampleReq where
  thread : Nat
  bank : Nat
  ticks : Nat
  issued : Nat
  deriving DecidableEq, Repr

/-- A share of R351: the partitions of the last slots, newest first (8 for a slot without one), and the credits. -/
structure Arb where
  hist : List Nat := []
  credit : Tab Int := []
  deriving DecidableEq, Repr

/-- An engine (R350–R352). -/
structure Engine where
  cyc : Nat := 0
  arb : Arb := {}
  /-- one more than the thread last issued, by partition -/
  last : Tab Nat := []
  deriving DecidableEq, Repr

structure Dsq where
  thr : Tab Thr := []
  eng : Tab Engine := []
  queues : Tab Queue := []
  images : List Image := []
  /-- instruction SRAM by 32-bit words, data SRAM by 64-bit words -/
  isram : Tab Nat := []
  dsram : Tab Word := []
  /-- ECC errors that stand in them (R340): 1 confined to check bits, 2 uncorrectable -/
  iecc : Tab Nat := []
  decc : Tab Nat := []
  /-- staged writes of the escrows, oldest first (R331): address, value, and whether owner rights staged it -/
  staged : Tab (List (Nat × Word × Bool)) := []
  /-- CSEQ of the commit that last wrote a register, by address (R374) -/
  cseqOf : Tab Nat := []
  samples : List SampleReq := []
  /-- threads whose image is privileged (R338) -/
  priv : Tab Bool := []
  /-- completion payloads of privileged operations that wait for their threads (R337) -/
  pcmd : Tab (Option (Status × List Byte)) := []
  deriving DecidableEq, Repr

/-! ### NPA (09_ports_stamping.md) -/

/-- A frame that waits to be sent: its bytes without FCS; the identifier of a TS_REQ; insertion 0 none, 1 PTP, 2 NTP with its
offsets, 0xffff for none (R403); whether it is an export frame. -/
structure TxFrame where
  bytes : List Byte
  tsReq : Option Nat := none
  insert : Nat := 0
  timeOfs : Nat := 0xffff
  corrOfs : Nat := 0xffff
  csumOfs : Nat := 0xffff
  /-- the XC whose frame it is -/
  xc : Option Nat := none
  deriving DecidableEq, Repr

/-- A launch reservation (R406): T_L, the ticks it holds, the frame once it has reached NPA with the CLK_TSE cycle in which it
did, and the command whose completion it is. -/
structure Resv where
  tL : Int
  hold : Nat
  frame : Option TxFrame := none
  arrived : Nat := 0
  caller : Option Caller := none
  /-- the XC that has made it -/
  xc : Option Nat := none
  deriving DecidableEq, Repr

structure NPort where
  /-- the eight transmit queues, oldest frame first -/
  q : Tab (List TxFrame) := []
  /-- reservations in the order of their opportunities -/
  resv : List Resv := []
  txts : Fifo := {}
  txtsLost : Bool := false
  /-- ingress frame sequence (R420) -/
  seq : Nat := 0
  /-- frames of the partner on their way to this egress: bytes without FCS, and a bad FCS -/
  flight : List (List Byte × Bool) := []
  /-- the second of CLK_TSE cycles in which slow-path frames are counted, and their number (R394) -/
  slowWin : Nat := 0
  slowN : Nat := 0
  deriving DecidableEq, Repr

structure Npa where
  /-- the previous DLM measurement of a lane since its last link-up (R399) -/
  dlm : Tab (Option (Int × Int)) := []
  ports : Tab NPort := []
  /-- the token bucket in units of 2^-16 records (R428) -/
  tokens : Nat := 268435456
  /-- records of the open export frame, oldest first, and SEC[47:32] of its first -/
  recs : List (List Byte) := []
  recHigh : Nat := 0
  /-- the CLK_TSE cycle in which its first record entered (R431) -/
  recAt : Nat := 0
  /-- admitted records were lost since the last export frame -/
  expLost : Bool := false
  deriving DecidableEq, Repr

/-! ### SLG (10_stamp_ledger.md) -/

/-- An open window of a chain: the digest key's generation, the domain's value and bound at its opening, the stamps of its first
and last frames, its counts and accumulators. -/
structure SlgWin where
  gen : Nat
  openT : Int
  openBound : Nat
  first : Option Nat := none
  last : Nat := 0
  framesT : Nat := 0
  framesN : Nat := 0
  bytes : Nat := 0
  accT : Nat := 0
  accN : Nat := 0
  deriving DecidableEq, Repr

/-- A closed page that is not sealed yet: FLAGS without LOST and UNSEALED, and bytes 2 to 127. -/
structure SlgPage where
  flags : Nat
  pseq : Nat
  part : Nat
  body : List Byte
  deriving DecidableEq, Repr

/-- A frame that a digest unit has taken in the present CLK_TSE cycle: its stamp, the message M of R443, its length, and whether it
received a trailer. -/
structure SlgFrame where
  stamp : Nat
  msg : List Byte
  len : Nat
  inserted : Bool
  deriving DecidableEq, Repr

/-- A chain behind its registers, by ingress port. -/
structure SlgChain where
  win : Option SlgWin := none
  /-- the frames of the present cycle, oldest first: they belong to the window that is open in it, and an SLW_CLOSE alarm of the cycle
  puts another in its place (R440) -/
  fresh : List SlgFrame := []
  /-- the first window opens in the next CLK_TSE cycle (R440) -/
  pend : Bool := false
  closed : List SlgPage := []
  prevTag : Nat := 0
  /-- a page was dropped since one was last written -/
  lost : Bool := false
  /-- the alarm slot of the pair's SLW_CLOSE -/
  slot : Nat := 0
  deriving DecidableEq, Repr

/-- A page that the partition's next checkpoint covers. -/
structure SlgDone where
  port : Nat
  pseq : Nat
  flags : Nat
  bytes : List Byte
  dropped : Bool
  deriving DecidableEq, Repr

/-- A checkpoint that is due: its AT, its domain, STEPPED, FINAL. -/
structure SlgDue where
  at' : Int
  dom : Nat
  stepped : Bool
  final : Bool
  deriving DecidableEq, Repr

structure SlgPart where
  done : List SlgDone := []
  due : Option SlgDue := none
  /-- first 24 bytes of the hash of the previous checkpoint -/
  prev : List Byte := []
  prevLost : Bool := false
  deriving DecidableEq, Repr

structure Slg where
  chains : Tab SlgChain := []
  parts : Tab SlgPart := []
  deriving DecidableEq, Repr

/-! ### TSV (11_time_service.md) -/

/-- States of an XC after its admission (R475). -/
inductive XStage | parse | key | verify | build | stamp
  deriving DecidableEq, Repr

/-- What an XC serves: a request, until PARSE has classified it; an NTP or NTS request; a Delay_Req; a signaling message; the
emission of a Sync or Announce, to the association of a record or to the multicast group. -/
inductive XMsg
  | request | ntp | delayReq | signal | sync (peer : Option Nat) | announce (peer : Option Nat)
  deriving DecidableEq, Repr

/-- What an answer is: an ordinary response, the RATE kiss (R519), NTSN (R495). -/
inductive Kiss | no | rate | ntsn
  deriving DecidableEq, Repr

/-- An emission as its alarm has found it: the client's address (none: the group), its interval, its sequenceId (R509, R514). -/
structure Emission where
  client : Option (List Byte) := none
  log : Int := 0
  seq : Nat := 0
  deriving DecidableEq, Repr

/-- A claimed request or an emission that waits for an admission slot: its address, its frame and receive stamp. -/
structure XReq where
  svc : Nat
  msg : XMsg
  frame : List Byte
  rx : Int
  em : Emission := {}
  deriving DecidableEq, Repr

/-- An exchange context. -/
structure Xc where
  part : Nat
  svc : Nat
  msg : XMsg
  frame : List Byte
  rx : Int
  em : Emission := {}
  /-- the CLK_TSE cycle of its admission (R475) -/
  born : Nat := 0
  stage : XStage := .parse
  /-- the vault slot and generation that it pins -/
  pin : Option (Nat × Nat) := none
  /-- a generation was not resident when KEY first asked for it -/
  missed : Bool := false
  kiss : Kiss := .no
  /-- the keys of an opened cookie, the plaintext of the request's encrypted part, the quote of R497 -/
  c2s : List Byte := []
  s2c : List Byte := []
  plain : List Byte := []
  quote : List Byte := []
  /-- the launch: T_L, the domain's time and bound when TSV read them -/
  tL : Int := 0
  tRead : Int := 0
  bRead : Nat := 0
  /-- LAUNCH_MISS so far -/
  misses : Nat := 0
  /-- the Follow_Up of a two-step Sync -/
  follow : Option TxFrame := none
  deriving DecidableEq, Repr

/-- A grant of an association: its interval, the second of D0 at which it ends (0: none), its calendar bucket, its next
sequenceId (R509). -/
structure Grant where
  log : Int := 0
  exp : Nat := 0
  bucket : Nat := 0
  seq : Nat := 0
  deriving DecidableEq, Repr

/-- An association record (R509). -/
structure Assoc where
  addr : List Byte
  portId : List Byte
  svc : Nat
  h1 : Nat
  ann : Grant := {}
  sync : Grant := {}
  dresp : Grant := {}
  police : Nat := 0
  fails : Nat := 0
  seen : Nat := 0
  deriving DecidableEq, Repr

/-- What CP firmware and TSV keep of an address behind its registers: the emission slots, the sequence numbers of multicast
emission, NTS-KE (R498), and the quotes of the present second (R497). -/
structure Svc where
  syncSlot : Option Nat := none
  annSlot : Option Nat := none
  syncSeq : Nat := 0
  annSeq : Nat := 0
  keSet : Bool := false
  keSlot : Nat := 0
  keCert : Nat := 0
  kePort : Nat := 4460
  keRecords : List Byte := []
  quoteSec : Nat := 0
  quoteN : Nat := 0
  deriving DecidableEq, Repr

structure Tsv where
  xcs : Tab (Option Xc) := []
  wait : Tab (List XReq) := []
  arb : Arb := {}
  svcs : Tab Svc := []
  assocs : Tab (Option Assoc) := []
  /-- lines of the police table: tag and counter of their entries -/
  police : Tab (List (Nat × Nat)) := []
  /-- the partitions, as a mask, whose addresses have counted requests in a line (R479; log entry 36) -/
  lineParts : Tab Nat := []
  /-- the key of H1, H2 and the police hash, drawn at chip reset (R510) -/
  hashKey : Nat := 0
  /-- NTS-KE handshakes of the present second (R500) -/
  keSec : Nat := 0
  keN : Nat := 0
  /-- TCP connections refused beyond that rate (R500) -/
  keRefused : Nat := 0
  deriving DecidableEq, Repr

/-! ### KVC (12_key_vault.md) -/

/-- The material of a generation: the blob position of its slot that it takes (R554), and whether it is in the key cache. -/
structure KeyMat where
  key : List Byte
  pos : Nat
  resident : Bool := true
  deriving DecidableEq, Repr

/-- What a vault slot holds behind its registers, and the KEY_ERASE in progress. -/
structure VSlot where
  cur : Option KeyMat := none
  prev : Option KeyMat := none
  eraser : Option Caller := none
  /-- the CLK_TSE cycle in which ERASING began (R551) -/
  eraseAt : Nat := 0
  deriving DecidableEq, Repr

/-- An operation that waits for a generation that is not in the key cache (R554): KVC_SIGN, KMAC of a thread. -/
inductive KeyOp
  | sign (c : Caller) (digest : List Byte)
  | kmac (thread gd : Nat) (msg : List Byte)
  deriving DecidableEq, Repr

structure KeyWait where
  slot : Nat
  gen : Nat
  op : KeyOp
  deriving DecidableEq, Repr

/-- A KEY_GEN that waits for the generator (R562): caller, type, ATTR, GEN, and the CLK_TSE cycle of its acceptance. -/
structure GenWait where
  c : Caller
  type : Nat
  attr : Nat
  gen : Nat
  at' : Nat := 0
  deriving DecidableEq, Repr

/-- The derived keys held: none, IDK alone (R528), all (R539). -/
inductive Derived | none | idk | all
  deriving DecidableEq, Repr

structure Kvc where
  /-- the root of VBAT RAM, and whether the CRC held with it and ROOT_EPOCH matches (R526) -/
  root : Nat := 0
  epoch : Nat := 0
  crcOk : Bool := false
  derived : Derived := .none
  /-- sources that are tripped now, in the bit order of KVC_TAMPER_CAUSE -/
  tripped : Nat := 0
  slots : Tab VSlot := []
  /-- slots in the order of last use, least recent first (R556) -/
  lru : List Nat := []
  waits : List KeyWait := []
  genWaits : List GenWait := []
  /-- copies that CP firmware holds: slot and generation (R548) -/
  exports : List (Nat × Nat) := []
  /-- the key material of those copies in CP SRAM: slot and generation, bytes (R37–R39) -/
  copies : List ((Nat × Nat) × List Byte) := []
  /-- requests of the generator since it was reseeded (R562) -/
  drbg : Nat := 0
  /-- the last run of the known-answer tests failed, and a health test has failed and not passed since -/
  katFail : Bool := false
  rngFail : Bool := false
  /-- VBAT lies below WARN_MV -/
  vbatLow : Bool := false
  deriving DecidableEq, Repr

/-! ### HRL (13_hinge_ring.md) -/

/-- A frame of a stream that its sender keeps (R599): SEQ, payload, the turn in which it was last sent. -/
structure HKept where
  seq : Nat
  payload : List Byte
  sent : Option Nat := none
  deriving DecidableEq, Repr

/-- What a node knows of roster index k behind NODEk_*: its roster flags and PRIO, its east neighbour, the hop figures of its
HEALTH, the turns without a valid HEALTH, what its ACKs name. -/
structure HNode where
  gm : Bool := false
  prio : Nat := 0
  repeatOnly : Bool := false
  east : Nat := 0
  delayE : Nat := 0
  allowE : Nat := 0
  delayW : Nat := 0
  allowW : Nat := 0
  handover : Bool := false
  /-- a valid HEALTH has come in this turn -/
  heard : Bool := true
  /-- a tagged HEALTH has come since it joined -/
  seen : Bool := false
  miss : Nat := 0
  acks : List Nat := []
  deriving DecidableEq, Repr

/-- The timing of a lane (R583, R589): accepted measurements, doubled, newest first, and their number since link-up; own HEALTH
departures by turn; the neighbour's last HEALTH as it arrived; what the next HEALTH reports; a HEALTH has left. -/
structure HLane where
  ms : List Int := []
  n : Nat := 0
  sent : List (Nat × Nat) := []
  echo : Nat × Nat := (0, 0)
  last : Nat × Nat × Nat := (0, 0, 0)
  /-- the calibration of its deterministic-latency monitor, in ticks (R581) -/
  rxCal : Int := 0
  txCal : Int := 0
  deriving DecidableEq, Repr

/-- An entry of a TIME_MARK: domain, flags, E-code, time value (R582). -/
structure HEntry where
  dom : Nat
  traced : Bool
  hold : Bool
  bound : Nat
  time : Nat
  deriving DecidableEq, Repr

/-- A RING domain's servo (R594): its alarm slot, samples of the period (p, BC_SRC, BC_REF, sender), the integrator, |e| of the
last 64 updates, updates left with the oscillator's tolerance, periods without a sample, the temperature at which HOLD was set. -/
structure RDom where
  slot : Option Nat := none
  smp : List (Int × Nat × Nat × Nat) := []
  i : Int := 0
  errs : List Nat := []
  seedN : Nat := 0
  miss : Nat := 0
  th : Int := 0
  deriving DecidableEq, Repr

/-- The coin as its holder has it (R584). -/
structure Coin where
  seq : Nat := 0
  rotation : Nat := 0
  vote : Nat := 0
  yes : Nat := 0
  visited : Nat := 0
  deriving DecidableEq, Repr

structure Hrl where
  /-- domains received over the ring whose sender marks them traceable -/
  ringTrace : Tab Bool := []
  lanes : Tab HLane := []
  nodes : Tab HNode := []
  /-- frames delivered lately: TYPE, STREAM, SEQ, node (R580) -/
  seen : List (Nat × Nat × Nat × Nat) := []
  /-- frames to be repeated on a lane, oldest first, each with the cycle of its launch (R579) -/
  repeats : Tab (List (Nat × List Byte)) := []
  /-- claimants heard: node ID, GM_CAPABLE, PRIO (R603) -/
  claimed : List (Nat × Bool × Nat) := []
  claimSeq : Nat := 0
  /-- the cycle of the last CLAIM sent since claiming began, and the cycle since which no new node ID and no lower GM-capable
  claimant has been heard (R603) -/
  claimAt : Option Nat := none
  aloneAt : Nat := 0
  wakeSeq : Nat := 0
  /-- a TIME_MARK or ROSTER with the own RING_ID has been heard while claiming -/
  ringHeard : Bool := false
  /-- claimants with JOIN that the steward will admit (R605) -/
  joining : List (Nat × Bool × Nat) := []
  /-- a roster that applies from its FROM_TURN -/
  rosterNext : Option (List Byte) := none
  rosterIssue : Nat := 0
  /-- roles have been assigned since the ring formed -/
  complete : Bool := false
  /-- the coin held in this turn, and the one that makes this node holder at its next turn (R595) -/
  coin : Option Coin := none
  coinNext : Option Coin := none
  lastHolder : Nat := 0
  lastRotation : Nat := 0
  coinMiss : Nat := 0
  coinSeen : Bool := false
  /-- turns without any other member, without the steward, without a mark of GM-A or GM-B; and whether each was heard in this one -/
  silent : Nat := 0
  stewSilent : Nat := 0
  markMiss : Nat := 0
  otherHeard : Bool := false
  stewHeard : Bool := false
  markHeard : Bool := false
  /-- frames kept of the own stream, and of the grandmaster stream; the next SEQ of that stream; frames GM-B will copy -/
  own : List HKept := []
  gms : List HKept := []
  gmNext : Nat := 1
  copies : List (Nat × List Byte) := []
  /-- BULK frames sent in this turn: own, grandmaster -/
  sentOwn : Nat := 0
  sentGm : Nat := 0
  /-- SEQ of the last frame accepted, by stream; a later member takes it from the ACKs of its first turn (R599) -/
  lastAcc : Tab Nat := []
  adopt : Bool := false
  adopted : Bool := false
  rxf : Fifo := {}
  /-- departures of the last TIME_MARK by lane, and arrivals by lane · 32 + origin: turn, times by domain -/
  departed : Tab (List HEntry) := []
  arrived : Tab (Option (Nat × List (Nat × Int))) := []
  /-- RING samples of the last 100 turns, newest first (turn, instant, p), and the turn whose sample has been taken -/
  trend : List (Nat × Int × Int) := []
  sampled : Option Nat := none
  rdoms : Tab RDom := []
  /-- D0 at the start of the present turn, its cycle of CLK_TSE, the TYPEs that are sent once a turn and have been sent in it, and
  ROLE of the mark that started it -/
  turnAt : Int := 0
  turnCyc : Nat := 0
  sentTypes : List Nat := []
  pacer : Nat := 0
  /-- a QUIET vote asked for, a WAKE seen since the vote began, QUIET_TURN of a QUIET to come -/
  voteAsk : Bool := false
  wakeSeen : Bool := false
  quietAt : Option Nat := none
  handover : Bool := false
  /-- the last loopback self-test passed (R610) -/
  loopOk : Bool := true
  /-- the shadows of HRL_LTALLY (0) and NODEk_TALLY (k + 1) (R619) -/
  shadow : Tab Word := []
  deriving DecidableEq, Repr

/-! ### SUP (15_faults_ledger_tally.md) -/

/-- An event ledger entry before it is written (R673): its time in ticks, E-code, SOURCE, CODE, PARTITION, SEVERITY, DATA. -/
structure LEntry where
  stamp : Int
  bound : Nat
  src : Nat
  code : Nat
  part : Nat
  sev : Nat
  data : List Byte
  /-- a FAULT_ONSET entry: the source, for the onset registers of R675 -/
  onset : Option Nat := none
  deriving DecidableEq, Repr

/-- An increment of the present cycle, added when the cycle ends (R682, R690). -/
inductive Bump
  | port (p i n : Nat)
  | svc (a i n : Nat)
  | node (k which : Nat)
  | lane (e which : Nat)
  | ev (block event inst part n thread : Nat)
  deriving DecidableEq, Repr

structure Sup where
  /-- staged entries (R675), in the order in which they were staged -/
  staged : List LEntry := []
  ledger : Fifo := {}
  /-- block resets asked for by onsets: source, attributed partitions, instance -/
  blockPend : List (Nat × Nat × Nat) := []
  /-- pulses that are live in the present cycle (R659): source and partition -/
  pulsed : List (Nat × Nat) := []
  /-- D, and S of each partition, at the start of the present cycle (R661, R662) -/
  dStart : Word := 0
  sStart : List Word := []
  /-- the sources whose further rise the present cycle has counted (R662) -/
  counted : List Nat := []
  /-- a chip reset asked for by an onset: the source, and whether it acts as SAFE (R667) -/
  chipPend : Option (Nat × Bool) := none
  hbExpired : Bool := false
  /-- the cycle since which the CP has not written SUP_HB with HB_EN set (R820), and whether an entry of the event ledger has been
  written in the present cycle (R675) -/
  hbCyc : Nat := 0
  /-- the highest slot, plus 1, whose TALLY_SNAP has fired in the present cycle, by partition (R690) -/
  snapSlot : Tab Nat := []
  wrote : Bool := false
  pcieErr : Bool := false
  cbRate : Bool := false
  bumps : List Bump := []
  /-- window sums and period counts of the programmable counters, by bank · 8 + counter (R685) -/
  winSum : Tab Nat := []
  perCnt : Tab Nat := []
  /-- the shadows of the address counters, by address · 8 + counter; no register of the map shows them (log entry 30) -/
  svcShd : Tab Nat := []
  deriving DecidableEq, Repr

/-! ### PAR (14_partitions_host.md) -/

/-- A command that a ring has started (R644). -/
structure Started where
  cmdId : Nat
  opcode : Nat
  indirect : Bool
  bufLen : Nat
  buf : Nat
  sqIndex : Nat
  hash : Word
  /-- the result write was reset by the bus watchdog (R656) -/
  lost : Bool := false
  /-- a reset of the function has cleared its ring: the completion is discarded (R633) -/
  dead : Bool := false
  deriving DecidableEq, Repr

/-- An entry of a function's history (R647). -/
structure Hist where
  cmdId : Nat
  hash : Word
  opcode : Nat
  resultLen : Nat
  result : List Byte
  deriving DecidableEq, Repr

/-- A partition reset in progress (R634): the functions whose FLR it completes and the callers of PART_RESET. -/
structure RstJob where
  flr : List Nat := []
  callers : List Caller := []
  deriving DecidableEq, Repr

/-- An MSI-X table entry (R630, R631). -/
structure MsixEntry where
  addr : Nat := 0
  data : Nat := 0
  masked : Bool := true
  pend : Bool := false
  deriving DecidableEq, Repr

/-- MSI-X control of a function. -/
structure MsixCtl where
  en : Bool := false
  fmask : Bool := false
  deriving DecidableEq, Repr

/-- A bus access: its master, the bus address of its register or location, the half, whether it writes and what, and the
destination register of a thread's load. -/
structure Access where
  m : Master
  write : Bool
  addr : Nat
  h : Half
  data : Word := 0
  rd : Nat := 0
  /-- offset of the instruction, for a thread -/
  pc : Nat := 0
  deriving DecidableEq, Repr

structure Par where
  /-- the command that ring f · 4 + r executes -/
  cur : Tab (Option Started) := []
  hist : Tab (List Hist) := []
  histKey : Nat := 0
  /-- partition resets in progress -/
  jobs : Tab (Option RstJob) := []
  msix : Tab MsixEntry := []
  msixCtl : Tab MsixCtl := []
  /-- the oldest outstanding access of each master port, by master code (R652) -/
  stalls : Tab (Option Access) := []
  /-- accesses behind a stalled one, by master code, oldest first (R328, R656) -/
  behind : Tab (List Access) := []
  /-- PERST# is low -/
  perstLow : Bool := false
  deriving DecidableEq, Repr

/-! ### CPX (16_modes_boot_update.md) -/

/-- The owner record (R730). Keys are 96-byte points; zero where none is held. -/
structure Owner where
  set : Bool := false
  lock : Bool := false
  csig : Bool := false
  seq : Nat := 0
  key : Nat := 0
  pt0Key : Nat := 0
  deriving DecidableEq, Repr

/-- An extension of the measurement log (R724). -/
structure MLog where
  mreg : Nat
  meas : BitVec 384
  label : Nat
  deriving DecidableEq, Repr

structure Cpx where
  /-- CP SRAM, by 64-bit words (R649) -/
  sram : Tab Word := []
  mode : Mode := .reset
  prev : Mode := .reset
  cause : Nat := 0
  /-- boot has completed (R720) -/
  booted : Bool := false
  halted : Bool := false
  /-- the chip reset is asserted -/
  inReset : Bool := true
  calDone : Bool := false
  safe : Bool := false
  /-- the cause that latched SAFE (R710) -/
  safeCause : Nat := 0
  service : Bool := false
  /-- the cause of the last command that may change the mode (R710) -/
  cmdCause : Nat := 0
  /-- in TRACK or STANDBY since the last chip reset (R737) -/
  proved : Bool := false
  flash : Flash := {}
  /-- the settings position in use; 2 while the factory settings of the image are -/
  setPos : Nat := 2
  /-- the factory settings that stand in where no copy can be used (R728) -/
  factory : Settings := {}
  /-- ADPLLs retuned at entry to CALIBRATE (R270, R703), a mask -/
  calMask : Nat := 0
  /-- MIN_SVN burnt by FW_CONFIRM (R737), beside the fused one -/
  svnBurnt : Nat := 0
  owner : Owner := {}
  mlog : List MLog := []
  /-- length named by FW_BEGIN -/
  updLen : Nat := 0
  /-- quotes asked for over the Hinge ring, oldest first: caller, roster index, the fragments gathered, the cycle of the request
  (R740) -/
  quotes : List (Caller × Nat × List Byte × Nat) := []
  /-- the second of CLK_TSE cycles to which quoteCnt belongs -/
  quoteSec : Nat := 0
  /-- quotes signed in the present second (R740) -/
  quoteCnt : Nat := 0
  /-- a warm reset that firmware has announced: its WARM_CAUSE -/
  warmPend : Option Nat := none
  /-- NMIs delivered to the CP: cause and detail, newest first -/
  nmis : List (Nat × Nat) := []
  deriving DecidableEq, Repr

/-! ### PWR (17_clocks_power_wear.md) -/

/-- An oscillator under its stability counter (R749, R750). -/
structure Osc where
  run : Bool := false
  proven : Bool := false
  cnt : Nat := 0
  /-- an AON edge has come since the start -/
  edge : Bool := false
  /-- a comparison has passed since the start -/
  passed : Bool := false
  /-- consecutive comparisons outside the window -/
  bad : Nat := 0
  deriving DecidableEq, Repr

/-- What a clock domain runs on (R748). -/
inductive ClkSrc | stopped | tse | cpllA | cpllB | dpll | irc
  deriving DecidableEq, Repr

/-- A PLL (R751): locking, proven, and whether its reference is IRC. -/
structure Pll where
  locking : Bool := false
  proven : Bool := false
  onIrc : Bool := false
  /-- the level whose frequency it is set to -/
  level : Nat := 1
  deriving DecidableEq, Repr

/-- A clock domain: what it runs on, and the source it is being switched to (R762). -/
structure ClkDom where
  src : ClkSrc := .stopped
  goal : Option ClkSrc := none
  deriving DecidableEq, Repr

/-- Where the DVFS sequencer stands (R766). -/
inductive DvfsStep | none | upVout | upSettle | upRead | upSwitch | downSwitch | downVout | downSettle | downRead
  deriving DecidableEq, Repr

structure Pwr where
  sysxo : Osc := {}
  aoi : Osc := {}
  irc : Osc := { run := true }
  cpllA : Pll := {}
  cpllB : Pll := {}
  dpll : Pll := {}
  core : ClkDom := {}
  sup : ClkDom := {}
  ddr : ClkDom := {}
  tseProven : Bool := false
  /-- the supervisor counts: a clock domain waits for IRC (R758) -/
  ircWait : Bool := false
  /-- FS51 is live (R758) -/
  noFallback : Bool := false
  dvfs : DvfsStep := .none
  dvfsTo : Nat := 1
  /-- the level whose voltage was last confirmed (R767) -/
  vLevel : Nat := 1
  tjWarn : Bool := false
  tjCrit : Bool := false
  /-- CD_DDR is held since a time that this counts in nanoseconds (R756) -/
  ddrHeld : Bool := false
  /-- the weighted stress sum of R777: readings and sum -/
  stressN : Nat := 0
  stressSum : Nat := 0
  /-- daily means kept for the fits of R776, newest first, by sensor -/
  means : Tab (List Nat) := []
  /-- the day's hourly readings: their number, and their sums by sensor -/
  hourN : Nat := 0
  hourSum : Tab Nat := []
  /-- POWER_HOURS as the settings store keeps it -/
  hours : Nat := 0
  deriving DecidableEq, Repr

/-- The JTAG port (R805): its instruction register and boundary register. -/
structure Jtag where
  ir : Nat := 1
  boundary : Nat := 0
  deriving DecidableEq, Repr

/-! ### The block -/

structure State where
  /-- what every register differs by from its reset word (exclusive or), by bus address: `rd` and `wr` of Machine/Ops -/
  regs : Tab Word := []
  tse : Tse := {}
  rim : Rim := {}
  gnb : Gnb := {}
  rsh : Rsh := {}
  syn : Syn := {}
  dsq : Dsq := {}
  npa : Npa := {}
  slg : Slg := {}
  tsv : Tsv := {}
  kvc : Kvc := {}
  hrl : Hrl := {}
  sup : Sup := {}
  par : Par := {}
  cpx : Cpx := {}
  pwr : Pwr := {}
  jtag : Jtag := {}
  /-- what the block has given to the outside world, newest first -/
  out : List Out := []
  /-- the model's own: the number of the next free value (`Config.freeValue`) -/
  freeCtr : Nat := 0
  /-- the commands that wait, first in first out -/
  pending : List Instr := []
  deriving DecidableEq, Repr

/-- The block right after reset. -/
def State.reset : State := {}

end Sys2Proof.Machine
end

