-- ==== Sys2Proof/Machine/Table.lean ====
section
/-! DEFINITION. Reading and writing the sparse stores (`Tab`). A key that is not listed holds the default;
writing the default removes the entry, so that equal stores are equal lists. -/
namespace Sys2Proof.Machine

/-- The value at key `k`; `d` where nothing is listed. -/
def tabGet {α : Type} (d : α) : Tab α → Nat → α
  | [], _ => d
  | (j, v) :: t, k => if k = j then v else tabGet d t k

/-- The store with every entry of key `k` removed. -/
def tabDel {α : Type} : Tab α → Nat → Tab α
  | [], _ => []
  | (j, v) :: t, k => if k = j then tabDel t k else (j, v) :: tabDel t k

/-- The store with key `k` listed as `v`, keys kept rising. -/
def tabPut {α : Type} : Tab α → Nat → α → Tab α
  | [], k, v => [(k, v)]
  | (j, w) :: t, k, v =>
    if k < j then (k, v) :: (j, w) :: t
    else if k = j then (k, v) :: t
    else (j, w) :: tabPut t k v

/-- The store with `v` at key `k`, in canonical form (default values are not listed). -/
def tabSet {α : Type} [DecidableEq α] (d : α) (t : Tab α) (k : Nat) (v : α) : Tab α :=
  if v = d then tabDel t k else tabPut t k v

/-- Keys strictly rising from above `lo`. -/
def tabRising {α : Type} : Option Nat → Tab α → Bool
  | _, [] => true
  | none, (k, _) :: t => tabRising (some k) t
  | some lo, (k, _) :: t => decide (lo < k) && tabRising (some k) t

/-- No entry holds the default. -/
def tabNoDefault {α : Type} [DecidableEq α] (d : α) (t : Tab α) : Bool :=
  t.all fun e => decide (e.2 ≠ d)

/-- The canonical form of a sparse store. -/
def tabWf {α : Type} [DecidableEq α] (d : α) (t : Tab α) : Bool :=
  tabRising none t && tabNoDefault d t

/-- The listed keys for which `p` holds. -/
def tabKeys {α : Type} (p : Nat → α → Bool) (t : Tab α) : List Nat :=
  (t.filter fun e => p e.1 e.2).map (·.1)

end Sys2Proof.Machine
end

