-- ==== Sys2Proof/Machine/Ops.lean ====
section
/-! DEFINITION. The shared operations: the register file, time, the outputs, the event ledger's staging, MSI-X, and how a
command is judged and completed. -/
namespace Sys2Proof.Machine

/-- What a meaning answers. -/
abbrev Res := Host.Outcome State Fault Refusal

/-! ### Register file -/

/-- The bus address of register (i, j) of a family. -/
def regAddr (r : RegId) (i j : Nat) : Nat := (regInfo r).base + (regInfo r).si * i + (regInfo r).sj * j

/-- The reset word of a register of index i. -/
def regRst (r : RegId) (i : Nat) : Word := BitVec.ofNat 64 (tabGet (regInfo r).rst (regInfo r).ovr i)

/-- The word a register holds. -/
def State.rd (s : State) (r : RegId) (i : Nat := 0) (j : Nat := 0) : Word := tabGet 0 s.regs (regAddr r i j) ^^^ regRst r i

/-- The state with a register holding a word. -/
def State.wr (s : State) (r : RegId) (w : Word) (i : Nat := 0) (j : Nat := 0) : State :=
  { s with regs := tabSet 0 s.regs (regAddr r i j) (w ^^^ regRst r i) }

/-- A field of a register, as a number. -/
def State.get (s : State) (f : Field) (i : Nat := 0) (j : Nat := 0) : Nat := bitsOf (s.rd f.reg i j) f.hi f.lo

/-- A one-bit field. -/
def State.getB (s : State) (f : Field) (i : Nat := 0) (j : Nat := 0) : Bool := s.get f i j == 1

/-- A field read as two's complement. -/
def State.getI (s : State) (f : Field) (i : Nat := 0) (j : Nat := 0) : Int := signedOf (f.hi - f.lo + 1) (s.get f i j)

/-- The state with a field set to the low bits of `v`. -/
def State.put (s : State) (f : Field) (v : Nat) (i : Nat := 0) (j : Nat := 0) : State :=
  s.wr f.reg (setBits (s.rd f.reg i j) f.hi f.lo v) i j

/-- The state with a one-bit field set or clear. -/
def State.putB (s : State) (f : Field) (b : Bool) (i : Nat := 0) (j : Nat := 0) : State := s.put f (if b then 1 else 0) i j

/-- The state with a field set to the two's complement code of `x`. -/
def State.putI (s : State) (f : Field) (x : Int) (i : Nat := 0) (j : Nat := 0) : State :=
  s.put f (codeOf (f.hi - f.lo + 1) x) i j

/-- A saturating count in a field. -/
def State.bump (s : State) (f : Field) (n : Nat) (i : Nat := 0) (j : Nat := 0) : State :=
  s.put f (satNat (f.hi - f.lo + 1) (s.get f i j + n)) i j

/-- A count in a field that wraps at the field's width. -/
def State.wrap (s : State) (f : Field) (n : Nat) (i : Nat := 0) (j : Nat := 0) : State := s.put f (s.get f i j + n) i j

/-! ### Free values, outputs -/

/-- A value the spec leaves open, and the state that has used it up. -/
def State.draw (s : State) : Nat × State := (Config.freeValue s.freeCtr, { s with freeCtr := s.freeCtr + 1 })

/-- The state that has given `o` to the outside world. -/
def State.emit (s : State) (o : Out) : State := { s with out := o :: s.out }

/-! ### Modes (R21) -/

def Mode.code : Mode → Nat
  | .reset => 0 | .boot => 1 | .calibrate => 2 | .acquire => 3 | .track => 4 | .holdover => 5 | .freerun => 6 | .steer => 7
  | .standby => 8 | .service => 9 | .safe => 10 | .sealed => 11 | .halted => 15

def State.mode (s : State) : Mode := s.cpx.mode

/-- SAFE or SEALED. -/
def State.fatalMode (s : State) : Bool := s.mode == .safe || s.mode == .sealed

/-- A mode from CALIBRATE onwards. -/
def Mode.up : Mode → Bool
  | .reset | .boot | .halted => false
  | _ => true

/-! ### Time -/

/-- An accumulator's integer part in ticks (R62). -/
def ticksOfU (u : Int) : Int := u / Config.uPerTick

/-- A domain's own record. -/
def State.dom (s : State) (n : Nat) : Dom := tabGet {} s.tse.doms n

def State.setDom (s : State) (n : Nat) (d : Dom) : State :=
  { s with tse := { s.tse with doms := tabSet {} s.tse.doms n d } }

/-- A domain's value in units u: its accumulator, or its parent's value plus its offset while it runs (R56); `fuel` bounds
the chain of parents, whose numbers fall (R55). -/
def domUAux (s : State) : Nat → Nat → Int
  | 0, n => (s.dom n).acc
  | f + 1, n =>
    if (s.dom n).kind = .derived ∧ (s.dom n).st = .running then domUAux s f (s.dom n).parent + (s.dom n).acc
    else (s.dom n).acc

/-- A domain's value in units u. -/
def State.domU (s : State) (n : Nat) : Int := domUAux s 31 n

/-- A domain's time in ticks: the integer part of its value (R62). -/
def State.ticks (s : State) (n : Nat) : Int := ticksOfU (s.domU n)

/-- What steps and seeds of the present cycle have added to a domain's value, its parents' moves among them (R56). -/
def movedAux (s : State) : Nat → Nat → Int
  | 0, n => (s.dom n).moved
  | f + 1, n =>
    if (s.dom n).kind = .derived ∧ (s.dom n).st = .running then movedAux s f (s.dom n).parent + (s.dom n).moved
    else (s.dom n).moved

def State.movedU (s : State) (n : Nat) : Int := movedAux s 31 n

/-- A domain's time at the start of the present cycle (R73). -/
def State.startTicks (s : State) (n : Nat) : Int := ticksOfU (s.domU n - s.movedU n)

/-- The span of a time value in ticks (R1). -/
def timeSpan : Int := Int.ofNat (2 ^ 48 * Config.secTicks)

/-- The 96-bit time value of a tick count (R1, R3); a count outside the format gives the open value `free`. -/
def timeVal (free : Nat) (t : Int) : Nat :=
  if 0 ≤ t ∧ t < timeSpan then
    let n := t.toNat
    (n / Config.secTicks) * 2 ^ 48 + (n % Config.secTicks) / Config.nsTicks * 2 ^ 18 + n % Config.nsTicks
  else free % 2 ^ 96

/-- The register words SEC and SUB of a tick count. -/
def secWord (free : Nat) (t : Int) : Word := BitVec.ofNat 64 (timeVal free t / 2 ^ 48)
def subWord (free : Nat) (t : Int) : Word := BitVec.ofNat 64 (timeVal free t % 2 ^ 48)

/-- A time argument is well formed (R2). -/
def tvOk (t : TimeVal) : Bool := decide (t.sec < 2 ^ 48) && decide (t.nsec < 1000000000) && decide (t.frac < 2 ^ 18)

/-- The tick count of a time value (R3). -/
def tvTicks (t : TimeVal) : Nat := (t.sec * 1000000000 + t.nsec) * 262144 + t.frac

/-! ### E-code (R7–R10) -/

/-- The smallest exponent from `e` upwards with b ≤ 4095 · 2^e. -/
def ecodeExp : Nat → Nat → Nat → Nat
  | 0, e, _ => e
  | f + 1, e, b => if b ≤ 4095 * 2 ^ e then e else ecodeExp f (e + 1) b

/-- The E-code of a bound. -/
def ecode (b : Nat) : Nat :=
  if b = Config.unb ∨ b > 4094 * 2 ^ 31 then 0xffff
  else if b ≤ 2048 then 0
  else
    let e := ecodeExp 32 0 b
    e * 2048 + (ceilDiv b (2 ^ e) - 2048)

/-- The bound an E-code denotes (R7). -/
def ecodeBound (c : Nat) : Nat := if c = 0xffff then Config.unb else (2048 + c % 2048) * 2 ^ (c / 2048)

/-- A sum of bounds: UNBOUNDED where a term is, or where it leaves the register (R81). -/
def boundSum (l : List Nat) : Nat :=
  if l.any (· == Config.unb) || decide (l.foldl (· + ·) 0 > 2 ^ 64 - 2) then Config.unb else l.foldl (· + ·) 0

/-! ### Event ledger staging (R674, R675) -/

/-- The E-code of D0's bound as an event takes it (R674). -/
def State.d0Ecode (s : State) : Nat := if (s.dom 0).st = .running then ecode (s.dom 0).bound else 0xffff

/-- Stage an entry other than an onset; a full buffer drops and counts it (R675). -/
def State.log (s : State) (block inst code part sev : Nat) (data : List Byte) : State :=
  if (s.sup.staged.filter fun e => e.onset.isNone).length < 256 then
    let e : LEntry := { stamp := s.startTicks 0, bound := s.d0Ecode, src := block * 256 + inst, code := code, part := part,
                        sev := sev, data := (data ++ List.replicate 12 0#8).take 12 }
    { s with sup := { s.sup with staged := s.sup.staged ++ [e] } }
  else s.bump F.supLedgerStat_LEDGER_DROP 1

/-- A byte of DATA. -/
abbrev byte (n : Nat) : Byte := BitVec.ofNat 8 n

/-! ### MSI-X (R630, R631) -/

/-- The function that serves a partition's interrupts (R630). -/
def fnOfPart (p : Nat) : Nat := if p = 0 then 0 else p + 1

/-- The partition a function serves (R624). -/
def partOfFn (f : Nat) : Nat := if f ≤ 1 then 0 else f - 1

/-- One event for vector `v` of function `f` (R631). -/
def State.msix (s : State) (f v : Nat) : State :=
  let c := tabGet {} s.par.msixCtl f
  let e := tabGet {} s.par.msix (f * 2048 + v % 2048)
  if !c.en then s
  else if c.fmask || e.masked then
    { s with par := { s.par with msix := tabSet {} s.par.msix (f * 2048 + v % 2048) { e with pend := true } } }
  else s.emit (.msix f (v % 2048) e.addr e.data)

/-! ### Partitions and callers (R624, R338) -/

/-- The partition of a Dravik thread. -/
def State.thrPart (s : State) (t : Nat) : Nat := s.get F.thrCfg_PART t

/-- The partition a caller is judged as. -/
def State.cPart (s : State) (c : Caller) : Nat :=
  match c with
  | .host f _ => partOfFn f
  | .thread t => s.thrPart t
  | .firmware => 0

/-- The caller has owner rights: the PF, CP firmware, and privileged Dravik threads (R624, R338). -/
def State.cOwner (s : State) (c : Caller) : Bool :=
  match c with
  | .host f _ => f == 0
  | .thread t => tabGet false s.dsq.priv t
  | .firmware => true

/-- The caller counts as PT0 for a command whose Caller is PT0 or a resource's partition: an unprivileged thread of PT0 too (R338). -/
def State.cPt0 (s : State) (c : Caller) : Bool :=
  match c with
  | .thread t => s.thrPart t == 0
  | _ => s.cOwner c

/-- The master has owner rights (R624): the CP, the PF, privileged Dravik threads. -/
def State.mOwner (s : State) (m : Master) : Bool :=
  match m with
  | .cp _ => true
  | .fn f => f == 0
  | .thread t => tabGet false s.dsq.priv t
  | .dma => false

/-- The partition on whose behalf a master acts. -/
def State.mPart (s : State) (m : Master) : Nat :=
  match m with
  | .cp _ => 0
  | .fn f => partOfFn f
  | .thread t => s.thrPart t
  | .dma => 0

/-- The lane mode of a lane (R387). -/
def State.laneMode (s : State) (l : Nat) : Nat := (s.get F.octCfg_LMODE (l / 8)) / 16 ^ (l % 8) % 16

/-- The lanes of a port whose lead lane has this lane mode; none for a lane that leads no port (R387). -/
def lanesOfMode (m : Nat) : Nat := if m = 2 then 2 else if m = 3 then 4 else if m = 1 ∨ (4 ≤ m ∧ m ≤ 7) then 1 else 0

/-- Lane l leads a port. -/
def State.leads (s : State) (l : Nat) : Bool := decide (l < 64) && decide (0 < lanesOfMode (s.laneMode l))

/-- Partition p is RESETTING (R625). -/
def State.resetting (s : State) (p : Nat) : Bool := bitOf (s.get F.parStat_RESETTING) p

/-- Partition p is ENABLED (R625). -/
def State.enabled (s : State) (p : Nat) : Bool := bitOf (s.get F.parStat_ENABLED) p

/-! ### Judging and completing commands (R16–R19, R641–R647, R712) -/

def Status.code : Status → Nat
  | .ok => 0 | .busy => 1 | .badArg => 2 | .refusedMode => 3 | .refusedOwner => 4 | .refusedBattery => 5 | .noKey => 6
  | .keyGone => 7 | .verifyFail => 8 | .duplicate => 9 | .timeout => 10 | .partitionDenied => 11 | .escrowConflict => 12
  | .late => 13

/-- The modes in which an opcode is legal, as a mask over the mode codes of R21 (the mode-legality tables that R712 names).
An opcode that no table lists has the empty mask. -/
def legalModes (op : Nat) : Nat :=
  match op with
  | 0x10 => 0x3fc -- DOM_CONFIG
  | 0x11 => 0x3fc -- DOM_SEED
  | 0x12 => 0x3fc -- DOM_START
  | 0x13 => 0x3fc -- DOM_STOP
  | 0x14 => 0x3fc -- DOM_STEP
  | 0x15 => 0x3fc -- DOM_SLEW
  | 0x16 => 0x3f8 -- LEAP_SET
  | 0x18 => 0xffc -- ALM_ARM
  | 0x19 => 0xffc -- ALM_CANCEL
  | 0x20 => 0xffc -- EMU_ARM
  | 0x21 => 0xffc -- EMU_DISARM
  | 0x22 => 0xff8 -- TDC_CAL
  | 0x23 => 0xffc -- MON_RESTART
  | 0x30 => 0xffc -- GNSS_CFG
  | 0x31 => 0xee8 -- GNSS_RESTART
  | 0x32 => 0xff8 -- GNSS_SURVEY
  | 0x33 => 0xeec -- GNSS_POS_SET
  | 0x34 => 0xeec -- GNSS_POS_CLEAR
  | 0x35 => 0xffc -- GNSS_TAP
  | 0x40 => 0x0f8 -- REF_FORCE
  | 0x41 => 0xffc -- REF_LOCKOUT
  | 0x42 => 0x0f8 -- RSH_OPEN
  | 0x43 => 0x080 -- RSH_CLOSE
  | 0x44 => 0x080 -- STEER_FREQ
  | 0x45 => 0x080 -- STEER_PHASE
  | 0x46 => 0x0c8 -- RSH_D0_SEED
  | 0x47 => 0x3f8 -- AOI_STEER
  | 0x48 => 0x2c8 -- AOI_CFD_SET
  | 0x49 => 0x010 -- CFD_GAIN_CAL
  | 0x50 => 0x3fc -- SYN_CFG
  | 0x51 => 0x3f8 -- SYN_PSTEP
  | 0x52 => 0x3f8 -- SYN_ALIGN
  | 0x53 => 0xffc -- SYN_MEM_CLEAR
  | 0x54 => 0xffc -- SYN_OFF
  | 0x55 => 0x3fc -- SYN_EVO_ARM
  | 0x56 => 0xffc -- SYN_EVO_DISARM
  | 0x60 => 0x3fc -- DRV_LOAD
  | 0x61 => 0x7fc -- DRV_UNLOAD
  | 0x62 => 0x3fc -- THR_START
  | 0x63 => 0xffc -- THR_STOP
  | 0x64 => 0x3fc -- THR_RESUME
  | 0x66 => 0x7fc -- ESC_BEGIN
  | 0x67 => 0x7fc -- ESC_WRITE
  | 0x68 => 0x7fc -- ESC_COMMIT
  | 0x69 => 0xffc -- ESC_ABORT
  | 0x70 => 0x3fc -- SVC_SET
  | 0x71 => 0xffc -- SVC_CLEAR
  | 0x72 => 0x3fc -- NTS_KEY_ROLL
  | 0x73 => 0xffc -- ASSOC_FLUSH
  | 0x74 => 0x3fc -- NTSKE_CFG
  | 0x80 => 0x3fc -- KEY_GEN
  | 0x81 => 0x3fc -- KEY_IMPORT
  | 0x82 => 0x3fc -- KEY_LOAD
  | 0x83 => 0x7fc -- KEY_ERASE
  | 0x84 => 0xffc -- KEY_INFO
  | 0x85 => 0x3fc -- KVC_SIGN
  | 0x86 => 0x3fc -- SLOT_ASSIGN
  | 0x87 => 0xbfc -- TAMPER_CFG
  | 0x88 => 0xffc -- KVC_SELFTEST
  | 0x89 => 0xffc -- KVC_ZEROISE
  | 0x8a => 0x800 -- VAULT_PROVISION
  | 0x90 => 0xffc -- HRL_ENABLE
  | 0x91 => 0x3f8 -- HRL_SEND
  | 0x92 => 0x2f8 -- HRL_HANDOVER
  | 0x93 => 0x3f8 -- HRL_QUIET
  | 0x94 => 0x3f8 -- HRL_WAKE
  | 0x95 => 0x3fc -- HRL_KEY_SWITCH
  | 0xa0 => 0xffc -- PART_RESET
  | 0xa8 => 0x7fc -- FAULT_INJECT
  | 0xa9 => 0xffc -- LEDGER_MARK
  | 0xb0 => 0xffc -- DEV_RESET
  | 0xb1 => 0x1f8 -- SERVICE_ENTER
  | 0xb2 => 0x200 -- SERVICE_EXIT
  | 0xb3 => 0x400 -- SAFE_EXIT
  | 0xb4 => 0x7fc -- FW_BEGIN
  | 0xb5 => 0x7fc -- FW_WRITE
  | 0xb6 => 0x7fc -- FW_VERIFY
  | 0xb7 => 0x7fc -- FW_ACTIVATE
  | 0xb8 => 0x3f8 -- FW_CONFIRM
  | 0xb9 => 0x7fc -- ATTEST_QUOTE
  | 0xba => 0x7fc -- ATTEST_LOG
  | 0xbb => 0x7fc -- MREG_EXTEND
  | 0xbc => 0xbfc -- OWNER_CLAIM
  | 0xbd => 0x3fc -- OWNER_LOCK
  | 0xbe => 0xbfc -- CERT_INSTALL
  | 0xbf => 0x3fc -- IMG_KEY_SET
  | 0xd0 => 0x3fc -- OCT_CFG
  | 0xd1 => 0x3fc -- PAIR_SET
  | 0xd2 => 0xffc -- PAIR_CLEAR
  | 0xd3 => 0x3fc -- EXPORT_SET
  | 0xd4 => 0x3f8 -- PORT_SEND
  | 0xd8 => 0x3f8 -- SLG_ENABLE
  | 0xd9 => 0xffc -- SLG_DISABLE
  | 0xda => 0x7fc -- SLG_PAGE_CHECK
  | _ => 0

/-- The opcodes of R712. -/
def knownOpcode (op : Nat) : Bool := decide (legalModes op ≠ 0)
/-- An opcode is legal in the present mode (R712). -/
def State.legal (s : State) (op : Nat) : Bool := bitOf (legalModes op) s.mode.code

/-- Nothing answers an access from outside: the chip is in reset, or its boot has halted (R22). -/
def State.deaf (s : State) : Bool := s.cpx.inReset || s.cpx.halted

/-- Command rings are served (R646), and privileged operations with them. -/
def State.served (s : State) : Bool := s.mode != .reset && s.mode != .halted

/-- The event ledger entry of a REFUSED_MODE refusal (R19, R679). -/
def State.logRefused (s : State) (c : Caller) (op cmdId : Nat) : State :=
  let src := match c with
    | .host f _ => [byte 0, byte f] ++ beBytes 4 cmdId
    | .thread t => [byte 1, byte t] ++ beBytes 4 0
    | .firmware => [byte 0, byte 0] ++ beBytes 4 0
  s.log 0x00 0xff 0x0010 (s.cPart c) 1 ([byte op, byte s.mode.code] ++ src)

/-- The command that ring r of function f executes. -/
def State.started (s : State) (f r : Nat) : Option Started := tabGet none s.par.cur (f * 4 + r)

def State.setStarted (s : State) (f r : Nat) (x : Option Started) : State :=
  { s with par := { s.par with cur := tabSet none s.par.cur (f * 4 + r) x } }

/-- The record of a command in its function's history: the last 1,024 that completed with OK and a non-zero CMD_ID (R647). -/
def State.remember (s : State) (f : Nat) (st : Started) (result : List Byte) : State :=
  if st.cmdId = 0 then s
  else
    let h : Hist := { cmdId := st.cmdId, hash := st.hash, opcode := st.opcode, resultLen := result.length,
                      result := if result.length ≤ 256 then result else [] }
    { s with par := { s.par with hist := tabSet [] s.par.hist f ((h :: tabGet [] s.par.hist f).take 1024) } }

/-- A completion entry of ring r of function f (R642), its result written inline or over the buffer (R643), and its vector
(R630, R632). -/
def State.post (s : State) (f r : Nat) (st : Started) (status orig : Status) (len : Nat) (result : List Byte) : State :=
  let s := if st.indirect && decide (result ≠ []) && !st.lost then s.emit (.dmaWrite st.buf 0 result) else s
  let s := s.emit (.completion f r st.cmdId status.code st.opcode (if st.lost then 1 else 0) orig.code len st.sqIndex
                    (if !st.indirect && decide (result.length ≤ 48) then result else []))
  (s.wrap F.ringCqIdx_CQ_PROD 1 f r).msix f (s.get F.ringCfg_VEC f r)

/-- A host command completes on its ring, where the ring executes that opcode. A started command of a partition being reset completes without an entry (R634). -/
def State.completeRing (s : State) (f r op : Nat) (status : Status) (result : List Byte) : State :=
  let st := (s.started f r).getD { cmdId := 0, opcode := op, indirect := decide (48 < result.length), bufLen := 4194304,
                                   buf := 0, sqIndex := s.get F.ringSqIdx_SQ_CONS f r, hash := 0 }
  if st.opcode ≠ op then s else
  let s := s.setStarted f r none
  if st.dead || (s.resetting (partOfFn f) && f != 0 && op != 0xa0) then s
  else
    let s := if status = .ok then s.remember f st result else s
    s.post f r st status .ok result.length result

/-- The completion payload that a privileged operation gives back to its thread (R337): the pending reply. -/
def State.replyThread (s : State) (t : Nat) (status : Status) (result : List Byte) : State :=
  { s with dsq := { s.dsq with pcmd := tabSet none s.dsq.pcmd t (some (status, result)) } }

/-- A command completes with a status, towards whoever sent it: a thread, where its PCMD waits for that opcode (R337). -/
def State.complete (s : State) (c : Caller) (op : Nat) (status : Status) (result : List Byte := []) : State :=
  match c with
  | .host f r => s.completeRing f r op status result
  | .thread t =>
    match (tabGet {} s.dsq.thr t).await with
    | .cmd _ _ o => if o = op then s.replyThread t status result else s
    | _ => s
  | .firmware => s

/-- The first check that fails. -/
def firstFail : List (Bool × Status) → Option Status
  | [] => none
  | (b, st) :: l => if b then some st else firstFail l

/-- CMD_ID of the command that a caller's ring executes. -/
def State.cCmdId (s : State) (c : Caller) : Nat :=
  match c with
  | .host f r => ((s.started f r).map (·.cmdId)).getD 0
  | _ => 0

/-- A command: judged by its mode, then by its checks in order; on OK it has its effect and its result (R16, R17, R712). -/
def State.runCmd (s : State) (c : Caller) (op : Nat) (checks : List (Bool × Status)) (eff : State)
    (result : List Byte := []) : State :=
  if !s.served then s
  else if !s.legal op then (s.logRefused c op (s.cCmdId c)).complete c op .refusedMode
  else
    match firstFail checks with
    | some st => s.complete c op st
    | none => eff.complete c op .ok result

/-- A command that is judged like any other and that, once accepted, completes later. -/
def State.runDeferred (s : State) (c : Caller) (op : Nat) (checks : List (Bool × Status)) (eff : State) : State :=
  if !s.served then s
  else if !s.legal op then (s.logRefused c op (s.cCmdId c)).complete c op .refusedMode
  else
    match firstFail checks with
    | some st => s.complete c op st
    | none => eff

/-- A command that only PT0 may send (R624). -/
def notOwner (s : State) (c : Caller) : Bool × Status := (!s.cOwner c, .partitionDenied)

/-- A command that names a resource of partition p: BUSY while p is RESETTING (R636), PARTITION_DENIED to any other (R44). -/
def ofPart (s : State) (c : Caller) (p : Nat) : List (Bool × Status) :=
  [(s.resetting p, .busy), (s.cPart c != p, .partitionDenied)]

/-- A command of PT0 that names a domain: BUSY while the domain's partition is RESETTING (R636). -/
def domFree (s : State) (n : Nat) : Bool × Status := ((s.dom n).st != .off && s.resetting (s.dom n).owner, .busy)

/-! ### The settings store (R725–R728) -/

/-- The settings store copy in use (R727); none while the factory settings are. -/
def State.setCopy (s : State) : Option SetCopy :=
  match s.cpx.setPos with
  | 0 => s.cpx.flash.set0
  | 1 => s.cpx.flash.set1
  | _ => none

/-- What the settings store holds; the factory settings where no copy is in use (R728, log entry 32). -/
def State.settings (s : State) : Settings := (s.setCopy.map (·.body)).getD s.cpx.factory

/-- The position that a change of the settings is written to: the copy in use, else a position without a copy (log entry 32). -/
def State.setPlace (s : State) : Nat :=
  if s.cpx.setPos < 2 then s.cpx.setPos else if s.cpx.flash.set0.isSome ∧ s.cpx.flash.set1.isNone then 1 else 0

/-- CP firmware changes the copy in use (R727); its digest follows the new contents. -/
def State.setSettings (s : State) (x : Settings) : State :=
  let c : SetCopy := s.setCopy.getD { sfmt := s.get F.cpxImg_SFMT (s.get F.cpxBoot_SLOT), state := 1, seq := 1, body := {}, digest := 0 }
  let c := some { c with body := x, digest := BitVec.ofNat 384 s.draw.1 }
  let f := s.cpx.flash
  { s.draw.2 with cpx := { s.cpx with setPos := s.setPlace,
                                      flash := if s.setPlace = 0 then { f with set0 := c } else { f with set1 := c } } }

/-- The model in use: 0 for the AOI, 1 for SYSXO. -/
def State.modelSet (s : State) : Nat := if s.getB F.pwrClkStat_SYN0_REF then 0 else 1

end Sys2Proof.Machine
end

