-- ==== Sys2Proof/Machine/Faults.lean ====
section
/-! DEFINITION. The fault collector: live, partition-sticky and device-sticky bits, onsets, their entries and reactions
(R659–R671). The live condition of every level source is `liveMask` in Machine/Live. -/
namespace Sys2Proof.Machine

/-- The block code of SOURCE for a fault source (R671, R678). DEDUCED for FS0–FS3 and FS56–FS59 (log entry 6). -/
def faultBlock (n : Nat) : Nat :=
  if n = 1 ∨ n = 2 ∨ n = 56 ∨ n = 58 then 0x0c
  else if n < 4 then 0x00
  else if n < 8 then 0x01
  else if n < 12 then 0x02
  else if n < 16 then 0x03
  else if n < 20 then 0x04
  else if n < 24 then 0x05
  else if n < 28 then 0x06
  else if n < 36 then 0x10
  else if n < 40 then 0x07
  else if n < 44 then 0x08
  else if n < 48 then 0x09
  else if n < 56 then 0x0b
  else if n < 60 then 0x0a
  else 0x08

/-- D[n] (R660). -/
def State.dSticky (s : State) (n : Nat) : Bool := bitOf (s.get F.supFstat0_D) n

/-- S[n,p] (R660). -/
def State.pSticky (s : State) (n p : Nat) : Bool := bitOf (s.get F.supPfstat_S_or_L p) n

/-- L[n,p] (R660). -/
def State.fLive (s : State) (n p : Nat) : Bool := bitOf (s.get F.supPflive_S_or_L p) n

/-- D[n] and S[n,p] at the start of the present cycle. A bit that was set then and is cleared in the cycle re-latches without an
onset (R661). -/
def State.dWas (s : State) (n : Nat) : Bool := s.sup.dStart.getLsbD n
def State.pWas (s : State) (n p : Nat) : Bool := (s.sup.sStart.getD p 0).getLsbD n

/-- A cycle begins: no pulse, no count of it yet. -/
def State.faultCycle (s : State) : State :=
  { s with sup := { s.sup with pulsed := [], counted := [], snapSlot := [], wrote := false, dStart := s.rd .supFstat0,
                               sStart := (List.range 8).map fun p => s.rd .supPfstat p } }

/-- The partitions for which source n is live, as a mask. -/
def State.liveOf (s : State) (n : Nat) : Nat := ((List.range 8).map fun p => if s.fLive n p then 2 ^ p else 0).sum

/-- The partitions for which a pulse of source n is live, a mask. -/
def State.pulsedMask (s : State) (n : Nat) : Nat :=
  ((List.range 8).map fun p => if s.sup.pulsed.contains (n, p) then 2 ^ p else 0).sum

/-- Set L[n,·] to a mask of partitions. -/
def State.setLive (s : State) (n mask : Nat) : State :=
  (List.range 8).foldl (fun s p =>
    let w := s.get F.supPflive_S_or_L p
    s.put F.supPflive_S_or_L (if bitOf mask p then withBit w n else withoutBit w n) p) s

/-- Latch SAFE (R706). -/
def State.latchSafe (s : State) (cause : Nat) : State :=
  if s.cpx.safe then s else { s with cpx := { s.cpx with safe := true, safeCause := cause } }

/-- The reactions that an onset triggers, in the bit order of SUP_REACTn: INT from a rise of S, the others from a rise of D,
with SAFE in place of a chip reset that would be the fourth (R661, R667). -/
def State.reactions (s : State) (n : Nat) (sRise dRise : Bool) : Nat :=
  if s.getB F.supCtl_COLL_PAR then 0
  else
    let esc := s.getB F.supReact_CHIP_RESET n && decide (s.get F.supAon_RST_CNT ≥ 3) && n != 51
    (if sRise && s.getB F.supReact_INT n then 1 else 0) +
    (if dRise && s.getB F.supReact_NMI n then 2 else 0) +
    (if dRise && s.getB F.supReact_BLOCK_RESET n && s.getB F.supReact_BLK_OK n then 4 else 0) +
    (if dRise && s.getB F.supReact_CHIP_RESET n && !esc then 8 else 0) +
    (if dRise && s.getB F.supReact_ERRPIN n then 16 else 0) +
    (if dRise && (s.getB F.supReact_SAFE n || esc) then 32 else 0)

/-- Stage the FAULT_ONSET entry of one partition, or of the device alone (R661, R675, R679). -/
def State.stageOnset (s : State) (n inst part reacts : Nat) (inj dev : Bool) : State :=
  let e : LEntry :=
    { stamp := s.startTicks 0, bound := s.d0Ecode, src := faultBlock n * 256 + inst, code := 0x0a01, part := part,
      sev := if bitOf reacts 3 || bitOf reacts 5 then 4 else 3,
      data := [byte n, byte reacts] ++ beBytes 2 (s.get F.supFcnt_PULSES n) ++
        [byte ((if inj then 1 else 0) + (if dev then 2 else 0))] ++ List.replicate 7 0#8,
      onset := some n }
  { s with sup := { s.sup with staged := s.sup.staged ++ [e] } }

/-- A cycle in which a live bit of source n rises counts once, where D[n] was set at its start (R662). -/
def State.faultCount (s : State) (n rise : Nat) : State :=
  if s.dWas n && decide (rise ≠ 0) && !s.sup.counted.contains n then
    { s with sup := { s.sup with counted := n :: s.sup.counted } }.bump F.supFcnt_PULSES 1 n
  else s

/-- Count a further rise, and set D[n] and S[n,p] for the partitions of `mask` (R660, R661). -/
def State.faultSticky (s : State) (n mask rise : Nat) : State :=
  let s := s.faultCount n rise
  let s := s.put F.supFstat0_D (withBit (s.get F.supFstat0_D) n)
  (maskList 8 mask).foldl (fun s p => s.put F.supPfstat_S_or_L (withBit (s.get F.supPfstat_S_or_L p) n) p) s

/-- The entry that carries the rise of D[n] in the present cycle, where one is staged: D was clear at the cycle's start (R661). -/
def State.deviceEntry (s : State) (n : Nat) : Option LEntry :=
  if s.dWas n then none else s.sup.staged.find? fun e => e.onset == some n && bitOf ((e.data.getD 4 0).toNat) 1

/-- An entry without DEVICE and without the reactions of a rise of D; none where nothing else is on it. -/
def withoutDevice (e : LEntry) : Option LEntry :=
  if e.part = 0xff then none
  else some { e with sev := 3, data := [byte ((e.data.getD 0 0).toNat), byte ((e.data.getD 1 0).toNat % 2)] ++ (e.data.drop 2).take 2 ++
                                       [byte ((e.data.getD 4 0).toNat % 2)] ++ e.data.drop 5 }

/-- The entries of an onset: one for each partition of `ps`, in ascending order; one for the device where there is none. The lowest
partition whose S rises in the cycle carries the rise of D, with its reactions (R661, R675). `inst` is the instance that each names,
by partition, 0xff for the device (R678). -/
def State.faultEntries (s : State) (n : Nat) (inst : Nat → Nat) (ps : List Nat) (dRise inj : Bool) : State :=
  match ps with
  | [] => if dRise then s.stageOnset n (inst 0xff) 0xff (s.reactions n false true) inj true else s
  | p :: l =>
    let int := s.reactions n true false
    let (dev, s) := if dRise then (some (s.reactions n false true), s)
      else match s.deviceEntry n with
        | some e => if p < e.part then
              (some ((e.data.getD 1 0).toNat / 2 * 2),
                { s with sup := { s.sup with staged := s.sup.staged.filterMap fun x => if x = e then withoutDevice x else some x } })
            else (none, s)
        | none => (none, s)
    let s := s.stageOnset n (inst p) p (int + dev.getD 0) inj dev.isSome
    l.foldl (fun s q => s.stageOnset n (inst q) q int inj false) s

/-- The interrupts of the partitions whose S rises (R667). -/
def State.faultInts (s : State) (n : Nat) (ps : List Nat) : State :=
  if bitOf (s.reactions n true false) 0 then
    ps.foldl (fun s p => s.msix (fnOfPart p) (s.get F.parFnCfg_FAULT_VEC (fnOfPart p))) s
  else s

/-- The NMI of an onset of D (R667). -/
def State.faultNmi (s : State) (n r : Nat) : State :=
  if bitOf r 1 then { s.emit (.nmi 0 n) with cpx := { s.cpx with nmis := (0, n) :: s.cpx.nmis } } else s

/-- The block reset of an onset of D, which its own row carries out (R667, R669); `lane` is the lane concerned (R666). -/
def State.faultBlockReset (s : State) (n mask lane r : Nat) : State :=
  if bitOf r 2 then { s with sup := { s.sup with blockPend := s.sup.blockPend ++ [(n, mask, lane)] } } else s

/-- The chip reset of an onset of D, which its own row carries out, or SAFE in its place (R667, R668). -/
def State.faultChipReset (s : State) (n r : Nat) (dRise : Bool) : State :=
  if dRise && !s.getB F.supCtl_COLL_PAR && s.getB F.supReact_CHIP_RESET n then
    { s with sup := { s.sup with chipPend := some (n, !bitOf r 3) } }
  else s

/-- SAFE as the reaction of an onset of D (R667, R668). -/
def State.faultSafe (s : State) (n r : Nat) : State := if bitOf r 5 then s.latchSafe (0x0500 + n) else s

/-- Source n is live for the partitions of `mask`, of which those of `rise` rise now: sticky bits, counts, entries and
reactions (R660–R664). The live bits themselves are the caller's. -/
def State.faultCore (s : State) (n mask rise : Nat) (inst : Nat → Nat) (inj : Bool) (lane : Nat := 0xff) : State :=
  if mask = 0 then s
  else
    let dRise := !s.dSticky n && !s.dWas n
    let ps := (maskList 8 mask).filter fun p => !s.pSticky n p && !s.pWas n p
    let s := ((s.faultSticky n mask rise).faultEntries n inst ps dRise inj).faultInts n ps
    let r := if dRise then s.reactions n false true else 0
    (((s.faultNmi n r).faultBlockReset n mask lane r).faultChipReset n r dRise).faultSafe n r

/-- A pulse condition of source n, attributed to partition p, is live for the present cycle (R659): its instance, and its lane where
a block reset retrains it. -/
def State.pulse (s : State) (n p inst : Nat) (inj : Bool := false) (lane : Nat := 0xff) : State :=
  let rise := if s.fLive n p then 0 else 2 ^ p
  let s := { s with sup := { s.sup with pulsed := (n, p) :: s.sup.pulsed } }
  (s.put F.supPflive_S_or_L (withBit (s.get F.supPflive_S_or_L p) n) p).faultCore n (2 ^ p) rise (fun _ => inst) inj lane

/-- A level condition of source n is live for exactly the partitions of `mask` (R659, R660). -/
def State.level (s : State) (n mask : Nat) (inst : Nat → Nat) : State :=
  let old := s.liveOf n
  let rise := ((List.range 8).map fun p => if bitOf mask p && !bitOf old p then 2 ^ p else 0).sum
  (s.setLive n mask).faultCore n mask rise inst false

/-- nFAULT is driven low (R665, R711). -/
def State.nFault (s : State) : Bool :=
  if s.mode = .reset then s.pwr.noFallback
  else (List.range 64).any (fun n => s.dSticky n && s.getB F.supReact_ERRPIN n) || s.getB F.supCtl_COLL_PAR ||
    s.mode == .safe || s.mode == .halted || s.pwr.noFallback

/-- SAFE_HOLD (R664, R668). -/
def State.safeHold (s : State) : Bool := (List.range 64).any fun n => s.dSticky n && s.getB F.supReact_SAFE n

end Sys2Proof.Machine
end

