-- ==== Sys2Proof/Machine/Timescale.lean ====
section
/-! DEFINITION. TSE: domains, their bounds and provenance, alarms and their order, and the TSE commands that need no other
block (02_timescale.md). -/
namespace Sys2Proof.Machine

/-! ### Advancing (R62, R64, R66) -/

/-- The slew contribution of one cycle (R64). -/
def slewStep (d : Dom) : Int :=
  if d.rem < 0 then -(Int.ofNat (min d.slewMax d.rem.natAbs)) else Int.ofNat (min d.slewMax d.rem.natAbs)

/-- One CLK_TSE cycle of a running domain: an offset takes the slew alone, every other accumulator the sum of R62. -/
def advanceDom (d : Dom) : Dom :=
  if d.st = .running then
    let c := slewStep d
    let rem := d.rem - c
    { d with
      acc := if d.kind = .derived then d.acc + c else d.acc + Int.ofNat Config.nomAdvance + d.foff + c
      rem := rem
      bookUnc := if rem = 0 then 0 else d.bookUnc
      moved := 0 }
  else { d with moved := 0 }

/-- Every domain advanced by one cycle. -/
def State.advanceAll (s : State) : State :=
  { s with tse := { s.tse with doms := s.tse.doms.map fun e => (e.1, advanceDom e.2) } }

/-! ### Provenance (R84–R86) -/

/-- Place a link at the head of the chain. -/
def pushLink (d : Dom) (kind id : Nat) : Dom := { d with prov := { kind := kind, id := id } :: d.prov }

/-- A link of a chain is traceable (R84). RING links are judged by what the sender marked (`hrl.ringTrace`). -/
def State.linkTraceable (s : State) (n : Nat) (l : Link) : Bool :=
  match l.kind with
  | 1 => true
  | 2 => decide (s.get F.refStat_STATE l.id ≥ 2)
  | 3 => true
  | 4 => tabGet false s.hrl.ringTrace n
  | 5 => (s.dom l.id).traceable
  | _ => false

/-- The register DOMn_PROV: the four nearest links (R84, R86). -/
def provWord (p : List Link) : Nat :=
  ((p.take 4).zipIdx.map fun e => (e.1.kind * 4096 + e.1.id % 4096) * 2 ^ (16 * e.2)).sum

/-! ### Bounds (R78–R82) -/

/-- H(t) of R79, t in microseconds. -/
def holdGrowth (d : Dom) (t : Nat) : Nat :=
  ceilDiv (d.dfu * t * 262144000) (2 ^ 64) + ceilDiv (d.age * t * t * 2 ^ 18) (2 ^ 97 * 1000) +
    ceilDiv (d.tc * d.tint * 2 ^ 18 * 1000000) (2 ^ 64)

/-- ceil(|DOM_SLEW_REM|) in ticks, as the register shows it: signed, rounded away from zero (R64). -/
def slewRemTicks (d : Dom) : Int := awayDiv d.rem Config.uPerTick

/-- The bound of a domain at an update, its parent's already formed (R79, R80). -/
def boundOf (d : Dom) (parent : Nat) : Nat :=
  if d.unseeded || d.lost || d.st != .running then Config.unb
  else
    match d.kind with
    | .off | .free => Config.unb
    | .ref | .ring =>
      if d.hold then boundSum [d.b0, d.bcBook, holdGrowth d (d.holdT + 1)]
      else boundSum [d.bcSrc, d.bcRef, d.bcServo, d.bcBook]
    | .derived => boundSum [parent, d.bcRef, d.bcBook]
    | .steered => boundSum [d.bcSrc, ceilDiv (d.dfu * (d.tw + 1) * 262144000) (2 ^ 64), d.bcBook]

/-- The counted times and the booked term of a domain at an update. -/
def tickTerms (d : Dom) : Dom :=
  { d with
    holdT := if d.hold then d.holdT + 1 else d.holdT
    tw := d.tw + 1
    bcBook := boundSum [(slewRemTicks d).natAbs, d.bookUnc]
    sumLast := boundSum [d.bcSrc, d.bcRef, d.bcServo] }

/-- The bound and the traceability of one domain at an update; a change of TRACEABLE is entered in the event ledger
(R85, R87). -/
def State.updateDom (s : State) (n : Nat) : State :=
  let d0 := s.dom n
  if d0.kind = .off ∧ !d0.traceable then s
  else
    let d := tickTerms d0
    let b := boundOf d (s.dom d.parent).bound
    let tr := b != Config.unb && decide (d.prov ≠ []) && d.prov.all (s.linkTraceable n)
    let s := s.setDom n { d with bound := b, traceable := tr }
    if tr = d0.traceable then s
    else
      s.log 0x01 n 0x0103 d.owner (if tr then 1 else 2)
        ([byte n, byte (if tr then 1 else 0)] ++ beBytes 8 (provWord d.prov))

/-- Every domain's bound, in rising order of number (R55). -/
def State.updateBounds (s : State) : State := (List.range 32).foldl (fun s n => s.updateDom n) s

/-! ### Alarms (R32, R88–R95) -/

/-- The alarm in a slot. -/
def State.alarm (s : State) (k : Nat) : Alarm := tabGet {} s.tse.alarms k

def State.setAlarm (s : State) (k : Nat) (a : Alarm) : State :=
  { s with tse := { s.tse with alarms := tabSet {} s.tse.alarms k a } }

/-- A slot is held (R35): a system slot, an armed one, or the wait slot of a started thread. -/
def State.slotHeld (s : State) (k : Nat) : Bool := decide (k < 8) || (s.alarm k).st == .armed || (s.alarm k).pinned

/-- The partition that holds a slot. -/
def State.slotPart (s : State) (k : Nat) : Nat := if k < 8 then 0 else (s.alarm k).part

/-- USED of a partition (R35). -/
def State.almUsed (s : State) (p : Nat) : Nat :=
  (s.tse.alarms.filter fun e => decide (8 ≤ e.1) && e.2.part == p && (e.2.st == .armed || e.2.pinned)).length +
    (if p = 0 then 8 else 0)

/-- The partition may take another slot. -/
def State.quotaLeft (s : State) (p : Nat) : Bool := decide (s.almUsed p < s.get F.tseAlmQuota_QUOTA p)

/-- The lowest slot from `k` upwards that nobody holds. -/
def freeSlotFrom (s : State) : Nat → Nat → Option Nat
  | 0, _ => none
  | f + 1, k => if k ≥ 4096 then none else if s.slotHeld k then freeSlotFrom s f (k + 1) else some k

/-- A free slot that the partition may take (R35). Which free slot TSE takes is open; the lowest (log entry 9). -/
def State.freeSlot (s : State) (p : Nat) : Option Nat :=
  if s.quotaLeft p then freeSlotFrom s 4096 8 else none

/-- Alarm `a` of slot `i` precedes alarm `b` of slot `j` within a cycle (R92). -/
def dueBefore (a b : Due) : Bool :=
  if a.al.inst ≠ b.al.inst then decide (a.al.inst < b.al.inst)
  else if a.al.kind = .escrowCommit ∧ b.al.kind = .escrowCommit then decide (a.al.seq < b.al.seq)
  else if a.al.kind = .escrowCommit then true
  else if b.al.kind = .escrowCommit then false
  else decide (a.slot < b.slot)

/-- Insert a due alarm in the order of R92. -/
def insertDue (x : Due) : List Due → List Due
  | [] => [x]
  | y :: l => if dueBefore x y then x :: y :: l else y :: insertDue x l

/-- The alarm of a slot is already among the due ones of the cycle. -/
def State.isDue (s : State) (k : Nat) : Bool := s.tse.due.any fun d => d.slot == k && d.al.seq == (s.alarm k).seq

/-- Domain n is m, or derives from it through running domains (R56). -/
def State.derivesFrom (s : State) (m : Nat) : Nat → Nat → Bool
  | 0, n => n == m
  | f + 1, n => n == m ||
      ((s.dom n).kind == .derived && (s.dom n).st == .running && s.derivesFrom m f (s.dom n).parent)

/-- The alarm of an entry is armed on a running domain whose value is at or past its instant, and is not yet among the due. -/
def State.reached (s : State) (e : Nat × Alarm) : Bool :=
  e.2.st == .armed && (s.dom e.2.dom).st == .running && decide (Int.ofNat e.2.inst ≤ s.ticks e.2.dom) && !s.isDue e.1

/-- The due record of an alarm, its lateness judged against its domain's value. -/
def State.dueOf (s : State) (step : Bool) (e : Nat × Alarm) : Due :=
  { slot := e.1, al := e.2, lat := (s.ticks e.2.dom - Int.ofNat e.2.inst).toNat, step := step }

/-- Every armed alarm on a running domain whose value is at or past its instant becomes due at the start of a cycle (R32, R89,
R94); an alarm that waited for the end of the last cycle is armed now (R95). -/
def State.markDue (s : State) : State :=
  let s := { s with tse := { s.tse with alarms := s.tse.alarms.map (fun (e : Nat × Alarm) => (e.1, ({ e.2 with armEnd := false } : Alarm))) } }
  let new := (s.tse.alarms.filter s.reached).map (s.dueOf false)
  { s with tse := { s.tse with due := new.foldl (fun l x => insertDue x l) s.tse.due } }

/-- A periodic alarm that was due at the start of the cycle of a step of domain n, which takes the domain past further instances
of it: it fires once for all of them, through the step (R93; log entry 73). -/
def State.dueStepped (s : State) (n : Nat) (d : Due) : Due :=
  if s.derivesFrom n 31 d.al.dom && d.al.period != 0 && decide (Int.ofNat (d.al.inst + d.al.period) ≤ s.ticks d.al.dom) then
    { d with lat := (s.ticks d.al.dom - Int.ofNat d.al.inst).toNat, step := true }
  else d

/-- A forward step of domain n makes every alarm that it passes due in its cycle, with S (R91), but those that are armed from the
next cycle on (R90, R95). -/
def State.markStepped (s : State) (n : Nat) : State :=
  let new := (s.tse.alarms.filter fun e =>
    s.reached e && s.derivesFrom n 31 e.2.dom && !e.2.lateArm && !e.2.armEnd).map (s.dueOf true)
  { s with tse := { s.tse with due := new.foldl (fun l x => insertDue x l) (s.tse.due.map (s.dueStepped n)) } }

/-- The slot's record after its alarm fires (R89, R93): a one-shot alarm is FIRED, a periodic one is armed again. -/
def firedAlarm (d : Due) : Alarm :=
  let a := { d.al with fires := satNat 29 (d.al.fires + 1), sFlag := d.step, lFlag := d.al.lateArm, lateArm := false,
                       lateness := d.lat }
  if d.al.period = 0 then { a with st := .fired }
  else if d.step then
    { a with inst := d.al.inst + (d.lat / d.al.period + 1) * d.al.period, missed := satNat 32 (d.lat / d.al.period) }
  else { a with inst := d.al.inst + d.al.period }

/-- Take a due alarm off the cycle's list and write its slot, unless another alarm has replaced it (R95). An alarm whose slot
was released while it was due fires this once and is not armed again (R95, R128; log entry 9). -/
def State.noteFired (s : State) (d : Due) : State :=
  let rest := s.tse.due.filter fun e => !(e.slot == d.slot && e.al.seq == d.al.seq)
  let s := { s with tse := { s.tse with due := rest, firedNow := d.al.seq :: s.tse.firedNow } }
  if (s.alarm d.slot).seq = d.al.seq then
    let a := if (s.alarm d.slot).st = .cancelled then { firedAlarm d with st := .fired, inst := d.al.inst } else firedAlarm d
    s.setAlarm d.slot { a with pinned := (s.alarm d.slot).pinned, cancelLate := (s.alarm d.slot).cancelLate }
  else s

/-- Cancel the alarm of a slot under R95: nothing where it is due in this cycle or is not armed. -/
def State.cancelSlot (s : State) (k : Nat) : State :=
  if (s.alarm k).st = .armed ∧ !s.isDue k then s.setAlarm k { s.alarm k with st := .cancelled } else s

/-- Release the slot of an armed alarm, periodic or not; where the alarm is due it still fires, once (R95, R128). -/
def State.releaseSlot (s : State) (k : Nat) : State :=
  if (s.alarm k).st = .armed then s.setAlarm k { s.alarm k with st := .cancelled } else s

/-- The alarm armed in slot k is of this kind and target: an object's own, where the slot was not taken for another alarm
after the object's had ended (R35). -/
def State.ownAlarm (s : State) (k : Nat) (kind : AlarmKind) (target : Nat) : Bool :=
  (s.alarm k).st == .armed && (s.alarm k).kind == kind && (s.alarm k).target == target

/-- An object releases slot k, where the alarm in it is its own (log entry 9). -/
def State.releaseOwn (s : State) (k : Nat) (kind : AlarmKind) (target : Nat) : State :=
  if s.ownAlarm k kind target then s.releaseSlot k else s

/-- An alarm that SYN_EVO_ARM armed in slot k, accepted as number `seq`, is armed still. -/
def State.evoOwns (s : State) (k seq : Nat) : Bool := (s.alarm k).st == .armed && (s.alarm k).seq == seq

/-- The acceptance numbers of the alarms that SYN_EVO_ARM armed for an EVO. -/
def State.evoSeqs (s : State) (v : Nat) : Nat × Nat := tabGet (0, 0) s.syn.evoSeq v

/-- ARMED of an EVO: one of the two alarms that SYN_EVO_ARM armed is armed still (log entry 68). -/
def State.evoArmed (s : State) (v : Nat) : Bool :=
  s.evoOwns (s.get F.evoSlots_LEAD_SLOT v) (s.evoSeqs v).1 || s.evoOwns (s.get F.evoSlots_TRAIL_SLOT v) (s.evoSeqs v).2

/-- The registers of an escrow whose commit alarm was cancelled by its domain: it is OPEN again (log entry 12). -/
def State.reopenEscrow (s : State) (a : Alarm) : State :=
  if a.kind = .escrowCommit then (s.put F.escStat_STATE 1 a.target).put F.escStat_SLOT 0 a.target else s

/-- Cancel every alarm on a domain, with LATE recorded in each slot (R57). -/
def State.cancelDomain (s : State) (n : Nat) : State :=
  (tabKeys (fun _ a => a.st == .armed && a.dom == n) s.tse.alarms).foldl (fun s k =>
    (s.setAlarm k { s.alarm k with st := .cancelled, cancelLate := true }).reopenEscrow (s.alarm k))
    { s with tse := { s.tse with due := s.tse.due.filter fun e => e.al.dom != n } }

/-- Arm an alarm in a slot; the old alarm, when it is due, stays among the due ones of the cycle, and the new one is armed at the
end of that cycle (R95). The slot's record starts afresh: CANCEL_LATE, MISSED, FIRES and the flags are clear (log entry 73). -/
def State.armSlot (s : State) (k part dom inst : Nat) (kind : AlarmKind) (target period : Nat) (fire late : Bool) : State :=
  let a : Alarm := { st := .armed, part := part, dom := dom, inst := inst, kind := kind, target := target, period := period,
                     fire := fire, seq := s.tse.seq, lateArm := late, pinned := (s.alarm k).pinned,
                     armEnd := s.isDue k }
  { s.setAlarm k a with tse := { (s.setAlarm k a).tse with seq := s.tse.seq + 1 } }

/-! ### Steps and seeds (R60, R61, R67–R69) -/

/-- A tick count that a 64-bit interval holds (R4). -/
def fits64 (x : Int) : Bool := decide (-(2 ^ 63 : Int) ≤ x) && decide (x < (2 ^ 63 : Int))

/-- A signed 64-bit code, the value clipped to its range (R68). -/
def clip64 (x : Int) : Nat := codeOf 64 (satInt 64 x)

/-- A window of an EMU is open on a domain. -/
def State.windowOn (s : State) (m n : Nat) : Bool :=
  s.getB F.emuStat_OPEN m && s.derivesFrom n 31 (s.get F.emuCfg_DOMAIN m)

/-- Change the record of every EMU with a window open on domain n. -/
def State.onWindows (s : State) (n : Nat) (f : Emu → Emu) : State :=
  (List.range 32).foldl (fun s m =>
    if s.windowOn m n then { s with rim := { s.rim with emus := tabSet {} s.rim.emus m (f (tabGet {} s.rim.emus m)) } } else s) s

/-- A step of domain n reaches the windows open on it: S is set, and the times taken move with the domain (R127). -/
def State.stepWindows (s : State) (n : Nat) (diff : Int) : State :=
  let move (e : EmuEdge) : EmuEdge := { e with t := e.t + diff }
  s.onWindows n fun x => { x with sFlag := true, start := x.start.map move, stop := x.stop.map move }

/-- The stamp ledger windows open on domain n, or on one that derives from it, will carry STEPPED (R441). -/
def State.stepPages (s : State) (n : Nat) : State :=
  (List.range 64).foldl (fun s l =>
    if s.getB F.slgStat_OPEN l && s.derivesFrom n 31 (s.get F.slgCfg_DOMAIN l) then s.putB F.slgStat_STEPPED true l else s) s

/-- The windows open on a domain that no longer runs will report CUT (R126). -/
def State.cutWindows (s : State) (n : Nat) : State :=
  s.onWindows n fun x => { x with cut := true }

/-- The ADPLLs that a step of D0 leaves off its grid: those in FOLLOW whose outputs run (R257, R277), and those noted before. -/
def State.movedMask (s : State) : Nat :=
  s.tse.d0Moved ||| orMasks (((List.range 8).filter fun n =>
    s.get F.synCfg_REF_MODE n == 1 && decide (4 ≤ s.get F.synStat_STATE n ∧ s.get F.synStat_STATE n ≤ 6)).map fun n => 2 ^ n)

/-- A step of a domain by ticks: the ledger entry, STEP_LARGE, and the alarms passed (R67–R69, R91). -/
def State.afterMove (s : State) (n : Nat) (diff : Int) (code issuer : Nat) : State :=
  let s := if n = 0 then { s with tse := { s.tse with d0Moved := s.movedMask } } else s
  let s := (s.stepWindows n diff).stepPages n
  let s := s.log 0x01 n code (s.dom n).owner 1 ([byte n, byte issuer, 0, 0] ++ beBytes 8 (clip64 diff))
  let s := if Int.ofNat (s.get F.tseStepLimit_LIMIT) < Int.ofNat diff.natAbs then s.pulse 7 (s.dom n).owner n else s
  if 0 < diff then s.markStepped n else s

/-- Add a signed amount of ticks to a domain's time (R67). -/
def State.stepDom (s : State) (n : Nat) (ticks : Int) (issuer : Nat) : State :=
  let u := ticks * Int.ofNat Config.uPerTick
  (s.setDom n { s.dom n with acc := (s.dom n).acc + u, moved := (s.dom n).moved + u }).afterMove n ticks 0x0101 issuer

/-- Set a domain's time (R60, R61): the offset, for a running DERIVED domain. -/
def State.setTime (s : State) (n : Nat) (t : Int) (issuer : Nat) : State :=
  let d := s.dom n
  let base := if d.kind = .derived ∧ d.st = .running then s.domU d.parent else 0
  let diff := t - s.ticks n
  let u := t * Int.ofNat Config.uPerTick
  (s.setDom n { d with acc := u - base, unseeded := false, bound := Config.unb, moved := d.moved + (u - s.domU n) }).afterMove
    n diff 0x0102 issuer

/-- Book a slew (R64). -/
def bookSlew (d : Dom) (ticks : Int) (unc slewMax : Nat) : Dom :=
  { d with rem := d.rem + ticks * Int.ofNat Config.uPerTick, bookUnc := boundSum [d.bookUnc, unc], slewMax := slewMax }

/-! ### Domain states (R57) -/

/-- The domain stops: its value is kept, it is UNBOUNDED, and a FREERUN link heads its chain. -/
def State.freezeDom (s : State) (n : Nat) (st : DomState) : State :=
  let s := s.cutWindows n
  s.setDom n (pushLink { s.dom n with st := st, acc := s.domU n, moved := s.movedU n, lost := true, bound := Config.unb } 7 0)

/-- The domain runs on from its held value. -/
def State.resumeDom (s : State) (n : Nat) : State :=
  let d := s.dom n
  if d.kind = .derived then
    s.setDom n { d with st := .running, acc := d.acc - s.domU d.parent, moved := d.moved - s.movedU d.parent }
  else s.setDom n { d with st := .running }

/-- CLK_TSE is lost: every running domain is HELD at its value (R57, R753). -/
def State.holdDomains (s : State) : State :=
  (List.range 32).reverse.foldl (fun s n =>
    if (s.dom n).st = .running then
      (s.cutWindows n).setDom n { s.dom n with st := .held, acc := s.domU n, moved := s.movedU n, bound := Config.unb }
    else s) s

/-- CLK_TSE is proven again: every HELD domain runs on, UNBOUNDED, with a FREERUN link at its head (R57). -/
def State.releaseDomains (s : State) : State :=
  (List.range 32).foldl (fun s n =>
    if (s.dom n).st = .held then
      let s := s.resumeDom n
      s.setDom n (pushLink { s.dom n with lost := true, bound := Config.unb } 7 0)
    else s) s

/-- The domain that DOM_CONFIG leaves (R57). TRACEABLE follows at the next bound update, which enters its change in the event
ledger (R85, R87). -/
def configured (d : Dom) (kind : DomKind) (parent owner : Nat) : Dom :=
  if d.st = .off then
    { d with kind := kind, st := .stopped, parent := parent, owner := owner, acc := 0, unseeded := true, lost := true,
             bound := Config.unb, prov := [], moved := 0 }
  else
    { d with kind := kind, parent := parent, owner := owner, unseeded := true, lost := true, bound := Config.unb,
             prov := [], foff := 0, rem := 0, bookUnc := 0, bcSrc := 0, bcRef := 0, bcServo := 0, bcBook := 0, dfu := 0,
             age := 0, tc := 0, tint := 0, b0 := 0, hold := false, holdT := 0, tw := 0 }

/-- Set or clear HOLD of a domain (R79): the registers of R79 take their start values. -/
def State.setHold (s : State) (n : Nat) (b : Bool) : State :=
  let d := s.dom n
  if b then s.setDom n { d with hold := true, holdT := 0, b0 := d.sumLast } else s.setDom n { d with hold := false }

/-- The kind that a code of R54 names. -/
def kindOfCode : Nat → Option DomKind
  | 0 => some .off
  | 1 => some .ref
  | 2 => some .ring
  | 3 => some .derived
  | 4 => some .steered
  | 5 => some .free
  | _ => none

def DomKind.code : DomKind → Nat
  | .off => 0 | .ref => 1 | .ring => 2 | .derived => 3 | .steered => 4 | .free => 5

def DomState.code : DomState → Nat
  | .off => 0 | .stopped => 1 | .running => 2 | .held => 3

/-! ### Commands (R101–R104) -/

/-- DOM_CONFIG (0x10). -/
def State.domConfig (s : State) (n kind parent owner : Nat) : State :=
  let d := s.dom n
  match (kindOfCode kind).getD .off with
  | .off => if d.st = .off then s else (s.cancelDomain n).setDom n { d with kind := .off, st := .off }
  | k =>
    let s := if d.st = .stopped ∧ d.owner ≠ owner then s.cancelDomain n else s
    s.setDom n (configured d k parent owner)

/-- What DOM_SEED does (R60): the time, then the bound and the provenance of the domain's kind. -/
def State.domSeed (s : State) (n : Nat) (t bound part : Nat) : State :=
  let s := s.setTime n (Int.ofNat t) part
  let d := s.dom n
  s.setDom n
    { d with
      lost := false, tw := 0
      bcSrc := if d.kind = .steered then bound else d.bcSrc
      prov := if d.kind = .derived then [{ kind := 5, id := d.parent }] else [{ kind := 8, id := part }] }

/-! ### Leap seconds (R74–R77) -/

/-- The UTC offset that an event of this type leads to. -/
def State.newUtcOffset (s : State) (type : Nat) : Int :=
  if type = 1 then s.getI F.tseUtc_UTC_OFFSET + 1 else s.getI F.tseUtc_UTC_OFFSET - 1

/-- D0's seconds. -/
def State.d0Sec (s : State) : Int := s.ticks 0 / Int.ofNat Config.secTicks

/-- A LEAP_SET arrives too late for the pending event (R77). -/
def State.leapLate (s : State) : Bool :=
  let at' := Int.ofNat (s.get F.tseLeapAt_LEAP_AT)
  (s.get F.tseUtc_LEAP_TYPE == 1 && decide (at' - 1 ≤ s.d0Sec)) || (s.get F.tseUtc_LEAP_TYPE == 2 && decide (at' ≤ s.d0Sec))

/-- Cancel the pending leap event (R75). -/
def State.leapClear (s : State) : State :=
  (((s.cancelSlot 0).cancelSlot 1).put F.tseUtc_LEAP_TYPE 0).put F.tseLeapAt_LEAP_AT 0

/-- Schedule a leap event in AS0 and AS1 (R76). -/
def State.leapArm (s : State) (type leapAt : Nat) : State :=
  let late (t : Nat) : Bool := decide (Int.ofNat t ≤ s.ticks 0)
  let s := (s.leapClear.put F.tseUtc_LEAP_TYPE type).put F.tseLeapAt_LEAP_AT leapAt
  let flagAt := (leapAt - 1) * Config.secTicks
  let s := if type = 1 then s.armSlot 0 0 0 flagAt .leap 0 0 true (late flagAt) else s
  s.armSlot 1 0 0 (leapAt * Config.secTicks) .leap 1 0 true (late (leapAt * Config.secTicks))

def execLeapSet (c : Caller) (type leapAt : Nat) (s : State) : Res :=
  .next (s.runCmd c 0x16
    [notOwner s c, (decide (2 < type), .badArg),
     (type != 0 && (decide (2 ^ 48 ≤ leapAt) || decide ((Int.ofNat leapAt - s.newUtcOffset type) % 86400 ≠ 0)), .badArg),
     (s.leapLate, .late)]
    (if type = 0 then (if s.get F.tseUtc_LEAP_TYPE = 0 then s else s.leapClear) else s.leapArm type leapAt))

/-- What a LEAP alarm does at firing (R76): AS0 sets LEAP_FLAG, AS1 changes UTC_OFFSET and ends the event. -/
def State.leapFire (s : State) (target : Nat) : State :=
  if target = 0 then s.putB F.tseUtc_LEAP_FLAG true
  else
    let off := s.newUtcOffset (s.get F.tseUtc_LEAP_TYPE)
    (((s.putI F.tseUtc_UTC_OFFSET off).putB F.tseUtc_LEAP_FLAG false).put F.tseUtc_LEAP_TYPE 0).put F.tseLeapAt_LEAP_AT 0

/-- The UTC seconds of D0 (R74). -/
def State.utcSec (s : State) : Int :=
  s.d0Sec - s.getI F.tseUtc_UTC_OFFSET - (if s.getB F.tseUtc_LEAP_FLAG then 1 else 0)

/-! ### Captures (R70–R73) -/

/-- The register DOMn_STATE. -/
def State.domStateWord (s : State) (n : Nat) : Nat :=
  let d := s.dom n
  let b (x : Bool) (k : Nat) : Nat := if x then 2 ^ k else 0
  d.owner % 8 * 2 ^ 24 + d.parent % 32 * 2 ^ 16 + b (decide (4 < d.prov.length)) 15 +
    b (n == 0 && s.getB F.tseUtc_LEAP_FLAG) 14 + b (d.rem != 0) 13 + b d.foffSat 12 + b d.unseeded 11 +
    b (d.bound == Config.unb) 10 + b d.traceable 9 + b d.hold 8 + d.kind.code * 16 + d.st.code

/-- The code of a requester that holds capture sets of its own: CP cores, PF, VFs, DSQ engines (R70, R72). -/
def reqCode : Master → Nat
  | .cp k => k % 4
  | .fn f => 4 + f
  | .thread t => 13 + t / 16
  | .dma => 21

/-- What a requester's capture set of a domain holds; the reset values before any capture (R71). -/
def State.cap (s : State) (m : Master) (n : Nat) : Cap :=
  (s.tse.caps.find? (fun e => e.1 == reqCode m * 32 + n)).map (·.2) |>.getD { state := if n = 0 then 0xc11 else 0xc00 }

/-- Capture a domain for a requester: its time at the start of the cycle, with what else it shows (R70, R73). -/
def State.capture (s : State) (m : Master) (n : Nat) : State :=
  let x := s.draw.1
  let t := s.startTicks n
  let s := if 0 ≤ t ∧ t < timeSpan then s else s.draw.2
  let c : Cap :=
    { sec := secWord x t, sub := subWord x t, bound := BitVec.ofNat 64 (s.dom n).bound,
      state := BitVec.ofNat 64 (s.domStateWord n), prov := BitVec.ofNat 64 (provWord (s.dom n).prov),
      utc := if n = 0 then BitVec.ofNat 64 (codeOf 48 s.utcSec) else 0 }
  { s with tse := { s.tse with caps := tabPut s.tse.caps (reqCode m * 32 + n) c } }

end Sys2Proof.Machine
end

