-- ==== Sys2Proof/Machine/Queues.lean ====
section
/-! DEFINITION. DSQ: the message queues (R363–R372), the flags and registers of threads, and how threads start, stop and fault
(R355–R362, R301, R340). -/
namespace Sys2Proof.Machine

/-- Count an event of R682 for the tally banks. -/
def State.tally (s : State) (b : Bump) : State := { s with sup := { s.sup with bumps := s.sup.bumps ++ [b] } }

/-! ### Registers and flags of a thread (R297–R301) -/

def State.thr (s : State) (t : Nat) : Thr := tabGet {} s.dsq.thr t

def State.setThr (s : State) (t : Nat) (x : Thr) : State :=
  { s with dsq := { s.dsq with thr := tabSet {} s.dsq.thr t x } }

/-- A general register; G0 reads as zero (R297). -/
def State.g (s : State) (t r : Nat) : Word := if r % 32 = 0 then 0 else s.rd .thrG t (r % 32)

/-- Write a general register; a write to G0 is discarded (R297). -/
def State.setG (s : State) (t r : Nat) (w : Word) : State := if r % 32 = 0 then s else s.wr .thrG w t (r % 32)

def State.treg (s : State) (t n : Nat) : TReg := tabGet {} (s.thr t).tr (n % 8)

def State.setTreg (s : State) (t n : Nat) (x : TReg) : State :=
  s.setThr t { s.thr t with tr := tabSet {} (s.thr t).tr (n % 8) x }

/-- The flags in THRt_STAT.FLAGS. -/
inductive Flag | z | n | c | v | l | s
  deriving DecidableEq, Repr

def Flag.bit : Flag → Nat
  | .z => 5 | .n => 4 | .c => 3 | .v => 2 | .l => 1 | .s => 0

def State.flag (s : State) (t : Nat) (f : Flag) : Bool := bitOf (s.get F.thrStat_FLAGS t) f.bit

/-- A FLAGS field with one flag set or clear. -/
def flagTo (w : Nat) (f : Flag) (b : Bool) : Nat := if b then withBit w f.bit else withoutBit w f.bit

/-- A FLAGS field with several flags set or clear. -/
def flagsTo (w : Nat) (l : List (Flag × Bool)) : Nat := l.foldl (fun w e => flagTo w e.1 e.2) w

def State.setFlags (s : State) (t : Nat) (l : List (Flag × Bool)) : State :=
  s.put F.thrStat_FLAGS (flagsTo (s.get F.thrStat_FLAGS t) l) t

/-- Thread states (R355). -/
abbrev thIdle := 0
abbrev thReady := 1
abbrev thAlarm := 2
abbrev thQueue := 3
abbrev thReply := 4
abbrev thYielded := 5
abbrev thHalted := 6
abbrev thFaulted := 7

def State.thrState (s : State) (t : Nat) : Nat := s.get F.thrStat_STATE t
def State.setThrState (s : State) (t v : Nat) : State := s.put F.thrStat_STATE v t

/-- A thread is started (R356). -/
def State.isStarted (s : State) (t : Nat) : Bool := s.thrState t != 0 && s.thrState t != 6 && s.thrState t != 7

/-! ### Queues -/

def State.queue (s : State) (q : Nat) : Queue := tabGet {} s.dsq.queues q

def State.setQueue (s : State) (q : Nat) (x : Queue) : State :=
  { s with dsq := { s.dsq with queues := tabSet {} s.dsq.queues q x } }

/-- Words that a queue can hold; a disabled queue holds none. -/
def State.qDepth (s : State) (q : Nat) : Nat := if s.getB F.qCfg_EN q then 2 ^ s.get F.qCfg_DEPTH q else 0

/-- Whole items waiting (R367). -/
def qCount (x : Queue) : Nat := (x.words.filter (·.2)).length

/-- A pointer moved on by n words (R363). -/
def State.qStep (s : State) (q p n : Nat) : Nat := (p + n) % (2 * 2 ^ s.get F.qCfg_DEPTH q)

/-- A sample record of thread t is dropped (R381). -/
def State.sampleLost (s : State) (t : Nat) : State := (s.bump F.dsqStat_SAMPLE_LOST 1).pulse 27 (s.thrPart t) t

/-- An item or push is dropped: counted, and QUEUE_DROP (R365, R366), of the thread that pushed; a result of EMU m is also lost there
(R146), and a sample record is counted as lost (R381). -/
def State.qDrop (s : State) (q : Nat) (src : ItemSrc) (thread : Nat := 0xff) : State :=
  let p := s.get F.qCfg_PART q
  let s := (s.bump F.qStat_DROPPED 1 q).pulse 26 p thread
  match src with
  | .emu m =>
    let x : Emu := { tabGet {} s.rim.emus m with lostQ := true }
    ({ s with rim := { s.rim with emus := tabSet {} s.rim.emus m x } }.bump F.emuStat_LOST 1 m).pulse 10 p m
  | .sample t => s.sampleLost t
  | .other => s

/-- The words of a hardware item enter the queue. -/
def State.qAppend (s : State) (q : Nat) (l : List (Word × Bool)) : State :=
  let x := s.queue q
  s.setQueue q { x with words := x.words ++ l, wr := s.qStep q x.wr l.length }

/-- The item held aside is written once no item is open, or dropped where it does not fit (R366). -/
def State.qRelease (s : State) (q : Nat) : State :=
  match (s.queue q).opn, (s.queue q).held with
  | none, some (l, src) =>
    let s := s.setQueue q { s.queue q with held := none }
    if (s.queue q).words.length + l.length ≤ s.qDepth q then s.qAppend q l else s.qDrop q src
  | _, _ => s

/-- A hardware item (R364, R366). -/
def State.qPostHw (s : State) (q : Nat) (l : List (Word × Bool)) (src : ItemSrc := .other) : State :=
  let x := s.queue q
  if x.opn.isSome && s.getB F.qCfg_EN q then
    (if x.held.isSome then s.qDrop q src else s.setQueue q { x with held := some (l, src) })
  else if x.words.length + l.length ≤ s.qDepth q then s.qAppend q l
  else s.qDrop q src

/-- Words as an item: the end mark travels on the last (R365). -/
def itemOf : List Word → List (Word × Bool)
  | [] => []
  | [w] => [(w, true)]
  | w :: l => (w, false) :: itemOf l

/-- A producer m may write a word now: the queue is not full, and no other producer's item is open (R365). -/
def State.qCanPut (s : State) (q : Nat) (m : Master) : Bool :=
  decide ((s.queue q).words.length < s.qDepth q) &&
    (match (s.queue q).opn with | none => true | some (o, _) => o == m)

/-- Write a word with its end mark (R365). -/
def State.qPut (s : State) (q : Nat) (m : Master) (w : Word) (fin : Bool) : State :=
  let x := s.queue q
  let n := match x.opn with | none => 0 | some (_, n) => n
  (s.setQueue q { x with words := x.words ++ [(w, fin)], wr := s.qStep q x.wr 1,
                         opn := if fin then none else some (m, n + 1) }).qRelease q

/-- A reader m finds a word now (R367). -/
def State.qCanGet (s : State) (q : Nat) (m : Master) : Bool :=
  match (s.queue q).claim with
  | some o => o == m
  | none => decide (0 < qCount (s.queue q))

/-- The word that a reader takes. -/
def State.qHead (s : State) (q : Nat) : Word × Bool := (s.queue q).words.headD (0, true)

/-- Take the next word (R367). -/
def State.qTake (s : State) (q : Nat) (m : Master) : State :=
  let x := s.queue q
  let e := (s.qHead q).2
  s.setQueue q { x with words := x.words.drop 1, rd := s.qStep q x.rd 1, lastEnd := e,
                        claim := if e then none else some m }

/-- A waiting thread can be served. -/
def State.qServes (s : State) (q : Nat) (w : QWait) : Bool :=
  match w.put with
  | some _ => s.qCanPut q (.thread w.thread)
  | none => s.qCanGet q (.thread w.thread)

/-- Serve one waiting thread: its QPUT or QGET has its effect and it is READY (R329, R355, R368). -/
def State.qServe (s : State) (q : Nat) (w : QWait) : State :=
  let t := w.thread
  let x := s.queue q
  let s := s.setQueue q { x with waiters := x.waiters.filter (· != w) }
  match w.put with
  | some (v, fin) => ((s.qPut q (.thread t) v fin).setFlags t [(.v, false)]).setThrState t thReady
  | none =>
    let h := s.qHead q
    ((((s.qTake q (.thread t)).setG t (s.thr t).gd h.1).setFlags t [(.c, h.2), (.v, false)])).setThrState t thReady

/-- Every arriving item and every freed space goes to the thread that began waiting first (R368). -/
def qWake : Nat → Nat → State → State
  | 0, _, s => s
  | f + 1, q, s =>
    match (s.queue q).waiters.find? (s.qServes q) with
    | some w => qWake f q (s.qServe q w)
    | none => s

/-- All assignments that queue q can make at present. -/
def State.qAssign (s : State) (q : Nat) : State := qWake 256 q s

/-- The thread that began first comes first; in one cycle the lower number (R368). -/
def insertWait (x : QWait) : List QWait → List QWait
  | [] => [x]
  | y :: l => if x.since < y.since || (x.since == y.since && decide (x.thread < y.thread)) then x :: y :: l
              else y :: insertWait x l

/-- Words up to and including the first end mark, dropped. -/
def dropItem : List (Word × Bool) → List (Word × Bool)
  | [] => []
  | (_, e) :: l => if e then l else dropItem l

/-- What a thread holds in a queue is given up: its open item, the rest of its claimed item, its place among the waiting
(R369, R360). -/
def State.qAbandon1 (s : State) (m : Master) (q : Nat) : State :=
  let x := s.queue q
  let x := { x with waiters := x.waiters.filter fun w => Master.thread w.thread != m }
  let s := s.setQueue q x
  let s := match x.opn with
    | some (o, n) =>
      if o = m then
        let size := 2 * 2 ^ s.get F.qCfg_DEPTH q
        (((s.setQueue q { x with words := x.words.take (x.words.length - n), opn := none,
                                 wr := (x.wr + size - n % size) % size }).bump F.qStat_ABORTED n q).qRelease q)
      else s
    | none => s
  let y := s.queue q
  if y.claim = some m then
    let rest := dropItem y.words
    let n := y.words.length - rest.length
    (s.setQueue q { y with words := rest, claim := none, rd := s.qStep q y.rd n }).bump F.qStat_ABORTED n q
  else s

def State.qAbandon (s : State) (m : Master) : State :=
  (tabKeys (fun _ x => decide (x.waiters ≠ []) || x.opn.isSome || x.claim.isSome) s.dsq.queues).foldl
    (fun s q => s.qAbandon1 m q) s

/-- A partition reset empties the partition's queues (R372). -/
def State.qClearPart (s : State) (p : Nat) : State :=
  (tabKeys (fun q _ => s.get F.qCfg_PART q == p) s.dsq.queues).foldl
    (fun s q => s.setQueue q { rd := (s.queue q).wr, wr := (s.queue q).wr, lastEnd := (s.queue q).lastEnd }) s

/-- The register Qq_CNT. -/
def qCntWord (x : Queue) : Nat := (if x.lastEnd then 2 ^ 63 else 0) + x.words.length % 65536 * 65536 + qCount x % 65536

/-- The state bits of Qq_STAT. -/
def qStatBits (x : Queue) : Nat :=
  (if x.claim.isSome then 4 else 0) + (if x.opn.isSome then 2 else 0) + (if x.held.isSome then 1 else 0)

/-- Two regions of the queue store overlap. -/
def regionsMeet (b1 n1 b2 n2 : Nat) : Bool := decide (b1 < b2 + n2) && decide (b2 < b1 + n1)

/-- A write of Qq_CFG is ignored (R363); what R363 asks of DEPTH and of BASE's alignment is held of a queue that is enabled (log
entry 80). -/
def State.qCfgRefused (s : State) (q : Nat) (new : Word) : Bool :=
  let x := s.queue q
  let en := bitsOf new 31 31 == 1
  let depth := bitsOf new 23 20
  let base := bitsOf new 14 0
  decide (x.words ≠ []) || decide (x.waiters ≠ []) || x.opn.isSome || x.claim.isSome ||
    (en && (decide (depth < 4) || decide (base % 2 ^ depth ≠ 0))) || decide (32768 < base + 2 ^ depth) ||
    (List.range 256).any fun k => k != q && s.getB F.qCfg_EN k &&
      regionsMeet base (2 ^ depth) (s.get F.qCfg_BASE k) (2 ^ s.get F.qCfg_DEPTH k)

/-! ### Threads: starting and stopping (R355–R359) -/

/-- The wait slot is given up: its alarm is cancelled under R95 and the hold ends (R356). -/
def State.dropSlot (s : State) (t : Nat) : State :=
  let k := s.get F.thrStat_SLOT t
  if (s.alarm k).pinned && decide (8 ≤ k) then
    let s := s.cancelSlot k
    (s.setAlarm k { s.alarm k with pinned := false }).put F.thrStat_SLOT 0 t
  else s

/-- The thread takes wait slot k (R320, R356). -/
def State.takeSlot (s : State) (t k : Nat) : State :=
  (s.setAlarm k { s.alarm k with pinned := true, part := s.thrPart t }).put F.thrStat_SLOT k t

/-- The registers of a thread that starts (R301). -/
def State.freshRegs (s : State) (t pc : Nat) : State :=
  let s := (List.range 32).foldl (fun s r => s.wr .thrG 0 t r) s
  ((s.setThr t { cool := (s.thr t).cool, home := some pc }).put F.thrStat_FLAGS 0 t).put F.thrStat_PC pc t

/-- Enter HALTED: the slot released, and what the thread holds in queues given up (R355, R369). -/
def State.haltThr (s : State) (t : Nat) : State :=
  (((s.qAbandon (.thread t)).dropSlot t).putB F.thrStat_STOP_PEND false t).setThrState t thHalted

/-- A thread that issues or leaves READY no longer holds back those that yielded (R336). -/
def State.unyield (s : State) (t : Nat) : State :=
  (tabKeys (fun _ x => x.yield.contains t) s.dsq.thr).foldl
    (fun s k => s.setThr k { s.thr k with yield := (s.thr k).yield.filter (· != t) }) s

/-- THR_STOP (R355, R383). -/
def State.stopThr (s : State) (t : Nat) : State :=
  match s.thrState t with
  | 0 | 6 | 7 => s
  | 4 => s.putB F.thrStat_STOP_PEND true t
  | _ => (s.haltThr t).unyield t

/-- The image of partition p whose code holds byte offset `off`. -/
def State.imageAt (s : State) (p off : Nat) : Option Image :=
  s.dsq.images.find? fun i => i.part == p && decide (i.codeBase ≤ off) && decide (off < i.codeBase + i.codeLen)

/-- The offset passes the checks of R333. -/
def State.codeOk (s : State) (p off : Nat) : Bool := decide (off % 4 = 0) && (s.imageAt p off).isSome

/-- Start thread t at an offset with fresh registers (R355, R301); its partition has a free slot. -/
def State.startThr (s : State) (t off : Nat) : State :=
  match s.freeSlot (s.thrPart t) with
  | none => s
  | some k =>
    let pr := (((s.imageAt (s.thrPart t) off).map (·.priv)).getD false) && s.thrPart t == 0
    let s := (s.freshRegs t off).takeSlot t k
    let s := { s with dsq := { s.dsq with priv := tabSet false s.dsq.priv t pr, pcmd := tabSet none s.dsq.pcmd t none } }
    (s.putB F.thrStat_STOP_PEND false t).setThrState t thReady

/-- The partitions with a FAULTED thread: what makes THREAD_FAULT live (R362). -/
def State.faultedMask (s : State) : Nat :=
  ((List.range 8).map fun p =>
    if (List.range 128).any (fun t => s.thrState t == 7 && s.thrPart t == p) then 2 ^ p else 0).sum

/-- THREAD_FAULT brought up to date. -/
def State.threadFault (s : State) (t : Nat) : State :=
  let m := s.faultedMask ||| s.pulsedMask 24
  if m = s.liveOf 24 then s else s.level 24 m fun _ => t

/-- A thread faults (R360): words E0 and E1 of R361, the slot and its queue holdings released, the record posted. -/
def State.faultThr (s : State) (t cause code pc : Nat) (data : Word) : State :=
  let p := s.thrPart t
  let e0 : Word := BitVec.ofNat 64 (cause * 2 ^ 56 + t * 2 ^ 48 + code % 65536 * 2 ^ 32 + pc % 2 ^ 21)
  let s := ((s.dropSlot t).qAbandon (.thread t)).unyield t
  let s := (s.putB F.thrStat_STOP_PEND false t).put F.thrStat_PC pc t
  let s := ((s.setThrState t thFaulted).wr .thrExc e0 t).wr .thrExcData data t
  let s := s.setThr t { s.thr t with await := .none, yield := [] }
  let s := if s.getB F.dsqNotify_EXC_EN p then s.qPostHw (s.get F.dsqNotify_EXC_Q p) (itemOf [e0, data]) else s
  s.threadFault t

/-- A thread becomes IDLE with its partition's reset (R355). -/
def State.idleThr (s : State) (t : Nat) : State :=
  let s := ((s.qAbandon (.thread t)).dropSlot t).unyield t
  let s := (s.putB F.thrStat_STOP_PEND false t).setThrState t thIdle
  s.setThr t { s.thr t with await := .none, yield := [] }

/-- One AUTOSTART entry of an image (R357): started, or entered in the event ledger as not started. -/
def State.autostart1 (s : State) (i : Image) (e : Nat × Nat × Bool) : State :=
  let t? := if e.2.1 = 255 then (List.range 128).find? (fun t => s.thrState t == 0 && s.thrPart t == i.part) else some e.2.1
  let ok (t : Nat) : Bool := s.thrState t == 0 && s.thrPart t == i.part && (s.freeSlot i.part).isSome
  match t? with
  | some t => if ok t then s.startThr t (i.codeBase + e.1)
              else s.log 0x06 t 0x0602 i.part 2 ([byte t, byte i.part, 0, 0] ++ beBytes 4 e.1)
  | none => s.log 0x06 255 0x0602 i.part 2 ([byte 255, byte i.part, 0, 0] ++ beBytes 4 e.1)

/-- The AUTOSTART entries of an image (R357). -/
def State.autostart (s : State) (i : Image) : State :=
  (i.entries.filter fun e => e.2.2 && e.1 != 0xffffffff).foldl (fun s e => s.autostart1 i e) s

/-- The AUTOSTART entries of the images that `sel` picks. -/
def State.autostartAll (s : State) (sel : Image → Bool) : State :=
  (s.dsq.images.filter sel).foldl (fun s i => s.autostart i) s

/-- The wake of a thread that waits in TWAIT (R319, R355): lateness into Gd, L and S. -/
def State.wakeThr (s : State) (t : Nat) (lat : Nat) (l st : Bool) : State :=
  if s.thrState t = thAlarm then
    ((s.setG t (s.thr t).gd (BitVec.ofNat 64 lat)).setFlags t [(.l, l), (.s, st)]).setThrState t thReady
  else s

/-! ### Rows -/

/-- Assign what queue q can assign to the threads that wait on it (R368). -/
def execQueueWaitWake (q : Nat) (s : State) : Res := .next (if q < 256 then s.qAssign q else s)

/-- A yielded thread that no other thread holds back is READY (R355). -/
def State.yieldRelease (s : State) (t : Nat) : State :=
  if s.thrState t = thYielded ∧ (s.thr t).yield = [] then s.setThrState t thReady else s

def execYieldRelease (t : Nat) (s : State) : Res := .next (if t < 128 then s.yieldRelease t else s)

/-- THR_START (0x62), judged by R356 and R383. -/
def execThrStart (c : Caller) (t off : Nat) (s : State) : Res :=
  let p := s.thrPart t
  .next (s.runCmd c 0x62
    [(decide (128 ≤ t), .badArg), (!s.cPt0 c && s.cPart c != p, .partitionDenied), (s.resetting p, .busy),
     (!s.codeOk p off, .badArg), (s.isStarted t, .busy), (!(s.freeSlot p).isSome, .busy)]
    ((s.startThr t off).threadFault t))

def execThrStop (c : Caller) (t : Nat) (s : State) : Res :=
  let p := s.thrPart t
  .next (s.runCmd c 0x63
    [(decide (128 ≤ t), .badArg), (!s.cPt0 c && s.cPart c != p, .partitionDenied), (s.resetting p, .busy)]
    (s.stopThr t))

/-- THR_RESUME (R355): registers and flags kept. -/
def State.resumeThr (s : State) (t pc : Nat) : State :=
  match s.freeSlot (s.thrPart t) with
  | none => s
  | some k => (((s.takeSlot t k).put F.thrStat_PC pc t).setThrState t thReady).threadFault t

def execThrResume (c : Caller) (t pc : Nat) (s : State) : Res :=
  let p := s.thrPart t
  let at' := if pc = 0xffffffff then s.get F.thrStat_PC t else pc
  .next (s.runCmd c 0x64
    [(decide (128 ≤ t), .badArg), (!s.cPt0 c && s.cPart c != p, .partitionDenied), (s.resetting p, .busy),
     (s.thrState t != 6 && s.thrState t != 7, .busy), (!s.codeOk p at', .badArg), (!(s.freeSlot p).isSome, .busy)]
    (s.resumeThr t at'))

end Sys2Proof.Machine
end

