-- ==== Sys2Proof/Machine/KvcCore.lean ====
section
/-! DEFINITION. KVC's core: derivation, blobs, the key cache, vault slots and their pins, the generator (12_key_vault.md). -/
namespace Sys2Proof.Machine

def State.setKvc (s : State) (k : Kvc) : State := { s with kvc := k }
def State.vslot (s : State) (v : Nat) : VSlot := tabGet {} s.kvc.slots v
def State.setVslot (s : State) (v : Nat) (x : VSlot) : State := s.setKvc { s.kvc with slots := tabSet {} s.kvc.slots v x }

/-- States of VSs_CFG.STATE. -/
abbrev vsEmpty := 0
abbrev vsActive := 1
abbrev vsErasing := 2

/-- Attribute bits (R39). -/
abbrev attrTsv := 0
abbrev attrSeal := 1
abbrev attrHrl := 2
abbrev attrAtt := 3
abbrev attrDsq := 4
abbrev attrCpExport := 5

/-! ### Derivation (R536–R539) -/

/-- DEVICE: the fuse node ID (R536). -/
def deviceId : List Byte := beBytes 8 (Config.fuseNodeId % 2 ^ 64)

/-- The counter-mode KDF: `l` output bits under the root, for a label and a partition byte (R536). -/
def kdf (root epoch : Nat) (label : List Byte) (part l : Nat) : List Byte :=
  let block (i : Nat) : List Byte :=
    beBytes 16 (Config.cmac (beBytes 32 root)
      (beBytes 4 i ++ label ++ [0#8] ++ deviceId ++ [byte part] ++ beBytes 4 epoch ++ beBytes 4 l)).toNat
  (((List.range (ceilDiv l 128)).map fun i => block (i + 1)).flatten).take (l / 8)

/-- "TDN-KEK", "TDN-SEAL", "TDN-IDK" (R537). -/
def labelKek : List Byte := [0x54, 0x44, 0x4e, 0x2d, 0x4b, 0x45, 0x4b]
def labelSeal : List Byte := [0x54, 0x44, 0x4e, 0x2d, 0x53, 0x45, 0x41, 0x4c]
def labelIdk : List Byte := [0x54, 0x44, 0x4e, 0x2d, 0x49, 0x44, 0x4b]

def State.kek (s : State) (p : Nat) : List Byte := kdf s.kvc.root s.kvc.epoch labelKek p 256
def State.sealKey (s : State) (p : Nat) : List Byte := kdf s.kvc.root s.kvc.epoch labelSeal p 256

/-- The order of P-384. -/
abbrev orderP384 : Nat :=
  0xffffffffffffffffffffffffffffffffffffffffffffffffc7634d81f4372ddf581a0db248b0a77aecec196accc52973

/-- The IDK private scalar (R538). -/
def State.idk (s : State) : Nat := beNat (kdf s.kvc.root s.kvc.epoch labelIdk 0xff 448) % (orderP384 - 1) + 1

/-- A public key in uncompressed point form, with coordinates of n bytes. -/
def pubForm (n : Nat) (scalar : Nat) : List Byte := byte 4 :: beBytes (2 * n) (Config.ecdsaPub n scalar).toNat

/-- The device identity public key. -/
def State.idPub (s : State) : List Byte := pubForm 48 s.idk

/-- Every derived key is held (R539). -/
def State.keysHeld (s : State) : Bool := s.kvc.derived == .all && s.getB F.kvcStat_KAT_OK

/-! ### Key types (R540, R541) -/

abbrev tyAes128 := 1
abbrev tyAes256 := 2
abbrev tySiv256 := 3
abbrev tyHmac256 := 4
abbrev tyDigest := 5
abbrev tyP256 := 6
abbrev tyP384 := 7

/-- Key bytes, allowed attributes as a mask, cache entries. -/
def typeInfo (ty : Nat) : Option (Nat × Nat × Nat) :=
  match ty with
  | 1 => some (16, 0x35, 7)
  | 2 => some (32, 0x34, 9)
  | 3 => some (32, 0x01, 13)
  | 4 => some (32, 0x21, 2)
  | 5 => some (16, 0x02, 1)
  | 6 => some (32, 0x08, 1)
  | 7 => some (48, 0x08, 2)
  | _ => none

def keyLen (ty : Nat) : Nat := match typeInfo ty with | some (n, _, _) => n | none => 0
def keyEntries (ty : Nat) : Nat := match typeInfo ty with | some (_, _, n) => n | none => 0
def isEcdsa (ty : Nat) : Bool := ty == tyP256 || ty == tyP384

/-- TYPE is valid, and ATTR non-empty and within the set of the type. -/
def attrOk (ty attr : Nat) : Bool :=
  match typeInfo ty with
  | some (_, m, _) => decide (0 < attr) && decide (attr < 256) && (List.range 8).all fun i => !bitOf attr i || bitOf m i
  | none => false

/-- The KCV of key material: three bytes (R541). -/
def kcvOf (ty : Nat) (key : List Byte) : Nat :=
  if ty = tyHmac256 then (Config.hmac key (List.replicate 16 0#8)).toNat / 2 ^ 232
  else if isEcdsa ty then (Config.sha384 (pubForm (keyLen ty) (beNat key))).toNat / 2 ^ 360
  else (Config.cmac (if ty = tySiv256 then key.take 16 else key) (List.replicate 16 0#8)).toNat / 2 ^ 104

/-! ### Blobs (R542, R545) -/

/-- The byte at an offset, and the number of n bytes there. -/
def nb (l : List Byte) (i : Nat) : Nat := (l.getD i 0).toNat
def nn (l : List Byte) (i n : Nat) : Nat := beNat ((l.drop i).take n)

/-- The blob of a key under KEK_p. -/
def State.blobOf (s : State) (p ty attr gen iv : Nat) (key : List Byte) : List Byte :=
  let hdr := [byte 1, byte ty, byte attr, byte p] ++ beBytes 4 gen ++ beBytes 3 (kcvOf ty key) ++ [byte key.length] ++
    beBytes 4 s.kvc.epoch ++ beBytes 4 0
  let ivb := beBytes 12 iv
  let plain := beNat ((key ++ List.replicate 48 0#8).take 48)
  let ct := beBytes 48 ((BitVec.ofNat 384 plain) ^^^ Config.gcmStream (s.kek p) ivb).toNat
  hdr ++ ivb ++ ct ++ beBytes 16 (Config.gcmTag (s.kek p) ivb hdr ct).toNat

/-- The 48 bytes that a blob unwraps to under KEK_p. -/
def State.unwrap (s : State) (p : Nat) (b : List Byte) : List Byte :=
  beBytes 48 ((BitVec.ofNat 384 (nn b 32 48)) ^^^ Config.gcmStream (s.kek p) ((b.drop 20).take 12)).toNat

/-- The material of a blob. -/
def State.blobKey (s : State) (p : Nat) (b : List Byte) : List Byte := (s.unwrap p b).take (nb b 11)

/-- The checks of R545 on a blob for a slot of partition p: `genBad` and its status, the KCV expected besides the blob's own. -/
def State.blobChecks (s : State) (p : Nat) (b : List Byte) (genBad : Bool × Status) (kcv : Nat) : List (Bool × Status) :=
  let ty := nb b 1
  [(b.length != 96 || nb b 0 != 1 || !attrOk ty (nb b 2) || nb b 11 != keyLen ty || nn b 16 4 != 0, .badArg),
   (nb b 3 != p, .partitionDenied), genBad, (nn b 12 4 != s.kvc.epoch, .verifyFail),
   (beNat (beBytes 16 (Config.gcmTag (s.kek p) ((b.drop 20).take 12) (b.take 20) ((b.drop 32).take 48)).toNat) != nn b 80 16,
    .verifyFail),
   ((s.unwrap p b).drop (nb b 11) != List.replicate (48 - nb b 11) 0#8, .verifyFail),
   (let k := kcvOf ty (s.blobKey p b); k != nn b 8 3 || k != kcv, .verifyFail)]

/-! ### The generator (R562) -/

/-- n bytes of generator output, as a number: an open value. The DRBG reseeds after 2^20 requests. -/
def State.rng (s : State) (n : Nat) : Nat × State :=
  let (v, s) := s.draw
  (v % 2 ^ (8 * n), s.setKvc { s.kvc with drbg := (s.kvc.drbg + 1) % 2 ^ 20 })

/-- The generator serves requests: the start-up tests have passed and no health test fails. -/
def State.rngOk (s : State) : Bool := s.getB F.kvcStat_RNG_OK
/-- KVC performs key operations (R527, R563). -/
def State.kvcOk (s : State) : Bool := s.getB F.kvcStat_ROOT_VALID && s.getB F.kvcStat_KAT_OK

/-! ### The key cache (R553–R556) -/

/-- Entries per bank of the derived keys held (R553). -/
def State.derivedEntries (s : State) : Nat :=
  match s.kvc.derived with | .none => 0 | .idk => 2 | .all => 146

/-- Cache entries of one generation, when it is resident. -/
def matEntries (ty : Nat) (m : Option KeyMat) : Nat :=
  match m with
  | some x => if x.resident then keyEntries ty else 0
  | none => 0

/-- Entries in use per bank. -/
def State.cacheUsed (s : State) : Nat :=
  s.derivedEntries + (s.kvc.slots.map fun e =>
    matEntries (s.get F.vsCfg_TYPE e.1) e.2.cur + matEntries (s.get F.vsCfg_TYPE e.1) e.2.prev).sum

/-- Entries per bank that pinned generations and the derived keys hold. -/
def State.cachePinned (s : State) : Nat :=
  s.derivedEntries + (s.kvc.slots.map fun e =>
    (if s.get F.vsPins_CUR_PINS e.1 = 0 then 0 else matEntries (s.get F.vsCfg_TYPE e.1) e.2.cur) +
    (if s.get F.vsPins_PREV_PINS e.1 = 0 then 0 else matEntries (s.get F.vsCfg_TYPE e.1) e.2.prev)).sum

/-- A slot's CUR becomes the one used last. -/
def State.touch (s : State) (v : Nat) : State := s.setKvc { s.kvc with lru := (s.kvc.lru.filter (· != v)) ++ [v] }

/-- Evict unpinned generations, least recently used first, until n entries are free (R556). -/
def State.makeRoom (s : State) (n : Nat) : State :=
  s.kvc.lru.foldl (fun s v =>
    match (s.vslot v).cur with
    | some m =>
      if 4096 < s.cacheUsed + n && m.resident && s.get F.vsPins_CUR_PINS v == 0 then
        (s.setVslot v { s.vslot v with cur := some { m with resident := false } }).bump F.kvcCacheStat_EVICTS 1
      else s
    | none => s) s

/-- n entries are free. -/
def State.hasRoom (s : State) (n : Nat) : Bool := decide (s.cacheUsed + n ≤ 4096)

/-! ### Slots, generations and pins (R546–R552) -/

/-- The partition of a slot. -/
def State.vsPart (s : State) (v : Nat) : Nat := s.get F.vsCfg_PART v

/-- A key that an engine may take: the slot is ACTIVE, of the partition, and carries the engine's attribute (R37). -/
def State.keyUsable (s : State) (v part attr : Nat) : Bool :=
  decide (v < 256) && s.get F.vsCfg_STATE v == vsActive && s.vsPart v == part && bitOf (s.get F.vsCfg_ATTR v) attr

/-- The material of a generation of a slot. -/
def State.keyMat (s : State) (v gen : Nat) : Option KeyMat :=
  if s.get F.vsGen_CUR_GEN v = gen then (s.vslot v).cur
  else if s.get F.vsGen_PREV_GEN v = gen then (s.vslot v).prev
  else none

/-- The key bytes of a generation; none where the slot no longer holds it. -/
def State.keyBytes (s : State) (v gen : Nat) : List Byte := ((s.keyMat v gen).map (·.key)).getD []

/-- The generation is resident in the key cache. -/
def State.keyResident (s : State) (v gen : Nat) : Bool := ((s.keyMat v gen).map (·.resident)).getD false

/-- The KCV of a generation. -/
def State.keyKcv (s : State) (v gen : Nat) : Nat :=
  if s.get F.vsGen_CUR_GEN v = gen then s.get F.vsKcv_CUR_KCV v else s.get F.vsKcv_PREV_KCV v

/-- Pin CUR of a slot: its generation, and the state with the pin (R548). -/
def State.pin (s : State) (v : Nat) : Nat × State :=
  (s.get F.vsGen_CUR_GEN v, (s.bump F.vsPins_CUR_PINS 1 v).touch v)

/-- PREV is retired and zeroised (R547). -/
def State.retirePrev (s : State) (v : Nat) : State :=
  let s := (s.put F.vsGen_PREV_GEN 0 v).put F.vsKcv_PREV_KCV 0 v
  (s.put F.vsPins_PREV_PINS 0 v).setVslot v { s.vslot v with prev := none }

/-- The slot becomes EMPTY: both generations zeroised, LAST_GEN and the partition kept, KEY_ERASE completed (R547, R551). -/
def State.slotEmpty (s : State) (v : Nat) : State :=
  let er := (s.vslot v).eraser
  let last := s.get F.vsCfg_LAST_GEN v
  let part := s.vsPart v
  let forced := s.get F.vsPins_FORCED v
  let s := (((s.wr .vsCfg 0 v).wr .vsGen 0 v).wr .vsKcv 0 v).wr .vsPins 0 v
  let s := ((s.put F.vsCfg_LAST_GEN last v).put F.vsCfg_PART part v).put F.vsPins_FORCED forced v
  let s := (s.setVslot v {}).setKvc { (s.setVslot v {}).kvc with lru := s.kvc.lru.filter (· != v) }
  match er with
  | some c => s.complete c 0x83 .ok
  | none => s

/-- Nothing holds a generation of the slot any more: PREV retires, and an erase completes. -/
def State.pinsSettle (s : State) (v : Nat) : State :=
  let s := if s.get F.vsGen_PREV_GEN v ≠ 0 ∧ s.get F.vsPins_PREV_PINS v = 0 ∧ s.get F.vsCfg_STATE v = vsActive then s.retirePrev v
    else s
  if s.get F.vsCfg_STATE v = vsErasing ∧ s.get F.vsPins_PREV_PINS v = 0 ∧ s.get F.vsPins_CUR_PINS v = 0 then s.slotEmpty v else s

/-- Release a pin of a generation. -/
def State.unpin (s : State) (v gen : Nat) : State :=
  let s := if gen = 0 then s
    else if s.get F.vsGen_CUR_GEN v = gen then s.put F.vsPins_CUR_PINS (s.get F.vsPins_CUR_PINS v - 1) v
    else if s.get F.vsGen_PREV_GEN v = gen then s.put F.vsPins_PREV_PINS (s.get F.vsPins_PREV_PINS v - 1) v
    else s
  s.pinsSettle v

/-- The event tally of a signature or verification (R682). -/
def State.tallyEcdsa (s : State) (inst part : Nat) : State := s.tally (.ev 0x08 0x02 inst part 1 0)
/-- AES blocks charged to a partition (R560, R682). -/
def State.tallyAes (s : State) (part n : Nat) : State := s.tally (.ev 0x08 0x01 0xff part n 0)

/-- Forward-cipher blocks of AES-CMAC over n bytes, and of AES-SIV over associated data of given lengths and n bytes: its S2V pass and
its CTR pass (R559). The spec gives no count of an operation's blocks (DESIGN CHOICE: log entry 54). -/
def cmacBlocks (n : Nat) : Nat := max 1 (ceilDiv n 16)
def sivBlocks (ad : List Nat) (n : Nat) : Nat := 1 + (ad.map cmacBlocks).sum + cmacBlocks n + ceilDiv n 16

/-- Blocks of wrapping or unwrapping a blob by AES-256-GCM (log entry 54). -/
def gcmBlocks : Nat := 5

/-- r, s of a signature by a key on the curve with coordinates of n bytes, over a digest (R561). -/
def State.signWith (s : State) (n key : Nat) (digest : List Byte) : List Byte × State :=
  let (r, s) := s.rng 32
  (beBytes (2 * n) (Config.ecdsa n key (beNat digest) r).toNat, s)

end Sys2Proof.Machine
end

