-- ==== Sys2Proof/Machine/Live.lean ====
section
/-! DEFINITION. The live condition of every level source of R671, and the level bits brought up to date with it. -/
namespace Sys2Proof.Machine

/-- 1 (PT0) where a condition attributed to PT0 holds. -/
def pt0 (b : Bool) : Nat := if b then 1 else 0

/-- The mode is one of those in which D0 may be without traceable time (R106). -/
def Mode.untraced : Mode → Bool
  | .reset | .boot | .calibrate | .acquire | .freerun => true
  | _ => false

/-- REF_SYS is IRC, or CD_CORE or CD_SUP runs on IRC (FS50). -/
def State.ircActive (s : State) : Bool :=
  s.getB F.pwrClkStat_REF_SYS || s.pwr.core.src == .irc || s.pwr.sup.src == .irc

/-- WEAR_LEAD (R778). -/
def State.wearLead (s : State) : Bool :=
  let lead := s.get F.pwrWearCfg_LEAD_MONTHS
  let hit (v : Nat) : Bool := decide (v ≤ lead) && v != 0xffff
  (List.range 17).any (fun w => hit (s.get F.pwrEol_LOW_MONTHS w)) ||
    (List.range 3).any (fun k => hit (s.get F.aoiEol_LOW_MONTHS k))

/-- A mode in which RSH may be without a selected candidate (R253). -/
def Mode.unreferenced : Mode → Bool
  | .reset | .boot | .halted | .calibrate | .acquire | .steer | .service => true
  | _ => false

/-- The lanes of the port that lane l leads (R387). -/
def State.portLanes (s : State) (l : Nat) : List Nat := (List.range (lanesOfMode (s.laneMode l))).map (l + ·)

/-- A mode from ACQUIRE onwards. -/
def Mode.running (m : Mode) : Bool := m.up && m != .calibrate

/-- The ports for which `p` holds: lead lane and partition. -/
def State.portUnits (s : State) (p : Nat → Bool) : List (Nat × Nat) :=
  ((List.range 64).filter fun l => s.leads l && p l).map fun l => (l, s.get F.portCfg_PART l)

/-- The NTS master key or the PTP key of address a is missing (R524). -/
def State.svcKeyless (s : State) (a : Nat) : Bool :=
  let part := s.get F.svcCfg_PART a
  s.getB F.svcCfg_EN a &&
    ((s.getB F.svcKeys_CUR_VALID a && !s.keyUsable (s.get F.svcKeys_NTS_CUR a) part attrTsv) ||
     (s.getB F.svcCfg_AUTH_REQ a && !s.keyUsable (s.get F.svcKeys_PTP_KEY a) part attrTsv))

/-- NTS-KE serves address a: NTSKE_CFG has given it a TLS key, and the key is usable (R499, R500). -/
def State.keServes (s : State) (a : Nat) : Bool :=
  let v := tabGet {} s.tsv.svcs a
  v.keSet && s.keyUsable v.keSlot (s.get F.svcCfg_PART a) attrAtt && isEcdsa (s.get F.vsCfg_TYPE v.keSlot)

/-- The addresses for which `p` holds, and their partitions. -/
def State.svcUnits (s : State) (p : Nat → Bool) : List (Nat × Nat) :=
  ((List.range 64).filter p).map fun a => (a, s.get F.svcCfg_PART a)

/-- Any source that may be disabled is disabled, or any TMP input is OFF (R567). -/
def State.tamperMasked (s : State) : Bool :=
  !s.getB F.kvcTamperCfg_CLKGLITCH_EN || !s.getB F.kvcTamperCfg_VGLITCH_EN || !s.getB F.kvcTamperCfg_TEMP_EN ||
    (List.range 4).any fun k => s.get F.kvcTamperCfg_TMP_MODE / 4 ^ k % 4 == 0

/-- A member by whose HEALTH, or this node by its own lanes, a link of the ring is missing (R623). -/
def State.ringBreak (s : State) : Bool :=
  s.getB F.hrlCfg_EN &&
    (!s.getB F.hLaneStat_LINK 0 || !s.getB F.hLaneStat_LINK 1 ||
      (List.range 16).any fun k => s.getB F.nodeStat_VALID k && k != s.get F.hrlStat_INDEX && (tabGet {} s.hrl.nodes k).seen &&
        (!s.getB F.nodeStat_EAST_LINK k || !s.getB F.nodeStat_WEST_LINK k))

/-- STANDBY_FAULT (R623). -/
def State.standbyFault (s : State) : Bool :=
  let b := s.get F.hrlStat_GMB
  let me := s.get F.hrlStat_INDEX
  let capable := (List.range 16).filter fun k => s.getB F.nodeStat_VALID k && (tabGet {} s.hrl.nodes k).gm
  let mode := if b = me then s.mode.code else s.get F.nodeStat_MODE b
  s.get F.hrlStat_STATE == 3 &&
    ((decide (2 ≤ capable.length) && (b == 0x1f || mode != 8)) ||
     (b == me && (s.getB F.nodeStat_DIVERGE me || !s.getB F.nodeStat_OK me)))

/-- For the level sources whose condition is one of single units: the units for which it holds, by their instance (R678) and the
partition to which they are attributed (R659). A TDC's instance is its EMU. -/
def State.liveUnits (s : State) (n : Nat) : List (Nat × Nat) :=
  match n with
  | 1 => ((List.range 9).filter fun f =>
      (List.range 4).any fun r => s.getB F.ringCfg_EN f r && s.getB F.ringCfg_ERR f r).map fun f => (f, partOfFn f)
  | 4 => (s.tse.doms.filter fun e => e.2.st == .held).map fun e => (e.1, e.2.owner)
  | 8 => ((List.range 64).filter fun t => s.getB F.tdcStat_LAST_FAIL t).map fun t => (t / 2, 0)
  | 11 => ((List.range 24).filter fun n => s.getB F.inCfg_CRIT n && !s.getB F.inStat_MON_OK n && s.mode.up &&
      s.mode != .calibrate).map fun n => (n, 0)
  | 20 => (s.syn.adplls.filter fun e => e.2.tripped).map fun e => (e.1, 0)
  | 21 => ((List.range 8).filter fun k => s.get F.synStat_STATE k == 7).map fun k => (k, 0)
  | 22 => ((List.range 8).filter fun k => s.get F.synStat_STATE k == 5).map fun k => (k, 0)
  | 28 => s.portUnits fun l => s.mode.running && (s.getB F.portCfg_EN l || s.getB F.pairCfg_ACTIVE l) && !s.getB F.portStat_LINK l
  | 30 => s.portUnits fun l => s.getB F.portStat_LINK l && (s.portLanes l).any fun k => !s.getB F.laneStat_DLM_VALID k
  | 38 => s.svcUnits s.svcKeyless
  | 39 => s.svcUnits fun a => s.getB F.svcCfg_EN a && s.getB F.svcCfg_NTS a && !s.keServes a
  | _ => []

/-- The partitions for which level source n is live. Pulse sources have no level. -/
def State.liveMask (s : State) (n : Nat) : Nat :=
  match n with
  | 0 => pt0 s.sup.hbExpired
  | 2 => pt0 s.sup.pcieErr
  | 3 => pt0 (s.getB F.cpxBoot_FALLBACK)
  | 5 => pt0 ((s.dom 0).bound == Config.unb && !s.mode.untraced && !s.fatalMode && s.mode != .halted)
  | 6 => pt0 (!(s.dom 0).traceable && !s.mode.untraced && s.mode != .halted)
  | 12 => pt0 ((List.range 2).any fun n => s.getB F.gspCfg_ENABLE n && !s.getB F.gspLevel_CFG_ERR n && !s.getB F.gspLevel_COH_OK n)
  | 13 => pt0 (s.gnb.solLost && s.mode.up && s.mode != .calibrate)
  | 14 => pt0 (s.getB F.gnbSurvey_HOLD_SUSPECT)
  | 16 => pt0 (s.get F.rshStat_SEL == 0x1f && !s.mode.unreferenced)
  | 17 => pt0 (s.getB F.aoiCfdStat_CFD_SAT)
  | 18 => pt0 (s.rsh.monBad != 0)
  | 24 => s.faultedMask
  | 29 => pt0 (s.get F.synStat_STATE 1 != 4 && s.get F.synStat_STATE 1 != 5 && s.get F.synStat_STATE 1 != 6)
  | 41 => pt0 s.kvc.rngFail
  | 42 => pt0 s.kvc.katFail
  | 44 => pt0 s.ringBreak
  | 45 => pt0 (s.get F.hrlStat_STATE == 3 && s.get F.hrlStat_ROLE != 1 && s.mode.running && decide (3 ≤ s.hrl.markMiss))
  | 46 => pt0 s.standbyFault
  | 48 => pt0 (!s.pwr.sysxo.proven && s.mode.up)
  | 49 => pt0 (!s.pwr.tseProven && s.mode.up)
  | 50 => pt0 s.ircActive
  | 51 => pt0 s.pwr.noFallback
  | 52 => pt0 (s.get F.pwrDvfs_STATE == 4)
  | 53 => pt0 s.pwr.tjWarn
  | 54 => pt0 s.wearLead
  | 55 => pt0 s.pwr.tjCrit
  | 59 => pt0 s.sup.cbRate
  | 60 => pt0 (s.kvc.tripped != 0)
  | 61 => pt0 (!s.getB F.kvcStat_ROOT_VALID && s.mode != .reset)
  | 62 => pt0 s.kvc.vbatLow
  | 63 => pt0 s.tamperMasked
  | n => orMasks ((s.liveUnits n).map fun e => 2 ^ e.2)

/-- The roster index by which a link of the ring is missing: this node's for its own lanes, else the member's. -/
def State.breakIndex (s : State) : Nat :=
  let me := s.get F.hrlStat_INDEX
  if !s.getB F.hLaneStat_LINK 0 || !s.getB F.hLaneStat_LINK 1 then (if me = 0x1f then 0xff else me)
  else ((List.range 16).find? fun k => s.getB F.nodeStat_VALID k && k != me && (tabGet {} s.hrl.nodes k).seen &&
    (!s.getB F.nodeStat_EAST_LINK k || !s.getB F.nodeStat_WEST_LINK k)).getD 0xff

/-- The instance that an entry of level source n names for partition p, 0xff for the device: a unit of the partition for which the
condition holds, D0 for D0_UNBOUNDED and TRACE_LOST, a roster index for HRL (R678; DEDUCED, log entry 6). -/
def State.liveInst (s : State) (n p : Nat) : Nat :=
  match n with
  | 5 | 6 => 0
  | 24 => ((List.range 128).find? fun t => s.thrState t == 7 && (p == 0xff || s.thrPart t == p)).getD 0xff
  | 44 => s.breakIndex
  | 46 => if s.get F.hrlStat_GMB = 0x1f then 0xff else s.get F.hrlStat_GMB
  | n => (((s.liveUnits n).find? fun e => p == 0xff || e.2 == p).map (·.1)).getD 0xff

/-- Bring a level source up to date. -/
def State.refresh (s : State) (n : Nat) : State :=
  let m := s.liveMask n ||| s.pulsedMask n
  if m = s.liveOf n then s else s.level n m (s.liveInst n)

/-- Bring several level sources up to date. -/
def State.refreshAll (s : State) (l : List Nat) : State := l.foldl State.refresh s

/-- The pulses of a cycle are over (R659). -/
def State.endPulses (s : State) : State :=
  let l := s.sup.pulsed
  l.foldl (fun s e => s.setLive e.1 (s.liveMask e.1)) s.faultCycle

/-- Every level source. -/
def levelSources : List Nat :=
  [0, 1, 2, 3, 4, 5, 6, 8, 11, 12, 13, 14, 16, 17, 18, 20, 21, 22, 24, 28, 29, 30, 38, 39, 41, 42, 44, 45, 46, 48, 49, 50, 51,
   52, 53, 54, 55, 59, 60, 61, 62, 63]

end Sys2Proof.Machine
end

