-- ==== Sys2Proof/Machine/SynCore.lean ====
section
/-! DEFINITION. The proof of clocks and what hangs on it: ADPLL references (R267), the proof of CLK_TSE (R752, R753), the
oscillators, PLLs and clock domains (R748–R757, R762). -/
namespace Sys2Proof.Machine

/-! ### ADPLLs -/

/-- Fine phase units in one unit u (5^10). -/
abbrev phaseFine : Int := 9765625
/-- Fine phase units in one tick. -/
abbrev phasePerTick : Int := 343597383680 * 9765625

def State.adpll (s : State) (n : Nat) : Adpll := tabGet {} s.syn.adplls n

def State.setAdpll (s : State) (n : Nat) (a : Adpll) : State :=
  { s with syn := { s.syn with adplls := tabSet {} s.syn.adplls n a } }

/-- The state of an ADPLL: 0 OFF, 1 HOP, 2 SEARCH, 3 SETTLE, 4 LOCKED, 5 HOLD, 6 RELOCK, 7 FAIL. -/
def State.synState (s : State) (n : Nat) : Nat := s.get F.synStat_STATE n

/-- The oscillator that SYN0 takes is proven (R747). -/
def State.loProven (s : State) : Bool := if s.getB F.pwrClkStat_SYN0_REF then s.pwr.aoi.proven else s.pwr.sysxo.proven

/-- The reference of an ADPLL is present (R267). -/
def State.synRefOk (s : State) (n : Nat) : Bool :=
  match s.get F.synCfg_REF_MODE n with
  | 2 => s.getB F.inStat_MON_OK (s.get F.synCfg_REFIN n)
  | 3 => s.loProven
  | _ => s.pwr.tseProven

/-- An ADPLL loses its reference, or its reference returns (R267). The phase it resumes at is the DCO's: a free value. -/
def State.synRef (s : State) (n : Nat) : State :=
  let st := s.synState n
  if (st = 4 ∨ st = 6) ∧ !s.synRefOk n then s.put F.synStat_STATE 5 n
  else if st = 5 ∧ s.synRefOk n then
    let s' := s.draw.2
    (s'.setAdpll n { s.adpll n with phase := Int.ofNat s.draw.1 }).put F.synStat_STATE 6 n
  else s

/-! ### PLLs, oscillators and clock domains -/

def State.setPwr (s : State) (p : Pwr) : State := { s with pwr := p }

/-- The oscillator of REF_SYS is proven. -/
def State.refSysOk (s : State) : Bool := if s.getB F.pwrClkStat_REF_SYS then s.pwr.irc.proven else s.pwr.sysxo.proven

/-- Bit CPLL_SEL. -/
def State.cpllSel (s : State) : Bool := s.getB F.pwrClkStat_CPLL_SEL

/-- The CPLL that is not in use: with CD_CORE off both, the one that CPLL_SEL does not name. -/
def State.idleIsB (s : State) : Bool := !s.cpllSel

def State.idlePll (s : State) : Pll := if s.idleIsB then s.pwr.cpllB else s.pwr.cpllA

def State.setIdlePll (s : State) (p : Pll) : State :=
  if s.idleIsB then s.setPwr { s.pwr with cpllB := p } else s.setPwr { s.pwr with cpllA := p }

def State.idleSrc (s : State) : ClkSrc := if s.idleIsB then .cpllB else .cpllA

/-- A PLL that starts a lock on REF_SYS at a level's frequency. -/
def State.lockPll (s : State) (level : Nat) : Pll :=
  if s.refSysOk then { locking := true, onIrc := s.getB F.pwrClkStat_REF_SYS, level := level } else { level := level }

/-- The idle CPLL starts a lock at the frequency of a level. -/
def State.lockIdle (s : State) (level : Nat) : State := s.setIdlePll (s.lockPll level)

/-- With CD_CORE on IRC directly, the idle CPLL and the DPLL start a lock on REF_SYS (R755). -/
def State.startLocks (s : State) : State :=
  if s.pwr.core.src = .irc ∧ s.pwr.core.goal = none ∧ s.refSysOk then
    let s := if s.idlePll.locking && s.idlePll.onIrc == s.getB F.pwrClkStat_REF_SYS then s
             else s.lockIdle (s.get F.pwrDvfs_CUR)
    if s.pwr.ddr.src = .dpll ∨ (s.pwr.dpll.locking ∧ s.pwr.dpll.onIrc = s.getB F.pwrClkStat_REF_SYS) then s
    else s.setPwr { s.pwr with dpll := s.lockPll 0 }
  else s

/-- A clock domain moves to IRC: switched when IRC is proven, held until then (R748, R758). -/
def State.toIrc (s : State) (held : Bool) (d : ClkDom) : ClkDom × State :=
  if s.pwr.irc.proven then ({ src := if held then .stopped else d.src, goal := some .irc }, s)
  else
    ({ src := .stopped, goal := none },
     s.setPwr { s.pwr with ircWait := true, irc := { s.pwr.irc with run := true } })

/-- CD_CORE moves to IRC. -/
def State.coreToIrc (s : State) (held : Bool) : State :=
  let (d, s) := s.toIrc held s.pwr.core
  s.setPwr { s.pwr with core := d }

/-- CD_SUP moves to IRC. -/
def State.supToIrc (s : State) (held : Bool) : State :=
  let (d, s) := s.toIrc held s.pwr.sup
  s.setPwr { s.pwr with sup := d }

/-- IRC is in use, or a domain waits for it (R757). -/
def State.ircUsed (s : State) : Bool :=
  s.pwr.ircWait || s.pwr.core.src == .irc || s.pwr.core.goal == some .irc || s.pwr.sup.src != .tse || s.pwr.sup.goal.isSome ||
    s.getB F.pwrClkStat_REF_SYS || s.pwr.cpllA.onIrc || s.pwr.cpllB.onIrc || s.pwr.dpll.onIrc

/-- With IRC_IDLE set, PWR stops IRC while nothing needs it; otherwise IRC runs (R757). -/
def State.ircIdle (s : State) : State :=
  if s.cpx.inReset then s
  else if s.getB F.pwrClkCfg_IRC_IDLE && s.pwr.sysxo.proven && !s.ircUsed then s.setPwr { s.pwr with irc := {} }
  else if s.pwr.irc.run then s
  else s.setPwr { s.pwr with irc := { s.pwr.irc with run := true } }

/-! ### The proof of CLK_TSE (R752, R753) -/

/-- GNB_RXC begins to hold: a pending GPPS schedule is dropped, and no previous edge can be measured from (R184, R185). -/
def State.rxcHold (s : State) : State :=
  let n := if s.gnb.sched.isSome then 1 else 0
  { s with gnb := { s.gnb with sched := none, prev := none } }.bump F.gnbTstat_SCHED_SKIP n

/-- CLK_TSE becomes unproven: running domains are HELD, GNB_RXC holds, CD_SUP moves to IRC. -/
def State.tseLost (s : State) : State := (s.setPwr { s.pwr with tseProven := false }).holdDomains.rxcHold.supToIrc true

/-- CLK_TSE is proven again: CD_SUP returns to it, and the domains resume. -/
def State.tseBack (s : State) : State :=
  (s.setPwr { s.pwr with tseProven := true, sup := { s.pwr.sup with goal := some .tse } }).releaseDomains

/-- The clocks after a change of an oscillator's proof, of SYN0's state or of a monitored input: references lost and returned,
and the proof of CLK_TSE. -/
def State.clockUpdate (s : State) : State :=
  let s := s.synRef 0
  let ok := s.synState 0 == 4 && s.loProven
  let s := if ok = s.pwr.tseProven then s else if ok then s.tseBack else s.tseLost
  let s := [1, 2, 3, 4, 5, 6, 7].foldl (fun s n => s.synRef n) s
  s.ircIdle.refreshAll [4, 5, 20, 21, 22, 48, 49, 50]

end Sys2Proof.Machine
end

