-- ==== Sys2Proof/Machine/Select.lean ====
section
/-! DEFINITION. RSH: candidates, qualification, selection, the servo, holdover and STEER (05_selection_holdover.md). -/
namespace Sys2Proof.Machine

/-! ### Candidates -/

/-- Candidate codes (R202). -/
abbrev cGnss : Nat := 0x18
abbrev cRing : Nat := 0x19
abbrev cNone : Nat := 0x1f

def State.cand (s : State) (c : Nat) : Cand := tabGet {} s.rsh.cand c

def State.setCand (s : State) (c : Nat) (x : Cand) : State :=
  { s with rsh := { s.rsh with cand := tabSet {} s.rsh.cand c x } }

def State.setRsh (s : State) (r : Rsh) : State := { s with rsh := r }

/-- STATE of a candidate: 0 DISQUALIFIED, 1 QUALIFYING, 2 QUALIFIED, 3 SELECTED. -/
def State.refState (s : State) (c : Nat) : Nat := s.get F.refStat_STATE c

/-- A REFIN candidate of TYPE FREQ. -/
def State.isFreq (s : State) (c : Nat) : Bool := decide (c < 24) && !s.getB F.inCfg_TYPE c

/-- The prescaled period of a TIME input in ticks, as a fraction: 2^PRESCALE seconds over whole hertz (R108). -/
def State.prePeriod (s : State) (n : Nat) : Nat × Nat :=
  (2 ^ s.get F.inCfg_PRESCALE n * Config.secTicks, s.get F.inNom_NOM_FREQ n / 65536)

/-- RSH's state code. -/
def State.rshState (s : State) : Nat := s.get F.rshStat_STATE

def State.setRshState (s : State) (v : Nat) : State := s.put F.rshStat_STATE v

/-- The SELECTED candidate, 0x1f for none. -/
def State.sel (s : State) : Nat := s.get F.rshStat_SEL

/-- A candidate is disqualified (R209): what it has sampled so far qualifies it no longer, and DISAGREE ends (log entry 65). A forced
candidate loses its force (R214). -/
def State.disqualify (s : State) (c : Nat) : State :=
  let s := ((s.put F.refStat_STATE 0 c).put F.refStat_QUAL_LEFT 0 c).putB F.refStat_FORCED false c
  let s := s.setCand c { s.cand c with smp := [], miss := 0, agree := 0, qualMs := 0, since := 0 }
  let s := s.putB F.refStat_DISAGREE false c
  if s.sel = c then (s.put F.rshStat_SEL cNone).setRsh { s.rsh with chk := none } else s

/-- FREQ_ONLY of a REFIN candidate, by D0's bound and the candidate's CB (R207). -/
def State.freqOnly (s : State) (c : Nat) : Bool :=
  let (num, hz) := s.prePeriod c
  let b := boundSum [(s.dom 0).bound, s.get F.refCbound_VALUE c]
  s.isFreq c || b == Config.unb || hz == 0 || decide (num ≤ 4 * b * hz)

def State.showFreqOnly (s : State) (c : Nat) : State := if c < 24 then s.putB F.refStat_FREQ_ONLY (s.freqOnly c) c else s

/-- MON_OK of an input as RSH takes it (R119, R208, R209). -/
def State.monToRsh (s : State) (n : Nat) (ok : Bool) : State :=
  if ok then s.setCand n { s.cand n with upAt := some (s.ticks 0) }
  else
    let s := s.setCand n { s.cand n with upAt := none }
    if s.refState n = 0 then s else (s.disqualify n).putB F.refStat_DQ_MON true n |>.refresh 16

/-- What FOFF and slew have added to D0 so far, in ticks (R211). -/
def State.steerTicks (s : State) : Int := s.tse.steer / Config.uPerTick

/-- A valid sample reaches RSH (R203, R206): REFc_PHASE and REFc_CBOUND show it. -/
def State.offerSample (s : State) (c : Nat) (x : Sample) : State :=
  let s := s.setCand c { s.cand c with smp := (s.cand c).smp ++ [x] }
  (s.putI F.refPhase_VALUE (satInt 64 x.p) c).put F.refCbound_VALUE (boundSum [x.src, x.ref]) c

/-- The phase sample of a REFIN TIME input: the nearest instant k · P, the later one when half-way, minus the edge time
(R203). -/
def State.refinPhase (s : State) (n : Nat) (t : Int) : Int :=
  let (num, hz) := s.prePeriod n
  let k := (2 * t * Int.ofNat hz + Int.ofNat num) / (2 * Int.ofNat num)
  roundDiv (k * Int.ofNat num) (max 1 hz) - t

/-- The RSH part of an EMU result with DEST_RSH set (R203–R206): EMU m, stop source, flags byte of R143, stop edge and exact
MEAS_UNC. The edge time is the result's, whatever its domain (log entry 65). -/
def State.emuToRsh (s : State) (m src flags : Nat) (e : EmuEdge) (unc : Nat) : State :=
  let t := e.t
  let s :=
    if src < 24 ∧ !s.isFreq src ∧ s.getB F.inStat_MON_OK src ∧ (!bitOf flags 4 && !bitOf flags 2 && !bitOf flags 7 && !bitOf flags 0) then
      s.offerSample src { inst := t, p := s.refinPhase src t, src := s.get F.inSrcBound_SRC_BOUND src, ref := unc, steer := e.steer }
    else s
  if m ≠ s.get F.rshCfg_GNSS_EMU then s
  else
    match s.rsh.tmsg with
    | none => s
    | some g =>
      let s := s.setRsh { s.rsh with tmsg := none }
      let sigma := g.m2 % 2 ^ 32
      let ok := bitOf g.m3 25 && bitOf g.m3 26 && decide (g.m3 / 2 ^ 28 % 16 ≠ 0) && decide (sigma ≠ 0xffffffff) &&
        !bitOf flags 4 && !bitOf flags 2 && !bitOf flags 7
      if !ok then s
      else
        let s := s.setRsh { s.rsh with consts := g.m3 / 2 ^ 20 % 16 }
        s.offerSample cGnss
          { inst := t, p := Int.ofNat (g.m0 % 2 ^ 48 * Config.secTicks) - (t + signedOf 32 (g.m2 / 2 ^ 32)),
            src := s.get F.rshCfg_K_GNSS * sigma, ref := boundSum [unc, g.m3 / 2 ^ 32], steer := e.steer }

/-- A timing message reaches RSH (R204, R209). -/
def State.tmsgToRsh (s : State) (g : TMsg) : State :=
  let s := s.setRsh { s.rsh with tmsg := some g }
  if (bitOf g.m3 25 && bitOf g.m3 26) || s.refState cGnss == 0 then s
  else ((s.disqualify cGnss).putB F.refStat_DQ_MON true cGnss).refresh 16

/-- GNSS_PAIR_TIMEOUT (R204): a message unpaired for 2 ms gives no sample. -/
def execGnssPairTimeout (s : State) : Res := .next (s.setRsh { s.rsh with tmsg := none })

/-! ### The oscillator model (R227–R234, R246) -/

/-- The model is INVALID (R232). -/
def State.modelInvalid (s : State) : Bool :=
  s.get F.rshModelFtol_PARAM s.modelSet == 0 || s.get F.rshModelDfu_PARAM s.modelSet == 0

/-- θ in units of 2^-16 mK (R246): channel 3 of the AOI monitors, or RIM_TEMP in 1/16 °C. -/
def State.thetaQ (s : State) : Int :=
  if s.getB F.rshTemp_TEMP_SRC then s.getI F.rimTemp_TEMP_NOW * 4096000
  else s.getI F.aoiTempCal_OFFSET * 65536 + s.getI F.aoiTempCal_SCALE * Int.ofNat (s.get F.aoiMon_VALUE 3)

/-- θ in mK, as RSH_TEMP shows it. -/
def State.theta (s : State) : Int := roundDiv s.thetaQ 65536

/-- Milliseconds of learned span. -/
def State.learnMs (s : State) : Nat := (s.rsh.learn.map (·.1)).sum

/-- FAVG, AAVG and θ_ref of the learned periods (R227): means weighted by duration, and the least-squares slope of FOFF per
second over the periods' middles. -/
def learnFit (l : List (Nat × Int × Int)) : Int × Int × Int :=
  let ms := (l.map (·.1)).sum
  if ms = 0 then (0, 0, 0)
  else
    let favg := roundDiv ((l.map fun e => e.2.1 * Int.ofNat e.1).sum) ms
    let tavg := roundDiv ((l.map fun e => e.2.2 * Int.ofNat e.1).sum) ms
    -- twice the middle of each period in ms, counted back from now
    let pts := (l.foldl (fun (a : Nat × List (Int × Int)) e => (a.1 + e.1, a.2 ++ [(-(Int.ofNat (2 * a.1 + e.1)), e.2.1)]))
      (0, [])).2
    let n := Int.ofNat pts.length
    let sx := (pts.map (·.1)).sum
    let sy := (pts.map (·.2)).sum
    let sxx := (pts.map fun e => e.1 * e.1).sum
    let sxy := (pts.map fun e => e.1 * e.2).sum
    let den := n * sxx - sx * sx
    let num := (n * sxy - sx * sy) * 2000
    (favg, if den ≤ 0 then 0 else roundDiv num den.toNat, tavg)

/-- The learned span is kept to HOLD_AVG_S, and the registers show what it gives. -/
def State.learnShow (s : State) : State :=
  let cap := s.get F.rshHoldCfg_HOLD_AVG_S * 1000
  let l := (s.rsh.learn.foldl (fun (a : Nat × List (Nat × Int × Int)) e =>
    if a.1 < cap then (a.1 + e.1, a.2 ++ [e]) else a) (0, [])).2
  let s := s.setRsh { s.rsh with learn := l }
  let (f, a, t) := learnFit l
  let s := ((s.putI F.rshLearnFavg_VALUE f).putI F.rshLearnAavg_VALUE a).putI F.rshLearnTref_THETA_REF (roundDiv t 65536)
  let span := s.learnMs / 1000
  (s.put F.rshLearnTref_SPAN_S (satNat 32 span)).putB F.rshStat_LEARNED
    (decide (s.get F.rshLearnCfg_LEARN_MIN_S * 1000 ≤ s.learnMs) && l != [])

/-- One CLK_TSE cycle in LOCKED (R227). -/
def State.learnCycle (s : State) : State :=
  if s.rshState = 2 ∧ (s.dom 0).st = .running then
    s.setRsh { s.rsh with learnFoff := s.rsh.learnFoff + (s.dom 0).foff, learnCyc := s.rsh.learnCyc + 1 }
  else s

/-- What has passed in LOCKED since the last learned period is learned at a close: its length in ms, the mean of FOFF as it was
applied, and θ (R227). -/
def State.learnPeriod (s : State) : State :=
  let n := s.rsh.learnCyc
  let ms := (2 * n + 1250000) / 2500000
  if ms = 0 then s
  else
    (s.setRsh { s.rsh with learn := (ms, roundDiv s.rsh.learnFoff n, s.thetaQ) :: s.rsh.learn, learnFoff := 0,
                           learnCyc := 0 }).learnShow

/-- Learning restarts from zero (R227). -/
def State.learnReset (s : State) : State :=
  let s := s.setRsh { s.rsh with learn := [], chk := none, learnFoff := 0, learnCyc := 0 }
  ((s.putB F.rshStat_LEARNED false).wr .rshLearnFavg 0).wr .rshLearnAavg 0 |>.wr .rshLearnTref 0

/-! ### Driving D0 (R25, R63, R78, R224) -/

/-- Write D0's frequency offset, saturated to the range of R63. -/
def State.setFoff0 (s : State) (f : Int) : State :=
  let lim : Int := 2 ^ 47 - 1
  let d := s.dom 0
  let v := clampInt (-lim) lim f
  (s.setDom 0 { d with foff := v, foffSat := d.foffSat || v != f }).putI F.rshServoF_FOFF v

/-- Write D0's bound terms from a candidate (R78, R206, R219); they re-establish its bound (R59). -/
def State.setTerms (s : State) (src ref servo : Nat) : State :=
  s.setDom 0 { s.dom 0 with bcSrc := src, bcRef := ref, bcServo := servo, lost := false }

/-- BC_SRC := UNBOUNDED. -/
def State.unboundSrc (s : State) : State := s.setDom 0 { s.dom 0 with bcSrc := Config.unb }

def State.push0 (s : State) (kind id : Nat) : State := s.setDom 0 (pushLink (s.dom 0) kind id)

/-- D0's provenance when a candidate is selected (R222). -/
def State.provSel (s : State) (c : Nat) : State :=
  if c < 24 then s.push0 2 c
  else
    s.setDom 0 { s.dom 0 with prov := [if c = cGnss then { kind := 1, id := s.rsh.consts }
                                       else { kind := 4, id := s.get F.hrlStat_GMA }] }

/-- The sample period of a candidate in ticks, 0 where it has none of its own (R216). -/
def State.samplePeriod (s : State) (c : Nat) : Nat :=
  if c = cGnss then Config.secTicks
  else if c = cRing then 2621440000
  else
    let m := (List.range 32).find? fun m => s.getB F.emuCfg_ARMED m && s.getB F.emuCfg_DEST_RSH m && s.get F.emuCfg_STOP_SRC m == c
    match m with
    | some m => (s.alarm (s.get F.emuSlots_CLOSE_SLOT m)).period
    | none => 0

/-- The servo period as written, held to its range, in ticks. -/
def State.servoBase (s : State) : Nat := clampNat 1 16000 (s.get F.rshCfg_SERVO_PER_MS) * 262144000000

/-- The servo period in use in ticks: the next multiple of the SELECTED candidate's sample period (R216). -/
def State.servoTicks (s : State) : Nat :=
  let t := s.servoBase
  let p := if s.sel = cNone ∨ s.isFreq s.sel then 0 else s.samplePeriod s.sel
  if p = 0 then t else ceilDiv t p * p

/-- 20 ms in ticks. -/
abbrev servoLag : Nat := 5242880000000

/-- Arm AS2 at the next close after D0's present value (R216). -/
def State.armServo (s : State) : State :=
  let t := s.servoTicks
  let s := s.putB F.rshStat_CFG_ERR (t != s.servoBase)
  let now := s.ticks 0
  let k := (now - Int.ofNat servoLag) / Int.ofNat t + 1
  let inst := k * Int.ofNat t + Int.ofNat servoLag
  let s := { s with tse := { s.tse with due := s.tse.due.filter fun d => d.slot != 2 } }
  s.armSlot 2 0 0 inst.toNat .servoClose 0 t true false

/-- Re-arm AS2 where the period in use has changed; CFG_ERR tells a SERVO_PER_MS that is adjusted (R216). -/
def State.servoFollow (s : State) : State :=
  let s := if (s.alarm 2).st = .armed ∧ (s.alarm 2).period ≠ s.servoTicks then s.armServo else s
  s.putB F.rshStat_CFG_ERR (s.servoTicks != s.servoBase)

/-- What RSH has dated by D0 is re-expressed after a seed of D0 by `diff` ticks: samples, MON_OK's rises, the last close. -/
def State.rebase (s : State) (diff : Int) : State :=
  s.setRsh { s.rsh with closeAt := s.rsh.closeAt + diff, cand := s.rsh.cand.map fun e =>
    (e.1, { e.2 with upAt := e.2.upAt.map (· + diff)
                     smp := e.2.smp.map fun x => { x with inst := x.inst + diff, p := x.p - diff } }) }

/-- Seed D0 through RSH's phase port (R61, R68, R102): AS2 is armed again on its grid (DEDUCED: log entry 22). -/
def State.seed0 (s : State) (t : Int) (issuer : Nat) : State :=
  let diff := t - s.ticks 0
  let s := ((s.setTime 0 t issuer).rebase diff).refresh 5
  if (s.alarm 2).st = .armed then s.armServo else s

/-! ### HOLD (R226–R234) -/

/-- The HOLDOVER link of R222 in front of D0's provenance, where HOLD has not put it there already. -/
def State.pushHold (s : State) : State :=
  if ((s.dom 0).prov.head?.map (·.kind)) = some 3 then s else s.push0 3 s.modelSet

/-- HOLD is set: the model terms of R228, and FOFF by R229. With nothing learned FOFF stays (DEDUCED: log entry 22). -/
def State.holdOn (s : State) : State :=
  let d := s.dom 0
  if d.hold then s
  else
    let m := s.modelSet
    let dfu := s.get F.rshModelDfu_PARAM m
    let fits := s.getB F.rshStat_LEARNED && d.bcSrc != Config.unb &&
      decide (8 * (d.bcSrc + d.bcRef) * 2 ^ 64 * 1000 ≤ dfu * s.learnMs * Config.secTicks)
    let v := if fits then dfu else s.get F.rshModelFtol_PARAM m
    let v := if s.getB F.aoiCfdStat_CFD_SAT then s.get F.rshModelDfuSat_PARAM m else v
    let (f, a, t) := learnFit s.rsh.learn
    let none' := s.rsh.learn == []
    let s := s.setRsh { s.rsh with holdS := 0, holdF := if none' then d.foff else f, holdA := if none' then 0 else a,
                                   holdTh := if none' then s.thetaQ else t }
    let s := (s.setHold 0 true).pushHold
    let s := s.setDom 0 { s.dom 0 with dfu := v, age := s.get F.rshModelAge_PARAM m, tc := s.get F.rshModelTc_PARAM m,
                                       tint := 0 }
    s.setFoff0 s.rsh.holdF

/-- HOLD is cleared. -/
def State.holdOff (s : State) : State := if (s.dom 0).hold then s.setHold 0 false else s

/-- A calibration of the C-field gain ends without a result (R250): 1 switch, 2 BRIDGE, 3 CFD_SAT. -/
def State.gainAbort (s : State) (why : Nat) : State :=
  match s.rsh.gain with
  | some _ => (s.setRsh { s.rsh with gain := none }).log 0x04 0xff 0x0402 0 2 [byte why]
  | none => s

/-- RSH deselects: the SELECTED candidate is QUALIFIED again. It is a switch (R250). -/
def State.deselect (s : State) : State :=
  if s.sel = cNone then s
  else
    let s := s.gainAbort 1
    let s := (s.put F.refStat_STATE 2 s.sel).setCand s.sel { s.cand s.sel with since := 0 }
    (s.put F.rshStat_SEL cNone).setRsh { s.rsh with chk := none }

/-- RSH enters FREERUN (R233). -/
def State.enterFreerun (s : State) : State :=
  let s := (s.holdOff.unboundSrc.setFoff0 0).deselect
  let s := match (s.dom 0).prov with
    | l :: _ => if l.kind = 7 then s else s.push0 7 0
    | [] => s.push0 7 0
  let s := (s.setRsh { s.rsh with cur := cNone, bookPend := false }).learnReset
  (s.setRshState 5).refresh 16

/-- RSH enters BRIDGE (R226). -/
def State.enterBridge (s : State) : State := ((s.holdOn).setRshState 3).gainAbort 2

/-- RSH enters HOLDOVER (R226), its link in front. -/
def State.enterHoldover (s : State) : State :=
  let s := s.holdOn.pushHold
  ((s.setRsh { s.rsh with cur := cNone }).setRshState 4).refresh 16

/-- Entry to SAFE or SEALED (R226): CFD is held, so a calibration of its gain that no switch has ended ends without an entry. -/
def State.rshSafe (s : State) : State :=
  if s.rshState = 0 then s
  else
    let s := s.enterFreerun
    s.setRsh { s.rsh with gain := none }

/-- Holdover that fails one of R232's conditions that a bound update shows. -/
def State.holdBroken (s : State) : Bool :=
  s.modelInvalid || (s.dom 0).bound == Config.unb || decide (s.get F.rshHoldLimit_LIMIT < (s.dom 0).bound)

/-- Holdover ends where R232 says so (BRIDGE and HOLDOVER). -/
def State.holdJudge (s : State) : State :=
  if (s.rshState = 3 ∨ s.rshState = 4) ∧ s.holdBroken then s.enterFreerun else s

/-- The frequency verification of R234 fails for candidate c. All figures in units of 2^-96. -/
def State.verifyFails (s : State) (c : Nat) : Bool :=
  let d := s.dom 0
  let th := (s.thetaQ - s.rsh.holdTh).natAbs
  s.isFreq c && s.refState c == 2 && s.getB F.refCfg_FREQ_VERIFY c &&
    decide (((d.dfu * 2 ^ 32 + d.age * s.rsh.holdS + s.get F.refFbound_VALUE c * 2 ^ 32) * 65536000 + d.tc * 2 ^ 32 * th) * 10 ^ 10 +
        2 ^ 96 * 65536000 < (s.getI F.inFmDf_DF c).natAbs * 2 ^ 96 * 65536000)

/-- HOLDOVER_SECOND_TICK (R229, R230, R232, R234). -/
def execHoldoverSecondTick (s : State) : Res :=
  .next (if !(s.dom 0).hold then s
    else
      let s := s.setRsh { s.rsh with holdS := s.rsh.holdS + 1 }
      if s.get F.rshHoldCfg_HOLD_MAX_S ≤ s.rsh.holdS ∨ s.holdBroken ∨ (List.range 24).any (fun c => s.verifyFails c) then
        s.enterFreerun
      else
        let s := s.setFoff0 (s.rsh.holdF + s.rsh.holdA * Int.ofNat s.rsh.holdS)
        s.setDom 0 { s.dom 0 with tint := (s.dom 0).tint + ceilDiv (s.thetaQ - s.rsh.holdTh).natAbs 65536 })

/-! ### Qualification (R207–R211) -/

/-- What a servo period gives of one candidate: valid, its samples, their mean and its bound. -/
structure Period where
  ok : Bool
  l : List Sample
  p : Int
  cb : Nat

/-- The sample of the largest bound (R6). -/
def worst (l : List Sample) : Option Sample :=
  l.foldl (fun b x => match b with
    | none => some x
    | some y => if boundSum [y.src, y.ref] ≤ boundSum [x.src, x.ref] then some x else some y) none

/-- The samples of a candidate that the period [lo, hi) uses; those that arrived since the last close when this one came through a
step (R216). A FREQ candidate has one where MON_OK has stood set since before the period (R208). -/
def State.periodOf (s : State) (c : Nat) (lo hi : Int) (step : Bool) : Period :=
  if s.isFreq c then
    { ok := (match (s.cand c).upAt with
        | some t => decide (t ≤ if step then s.rsh.closeAt else lo)
        | none => false), l := [], p := 0, cb := Config.unb }
  else
    let l := if step then (s.cand c).smp.filter fun x => !x.old else (s.cand c).smp.filter fun x => decide (lo ≤ x.inst) && decide (x.inst < hi)
    { ok := l != [], l := l, p := if l = [] then 0 else roundDiv (l.map (·.p)).sum l.length,
      cb := match worst l with | some x => boundSum [x.src, x.ref] | none => Config.unb }

/-- The samples that stay for the next period. -/
def State.keepSamples (s : State) (hi : Int) (step : Bool) : State :=
  let s := (List.range 26).foldl (fun s c =>
    s.setCand c { s.cand c with
      smp := if step then [] else ((s.cand c).smp.filter fun x => decide (hi ≤ x.inst)).map fun x => { x with old := true } }) s
  s.setRsh { s.rsh with closeAt := s.ticks 0 }


/-- The candidate may be qualified: ENABLE and no LOCKOUT. -/
def State.candOn (s : State) (c : Nat) : Bool := s.getB F.refCfg_ENABLE c && !s.getB F.refStat_LOCKOUT c

/-- Show the remaining qualification time in seconds. -/
def State.showQual (s : State) (c : Nat) : State := s.put F.refStat_QUAL_LEFT (ceilDiv (s.cand c).qualMs 1000) c

/-- Move a candidate to QUALIFYING with its time loaded. -/
def State.toQualifying (s : State) (c : Nat) : State :=
  ((s.setCand c { s.cand c with qualMs := s.get F.refCfg_QUAL_S c * 1000, since := 0 }).put F.refStat_STATE 1 c).showQual c

/-- One candidate's passage through one servo period of `ms` milliseconds (R207–R210); `sel` is what the SELECTED candidate
gave. -/
def State.qualify (s : State) (c ms : Nat) (x : Period) (sel : Option Period) : State :=
  let s := s.showFreqOnly c
  if !s.candOn c then (if s.refState c = 0 then s else s.disqualify c)
  else
    let st := s.refState c
    if !x.ok then
      if st = 0 then s
      else
        let miss := (s.cand c).miss + 1
        if max 1 (s.get F.rshCfg_MISS_N) ≤ miss then (s.disqualify c).putB F.refStat_DQ_MISS true c
        else
          let s := s.setCand c { s.cand c with miss := miss, agree := 0, since := (s.cand c).since + ms }
          if st = 1 then s.toQualifying c else s
    else
      let fresh := st == 0
      let s := if fresh then s.toQualifying c else s
      let k := s.cand c
      let s := s.setCand c { k with miss := 0, since := if st = 2 then k.since + ms else k.since,
                                    qualMs := if fresh then k.qualMs else k.qualMs - ms }
      let s := s.showQual c
      let s :=
        match sel with
        | some y =>
          if c = s.sel ∨ s.getB F.refStat_FREQ_ONLY c ∨ !y.ok then s.setCand c { s.cand c with agree := 0 }
          else
            let lim := boundSum [x.cb, y.cb, (s.dom 0).bcServo, (s.dom 0).bcServo]
            if lim ≠ Config.unb ∧ lim < (x.p - y.p).natAbs then
              let s := if s.getB F.refStat_DISAGREE c then s else s.pulse 19 0 c
              let s := (s.putB F.refStat_DISAGREE true c).setCand c { s.cand c with agree := 0 }
              if s.refState c = 2 then s.toQualifying c else s
            else if s.getB F.refStat_DISAGREE c then
              if 9 ≤ (s.cand c).agree then (s.setCand c { s.cand c with agree := 0 }).putB F.refStat_DISAGREE false c
              else s.setCand c { s.cand c with agree := (s.cand c).agree + 1 }
            else s
        | none => s.setCand c { s.cand c with agree := 0 }
      if s.refState c = 1 ∧ (s.cand c).qualMs = 0 ∧ !s.getB F.refStat_DISAGREE c then
        (s.put F.refStat_STATE 2 c).setCand c { s.cand c with since := 0 }
      else s

/-- The growth H(t) of R79 by the model's terms after dt ticks and a temperature integral (R211). -/
def State.modelGrowth (s : State) (dt tint : Nat) : Nat :=
  let m := s.modelSet
  ceilDiv (s.get F.rshModelDfu_PARAM m * dt) (2 ^ 64) +
    ceilDiv (s.get F.rshModelAge_PARAM m * dt * dt) (2 ^ 97 * Config.secTicks) +
    ceilDiv (s.get F.rshModelTc_PARAM m * tint * Config.secTicks) (2 ^ 64 * 1000)

/-- A sample departs from the prediction by more than R211 allows. -/
def State.chkFails (s : State) (a : Chk) (x : Sample) : Bool :=
  let dt := x.inst - a.inst
  let favg := s.getI F.rshLearnFavg_VALUE
  let aavg := s.getI F.rshLearnAavg_VALUE
  let pred := a.q + favg * dt / 2 ^ 56 + aavg * dt * dt / (2 ^ 57 * Int.ofNat Config.secTicks)
  let cb := boundSum [x.src, x.ref]
  cb != Config.unb && decide (s.modelGrowth dt.toNat a.tint + 2 * cb < (x.p + x.steer - pred).natAbs)

/-- An anchor at a sample. -/
def anchorAt (x : Sample) : Chk := { q := x.p + x.steer, inst := x.inst, tint := 0 }

/-- The model cross-check of the SELECTED candidate's samples (R211): the state, and whether it failed. -/
def State.crossCheck (s : State) (l : List Sample) (ms : Nat) : State × Bool :=
  if !s.getB F.rshStat_LEARNED then (s.setRsh { s.rsh with chk := none }, false)
  else
    match s.rsh.chk, l with
    | none, x :: _ => (s.setRsh { s.rsh with chk := some (anchorAt x) }, false)
    | some a, _ =>
      let a := { a with tint := a.tint + ceilDiv ((s.thetaQ - (learnFit s.rsh.learn).2.2).natAbs * ms) 65536000 }
      (s.setRsh { s.rsh with chk := some a }, l.any fun x => s.chkFails a x)
    | none, [] => (s, false)

/-- CROSS_CHECK_ANCHOR (R211): the next valid sample of the SELECTED candidate anchors a new prediction. -/
def execCrossCheckAnchor (s : State) : Res :=
  .next (
    match (s.cand s.sel).smp.getLast? with
    | some x =>
      if s.sel ≠ cNone ∧ s.getB F.rshStat_LEARNED then s.setRsh { s.rsh with chk := some (anchorAt x) }
      else s.setRsh { s.rsh with chk := none }
    | none => s.setRsh { s.rsh with chk := none })

/-! ### Selection (R212–R215) -/

/-- Candidate b ranks before candidate a (R212). -/
def State.ranksBefore (s : State) (b a : Nat) : Bool :=
  let pb := s.get F.refCfg_PRIO b
  let pa := s.get F.refCfg_PRIO a
  let cb := s.get F.refCbound_VALUE b
  let ca := s.get F.refCbound_VALUE a
  if s.get F.hrlStat_ROLE = 2 ∧ (a = cRing ∨ b = cRing) then b == cRing && a != cRing
  else if pb ≠ pa then decide (pb < pa)
  else if cb ≠ ca then decide (cb < ca)
  else decide (b < a)

/-- The candidates that may be selected: QUALIFIED or SELECTED, without FREQ_ONLY. -/
def State.selectable (s : State) : List Nat :=
  (List.range 26).filter fun c => decide (2 ≤ s.refState c) && !s.getB F.refStat_FREQ_ONLY c

/-- The first-ranked of a list. -/
def State.firstRanked (s : State) (l : List Nat) : Option Nat :=
  l.foldl (fun b c => match b with
    | none => some c
    | some d => if s.ranksBefore c d then some c else some d) none

/-- The candidate that RSH is to hold SELECTED (R213–R215). -/
def State.choose (s : State) : Option Nat :=
  let l := s.selectable
  let cur := s.sel
  let forced := l.find? fun c => s.getB F.refStat_FORCED c
  if s.mode = .standby ∧ l.contains cRing then some cRing
  else if forced.isSome then forced
  else if !l.contains cur then s.firstRanked l
  else if !s.getB F.rshCfg_REVERT then some cur
  else
    let better := l.filter fun c => s.ranksBefore c cur && decide (s.get F.rshCfg_WTR_S * 1000 ≤ (s.cand c).since)
    match s.firstRanked better with
    | some c => some c
    | none => some cur

/-- SELECTED moves to what `choose` gives. -/
def State.select (s : State) : State :=
  let t := (s.choose).getD cNone
  if t = s.sel then s
  else
    let s := s.deselect
    if t = cNone then s else (s.put F.refStat_STATE 3 t).put F.rshStat_SEL t

/-- Selection is suspended: RSH is IDLE, SERVICE holds it, or the mode is SAFE or SEALED. -/
def State.selSuspended (s : State) : Bool := s.rshState == 0 || s.rsh.suspended || s.cpx.service || s.fatalMode

/-! ### The servo (R217–R219, R221, R224) -/

/-- Saturation of the servo's quantities, ±1,953,125 ppb in Q32.32 (R218). -/
abbrev servoLim : Int := 1953125 * 4294967296

/-- SERVO_SAT is set while i or f is saturated (R218). -/
def State.showSat (s : State) (i f : Bool) : State := (s.setRsh { s.rsh with iSat := i, fSat := f }).putB F.rshStat_SERVO_SAT (i || f)

/-- The integrator takes a value, saturated. -/
def State.setServoI (s : State) (i0 : Int) : State :=
  let i := clampInt (-servoLim) servoLim i0
  (s.putI F.rshServoI_VALUE i).showSat (i != i0) s.rsh.fSat

/-- The PI filter for an error e in ticks (R217, R218). -/
def State.piFilter (s : State) (e : Int) : State :=
  let en := e * 16384
  let i0 := s.getI F.rshServoI_VALUE + roundDiv (Int.ofNat (s.get F.rshServoKi_GAIN) * en) 4294967296
  let i := clampInt (-servoLim) servoLim i0
  let f0 := roundDiv (Int.ofNat (s.get F.rshServoKp_GAIN) * en) 4294967296 + i
  let f := clampInt (-servoLim) servoLim f0
  let s := (s.putI F.rshServoI_VALUE i).showSat (i != i0) (f != f0)
  s.setFoff0 (roundDiv (f * 16777216) 1000000000)

/-- BC_SERVO at an update with error e (R219), and the history it leaves. -/
def State.servoTerm (s : State) (e : Int) : Nat × State :=
  let h := (e.natAbs :: s.rsh.errs).take 64
  let v := max (s.get F.rshServoFloor_FLOOR) (2 * h.foldl max 0)
  let tol := ceilDiv (s.get F.rshModelFtol_PARAM s.modelSet * s.servoTicks) (2 ^ 64)
  (if s.rsh.seedN = 0 then v else max v tol, s.setRsh { s.rsh with errs := h, seedN := s.rsh.seedN - 1 })

/-- Seed D0 from a sample (R221): FOFF and i take the source's frequency estimate. -/
def State.seedFrom (s : State) (x : Sample) (y : Sample) : State :=
  let s := s.seed0 (s.ticks 0 + x.p) (0x80 + 0x04)
  let s := (s.setFoff0 x.rate).setServoI (roundDiv (x.rate * 1000000000) 16777216)
  let s := (s.showSat s.rsh.iSat false).setRsh { s.rsh with fSat := false, seedN := 2, bookPend := false }
  let (v, s) := s.servoTerm 0
  (s.setTerms y.src y.ref v).holdOff.putI F.rshServoE_VALUE 0

/-- Book a phase difference (R224, R225): from candidate `prev` to candidate c. -/
def State.book (s : State) (prev c : Nat) (p : Int) (ref : Nat) : State :=
  let d := s.dom 0
  let amount := satInt 64 (p - slewRemTicks d)
  let smax := min (s.get F.rshSwSlew_SLEW_MAX) (2 ^ 47 - 1 - d.foff.natAbs)
  let s := s.setDom 0 (bookSlew d amount ref smax)
  let s := s.log 0x04 c 0x0401 0 1 ([byte prev, byte c] ++ beBytes 8 (codeOf 64 amount) ++ beBytes 2 (ecode ref))
  s.holdOff.setRsh { s.rsh with bookPend := false }

/-- A close in LOCKED with valid samples of the SELECTED candidate: seed, or book where asked, then the filter and the bound
terms (R217–R224). -/
def State.lockClose (s : State) (c prev : Nat) (x : Period) (book : Bool) : State :=
  match x.l, worst x.l with
  | first :: _, some w =>
    if 24 ≤ c ∧ ((s.dom 0).unseeded ∨ (s.dom 0).bound = Config.unb) then s.seedFrom first w
    else
      let e0 := x.p - slewRemTicks (s.dom 0)
      let big := x.cb != Config.unb && decide (x.cb + (s.dom 0).bcServo < e0.natAbs)
      let s := if book || big then s.book prev c x.p w.ref else s
      let e := x.p - slewRemTicks (s.dom 0)
      let s := (s.putI F.rshServoE_VALUE (satInt 64 e)).piFilter e
      let (v, s) := s.servoTerm e
      s.setTerms w.src w.ref v
  | _, _ => s

/-- A close in STEER (R236). -/
def State.steerClose (s : State) (x : Period) : State :=
  let c := s.sel
  let s :=
    if c = s.rsh.cur then s
    else
      let s := (s.setRsh { s.rsh with cur := c }).gainAbort 1
      if c = cNone then (s.push0 6 0).unboundSrc else s.provSel c
  match worst x.l with
  | some w =>
    if c = cNone then s
    else
      let e := x.p - slewRemTicks (s.dom 0)
      let (v, s) := (s.putI F.rshServoE_VALUE (satInt 64 e)).servoTerm e
      s.setTerms w.src w.ref v
  | none => s

/-- RSH's states at a period close (R226). -/
def State.closeStates (s : State) (x : Period) : State :=
  let st := s.rshState
  let s := if st = 2 then s.learnPeriod else s
  let c := s.sel
  let prev := s.rsh.cur
  if st = 6 then s.steerClose x
  else if s.selSuspended then s
  else if c ≠ cNone ∧ (c ≠ prev ∨ st = 1 ∨ st = 4 ∨ st = 5) then
    let s := (((s.setRsh { s.rsh with cur := c }).setRshState 2).provSel c).gainAbort 1
    if x.ok then s.lockClose c prev x true else s.setRsh { s.rsh with bookPend := true, bookFrom := prev }
  else if c ≠ cNone ∧ x.ok then
    (s.setRshState 2).lockClose c (if s.rsh.bookPend then s.rsh.bookFrom else c) x (st == 3 || s.rsh.bookPend)
  else if st = 2 ∨ st = 3 then
    let s := if st = 2 then s.enterBridge else s
    if s.modelInvalid then s.enterFreerun else if c = cNone then s.enterHoldover else s
  else s

/-- RSH closes its servo period (R216): `d` is the SERVO_CLOSE alarm as it fired. -/
def State.servoClose (s : State) (d : Due) : State :=
  let t := d.al.period
  let ms := t / 262144000000
  let hi := Int.ofNat d.al.inst - Int.ofNat servoLag
  let lo := hi - Int.ofNat t
  let per := fun c => s.periodOf c lo hi d.step
  let selP := if s.sel = cNone then none else some (per s.sel)
  let all := (List.range 26).map fun c => (c, per c)
  let s := s.keepSamples hi d.step
  let (s, failed) := match selP with
    | some x => if x.ok then s.crossCheck x.l ms else (s, false)
    | none => (s, false)
  let c0 := s.sel
  let s := if failed then ((s.disqualify c0).putB F.refStat_DQ_MODEL true c0).pulse 19 0 c0 else s
  let s := all.foldl (fun s e => if failed && e.1 == c0 then s else s.qualify e.1 ms e.2 (if failed then none else selP)) s
  let s := if s.selSuspended then s else s.select
  let x := match all.find? fun e => e.1 == s.sel with
    | some e => e.2
    | none => { ok := false, l := [], p := 0, cb := Config.unb }
  let s := ((s.closeStates x).servoFollow).refresh 16
  if x.ok then s.put F.tsvRefts_SEC (s.ticks 0 / Int.ofNat Config.secTicks).toNat else s

/-! ### STEER (R235) -/

/-- RSH_OPEN. -/
def State.rshOpen (s : State) : State :=
  let s := s.holdOff
  let s := s.setRsh { s.rsh with cur := s.sel }
  let s := if s.sel = cNone then (s.push0 6 0).unboundSrc else s
  s.setRshState 6

/-- The loop closes with a continuous frequency command (R235). -/
def State.closeLoop (s : State) : State :=
  let fnow := roundDiv ((s.dom 0).foff * 1000000000) 16777216
  let kpe := roundDiv (Int.ofNat (s.get F.rshServoKp_GAIN) * (s.getI F.rshServoE_VALUE * 16384)) 4294967296
  let s := s.setServoI (fnow - kpe)
  let s := s.setRsh { s.rsh with suspended := false, bookFrom := s.rsh.cur }
  let s := s.select
  if s.sel ≠ cNone then
    let s := if s.rsh.cur = s.sel then s else (s.provSel s.sel).gainAbort 1
    ((s.setRsh { s.rsh with cur := s.sel, bookPend := true }).setRshState 2).refresh 16
  else if (s.dom 0).bound ≠ Config.unb ∧ !s.modelInvalid then s.enterHoldover
  else s.enterFreerun

/-- Entry to SERVICE (R226). -/
def State.rshService (s : State) : State :=
  if s.rshState = 2 ∨ s.rshState = 3 then
    let s := s.enterHoldover.deselect
    (s.setRsh { s.rsh with suspended := true }).refresh 16
  else s

/-- SERVICE is left: RSH acts as at RSH_CLOSE (R705). -/
def State.rshServiceExit (s : State) : State := if s.rshState = 0 then s else s.closeLoop

/-- Entry to ACQUIRE (R216, R226). -/
def State.rshAcquire (s : State) : State :=
  if s.rshState = 0 then ((s.setRshState 1).unboundSrc).armServo else s

/-! ### Commands (R248, R249, R251, R252) -/

/-- A candidate code that exists. -/
def candCode (c : Nat) : Bool := decide (c < 26)

def execRefForce (c : Caller) (cand : Nat) (s : State) : Res :=
  .next (s.runCmd c 0x40
    [notOwner s c, (!candCode cand && cand != cNone, .badArg),
     (cand != cNone && (decide (s.refState cand < 2) || s.getB F.refStat_FREQ_ONLY cand), .badArg)]
    (let s := (List.range 26).foldl (fun s k => s.putB F.refStat_FORCED false k) s
     if cand = cNone then s else s.putB F.refStat_FORCED true cand))

def execRefLockout (c : Caller) (cand on : Nat) (s : State) : Res :=
  .next (s.runCmd c 0x41 [notOwner s c, (!candCode cand || decide (1 < on), .badArg)]
    (let s := s.putB F.refStat_LOCKOUT (on == 1) cand
     if on = 1 ∧ s.refState cand ≠ 0 then (s.disqualify cand).refresh 16 else s))

/-- REFUSED_MODE by a block's own rule is entered like any other (R19). -/
def State.runRsh (s : State) (c : Caller) (op : Nat) (b : Bool) (checks : List (Bool × Status)) (eff : State)
    (result : List Byte := []) : State :=
  if s.served && s.legal op && !b then (s.logRefused c op (s.cCmdId c)).complete c op .refusedMode
  else s.runCmd c op checks eff result

def execRshOpen (c : Caller) (s : State) : Res :=
  .next (s.runRsh c 0x42 (s.mode != .steer || s.rshState != 6) [notOwner s c] s.rshOpen)

def execRshClose (c : Caller) (s : State) : Res :=
  .next (s.runRsh c 0x43 (s.rshState == 6) [notOwner s c] s.closeLoop)

def execSteerFreq (c : Caller) (foff : Int) (s : State) : Res :=
  .next (s.runRsh c 0x44 (s.rshState == 6) [notOwner s c, (decide (2 ^ 47 - 1 < foff.natAbs), .badArg)] (s.setFoff0 foff))

def execSteerPhase (c : Caller) (ticks : Int) (unc slewMax : Nat) (s : State) : Res :=
  .next (s.runRsh c 0x45 (s.rshState == 6)
    [notOwner s c, (!fits64 ticks || decide (2 ^ 64 ≤ unc), .badArg),
     (decide (2 ^ 47 - 1 < slewMax + (s.dom 0).foff.natAbs), .badArg)]
    (s.setDom 0 (bookSlew (s.dom 0) ticks unc slewMax)))

/-- RSH_D0_SEED (R222, R708). The bound argument reaches no term: no rule names one (log entry 23). -/
def execRshD0Seed (c : Caller) (t : TimeVal) (bound : Nat) (s : State) : Res :=
  .next (s.runCmd c 0x46 [notOwner s c, (!tvOk t || decide (2 ^ 64 ≤ bound), .badArg)]
    (let s := if s.rshState = 6 then s else s.rshOpen
     let s := s.seed0 (Int.ofNat (tvTicks t)) (s.cPart c)
     let s := s.setRsh { s.rsh with seedN := 1 }
     s.setDom 0 { s.dom 0 with prov := [{ kind := 8, id := s.cPart c }] }))

/-! ### Register writes with a rule of their own -/

/-- A write of RSH_CFG: K_GNSS is clamped; a new servo period re-arms AS2. -/
def State.rshCfgWritten (s : State) : State :=
  (s.put F.rshCfg_K_GNSS (clampNat 3 15 (s.get F.rshCfg_K_GNSS))).servoFollow

/-- A write of REFc_CFG: a candidate whose ENABLE is cleared is disqualified (R209). -/
def State.refCfgWritten (s : State) (c : Nat) : State :=
  if s.candOn c || s.refState c == 0 then s else (s.disqualify c).refresh 16

/-- SELST[2:0] (R237). LOCKED on a candidate that has just been disqualified stays LOCKED on it until the close (R226). -/
def State.selst (s : State) : Nat :=
  let c := if s.sel = cNone then s.rsh.cur else s.sel
  match s.rshState with
  | 0 => 0
  | 1 => 1
  | 2 => if c = cGnss then 2 else if c = cRing then 4 else 3
  | 5 => 6
  | 6 => 7
  | _ => 5

/-- TRACE_OK (R238). -/
def State.traceOk (s : State) : Bool := (s.dom 0).traceable && s.mode.up && s.mode != .service

/-- The register RSH_STAT. -/
def State.rshStatWord (s : State) : Word :=
  let w := s.rd .rshStat
  let w := setBits w F.rshStat_SELST.hi F.rshStat_SELST.lo s.selst
  let w := setBits w F.rshStat_TRACE_OK.hi F.rshStat_TRACE_OK.lo (if s.traceOk then 1 else 0)
  let w := setBits w F.rshStat_ATOMIC.hi F.rshStat_ATOMIC.lo (s.get F.aoiCfdCtl_STEER)
  setBits w F.rshStat_MODEL.hi F.rshStat_MODEL.lo s.modelSet

end Sys2Proof.Machine
end

