-- ==== Sys2Proof/Machine/Synth.lean ====
section
/-! DEFINITION. SYN: band search, band memory, lock, the phase monitor, phase steps, alignment, clock outputs and the
event outputs' commands (06_synthesis_outputs.md). -/
namespace Sys2Proof.Machine

/-- TARGET_F in units of 2^-24 Hz. -/
def State.synTarget (s : State) (n : Nat) : Nat := s.get F.synFreq_TARGET_F n

/-- 2^24 Hz · units: a frequency in Hz as TARGET_F counts it. -/
def hz24 (f : Nat) : Nat := f * 16777216

/-- The target lies in the range of the DCO (R265). -/
def targetInRange (tf : Nat) : Bool := decide (hz24 1150000000 ≤ tf) && decide (tf ≤ hz24 1600000000)

/-- The die temperature that band memory goes by: PWR_TEMP.TJ_MAX, in 1/16 °C (DEDUCED: log entry 20). -/
def State.dieTemp (s : State) : Int := s.getI F.pwrTemp_TJ_MAX

/-! ### Band memory (R262, R263) -/

/-- Entry e of an ADPLL matches its key and the temperature window (R262). -/
def State.memHit (s : State) (n e : Nat) : Bool :=
  s.getB F.synMemVal_VALID n e && s.get F.synMemKey_REF_MODE n e == s.get F.synCfg_REF_MODE n &&
    s.get F.synMemKey_TARGET_F n e == s.synTarget n &&
    decide ((s.getI F.synMemVal_TEMP n e - s.dieTemp).natAbs ≤ s.get F.synMemCfg_TEMP_WIN n)

/-- An entry becomes the most recent: rank 0, those of its own or a lower rank one rank further down. -/
def State.memTouch (s : State) (n e : Nat) : State :=
  let r := s.get F.synMemVal_LRU n e
  let down (s : State) (k : Nat) : State :=
    if k ≠ e ∧ s.get F.synMemVal_LRU n k ≤ r then s.put F.synMemVal_LRU (min 15 (s.get F.synMemVal_LRU n k + 1)) n k else s
  ((List.range 16).foldl down s).put F.synMemVal_LRU 0 n e

/-- Where a search stores its result: the entry with the same key, else the entry of highest rank (R263). -/
def State.memSlot (s : State) (n : Nat) : Nat :=
  let same := (List.range 16).find? fun e => s.getB F.synMemVal_VALID n e &&
    s.get F.synMemKey_REF_MODE n e == s.get F.synCfg_REF_MODE n && s.get F.synMemKey_TARGET_F n e == s.synTarget n
  same.getD ((List.range 16).foldl (fun b e => if s.get F.synMemVal_LRU n b < s.get F.synMemVal_LRU n e then e else b) 0)

/-- Store a verified search (R263). -/
def State.memStore (s : State) (n : Nat) : State :=
  let e := s.memSlot n
  let s := s.memTouch n e
  let s := (s.put F.synMemKey_REF_MODE (s.get F.synCfg_REF_MODE n) n e).put F.synMemKey_TARGET_F (s.synTarget n) n e
  let s := (s.put F.synMemVal_BAND (s.get F.synStat_BAND n) n e).put F.synMemVal_FINE (s.get F.synStat_FINE n) n e
  let s := (s.putI F.synMemVal_TEMP s.dieTemp n e).putB F.synMemVal_VALID true n e
  s.setAdpll n { s.adpll n with mem := some e }

/-- Invalidate the entry that the ADPLL hopped to or is locked on. -/
def State.memDrop (s : State) (n : Nat) : State :=
  match (s.adpll n).mem with
  | some e => (s.putB F.synMemVal_VALID false n e).setAdpll n { s.adpll n with mem := none }
  | none => s

/-! ### Clock outputs (R278–R282) -/

/-- An output as SYN holds it. -/
def State.clkOut (s : State) (o : Nat) : ClkOut := tabGet {} s.syn.outs o

/-- EN, ALIGN and SAFE_SQUELCH of OUTo_CFG: what R280 does not hold back to a boundary. -/
abbrev outNow : Nat := 0xc01

/-- An output with the settings that act: the taken ones, and EN, ALIGN and SAFE_SQUELCH as they are written (R280, R282). -/
def State.out' (s : State) (o : Nat) : ClkOut :=
  let m := BitVec.ofNat 64 outNow
  { s.clkOut o with cfg := ((s.clkOut o).cfg &&& ~~~m) ||| (s.rd .outCfg o &&& m) }

/-- The settings of OUTo_CFG and OUTo_DIV keep within the limits of R278. -/
def State.outLimitsOk (s : State) (c : ClkOut) : Bool :=
  let std := bitsOf c.cfg F.outCfg_STD.hi F.outCfg_STD.lo
  let tf := s.synTarget (bitsOf c.cfg F.outCfg_SRC.hi F.outCfg_SRC.lo)
  let n := bitsOf c.div F.outDiv_N.hi F.outDiv_N.lo
  let f := bitsOf c.div F.outDiv_F.hi F.outDiv_F.lo
  let frac := bitsOf c.cfg F.outCfg_FRAC_EN.hi F.outCfg_FRAC_EN.lo == 1
  let lim := if std = 1 then 1600000000 else if std = 2 then 400000000 else 250000000
  let lim := if frac then min lim 400000000 else lim
  let div24 := if frac then n * 16777216 + f else n * 16777216
  n != 0 && (!frac || decide (4 ≤ n)) && (std == 0 || decide (tf ≤ lim * div24))

/-- The conditions of R274, for an output with ALIGN set. -/
def State.outAlignOk (s : State) (c : ClkOut) : Bool :=
  let src := bitsOf c.cfg F.outCfg_SRC.hi F.outCfg_SRC.lo
  let n := bitsOf c.div F.outDiv_N.hi F.outDiv_N.lo
  let per := s.get F.synAlignPer_ALIGN_PER src
  s.get F.synCfg_REF_MODE src == 1 && bitsOf c.cfg F.outCfg_FRAC_EN.hi F.outCfg_FRAC_EN.lo == 0 && per != 0 && n != 0 &&
    262144000000000 % per == 0 && (per * s.synTarget src) % (n * 262144000000000 * 16777216) == 0

/-- An output is aligned: ALIGN set and its conditions met. -/
def State.outAligned (s : State) (o : Nat) : Bool :=
  bitsOf (s.out' o).cfg F.outCfg_ALIGN.hi F.outCfg_ALIGN.lo == 1 && s.outAlignOk (s.out' o)

/-- The output toggles (R279, R281, R282). -/
def State.outRunning (s : State) (o : Nat) : Bool :=
  let c := s.out' o
  let st := s.synState (bitsOf c.cfg F.outCfg_SRC.hi F.outCfg_SRC.lo)
  bitsOf c.cfg F.outCfg_EN.hi F.outCfg_EN.lo == 1 && bitsOf c.cfg F.outCfg_STD.hi F.outCfg_STD.lo != 0 && s.outLimitsOk c &&
    decide (4 ≤ st ∧ st ≤ 6) && s.mode.up &&
    !(s.mode == .safe && bitsOf c.cfg F.outCfg_SAFE_SQUELCH.hi F.outCfg_SAFE_SQUELCH.lo == 1)

/-- The register OUTo_STAT. -/
def State.outStatWord (s : State) (o : Nat) : Nat :=
  let c := s.out' o
  let en := bitsOf c.cfg F.outCfg_EN.hi F.outCfg_EN.lo == 1
  let bad := !s.outLimitsOk c || (bitsOf c.cfg F.outCfg_ALIGN.hi F.outCfg_ALIGN.lo == 1 && !s.outAlignOk c)
  (if bad then 4 else 0) + (if en && !s.outRunning o then 2 else 0) + (if s.outRunning o then 1 else 0)

/-- A level at a ball, or a clock there. -/
inductive PinLevel
  | highZ | low | high | wave | inverse
  deriving DecidableEq, Repr

/-- The balls _P and _N of a clock output (R281, R798). A standard of OFF drives neither (DESIGN CHOICE: log entry 77). -/
def State.outPins (s : State) (o : Nat) : PinLevel × PinLevel :=
  let std := bitsOf (s.out' o).cfg F.outCfg_STD.hi F.outCfg_STD.lo
  let p : PinLevel := if s.outRunning o then .wave else .low
  let n : PinLevel := if s.outRunning o then .inverse else .high
  if !s.mode.up || std == 0 then (.highZ, .highZ) else if std = 3 then (p, .highZ) else (p, n)

/-- The balls _P and _N of an event output (R281, R798); OFF as above. -/
def State.evoPins (s : State) (v : Nat) : PinLevel × PinLevel :=
  let std := s.get F.evoCfg_STD v
  let l (b : Bool) : PinLevel := if b then .high else .low
  let lev := s.getB F.evoStat_LEVEL v
  if !s.mode.up || std == 0 then (.highZ, .highZ) else if std = 3 then (l lev, .highZ) else (l lev, l !lev)

def State.setOut (s : State) (o : Nat) (c : ClkOut) : State :=
  { s with syn := { s.syn with outs := tabSet {} s.syn.outs o c } }

/-- The first instant of the D0 + PHASE_OFS grid of an ADPLL at or after the present, in fine units (R275). -/
def State.nextGrid (s : State) (n : Nat) : Int :=
  let per := Int.ofNat (s.get F.synAlignPer_ALIGN_PER n) * phasePerTick
  let ofs := s.getI F.synPhaseOfs_VALUE n * phasePerTick
  ofs + per * -((ofs - s.domU 0 * phaseFine) / per)

/-- An output starts or stops: an aligned one presets its divider, so that its first rising edge lies on the grid (R275). -/
def State.outFollow (s : State) (o : Nat) : State :=
  let c := s.clkOut o
  let run := s.outRunning o
  if c.on = run then s
  else
    let src := bitsOf c.cfg F.outCfg_SRC.hi F.outCfg_SRC.lo
    s.setOut o { c with on := run, first := if run && s.outAligned o then some (s.nextGrid src) else none }

/-- Every output starts or stops as the ADPLLs and the mode have it. -/
def State.outsFollow (s : State) : State := (List.range 24).foldl (fun s o => s.outFollow o) s

/-- The output takes up the settings of its registers. -/
def State.takeOut (s : State) (o : Nat) : State :=
  (s.setOut o { s.clkOut o with cfg := s.rd .outCfg o, div := s.rd .outDiv o }).outFollow o

/-- CLKOUT_SETTING_APPLY (R280): a rising-edge boundary of a running output. -/
def execClkoutSettingApply (o : Nat) (s : State) : Res := .next (if 24 ≤ o then s else s.takeOut o)

/-- A write of OUTo_CFG or OUTo_DIV: an output that did not run, or stops with it, has no boundary to wait for. -/
def State.outWritten (s : State) (o : Nat) : State :=
  if (s.clkOut o).on && s.outRunning o then s else s.takeOut o

/-! ### Retune (R260–R267) -/

/-- A full search starts: the middle band, fine bank at mid-range. -/
def State.startSearch (s : State) (n : Nat) : State :=
  let s := (s.bump F.synStat_SEARCHES 1 n).put F.synStat_STATE 2 n
  let s := (s.put F.synStat_BAND 128 n).put F.synStat_FINE 0x8000 n
  s.setAdpll n { s.adpll n with bit := 7, mem := none }

/-- A retune begins: a hop where an entry matches, else a search (R262). -/
def State.retune (s : State) (n : Nat) : State :=
  match (List.range 16).find? fun e => s.memHit n e with
  | some e =>
    let s := (s.put F.synStat_BAND (s.get F.synMemVal_BAND n e) n).put F.synStat_FINE (s.get F.synMemVal_FINE n e) n
    (s.setAdpll n { s.adpll n with mem := some e, bit := 8 }).put F.synStat_STATE 1 n
  | none => s.startSearch n

/-- The SYN level sources, the clocks and the outputs, after an ADPLL changed its state. -/
def State.synChanged (s : State) : State := s.clockUpdate.outsFollow

/-- BAND_SEARCH_STEP_END (R260): the count of f_S cycles over 250 µs decides one bit of the band. That a higher band is a
higher frequency is DEDUCED (log entry 20). -/
def execBandSearchStepEnd (n count : Nat) (s : State) : Res :=
  .next (if 8 ≤ n ∨ s.synState n ≠ 2 ∨ 7 < (s.adpll n).bit then s
    else
      let b := (s.adpll n).bit
      let band := s.get F.synStat_BAND n
      let band := if s.synTarget n < count * 4000 * 16777216 then withoutBit band b else band
      if b = 0 then (s.put F.synStat_BAND band n).setAdpll n { s.adpll n with bit := 8 }
      else (s.put F.synStat_BAND (withBit band (b - 1)) n).setAdpll n { s.adpll n with bit := b - 1 })

/-- A verification count of 16 µs passes: within 800 ppm of the target (R261). -/
def State.verifyOk (s : State) (n count : Nat) : Bool :=
  let d : Int := Int.ofNat (count * 62500 * 16777216) - Int.ofNat (s.synTarget n)
  decide (d.natAbs * 1000000 ≤ 800 * s.synTarget n)

/-- BAND_VERIFY_END (R261, R263, R265, R267). -/
def execBandVerifyEnd (n count : Nat) (s : State) : Res :=
  .next (if 8 ≤ n ∨ (s.adpll n).bit ≠ 8 then s
    else if s.synState n = 1 then
      if s.verifyOk n count then
        let s := (s.putB F.synStat_HIT true n).put F.synStat_STATE 3 n
        match (s.adpll n).mem with
        | some e => s.memTouch n e
        | none => s
      else (s.memDrop n).startSearch n
    else if s.synState n = 2 then
      let s := s.putB F.synStat_HIT false n
      if s.verifyOk n count && targetInRange (s.synTarget n) then (s.put F.synStat_STATE 3 n).memStore n
      else (s.put F.synStat_STATE 7 n).synChanged
    else s)

/-- LOCK_WAIT_EXPIRE (R266, R267): the phase that a retuned ADPLL locks at is a free value. -/
def execLockWaitExpire (n : Nat) (s : State) : Res :=
  .next (if 8 ≤ n ∨ (s.synState n ≠ 3 ∧ s.synState n ≠ 6) then s
    else
      let fresh := s.synState n == 3
      let s' := if fresh then s.draw.2 else s
      let a := s'.adpll n
      let ph := if fresh then Int.ofNat s.draw.1 else a.phase
      ((s'.setAdpll n { a with phase := ph, pm0 := ph, edges := 0, slewed := 0, tripped := false }).put F.synStat_STATE 4 n).synChanged)

/-- Fine phase units in one second, as TARGET_F counts frequency. -/
abbrev phaseSec : Int := phasePerTick * 262144000000000 * 16777216

/-- The whole f_S cycles that the target phase has advanced since the monitor started (R268). -/
def State.pmonExpected (s : State) (n : Nat) : Int :=
  let a := s.adpll n
  match s.get F.synCfg_REF_MODE n with
  | 3 => 1250000
  | 2 =>
    let nom := s.get F.inNom_NOM_FREQ (s.get F.synCfg_REFIN n)
    let den := if nom = 0 then 1 else nom * 256
    (Int.ofNat (a.edges * s.synTarget n) * phaseSec - a.slewed * Int.ofNat (s.synTarget n * den)) / (Int.ofNat den * phaseSec)
  | _ => (a.phase - a.pm0) * Int.ofNat (s.synTarget n) / phaseSec

/-- PHASE_MONITOR_COMPARE (R268): `count` is the f_S cycles counted since the monitor started; for SYN0 the CLK_TSE cycles of
1 ms of oscillator edges. -/
def execPhaseMonitorCompare (n count : Nat) (s : State) : Res :=
  .next (if 8 ≤ n ∨ s.synState n ≠ 4 then s
    else
      let d := Int.ofNat count - s.pmonExpected n
      let s := s.putI F.synPmon_DIFF (satInt 32 d) n
      if d.natAbs ≤ max 2 (s.get F.synPmon_PMON_TOL n) then s
      else
        let s := (s.putB F.synStat_FL_SEEN true n).memDrop n
        let s := s.setAdpll n { s.adpll n with tripped := true }
        (if s.getB F.synCfg_AUTO_RELOCK n then s.startSearch n else s.put F.synStat_STATE 7 n).synChanged)

/-! ### Alignment (R275–R277) -/

/-- ALIGN_ERR of an ADPLL in fine phase units: its edge grid against D0 + PHASE_OFS, modulo ALIGN_PER. -/
def State.alignErr (s : State) (n : Nat) : Int :=
  let per := Int.ofNat (s.get F.synAlignPer_ALIGN_PER n) * phasePerTick
  let e := (s.domU 0 * phaseFine - ((s.adpll n).phase + (s.adpll n).grid) - s.getI F.synPhaseOfs_VALUE n * phasePerTick) % per
  if 2 * e < per then e else e - per

/-- Whole ticks of fine phase units. -/
def phaseTicks (x : Int) : Int := x / phasePerTick

/-- Show PSTEP_REM: rounded away from zero, so that it reads zero only when nothing is left. -/
def State.showRem (s : State) (n : Nat) : State :=
  let r := (s.adpll n).rem
  s.putI F.synPstepRem_VALUE (satInt 64 (awayDiv r (343597383680 * 9765625))) n

/-- Add fine phase units to PSTEP_REM. -/
def State.addRem (s : State) (n : Nat) (x : Int) : State :=
  (s.setAdpll n { s.adpll n with rem := (s.adpll n).rem + x }).showRem n

/-- ALIGN_ERR_COMPUTE (R275, R277). ALIGN_PER of 0 leaves no grid: the value is free. -/
def execAlignErrCompute (n : Nat) (s : State) : Res :=
  .next (if 8 ≤ n ∨ s.get F.synCfg_REF_MODE n ≠ 1 ∨ s.synState n < 4 ∨ 6 < s.synState n then
      { s with tse := { s.tse with d0Moved := withoutBit s.tse.d0Moved n } }
    else
      let zero := s.get F.synAlignPer_ALIGN_PER n == 0
      let e := if zero then Int.ofNat s.draw.1 else s.alignErr n
      let s := if zero then s.draw.2 else s
      let t := phaseTicks e
      let moved := bitOf s.tse.d0Moved n
      let was := s.getB F.synStat_MISALIGNED n
      let s := { s with tse := { s.tse with d0Moved := withoutBit s.tse.d0Moved n } }
      let s := (s.putI F.synAlignErr_VALUE t n).putB F.synStat_MISALIGNED (t != 0) n
      if moved && !was && t != 0 && s.getB F.synCfg_AUTO_ALIGN n then s.addRem n (-t * phasePerTick) else s)

/-! ### Register writes with a rule of their own (R256, R268, R272, R285) -/

/-- FOLLOW_LIM clamped: 0 to 500 ppm, for SYN1 to 50 ppm. -/
def followClamp (n v : Nat) : Nat := min v (if n = 1 then 500000 else 5000000)

/-- A write of SYNn_LIMITS: values outside their range take the nearest limit and set CFG_ERR. -/
def State.synLimitsWritten (s : State) (n : Nat) : State :=
  let fl := s.get F.synLimits_FOLLOW_LIM n
  let ps := s.get F.synLimits_PSLEW_MAX n
  let fl' := followClamp n fl
  let ps' := clampNat 1 1000000 ps
  ((s.put F.synLimits_FOLLOW_LIM fl' n).put F.synLimits_PSLEW_MAX ps' n).putB F.synStat_CFG_ERR (fl != fl' || ps != ps') n

/-- A write of SYNn_PMON: PMON_TOL is at least 2. -/
def State.synPmonWritten (s : State) (n : Nat) : State := s.put F.synPmon_PMON_TOL (max 2 (s.get F.synPmon_PMON_TOL n)) n

/-- The delay in use of an EVO: EVOv_DELAY held to its range (R285). -/
def State.evoDelay (s : State) (v : Nat) : Nat := min 5242880 (s.get F.evoDelay_DELAY v)

/-- A write of EVOv_DELAY. -/
def State.evoDelayWritten (s : State) (v : Nat) : State :=
  s.putB F.evoCfg_CFG_ERR (decide (5242880 < s.get F.evoDelay_DELAY v)) v

/-- The interpolator step in which the present cycle begins: 1,024 steps of 204.8 ticks per cycle. -/
def State.cycStep (s : State) : Int := Int.ofNat (s.tse.cyc * 1024)

/-- An EVO takes a level at a placement; no transition where it has it already. -/
def State.evoDrive (s : State) (v : Nat) (level : Bool) (t : Int) : State :=
  if s.getB F.evoStat_LEVEL v = level then s
  else
    let s := (s.putB F.evoStat_LEVEL level v).emit (.evoEdge v level t)
    { s with syn := { s.syn with evoLast := tabSet none s.syn.evoLast v (some t) } }

/-- An EVO is driven to IDLE_LEVEL, after the edges already fired. -/
def State.evoIdle (s : State) (v : Nat) : State :=
  let last := (tabGet none s.syn.evoLast v).getD s.cycStep
  s.evoDrive v (s.getB F.evoCfg_IDLE_LEVEL v) (if last < s.cycStep then s.cycStep else last)

/-- A write of EVOv_CFG: an output that is disabled stands at IDLE_LEVEL; before the end of BOOT it is not driven (R281). -/
def State.evoCfgWritten (s : State) (v : Nat) : State := if s.getB F.evoCfg_EN v || !s.mode.up then s else s.evoIdle v

/-- Every EVO is driven to IDLE_LEVEL (R288). -/
def State.evoAllIdle (s : State) : State := (List.range 8).foldl (fun s v => s.evoIdle v) s

/-! ### Commands (R292–R295) -/

/-- The arguments of SYN_CFG that are refused with BAD_ARG. -/
def State.synCfgBad (s : State) (n tf mode refin bw lockWait : Nat) : Bool :=
  n == 0 || decide (8 ≤ n) || decide (2 < mode) || decide (2 ^ 56 ≤ tf) || decide (4 < bw) || decide (lockWait < 50) ||
    decide (100000 < lockWait) || (n == 1 && (tf != hz24 1250000000 || decide (1 < mode))) ||
    (mode == 2 && (decide (24 ≤ refin) || s.getB F.inCfg_TYPE refin))

/-- What SYN_CFG does (R267, R293). -/
def State.synCfg (s : State) (n tf mode refin bw lockWait fl : Nat) : State :=
  let st := s.synState n
  let sameF := tf == s.synTarget n
  let mode0 := s.get F.synCfg_REF_MODE n
  -- of SYN1 only the reference mode and the follow limit are configured (R254)
  let s := if n = 1 then s else (s.put F.synCfg_BW bw n).put F.synCfg_LOCK_WAIT lockWait n
  let s := s.put F.synLimits_FOLLOW_LIM (followClamp n fl) n
  let s := if fl = followClamp n fl then s else s.putB F.synStat_CFG_ERR true n
  if st ≠ 0 ∧ sameF ∧ mode = mode0 then s
  else
    let s := (s.put F.synFreq_TARGET_F tf n).put F.synCfg_REF_MODE mode n
    let s := if mode = 2 then s.put F.synCfg_REFIN refin n else s
    if st ≠ 0 ∧ sameF ∧ mode ≤ 1 ∧ mode0 ≤ 1 then s.putB F.synStat_MISALIGNED true n
    else (s.retune n).synChanged

def execSynCfg (c : Caller) (n tf mode refin bw lockWait fl : Nat) (s : State) : Res :=
  .next (s.runCmd c 0x50
    [notOwner s c, (s.synCfgBad n tf mode refin bw lockWait || decide (2 ^ 32 ≤ fl), .badArg),
     (s.synState n == 1 || s.synState n == 2 || s.synState n == 3, .busy)]
    (s.synCfg n tf mode refin bw lockWait fl))

/-- LOCKED, HOLD or RELOCK. -/
def State.synRuns (s : State) (n : Nat) : Bool := decide (4 ≤ s.synState n ∧ s.synState n ≤ 6)

def execSynPstep (c : Caller) (n : Nat) (ticks : Int) (s : State) : Res :=
  .next (s.runCmd c 0x51
    [notOwner s c, (decide (n ≤ 1) || decide (8 ≤ n) || !fits64 ticks, .badArg), (!s.synRuns n, .busy)]
    ((s.putI F.synPhaseOfs_VALUE (s.getI F.synPhaseOfs_VALUE n + ticks) n).addRem n (ticks * phasePerTick)))

/-- SYN_ALIGN with METHOD JUMP (R276): whole f_S periods lengthen the aligned outputs, the rest is slewed. -/
def State.synJump (s : State) (n : Nat) : State :=
  let tf := Int.ofNat (max 1 (s.synTarget n))
  let a := -(s.getI F.synAlignErr_VALUE n) * phasePerTick
  -- one f_S period is 2^24 · 262,144 · 10^9 / TARGET_F ticks
  let k := a * tf / phaseSec
  let whole := k * phaseSec / tf
  let s := (s.setAdpll n { s.adpll n with grid := (s.adpll n).grid - whole }).addRem n (a - whole)
  (List.range 24).foldl (fun s o =>
    let div := Int.ofNat (bitsOf (s.out' o).div F.outDiv_N.hi F.outDiv_N.lo)
    if s.outRunning o && s.outAligned o && bitsOf (s.out' o).cfg F.outCfg_SRC.hi F.outCfg_SRC.lo == n && div != 0 && k % div != 0 then
      s.emit (.clkStretch o (k % div).toNat)
    else s) s

def execSynAlign (c : Caller) (n method : Nat) (s : State) : Res :=
  .next (s.runCmd c 0x52
    [notOwner s c, (decide (n ≤ 1) || decide (8 ≤ n) || decide (1 < method) || s.get F.synCfg_REF_MODE n != 1, .badArg),
     (!s.synRuns n, .busy)]
    (if method = 0 then s.addRem n (-(s.getI F.synAlignErr_VALUE n) * phasePerTick) else s.synJump n))

def execSynMemClear (c : Caller) (n : Nat) (s : State) : Res :=
  .next (s.runCmd c 0x53 [notOwner s c, (n == 0 || decide (8 ≤ n), .badArg)]
    ((List.range 16).foldl (fun s e => s.putB F.synMemVal_VALID false n e) s))

def execSynOff (c : Caller) (n : Nat) (s : State) : Res :=
  .next (s.runCmd c 0x54 [notOwner s c, (decide (n ≤ 1) || decide (8 ≤ n), .badArg)]
    (((s.put F.synStat_STATE 0 n).putB F.synStat_FOLLOW_SAT false n).synChanged))

/-- EVO_LEAD in ticks (R283). -/
abbrev evoLead : Nat := 10485760

/-- The instant lies at or before the domain's value (R90). -/
def State.isPast (s : State) (dom inst : Nat) : Bool := decide (Int.ofNat inst ≤ s.ticks dom)

/-- The arguments of SYN_EVO_ARM that are refused with BAD_ARG (R290). -/
def State.evoArmBad (s : State) (v dom : Nat) (e0 : TimeVal) (per width pol lateOk : Nat) : Bool :=
  decide (8 ≤ v) || decide (32 ≤ dom) || !tvOk e0 || decide (2 ^ 63 ≤ per) || decide (1 < pol) || decide (1 < lateOk) ||
    (per != 0 && decide (per < 26214400)) || decide (width < 1048576) || (per != 0 && decide (per < width + 1048576)) ||
    decide (2 ^ 63 ≤ width) || decide (tvTicks e0 < evoLead) || (s.dom dom).st == .off

/-- Two slots are free to a partition. -/
def State.twoSlots (s : State) (p : Nat) : Option (Nat × Nat) :=
  if s.almUsed p + 2 ≤ s.get F.tseAlmQuota_QUOTA p then
    match freeSlotFrom s 4096 8 with
    | none => none
    | some a => (freeSlotFrom s 4096 (a + 1)).map fun b => (a, b)
  else none

/-- Release both slots of an EVO, where the alarms in them are still those of SYN_EVO_ARM (R294). -/
def State.evoRelease (s : State) (v : Nat) : State :=
  let off (s : State) (k seq : Nat) : State := if s.evoOwns k seq then s.releaseSlot k else s
  off (off s (s.get F.evoSlots_LEAD_SLOT v) (s.evoSeqs v).1) (s.get F.evoSlots_TRAIL_SLOT v) (s.evoSeqs v).2

/-- What SYN_EVO_ARM does (R290). -/
def State.evoArm (s : State) (v dom e0 per width pol : Nat) (lateOk : Bool) (slots : Nat × Nat) : State :=
  let i0 := e0 - evoLead
  let i1 := e0 + width - evoLead
  let n := s.tse.seq
  let s := s.armSlot slots.1 0 dom i0 .evoEdge (v + 256 * pol) per lateOk (s.isPast dom i0)
  let s := s.armSlot slots.2 0 dom i1 .evoEdge (v + 256 * (1 - pol)) per lateOk (s.isPast dom i1)
  let s := { s with syn := { s.syn with evoSeq := tabSet (0, 0) s.syn.evoSeq v (n, n + 1) } }
  (s.put F.evoSlots_LEAD_SLOT slots.1 v).put F.evoSlots_TRAIL_SLOT slots.2 v

def execSynEvoArm (c : Caller) (v dom : Nat) (e0 : TimeVal) (per width pol lateOk : Nat) (s : State) : Res :=
  .next (s.runCmd c 0x55
    [notOwner s c, (s.evoArmBad v dom e0 per width pol lateOk, .badArg),
     domFree s dom, (s.evoArmed v || s.twoSlots 0 == none, .busy),
     (lateOk == 0 && s.isPast dom (tvTicks e0 - evoLead), .late)]
    (s.evoArm v dom (tvTicks e0) per width pol (lateOk == 1) ((s.twoSlots 0).getD (0, 0))))

/-- An edge of an EVO is due in the present cycle. -/
def State.evoDue (s : State) (v : Nat) : Bool := s.tse.due.any fun d => d.al.kind == AlarmKind.evoEdge && d.al.target % 8 == v

/-- A disarmed EVO goes to IDLE_LEVEL, after an edge that is due and still fires (R294). -/
def State.evoParkOrIdle (s : State) (v : Nat) : State :=
  if s.evoDue v then { s with syn := { s.syn with evoPark := withBit s.syn.evoPark v } } else s.evoIdle v

def execSynEvoDisarm (c : Caller) (v : Nat) (s : State) : Res :=
  .next (s.runCmd c 0x56 [notOwner s c, (decide (8 ≤ v), .badArg)]
    (if s.evoArmed v then (s.evoRelease v).evoParkOrIdle v else s))

/-! ### Event output edges (R284–R288) -/

/-- The rate of a domain in the present cycle, relative to nominal in units of 2^-56: FOFF and slew, through the parents of a
DERIVED domain (R284). -/
def rateAux (s : State) : Nat → Nat → Int
  | 0, _ => 0
  | f + 1, n =>
    let d := s.dom n
    if d.kind = .derived then rateAux s f d.parent + slewStep d else d.foff + slewStep d

/-- FOFF + s of a domain in the present cycle. -/
def State.domRate (s : State) (n : Nat) : Int := rateAux s 32 n

/-- The fused pad delay of an EVO in its standard, at most 4 ns (R284). -/
def State.evoFused (s : State) (v : Nat) : Nat := min 1048576 (Config.fusePadDelay v (s.get F.evoCfg_STD v))

/-- The delay of an edge from the start of the firing cycle, in interpolator steps of 204.8 ticks (R284). -/
def State.evoPlace (s : State) (v dom lat : Nat) : Int :=
  let den := 2 ^ 56 + s.domRate dom
  let fixed := Int.ofNat (s.evoFused v + s.evoDelay v)
  roundDiv (((Int.ofNat evoLead - Int.ofNat lat) * 2 ^ 56 - fixed * den) * 5) (den.toNat * 1024)

/-- An EVO emits edges in the present mode (R288). -/
def State.evoEmits (s : State) (v : Nat) : Bool :=
  s.getB F.evoCfg_EN v &&
    match s.mode with
    | .track | .holdover | .steer | .standby | .service => true
    | .acquire | .freerun => s.getB F.evoCfg_UNTRACED_OK v
    | _ => false

/-- An EVO_EDGE alarm fires (R284, R286–R288); `last` says that no later alarm of the EVO is due in the cycle. -/
def State.evoFire (s : State) (d : Due) (last : Bool) : State :=
  let v := d.al.target % 8
  let level := bitOf d.al.target 8
  if !s.evoEmits v then s.bump F.evoStat_SUPPRESSED 1 v
  else if !last then s.bump F.evoStat_MERGED 1 v
  else
    let late := decide (209716 ≤ d.lat)
    let s := if late then (s.bump F.evoStat_LATE 1 v).pulse 23 0 (0x10 + v) else s
    if s.getB F.evoStat_LEVEL v = level then s
    else
      let t := s.cycStep + s.evoPlace v d.al.dom (if late then 0 else d.lat)
      match tabGet none s.syn.evoLast v with
      | some t0 =>
        if t < t0 + 5120 then
          (if late then s else (s.bump F.evoStat_LATE 1 v).pulse 23 0 (0x10 + v)).evoDrive v level (t0 + 5120)
        else s.evoDrive v level t
      | none => s.evoDrive v level t

/-- After the last edge due, an EVO that was disarmed meanwhile goes to IDLE_LEVEL (R294). -/
def State.evoParked (s : State) (v : Nat) (last : Bool) : State :=
  if last && bitOf s.syn.evoPark v then { s with syn := { s.syn with evoPark := withoutBit s.syn.evoPark v } }.evoIdle v else s

/-! ### One CLK_TSE cycle (R255, R256, R271) -/

/-- D0's rate as an ADPLL follows it: clamped to FOLLOW_LIM (R256). -/
def State.followRate (s : State) (n : Nat) : Int :=
  if s.get F.synCfg_REF_MODE n = 1 then
    let lim := Int.ofNat (s.get F.synLimits_FOLLOW_LIM n) * 2 ^ 56 / 10000000000
    clampInt (-lim) lim (s.domRate 0)
  else 0

/-- One cycle of one ADPLL: its target phase advances, and its remaining phase step is slewed. -/
def State.synCycle (s : State) (n : Nat) : State :=
  if s.synState n = 0 then s
  else
    let a := s.adpll n
    let r := s.followRate n
    let m0 := Int.ofNat (min (s.get F.synLimits_PSLEW_MAX n * 2 ^ 46) a.rem.natAbs)
    let m := if a.rem < 0 then -m0 else m0
    let adv := if s.synState n = 5 then 0 else (Int.ofNat Config.nomAdvance + r) * phaseFine
    let s := s.setAdpll n { a with phase := a.phase + adv - m, rem := a.rem - m, slewed := a.slewed + m }
    let s := if m = 0 then s else s.showRem n
    let sat := s.get F.synCfg_REF_MODE n == 1 && s.domRate 0 != r
    if s.getB F.synStat_FOLLOW_SAT n = sat then s else s.putB F.synStat_FOLLOW_SAT sat n

/-- One cycle of SYN1 to SYN7. -/
def State.synAllCycle (s : State) : State := [1, 2, 3, 4, 5, 6, 7].foldl (fun s n => s.synCycle n) s

end Sys2Proof.Machine
end

