-- ==== Sys2Proof/Machine/Alarms.lean ====
section
/-! DEFINITION. Arming and cancelling alarms for partitions: ALM_ARM, ALM_CANCEL and what TEMIT shares with them (R88–R95, R103,
R289, R321–R323, R689, R817, R818). -/
namespace Sys2Proof.Machine

/-- The alarm kind of a code that a partition may arm (R88). -/
def armKind : Nat → Option AlarmKind
  | 1 => some .evoEdge
  | 2 => some .emuOpen
  | 3 => some .emuClose
  | 4 => some .tsvEmit
  | 6 => some .tallySnap
  | 7 => some .dsqWake
  | 8 => some .slwClose
  | 10 => some .hostInt
  | 11 => some .qput
  | _ => none

/-- The code of a kind (R88). -/
def AlarmKind.code : AlarmKind → Nat
  | .none => 0 | .evoEdge => 1 | .emuOpen => 2 | .emuClose => 3 | .tsvEmit => 4 | .escrowCommit => 5 | .tallySnap => 6
  | .dsqWake => 7 | .slwClose => 8 | .leap => 9 | .hostInt => 10 | .qput => 11 | .servoClose => 12

/-- The partition to which a tally bank belongs; none for a reserved bank and for the empty bank of a lane that leads no
port (R681). -/
def State.bankPart (s : State) (b : Nat) : Option Nat :=
  if b < 64 then (if s.leads b then some (s.get F.portCfg_PART b) else none)
  else if b < 72 then some (b - 64)
  else if b = 72 then some 0
  else if 128 ≤ b ∧ b < 192 then some (s.get F.tbCfg_PART (b - 128))
  else none

/-- The target bits that R88 reserves for a kind are clear, and a snapshot scope is one of R689 (log entry 29). -/
def State.targetOk (s : State) (k : AlarmKind) (t : Nat) : Bool :=
  match k with
  | .evoEdge => t % 256 < 8 && t < 512
  | .emuOpen | .emuClose => t < 32
  | .tsvEmit => t % 256 < 64 && t < 4096
  | .tallySnap => t == 0xfffe || t == 0xffff || (t < 256 && (s.bankPart t).isSome)
  | .dsqWake => t < 128
  | .slwClose => t < 64
  | .hostInt => t < 2048
  | .qput => t < 256
  | _ => false

/-- The target belongs to another partition than p (R289, R323, R689; log entry 29). -/
def State.targetDenied (s : State) (k : AlarmKind) (t p : Nat) : Bool :=
  match k with
  | .evoEdge | .emuOpen | .emuClose => p != 0
  | .tsvEmit => s.get F.svcCfg_PART (t % 64) != p
  | .tallySnap => if t = 0xfffe then p != 0 else t != 0xffff && s.bankPart t != some p
  | .dsqWake => s.thrPart t != p
  | .slwClose => s.get F.portCfg_PART t != p
  | .qput => s.get F.qCfg_PART t != p
  | _ => false

/-- The late policy of an arming: DSQ_WAKE always fires (R88). -/
def armFires (k : AlarmKind) (policy : Nat) : Bool := k == .dsqWake || policy == 1

/-- The instant that a slot stores: an edge's less EVO_LEAD (R283). -/
def storedInst (k : AlarmKind) (t : Nat) : Nat := if k = .evoEdge then t - evoLead else t

/-- Kinds refused in SAFE and SEALED (R104). -/
def State.kindRefused (s : State) (kind : Nat) : Bool := s.fatalMode && (kind == 1 || kind == 4 || kind == 8)

/-- The checks of an arming by partition p that do not concern the slot (R93, R103, R817). -/
def State.armChecks (s : State) (p dom inst kind target period policy : Nat) : List (Bool × Status) :=
  let k := (armKind kind).getD .none
  [(armKind kind == none || decide (32 ≤ dom) || decide (2 ^ 64 ≤ period) || decide (1 < policy), .badArg),
   (!s.targetOk k target || (period != 0 && decide (period < 26214400)), .badArg),
   (k == .evoEdge && decide (inst < evoLead), .badArg), ((s.dom dom).st == .off, .badArg),
   (dom != 0 && (s.dom dom).owner != p, .partitionDenied), (s.targetDenied k target p, .partitionDenied)]

/-- The checks of the slot that an arming names (R818, R35). -/
def State.slotChecks (s : State) (p slot : Nat) : List (Bool × Status) :=
  [(decide (4096 ≤ slot), .badArg), (decide (slot < 8), .partitionDenied),
   (s.slotHeld slot && s.slotPart slot != p, .partitionDenied), (!s.slotHeld slot && !s.quotaLeft p, .busy)]

/-- The instant has passed under the policy REFUSE (R90). -/
def State.armLate (s : State) (dom inst kind policy : Nat) : Bool × Status :=
  let k := (armKind kind).getD .none
  (!armFires k policy && s.isPast dom (storedInst k inst), .late)

/-- Arm an alarm that has passed its checks. -/
def State.armAlarm (s : State) (slot p dom inst kind target period policy : Nat) : State :=
  let k := (armKind kind).getD .none
  let s := if (s.alarm slot).st = .armed ∧ !s.isDue slot then s.reopenEscrow (s.alarm slot) else s
  s.armSlot slot p dom (storedInst k inst) k target period (armFires k policy) (s.isPast dom (storedInst k inst))

def execAlmArm (c : Caller) (slot dom : Nat) (t : TimeVal) (kind target period policy : Nat) (s : State) : Res :=
  let p := s.cPart c
  .next (s.runRsh c 0x18 (!s.kindRefused kind)
    ([(!tvOk t, .badArg)] ++ s.armChecks p dom (tvTicks t) kind target period policy ++ s.slotChecks p slot ++
      [s.armLate dom (tvTicks t) kind policy])
    (s.armAlarm slot p dom (tvTicks t) kind target period policy) (beBytes 2 slot))

/-- ALM_CANCEL comes too late: the alarm of the slot is due in this cycle, or has fired in it or before (R95, R818). -/
def State.cancelsLate (s : State) (p slot : Nat) : Bool :=
  (s.alarm slot).part == p && (s.alarm slot).kind != .none &&
    (s.isDue slot || (s.alarm slot).st == .fired || s.tse.firedNow.contains (s.alarm slot).seq)

/-- ALM_CANCEL (R95, R818). LATE leaves CANCEL_LATE behind. -/
def execAlmCancel (c : Caller) (slot : Nat) (s : State) : Res :=
  let p := s.cPart c
  .next (
    if s.served && s.legal 0x19 && decide (8 ≤ slot) && decide (slot < 4096) && s.cancelsLate p slot then
      (s.setAlarm slot { s.alarm slot with cancelLate := true }).complete c 0x19 .late
    else
      s.runCmd c 0x19
        [(decide (4096 ≤ slot), .badArg), (decide (slot < 8), .partitionDenied),
         (s.slotHeld slot && s.slotPart slot != p, .partitionDenied), ((s.alarm slot).st != .armed, .badArg)]
        (((s.setAlarm slot { s.alarm slot with cancelLate := false }).cancelSlot slot).reopenEscrow (s.alarm slot)))

end Sys2Proof.Machine
end

