-- ==== Sys2Proof/Machine/Clocks.lean ====
section
/-! DEFINITION. PWR: oscillator proof, the fallback to IRC, source switches, trimming, clock gates, the frequency counter, power
levels, temperature and wear (17_clocks_power_wear.md). -/
namespace Sys2Proof.Machine

/-! ### Proof and monitors (R749, R750) -/

/-- Oscillator k: 0 SYSXO, 1 the AOI return, 2 IRC. -/
def State.osc (s : State) (k : Nat) : Osc := if k = 0 then s.pwr.sysxo else if k = 1 then s.pwr.aoi else s.pwr.irc

def State.setOsc (s : State) (k : Nat) (o : Osc) : State :=
  if k = 0 then s.setPwr { s.pwr with sysxo := o } else if k = 1 then s.setPwr { s.pwr with aoi := o }
  else s.setPwr { s.pwr with irc := o }

/-- Proof count and window of an oscillator (R749). -/
def oscProof (k : Nat) : Nat := if k = 0 then 262144 else if k = 1 then 65536 else 4096
def oscLow (k : Nat) : Nat := if k = 0 then 1250 else if k = 1 then 230 else 2200
def oscHigh (k : Nat) : Nat := if k = 0 then 2300 else if k = 1 then 420 else 4400

/-- SYSXO is lost as REF_SYS: IRC takes its place; the PLLs on it lose their proof, CD_CORE and CD_DDR are held (R754, R755). -/
def State.refSysLost (s : State) : State :=
  if s.getB F.pwrClkStat_REF_SYS then s
  else
    let s := (s.putB F.pwrClkStat_REF_SYS true).bump F.pwrClkCnt_SWITCHES 1
    let onPll := s.pwr.core.src == .cpllA || s.pwr.core.src == .cpllB || s.pwr.core.goal == some .cpllA ||
      s.pwr.core.goal == some .cpllB
    let s := s.setPwr { s.pwr with cpllA := {}, cpllB := {}, dpll := {},
                                   ddr := if s.pwr.ddr.src = .dpll then { src := .stopped } else { s.pwr.ddr with goal := none },
                                   ddrHeld := s.pwr.ddrHeld || s.pwr.ddr.src == .dpll }
    (if onPll then s.coreToIrc true else s).startLocks

/-- IRC is lost: what runs on it is held and waits for it (R751, R757, R758). -/
def State.ircLost (s : State) : State :=
  let p := s.pwr
  let onIrc := p.core.src == .irc || p.core.goal == some .irc || (p.cpllA.onIrc && p.core.src == .cpllA) ||
    (p.cpllB.onIrc && p.core.src == .cpllB)
  let s := s.setPwr { p with
    irc := { p.irc with run := true },
    cpllA := if p.cpllA.onIrc then {} else p.cpllA, cpllB := if p.cpllB.onIrc then {} else p.cpllB,
    dpll := if p.dpll.onIrc then {} else p.dpll,
    ddr := if p.dpll.onIrc ∧ p.ddr.src = .dpll then { src := .stopped } else p.ddr,
    ddrHeld := p.ddrHeld || (p.dpll.onIrc && p.ddr.src == .dpll) }
  let s := if onIrc then s.coreToIrc true else s
  if p.sup.src = .irc ∨ p.sup.goal = some .irc then s.supToIrc true else s

/-- A monitor trips: the oscillator is unproven and its counter restarts (R750). -/
def State.oscTrip (s : State) (k : Nat) (stopped : Bool) : State :=
  let o := s.osc k
  let s := s.setOsc k { run := !stopped, edge := !stopped && o.edge }
  let s := if k = 0 then (s.bump F.pwrClkCnt_SYSXO_TRIPS 1).refSysLost
           else if k = 2 then (s.bump F.pwrClkCnt_IRC_TRIPS 1).ircLost else s
  s.clockUpdate

/-- The domains that wait for IRC switch to it (R755, R758). -/
def State.ircProven (s : State) : State :=
  if !s.pwr.ircWait then s
  else
    let p := s.pwr
    s.setPwr { p with
      ircWait := false,
      core := if p.core.src = .stopped ∧ p.core.goal = none then { src := .stopped, goal := some .irc } else p.core,
      sup := if p.sup.src = .stopped ∧ p.sup.goal = none then { src := .stopped, goal := some .irc } else p.sup }

/-- An oscillator is proven. -/
def State.oscProven (s : State) (k : Nat) : State :=
  (if k = 2 then s.ircProven else s).startLocks.clockUpdate

/-- OSC_STABILITY_COMPARE (R749): `n` oscillator cycles since the previous AON edge, or since the start. The edge has come, so
AON_FAIL no longer holds (DEDUCED, log entry 83). -/
def execOscStabilityCompare (k n : Nat) (s : State) : Res :=
  let s := s.putB F.pwrClkStat_AON_FAIL false
  .next (if 3 ≤ k ∨ (k = 2 ∧ !s.pwr.irc.run) then s
    else
      let o := s.osc k
      let o := { o with run := true }
      if !o.edge then s.setOsc k { o with edge := true, cnt := o.cnt + n }
      else if n < oscLow k ∨ oscHigh k < n then
        if o.proven then (if 1 ≤ o.bad then s.oscTrip k false else s.setOsc k { o with bad := o.bad + 1, cnt := 0 })
        else s.setOsc k { o with cnt := 0, passed := false }
      else
        let o := { o with cnt := o.cnt + n, passed := true, bad := 0 }
        if o.proven || decide (o.cnt < oscProof k) then s.setOsc k o
        else (s.setOsc k { o with proven := true }).oscProven k)

/-- OSC_EDGE_TIMEOUT (R750). -/
def execOscEdgeTimeout (k : Nat) (s : State) : Res :=
  .next (if 3 ≤ k ∨ !(s.osc k).proven then s else s.oscTrip k true)

/-- AON_FAIL (R749). -/
def execAonFail (s : State) : Res :=
  .next (if s.pwr.sysxo.proven || s.pwr.aoi.proven || s.pwr.irc.proven then s.putB F.pwrClkStat_AON_FAIL true else s)

/-! ### The DVFS sequencer (R766–R768) -/

/-- The effective target (R766). -/
def State.dvfsTarget (s : State) : Nat :=
  max (s.get F.pwrDvfs_TARGET) (max (if s.pwr.tjWarn then s.get F.pwrDvfs_THERM_CAP else 0) (if s.fatalMode then 3 else 0))

/-- STATE of PWR_DVFS; FAIL stays until the next successful change (R767). -/
def State.dvfsShow (s : State) (v : Nat) : State := if s.get F.pwrDvfs_STATE = 4 then s else s.put F.pwrDvfs_STATE v

/-- The VOUT_COMMAND code of a level. -/
def State.vcode (s : State) (l : Nat) : Nat :=
  if l = 0 then s.get F.pwrPmbVcode_P0 else if l = 1 then s.get F.pwrPmbVcode_P1
  else if l = 2 then s.get F.pwrPmbVcode_P2 else s.get F.pwrPmbVcode_P3

def State.setDvfs (s : State) (d : DvfsStep) : State := s.setPwr { s.pwr with dvfs := d }

/-- VOUT_COMMAND with the new level's code (R769). -/
def State.dvfsVout (s : State) (d : DvfsStep) : State :=
  ((s.setDvfs d).dvfsShow 1).emit (.pmbus 0x21 (s.vcode s.pwr.dvfsTo))

/-- CD_CORE is to switch to the idle CPLL at the new frequency. -/
def State.dvfsSwitch (s : State) (d : DvfsStep) : State :=
  let s := (s.setDvfs d).dvfsShow 2
  if s.idlePll.proven ∧ s.idlePll.level = s.pwr.dvfsTo then
    s.setPwr { s.pwr with core := { s.pwr.core with goal := some s.idleSrc } }
  else s

/-- CD_CORE runs on a CPLL and is not being switched. -/
def State.coreOnPll (s : State) : Bool := (s.pwr.core.src == .cpllA || s.pwr.core.src == .cpllB) && s.pwr.core.goal == none

/-- Start a change where the effective target asks for one (R766, R768). A change that failed is not begun again before the
target changes (log entry 21). -/
def State.dvfsPoll (s : State) : State :=
  let t := s.dvfsTarget
  let cur := s.get F.pwrDvfs_CUR
  if s.pwr.dvfs ≠ .none then s
  else if t = cur then (if s.get F.pwrDvfs_STATE = 3 then s.put F.pwrDvfs_STATE 0 else s)
  else if s.get F.pwrDvfs_STATE = 4 ∧ t = s.pwr.dvfsTo then s
  else if !s.coreOnPll then s.dvfsShow 3
  else
    let s := (s.setPwr { s.pwr with dvfsTo := t }).lockIdle t
    if t < cur then s.dvfsVout .upVout else s.dvfsSwitch .downSwitch

/-- A change has completed. -/
def State.dvfsDone (s : State) : State :=
  (((s.setDvfs .none).put F.pwrDvfs_STATE 0).bump F.pwrDvfs_CHANGES 1).dvfsPoll.refresh 52

/-- DVFS_TARGET_WRITE (R766): TARGET and THERM_CAP take the written bits. -/
def State.dvfsWritten (s : State) : State := s.dvfsPoll

/-- PMBUS_TRANSACTION_DONE (R766, R769): `ok` is the ACK, `value` what READ_VOUT gave. -/
def execPmbusTransactionDone (ok : Bool) (value : Nat) (s : State) : Res :=
  .next (
    let v := s.vcode s.pwr.dvfsTo
    let within := decide ((Int.ofNat value - Int.ofNat v).natAbs * 50 ≤ v)
    match s.pwr.dvfs with
    | .upVout => if ok then s.setDvfs .upSettle else s.dvfsVout .upVout
    | .downVout => if ok then s.setDvfs .downSettle else s.dvfsVout .downVout
    | .upRead =>
      if ok && within then (s.setPwr { s.pwr with vLevel := s.pwr.dvfsTo }).dvfsSwitch .upSwitch
      else s.emit (.pmbus 0x8b 0)
    | .downRead =>
      if ok && within then (s.setPwr { s.pwr with vLevel := s.pwr.dvfsTo }).dvfsDone else s.emit (.pmbus 0x8b 0)
    | _ => s)

/-- DVFS_SETTLE_EXPIRE (R766). -/
def execDvfsSettleExpire (s : State) : Res :=
  .next (match s.pwr.dvfs with
    | .upSettle => (s.setDvfs .upRead).emit (.pmbus 0x8b 0)
    | .downSettle => (s.setDvfs .downRead).emit (.pmbus 0x8b 0)
    | _ => s)

/-- DVFS_STEP_TIMEOUT (R767). -/
def execDvfsStepTimeout (s : State) : Res :=
  .next (if s.pwr.dvfs = .none then s
    else
      let sw := s.pwr.dvfs == .upSwitch || s.pwr.dvfs == .downSwitch
      let s := s.setPwr { s.pwr with dvfs := .none, core := if sw then { s.pwr.core with goal := none } else s.pwr.core }
      (s.put F.pwrDvfs_STATE 4).dvfsPoll.refresh 52)

/-! ### PLLs and source switches (R751, R755, R756, R762) -/

/-- PLL_PROOF_TIMER (R751): PLL k is 0 CPLL_A, 1 CPLL_B, 2 DPLL. -/
def execPllProofTimer (k : Nat) (s : State) : Res :=
  .next (
    let p := if k = 0 then s.pwr.cpllA else if k = 1 then s.pwr.cpllB else s.pwr.dpll
    let refOk := if p.onIrc then s.pwr.irc.proven else s.pwr.sysxo.proven
    if 3 ≤ k ∨ !p.locking ∨ !refOk then s
    else
      let p := { p with locking := false, proven := true }
      if k = 2 then
        s.setPwr { s.pwr with dpll := p, ddr := { s.pwr.ddr with goal := some .dpll } }
      else
        let s := s.setPwr (if k = 0 then { s.pwr with cpllA := p } else { s.pwr with cpllB := p })
        let src : ClkSrc := if k = 0 then .cpllA else .cpllB
        if (s.pwr.core.src = .irc ∧ s.pwr.core.goal = none) ∨
            ((s.pwr.dvfs = .upSwitch ∨ s.pwr.dvfs = .downSwitch) ∧ p.level = s.pwr.dvfsTo ∧ s.pwr.core.goal = none) then
          s.setPwr { s.pwr with core := { s.pwr.core with goal := some src } }
        else s)

/-- CD_CORE has been released on a source. -/
def State.coreReleased (s : State) (src : ClkSrc) : State :=
  let s := s.setPwr { s.pwr with core := { src := src, goal := none } }
  let s := s.putB F.pwrClkStat_CORE_ON_IRC (src == .irc)
  if src = .irc then s.startLocks
  else
    let s := s.putB F.pwrClkStat_CPLL_SEL (src == .cpllB)
    let level := if src = .cpllA then s.pwr.cpllA.level else s.pwr.cpllB.level
    match s.pwr.dvfs with
    | .upSwitch =>
      if level = s.pwr.dvfsTo then (s.put F.pwrDvfs_CUR level).dvfsDone else s.lockIdle s.pwr.dvfsTo
    | .downSwitch =>
      if level = s.pwr.dvfsTo then (s.put F.pwrDvfs_CUR level).dvfsVout .downVout else s.lockIdle s.pwr.dvfsTo
    | _ => s.dvfsPoll

/-- CLOCK_SOURCE_RELEASE (R762): clock domain d is 0 CD_CORE, 1 CD_SUP, 2 CD_DDR, which was held for `heldNs` (R756). -/
def execClockSourceRelease (d heldNs : Nat) (s : State) : Res :=
  .next (
    let dom := if d = 0 then s.pwr.core else if d = 1 then s.pwr.sup else s.pwr.ddr
    match dom.goal with
    | none => s
    | some src =>
      if 3 ≤ d then s
      else if d = 0 then (s.coreReleased src).ircIdle.refresh 50
      else if d = 1 then
        ((s.setPwr { s.pwr with sup := { src := src, goal := none } }).putB F.pwrClkStat_SUP_ON_IRC (src == .irc)).ircIdle.refresh 50
      else
        let late := s.pwr.ddrHeld && decide (31200 < heldNs)
        let s := s.setPwr { s.pwr with ddr := { src := src, goal := none }, ddrHeld := false }
        if late then s.bump F.pwrClkCnt_LATE_REF 1 else s)

/-- REF_SYS becomes IRC because SYSXO is not proven at boot (R759). -/
def execSysxoBootWaitEnd (s : State) : Res :=
  .next (if s.mode = .boot ∧ !s.pwr.sysxo.proven then s.refSysLost.clockUpdate else s)

/-- REF_SYS_RETURN (R754, R755). -/
def execRefSysReturn (s : State) : Res :=
  .next (if s.getB F.pwrClkCfg_RETURN_AUTO && s.getB F.pwrClkStat_REF_SYS && s.pwr.sysxo.proven then
      let s := (s.putB F.pwrClkStat_REF_SYS false).bump F.pwrClkCnt_SWITCHES 1
      let s := s.setPwr { s.pwr with dpll := {}, ddr := { src := .stopped, goal := none },
                                     ddrHeld := s.pwr.ddrHeld || s.pwr.ddr.src == .dpll }
      let onPll := s.pwr.core.src == .cpllA || s.pwr.core.src == .cpllB || s.pwr.core.goal == some .cpllA ||
        s.pwr.core.goal == some .cpllB
      (if onPll then s.coreToIrc false else s.setIdlePll {}).startLocks.clockUpdate
    else s)

/-- IRC_RESTART_TIMER (R759): the supervisor restarts IRC while the reset is held. -/
def execIrcRestartTimer (s : State) : Res :=
  .next (if s.cpx.inReset && !s.pwr.irc.proven then s.setPwr { s.pwr with irc := { run := true } } else s)

/-! ### Trimming (R761) -/

/-- The trim source: SYSXO, Hinge turns as MEMBER, none. -/
def State.trimSrc (s : State) : Nat :=
  if s.pwr.sysxo.proven then 1 else if s.get F.hrlStat_STATE = 3 then 2 else 0

/-- IRC_TRIM: `count` IRC cycles over the span of R761, nominally 1,000,000. -/
def execIrcTrim (count : Nat) (s : State) : Res :=
  .next (if s.getB F.pwrIrc_TRIM_HOLD || !s.pwr.irc.run then s
    else
      let src := s.trimSrc
      let s := s.put F.pwrIrc_TRIM_SRC src
      if src = 0 then s
      else
        let e := Int.ofNat count - 1000000
        let s := s.putI F.pwrIrc_ERR_PPM (satInt 16 e)
        let t := s.get F.pwrIrc_TRIM
        if 500 < e then s.put F.pwrIrc_TRIM (t - 1) else if e < -500 then s.put F.pwrIrc_TRIM (min 1023 (t + 1)) else s)

/-! ### Clock gates (R763) -/

/-- The peripheral of an enable bit is in use (R763). -/
def State.enInUse (s : State) (b : Nat) : Bool :=
  if b < 8 then (List.range 16).any fun t => s.get F.thrStat_STATE (16 * b + t) != 0
  else if b < 16 then s.get F.octCfg_LMODE (b - 8) != 0
  else if b = 20 ∨ b = 21 then s.getB F.tsvAssoc_EN || s.getB F.tsvPolice_EN || s.getB F.kvcBlobBase_EN
  else if b = 23 then
    (List.range 32).any (fun m => s.getB F.emuCfg_ARMED m) || (List.range 64).any (fun t => s.get F.tdcStat_STATE t != 0)
  else if b = 24 then (List.range 2).any fun p => s.getB F.gspCfg_ENABLE p
  else if b = 25 then s.getB F.aoiCfdCtl_CFD_EN || s.getB F.aoiCfdCtl_STEER
  else if b = 26 then s.getB F.hrlCfg_EN
  else if b = 27 then (List.range 64).any fun a => s.getB F.svcCfg_EN a
  else false

/-- A write of PWR_EN clears an enable that is in use; the whole write is then ignored. -/
def State.enRefused (s : State) (old new : Word) : Bool :=
  (List.range 28).any fun b => old.getLsbD b && !new.getLsbD b && s.enInUse b

/-! ### Frequency counter (R764) -/

/-- A write of PWR_FMC_CTL with START, which held `old`: a count begins; while one runs the write is ignored. -/
def State.fmcStart (s : State) (old : Word) : State :=
  if s.get F.pwrFmcCtl_STATE = 1 then s.wr .pwrFmcCtl old else s.put F.pwrFmcCtl_STATE 1

def execFmcDone (count : Nat) (s : State) : Res :=
  .next (if s.get F.pwrFmcCtl_STATE = 1 then (s.put F.pwrFmcCtl_STATE 2).put F.pwrFmcRes_COUNT count else s)

def execFmcStall (s : State) : Res :=
  .next (if s.get F.pwrFmcCtl_STATE = 1 then s.put F.pwrFmcCtl_STATE 3 else s)

/-! ### Temperature (R770, R777) -/

/-- The index of the highest of a list of readings, the first of equals. -/
def hottest (l : List Int) : Nat :=
  (l.zipIdx.foldl (fun b e => if b.1 < e.1 then e else b) (l.headD 0, 0)).2

/-- TJ_CRIT is live while TJ_MAX is at or above its limit (R770). -/
def State.critJudge (s : State) : State :=
  let crit := Int.ofNat (clampNat 1680 2000 (s.get F.pwrTherm_TJ_CRIT))
  (s.setPwr { s.pwr with tjCrit := decide (crit ≤ s.getI F.pwrTemp_TJ_MAX) }).refresh 55

/-- TEMP_READ: the eight die sensors, in 1/16 °C. -/
def execTempRead (readings : List Int) (s : State) : Res :=
  .next (if readings.length ≠ 8 then s
    else
      let k := hottest readings
      let t := satInt 16 (readings.getD k 0)
      let s := (s.putI F.pwrTemp_TJ_MAX t).put F.pwrTemp_HOT k
      let s := if s.getI F.pwrTemp_TJ_PEAK < t then s.put F.pwrTemp_TJ_PEAK (codeOf 16 t) else s
      let warn := Int.ofNat (s.get F.pwrTherm_TJ_WARN)
      let w := decide (warn ≤ t) || (s.pwr.tjWarn && decide (warn - Int.ofNat (s.get F.pwrTherm_HYST) ≤ t))
      let sum := s.pwr.stressSum + Config.arrhenius t
      let s := s.setPwr { s.pwr with tjWarn := w, stressN := s.pwr.stressN + 1, stressSum := sum }
      let s := s.put F.pwrStress_TJ_EQ (Config.arrheniusInv sum s.pwr.stressN)
      (s.refresh 53).critJudge.dvfsPoll)

/-! ### Wear (R247, R774–R778) -/

/-- n, Σx, Σxx, Σy, Σxy of daily values, the newest first; x counts days, the oldest kept day being 0. -/
def fitSums (l : List Int) : Int × Int × Int × Int × Int :=
  l.reverse.zipIdx.foldl (fun a e =>
    (a.1 + 1, a.2.1 + Int.ofNat e.2, a.2.2.1 + Int.ofNat (e.2 * e.2), a.2.2.2.1 + e.1, a.2.2.2.2 + Int.ofNat e.2 * e.1))
    (0, 0, 0, 0, 0)

/-- Months of 30.4375 days for a distance to a limit at a rate per day, given as fractions; 0xffff where it leaves the field. -/
def monthsOf (dNum dDen rNum rDen : Nat) : Nat :=
  if rNum = 0 ∨ dDen = 0 then 0xffff else min 0xfffe (dNum * rDen * 10000 / (dDen * rNum * 304375))

/-- MONTHS and LOW_MONTHS of R247: the least-squares line through the daily means, its distance today to the nearer limit in its
direction of travel, and the same with the slope two standard errors steeper. -/
def eolFit (l : List Int) (lo hi : Option Int) : Nat × Nat :=
  let (n, sx, sxx, sy, sxy) := fitSums l
  if n < 30 then (0xffff, 0xffff)
  else
    let den := n * sxx - sx * sx
    let num := n * sxy - sx * sy
    -- the line's value at the newest day, as a fraction over n · den
    let last := sy * den + num * (n * (n - 1) - sx)
    let lim := if 0 < num then hi else if num < 0 then lo else none
    match lim with
    | none => (0xffff, 0xffff)
    | some lv =>
      let dist := if 0 < num then lv * n * den - last else last - lv * n * den
      let dist := if dist < 0 then 0 else dist.toNat
      -- residual sum of squares over n · den
      let syy := l.foldl (fun a y => a + y * y) 0
      let rss := (n * syy - sy * sy) * den - num * num
      -- the slope's standard error squared is rss / (den² · (n − 2)), so the error over 1/den is its root
      let se := isqrt ((rss.toNat * 2 ^ 32) / (n - 2).toNat)
      (monthsOf dist (n * den).toNat num.natAbs den.toNat,
       monthsOf dist (n * den).toNat (num.natAbs * 2 ^ 16 + 2 * se) (den.toNat * 2 ^ 16))

/-- WEAR_MEASURE (R775): hourly readings of D of w = 0 to 15, corrected to the baseline temperature, and of VBAT in mV. -/
def execWearMeasure (d : List Nat) (s : State) : Res :=
  .next (if d.length ≠ 17 then s
    else
      let sums := d.zipIdx.foldl (fun t e => tabSet 0 t e.2 (tabGet 0 t e.2 + e.1)) s.pwr.hourSum
      let s := s.setPwr { s.pwr with hourN := s.pwr.hourN + 1, hourSum := sums, hours := satNat 32 (s.pwr.hours + 1) }
      s.put F.pwrStress_POWER_HOURS s.pwr.hours)

/-- The daily mean and the fit of one sensor (R776). -/
def State.wearFit (s : State) (w : Nat) : State :=
  let m := tabGet 0 s.pwr.hourSum w / s.pwr.hourN
  let l := (m :: tabGet [] s.pwr.means w).take 365
  let s := s.setPwr { s.pwr with means := tabSet [] s.pwr.means w l }
  let vals := l.map Int.ofNat
  let warn := Int.ofNat (s.get F.kvcVbat_WARN_MV)
  let r := if w = 16 then eolFit vals (some warn) none else eolFit vals none (some 65536)
  ((s.put F.pwrWear_VALUE m w).put F.pwrEol_MONTHS r.1 w).put F.pwrEol_LOW_MONTHS r.2 w

/-- WEAR_DAILY_FIT (R775, R776). -/
def execWearDailyFit (s : State) : Res :=
  .next (if s.pwr.hourN = 0 then s
    else
      let s := (List.range 17).foldl (fun s w => s.wearFit w) s
      (s.setPwr { s.pwr with hourN := 0, hourSum := [] }).refresh 54)

end Sys2Proof.Machine
end

