-- ==== Sys2Proof/Machine/Aoi.lean ====
section
/-! DEFINITION. The atomic oscillator interface: C-field drive, monitors, ageing (R239–R250). -/
namespace Sys2Proof.Machine

/-- The AOI is present (R112). -/
def State.aoiOn (s : State) : Bool := s.getB F.rimAoiIn_VALID

/-- CODE_OUT takes a value; D0's FOFF and i are compensated in the same cycle (R241), and the FOFF that holdover goes by. -/
def State.setCodeOut (s : State) (v : Nat) : State :=
  let dc := Int.ofNat v - Int.ofNat (s.get F.aoiCfdStat_CODE_OUT)
  if dc = 0 then s
  else
    let g := s.getI F.aoiCfdGain_GAIN
    let df := -(roundDiv (g * dc) 256)
    let di := -(roundDiv (g * dc * 1000000000) 4294967296)
    let s := (s.put F.aoiCfdStat_CODE_OUT v).setFoff0 ((s.dom 0).foff + df)
    let s := s.setRsh { s.rsh with holdF := s.rsh.holdF + df }
    s.setServoI (s.getI F.rshServoI_VALUE + di)

/-- The highest code that the compliance allows, from the last sample: (VLOOP − HR) / load (R240); none where the load drops no
voltage. -/
def State.cfdLimit (s : State) : Option Nat :=
  let head := s.get F.aoiCfdStat_VLOOP_MV - s.get F.aoiCfdLim_HR_MV
  let v := s.get F.aoiCfdStat_VCFD_MV
  let i := s.get F.aoiCfdLoad_IMEAS_UA
  let r := s.get F.aoiCfdLoad_RLOAD_INIT
  if 1000 ≤ i then (if v = 0 then none else some (head * 16777216 * i / (25000 * v)))
  else if r = 0 then none else some (head * 16777216 / (25 * r))

/-- The code that CFD delivers for CODE_CMD. -/
def State.cfdDeliver (s : State) : State :=
  if !s.getB F.aoiCfdCtl_CFD_EN then s
  else
    let cmd := s.get F.aoiCfdCtl_CODE_CMD
    if s.getB F.aoiCfdStat_CFD_SAT then s.setCodeOut (match s.cfdLimit with | some m => min cmd m | none => cmd)
    else s.setCodeOut cmd

/-- CODE_CMD takes a value, held to 24 bits. -/
def State.setCodeCmd (s : State) (v : Int) : State :=
  (s.put F.aoiCfdCtl_CODE_CMD (clampInt 0 16777215 v).toNat).cfdDeliver

/-- DOM_HOLD_DFU is raised to DFU_SAT while HOLD is set (R231, R243). -/
def State.raiseDfuSat (s : State) : State :=
  let d := s.dom 0
  if d.hold then s.setDom 0 { d with dfu := max d.dfu (s.get F.rshModelDfuSat_PARAM s.modelSet) } else s

/-- CFD_COMPLIANCE_SAMPLE (R240, R243): VLOOP and V_CFD in mV, I_meas in µA. With CFD_EN clear the monitor judges CODE_CMD all the
same, and CFD holds its current (R239). A calibration of the gain that meets CFD_SAT ends (R250). -/
def execCfdComplianceSample (vloop vcfd imeas : Nat) (s : State) : Res :=
  .next (if !s.aoiOn then s
    else
      let s := (s.put F.aoiCfdStat_VLOOP_MV vloop).put F.aoiCfdStat_VCFD_MV vcfd
      let s := s.put F.aoiCfdLoad_IMEAS_UA imeas
      let s := s.put F.aoiCfdLoad_RLOAD (if 1000 ≤ imeas then vcfd * 1000 / imeas else s.get F.aoiCfdLoad_RLOAD_INIT)
      let cmd := s.get F.aoiCfdCtl_CODE_CMD
      let lim := s.cfdLimit
      let out (s : State) (v : Nat) : State := if s.getB F.aoiCfdCtl_CFD_EN then s.setCodeOut v else s
      if lim.any (decide <| · < cmd) then
        let s := out s (lim.getD 0)
        let s := s.setRsh { s.rsh with satClear := 0 }
        let s := ((s.putB F.aoiCfdStat_CFD_SAT true).putB F.aoiCfdCtl_STEER false).raiseDfuSat
        (s.gainAbort 3).refresh 17
      else if s.getB F.aoiCfdStat_CFD_SAT then
        let s := (out s cmd).gainAbort 3
        let n := if lim.all (decide <| cmd * 100 ≤ 99 * ·) then s.rsh.satClear + 1 else 0
        if 10000 ≤ n then ((s.setRsh { s.rsh with satClear := 0 }).putB F.aoiCfdStat_CFD_SAT false).refresh 17
        else s.setRsh { s.rsh with satClear := n }
      else s)

/-- AOI_OFFLOAD_STEP (R242): the quotient as the rule writes it, over the register numbers (log entry 24); a divisor of zero
leaves the step open. -/
def execAoiOffloadStep (s : State) : Res :=
  .next (if !(s.getB F.aoiCfdCtl_STEER && s.rshState == 2 && s.aoiOn) then s
    else
      let ifoff := roundDiv (s.getI F.rshServoI_VALUE * 16777216) 1000000000
      let den := Int.ofNat (s.get F.aoiOffload_TAU_S) * s.getI F.aoiCfdGain_GAIN
      let num := ifoff * Int.ofNat (s.get F.aoiCfdLim_PER_S)
      let x := if den = 0 then Int.ofNat s.draw.1 else roundDiv (if den < 0 then -num else num) den.natAbs
      let s := if den = 0 then s.draw.2 else s
      let m := Int.ofNat (s.get F.aoiCfdLim_STEP_MAX)
      s.setCodeCmd (Int.ofNat (s.get F.aoiCfdCtl_CODE_CMD) + clampInt (-m) m x))

/-- The means are held against their limits (R244, R245): the channels outside, and an AOI unlock for channel 2. -/
def State.aoiJudge (s : State) : State :=
  let bad := ((List.range 4).map fun k =>
    if s.get F.aoiMon_VALUE k < s.get F.aoiMonLim_LO k ∨ s.get F.aoiMonLim_HI k < s.get F.aoiMon_VALUE k then 2 ^ k else 0).sum
  let s := s.setRsh { s.rsh with monBad := bad }
  let s := if bitOf bad 2 then
      let s := (s.putB F.aoiCfdCtl_STEER false).learnReset
      if (s.dom 0).hold && s.modelSet == 0 then s.enterFreerun else s
    else s
  s.refresh 18

/-- AOI_MON_MEAN (R244, R245): the 1 s means of the four channels. -/
def execAoiMonMean (codes : List Nat) (s : State) : Res :=
  .next (if codes.length ≠ 4 ∨ !s.aoiOn then s
    else
      let s := codes.zipIdx.foldl (fun s e => s.put F.aoiMon_VALUE e.1 e.2) s
      let r := s.rsh
      let add (k v : Nat) (t : Tab Nat) : Tab Nat := tabSet 0 t k (tabGet 0 t k + v)
      let sums := add 0 (s.get F.aoiMon_VALUE 0) (add 1 (s.get F.aoiMon_VALUE 1) (add 2 (s.get F.aoiCfdStat_CODE_OUT) r.daySum))
      (s.setRsh { r with dayN := r.dayN + 1, daySum := sums }).aoiJudge)

/-- AOI_EOL_FIT (R247). -/
def State.aoiEolFit (s : State) (k : Nat) : State :=
  let l := (tabGet 0 s.rsh.daySum k / s.rsh.dayN :: tabGet [] s.rsh.days k).take 365
  let s := s.setRsh { s.rsh with days := tabSet [] s.rsh.days k l }
  let lo := if k = 2 then 838861 else s.get F.aoiMonLim_LO k
  let hi := if k = 2 then 16777215 - 838861 else s.get F.aoiMonLim_HI k
  let r := eolFit (l.map Int.ofNat) (some (Int.ofNat lo)) (some (Int.ofNat hi))
  (s.put F.aoiEol_MONTHS r.1 k).put F.aoiEol_LOW_MONTHS r.2 k

def execAoiEolFit (s : State) : Res :=
  .next (if s.rsh.dayN = 0 then s
    else
      let s := [0, 1, 2].foldl (fun s k => s.aoiEolFit k) s
      (s.setRsh { s.rsh with dayN := 0, daySum := [] }).refresh 54)

def execAoiSteer (c : Caller) (on : Nat) (s : State) : Res :=
  .next (s.runRsh c 0x47 (on != 1 || !s.getB F.aoiCfdStat_CFD_SAT) [notOwner s c, (decide (1 < on) || !s.aoiOn, .badArg)]
    (s.putB F.aoiCfdCtl_STEER (on == 1)))

def execAoiCfdSet (c : Caller) (code : Nat) (s : State) : Res :=
  .next (s.runCmd c 0x48
    [notOwner s c, (decide (2 ^ 24 ≤ code) || !s.aoiOn, .badArg), (s.getB F.aoiCfdCtl_STEER, .busy)]
    (s.setCodeCmd (Int.ofNat code)))

/-- CFD_GAIN_CAL (R250). A step of zero, or one that leaves the code's range, is refused (DEDUCED: log entry 24). -/
def execCfdGainCal (c : Caller) (step : Int) (s : State) : Res :=
  .next (
    let v := Int.ofNat (s.get F.aoiCfdCtl_CODE_CMD) + step
    let s' := s.setCodeCmd v
    s.runCmd c 0x49
      [notOwner s c, (step == 0 || decide (v < 0) || decide (16777215 < v), .badArg), (s.rsh.gain.isSome, .busy)]
      (s'.setRsh { s'.rsh with gain := some { step := step, second := false, i0 := s'.getI F.rshServoI_VALUE, di := 0 } }))

/-- GAIN_CAL_PHASE_END (R250): after the second step GAIN takes the change of i per code, the mean of both steps. -/
def execGainCalPhaseEnd (s : State) : Res :=
  .next (
    match s.rsh.gain with
    | none => s
    | some g =>
      if s.getB F.aoiCfdStat_CFD_SAT then s.gainAbort 3 else
      let di := s.getI F.rshServoI_VALUE - g.i0
      if !g.second then
        let s := s.setCodeCmd (Int.ofNat (s.get F.aoiCfdCtl_CODE_CMD) - g.step)
        s.setRsh { s.rsh with gain := some { g with second := true, i0 := s.getI F.rshServoI_VALUE, di := di } }
      else
        let num := (g.di - di) * 4294967296
        let den := 2 * g.step * 1000000000
        let per := roundDiv (if den < 0 then -num else num) (max 1 den.natAbs)
        (s.setRsh { s.rsh with gain := none }).putI F.aoiCfdGain_GAIN (satInt 64 (s.getI F.aoiCfdGain_GAIN + per)))

/-- A write of AOI_MONk_LIM: the means that stand are held against the new limits (R244). -/
def State.monLimWritten (s : State) : State := if s.aoiOn then s.aoiJudge else s

/-- A write of AOI_CFD_CTL: with CFD_EN set, CFD takes up the commanded code (R239). -/
def State.cfdCtlWritten (s : State) : State := s.cfdDeliver

end Sys2Proof.Machine
end

