-- ==== Sys2Proof/Machine/Port.lean ====
section
/-! DEFINITION. What every bus port and every standard FIFO share: the master codes, the stall of a port, taking words from a
FIFO (R652, R656, R816). -/
namespace Sys2Proof.Machine

/-- The master port that carries a master's accesses (R652). -/
def portCode : Master → Nat
  | .cp _ => 0
  | .fn _ => 1
  | .thread t => 2 + t / 16
  | .dma => 10

/-- The requester within a port, as half reads tell them apart (R816): core, function, thread. -/
def halfKey : Master → Nat
  | .cp k => k % 4
  | .fn f => 16 + f
  | .thread t => 64 + t
  | .dma => 255

/-- The FIFO has no place for a further entry: `depth` whole entries wait. An entry whose reading has begun has given up its place,
which the manual does not say of a FIFO (log entry 65). -/
def Fifo.full (f : Fifo) (depth : Nat) : Bool := decide (depth ≤ f.items.length)

def Fifo.add (f : Fifo) (e : List Word) : Fifo := { f with items := f.items ++ [e] }

/-- The word taken, noted for a requester that reads by halves. -/
def Fifo.keep (f : Fifo) (rq : Nat) (h : Half) (w : Word) : Fifo :=
  if h = .low then { f with half := tabSet 0 f.half rq w } else f

/-- The part of a word that an access addresses (R815). -/
def halfOf (h : Half) (w : Word) : Word :=
  match h with
  | .full => w
  | .low => w &&& 0xffffffff
  | .high => w >>> 32

/-- A read of the data register of a FIFO (R816); none where it is empty and the read stalls. -/
def Fifo.read (f : Fifo) (rq : Nat) (h : Half) : Option (Word × Fifo) :=
  if h = .high then some (tabGet 0 f.half rq >>> 32, f)
  else
    match f.cur, f.items with
    | w :: l, _ => some (halfOf h w, ({ f with cur := l, lastEnd := l.isEmpty }).keep rq h w)
    | [], (w :: l) :: r => some (halfOf h w, ({ f with items := r, cur := l, lastEnd := l.isEmpty }).keep rq h w)
    | [], _ => none

/-- The count register of a FIFO: LAST_END in bit 63, COUNT in the low bits. -/
def Fifo.cntWord (f : Fifo) : Nat := (if f.lastEnd then 2 ^ 63 else 0) + f.items.length

end Sys2Proof.Machine
end

