-- ==== Sys2Proof/Machine/Rim.lean ====
section
/-! DEFINITION. RIM: input monitors, edge measurement units, TDC calibration (03_reference_inputs.md). -/
namespace Sys2Proof.Machine

/-! ### Inputs (R108–R119, R821) -/

def State.mon (s : State) (n : Nat) : InMon := tabGet {} s.rim.mons n
def State.setMon (s : State) (n : Nat) (x : InMon) : State :=
  { s with rim := { s.rim with mons := tabSet {} s.rim.mons n x } }

/-- The input is set to SE or DIFF. -/
def State.inOn (s : State) (n : Nat) : Bool := s.get F.inCfg_MODE n == 1 || s.get F.inCfg_MODE n == 2

/-- A combination of R109 or R117 for which RIM treats the input as OFF. -/
def State.inBad (s : State) (n : Nat) : Bool :=
  let nom := s.get F.inNom_NOM_FREQ n
  s.inOn n &&
    ((s.get F.inCfg_TERM n == 3 && s.get F.inCfg_MODE n == 1) ||
     decide (200000000 * 65536 * 2 ^ s.get F.inCfg_PRESCALE n < nom) || decide (nom < 65536) ||
     decide (1600000000 * 65536 < nom) || (s.getB F.inCfg_TYPE n && decide (nom % 65536 ≠ 0)))

/-- REJ limit not above the ACC limit (R117). -/
def State.fmLimBad (s : State) (n : Nat) : Bool := decide (s.get F.inFmLim_REJ n ≤ s.get F.inFmLim_ACC n)

/-- A value outside its limits, which RIM replaces (R115, R821). -/
def State.inLimited (s : State) (n : Nat) : Bool :=
  decide (s.get F.inAct_REJ n < 5) || decide (3 < s.get F.inAct_EARLY n) || s.get F.inAct_ACC_MS n == 0 ||
    s.get F.inFmGate_HOLD_S n == 0

/-- RIM takes edges of the input. -/
def State.inLive (s : State) (n : Nat) : Bool := s.inOn n && !s.inBad n && !s.fmLimBad n

/-- Two prescaled periods exceed the written fast gate (R117). -/
def State.fastShort (s : State) (n : Nat) : Bool :=
  decide (max 1 (s.get F.inFmGate_FAST_MS n) * s.get F.inNom_NOM_FREQ n < 2 * 2 ^ s.get F.inCfg_PRESCALE n * 65536 * 1000)

/-- The fast gate in ticks, rounded up. -/
def State.fastGate (s : State) (n : Nat) : Nat :=
  if s.fastShort n then
    ceilDiv (2 * 2 ^ s.get F.inCfg_PRESCALE n * 65536 * Config.secTicks) (max 1 (s.get F.inNom_NOM_FREQ n))
  else max 1 (s.get F.inFmGate_FAST_MS n) * 262144000000

/-- Show MON_OK and hand a change on: to RSH, the event ledger, INPUT_LOST and the ADPLLs (R119). -/
def State.monShow (s : State) (n : Nat) : State :=
  let ok := s.getB F.inStat_ACT_OK n && s.getB F.inStat_FREQ_OK n
  if ok = s.getB F.inStat_MON_OK n then s
  else
    let s := s.putB F.inStat_MON_OK ok n
    let s := if s.getB F.inCfg_CRIT n then
        s.log 0x02 n 0x0201 0 1 [byte n, byte (if ok then 1 else 0), byte (s.rd .inStat n &&& 0xff).toNat]
      else s
    ((s.monToRsh n ok).refresh 11).clockUpdate

/-- Both monitors of an input are REJECTED and begin anew (R111, R150); the prescaler counts on. -/
def State.monRestart (s : State) (n : Nat) : State :=
  let s := ((s.putB F.inStat_ACT_OK false n).putB F.inStat_FREQ_OK false n).putB F.inStat_PRESENT false n
  (s.setMon n { pre := (s.mon n).pre }).monShow n

/-- The frequency monitor is forced to REJECTED (R116). -/
def State.fmForce (s : State) (n : Nat) : State := (s.putB F.inStat_FREQ_OK false n).setMon n { s.mon n with hold := 0, held := false }

/-- CFG_ERR and FAST_CLAMP of an input after a write (R109, R117, R821). -/
def State.inShow (s : State) (n : Nat) : State :=
  (s.putB F.inStat_CFG_ERR (s.inBad n || s.fmLimBad n || s.inLimited n) n).putB F.inStat_FAST_CLAMP (s.fastShort n && s.inOn n) n

/-- After a write of INn_ACT, INn_FM_LIM or INn_FM_GATE (R117, R821): an input that RIM treats as OFF is judged no longer. -/
def State.inLimWritten (s : State) (n : Nat) : State :=
  let s := s.inShow n
  if s.inLive n then s else s.monRestart n

/-- The fields of INn_CFG whose change restarts the monitors (R111): all but CRIT. -/
def restartMask : Word := 0x0f3ec3ff

/-- After a write of an input's settings, direct or by a commit: `old` is what INn_CFG and INn_NOM held (R111). After a change of
PRESCALE the first selected edge passes (R110). A FREQ candidate shows no bound (R208). -/
def State.inWritten (s : State) (n : Nat) (oldCfg oldNom : Word) : State :=
  let s := s.inShow n
  let s := if s.get F.inCfg_PRESCALE n = bitsOf oldCfg 27 25 then s else s.setMon n { s.mon n with pre := 0 }
  let s := (if s.isFreq n then s.put F.refCbound_VALUE Config.unb n else s).showFreqOnly n
  let s := if (s.rd .inCfg n &&& restartMask) = (oldCfg &&& restartMask) ∧ s.rd .inNom n = oldNom then
      (if s.inLive n then s else s.monRestart n)
    else s.monRestart n
  (s.refresh 11).clockUpdate

/-- An edge earlier than EARLY/4 of a prescaled period (R113); the gap counts CLK_TSE cycles. -/
def State.isGlitch (s : State) (n gap : Nat) : Bool :=
  decide (gap * 4 * s.get F.inNom_NOM_FREQ n <
    min 3 (s.get F.inAct_EARLY n) * 2 ^ (s.get F.inCfg_PRESCALE n + 16) * 1250000000)

/-- An edge at the ball of an input passes slope selection and the prescaler (R110); `rise` tells its direction, `gap` the CLK_TSE
cycles since the input's last edge. -/
def State.edgePasses (s : State) (n : Nat) (rise : Bool) : Bool := rise != s.getB F.inCfg_SLOPE n && (s.mon n).pre == 0

/-- The prescaler's count after an edge, and the gap that the edges so far add up to. -/
def State.prescale (s : State) (n : Nat) (rise : Bool) (gap : Nat) : State :=
  let x := s.mon n
  let pre := if rise = s.getB F.inCfg_SLOPE n then x.pre else if x.pre = 0 then 2 ^ s.get F.inCfg_PRESCALE n - 1 else x.pre - 1
  s.setMon n { x with pre := pre, gap := x.gap + gap }

/-- The running fast gate counts a prescaled edge, `du` units u of D0 after the last one (R114). -/
def FmGate.edge (g : FmGate) (du : Nat) : FmGate :=
  if g.e = 0 then { g with e := 1, lead := du } else { g with e := g.e + 1, span := g.span + du }

/-- What D0 counts, at its present rate, in a number of CLK_TSE cycles: units u (R62, R114; log entry 70). -/
def State.d0Span (s : State) (cycles : Nat) : Nat := (Int.ofNat cycles * (Int.ofNat Config.nomAdvance + s.domRate 0)).toNat

/-- The activity monitor judges a prescaled edge, and the frequency monitor counts it (R113, R114). -/
def State.actEdge (s : State) (n : Nat) : State :=
  let x := s.mon n
  let glitch := x.seen && s.isGlitch n x.gap
  let s := (s.putB F.inStat_PRESENT true n).setMon n
    { x with seen := true, gap := 0, cur := x.cur.edge (if x.seen then s.d0Span x.gap else 0) }
  if glitch then
    ((((s.putB F.inStat_ACT_OK false n).putB F.inStat_REJ_GLITCH true n).fmForce n)).monShow n
  else s

/-- ACT_GAP_TIMEOUT (R113): no edge within REJ/4 periods. -/
def execActGapTimeout (n : Nat) (s : State) : Res :=
  .next (if 24 ≤ n || !s.inLive n then s
    else
      let s := ((s.putB F.inStat_PRESENT false n).putB F.inStat_ACT_OK false n).putB F.inStat_REJ_GAP true n
      (s.fmForce n).monShow n)

/-- ACT_ACCEPT_TIMEOUT (R113): ACC_MS without gap or glitch. -/
def execActAcceptTimeout (n : Nat) (s : State) : Res :=
  .next (if 24 ≤ n || !s.inLive n || !s.getB F.inStat_PRESENT n then s else (s.putB F.inStat_ACT_OK true n).monShow n)

/-- |Δf| of `e` prescaled periods in `t` units u of D0, against a limit in 0.1 ppb: numerator, and the limit's product (R114). -/
def State.fmNum (s : State) (n e t : Nat) : Int :=
  Int.ofNat (e * 2 ^ (s.get F.inCfg_PRESCALE n + 16) * Config.secTicks * Config.uPerTick) - Int.ofNat (t * s.get F.inNom_NOM_FREQ n)

/-- The newest gates, whose lengths together reach a span in ticks. -/
def keepGates : Nat → List FmGate → List FmGate
  | _, [] => []
  | lim, g :: l => if lim = 0 then [] else g :: keepGates (lim - g.len) l

/-- Edges of gates that follow one another, newest first, and the units u from the first edge to the last. -/
def longSum : List FmGate → Nat × Nat
  | [] => (0, 0)
  | g :: l =>
    let (n, t) := longSum l
    if g.e = 0 then (n, t) else if n = 0 then (g.e, g.span) else (n + g.e, t + g.lead + g.span)

/-- The gates of the last HOLD_S seconds at the end of the running one. -/
def State.fmGates (s : State) (n : Nat) : List FmGate :=
  keepGates (max 1 (s.get F.inFmGate_HOLD_S n) * Config.secTicks) ({ (s.mon n).cur with len := s.fastGate n } :: (s.mon n).gates)

/-- Periods and units u of the fast estimate, and of the long one, at the end of a gate (R114). -/
def State.fmFast (s : State) (n : Nat) : Nat × Nat := ((s.mon n).cur.e - 1, (s.mon n).cur.span)
def State.fmLong (s : State) (n : Nat) : Nat × Nat := ((longSum (s.fmGates n)).1 - 1, (longSum (s.fmGates n)).2)

/-- FM_FAST_GATE_END (R114–R118): the estimates of the gate and of the last HOLD_S seconds are formed and judged. -/
def execFmFastGateEnd (n : Nat) (_ _ _ _ : Unit) (s : State) : Res :=
  .next (if 24 ≤ n || !s.inLive n then s
    else
      let nom := s.get F.inNom_NOM_FREQ n
      let (fe, ft) := s.fmFast n
      let (le, lt) := s.fmLong n
      let held := (s.mon n).held
      let s := if le = 0 ∨ lt = 0 then s
        else s.putI F.inFmDf_DF (satInt 48 (awayDiv (s.fmNum n le lt * 10000000000) (lt * nom))) n
      let s := s.setMon n { s.mon n with cur := {}, gates := s.fmGates n, held := s.getB F.inStat_ACT_OK n }
      let mag (e t : Nat) : Nat := (s.fmNum n e t).natAbs * 10000000000
      if fe = 0 ∨ ft = 0 then s.setMon n { s.mon n with hold := 0 }
      else if s.get F.inFmLim_REJ n * (ft * nom) < mag fe ft then
        (((s.putB F.inStat_REJ_FREQ true n).fmForce n)).monShow n
      else if s.get F.inFmLim_ACC n * (ft * nom) ≤ mag fe ft || !held then
        s.setMon n { s.mon n with hold := 0 }
      else
        let s := s.setMon n { s.mon n with hold := (s.mon n).hold + s.fastGate n }
        if decide (max 1 (s.get F.inFmGate_HOLD_S n) * Config.secTicks ≤ (s.mon n).hold) && decide (0 < lt) && decide (0 < le) &&
            decide (mag le lt < s.get F.inFmLim_ACC n * (lt * nom)) then
          (s.putB F.inStat_FREQ_OK true n).monShow n
        else s)

/-- MON_RESTART (0x23). -/
def execMonRestart (c : Caller) (mask : Nat) (s : State) : Res :=
  .next (s.runCmd c 0x23 [notOwner s c, (decide (2 ^ 24 ≤ mask), .badArg)]
    ((maskList 24 mask).foldl (fun s n => s.monRestart n) s))

/-! ### TDCs (R132–R140) -/

def State.tdc (s : State) (t : Nat) : Tdc := tabGet {} s.rim.tdcs t
def State.setTdc (s : State) (t : Nat) (x : Tdc) : State :=
  { s with rim := { s.rim with tdcs := tabSet {} s.rim.tdcs t x } }

/-- Running sums of a list of counts. -/
def cumulate : Nat → List Nat → List Nat
  | _, [] => []
  | a, x :: l => (a + x) :: cumulate (a + x) l

/-- Edges counted by a calibration. -/
abbrev calEdges : Nat := 16777216

/-- END of each phase interval, and CENTRE of each bin (R132). -/
def phaseEnds (hp : List Nat) : List Nat :=
  (cumulate 0 hp).map fun c => (roundDiv (Int.ofNat (2097152 * c)) (10 * calEdges)).toNat

def binCentres (hb : List Nat) : List Nat :=
  ((cumulate 0 hb).zip hb).map fun e => (roundDiv (Int.ofNat (262144 * (2 * (e.1 - e.2) + e.2))) (20 * calEdges)).toNat

/-- The widths between consecutive ends, the first from zero. -/
def widths : Nat → List Nat → List Int
  | _, [] => []
  | a, x :: l => (Int.ofNat x - Int.ofNat a) :: widths x l

/-- The tables pass R133. -/
def tablesOk (hp hb : List Nat) : Bool :=
  hb.getD 255 0 == 0 && (widths 0 (phaseEnds hp)).all (fun w => decide ((10 * w - 262144).natAbs ≤ 5240)) &&
    hb.all fun h => decide (262144 * h ≤ 2620 * calEdges)

/-- RESID of a TDC (R140). -/
def State.resid (s : State) (t : Nat) : Nat :=
  if s.getB F.tdcStat_UNCAL t then Config.unb
  else
    let w := widths 0 ((List.range 8).map fun p => s.get F.tdcPhase_END t p)
    let hi := w.foldl max (w.headD 0)
    let lo := w.foldl min (w.headD 0)
    let dth := (s.getI F.rimTemp_TEMP_NOW - s.getI F.tdcStat_TEMP_CAL t).natAbs
    173 + ceilDiv (s.get F.tdcStat_WMAX t) 2 + ceilDiv (hi - lo).toNat 2 + ceilDiv (16384 * dth) 10000

/-- Start a calibration of a TDC (R136, R139). -/
def State.calStart (s : State) (t : Nat) : State :=
  if s.get F.tdcStat_STATE t = 0 then (s.put F.tdcStat_STATE 1 t).setTdc t { s.tdc t with attempt := 1, table := none } else s

/-- Entry to CALIBRATE starts all 64. -/
def State.calAll (s : State) : State := (List.range 64).foldl (fun s t => s.calStart t) s

/-- Every TDC has left COLLECT, CHECK, WAIT and SWAP. -/
def State.calIdle (s : State) : Bool := (List.range 64).all fun t => s.get F.tdcStat_STATE t == 0

/-- The histograms of a finished collection: every one of N edges stands in one phase interval and one bin (R132). -/
def collected (hp hb : List Nat) : Bool := hp.length == 8 && hb.length == 256 && hp.sum == calEdges && hb.sum == calEdges

/-- TDC_CAL_COLLECT_DONE (R132, R133, R139): the phase and bin histograms of the collection, whose last edge has come in a cycle
with no window of the EMU open (R134). -/
def execTdcCalCollectDone (t : Nat) (hp hb : List Nat) (s : State) : Res :=
  .next (if 64 ≤ t || s.get F.tdcStat_STATE t != 1 || !collected hp hb || s.getB F.emuStat_OPEN (t / 2) then s
    else
      if tablesOk hp hb then (s.put F.tdcStat_STATE 3 t).setTdc t { s.tdc t with table := some (hp, hb) }
      else if (s.tdc t).attempt < 3 then s.put F.tdcStat_STATE 2 t
      else ((s.put F.tdcStat_STATE 0 t).putB F.tdcStat_LAST_FAIL true t).refresh 8)

def execTdcCalTimeout (t : Nat) (s : State) : Res :=
  .next (if 64 ≤ t || s.get F.tdcStat_STATE t != 1 then s else (s.put F.tdcStat_STATE 0 t).pulse 9 0 (t / 2))

def execTdcCalWaitEnd (t : Nat) (s : State) : Res :=
  .next (if 64 ≤ t || s.get F.tdcStat_STATE t != 2 then s
    else (s.put F.tdcStat_STATE 1 t).setTdc t { s.tdc t with attempt := (s.tdc t).attempt + 1 })

/-- Write a checked table into the registers of a TDC (R132, R135). The widest bin is rounded up, since half of it, rounded up again,
is a term of a bound (R6, R140). -/
def State.putTables (s : State) (t : Nat) (hp hb : List Nat) : State :=
  let s := (hp.zip (phaseEnds hp)).zipIdx.foldl (fun s e =>
    (s.put F.tdcPhase_HITS e.1.1 t e.2).put F.tdcPhase_END e.1.2 t e.2) s
  let s := (hb.zip (binCentres hb)).zipIdx.foldl (fun s e =>
    (s.put F.tdcBin_HITS e.1.1 t e.2).put F.tdcBin_CENTRE e.1.2 t e.2) s
  let wmax := (hb.map fun h => ceilDiv (262144 * h) (10 * calEdges)).foldl max 0
  (s.put F.tdcStat_WMAX wmax t).put F.tdcStat_USED (hb.filter (· != 0)).length t

/-- TDC_TABLE_INSTALL (R135): in a cycle in which no window of the EMU is open. -/
def execTdcTableInstall (t : Nat) (s : State) : Res :=
  .next (if 64 ≤ t || s.get F.tdcStat_STATE t != 3 || s.getB F.emuStat_OPEN (t / 2) then s
    else
      match (s.tdc t).table with
      | none => s
      | some (hp, hb) =>
        let s := ((s.putTables t hp hb).put F.tdcStat_STATE 0 t).setTdc t { table := none, fresh := true }
        let s := (s.wrap F.tdcStat_GEN 1 t).putI F.tdcStat_TEMP_CAL (s.getI F.rimTemp_TEMP_NOW) t
        let s := (s.putB F.tdcStat_UNCAL false t).putB F.tdcStat_LAST_FAIL false t
        (s.put F.tdcResid_RESID (s.resid t) t).refresh 8)

/-- TDC_TEMP_TRIGGER (R136): the cluster sensor's reading, in 1/16 °C. -/
def execTdcTempTrigger (temp : Int) (s : State) : Res :=
  let s := s.putI F.rimTemp_TEMP_NOW (satInt 16 temp)
  let moved (t : Nat) : Bool :=
    !s.getB F.tdcStat_UNCAL t && decide (80 ≤ (s.getI F.rimTemp_TEMP_NOW - s.getI F.tdcStat_TEMP_CAL t).natAbs)
  .next (if s.getB F.rimCtl_CAL_AUTO then (List.range 64).foldl (fun s t => if moved t then s.calStart t else s) s else s)

/-- TDC_CAL (0x22). -/
def execTdcCal (c : Caller) (mask : Nat) (s : State) : Res :=
  .next (s.runCmd c 0x22
    [notOwner s c, (decide (2 ^ 64 ≤ mask), .badArg),
     ((maskList 64 mask).any fun t => s.get F.tdcStat_STATE t != 0, .busy)]
    ((maskList 64 mask).foldl (fun s t => s.calStart t) s))

/-! ### EMUs (R120–R131, R140–R146) -/

def State.emu (s : State) (m : Nat) : Emu := tabGet {} s.rim.emus m
def State.setEmu (s : State) (m : Nat) (x : Emu) : State :=
  { s with rim := { s.rim with emus := tabSet {} s.rim.emus m x } }

/-- The fused or factory delay of a source (R121). -/
def State.srcDelay (s : State) (src : Nat) : Int :=
  if src < 24 then Int.ofNat (Config.fusePathDelay src (!s.getB F.inCfg_SLOPE src) % 2 ^ 32)
  else if src = 0x40 then 0
  else Int.ofNat (Config.loopDelay src)

/-- ALLOW of a source (R141). -/
def State.srcAllow (s : State) (src : Nat) : Nat := if src < 24 then s.get F.inAllow_ALLOW src else 0

/-- A source code that R121 does not reserve, other than GRID. -/
def srcOk (src : Nat) : Bool := decide (src < 24) || (decide (0x20 ≤ src) && decide (src ≤ 0x41))

/-- The time of an edge seen by TDC t in phase interval p and bin b of the present cycle (R129, R130). -/
def State.edgeTime (s : State) (dom t src p b : Nat) : Int :=
  let delay := if src < 24 then s.getI F.inDelay_DELAY src else 0
  let x := Int.ofNat (s.get F.tdcPhase_END t (p % 8)) - Int.ofNat (s.get F.tdcBin_CENTRE t (b % 256)) - s.srcDelay src - delay
  s.ticks dom + roundDiv (x * (2 ^ 56 + s.domRate dom)) (2 ^ 56)

/-- MEAS_UNC of an EMU (R141). -/
def State.measUnc (s : State) (m : Nat) : Nat :=
  let side (t src : Nat) : List Nat := [s.resid t, 5243, s.srcAllow src]
  let stop := side (2 * m + 1) (s.get F.emuCfg_STOP_SRC m)
  boundSum (if s.getB F.emuCfg_MODE m then side (2 * m) (s.get F.emuCfg_START_SRC m) ++ stop else stop)

/-- The reading of TDC t lies before the start of the present cycle: its phase interval ends before its bin's centre. -/
def State.beforeCycle (s : State) (t p b : Nat) : Bool :=
  decide (s.get F.tdcPhase_END t (p % 8) < s.get F.tdcBin_CENTRE t (b % 256))

/-- A TDC whose tables a result of the EMU uses. -/
def State.emuTdcs (s : State) (m : Nat) : List Nat := if s.getB F.emuCfg_MODE m then [2 * m, 2 * m + 1] else [2 * m + 1]

/-- An edge of a source at an EMU: start first, then stop (R123, R124). `r` gives the reading of each TDC. In the cycle of opening, a
reading before its start lies outside the window (R123). -/
def State.emuEdge (s : State) (m src : Nat) (r : Nat → Nat × Nat) : State :=
  let dom := s.get F.emuCfg_DOMAIN m
  if !s.getB F.emuStat_OPEN m || (s.dom dom).st != .running then s
  else
    let time (t : Nat) : EmuEdge := { t := s.edgeTime dom t src (r t).1 (r t).2, bound := (s.dom dom).bound, steer := s.steerTicks }
    let x := s.emu m
    let inside (t : Nat) : Bool := !(x.openCyc == s.tse.cyc && s.beforeCycle t (r t).1 (r t).2)
    let interval := s.getB F.emuCfg_MODE m
    let x := if interval && s.get F.emuCfg_START_SRC m == src && x.start.isNone && inside (2 * m) then { x with start := some (time (2 * m)) } else x
    let x :=
      if s.get F.emuCfg_STOP_SRC m != src || !inside (2 * m + 1) then x
      else if x.stop.isSome then { x with extra := satNat 8 (x.extra + 1) }
      else
        let e := time (2 * m + 1)
        if !interval then { x with stop := some e }
        else
          match x.start with
          | some a => if a.t < e.t then { x with stop := some e } else x
          | none => x
    s.setEmu m x

/-- What the TDCs read of an edge: TDC, phase interval, bin. -/
def reading (tdc : List (Nat × Nat × Nat)) (t : Nat) : Nat × Nat := ((tdc.find? fun e => e.1 == t).map (·.2)).getD (0, 0)

/-- An edge of a source reaches every EMU, with each TDC's reading of it. -/
def State.edgeToEmus (s : State) (src : Nat) (r : Nat → Nat × Nat) : State :=
  (List.range 32).foldl (fun s m => s.emuEdge m src r) s

/-- An edge of an input reaches the ADPLLs that follow it (R268). -/
def State.edgeToAdplls (s : State) (src : Nat) : State :=
  (List.range 8).foldl (fun s k =>
    if s.get F.synCfg_REF_MODE k == 2 && s.get F.synCfg_REFIN k == src && decide (0 < k) then
      s.setAdpll k { s.adpll k with edges := (s.adpll k).edges + 1 } else s) s

/-- An edge of an input, which reaches the monitors, the ADPLLs and the EMUs after slope selection and prescaling (R110, R113), or
of another source of R121. -/
def State.rimEdge (s : State) (src : Nat) (rise : Bool) (gap : Nat) (tdc : List (Nat × Nat × Nat)) : State :=
  if src < 24 then
    if !s.inLive src then s
    else if s.edgePasses src rise then ((((s.prescale src rise gap).actEdge src).edgeToAdplls src).edgeToEmus src (reading tdc))
    else s.prescale src rise gap
  else if srcOk src then s.edgeToEmus src (reading tdc)
  else s

/-- An EMU_OPEN alarm fires (R123, R125, R127, R128). -/
def State.emuOpenFire (s : State) (m : Nat) (late stepped : Bool) : State :=
  if !s.getB F.emuCfg_ARMED m then s
  else if s.getB F.emuStat_OPEN m then s.setEmu m { s.emu m with extra := satNat 8 ((s.emu m).extra + 1) }
  else
    let x := s.emu m
    (s.setEmu m { x with sFlag := stepped, lFlag := late, cut := false, extra := 0, start := none, stop := none,
                         openCyc := s.tse.cyc }).putB
      F.emuStat_OPEN true m

/-- The four words of a result (R143, R144). -/
def State.resultWords (s : State) (m flags : Nat) (t : Int) (bound unc : Nat) (free : Nat) : List Word :=
  let x := s.emu m
  let tv := timeVal free t
  let interval : Int :=
    match x.start, x.stop with
    | some a, some e => if s.getB F.emuCfg_MODE m then e.t - a.t else 0
    | _, _ => 0
  [BitVec.ofNat 64 (s.get F.emuStat_SEQ m * 2 ^ 48 + tv / 2 ^ 48),
   BitVec.ofNat 64 (flags * 2 ^ 56 + m * 2 ^ 51 + tv % 2 ^ 48),
   BitVec.ofNat 64 (codeOf 64 interval),
   BitVec.ofNat 64 (ecode unc * 2 ^ 48 + ecode bound * 2 ^ 32 + s.get F.tdcStat_GEN (2 * m + 1) * 2 ^ 16 + x.extra * 2 ^ 8 +
     s.get F.emuCfg_STOP_SRC m)]

/-- A dropped result (R146). -/
def State.emuLost (s : State) (m : Nat) : State := (s.bump F.emuStat_LOST 1 m).pulse 10 0 m

/-- Into the EMU's FIFO (R146). -/
def State.toEmuFifo (s : State) (m : Nat) (words : Bool → List Word) : State :=
  let x := s.emu m
  if x.fifo.full 64 then (s.setEmu m { x with lostF := true }).emuLost m
  else s.setEmu m { x with fifo := x.fifo.add (words x.lostF), lostF := false }

/-- Into the Dravik queue (R145, R146); a drop is counted by the queue and by the EMU. -/
def State.toEmuQueue (s : State) (m : Nat) (words : Bool → List Word) : State :=
  let q := s.get F.emuCfg_QUEUE m
  (s.setEmu m { s.emu m with lostQ := false }).qPostHw q (itemOf (words (s.emu m).lostQ)) (.emu m)

/-- A window closes: its result goes to every destination (R142–R146). -/
def State.emuClose (s : State) (m : Nat) : State :=
  let x := s.emu m
  let dom := s.get F.emuCfg_DOMAIN m
  let tdcs := s.emuTdcs m
  let s := tdcs.foldl (fun s t => s.put F.tdcResid_RESID (s.resid t) t) s
  let unc := s.measUnc m
  let s := s.put F.emuResid_MEAS_UNC unc m
  let free := s.draw.1
  let now := s.ticks dom
  let e : EmuEdge := x.stop.getD { t := now, bound := (s.dom dom).bound, steer := s.steerTicks }
  let s := if 0 ≤ e.t ∧ e.t < timeSpan then s else s.draw.2
  let uncal := tdcs.any fun t => s.getB F.tdcStat_UNCAL t
  let fresh := tdcs.any fun t => (s.tdc t).fresh
  let b (v : Bool) (k : Nat) : Nat := if v then 2 ^ k else 0
  let flags (lost : Bool) : Nat :=
    b uncal 7 + b x.lFlag 6 + b x.sFlag 5 + b x.stop.isNone 4 + b (s.getB F.emuCfg_MODE m && x.start.isNone) 3 + b x.cut 2 +
      b fresh 1 + b lost 0
  let words (lost : Bool) : List Word := s.resultWords m (flags lost) e.t e.bound unc free
  let report := x.stop.isSome || s.getB F.emuCfg_EMPTY_REPORT m
  let lostAny := (x.lostF && s.getB F.emuCfg_DEST_FIFO m) || (x.lostQ && s.getB F.emuCfg_DEST_QUEUE m)
  let s0 := s
  let s := if report then tdcs.foldl (fun s t => s.setTdc t { s.tdc t with fresh := false }) s else s
  let s := if report && s0.getB F.emuCfg_DEST_FIFO m then s.toEmuFifo m words else s
  let s := if report && s0.getB F.emuCfg_DEST_QUEUE m then s.toEmuQueue m words else s
  let s := if report && s0.getB F.emuCfg_DEST_RSH m then s.emuToRsh m (s0.get F.emuCfg_STOP_SRC m) (flags lostAny) e unc else s
  let s := if report then s.tally (.ev 0x02 0x01 m 0 1 0) else s
  (s.wrap F.emuStat_SEQ 1 m).putB F.emuStat_OPEN false m

/-- An EMU_CLOSE alarm fires (R125, R142); a single window disarms the EMU. -/
def State.emuCloseFire (s : State) (m : Nat) (stepped : Bool) (period : Nat) : State :=
  if !s.getB F.emuStat_OPEN m then s
  else
    let s := if stepped then s.setEmu m { s.emu m with sFlag := true } else s
    let s := s.emuClose m
    if period = 0 then s.putB F.emuCfg_ARMED false m else s

/-- The registers of an EMU at arming. -/
def State.emuSetup (s : State) (m mode startSrc stopSrc dom dests queue emptyReport : Nat) : State :=
  let s := ((s.put F.emuCfg_MODE mode m).put F.emuCfg_START_SRC startSrc m).put F.emuCfg_STOP_SRC stopSrc m
  let s := ((s.put F.emuCfg_DOMAIN dom m).put F.emuCfg_QUEUE queue m).put F.emuCfg_EMPTY_REPORT emptyReport m
  let s := ((s.putB F.emuCfg_DEST_FIFO (bitOf dests 0) m).putB F.emuCfg_DEST_RSH (bitOf dests 1) m).putB
    F.emuCfg_DEST_QUEUE (bitOf dests 2) m
  (s.put F.emuStat_SEQ 0 m).putB F.emuCfg_ARMED true m

/-- Arm the two alarms of an EMU (R122). -/
def State.emuArm (s : State) (m dom t0 per w : Nat) (lateOk : Bool) : State :=
  match s.freeSlot 0 with
  | none => s
  | some k =>
    let late (t : Nat) : Bool := decide (Int.ofNat t ≤ s.ticks dom)
    let s := s.armSlot k 0 dom t0 .emuOpen m per lateOk (late t0)
    match s.freeSlot 0 with
    | none => s
    | some j =>
      let s := s.armSlot j 0 dom (t0 + w) .emuClose m per true (late (t0 + w))
      (s.put F.emuSlots_OPEN_SLOT k m).put F.emuSlots_CLOSE_SLOT j m

/-- PT0's allocation and the slots leave room for two alarms more. -/
def State.twoFree (s : State) : Bool :=
  match s.freeSlot 0 with
  | none => false
  | some k => decide (s.almUsed 0 + 2 ≤ s.get F.tseAlmQuota_QUOTA 0) && (freeSlotFrom s 4096 (k + 1)).isSome

/-- EMU_ARM (0x20), judged by R122, R149, R817. Destinations: bit 0 FIFO, bit 1 RSH, bit 2 queue. -/
def execEmuArm (c : Caller) (m mode startSrc stopSrc dom : Nat) (t0 : TimeVal) (per w dests queue emptyReport lateOk : Nat)
    (s : State) : Res :=
  .next (s.runCmd c 0x20
    [notOwner s c,
     (decide (32 ≤ m) || decide (1 < mode) || decide (32 ≤ dom) || !tvOk t0 || decide (8 ≤ dests) || decide (256 ≤ queue) ||
        decide (1 < emptyReport) || decide (1 < lateOk) || decide (2 ^ 64 ≤ per), .badArg),
     ((mode == 0 && startSrc != 0xff) || (mode == 1 && !srcOk startSrc) || !srcOk stopSrc, .badArg),
     ((per != 0 && decide (per < 262144000)) || decide (w * 10 < 4194304) ||
        (per != 0 && decide (per * 10 < w * 10 + 4194304)), .badArg),
     ((s.dom dom).st == .off, .badArg),
     domFree s dom, (s.getB F.emuCfg_ARMED m, .busy), (!s.twoFree, .busy),
     (lateOk == 0 && decide (Int.ofNat (tvTicks t0) ≤ s.ticks dom), .late)]
    ((s.emuSetup m mode startSrc stopSrc dom dests queue emptyReport).emuArm m dom (tvTicks t0) per w (lateOk == 1)))

/-- EMU_DISARM (0x21): both alarms are cancelled; an open window closes with CUT (R128). -/
def State.emuDisarm (s : State) (m : Nat) : State :=
  let s := (s.releaseOwn (s.get F.emuSlots_OPEN_SLOT m) .emuOpen m).releaseOwn (s.get F.emuSlots_CLOSE_SLOT m) .emuClose m
  let s := if s.getB F.emuStat_OPEN m then (s.setEmu m { s.emu m with cut := true }).emuClose m else s
  s.putB F.emuCfg_ARMED false m

def execEmuDisarm (c : Caller) (m : Nat) (s : State) : Res :=
  .next (s.runCmd c 0x21 [notOwner s c, (decide (32 ≤ m), .badArg)] (if s.getB F.emuCfg_ARMED m then s.emuDisarm m else s))

end Sys2Proof.Machine
end

