-- ==== Sys2Proof/Machine/PortCore.lean ====
section
/-! DEFINITION. NPA's core: lanes and ports, counters, stamps, the transmit timestamp queue, insertion, reservations
(09_ports_stamping.md). -/
namespace Sys2Proof.Machine

def State.nport (s : State) (p : Nat) : NPort := tabGet {} s.npa.ports p
def State.setNport (s : State) (p : Nat) (x : NPort) : State :=
  { s with npa := { s.npa with ports := tabSet {} s.npa.ports p x } }

/-- The frames of a transmit queue. -/
def State.txq (s : State) (p q : Nat) : List TxFrame := tabGet [] (s.nport p).q q
def State.setTxq (s : State) (p q : Nat) (l : List TxFrame) : State :=
  s.setNport p { s.nport p with q := tabSet [] (s.nport p).q q l }
def State.enqueue (s : State) (p q : Nat) (f : TxFrame) : State := s.setTxq p q (s.txq p q ++ [f])

/-! ### Lanes and ports (R387, R388) -/

/-- FEC code of a lane. -/
def State.laneFec (s : State) (l : Nat) : Nat := s.get F.octCfg_FEC (l / 8) / 4 ^ (l % 8) % 4

/-- Gb/s of a port by its lane mode. -/
def modeRate (m : Nat) : Nat :=
  match m with
  | 1 => 200 | 2 => 400 | 3 => 800 | 4 => 100 | 5 => 50 | 6 => 25 | 7 => 10 | _ => 1

/-- A mode of the 200 Gb/s class. -/
def is200 (m : Nat) : Bool := decide (1 ≤ m) && decide (m ≤ 3)

/-- FEC modes allowed for a lane mode (R387). -/
def fecOk (m f : Nat) : Bool :=
  match m with
  | 1 | 2 | 3 | 4 | 5 => f == 0
  | 6 => f == 1 || f == 2 || f == 3
  | 7 => f == 2 || f == 3
  | _ => false

/-- The lane modes and FEC modes of an octet from lane k on are allowed (R388); `fuel` bounds the lanes left. -/
def octOkFrom (lm fec : Nat → Nat) : Nat → Nat → Bool
  | 0, _ => true
  | f + 1, k =>
    if 8 ≤ k then true
    else if lm k = 0 then octOkFrom lm fec f (k + 1)
    else
      let n := lanesOfMode (lm k)
      n != 0 && k % n == 0 && fecOk (lm k) (fec k) &&
        (List.range (n - 1)).all (fun i => lm (k + 1 + i) == 15 && fec (k + 1 + i) == fec k) && octOkFrom lm fec f (k + n)

def octOk (lm fec : List Nat) : Bool :=
  lm.length == 8 && fec.length == 8 && lm.all (fun m => decide (m < 8) || m == 15) && fec.all (fun f => decide (f < 4)) &&
    octOkFrom (lm.getD · 0) (fec.getD · 0) 8 0

/-- The roles of PORTp_CFG.ROLE. -/
abbrev roleService := 0
abbrev rolePair := 1
abbrev roleExport := 2

/-- Ports pass frames in the present mode (R393). -/
def State.portsRun (s : State) : Bool := s.mode.running

/-- A lane's link state is cleared, to be trained anew. -/
def State.laneReset (s : State) (l : Nat) : State :=
  let s := (s.putB F.laneStat_SIGNAL false l).putB F.laneStat_PCS_LOCK false l
  { (s.putB F.laneStat_DLM_VALID false l) with npa := { s.npa with dlm := tabSet none s.npa.dlm l none } }

/-- STAMP_OK of a port: every lane has a valid measurement (R399). -/
def State.showStampOk (s : State) (p : Nat) : State :=
  s.putB F.portStat_STAMP_OK (s.leads p && (s.portLanes p).all fun l => s.getB F.laneStat_DLM_VALID l) p

/-- PORTp_CFG's domain is neither D0 nor a domain of the port's partition (R402). -/
def State.portDomBad (s : State) (p : Nat) : Bool :=
  let d := s.get F.portCfg_DOMAIN p
  d != 0 && ((s.dom d).st == .off || (s.dom d).owner != s.get F.portCfg_PART p)

/-- After a write of PORTp_CFG, direct or by a commit: `old` is what it held. MAX_FRAME is clamped, and CFG_ERR set where it was; a
read of PORTp_STAT adds R402. PAIR_SET sets the domain of a paired port, so a write leaves it there (R417). -/
def State.portWritten (s : State) (p : Nat) (old : Word) : State :=
  let mf := s.get F.portCfg_MAX_FRAME p
  let mf' := clampNat 1518 9216 mf
  let s := s.put F.portCfg_MAX_FRAME mf' p
  let s := if s.get F.portCfg_ROLE p = rolePair then s.put F.portCfg_DOMAIN (bitsOf old 20 16) p else s
  (s.putB F.portStat_CFG_ERR (mf != mf') p).refreshAll [28, 30]

/-- The function that serves a port's interrupts (R414, R630). -/
def State.portFn (s : State) (p : Nat) : Nat := fnOfPart (s.get F.portCfg_PART p)

/-! ### Counters (R413–R416, R437) -/

/-- Add n to counter i of port p when the cycle ends. -/
def State.cnt (s : State) (p i n : Nat) : State := if n = 0 then s else s.tally (.port p i n)

/-- The increment itself: 40 bits, with the half-range bit and its vector (R413, R414). -/
def State.applyCnt (s : State) (p i n : Nat) : State :=
  let old := s.get F.portCnt_COUNT p i
  let s := s.wrap F.portCnt_COUNT n p i
  if !bitOf old 39 && bitOf (s.get F.portCnt_COUNT p i) 39 then
    (s.put F.portHalf_HALF (withBit (s.get F.portHalf_HALF p) i) p).msix (s.portFn p) (s.get F.portCfg_HALF_VEC p)
  else s

/-- A byte of a frame; zero beyond its end. -/
def fb (f : List Byte) (i : Nat) : Nat := (f.getD i 0).toNat

/-- A big-endian number of n bytes at an offset. -/
def fnum (f : List Byte) (i n : Nat) : Nat := beNat ((f.drop i).take n)

/-- Where the EtherType stands, after up to two tags (R391); `fuel` is the tags that may still come. -/
def etherAt (f : List Byte) : Nat → Nat → Nat
  | 0, i => i
  | k + 1, i => if fnum f i 2 = 0x8100 ∨ fnum f i 2 = 0x88a8 then etherAt f k (i + 4) else i

def etherOfs (f : List Byte) : Nat := etherAt f 2 12
def etherType (f : List Byte) : Nat := fnum f (etherOfs f) 2
def tagged (f : List Byte) : Bool := decide (12 < etherOfs f)

/-- Where the UDP header stands in an IPv4 or IPv6 frame. -/
def udpOfs (f : List Byte) : Option Nat :=
  let n := etherOfs f + 2
  if etherType f = 0x0800 then
    (if fb f (n + 9) = 17 ∧ fb f n / 16 = 4 then some (n + 4 * (fb f n % 16)) else none)
  else if etherType f = 0x86dd then (if fb f (n + 6) = 17 then some (n + 40) else none)
  else none

/-- The UDP destination port of a frame. -/
def udpPort (f : List Byte) : Option Nat := (udpOfs f).map fun n => fnum f (n + 2) 2

/-- The messageType of a PTP message, over EtherType 0x88f7 or UDP. -/
def ptpType (f : List Byte) : Option Nat :=
  if etherType f = 0x88f7 then some (fb f (etherOfs f + 2) % 16)
  else
    match udpOfs f with
    | some n => if fnum f (n + 2) 2 = 319 ∨ fnum f (n + 2) 2 = 320 then some (fb f (n + 8) % 16) else none
    | none => none

def isPtpEvent (f : List Byte) : Bool :=
  (etherType f == 0x88f7 || udpPort f == some 319) && (match ptpType f with | some t => decide (t ≤ 3) | none => false)
def isPtpGeneral (f : List Byte) : Bool :=
  (etherType f == 0x88f7 || udpPort f == some 320) &&
    (match ptpType f with | some t => decide (8 ≤ t) && decide (t ≤ 13) | none => false)
def isNtp (f : List Byte) : Bool := udpPort f == some 123

/-- The size bucket of a length, 0 to 8 (R437). -/
def sizeBucket (l : Nat) : Option Nat :=
  if l < 64 then none else if l = 64 then some 0 else if l ≤ 127 then some 1 else if l ≤ 255 then some 2
  else if l ≤ 511 then some 3 else if l ≤ 1023 then some 4 else if l ≤ 1518 then some 5 else if l ≤ 2047 then some 6
  else if l ≤ 4095 then some 7 else if l ≤ 9216 then some 8 else none

def isBcast (f : List Byte) : Bool := fnum f 0 6 == 0xffffffffffff
def isMcast (f : List Byte) : Bool := fb f 0 % 2 == 1 && !isBcast f

/-- Count several counters by one. -/
def State.cnts (s : State) (p : Nat) (l : List (Nat × Bool)) : State :=
  l.foldl (fun s e => if e.2 then s.cnt p e.1 1 else s) s

/-- The receive counters of a frame (R437); its bytes come without FCS. -/
def State.countRx (s : State) (p : Nat) (f : List Byte) (bad : Bool) : State :=
  let l := f.length + 4
  let part := s.get F.portCfg_PART p
  let s := (s.cnt p 0 l).tally (.ev 0x10 0x01 p part l 0)
  let s := match sizeBucket l with
    | some b => if bad then s else s.cnt p (2 + b) 1
    | none => s
  s.cnts p [(1, true), (11, !isBcast f && !isMcast f), (12, isMcast f), (13, isBcast f), (14, tagged f), (15, isPtpEvent f),
            (16, isPtpGeneral f), (17, isNtp f), (18, etherType f == 0x8808), (19, bad), (20, decide (l < 64)),
            (21, decide (s.get F.portCfg_MAX_FRAME p < l))]

/-- The transmit counters of a frame. -/
def State.countTx (s : State) (p : Nat) (f : List Byte) (bad : Bool) : State :=
  let l := f.length + 4
  let s := (s.cnt p 32 l).tally (.ev 0x10 0x02 p (s.get F.portCfg_PART p) l 0)
  let s := match sizeBucket l with
    | some b => if bad then s else s.cnt p (34 + b) 1
    | none => s
  s.cnts p [(33, true), (43, !isBcast f && !isMcast f), (44, isMcast f), (45, isBcast f), (46, isPtpEvent f), (47, isNtp f)]

/-! ### Stamps (R395–R402) -/

/-- RX_CORR and TX_CORR in ticks by lane mode and FEC mode (R397). -/
def corrTable (m f : Nat) : Nat × Nat :=
  match m, f with
  | 1, _ => (31522816, 14614528)
  | 2, _ => (32374784, 15007744)
  | 3, _ => (33488896, 15597568)
  | 4, _ => (55705600, 22609920)
  | 5, _ => (101908480, 39845888)
  | 6, 1 => (47775744, 20578304)
  | 6, 2 => (36962304, 16973824)
  | 6, _ => (13697024, 10092544)
  | 7, 2 => (66781184, 28639232)
  | 7, _ => (19398656, 12451840)
  | _, _ => (0, 0)

def State.portCorr (s : State) (p : Nat) : Nat × Nat := corrTable (s.laneMode p) (s.laneFec p)

/-- V plus a physical interval of x ticks on the port's domain, in the present cycle (R396). -/
def State.stampAt (s : State) (p : Nat) (x : Int) : Int :=
  let d := s.get F.portCfg_DOMAIN p
  s.startTicks d + roundDiv (x * (2 ^ 56 + s.domRate d)) (2 ^ 56)

/-- The receive stamp of a frame start that crossed the boundary delta ticks into the present cycle. -/
def State.rxStamp (s : State) (p delta : Nat) : Int :=
  s.stampAt p (Int.ofNat delta - Int.ofNat (s.portCorr p).1 - s.getI F.laneCal_RX_CAL p - s.getI F.portRxDelay_DELAY p)

def State.txStamp (s : State) (p delta : Nat) : Int :=
  s.stampAt p (Int.ofNat delta + Int.ofNat (s.portCorr p).2 + s.getI F.laneCal_TX_CAL p + s.getI F.portTxDelay_DELAY p)

/-- The bound of a port stamp (R399, R400, R402). -/
def State.stampBound (s : State) (p : Nat) : Nat :=
  if s.portDomBad p || !s.getB F.portStat_STAMP_OK p then Config.unb
  else boundSum [(s.dom (s.get F.portCfg_DOMAIN p)).bound, 78644, s.get F.portAllow_ALLOW p]

/-- HOLD is set in a domain or in its chain of DERIVED parents (R423). -/
def State.holdChain (s : State) : Nat → Nat → Bool
  | 0, n => (s.dom n).hold
  | f + 1, n => (s.dom n).hold || ((s.dom n).kind == .derived && s.holdChain f (s.dom n).parent)

/-- HOLDOVER, NOTRACE and BOUND_SAT of a stamp of a port (R423). -/
def State.stampFlags (s : State) (p bound : Nat) : Bool × Bool × Bool :=
  let d := s.get F.portCfg_DOMAIN p
  (s.holdChain 31 d || s.mode == .service, !(s.dom d).traceable || s.mode == .service || s.fatalMode,
   bound != Config.unb && ecode bound == 0xffff)

/-- The 96-bit value of a stamp, and the state that has used up a free value where the stamp lies outside the format. -/
def State.stampVal (s : State) (t : Int) : Nat × State :=
  (timeVal s.draw.1 t, if 0 ≤ t ∧ t < timeSpan then s else s.draw.2)

/-! ### Transmit timestamp queue (R409–R411) -/

/-- An entry of port p. -/
def State.txtsPush (s : State) (p ident : Nat) (t : Int) (bound : Nat) (rx launch : Bool) : State :=
  let x := s.nport p
  if x.txts.full 64 then
    ((s.setNport p { x with txtsLost := true }).cnt p 50 1).pulse 32 (s.get F.portCfg_PART p) p
  else
    let (v, s) := s.stampVal t
    let (hold, notrace, sat) := s.stampFlags p bound
    let b (v : Bool) (k : Nat) : Nat := if v then 2 ^ k else 0
    let flags := b rx 7 + b x.txtsLost 6 + b launch 5 + b hold 3 + b notrace 2 + b sat 1
    let e : List Word :=
      [BitVec.ofNat 64 (ident % 2 ^ 16 * 2 ^ 48 + v / 2 ^ 48), BitVec.ofNat 64 (ecode bound * 2 ^ 48 + v % 2 ^ 48),
       BitVec.ofNat 64 (flags * 2 ^ 56 + s.get F.portCfg_DOMAIN p * 2 ^ 48)]
    s.setNport p { x with txts := x.txts.add e, txtsLost := false }

/-! ### Insertion (R403, R404) -/

/-- Bytes written over a frame at an offset. -/
def patch (f : List Byte) (ofs : Nat) (b : List Byte) : List Byte := f.take ofs ++ b ++ f.drop (ofs + b.length)

/-- The sum of the bytes of a list from offset i on, each with its weight in a 16-bit word aligned to `ref`, modulo 65,535. -/
def csumOf (ref : Nat) : Nat → List Byte → Nat
  | _, [] => 0
  | i, b :: l => ((if (i + ref) % 2 = 0 then 256 * b.toNat else b.toNat) + csumOf ref (i + 1) l) % 65535

/-- The incremental update of a UDP checksum for the bytes that differ (R404). -/
def csumFix (f g : List Byte) (ofs : Nat) : List Byte :=
  let c := fnum f ofs 2
  if c = 0 ∧ etherType f = 0x0800 then g
  else
    let x := (65535 - c + csumOf ofs 0 g + (65535 - csumOf ofs 0 f)) % 65535
    patch g ofs (beBytes 2 (65535 - x))

/-- The NTP fields of a stamp: seconds and fraction (R403). A fraction that rounds up to 2^32 shows as 0 and carries nothing into the
seconds (DESIGN CHOICE: log entry 79). -/
def State.ntpFields (s : State) (dom : Nat) (v : Nat) : List Byte :=
  let sec : Int := Int.ofNat (v / 2 ^ 48)
  let utc : Int := if dom = 0 then sec - s.getI F.tseUtc_UTC_OFFSET - (if s.getB F.tseUtc_LEAP_FLAG then 1 else 0) else sec
  let sub := v % 2 ^ 48
  let ticks := sub / 2 ^ 18 * 262144 + sub % 2 ^ 18
  let frac := (roundDiv (Int.ofNat (ticks * 2 ^ 32)) Config.secTicks).toNat
  beBytes 4 (codeOf 32 (utc + 2208988800)) ++ beBytes 4 (frac % 2 ^ 32)

/-- The frame with its transmit stamp inserted (R403, R404). -/
def State.inserted (s : State) (p : Nat) (x : TxFrame) (v : Nat) : List Byte :=
  let f := x.bytes
  let g := match x.insert with
    | 1 => patch f x.timeOfs (beBytes 6 (v / 2 ^ 48) ++ beBytes 4 (v % 2 ^ 48 / 2 ^ 18))
    | 2 => patch f x.timeOfs (s.ntpFields (s.get F.portCfg_DOMAIN p) v)
    | _ => f
  let g := if x.insert = 1 ∧ x.corrOfs ≠ 0xffff then
      let c := signedOf 64 (fnum f x.corrOfs 8) + roundDiv (Int.ofNat (v % 2 ^ 18)) 4
      patch g x.corrOfs (beBytes 8 (codeOf 64 (if 2 ^ 63 - 1 < c then 2 ^ 63 - 1 else c)))
    else g
  if x.insert ≠ 0 ∧ x.csumOfs ≠ 0xffff then csumFix f g x.csumOfs else g

/-! ### Sending (R394, R406–R408) -/

/-- Ticks of the port's domain that a frame of n bytes without FCS takes with preamble and minimum gap, rounded up (R406, R407): the
interval on the wire at the rate of the domain, as R396 converts an interval. -/
def State.frameTicks (s : State) (p n : Nat) : Nat :=
  ceilDiv ((n + 24) * 8 * 262144 * (2 ^ 56 + s.domRate (s.get F.portCfg_DOMAIN p)).toNat) (modeRate (s.laneMode p) * 2 ^ 56)

/-- The highest transmit queue that holds a frame. -/
def State.topQueue (s : State) (p : Nat) : Option Nat := [7, 6, 5, 4, 3, 2, 1, 0].find? fun q => decide (s.txq p q ≠ [])

/-- A frame of n bytes started now would end before the next reserved opportunity (R407). -/
def State.beforeResv (s : State) (p n : Nat) (t : Int) : Bool :=
  match (s.nport p).resv with
  | [] => true
  | r :: _ => decide (t + Int.ofNat (s.frameTicks p n) ≤ r.tL)

/-- Insert a reservation in the order of opportunities. -/
def insertResv (x : Resv) : List Resv → List Resv
  | [] => [x]
  | y :: l => if x.tL < y.tL then x :: y :: l else y :: insertResv x l

/-- The first instant at or after t whose frame overlaps none of the reservations (R406). -/
def resvFree (hold : Nat) : List Resv → Int → Int
  | [], t => t
  | r :: l, t => if t < r.tL + Int.ofNat r.hold ∧ r.tL < t + Int.ofNat hold then resvFree hold l (r.tL + Int.ofNat r.hold)
                 else resvFree hold l t

/-- T_L of a launch request that holds the port for `hold` ticks: the wire's first opportunity lies opp ticks after the earliest one allowed (R406). -/
def State.launchTime (s : State) (p hold : Nat) (tReq : Int) (opp : Nat) : Int :=
  let l := (s.nport p).resv
  resvFree hold l (resvFree hold l tReq + Int.ofNat opp)

/-- Reserve an opportunity. -/
def State.reserve (s : State) (p : Nat) (r : Resv) : State := s.setNport p { s.nport p with resv := insertResv r (s.nport p).resv }

/-- T_req lies more than 1 ms after the present domain time (R406). -/
def State.reqFar (s : State) (p : Nat) (t : Int) : Bool := decide (s.ticks (s.get F.portCfg_DOMAIN p) + 262144000000 < t)
def State.reqPast (s : State) (p : Nat) (t : Int) : Bool := decide (t ≤ s.ticks (s.get F.portCfg_DOMAIN p))

end Sys2Proof.Machine
end

