-- ==== Sys2Proof/Machine/XcCore.lean ====
section
/-! DEFINITION. The exchange contexts of TSV as NPA and KVC see them: holding, freeing, sent and missed (R475, R478). -/
namespace Sys2Proof.Machine

def State.setTsv (s : State) (t : Tsv) : State := { s with tsv := t }
def State.xc (s : State) (i : Nat) : Option Xc := tabGet none s.tsv.xcs i
def State.setXc (s : State) (i : Nat) (x : Option Xc) : State := s.setTsv { s.tsv with xcs := tabSet none s.tsv.xcs i x }

/-- XCs in use. -/
def State.xcBusy (s : State) : Nat := s.tsv.xcs.length
/-- XCs that partition p holds. -/
def State.xcHeld (s : State) (p : Nat) : Nat :=
  (s.tsv.xcs.filter fun e => match e.2 with | some x => x.part == p | none => false).length

/-- Count counter i of address a when the cycle ends (R525). -/
def State.svcCnt (s : State) (a i : Nat) : State := s.tally (.svc a i 1)

/-- XC_BUSY and XC_PEAK follow the XCs in use. -/
def State.showXcs (s : State) : State :=
  let n := s.xcBusy
  (s.put F.tsvStat_XC_BUSY n).put F.tsvStat_XC_PEAK (max n (s.get F.tsvStat_XC_PEAK))

/-- Free an XC: its pin is released, and no frame of it is sent any more. -/
def State.xcFree (s : State) (i : Nat) : State :=
  match s.xc i with
  | none => s
  | some x =>
    let keep (f : TxFrame) : Bool := f.xc != some i
    let clean (p : NPort) : NPort :=
      { p with q := (p.q.map fun e => (e.1, e.2.filter keep)).filter fun e => e.2 != [], resv := p.resv.filter fun r => r.xc != some i }
    let port := s.get F.svcCfg_PORT x.svc
    let s := (s.setNport port (clean (s.nport port))).setXc i none
    let s := match x.pin with
      | some (v, g) => s.unpin v g
      | none => s
    s.showXcs

/-- The frame of an XC has been sent (R475): responses are counted, a Follow_Up goes to queue 6 (R505). -/
def State.xcSent (s : State) (i : Nat) : State :=
  match s.xc i with
  | none => s
  | some x =>
    let resp := match x.msg with
      | .sync _ | .announce _ => false
      | _ => true
    let s := if resp then (s.svcCnt x.svc 1).tally (.ev 0x07 0x02 x.svc x.part 1 0) else s
    let s := match x.follow with
      | some f => s.enqueue (s.get F.svcCfg_PORT x.svc) 6 f
      | none => s
    s.xcFree i

/-- LAUNCH_LEAD in use, in ticks (R484). -/
def State.launchLead (s : State) : Int := Int.ofNat (clampNat 400 10000 (s.get F.tsvCfg_LAUNCH_LEAD) * Config.nsTicks)

/-- Reserve the launch of an XC whose frame holds its port for `hold` ticks; none where NPA has no reservation left (R484). -/
def State.xcReserve (s : State) (i p hold opp : Nat) : Option State :=
  match s.xc i with
  | none => none
  | some x =>
    if 64 ≤ (s.nport p).resv.length then none
    else
      let d := s.get F.portCfg_DOMAIN p
      let tL := s.launchTime p hold (s.ticks d + s.launchLead) opp
      let s := s.reserve p { tL := tL, hold := hold, xc := some i }
      some (s.setXc i (some { x with stage := .build, tL := tL, tRead := s.ticks d, bRead := (s.dom d).bound }))

/-- An XC that ends in TIMEOUT (R475). -/
def State.xcTimeout (s : State) (i : Nat) : State :=
  match s.xc i with
  | none => s
  | some x => (s.bump F.tsvDrop_TIMEOUT 1 x.part).xcFree i

/-- LAUNCH_MISS of an XC: reserved again once, then freed (R475). -/
def State.xcMiss (s : State) (p i hold : Nat) : State :=
  match s.xc i with
  | none => s
  | some x =>
    if 0 < x.misses then s.xcTimeout i
    else
      match (s.setXc i (some { x with misses := 1 })).xcReserve i p hold 0 with
      | some t => t
      | none => s.xcTimeout i

/-- An XC that ends in KEY_ABORT (R475, R476). -/
def State.xcAbort (s : State) (i : Nat) : State :=
  match s.xc i with
  | none => s
  | some x => (s.bump F.tsvErr_KEY_ABORT 1 x.part).xcFree i

/-- Every XC for which `p` holds, freed by `f`. -/
def State.xcEach (s : State) (p : Xc → Bool) (f : State → Nat → State) : State :=
  (tabKeys (fun _ x => match x with | some v => p v | none => false) s.tsv.xcs).foldl f s

end Sys2Proof.Machine
end

