-- ==== Sys2Proof/Machine/Ports.lean ====
section
/-! DEFINITION. NPA: sending and launching frames, links, export, pairs (09_ports_stamping.md). -/
namespace Sys2Proof.Machine

/-- The frame starts on the wire: counted, stamped, inserted, entered in the timestamp queue where asked for. -/
def State.sendFrame (s : State) (p : Nat) (x : TxFrame) (t : Int) (launch : Bool) : State :=
  let (v, s) := s.stampVal t
  let g := s.inserted p x v
  let s := (s.countTx p g false).emit (.frame p g false)
  let s := s.tally (.ev 0x10 0x03 p (s.get F.portCfg_PART p) 1 0)
  let s := match x.tsReq with
    | some i => s.txtsPush p i t (s.stampBound p) false launch
    | none => s
  match x.xc with
  | some i => s.xcSent i
  | none => s

/-- FRAME_TX: the next frame starts, crossing the boundary delta ticks into the cycle. -/
def execFrameTx (port delta : Nat) (s : State) : Res :=
  .next (if !s.leads port || !s.portsRun || !s.getB F.portCfg_EN port || !s.getB F.portStat_LINK port ||
      s.get F.portCfg_ROLE port == rolePair then s
    else
      match s.topQueue port with
      | none => s
      | some q =>
        match s.txq port q with
        | [] => s
        | x :: l =>
          let t := s.txStamp port delta
          if s.beforeResv port x.bytes.length t then (s.setTxq port q l).sendFrame port x t false else s)

/-- What follows a launch: the completion of a PORT_SEND, T_L or LATE (R433); for the frame of an XC, LAUNCH_MISS (R475). -/
def State.launchDone (s : State) (p : Nat) (r : Resv) (ok : Bool) : State :=
  let s := match r.caller with
    | none => s
    | some c => if ok then s.complete c 0xd4 .ok (beBytes 12 (timeVal 0 r.tL)) else s.complete c 0xd4 .late
  match r.xc with
  | some i => if ok then s else s.xcMiss p i r.hold
  | none => s

/-- LAUNCH_MISS of port p (R408, R435). -/
def State.launchMiss (s : State) (p : Nat) (r : Resv) : State :=
  ((s.cnt p 49 1).pulse 33 (s.get F.portCfg_PART p) p).launchDone p r false

/-- LAUNCH_OPPORTUNITY (R407, R408): the earliest reserved opportunity arrives, delta ticks into the cycle. -/
def execLaunchOpportunity (port delta : Nat) (s : State) : Res :=
  .next (match (s.nport port).resv with
    | [] => s
    | r :: l =>
      let s := s.setNport port { s.nport port with resv := l }
      match r.frame with
      | none => s.launchMiss port r
      | some x =>
        let t := s.txStamp port delta
        if s.getB F.portStat_LINK port && s.getB F.portCfg_EN port && s.portsRun && decide ((t - r.tL).natAbs ≤ 1) && decide (r.arrived + 125 ≤ s.tse.cyc) then
          (s.sendFrame port x r.tL true).launchDone port r true
        else s.launchMiss port r)

/-- The offsets of an insertion lie in the frame (R433). -/
def insertOk (n insert timeOfs corrOfs csumOfs : Nat) : Bool :=
  let inside (o k : Nat) : Bool := o == 0xffff || decide (o + k ≤ n)
  match insert with
  | 0 => true
  | 1 => timeOfs != 0xffff && inside timeOfs 10 && inside corrOfs 8 && inside csumOfs 2
  | 2 => timeOfs != 0xffff && inside timeOfs 8 && inside csumOfs 2
  | _ => false

/-- PORT_SEND (0xd4), judged by R406 and R433. -/
def execPortSend (c : Caller) (port queue : Nat) (frame : List Byte) (tsReq : Option Nat)
    (insert timeOfs corrOfs csumOfs : Nat) (launch : Option TimeVal) (opp : Nat) (s : State) : Res :=
  let part := s.get F.portCfg_PART port
  let n := frame.length
  let x : TxFrame := { bytes := frame, tsReq := tsReq.map (· % 2 ^ 16), insert := insert, timeOfs := timeOfs,
                       corrOfs := corrOfs, csumOfs := csumOfs }
  let base : List (Bool × Status) :=
    [(!s.leads port, .badArg)] ++ ofPart s c part ++
    [(s.get F.portCfg_ROLE port != roleService || decide (n < 60) || decide (1514 < n) ||
        !insertOk n insert timeOfs corrOfs csumOfs || (insert != 0 && launch.isSome), .badArg)]
  .next (match launch with
    | none =>
      s.runCmd c 0xd4 (base ++ [(!([0, 1, 3, 4].contains queue), .badArg)]) (s.enqueue port queue x)
    | some t =>
      let tr := Int.ofNat (tvTicks t)
      s.runDeferred c 0xd4
        (base ++ [(!tvOk t || s.reqFar port tr, .badArg), (s.reqPast port tr, .late),
                  (decide (64 ≤ (s.nport port).resv.length), .busy)])
        (s.reserve port { tL := s.launchTime port (s.frameTicks port n) tr opp, hold := s.frameTicks port n, frame := some x, arrived := s.tse.cyc,
                          caller := some c }))

/-! ### Slow path (R394) -/

/-- A frame for CP firmware; the excess over 65,536 in a second of CLK_TSE cycles is counted. -/
def State.slowPath (s : State) (p : Nat) : State :=
  let x := s.nport p
  let w := s.tse.cyc / 1250000000
  let n := if x.slowWin = w then x.slowN else 0
  let s := s.setNport p { x with slowWin := w, slowN := min 65536 (n + 1) }
  if n < 65536 then s else s.cnt p 26 1

/-! ### Links and DLM (R398, R399, R435) -/

/-- The lead lane of the port to which a lane belongs. -/
def State.leadOf (s : State) (l : Nat) : Option Nat :=
  [l, l - 1, l - 2, l - 3].find? fun k => s.leads k && decide (k ≤ l) && decide (l < k + lanesOfMode (s.laneMode k))

/-- LINK of a port from its lanes: all have PCS lock. -/
def State.showLink (s : State) (p : Nat) : State :=
  let up := s.leads p && (s.portLanes p).all fun l => s.getB F.laneStat_PCS_LOCK l
  let s := if s.getB F.portStat_LINK p && !up then s.putB F.portStat_DOWN_SEEN true p else s
  ((s.putB F.portStat_LINK up p).showStampOk p).refreshAll [28, 30]

def execPortLinkUp (lane : Nat) (s : State) : Res :=
  .next (match s.leadOf lane with
    | none => s
    | some p =>
      if 64 ≤ lane || !s.mode.up then s
      else ((((s.laneReset lane).putB F.laneStat_SIGNAL true lane).putB F.laneStat_PCS_LOCK true lane).showLink p))

def execPortLinkDown (lane : Nat) (s : State) : Res :=
  .next (match s.leadOf lane with
    | none => s
    | some p => if 64 ≤ lane then s else (s.laneReset lane).showLink p)

/-- DLM_MEASURE (R398, R399): whether it completed within 100 µs, and the measured parts. -/
def execDlmMeasure (lane : Nat) (done : Bool) (rx tx : Int) (s : State) : Res :=
  .next (match s.leadOf lane with
    | none => s
    | some p =>
      if 64 ≤ lane || !s.getB F.laneStat_PCS_LOCK lane then s
      else
        let prev := tabGet none s.npa.dlm lane
        let near := match prev with
          | none => true
          | some (r, t) => decide ((rx - r).natAbs ≤ 52429) && decide ((tx - t).natAbs ≤ 52429)
        let s := if done then { s with npa := { s.npa with dlm := tabSet none s.npa.dlm lane (some (rx, tx)) } } else s
        if done && near then
          let m := s.laneMode p
          let s := (s.putI F.laneCal_RX_CAL (Config.laneFuse lane m false + rx) lane).putI F.laneCal_TX_CAL
            (Config.laneFuse lane m true + tx) lane
          ((s.putB F.laneStat_DLM_VALID true lane).showStampOk p).refresh 30
        else (s.putB F.laneStat_DLM_FAILED true lane).refresh 30)

/-- FEC_UNCORR (R435): an uncorrectable codeword. -/
def execFecUncorr (lane : Nat) (s : State) : Res :=
  .next (match s.leadOf lane with
    | none => s
    | some p => if 64 ≤ lane then s else (s.cnt p 24 1).pulse 31 (s.get F.portCfg_PART p) p)

/-! ### Export (R426–R431) -/

def State.setNpa (s : State) (n : Npa) : State := { s with npa := n }

/-- EXP_RATE of an export port (R429). -/
def expRate (m : Nat) : Nat :=
  match m with
  | 1 => 78894 | 2 => 157788 | 3 => 315576 | _ => 0

/-- EXP_BURST in use. -/
def State.expBurst (s : State) : Nat := clampNat 1 4096 (s.get F.npaExpRate_BURST)

/-- The tokens that one CLK_TSE cycle adds (R428). -/
def State.expCycle (s : State) : State :=
  if s.getB F.npaExpCfg_EN then
    s.setNpa { s.npa with tokens := min (s.expBurst * 65536) (s.npa.tokens + s.get F.npaExpRate_RATE) }
  else s

/-- Close the open export frame and queue it (R430, R431). -/
def State.exportClose (s : State) : State :=
  let l := s.npa.recs
  if l = [] then s
  else
    let p := s.get F.npaExpCfg_PORT
    let f := beBytes 6 (s.get F.npaExpDst_DST) ++ beBytes 6 (Config.exportMac % 2 ^ 48) ++ beBytes 2 (s.get F.npaExpCfg_ETYPE) ++
      [byte 1, byte (if s.npa.expLost then 1 else 0)] ++ beBytes 2 l.length ++ beBytes 4 (s.get F.npaExpStat_SEQ) ++
      beBytes 2 s.npa.recHigh ++ beBytes 6 0 ++ l.flatten
    let s := (s.setNpa { s.npa with recs := [], expLost := false }).wrap F.npaExpStat_SEQ 1
    s.enqueue p 2 { bytes := f }

/-- EXPORT_FLUSH (R431): where FLUSH (units of 100 ns, 125 CLK_TSE cycles) has elapsed since the first record of the open frame, it is
closed. -/
def execExportFlush (s : State) : Res :=
  .next (if s.npa.recAt + 125 * s.get F.npaExpCfg_FLUSH ≤ s.tse.cyc then s.exportClose else s)

/-- A stamp is offered for export (R428): admitted where one whole token is available. The stamps of one cycle take tokens in the order
of their commands, which stands for the rotating order of the lanes (log entry 71). -/
def State.exportAdmit (s : State) (p : Nat) : Bool × State :=
  if !s.getB F.pairCfg_EXPORT p || !s.getB F.npaExpCfg_EN then (false, s)
  else if 65536 ≤ s.npa.tokens then (true, (s.setNpa { s.npa with tokens := s.npa.tokens - 65536 }).cnt p 56 1)
  else (false, s.cnt p 57 1)

/-- An admitted record enters the export frame, or is lost while the export link is down (R431). -/
def State.exportRecord (s : State) (r : List Byte) (secHigh : Nat) : State :=
  let p := s.get F.npaExpCfg_PORT
  if !s.getB F.portStat_LINK p then
    ((s.setNpa { s.npa with expLost := true }).bump F.npaExpStat_EXP_LOST 1).pulse 34 0 p
  else
    let n := if s.npa.recs = [] then { s.npa with recHigh := secHigh, recAt := s.tse.cyc } else s.npa
    let s := s.setNpa { n with recs := n.recs ++ [r] }
    if 88 ≤ s.npa.recs.length then s.exportClose else s

/-- EXPORT_SET (0xd3); port 0xff stands for NONE. -/
def execExportSet (c : Caller) (port dst etype flush : Nat) (s : State) : Res :=
  let old := s.get F.npaExpCfg_PORT
  let s1 := if s.getB F.npaExpCfg_EN then s.put F.portCfg_ROLE roleService old else s
  let s1 := ((s1.put F.npaExpCfg_ETYPE etype).put F.npaExpCfg_FLUSH flush).put F.npaExpDst_DST dst
  let s2 := if port = 0xff then (s1.putB F.npaExpCfg_EN false).put F.npaExpRate_RATE 0
    else
      (((s1.putB F.npaExpCfg_EN true).put F.npaExpCfg_PORT port).put F.npaExpRate_RATE (expRate (s.laneMode port))).put
        F.portCfg_ROLE roleExport port |>.put F.portCfg_PART 0 port
  .next (s.runCmd c 0xd3
    [notOwner s c,
     (port != 0xff && (!s.leads port || !is200 (s.laneMode port) || s.get F.portCfg_ROLE port == rolePair), .badArg),
     (decide (2 ^ 48 ≤ dst) || decide (2 ^ 16 ≤ etype) || decide (flush < 10) || decide (10000 < flush), .badArg),
     (port != 0xff && s.resetting (s.get F.portCfg_PART port), .busy),
     (s.getB F.npaExpCfg_EN && (decide (s.npa.recs ≠ []) || decide (s.txq old 2 ≠ [])), .busy)]
    (s2.refreshAll [28, 30]))

/-! ### OCT_CFG and PAIR_SET (R388, R417, R433) -/

/-- The digits of a list in a base, the first least significant. -/
def packDigits (base : Nat) : List Nat → Nat
  | [] => 0
  | x :: l => x + base * packDigits base l

/-- The lanes of an octet. -/
def octLanes (q : Nat) : List Nat := (List.range 8).map (8 * q + ·)

/-- OCT_CFG (0xd0). The lanes of the octet train anew in their new modes. -/
def execOctCfg (c : Caller) (oct : Nat) (lmodes fecs : List Nat) (s : State) : Res :=
  let s1 := (s.put F.octCfg_LMODE (packDigits 16 lmodes) oct).put F.octCfg_FEC (packDigits 4 fecs) oct
  let s1 := (octLanes oct).foldl (fun s l => (s.laneReset l).showLink l) s1
  .next (s.runCmd c 0xd0
    [notOwner s c, (decide (8 ≤ oct) || !octOk lmodes fecs, .badArg),
     ((octLanes oct).any fun l => s.getB F.portCfg_EN l || s.get F.portCfg_ROLE l != roleService, .busy)]
    s1)

/-- The pair's domain is D0 or a domain of the partition (R417). -/
def State.pairDomOk (s : State) (dom part : Nat) : Bool :=
  dom == 0 || (decide (dom < 32) && (s.dom dom).st != .off && (s.dom dom).owner == part)

/-- One side of a pair. -/
def State.pairSide (s : State) (p partner dom trailer skipLl xport : Nat) : State :=
  let s := (s.put F.portCfg_ROLE rolePair p).put F.portCfg_DOMAIN dom p
  let s := ((s.put F.pairCfg_PARTNER partner p).put F.pairCfg_TRAILER trailer p).put F.pairCfg_SKIP_LL skipLl p
  (s.put F.pairCfg_EXPORT xport p).putB F.pairCfg_ACTIVE true p

/-- PAIR_SET (0xd1). -/
def execPairSet (c : Caller) (a b dom trailer skipLl xport : Nat) (s : State) : Res :=
  let part := s.get F.portCfg_PART a
  .next (s.runCmd c 0xd1
    [notOwner s c,
     (!s.leads a || !s.leads b || a == b || decide (1 < trailer) || decide (1 < skipLl) || decide (1 < xport), .badArg),
     (s.laneMode a != s.laneMode b || !is200 (s.laneMode a) || s.get F.portCfg_PART b != part ||
        s.get F.portCfg_ROLE a != roleService || s.get F.portCfg_ROLE b != roleService || !s.pairDomOk dom part, .badArg),
     (s.resetting part, .busy), (decide ((s.nport a).resv ≠ []) || decide ((s.nport b).resv ≠ []), .busy)]
    (((s.pairSide a b dom trailer skipLl xport).pairSide b a dom trailer skipLl xport).refreshAll [28, 30]))

/-! ### Pass-through (R418–R423) -/

/-- The byte times that must follow a frame for a trailer to fit (R421). -/
abbrev trailerGap : Nat := 36

/-- Why a frame goes without a trailer: the counter of R421, the first that applies; 51 for an inserted trailer. -/
def State.trailerRow (s : State) (p : Nat) (f : List Byte) (bad : Bool) (gap : Nat) : Nat :=
  let l := f.length + 4
  let e := s.get F.pairCfg_PARTNER p
  if bad then 55
  else if l < 64 ∨ s.get F.portCfg_MAX_FRAME e < l + 16 then 53
  else if s.getB F.pairCfg_SKIP_LL p && fnum f 0 5 == 0x0180c20000 && decide (fb f 5 < 16) then 54
  else if gap < trailerGap then 52
  else 51

/-- The 16 bytes of the trailer as formed (R422). -/
def trailerBytes (p seq v bound : Nat) (hold notrace sat exported : Bool) : List Byte :=
  let b (v : Bool) (k : Nat) : Nat := if v then 2 ^ k else 0
  let nsec := v % 2 ^ 48 / 2 ^ 18
  let frac := v % 2 ^ 18
  [byte (16 + b hold 3 + b notrace 2 + b sat 1 + b exported 0), byte (p % 64)] ++ beBytes 2 seq ++
    beBytes 4 (v / 2 ^ 48 % 2 ^ 32) ++ beBytes 4 (nsec * 4 + frac / 2 ^ 16) ++ beBytes 2 (frac % 2 ^ 16) ++ beBytes 2 (ecode bound)

/-- PASS_FRAME_FORWARD (R418, R419): the oldest frame on its way to an egress starts at the ball. -/
def execPassFrameForward (port : Nat) (s : State) : Res :=
  .next (match (s.nport port).flight with
    | [] => s
    | (f, bad) :: l =>
      let s := s.setNport port { s.nport port with flight := l }
      if s.getB F.portStat_LINK port then (s.countTx port f bad).emit (.frame port f bad)
      else (s.cnt port 48 1).pulse 35 (s.get F.portCfg_PART port) port)

end Sys2Proof.Machine
end

