-- ==== Sys2Proof/Machine/Ledger.lean ====
section
/-! DEFINITION. SLG: chains, windows, frame digests, pages, checkpoints, and the pass-through frames that feed them
(10_stamp_ledger.md, R417–R425). -/
namespace Sys2Proof.Machine

def State.chain (s : State) (l : Nat) : SlgChain := tabGet {} s.slg.chains l
def State.setChain (s : State) (l : Nat) (c : SlgChain) : State :=
  { s with slg := { s.slg with chains := tabSet {} s.slg.chains l c } }
def State.slgPart (s : State) (p : Nat) : SlgPart := tabGet {} s.slg.parts p
def State.setSlgPart (s : State) (p : Nat) (x : SlgPart) : State :=
  { s with slg := { s.slg with parts := tabSet {} s.slg.parts p x } }

/-! ### The frame digest (R443–R446) -/

/-- The prime 2^64 − 59. -/
abbrev digestPrime : Nat := 0xffffffffffffffc5

/-- The 7-byte blocks of a message, the last padded with zeros; `fuel` bounds their number. -/
def blocks7 : Nat → List Byte → List Nat
  | 0, _ => []
  | _, [] => []
  | f + 1, l => beNat ((l.take 7 ++ List.replicate 7 0#8).take 7) :: blocks7 f (l.drop 7)

/-- The digest of a message under a 16-byte key (R444). -/
def frameDigest (key m : List Byte) : Nat :=
  let r := 2 + beNat (key.take 8) % (digestPrime - 2)
  let s := beNat ((key.drop 8).take 8) % digestPrime
  ((blocks7 (m.length + 1) m ++ [m.length]).foldl (fun h b => (h + b) * r % digestPrime) 0 + s) % digestPrime

/-- The digest unit of a chain takes a frame: its stamp value, its trailer as formed, the flag byte, its bytes (R443). -/
def State.slgFrame (s : State) (l v : Nat) (trailer : List Byte) (inserted bad : Bool) (f : List Byte) : State :=
  if (s.chain l).win = none then s
  else
    let m := trailer ++ [byte ((if inserted then 2 else 0) + (if bad then 1 else 0))] ++ f.take (s.get F.slgCfg_HDR_LEN l)
    s.setChain l { s.chain l with
      fresh := (s.chain l).fresh ++ [{ stamp := v, msg := m, len := f.length + 4, inserted := inserted }] }

/-- A window takes a frame under its digest key (R446). -/
def slgAdd (key : List Byte) (w : SlgWin) (f : SlgFrame) : SlgWin :=
  let d := frameDigest key f.msg
  let w := { w with first := some (w.first.getD f.stamp), last := f.stamp, bytes := w.bytes + f.len }
  if f.inserted then { w with framesT := w.framesT + 1, accT := (w.accT + d) % 2 ^ 64 }
  else { w with framesN := w.framesN + 1, accN := (w.accN + d) % 2 ^ 64 }

/-- The frames of the present cycle enter the window that is open in it (R440). -/
def State.slgSettle (s : State) (l : Nat) : State :=
  let c := s.chain l
  match c.win with
  | none => s.setChain l { c with fresh := [] }
  | some w => s.setChain l { c with fresh := [],
                                    win := some (c.fresh.foldl (slgAdd (s.keyBytes (s.get F.slgCfg_SLOT l) w.gen)) w) }

/-- The ingress sequence of the first frame that is in no window yet. -/
def State.slgNextSeq (s : State) (l : Nat) : Nat := ((s.nport l).seq + 65536 - (s.chain l).fresh.length % 65536) % 65536

/-! ### Windows (R440, R441, R447, R448) -/

/-- Open a window of a chain in the present cycle, whose domain value is t, pinning the key's generation (R456). -/
def State.slgOpen (s : State) (l : Nat) (t : Int) : State :=
  let d := s.get F.slgCfg_DOMAIN l
  let v := s.get F.slgCfg_SLOT l
  let (gen, s) := s.pin v
  let s := s.setChain l { s.chain l with pend := false,
                                         win := some { gen := gen, openT := t, openBound := (s.dom d).bound } }
  let s := (s.putB F.slgStat_OPEN true l).putB F.slgStat_STEPPED false l
  (s.put F.slgStat_FIRST_SEQ (s.slgNextSeq l) l).put F.slgKcv_KCV (s.keyKcv v gen) l

/-- The 12 bytes of a time value; outside the format an open one. -/
def State.timeBytes (s : State) (t : Int) : List Byte := beBytes 12 (timeVal s.draw.1 t)

/-- Close the open window of a chain in the present cycle, whose domain value is t: its page waits to be sealed, its pin is released. -/
def State.slgClose (s : State) (l : Nat) (t : Int) (step last short : Bool) : State :=
  match (s.chain l).win with
  | none => s.setChain l { s.chain l with pend := false }
  | some w =>
    let b (v : Bool) (k : Nat) : Nat := if v then 2 ^ k else 0
    let d := s.get F.slgCfg_DOMAIN l
    let part := s.get F.portCfg_PART l
    let firstSeq := s.get F.slgStat_FIRST_SEQ l
    let pseq := s.get F.slgStat_PSEQ l
    let flags := b (s.getB F.slgStat_FIRST l) 7 + b last 6 + b (step || s.getB F.slgStat_STEPPED l) 5 + b short 4
    let body := [byte part, byte l] ++ beBytes 4 pseq ++ deviceId ++ s.timeBytes w.openT ++ s.timeBytes t ++
      beBytes 2 (ecode w.openBound) ++ beBytes 2 (ecode (s.dom d).bound) ++ [byte d, byte (s.get F.slgCfg_HDR_LEN l)] ++
      beBytes 2 firstSeq ++ beBytes 12 (w.first.getD 0) ++ beBytes 12 w.last ++ beBytes 4 w.framesT ++ beBytes 4 w.framesN ++
      beBytes 8 w.bytes ++ beBytes 8 w.accT ++ beBytes 8 w.accN ++ beBytes 3 (s.get F.slgKcv_KCV l) ++ [0#8] ++
      beBytes 2 (s.slgNextSeq l + 65535) ++ List.replicate 18 0#8
    let page : SlgPage := { flags := flags, pseq := pseq, part := part, body := body }
    let s := s.setChain l { s.chain l with win := none, pend := false, closed := (s.chain l).closed ++ [page] }
    let s := ((s.putB F.slgStat_OPEN false l).putB F.slgStat_FIRST false l).putB F.slgStat_STEPPED false l
    let s := if 0 ≤ t ∧ t < timeSpan ∧ 0 ≤ w.openT ∧ w.openT < timeSpan then s else s.draw.2
    (s.wrap F.slgStat_PSEQ 1 l).unpin (s.get F.slgCfg_SLOT l) w.gen

/-- The first window of each chain opens in the cycle after its SLG_ENABLE (R440). -/
def State.slgCycle (s : State) : State :=
  (tabKeys (fun _ c => c.pend) s.slg.chains).foldl (fun s l => s.slgOpen l (s.startTicks (s.get F.slgCfg_DOMAIN l))) s

/-- The cycle ends: its frames stand in their windows. -/
def State.slgEndCycle (s : State) : State :=
  (tabKeys (fun _ c => decide (c.fresh ≠ [])) s.slg.chains).foldl (fun s l => s.slgSettle l) s

/-- The lead lanes whose chains belong to a partition. -/
def State.slgChains (s : State) (part : Nat) : List Nat :=
  (List.range 64).filter fun l => s.getB F.slgCfg_EN l && s.get F.portCfg_PART l == part

/-- A checkpoint of a partition falls due. -/
def State.slgWant (s : State) (part dom : Nat) (at' : Int) (stepped final : Bool) : State :=
  s.setSlgPart part { s.slgPart part with due := some { at' := at', dom := dom, stepped := stepped, final := final } }

/-- An SLW_CLOSE alarm fires: both chains of the pair close and open again (R440, R441, R450). The domain value is that at the start of
the cycle, and with S the one that the step has made of it (R91). -/
def State.slwClose (s : State) (port : Nat) (inst : Int) (step : Bool) : State :=
  if !s.getB F.slgCfg_EN port then s
  else
    let dom := s.get F.slgCfg_DOMAIN port
    let stepped := step || s.getB F.slgStat_STEPPED port
    let t := if step then s.ticks dom else s.startTicks dom
    let s := [port, s.get F.pairCfg_PARTNER port].foldl (fun s l => (s.slgClose l t step false step).slgOpen l t) s
    if step || inst % Int.ofNat Config.secTicks == 0 then s.slgWant (s.get F.portCfg_PART port) dom inst stepped false else s

/-- End the chains of a pair: LAST and SHORT, the alarm cancelled, and a FINAL checkpoint after the partition's last chain
(R450, R457). -/
def State.slgEnd (s : State) (port : Nat) : State :=
  if !s.getB F.slgCfg_EN port then s
  else
    let other := s.get F.pairCfg_PARTNER port
    let part := s.get F.portCfg_PART port
    let dom := s.get F.slgCfg_DOMAIN port
    let s := s.releaseOwn (s.chain port).slot .slwClose (min port other)
    let s := [port, other].foldl (fun s l =>
      ((((s.slgSettle l).slgClose l (s.startTicks dom) false true true)).putB F.slgCfg_EN false l).putB F.slgStat_FIRST true l) s
    if s.slgChains part = [] then s.slgWant part dom (s.startTicks dom) false true else s

/-- Every chain whose digest key is in a slot ends (R457). -/
def State.slgKeyGone (s : State) (slot : Nat) : State :=
  (List.range 64).foldl (fun s l => if s.getB F.slgCfg_EN l && s.get F.slgCfg_SLOT l == slot then s.slgEnd l else s) s

/-- Every chain of a partition ends (R457); a FINAL checkpoint follows. -/
def State.slgEndPart (s : State) (part : Nat) : State := (s.slgChains part).foldl (fun s l => s.slgEnd l) s

/-- Every chain ends: the entry into SAFE or SEALED (R49, R458). -/
def State.slgEndAll (s : State) : State := (List.range 8).foldl (fun s p => s.slgEndPart p) s

/-! ### Sealing and checkpoints (R449–R455) -/

/-- The page ring takes an entry: not full (R454). -/
def State.pringTakes (s : State) (p : Nat) : Bool :=
  s.getB F.slgPringCfg_EN p &&
    (s.get F.slgPringIdx_PROD p + 2 ^ 32 - s.get F.slgPringIdx_CONS p) % 2 ^ 32 != 2 ^ s.get F.slgPringCfg_SIZE p
def State.cringTakes (s : State) (p : Nat) : Bool :=
  s.getB F.slgCringCfg_EN p &&
    (s.get F.slgCringIdx_PROD p + 2 ^ 32 - s.get F.slgCringIdx_CONS p) % 2 ^ 32 != 2 ^ s.get F.slgCringCfg_SIZE p

/-- A page with its seal: PREV_TAG and TAG, zero and UNSEALED without the seal key (R447, R458). -/
def State.sealPage (s : State) (x : SlgPage) (prevTag : Nat) (lost : Bool) : Nat × List Byte :=
  let b (v : Bool) (k : Nat) : Nat := if v then 2 ^ k else 0
  let flags := x.flags + b lost 3 + b (!s.keysHeld) 2
  let head := [byte 1, byte flags] ++ x.body ++ beBytes 16 (if bitOf x.flags 7 then 0 else prevTag)
  let tag := if s.keysHeld then (Config.cmac (s.sealKey x.part) head).toNat else 0
  (tag, head ++ beBytes 16 tag)

/-- The oldest closed page of a chain is sealed and written, or dropped (R449, R453, R454); `hung`: the watchdog resets the write
(R656). -/
def State.pageSeal (s : State) (port : Nat) (hung : Bool) : State :=
  match (s.chain port).closed with
    | [] => s
    | x :: l =>
      let c := s.chain port
      let (tag, bytes) := s.sealPage x c.prevTag c.lost
      let took := s.pringTakes x.part && !hung
      let s := s.setChain port { c with closed := l, prevTag := tag, lost := !took }
      let s := if s.keysHeld then s.tallyAes x.part 9 else s
      let flags := (bytes.getD 1 0).toNat
      let s := s.setSlgPart x.part { s.slgPart x.part with
        done := (s.slgPart x.part).done ++ [{ port := port, pseq := x.pseq, flags := flags, bytes := bytes, dropped := !took }] }
      if took then
        let i := s.get F.slgPringIdx_PROD x.part % 2 ^ s.get F.slgPringCfg_SIZE x.part
        (s.emit (.dmaWrite (s.get F.slgPringBase_ADDR x.part * 4096 + 160 * i) 1 bytes)).wrap F.slgPringIdx_PROD 1 x.part
      else
        (s.bump F.slgPStat_PAGES_LOST 1 x.part).log 0x10 port 0x1001 x.part 2
          ([byte port, 0, 0, 0] ++ beBytes 4 x.pseq)

def execPageSeal (port : Nat) (s : State) : Res := .next (s.pageSeal port false)

/-- The 64-byte entry of a chain in a checkpoint; `l` is its pages in order. -/
def ckptEntry (port : Nat) (l : List SlgDone) : List Byte :=
  let b (v : Bool) (k : Nat) : Nat := if v then 2 ^ k else 0
  let has (k : Nat) : Bool := l.any fun x => bitOf x.flags k
  let eflags := b (has 7) 7 + b (has 6) 6 + b (has 5) 5 + b (has 3 || l.any (·.dropped)) 4
  [byte port, byte eflags] ++ beBytes 2 l.length ++ beBytes 4 ((l.head?.map (·.pseq)).getD 0) ++
    beBytes 4 ((l.getLast?.map (·.pseq)).getD 0) ++ beBytes 4 0 ++
    beBytes 48 (Config.sha384 (l.map (·.bytes)).flatten).toNat

/-- Header and entries of a checkpoint (R451). -/
def State.ckptBody (s : State) (p : Nat) (due : SlgDue) : List Byte :=
  let b (v : Bool) (k : Nat) : Nat := if v then 2 ^ k else 0
  let x := s.slgPart p
  let stepped := due.stepped || x.done.any fun e => bitOf e.flags 5
  let ports := (List.range 64).filter fun l => x.done.any fun e => e.port == l
  let cseq := s.get F.slgCseq_CSEQ p
  beBytes 4 0x534c4350 ++ [byte 1, byte (b due.final 7 + b stepped 6 + b x.prevLost 5), byte p, byte due.dom] ++ deviceId ++
    beBytes 8 cseq ++ s.timeBytes due.at' ++ beBytes 2 ports.length ++ [0, 0] ++
    (if cseq = 0 then List.replicate 24 0#8 else (x.prev ++ List.replicate 24 0#8).take 24) ++
    (ports.map fun l => ckptEntry l (x.done.filter fun e => e.port == l)).flatten

/-- A closed page of the partition waits for its seal. -/
def State.unsealedLeft (s : State) (p : Nat) : Bool := s.slg.chains.any fun e => e.2.closed.any fun x => x.part == p

/-- A due checkpoint is built once all pages are sealed (R450–R455): none in SEALED or without the identity key; it waits for the
generator. -/
def State.checkpointBuild (s : State) (part : Nat) (hung : Bool) : State :=
  match (s.slgPart part).due with
    | none => s
    | some due =>
      if s.unsealedLeft part then s
      else if !s.keysHeld || s.mode == .sealed then s.setSlgPart part { s.slgPart part with due := none }
      else if !s.rngOk then s
      else
        let body := s.ckptBody part due
        let s := if 0 ≤ due.at' ∧ due.at' < timeSpan then s else s.draw.2
        let (sig, s) := s.signWith 48 s.idk (beBytes 48 (Config.sha384 body).toNat)
        let bytes := body ++ sig
        let took := s.cringTakes part && !hung
        let s := s.setSlgPart part { done := [], due := none, prevLost := !took,
                                     prev := (beBytes 48 (Config.sha384 bytes).toNat).take 24 }
        let s := (s.tallyEcdsa 0xff 0).put F.slgCseq_CSEQ (s.get F.slgCseq_CSEQ part + 1) part
        if took then
          let i := s.get F.slgCringIdx_PROD part % 2 ^ s.get F.slgCringCfg_SIZE part
          ((s.emit (.dmaWrite (s.get F.slgCringBase_ADDR part * 4096 + 4352 * i) 2 bytes)).wrap F.slgCringIdx_PROD 1 part).msix
            (fnOfPart part) (s.get F.slgCringCfg_VEC part)
        else s.bump F.slgPStat_CKPT_LOST 1 part

def execCheckpointBuild (part : Nat) (s : State) : Res := .next (s.checkpointBuild part false)

/-! ### Commands (R464, R465) -/

/-- Slot, HDR_LEN and WIN of a chain. -/
def State.chainSet (s : State) (l slot hdrLen winUs dom : Nat) : State :=
  let s := (s.put F.slgCfg_SLOT slot l).put F.slgCfg_HDR_LEN hdrLen l
  let s := ((s.put F.slgCfg_WIN_US winUs l).put F.slgCfg_DOMAIN dom l).putB F.slgCfg_EN true l
  let s := ((s.put F.slgStat_PSEQ 0 l).putB F.slgStat_FIRST true l).putB F.slgStat_STEPPED false l
  s.setChain l { s.chain l with pend := true, lost := false }

/-- SLG_ENABLE (0xd8). -/
def execSlgEnable (c : Caller) (port slot hdrLen winUs : Nat) (s : State) : Res :=
  let part := s.get F.portCfg_PART port
  let other := s.get F.pairCfg_PARTNER port
  let low := min port other
  let dom := s.get F.portCfg_DOMAIN port
  let win := winUs * 262144000
  let now := s.ticks dom + 2621440000
  let inst := (now + Int.ofNat win - 1) / Int.ofNat win * Int.ofNat win
  let free := s.freeSlot part
  let s1 := (s.chainSet port slot hdrLen winUs dom).chainSet other slot hdrLen winUs dom
  let k := free.getD 0
  let s2 := s1.setChain port { s1.chain port with slot := k }
  let s2 := s2.setChain other { s2.chain other with slot := k }
  .next (s.runCmd c 0xd8
    ([(!s.leads port, .badArg)] ++ ofPart s c part ++
      [(!s.getB F.pairCfg_ACTIVE port || s.getB F.slgCfg_EN port || decide (64 < hdrLen), .badArg),
       (decide (winUs < 1000) || decide (1000000 < winUs) || 1000000 % winUs != 0, .badArg),
       ((s.slgChains part).any (fun l => s.get F.slgCfg_DOMAIN l != dom) || (s.dom dom).st == .off, .badArg),
       (!s.getB F.slgPringCfg_EN part || !s.getB F.slgCringCfg_EN part, .badArg), (free == none, .busy),
       (!s.keyUsable slot part attrSeal || s.get F.vsCfg_TYPE slot != tyDigest, .noKey)])
    (s2.armSlot k part dom inst.toNat .slwClose low win true false))

/-- SLG_DISABLE (0xd9). -/
def execSlgDisable (c : Caller) (port : Nat) (s : State) : Res :=
  let part := s.get F.portCfg_PART port
  .next (s.runCmd c 0xd9
    [(!s.leads port, .badArg), (s.resetting part, .busy), (s.cPart c != part && !s.cPt0 c, .partitionDenied),
     (!s.getB F.slgCfg_EN port, .badArg)]
    (s.slgEnd port))

/-- VERSION, the reserved fields and the partition of a page are right (R465). -/
def pageForm (b : List Byte) : Bool :=
  b.length == 160 && nb b 0 == 1 && nb b 1 % 4 == 0 && decide (nb b 2 < 8) && decide (nb b 44 < 32) && nb b 107 == 0 &&
    ((b.drop 110).take 18).all (· == 0#8)

/-- SLG_PAGE_CHECK (0xda). -/
def execSlgPageCheck (c : Caller) (page : List Byte) (s : State) : Res :=
  .next (s.runCmd c 0xda
    [(!pageForm page, .badArg), (s.cPart c != nb page 2 && !s.cPt0 c, .partitionDenied), (!s.keysHeld, .noKey),
     ((page.drop 8).take 8 != deviceId, .verifyFail),
     ((Config.cmac (s.sealKey (nb page 2)) (page.take 144)).toNat != nn page 144 16, .verifyFail)]
    (s.tallyAes (nb page 2) 9))

/-! ### Pass-through (R418–R425) -/

/-- PASS_FRAME_RX: a frame (its bytes without FCS) begins at a pair's ingress, crossing the boundary delta ticks into the cycle;
`gap` byte times follow it before the next frame. -/
def execPassFrameRx (port delta : Nat) (frame : List Byte) (bad : Bool) (gap : Nat) (s : State) : Res :=
  .next (if !s.leads port || !s.portsRun || !s.getB F.pairCfg_ACTIVE port || !s.getB F.portStat_LINK port then s
    else
      let e := s.get F.pairCfg_PARTNER port
      let seq := (s.nport port).seq
      let t := s.rxStamp port delta
      let bound := s.stampBound port
      let (v, s) := s.stampVal t
      let s := (s.countRx port frame bad).tally (.ev 0x10 0x03 port (s.get F.portCfg_PART port) 1 0)
      let (hold, notrace, sat) := s.stampFlags port bound
      let (xported, s) := s.exportAdmit port
      let trl := trailerBytes port seq v bound hold notrace sat xported
      let row := s.trailerRow port frame bad gap
      let ins := s.getB F.pairCfg_TRAILER port && row == 51
      let s := if s.getB F.pairCfg_TRAILER port then s.cnt port row 1 else s
      let s := if xported then s.exportRecord trl (v / 2 ^ 80) else s
      let s := s.slgFrame port v trl ins bad frame
      let s := s.setNport port { s.nport port with seq := (seq + 1) % 65536 }
      s.setNport e { s.nport e with flight := (s.nport e).flight ++ [(if ins then frame ++ trl else frame, bad)] })

/-- One side of a pair that is cleared. -/
def State.unpair (s : State) (p : Nat) : State :=
  ((s.wr .pairCfg 0 p).put F.portCfg_ROLE roleService p).showStampOk p

/-- PAIR_CLEAR (0xd2): the chains of the pair end, the ports become service ports (R425, R457). -/
def execPairClear (c : Caller) (port : Nat) (s : State) : Res :=
  let other := s.get F.pairCfg_PARTNER port
  .next (s.runCmd c 0xd2
    [notOwner s c, (!s.leads port || !s.getB F.pairCfg_ACTIVE port, .badArg), (s.resetting (s.get F.portCfg_PART port), .busy)]
    ((((s.slgEnd port).unpair port).unpair other).refreshAll [28, 30]))

end Sys2Proof.Machine
end

