-- ==== Sys2Proof/Machine/NavCheck.lean ====
section
/-! DEFINITION. The checks of navigation units (R173, R175): LNAV parity, the BCH code of BeiDou words, CRC-24Q. R173 names the
codes; what they compute is taken from the interface documents of the systems (PRESUMED: log entry 76). -/
namespace Sys2Proof.Machine

/-- The first n bits of words, the most significant bit of the first word first (R177). -/
def wordBits (n : Nat) (l : List Word) : List Bool :=
  (List.range n).map fun i => (l.getD (i / 64) 0).getMsbD (i % 64)

/-- A number from its bits, the most significant first. -/
def bitsNat (l : List Bool) : Nat := l.foldl (fun a b => 2 * a + b.toNat) 0

/-- Bits packed into words, the last one padded with zeros. -/
def packBits (l : List Bool) : List Word :=
  (List.range (ceilDiv l.length 64)).map fun k =>
    BitVec.ofNat 64 (bitsNat (((l.drop (64 * k)).take 64 ++ List.replicate 64 false).take 64))

/-- One bit through a shift register of w bits with the feedback of a generator polynomial. -/
def lfsrBit (w poly : Nat) (r : Nat) (b : Bool) : Nat :=
  let out := bitOf r (w - 1) != b
  let r := 2 * r % 2 ^ w
  if out then r ^^^ poly else r

/-- The remainder of bits, with their check bits at the end: zero where they pass. -/
def checkRem (w poly : Nat) (l : List Bool) : Nat := l.foldl (lfsrBit w poly) 0

/-- CRC-24Q and the BCH(15,11) code. -/
def crcFails (l : List Bool) : Bool := checkRem 24 0x864cfb l != 0
def bchFails (l : List Bool) : Bool := checkRem 4 0x3 l != 0

/-- The data bits of an LNAV word that each of its six parity bits sums, numbered from 1, and which of D29* and D30* it takes. -/
def lnavParity : List (Bool × List Nat) :=
  [(false, [1, 2, 3, 5, 6, 10, 11, 12, 13, 14, 17, 18, 20, 23]), (true, [2, 3, 4, 6, 7, 11, 12, 13, 14, 15, 18, 19, 21, 24]),
   (false, [1, 3, 4, 5, 7, 8, 12, 13, 14, 15, 16, 19, 20, 22]), (true, [2, 4, 5, 6, 8, 9, 13, 14, 15, 16, 17, 20, 21, 23]),
   (true, [1, 3, 5, 6, 7, 9, 10, 14, 15, 16, 17, 18, 21, 22, 24]), (false, [3, 5, 6, 8, 9, 10, 11, 13, 15, 19, 22, 23, 24])]

/-- An LNAV word fails its parity: `l` is D29*, D30* and the thirty bits as sent. -/
def lnavFails (l : List Bool) : Bool :=
  let d30 := l.getD 1 false
  let data (i : Nat) : Bool := l.getD (i + 1) false != d30
  lnavParity.zipIdx.any fun e =>
    let star := if e.1.1 then d30 else l.getD 0 false
    (e.1.2.foldl (fun a i => a != data i) star) != l.getD (26 + e.2) false

/-- The preamble of a BeiDou B1I subframe, with which its first word begins. -/
def b1iPreamble : List Bool := [true, true, true, false, false, false, true, false, false, true, false]

/-- The bits of a unit that its check covers, fail (R175). The first half of the first word of a B1I subframe carries no code; the
tails of Galileo pages and the bits after the CRC of I/NAV are not covered. -/
def navFails (fmt : Nat) (l : List Bool) : Bool :=
  match fmt with
  | 0x01 => lnavFails l
  | 0x11 => crcFails (l.take 114 ++ (l.drop 120).take 106)
  | 0x12 => crcFails (l.take 238)
  | 0x21 => bchFails (l.drop 15) || (l.take 11 != b1iPreamble && bchFails (l.take 15))
  | _ => crcFails l

end Sys2Proof.Machine
end

