-- ==== Sys2Proof/Machine/Gnss.lean ====
section
/-! DEFINITION. GNB: sample ports, channels, measurement epochs, navigation records, the GPPS and its timing message, position
and survey (04_gnss_baseband.md). -/
namespace Sys2Proof.Machine

def State.setGnb (s : State) (g : Gnb) : State := { s with gnb := g }

def State.gsp (s : State) (n : Nat) : Gsp := tabGet {} s.gnb.gsp n
def State.setGsp (s : State) (n : Nat) (x : Gsp) : State := s.setGnb { s.gnb with gsp := tabSet {} s.gnb.gsp n x }

/-- The signals by SIG_EN bit: code, port, carrier in Hz, half main lobe in Hz (R161). -/
def signalTable : List (Nat × Nat × Nat × Nat) :=
  [(0x01, 0, 1575420000, 1023000), (0x02, 0, 1575420000, 2046000), (0x03, 1, 1176450000, 10230000),
   (0x11, 0, 1575420000, 2046000), (0x12, 1, 1176450000, 10230000), (0x21, 0, 1561098000, 2046000),
   (0x22, 0, 1575420000, 2046000), (0x23, 1, 1176450000, 10230000), (0x31, 0, 1575420000, 1023000),
   (0x32, 1, 1176450000, 10230000)]

/-- The SIG_EN bit of a signal code (R161). -/
def signalBit (code : Nat) : Option Nat := signalTable.findIdx? fun e => e.1 == code

/-- The sample port of a signal code. -/
def signalPort (code : Nat) : Nat := ((signalTable.find? fun e => e.1 == code).map (·.2.1)).getD 0

/-- DIV of a port (R155). -/
def State.gspDiv (s : State) (n : Nat) : Nat :=
  match s.get F.gspCfg_DIV n with
  | 0 => 10
  | 1 => 16
  | 2 => 20
  | _ => 40

/-- The named CLKOUT comes from SYN0 through an integer divider equal to DIV (R155). -/
def State.gspClkOk (s : State) (n : Nat) : Bool :=
  let o := s.get F.gspCfg_CLKOUT n
  decide (o < 24) && s.get F.outCfg_SRC o == 0 && !s.getB F.outCfg_FRAC_EN o && s.get F.outDiv_N o == s.gspDiv n

/-- A port that GNB takes samples from. -/
def State.gspOn (s : State) (n : Nat) : Bool := s.getB F.gspCfg_ENABLE n && !s.getB F.gspLevel_CFG_ERR n

/-- A signal lies outside the band of its port (R160). -/
def State.sigOob (s : State) (bit : Nat) : Bool :=
  match signalTable[bit]? with
  | none => false
  | some (_, port, carrier, lobe) =>
    let lo := s.get F.gspLo_LO port
    let dif := (Int.ofNat (carrier * 65536) - Int.ofNat lo).natAbs + lobe * 65536
    s.gspOn port && bitOf (s.get F.gnbCfg_SIG_EN) bit && decide (45 * 1250000000 * 65536 < 100 * s.gspDiv port * dif)

/-- SIG_OOB of every enabled signal. -/
def State.showOob (s : State) : State :=
  s.put F.gnbSigStat_SIG_OOB ((List.range 10).map fun b => if s.sigOob b then 2 ^ b else 0).sum

/-- STATE of a channel (R168). -/
def State.chState (s : State) (c : Nat) : Nat := s.get F.chStat_STATE c

/-- A channel that is not IDLE moves to LOST. -/
def State.chLose (s : State) (c : Nat) : State := if s.chState c = 0 then s else s.put F.chStat_STATE 5 c

/-- Every channel of a port moves to LOST (R159, R168). -/
def State.losePort (s : State) (n : Nat) : State :=
  (List.range 192).foldl (fun s c => if s.chState c != 0 && signalPort (s.get F.chStat_SIGNAL c) == n then s.chLose c else s) s

/-- CFG_ERR of a port judged anew (R155), while ENABLE is set and by OUT_CFG and OUT_DIV as written (DESIGN CHOICE: log entry 75); a
port that it disables loses its channels. -/
def State.gspJudge (s : State) (n : Nat) : State :=
  let on := s.gspOn n
  let s := s.putB F.gspLevel_CFG_ERR (s.getB F.gspCfg_ENABLE n && !s.gspClkOk n) n
  let s := if on && !s.gspOn n then s.losePort n else s
  (if s.gspOn n then s else (s.putB F.gspLevel_COH_OK false n).setGsp n {}).showOob

/-- Both ports after a change of a CLKOUT's settings (R155). -/
def State.gspJudgeAll (s : State) : State := ((s.gspJudge 0).gspJudge 1).refresh 12

/-- After a write of GSPn_CFG or GSPn_LO (R157, R159): `old` is what the two registers held. -/
def State.gspWritten (s : State) (n : Nat) (oldCfg oldLo : Word) : State :=
  if s.rd .gspCfg n = oldCfg ∧ s.rd .gspLo n = oldLo then s
  else
    let s := if bitsOf oldCfg 0 0 = 1 then (s.losePort n).setGnb { s.gnb with resync := true } else s
    let s := s.gspJudge n
    (s.setGsp n { s.gsp n with skip := true }).refresh 12

/-- The value of a four-bit sample code (R153): sign-magnitude or two's complement. -/
def sampleVal (signMag : Bool) (c : Nat) : Int :=
  if signMag then (if bitOf c 3 then -(Int.ofNat (c % 8)) else Int.ofNat (c % 8)) else signedOf 4 c

/-- A sample as a port takes it from the codes at its balls (R153): SWAP_IQ exchanges I and Q, INVERT negates Q. -/
def State.sample (s : State) (n i q : Nat) : Int × Int :=
  let f := s.getB F.gspCfg_FORMAT n
  let (x, y) := (sampleVal f i, sampleVal f q)
  let (x, y) := if s.getB F.gspCfg_SWAP_IQ n then (y, x) else (x, y)
  (x, if s.getB F.gspCfg_INVERT n then -y else y)

/-- A code is an outer one of its format. -/
def outerCode (signMag : Bool) (c : Nat) : Bool := if signMag then c % 8 == 7 else c % 16 == 7 || c % 16 == 8

/-- DCLK edges, RMS magnitude (2^-8 code) and full-scale fraction (2^-16) of the samples of a gate, each with how often it came: one
sample an edge (R153). A sample with I or Q at an outer code counts as full scale (DESIGN CHOICE: log entry 75). -/
def State.gateFigures (s : State) (n : Nat) (smp : List (Nat × Nat × Nat)) : Nat × Nat × Nat :=
  let f := s.getB F.gspCfg_FORMAT n
  let cnt := (smp.map (·.1)).sum
  let sq (e : Nat × Nat × Nat) : Nat :=
    let z := s.sample n e.2.1 e.2.2
    e.1 * (z.1.natAbs * z.1.natAbs + z.2.natAbs * z.2.natAbs)
  let outer := ((smp.filter fun e => outerCode f e.2.1 || outerCode f e.2.2).map (·.1)).sum
  (cnt, if cnt = 0 then 0 else (isqrt (4 * 65536 * (smp.map sq).sum / cnt) + 1) / 2,
    if cnt = 0 then 0 else (roundDiv (Int.ofNat (65536 * outer)) cnt).toNat)

/-- A whole gate of one port is judged (R157). -/
def State.gateEnd (s : State) (n : Nat) (smp : List (Nat × Nat × Nat)) : State :=
  if !s.gspOn n then s
  else
    let (cnt, rms, frac) := s.gateFigures n smp
    let s := ((s.put F.gspLevel_DCLK_CNT (satNat 18 cnt) n).put F.gspLevel_RMS (satNat 16 rms) n).put F.gspLevel_FS_FRAC
      (satNat 16 frac) n
    let g := s.gsp n
    if g.skip then s.setGsp n { g with skip := false }
    else
      let want := 1250000 / s.gspDiv n
      if cnt ≤ want + 1 ∧ want ≤ cnt + 1 then
        let s := s.setGsp n { g with pass := min 1000 (g.pass + 1) }
        if 999 ≤ g.pass ∧ !s.getB F.gspLevel_COH_OK n then
          (s.putB F.gspLevel_COH_OK true n).setGnb { s.gnb with resync := true }
        else s
      else (s.setGsp n { g with pass := 0 }).putB F.gspLevel_COH_OK false n

/-- COH_GATE_END (R157): the samples that each port took in the gate that ends, as codes of I and Q with how often they came. A gate
ends once. -/
def execCohGateEnd (smp0 smp1 : List (Nat × Nat × Nat)) (_ : Unit) (s : State) : Res :=
  let rxc := s.get F.gnbRxc_RXC
  .next (if rxc % 1250000 ≠ 0 ∨ s.gnb.gateAt = some rxc then s
    else (((s.gateEnd 0 smp0).gateEnd 1 smp1).setGnb { ((s.gateEnd 0 smp0).gateEnd 1 smp1).gnb with gateAt := some rxc }).refresh 12)

/-! ### Acquisition and channels (R161–R169) -/

/-- GNB may acquire or track a signal. -/
def State.sigUsable (s : State) (code : Nat) : Bool :=
  match signalBit code with
  | none => false
  | some b => bitOf (s.get F.gnbCfg_SIG_EN) b && s.gspOn (signalPort code) && !s.sigOob b && s.getB F.gnbCtl_RUN

/-- The points of a block and the bin width in Hz with which a signal is searched; none for those acquired by hand-over alone (R164,
R166). -/
def searchGrid (signal : Nat) : Option (Nat × Nat) :=
  match signal with
  | 0x01 | 0x31 | 0x21 => some (4096, 500)
  | 0x11 => some (16384, 125)
  | 0x03 | 0x12 | 0x23 | 0x32 => some (32768, 500)
  | _ => none

/-- A result of a search: a point of the block, and a Doppler bin within the span (R164, R165). -/
def State.onGrid (s : State) (signal phase : Nat) (doppler : Int) : Bool :=
  match searchGrid signal with
  | none => false
  | some (points, bin) => decide (phase < points) && decide (doppler.natAbs ≤ s.gnb.acqSpan) && decide (doppler.natAbs % bin = 0)

/-- The satellite numbers within a system (R171). -/
def svOk (sv : Nat) : Bool := decide (1 ≤ sv) && decide (sv ≤ 63)

/-- ACQUISITION_SEARCH_DONE (R164–R166): a direct search ends, with a point of the block and a Doppler bin in Hz. -/
def execAcquisitionSearchDone (signal sv : Nat) (found : Bool) (phase : Nat) (doppler : Int) (s : State) : Res :=
  .next (if s.sigUsable signal && svOk sv && s.onGrid signal phase doppler then
      s.setGnb { s.gnb with acq := some { signal := signal, sv := sv, found := found, phase := phase, doppler := doppler } }
    else s)

/-- A channel tracks a signal of satellite sv. -/
def State.tracked (s : State) (signal sv : Nat) : Bool :=
  (List.range 192).any fun c => decide (2 ≤ s.chState c) && decide (s.chState c ≤ 4) && s.get F.chStat_SIGNAL c == signal &&
    s.get F.chStat_SV c == sv

/-- GPS L1C and BeiDou B1C start by hand-over from a tracked signal of the same satellite (R161, R166). -/
def State.handOver (s : State) (signal sv : Nat) : Bool :=
  match signal with
  | 0x02 => s.tracked 0x01 sv
  | 0x22 => s.tracked 0x21 sv
  | _ => true

/-- CHANNEL_ASSIGN (R166, R168): the code phase and Doppler start the loops. -/
def execChannelAssign (ch signal sv phase : Nat) (doppler : Int) (s : State) : Res :=
  .next (if 192 ≤ ch || s.chState ch != 0 || !s.sigUsable signal || !svOk sv || !s.handOver signal sv then s
    else (((s.setGnb { s.gnb with start := tabPut s.gnb.start ch (phase, doppler) }).put F.chStat_SIGNAL signal ch).put
      F.chStat_SV sv ch).put F.chStat_STATE 1 ch)

/-- A channel in one of some states moves to another. -/
def State.chMove (s : State) (ch : Nat) (src : List Nat) (next : Nat) : State :=
  if 192 ≤ ch || !src.contains (s.chState ch) then s else s.put F.chStat_STATE next ch

def execChannelLock (ch : Nat) (s : State) : Res := .next (s.chMove ch [1] 2)
def execPullInTimeout (ch : Nat) (s : State) : Res := .next (s.chMove ch [1] 5)
def execBitSyncFound (ch : Nat) (s : State) : Res := .next (s.chMove ch [2] 3)
/-- FRAME_SYNC_FOUND (R168, R174): `last` are the last two bits received before the first word, upright. -/
def execFrameSyncFound (sync : SyncFound) (s : State) : Res :=
  let ch := sync.ch
  .next (if 192 ≤ ch || s.chState ch != 3 then s
    else (s.setGnb { s.gnb with lnav := tabSet 0 s.gnb.lnav ch (sync.last % 4) }).put F.chStat_STATE 4 ch)
def execCn0Loss (ch : Nat) (s : State) : Res := .next (s.chMove ch [2, 3, 4] 5)

def execChannelRelease (ch : Nat) (s : State) : Res :=
  .next (if 192 ≤ ch || s.chState ch != 5 then s else s.wr .chStat 0 ch)

/-! ### Measurement epochs (R170–R172) -/

/-- The four words of a channel record (R171). -/
def State.chanWords (s : State) (c : Nat) (m : Option ChanMeas) : List Word :=
  let st := s.chState c
  let id := s.get F.chStat_SIGNAL c * 2 ^ 48 + s.get F.chStat_SV c * 2 ^ 40 + st * 2 ^ 56
  match m with
  | none => [BitVec.ofNat 64 id, 0, 0, 0]
  | some m =>
    let b (v : Bool) (k : Nat) : Nat := if v then 2 ^ k else 0
    let flags := b (st == 4) 39 + b m.halfOk 38 + b m.slip 37 + b (!s.getB F.gspLevel_COH_OK (signalPort (s.get F.chStat_SIGNAL c))) 36
    [BitVec.ofNat 64 (id + flags + satNat 16 m.cn0 * 2 ^ 16 + satNat 16 m.lockS),
     BitVec.ofNat 64 (m.txMs % 2 ^ 32 * 2 ^ 32 + m.txSubMs % 2 ^ 32),
     BitVec.ofNat 64 (codeOf 64 m.phase),
     BitVec.ofNat 64 (codeOf 32 m.doppler * 2 ^ 32)]

/-- Words written into the banks from a byte offset on. -/
def putWords (t : Tab Word) (off : Nat) (l : List Word) : Tab Word :=
  (l.zipIdx.foldl (fun t e => tabSet 0 t (off + 8 * e.2) e.1) t)

/-- MEAS_EPOCH (R170, R171), once in its cycle: what the tracking channels have measured; channels not listed have measured nothing. The
header's period of 10 ms units is rounded down where MEAS_PER is no multiple (DESIGN CHOICE: log entry 75). -/
def execMeasEpoch (meas : List ChanMeas) (s : State) : Res :=
  .next (if !s.getB F.gnbCtl_RUN || s.get F.gnbRxc_RXC % (s.gnb.measPer * 1250000) != 0 ||
      s.gnb.epochAt == some (s.get F.gnbRxc_RXC) then s
    else
      let s := meas.foldl (fun s m => if m.ch < 192 ∧ s.chState m.ch ≠ 0 then s.put F.chStat_CN0 (satNat 16 m.cn0) m.ch else s) s
      let free := s.draw.1
      let t := s.startTicks 0
      let s := if 0 ≤ t ∧ t < timeSpan then s else s.draw.2
      let n := s.gnb.epoch
      let base := 0x2000 * (n % 2)
      let tv := timeVal free t
      let head : List Word :=
        [BitVec.ofNat 64 n, s.rd .gnbRxc, BitVec.ofNat 64 (tv / 2 ^ 48), BitVec.ofNat 64 (tv % 2 ^ 48),
         BitVec.ofNat 64 (s.d0Ecode * 2 ^ 48 + s.gnb.measPer / 10), 0, 0, BitVec.ofNat 64 n]
      let bank := (List.range 192).foldl (fun b c =>
        putWords b (base + 0x40 + 0x20 * c)
          (s.chanWords c (if s.chState c = 0 then none else meas.find? fun m => m.ch == c))) (putWords s.gnb.bank base head)
      s.setGnb { s.gnb with epoch := n + 1, bank := bank, epochAt := some (s.get F.gnbRxc_RXC) })

/-! ### Navigation data (R173–R179) -/

/-- Payload bits of a format, and the signal codes that carry it (R173). -/
def navFormat (fmt : Nat) : Option (Nat × List Nat) :=
  match fmt with
  | 0x01 => some (32, [0x01, 0x31])
  | 0x02 => some (600, [0x02])
  | 0x03 => some (274, [0x02])
  | 0x04 => some (300, [0x03, 0x32])
  | 0x11 => some (240, [0x11])
  | 0x12 => some (244, [0x12])
  | 0x21 => some (30, [0x21])
  | 0x22 => some (600, [0x22])
  | 0x23 => some (264, [0x22])
  | 0x24 => some (288, [0x23])
  | _ => none

/-- A unit of n bits as it is delivered (R174): the received bits upright; an LNAV word behind D29* and D30* of the previous one. -/
def State.navBits (s : State) (ch fmt n : Nat) (inverted : Bool) (received : List Word) : List Bool :=
  let up (k : Nat) : List Bool := (wordBits k received).map (· != inverted)
  if fmt = 0x01 then [bitOf (tabGet 0 s.gnb.lnav ch) 1, bitOf (tabGet 0 s.gnb.lnav ch) 0] ++ up 30 else up n

/-- Words that a FIFO holds. -/
def Fifo.words (f : Fifo) : Nat := (f.items.map List.length).sum + f.cur.length

/-- Whole records taken from a FIFO by CP firmware. -/
def Fifo.dropItems (f : Fifo) (n : Nat) : Fifo := { f with items := f.items.drop n }

/-- A record for one FIFO (R178): the FIFO after it, whether a record has been dropped, whether this one is. -/
def navInto (f : Fifo) (lost : Bool) (record : Bool → List Word) : Fifo × Bool × Bool :=
  let l := record lost
  if f.words + l.length ≤ 8192 then (f.add l, false, false) else (f, true, true)

/-- NAV_UNIT_COMPLETE (R173–R178): a channel in FRAME_SYNC completes a unit: its bits as the channel received them, inverted or not, an
LNAV word's thirty; `taken` records of NAVF have been read by CP firmware before it. -/
def execNavUnitComplete (ch fmt : Nat) (inverted : Bool) (_ : Unit) (rxc : Nat) (received : List Word) (taken : Nat) (s : State) : Res :=
  let s := s.setGnb { s.gnb with navf := s.gnb.navf.dropItems taken }
  let sig := s.get F.chStat_SIGNAL ch
  .next (match navFormat fmt with
    | none => s
    | some (nbits, sigs) =>
      if 192 ≤ ch || s.chState ch != 4 || !sigs.contains sig then s
      else
        let b (v : Bool) (k : Nat) : Nat := if v then 2 ^ k else 0
        let unit := s.navBits ch fmt nbits inverted received
        let fail := navFails fmt unit
        let s := if fmt = 0x01 then s.setGnb { s.gnb with lnav := tabSet 0 s.gnb.lnav ch (bitsNat (unit.drop 30)) } else s
        let record (lost : Bool) : List Word :=
          BitVec.ofNat 64 (2 ^ 56 + ch * 2 ^ 48 + sig * 2 ^ 40 + s.get F.chStat_SV ch * 2 ^ 32 + nbits * 2 ^ 16 +
              b fail 15 + b inverted 14 + b lost 12 + fmt) :: BitVec.ofNat 64 rxc :: packBits unit
        let (f, l, d) := navInto s.gnb.navf s.gnb.navLost record
        let tap := s.getB F.gnbCtl_TAP_EN
        let s := s.setGnb { s.gnb with navf := f, navLost := l }
        let s := if d then (s.bump F.gnbNavStat_NAV_LOST 1).pulse 15 0 ch else s
        if tap then
          let (f, l, d) := navInto s.gnb.tapf s.gnb.tapLost record
          let s := s.setGnb { s.gnb with tapf := f, tapLost := l }
          if d then (s.bump F.gnbNavStat_TAP_LOST 1).pulse 15 0 ch else s
        else s)

/-! ### GPPS and the timing message (R180–R188) -/

/-- RESYNC and DUAL among the flags of M3. -/
abbrev m3Resync : Nat := 24
abbrev m3Dual : Nat := 27

/-- The earliest TAI second to which CP firmware resolves the week number (R195): the build date of the running image, or the
last D0 second of the settings store. -/
def State.earliestSec (s : State) : Nat :=
  let img := if s.get F.cpxBoot_SLOT = 0 then s.cpx.flash.slotA else s.cpx.flash.slotB
  max (beNat ((img.drop 24).take 8)) s.settings.lastSec

/-- EDGE_RXC and QERR of an estimate of the GNSS second, in units of 2^-32 CLK_TSE cycle of GNB_RXC (R181). -/
def edgeOf (est : Nat) : Nat := ceilDiv est (2 ^ 32)
def qerrOf (est : Nat) : Int := roundDiv (-(Int.ofNat ((edgeOf est * 2 ^ 32 - est) * 1048576))) (5 * 2 ^ 32)

/-- PATH_ALLOW before it is held to its field (R188). -/
def State.pathAllow (s : State) (dual : Bool) : Nat :=
  (if dual then ceilDiv (2261 * s.get F.gspAllow_VALUE 0 + 1261 * s.get F.gspAllow_VALUE 1) 1000 else s.get F.gspAllow_VALUE 0) +
    s.get F.gnbTsysUnc_TSYS_UNC

/-- The least SIGMA of a mode, in ticks (R196). -/
def sigmaFloor (mode : Nat) (dual : Bool) : Nat :=
  match mode, dual with
  | 2, true => 786432
  | 2, false => 2097152
  | 1, true => 3145728
  | 1, false => 5242880
  | _, _ => 0

/-- SIGMA as the firmware reports it (R192, R196): the held position's 1σ included in HOLD, not below its floor, 0xffff_ffff where it
does not fit. -/
def State.sigmaOf (s : State) (mode : Nat) (dual : Bool) (sigma : Nat) : Nat :=
  let x := if mode = 2 then Config.holdSigma (s.get F.gnbPosUnc_HOLD_UNC) sigma else sigma
  min 0xffffffff (max (sigmaFloor mode dual) x)

/-- The constellations of a set of signals, given by SIG_EN bit (R161, R186). -/
def constOf (used : Nat) : Nat :=
  (if used % 8 = 0 then 0 else 1) + (if used / 8 % 4 = 0 then 0 else 2) + (if used / 32 % 8 = 0 then 0 else 4) +
    (if used / 256 % 4 = 0 then 0 else 8)

/-- MODE of a solution: NONE, or HOLD while the position is held, else NAV (R189–R193). -/
def State.solMode (s : State) (mode : Nat) : Nat := if mode = 0 then 0 else if s.get F.gnbSurvey_POS_MODE = 2 then 2 else 1

/-- The schedule that the firmware forms (R181, R186–R188, R192, R196): the system second, its estimate in GNB_RXC, the solution's 1σ,
its mode (0: there is none), DUAL, INTEGRITY, VALID, RESYNC and NSAT as bits of M3, and the signals used. -/
def State.schedOf (s : State) (sysSec est sigma mode flags used : Nat) : Sched :=
  let dual := bitOf flags m3Dual
  let mode := s.solMode (mode % 16)
  let tsys := s.get F.gnbCfg_TSYS
  let allow := s.pathAllow dual
  let fits := decide (allow ≤ 0xfffffffe)
  let b (k : Nat) : Nat := if bitOf flags k then 2 ^ k else 0
  { sec := (sysSec + if tsys = 2 then 33 else 19) % 2 ^ 48, edge := edgeOf est % 2 ^ 64, qerr := qerrOf est,
    sigma := s.sigmaOf mode dual sigma, allow := if fits then allow else 0xffffffff,
    flags := mode * 2 ^ 28 + b m3Dual + b 26 + (if fits then b 25 else 0) + b m3Resync + constOf used * 2 ^ 20 + tsys % 4 * 2 ^ 18 +
      flags % 2 ^ 8 }

/-- GPPS_SCHEDULE_WRITE (R183–R185). GNB emits no edge from a count that holds: a schedule written then is dropped at once. -/
def execGppsScheduleWrite (sysSec est sigma mode flags used : Nat) (s : State) : Res :=
  let x := s.schedOf sysSec est sigma mode flags used
  let s := s.setGnb { s.gnb with used := used % 1024 }
  let near := decide (x.edge < s.get F.gnbRxc_RXC + 1250)
  let off := match s.gnb.prev with
    | none => false
    | some e => !bitOf flags m3Resync && (decide (x.edge < e + 1248750000) || decide (e + 1251250000 < x.edge))
  .next (if x.sec < s.earliestSec then s
    else if near || off then s.bump F.gnbTstat_SCHED_LATE 1
    else if !s.pwr.tseProven then s.bump F.gnbTstat_SCHED_SKIP 1
    else s.setGnb { s.gnb with sched := some x })

/-- The words of a timing message (R186). -/
def tmsgOf (x : Sched) (seq : Nat) (resync : Bool) : TMsg :=
  let flags := x.flags / 2 ^ 18 % 2 ^ 14 * 2 ^ 18 + x.flags % 2 ^ 8
  { m0 := seq % 2 ^ 16 * 2 ^ 48 + x.sec, m1 := x.edge, m2 := codeOf 32 x.qerr * 2 ^ 32 + x.sigma,
    m3 := x.allow * 2 ^ 32 + (if resync then withBit flags m3Resync else flags) }

/-- The bin whose CENTRE lies nearest the end of phase interval 0 of a TDC: with that interval it reads the start of the cycle. -/
def State.startBin (s : State) (t : Nat) : Nat :=
  let far (b : Nat) : Nat := (Int.ofNat (s.get F.tdcPhase_END t 0) - Int.ofNat (s.get F.tdcBin_CENTRE t b)).natAbs
  (List.range 256).foldl (fun a b => if far b < far a then b else a) 0

/-- What the TDCs may read of the GPPS edge: the start of the cycle, within the allowance of source 0x40 and their own RESID (R182). A
TDC for which no such reading is given reads it nearest (DESIGN CHOICE: log entry 75). -/
def State.startReading (s : State) (tdc : List (Nat × Nat × Nat)) (t : Nat) : Nat × Nat :=
  match tdc.find? fun e => e.1 == t &&
      decide ((Int.ofNat (s.get F.tdcPhase_END t (e.2.1 % 8)) - Int.ofNat (s.get F.tdcBin_CENTRE t (e.2.2 % 256))).natAbs ≤
        5243 + s.resid t) with
  | some e => e.2
  | none => (0, s.startBin t)

/-- POS_MODE with a timing message: HOLD stands until it is left (R193), and no message enters it. -/
def posMode (old mode : Nat) : Nat := if old = 2 then 2 else min 1 mode

/-- The pending schedule's cycle has come (R158, R180, R184–R186): an edge and its message, or neither where coherence is lost. -/
def State.gppsEdge (s : State) (tdc : List (Nat × Nat × Nat)) : State :=
  match s.gnb.sched with
  | none => s
  | some x =>
    if s.get F.gnbRxc_RXC ≠ x.edge then s
    else
      let s := s.setGnb { s.gnb with sched := none }
      if !s.getB F.gspLevel_COH_OK 0 || (bitOf x.flags m3Dual && !s.getB F.gspLevel_COH_OK 1) then
        s.bump F.gnbTstat_SCHED_SKIP 1
      else
        let resync := bitOf x.flags m3Resync || s.gnb.resync || s.gnb.prev.isNone
        let g := tmsgOf x s.gnb.seq resync
        let s := s.emit (.gppsEdge x.edge)
        let s := [g.m0, g.m1, g.m2, g.m3].zipIdx.foldl (fun s e => s.put F.gnbTmsg_WORD e.1 e.2) s
        let s := if resync then s.bump F.gnbTstat_RESYNC 1 else s
        let valid := bitOf g.m3 25
        let s := s.setGnb { s.gnb with seq := (s.gnb.seq + 1) % 2 ^ 16, prev := some x.edge, resync := false,
                                       seenValid := s.gnb.seenValid || valid, solLost := s.gnb.solLost && !valid }
        let s := (s.put F.gnbSurvey_POS_MODE (posMode (s.get F.gnbSurvey_POS_MODE) (g.m3 / 2 ^ 28 % 4))).refresh 13
        (s.tmsgToRsh g).edgeToEmus 0x40 (s.startReading tdc)

/-- The captured words of the timing message for a requester; zero before any capture. -/
def State.tmsgCap (s : State) (m : Master) (i : Nat) : Word :=
  ((s.gnb.tcap.find? fun e => e.1 == reqCode m * 4 + i).map (·.2)).getD 0

/-- A read of GNB_TMSG0 captures the four words for the requester (R186). -/
def State.captureTmsg (s : State) (m : Master) : State :=
  s.setGnb { s.gnb with tcap := (List.range 4).foldl (fun t i => tabPut t (reqCode m * 4 + i) (s.rd .gnbTmsg i)) s.gnb.tcap }

/-- SOLUTION_LOST_TIMEOUT (R200): 2 s without a VALID message after a VALID one. -/
def execSolutionLostTimeout (s : State) : Res :=
  .next ((s.setGnb { s.gnb with solLost := s.gnb.seenValid }).refresh 13)

/-! ### Position and survey (R189–R193) -/

def State.putPos (s : State) (base : Nat) (x y z : Int) : State :=
  ((s.putI F.gnbPos_COORD x base).putI F.gnbPos_COORD y (base + 1)).putI F.gnbPos_COORD z (base + 2)

/-- The held position takes a value: HOLD, and HOLD_SUSPECT is cleared (R190, R193). -/
def State.holdAt (s : State) (x y z : Int) (unc : Nat) : State :=
  let s := ((s.putPos 0 x y z).put F.gnbPosUnc_HOLD_UNC unc).put F.gnbSurvey_POS_MODE 2
  (s.putB F.gnbSurvey_HOLD_SUSPECT false).refresh 14

/-- The held position takes a value, which CP firmware keeps in the settings store (R191). -/
def State.holdPos (s : State) (x y z : Int) (unc : Nat) : State :=
  (s.holdAt x y z unc).setSettings { s.settings with pos := some (x, y, z, unc) }

/-- The candidate becomes the held position (R190). -/
def State.adoptCand (s : State) : State :=
  (s.holdPos (s.getI F.gnbPos_COORD 3) (s.getI F.gnbPos_COORD 4) (s.getI F.gnbPos_COORD 5) s.gnb.candUnc).putB
    F.gnbSurvey_CAND false

/-- Entry to ACQUIRE: GNB runs, and a candidate becomes the held position (R190, R199). -/
def State.gnbAcquire (s : State) : State :=
  let s := s.putB F.gnbCtl_RUN true
  if s.getB F.gnbSurvey_CAND then s.adoptCand else s

/-- Seconds since the survey started, by GNB_RXC. -/
def State.survElapsed (s : State) : Nat := satNat 32 ((s.get F.gnbRxc_RXC - s.gnb.survAt) / 1250000000)

/-- SURVEY_DONE (R189, R190), before its maximum has elapsed. -/
def execSurveyDone (_ : Unit) (x y z : Int) (unc : Nat) (s : State) : Res :=
  .next (if s.get F.gnbSurvey_STATE ≠ 1 ∨ s.survElapsed < s.gnb.survMin ∨ s.gnb.survMax < s.survElapsed ∨ s.gnb.survTgt < unc then s
    else
      let s := ((s.put F.gnbSurvey_STATE 2).put F.gnbSurvey_ELAPSED s.survElapsed).put F.gnbPosUnc_SURV_UNC unc
      if s.mode = .track ∨ s.mode = .standby then
        let s := ((s.putPos 3 x y z).putB F.gnbSurvey_CAND true).setGnb { s.gnb with candUnc := unc }
        (s.putB F.gnbSurvey_HOLD_SUSPECT false).refresh 14
      else s.holdPos x y z unc)

/-- SURVEY_FAILED (R189). -/
def execSurveyFailed (_ : Unit) (unc : Nat) (s : State) : Res :=
  .next (if s.get F.gnbSurvey_STATE ≠ 1 ∨ s.survElapsed < s.gnb.survMax then s
    else ((s.put F.gnbSurvey_STATE 3).put F.gnbSurvey_ELAPSED s.survElapsed).put F.gnbPosUnc_SURV_UNC (satNat 32 unc))

/-- HOLD_SUSPECT (R193). -/
def execHoldSuspect (s : State) : Res :=
  .next (if s.get F.gnbSurvey_POS_MODE ≠ 2 then s
    else
      let s := (s.putB F.gnbSurvey_HOLD_SUSPECT true).put F.gnbSurvey_POS_MODE 1
      ((s.setGnb { s.gnb with resync := true }).log 0x03 0xff 0x0301 0 2 []).refresh 14)

/-! ### Commands (R197–R199) -/

/-- The mask disables a signal that the solution uses (R198). -/
def State.disablesUsed (s : State) (sigEn : Nat) : Bool :=
  (List.range 10).any fun b => bitOf s.gnb.used b && bitOf (s.get F.gnbCfg_SIG_EN) b && !bitOf sigEn b

/-- GNSS_CFG (0x30): SIG_EN, TSYS, masks, ACQ_SPAN in Hz, MEAS_PER in ms. An elevation mask above 90 is refused, and a channel that
tracks a signal goes on when the command disables it (DESIGN CHOICE: log entry 75). -/
def execGnssCfg (c : Caller) (sigEn tsys elev cn0 span per : Nat) (s : State) : Res :=
  let resync := s.gnb.resync || tsys != s.get F.gnbCfg_TSYS || s.disablesUsed sigEn
  let s1 := ((s.put F.gnbCfg_SIG_EN sigEn).put F.gnbCfg_TSYS tsys).put F.gnbCfg_ELEV_MASK elev
  let s1 := (s1.put F.gnbCfg_CN0_MASK cn0).setGnb { s.gnb with resync := resync, acqSpan := span, measPer := per }
  .next (s.runCmd c 0x30
    [notOwner s c,
     (decide (1024 ≤ sigEn) || decide (2 < tsys) || decide (90 < elev) || decide (256 ≤ cn0) || decide (50000 < span) ||
        decide (per < 10) || decide (1000 < per), .badArg)]
    s1.showOob)

/-- GNSS_RESTART (0x31): 0 COLD, 1 HOT. What it does to channels and schedule is left open: they stay, and the last search result goes
(DESIGN CHOICE: log entry 75). -/
def execGnssRestart (c : Caller) (kind : Nat) (s : State) : Res :=
  .next (s.runCmd c 0x31 [notOwner s c, (decide (1 < kind), .badArg)]
    (s.setGnb { s.gnb with acq := none, coldStart := kind == 0 }))

def execGnssSurvey (c : Caller) (min target max : Nat) (s : State) : Res :=
  .next (s.runCmd c 0x32
    [notOwner s c, (decide (2 ^ 32 ≤ min) || decide (2 ^ 32 ≤ target) || decide (2 ^ 32 ≤ max), .badArg),
     (s.get F.gnbSurvey_STATE == 1, .busy)]
    (((s.put F.gnbSurvey_STATE 1).put F.gnbSurvey_ELAPSED 0).setGnb
      { s.gnb with survMin := min, survTgt := target, survMax := max, survAt := s.get F.gnbRxc_RXC }))

def execGnssPosSet (c : Caller) (cand : Nat) (x y z : Int) (unc : Nat) (s : State) : Res :=
  .next (s.runCmd c 0x33
    [notOwner s c, (decide (1 < cand) || (cand == 1 && !s.getB F.gnbSurvey_CAND), .badArg),
     (cand == 0 && (!fits64 x || !fits64 y || !fits64 z || decide (2 ^ 32 ≤ unc)), .badArg)]
    (if cand = 1 then s.adoptCand else s.holdPos x y z unc))

def execGnssPosClear (c : Caller) (s : State) : Res :=
  .next (s.runCmd c 0x34 [notOwner s c]
    ((((s.putPos 0 0 0 0).put F.gnbPosUnc_HOLD_UNC 0).put F.gnbSurvey_POS_MODE
      (if s.get F.gnbSurvey_POS_MODE = 2 then 1 else s.get F.gnbSurvey_POS_MODE)).setSettings { s.settings with pos := none }))

def execGnssTap (c : Caller) (on : Nat) (s : State) : Res :=
  .next (s.runCmd c 0x35 [notOwner s c, (decide (1 < on), .badArg)] (s.putB F.gnbCtl_TAP_EN (on == 1)))

end Sys2Proof.Machine
end

