-- ==== Sys2Proof/Machine/HingeCore.lean ====
section
/-! DEFINITION. HRL's core: frames, keys, receiving and repeating, hop delays, the roster, turns (13_hinge_ring.md). -/
namespace Sys2Proof.Machine

def State.setHrl (s : State) (h : Hrl) : State := { s with hrl := h }
def State.hlane (s : State) (e : Nat) : HLane := tabGet {} s.hrl.lanes e
def State.setHlane (s : State) (e : Nat) (x : HLane) : State := s.setHrl { s.hrl with lanes := tabSet {} s.hrl.lanes e x }
def State.hnode (s : State) (k : Nat) : HNode := tabGet {} s.hrl.nodes k
def State.setHnode (s : State) (k : Nat) (x : HNode) : State := s.setHrl { s.hrl with nodes := tabSet {} s.hrl.nodes k x }

/-- States of R602, roles, and codes for none. -/
abbrev hOff := 0
abbrev hTraining := 1
abbrev hClaiming := 2
abbrev hMember := 3
abbrev hRepeat := 4
abbrev roleDu := 0
abbrev roleA := 1
abbrev roleB := 2
abbrev roleNone := 3
abbrev noIdx := 0x1f

def State.hState (s : State) : Nat := s.get F.hrlStat_STATE
def State.turn (s : State) : Nat := s.get F.hrlStat_TURN
def State.hIndex (s : State) : Nat := s.get F.hrlStat_INDEX
def State.hRole (s : State) : Nat := s.get F.hrlStat_ROLE
def State.isMember (s : State) : Bool := s.hState == hMember
def State.isSteward (s : State) : Bool := s.isMember && s.get F.hrlStat_STEWARD == s.hIndex && s.hIndex != noIdx

/-- This node's fuse node ID. -/
def ownId : Nat := Config.fuseNodeId % 2 ^ 64

/-- The roster's members: the indexes whose NODEk_STAT.VALID is set. -/
def State.members (s : State) : List Nat := (List.range 16).filter fun k => s.getB F.nodeStat_VALID k
def State.nodeIdOf (s : State) (k : Nat) : Nat := s.get F.nodeId_NODE_ID k
/-- The index of a node ID in the roster. -/
def State.indexOf (s : State) (id : Nat) : Option Nat := s.members.find? fun k => s.nodeIdOf k == id

/-- A member's HEALTH or roster entry makes it repeat only: SAFE and SEALED nodes are (R602, R606). -/
def State.repeatsOnly (s : State) (k : Nat) : Bool :=
  (s.hnode k).repeatOnly || s.get F.nodeStat_MODE k == 10 || s.get F.nodeStat_MODE k == 11

/-! ### Keys and tags (R577, R618) -/

/-- The ring key's slot is usable for HRL. -/
def State.ringKeyOk (s : State) : Bool :=
  let v := s.get F.hrlCfg_KEY_SLOT
  s.keyUsable v 0 attrHrl && (s.get F.vsCfg_TYPE v == tyAes128 || s.get F.vsCfg_TYPE v == tyAes256)

/-- Pin a send generation where none is pinned and AUTH asks for one. -/
def State.ringPin (s : State) : State :=
  if s.getB F.hrlCfg_AUTH && s.get F.hrlKey_SEND_GEN == 0 && s.ringKeyOk then
    let (g, s) := s.pin (s.get F.hrlCfg_KEY_SLOT)
    s.put F.hrlKey_SEND_GEN g
  else s

/-- Release the send generation. -/
def State.ringUnpin (s : State) (slot : Nat) : State :=
  let g := s.get F.hrlKey_SEND_GEN
  if g = 0 then s else (s.put F.hrlKey_SEND_GEN 0).unpin slot g

/-- The slot of the ring key becomes ERASING or empty. -/
def State.ringKeyGone (s : State) (slot : Nat) : State :=
  if s.get F.hrlCfg_KEY_SLOT = slot then s.ringUnpin slot else s

/-- This node can tag: a send generation is pinned and KVC performs key operations. -/
def State.canTag (s : State) : Bool := s.get F.hrlKey_SEND_GEN != 0 && s.kvcOk

/-- The tag of a header and payload under a generation: HOPS counts as zero. -/
def State.ringTag (s : State) (gen : Nat) (m : List Byte) : List Byte :=
  let m := patch m 2 [byte (fb m 2 % 16)]
  (beBytes 16 (Config.cmac (s.keyBytes (s.get F.hrlCfg_KEY_SLOT) gen) m).toNat).take 8

/-- The generation that KGEN names among those whose tags are accepted. -/
def State.ringGen (s : State) (kgen : Nat) : Option Nat :=
  let a := s.get F.hrlKey_SEND_GEN
  let c := s.get F.vsGen_CUR_GEN (s.get F.hrlCfg_KEY_SLOT)
  if a ≠ 0 ∧ a % 256 = kgen then some a else if s.ringKeyOk ∧ c % 256 = kgen then some c else none

/-! ### Frames (R575, R576) -/

abbrev tMark := 1
abbrev tCoin := 2
abbrev tBulk := 3
abbrev tAck := 4
abbrev tHealth := 5
abbrev tClaim := 6
abbrev tRoster := 7
abbrev tWake := 8
abbrev tQuiet := 9

/-- Fields of a frame's header. -/
def hType (f : List Byte) : Nat := fb f 0 / 16
def hAuth (f : List Byte) : Bool := fb f 1 / 128 == 1
def hDir (f : List Byte) : Nat := fb f 1 / 64 % 2
def hRep (f : List Byte) : Bool := fb f 1 / 32 % 2 == 1
def hHops (f : List Byte) : Nat := fb f 2 / 16
def hOrigin (f : List Byte) : Nat := fb f 2 % 16
def hStream (f : List Byte) : Nat := fb f 3 % 32
def hSeq (f : List Byte) : Nat := fnum f 4 4
def hTurn (f : List Byte) : Nat := fnum f 8 4
def hLen (f : List Byte) : Nat := 8 * fb f 13
def hPay (f : List Byte) : List Byte := (f.drop 16).take (hLen f)

/-- The frame is as long as its header says, of version 1 and a TYPE of R576. -/
def hForm (f : List Byte) : Bool :=
  fb f 0 % 16 == 1 && decide (1 ≤ hType f) && decide (hType f ≤ 9) && decide (fb f 13 ≤ 128) &&
    f.length == 16 + hLen f + (if hAuth f then 8 else 0)

/-- A lane has LINK. -/
def State.hLink (s : State) (e : Nat) : Bool := s.getB F.hLaneStat_LINK e


/-- A frame of this node for lane e; untagged where it cannot tag. -/
def State.hFrame (s : State) (e ty stream seq : Nat) (rep : Bool) (pay : List Byte) : List Byte :=
  let tag := s.getB F.hrlCfg_AUTH && s.canTag
  let origin := if s.hIndex = noIdx then 15 else s.hIndex
  let h := [byte (ty * 16 + 1), byte ((if tag then 128 else 0) + 64 * e + (if rep then 32 else 0)), byte origin, byte stream] ++
    beBytes 4 seq ++ beBytes 4 s.turn ++ [byte (if tag then s.get F.hrlKey_SEND_GEN else 0), byte (pay.length / 8)] ++
    beBytes 2 (s.get F.hrlCfg_RING_ID)
  let m := h ++ pay
  if tag then m ++ s.ringTag (s.get F.hrlKey_SEND_GEN) m else m

/-- This node may originate a frame of a type: with AUTH and no tag, only HEALTH (R618). -/
def State.maySend (s : State) (ty : Nat) : Bool := !s.getB F.hrlCfg_AUTH || s.canTag || ty == tHealth

/-- Tag work on a frame with n payload bytes is charged to PT0 (R618). -/
def State.hCharge (s : State) (n : Nat) : State :=
  if s.getB F.hrlCfg_AUTH && s.canTag then s.tallyAes 0 (cmacBlocks (16 + n)) else s

/-- Originate a frame on both lanes that have LINK; the payload may differ by lane (R570). -/
def State.hSend (s : State) (ty stream seq : Nat) (rep : Bool) (pay : Nat → List Byte) : State :=
  let s := s.ringPin
  if !s.maySend ty then s
  else
    [0, 1].foldl (fun s e => if s.hLink e then (s.hCharge (pay e).length).emit (.hinge e (s.hFrame e ty stream seq rep (pay e))) else s) s

/-! ### Tallies (R619) -/

/-- Count a lane's tally when the cycle ends: 0 CRC, 1 TAG, 2 TOPO, 3 FLAP. -/
def State.laneTally (s : State) (e which : Nat) : State := s.tally (.lane e which)
/-- Count a roster index's tally: 0 MISS, 1 DUP, 2 GAP. -/
def State.nodeTally (s : State) (k which : Nat) : State := if k < 16 then s.tally (.node k which) else s

/-- A frame discarded under R578 or R591: its tally and LINK_ERR (R623). -/
def State.linkErr (s : State) (e which : Nat) : State := (s.laneTally e which).pulse 47 0 0xff false e

/-! ### Receiving (R578–R581) -/

/-- The tag of a received frame is right. -/
def State.tagOk (s : State) (f : List Byte) : Bool :=
  match s.ringGen (fb f 12) with
  | some g => s.ringTag g (f.take (16 + hLen f)) == f.drop (16 + hLen f)
  | none => false

/-- The frame is one that this node originated. -/
def State.isOwnFrame (s : State) (f : List Byte) : Bool :=
  (s.hIndex != noIdx && hOrigin f == s.hIndex) || (hType f == tClaim && hOrigin f == 15 && fnum f 16 8 == ownId)

/-- Pass a frame on: it is launched on the other lane 750 cycles after its start arrived, with HOPS incremented, unless it is this
node's own or has 15 repeats (R579). -/
def State.passOn (s : State) (e : Nat) (f : List Byte) : State :=
  if s.isOwnFrame f || decide (15 ≤ hHops f) then s
  else
    let g := patch f 2 [byte ((hHops f + 1) * 16 + hOrigin f)]
    s.setHrl { s.hrl with repeats := tabSet [] s.hrl.repeats (1 - e) (tabGet [] s.hrl.repeats (1 - e) ++ [(s.tse.cyc + 750, g)]) }

/-- A frame arrives on lane e: whether it is to be delivered; `crcOk` is its CRC's result. A frame of a reserved form is passed on
like any other and not delivered. A REPEAT_ONLY node takes from marks its turns and from rosters whether it still has an index. -/
def State.hReceive (s : State) (e : Nat) (f : List Byte) (crcOk : Bool) : Bool × State :=
  let untagged := s.getB F.hrlCfg_AUTH && !hAuth f && hType f == tHealth
  if decide (s.hState < hClaiming) || decide (1 < e) || !s.hLink e then (false, s)
  else if !crcOk then (false, s.linkErr e 0)
  else if f.length < 16 then (false, s)
  else if fnum f 14 2 ≠ s.get F.hrlCfg_RING_ID ∨ (hAuth f ≠ s.getB F.hrlCfg_AUTH ∧ !untagged) then (false, s.linkErr e 1)
  else
    let s := s.passOn e f
    let s := if hAuth f then s.tallyAes 0 (cmacBlocks (16 + hLen f)) else s
    if hAuth f && !s.tagOk f then (false, s.linkErr e 1)
    else if !hForm f then (false, s)
    else
      let s := s.setHrl { s.hrl with
        otherHeard := s.hrl.otherHeard || (!s.isOwnFrame f && s.getB F.nodeStat_VALID (hOrigin f) && hOrigin f != s.hIndex)
        stewHeard := s.hrl.stewHeard || (s.get F.hrlStat_STEWARD != noIdx && hOrigin f == s.get F.hrlStat_STEWARD)
        ringHeard := s.hrl.ringHeard || hType f == tMark || hType f == tRoster }
      (!s.isOwnFrame f && (s.hState != hRepeat || hType f == tMark || hType f == tRoster), s)

/-- The key of twins: CLAIM and WAKE frames of several originators share a STREAM, so their node counts as well; a new coin starts its SEQ again, so ROTATION does (log entry 28). -/
def twinKey (f : List Byte) : Nat × Nat × Nat × Nat :=
  (hType f, hStream f, hSeq f, if hType f = tClaim then fnum f 16 8 else if hType f = tWake then hOrigin f else if hType f = tCoin then fnum f 16 4 else 0)

/-- A later twin of a frame that was delivered. -/
def State.isTwin (s : State) (f : List Byte) : Bool := s.hrl.seen.contains (twinKey f)

/-- Note a frame as delivered; the last 1,024 are remembered. -/
def State.noteSeen (s : State) (f : List Byte) : State :=
  s.setHrl { s.hrl with seen := (twinKey f :: s.hrl.seen).take 1024 }

/-- A twin is discarded; it counts in DUP of its origin where it carries REPEAT (R580). -/
def State.twinDrop (s : State) (f : List Byte) : State := if hRep f then s.nodeTally (hOrigin f) 1 else s

/-- The stamp of a frame start on lane e on domain d, received or sent, delta ticks into the cycle (R581). -/
def State.hRxStamp (s : State) (d e delta : Nat) : Int :=
  s.startTicks d + roundDiv ((Int.ofNat delta - 13697024 - (s.hlane e).rxCal) * (2 ^ 56 + s.domRate d)) (2 ^ 56)
def State.hTxStamp (s : State) (d e delta : Nat) : Int :=
  s.startTicks d + roundDiv ((Int.ofNat delta + 10092544 + (s.hlane e).txCal) * (2 ^ 56 + s.domRate d)) (2 ^ 56)

/-- A tick count's low 64 bits. -/
def low64 (t : Int) : Nat := codeOf 64 t

/-! ### Hop delays (R589–R591) -/

/-- The mean of a lane's accepted measurements in ticks, rounded to the nearest. -/
def hopMean (l : HLane) : Int := if l.ms = [] then 0 else roundDiv l.ms.sum (2 * l.ms.length)

/-- The allowance of a lane's hop (R590). -/
def State.hopAllow (s : State) (e : Nat) : Nat :=
  let m := s.modelSet
  boundSum [52429, s.get F.hLaneAsym_ASYM e, ceilDiv (3276800000 * s.get F.rshModelFtol_PARAM m) (2 ^ 64)]

/-- DELAY, ALLOW and HOP_VALID of a lane. -/
def State.showHop (s : State) (e : Nat) : State :=
  let l := s.hlane e
  let s := (s.put F.hLaneDelay_VALUE (hopMean l).toNat e).put F.hLaneAllow_VALUE (s.hopAllow e) e
  s.putB F.hLaneStat_HOP_VALID (s.hLink e && decide (64 ≤ l.n)) e

/-- A measurement from a HEALTH copy with HOPS 0 that arrived at t4 (R589). -/
def State.hopMeasure (s : State) (e : Nat) (t4 : Nat) (pay : List Byte) : State :=
  let l := s.hlane e
  let t3 := fnum pay 24 8
  let t2 := fnum pay 32 8
  match l.sent.find? fun x => x.1 == fnum pay 40 4 with
  | none => s
  | some (_, t1) =>
    let a := signedOf 64 (codeOf 64 (Int.ofNat t4 - Int.ofNat t1))
    let b := signedOf 64 (codeOf 64 (Int.ofNat t3 - Int.ofNat t2))
    let inWin (x : Int) : Bool := decide (0 ≤ x) && decide (x ≤ 6553600000)
    let d2 := a - b
    if (inWin a && inWin b && decide (l.n < 64)) || (l.ms != [] && decide ((d2 * l.ms.length - l.ms.sum).natAbs ≤ 2 * 524288 * l.ms.length)) then
      (s.setHlane e { l with ms := (d2 :: l.ms).take 64, n := l.n + 1 }).showHop e
    else s

/-- Delay and allowance that the east or west end of a hop reports: node k's own lane figures, or those of its HEALTH. -/
def State.hopEnd (s : State) (k e : Nat) : Nat × Nat :=
  if k = s.hIndex then (if s.getB F.hLaneStat_HOP_VALID e then (s.get F.hLaneDelay_VALUE e, s.get F.hLaneAllow_VALUE e) else (0, 0))
  else if e = 0 then ((s.hnode k).delayE, (s.hnode k).allowE) else ((s.hnode k).delayW, (s.hnode k).allowW)

/-- The end's figures count: not those of an untagged HEALTH on a ring with AUTH. -/
def State.hopTrust (s : State) (k : Nat) : Bool := k == s.hIndex || !s.getB F.nodeStat_UNTAGGED k

/-- The east neighbour of a member, by index. -/
def State.eastOf (s : State) (k : Nat) : Option Nat :=
  s.indexOf (if k = s.hIndex then s.get F.hLaneNbr_NODE_ID 0 else (s.hnode k).east)

/-- The ring's delay and allowance of the hop from node k to its east neighbour (R590): the mean of the two ends, half a tick dropped
(DESIGN CHOICE: log entry 79), or the figures of one end where the other's HEALTH is untagged; none where an end that counts has no
valid measurement (R591; DEDUCED: log entry 55). -/
def State.hop (s : State) (k : Nat) : Option (Nat × Nat) :=
  match s.eastOf k with
  | none => none
  | some j =>
    let (d1, a1) := s.hopEnd k 0
    let (d2, a2) := s.hopEnd j 1
    match s.hopTrust k, s.hopTrust j with
    | true, true => if d1 = 0 ∨ d2 = 0 then none else some ((d1 + d2) / 2, max a1 a2)
    | true, false => if d1 = 0 then none else some (d1, a1)
    | false, true => if d2 = 0 then none else some (d2, a2)
    | false, false => none

/-- NODEk_HOP of every member. -/
def State.showHops (s : State) : State :=
  (List.range 16).foldl (fun s k =>
    let (d, a) := (if s.getB F.nodeStat_VALID k then s.hop k else none).getD (0, 0)
    (s.put F.nodeHop_DELAY d k).put F.nodeHop_ALLOW a k) s

/-- The hops from a node to this one in a direction (0 eastward): their number, the sum of their delays and allowances with
whether every hop gives one; `fuel` bounds the ring. -/
def State.pathFrom (s : State) (dir : Nat) : Nat → Nat → Option (Nat × Nat × Nat × Bool)
  | 0, _ => none
  | f + 1, k =>
    if k = s.hIndex then some (0, 0, 0, true)
    else
      let next := if dir = 0 then s.eastOf k else s.members.find? fun j => s.eastOf j == some k
      match next with
      | none => none
      | some j =>
        let h := if dir = 0 then s.hop k else s.hop j
        match s.pathFrom dir f j with
        | none => none
        | some (n, d, a, ok) =>
          match h with
          | some (d1, a1) => some (n + 1, d + d1, a + a1, ok)
          | none => some (n + 1, d, a, false)

/-! ### Roster and roles (R571–R573, R602–R607) -/

/-- The level sources of HRL. -/
def State.hrlFaults (s : State) : State := s.refreshAll [44, 45, 46]

/-- A role change is entered in the event ledger (R611). -/
def State.logRole (s : State) (idx old new : Nat) : State :=
  if old = new then s
  else s.log 0x09 (if idx = noIdx then 0xff else idx) 0x0901 0 1
    ([byte idx, byte old, byte new, 0] ++ beBytes 2 (s.get F.hrlMisc_ROLE_EPOCH) ++ beBytes 4 s.turn)

/-- BROKEN: a hop of the ring is missing. -/
def State.showBroken (s : State) : State :=
  let lost := !s.hLink 0 || !s.hLink 1 ||
    s.members.any fun k => k != s.hIndex && (s.hnode k).seen && (!s.getB F.nodeStat_EAST_LINK k || !s.getB F.nodeStat_WEST_LINK k)
  s.putB F.hrlStat_BROKEN (s.isMember && lost)

/-- The role of an index under given GMA and GMB. -/
def roleAt (a b k : Nat) : Nat := if k = noIdx then roleNone else if a = k then roleA else if b = k then roleB else roleDu

/-- Set GMA, GMB and the epoch; this node's role follows. Every role change is entered in the event ledger. -/
def State.setRoles (s : State) (a b epoch : Nat) : State :=
  let old := s.hRole
  let a0 := s.get F.hrlStat_GMA
  let b0 := s.get F.hrlStat_GMB
  let s := ((s.put F.hrlStat_GMA a).put F.hrlStat_GMB b).put F.hrlMisc_ROLE_EPOCH epoch
  let new := if s.isMember then roleAt a b s.hIndex else roleNone
  let s := s.members.foldl (fun s k => if k = s.hIndex then s else s.logRole k (roleAt a0 b0 k) (roleAt a b k)) s
  let s := (s.put F.hrlStat_ROLE new).logRole s.hIndex old new
  let s := if old = new then s
    else s.setHrl { s.hrl with departed := [], handover := false, trend := [], gms := if new = roleDu ∨ new = roleNone then [] else s.hrl.gms }
  s.hrlFaults

/-- A roster change in the event ledger (R611). -/
def State.logRoster (s : State) (members steward epoch from' : Nat) : State :=
  s.log 0x09 0xff 0x0902 0 1 ([byte members, byte steward] ++ beBytes 2 epoch ++ beBytes 4 from')

/-- The roster is cleared, and the roles: the node claims again (R602). -/
def State.hClaim (s : State) : State :=
  let s := if s.isMember then s.logRoster 0 0xff 0 s.turn else s
  let s := (s.put F.hrlStat_STATE hClaiming).setRoles noIdx noIdx 0
  let s := (List.range 16).foldl (fun s k => (s.wr .nodeId 0 k).wr .nodeStat 0 k |>.wr .nodeHop 0 k) s
  let s := (s.put F.hrlStat_INDEX noIdx).put F.hrlStat_STEWARD noIdx
  let s := ((s.put F.hrlStat_MEMBERS 0).putB F.hrlStat_QUIET false).putB F.hrlMisc_QUIET_PEND false
  let s := s.setHrl { s.hrl with nodes := [], claimed := [], ringHeard := false, joining := [], rosterNext := none, complete := false,
                                 coin := none, coinNext := none, silent := 0, stewSilent := 0, markMiss := 0, quietAt := none,
                                 voteAsk := false, arrived := [], sampled := none, own := [], gms := [], gmNext := 1, copies := [],
                                 lastAcc := [], pacer := 0, claimAt := none, aloneAt := s.tse.cyc }
  ((s.put F.hrlTx_NEXT_SEQ 1).put F.hrlTx_ACKED 0).showBroken

/-- TRAINING ends where the mode and a link allow it (R602). -/
def State.hrlTrained (s : State) : State :=
  if s.hState = hTraining ∧ s.mode.running ∧ (s.hLink 0 ∨ s.hLink 1) then
    (if s.fatalMode then s.put F.hrlStat_STATE hRepeat else s.hClaim)
  else s

/-- The payload of the roster as it stands with given roles, epoch and FROM_TURN; `extra` are nodes that join. -/
def State.rosterBytes (s : State) (steward a b epoch from' : Nat) (extra : List (Nat × Nat × Bool × Nat)) : List Byte :=
  let code (x : Nat) : Nat := if x = noIdx then 0xff else x
  let entry (id idx : Nat) (gm rep : Bool) (prio : Nat) : List Byte :=
    beBytes 8 id ++ [byte idx, byte ((if gm then 128 else 0) + (if rep then 64 else 0)), byte prio] ++ List.replicate 5 0#8
  let ms := s.members
  [byte (ms.length + extra.length), byte steward] ++ beBytes 2 epoch ++ [byte (code a), byte (code b), 0, 0] ++ beBytes 4 from' ++
    beBytes 4 0 ++
    (ms.map fun k => entry (s.nodeIdOf k) k (s.hnode k).gm (s.repeatsOnly k) (s.hnode k).prio).flatten ++
    (extra.map fun e => entry e.1 e.2.1 e.2.2.1 false e.2.2.2).flatten

/-- The entries of a roster payload: node ID, index, GM_CAPABLE, REPEAT_ONLY, PRIO. -/
def rosterEntries (p : List Byte) : List (Nat × Nat × Bool × Bool × Nat) :=
  (List.range (min 16 (fb p 0))).map fun j =>
    let o := 16 + 16 * j
    (fnum p o 8, fb p (o + 8) % 16, fb p (o + 9) / 128 == 1, fb p (o + 9) / 64 % 2 == 1, fb p (o + 10))

/-- The members whose acknowledgement counts. -/
def State.ackers (s : State) : List Nat := s.members.filter fun k => k != s.hIndex && !s.repeatsOnly k

/-- A member has acknowledged a SEQ of a stream. -/
def State.acked (s : State) (k stream seq : Nat) : Bool := !laterSerial 32 seq ((s.hnode k).acks.getD stream 0)

/-- Frames that every member has acknowledged are let go (R599). -/
def State.release (s : State) : State :=
  let all (stream : Nat) (x : HKept) : Bool := x.sent.isSome && s.ackers.all fun k => s.acked k stream x.seq
  let done := s.hrl.own.filter (all s.hIndex)
  let s := match done.getLast? with
    | some x => s.put F.hrlTx_ACKED x.seq
    | none => s
  s.setHrl { s.hrl with own := s.hrl.own.filter fun x => !all s.hIndex x, gms := s.hrl.gms.filter fun x => !all 16 x }

/-- A roster takes effect: members, steward, roles (R602, R604, R605). A member that has left it no longer has to acknowledge
(R599); a coin of another steward is discarded (R600). A REPEAT_ONLY node that it does not list has no index any more. -/
def State.applyRoster (s : State) (p : List Byte) : State :=
  let es := rosterEntries p
  match es.find? fun e => e.1 == ownId with
  | none => if s.isMember then s.hClaim else if s.hState = hRepeat then s.put F.hrlStat_INDEX noIdx else s
  | some (_, idx, _, _, _) =>
    if s.hState = hRepeat then s else
    let was := s.isMember
    let ids := s.members.map s.nodeIdOf
    let oldStew := s.get F.hrlStat_STEWARD
    let code (x : Nat) : Nat := if x = 0xff then noIdx else x % 16
    let s := (List.range 16).foldl (fun s k =>
      match es.find? fun e => e.2.1 == k with
      | some (id, _, gm, rep, prio) =>
        let fresh := s.nodeIdOf k != id || !s.getB F.nodeStat_VALID k
        let s := (s.put F.nodeId_NODE_ID id k).putB F.nodeStat_VALID true k
        let n := if fresh then {} else s.hnode k
        s.setHnode k { n with gm := gm, repeatOnly := rep, prio := prio }
      | none => ((s.wr .nodeId 0 k).wr .nodeStat 0 k).setHnode k {}) s
    let s := ((s.put F.hrlStat_STATE hMember).put F.hrlStat_INDEX idx).put F.hrlStat_STEWARD (fb p 1 % 16)
    let s := s.put F.hrlStat_MEMBERS es.length
    let roles := fb p 4 != 0xff
    let s := s.setHrl { s.hrl with
      complete := s.hrl.complete || roles, silent := 0, stewSilent := 0, joining := [], claimed := [],
      adopt := s.hrl.adopt || (!was && fnum p 2 2 != 0), ringHeard := false }
    let s := if was ∧ oldStew = fb p 1 % 16 then s else s.setHrl { s.hrl with coin := none, coinNext := none }
    let s := if was then s else (s.put F.hrlStat_TURN (fnum p 8 4)).setHrl { s.hrl with turnCyc := s.tse.cyc, sentTypes := [], adopted := false }
    let s := s.setRoles (code (fb p 4)) (code (fb p 5)) (fnum p 2 2)
    let changed := !was || ids != s.members.map s.nodeIdOf || oldStew != fb p 1 % 16
    let s := if changed then s.logRoster es.length (fb p 1) (fnum p 2 2) (fnum p 8 4) else s
    s.release.showHops.showBroken.hrlFaults

/-- A member is eligible for a grandmaster role by what its HEALTH says (R573). -/
def State.eligible (s : State) (k : Nat) : Bool :=
  let m := s.get F.nodeStat_MODE k
  s.getB F.nodeStat_VALID k && s.getB F.nodeStat_GM_CAPABLE k && s.getB F.nodeStat_OK k && m != 9 && m != 10 && m != 11

/-- The best of a list of members: lowest PRIO, then lowest node ID. -/
def State.bestOf (s : State) : List Nat → Option Nat
  | [] => none
  | k :: l =>
    match s.bestOf l with
    | none => some k
    | some j =>
      let pk := s.get F.nodeStat_PRIO k
      let pj := s.get F.nodeStat_PRIO j
      if pk < pj ∨ (pk = pj ∧ s.nodeIdOf k < s.nodeIdOf j) then some k else some j

/-- The roles that the steward assigns: vacancies filled, GM-A first; a GM-B without OK is made a DU (R573, R610). -/
def State.fillRoles (s : State) : Nat × Nat :=
  let a := s.get F.hrlStat_GMA
  let b := s.get F.hrlStat_GMB
  let b := if b ≠ noIdx ∧ !s.getB F.nodeStat_OK b then noIdx else b
  let cand := s.members.filter s.eligible
  let a := if a = noIdx then (s.bestOf (cand.filter (· != b))).getD noIdx else a
  let b := if b = noIdx ∧ a ≠ noIdx then (s.bestOf (cand.filter (· != a))).getD noIdx else b
  (a, b)

/-- Send a roster, and have it apply here at its FROM_TURN. -/
def State.sendRoster (s : State) (p : List Byte) (epoch : Nat) : State :=
  let s := s.setHrl { s.hrl with rosterNext := some p, rosterIssue := (s.hrl.rosterIssue + 1) % 65536 }
  s.hSend tRoster 17 (epoch * 65536 + s.hrl.rosterIssue) false fun _ => p

/-- What the steward does at the start of its turn: admissions, roles (R604, R605, R573). -/
def State.stewardWork (s : State) : State :=
  if !s.isSteward then s
  else
    let used := s.members
    let free := (List.range 16).filter fun k => !used.contains k
    let extra := (s.hrl.joining.zip free).map fun e => (e.1.1, e.2, e.1.2.1, e.1.2.2)
    let ready := s.hrl.complete || decide (1 ≤ s.hrl.lastRotation)
    let (a, b) := if ready then s.fillRoles else (s.get F.hrlStat_GMA, s.get F.hrlStat_GMB)
    let roles := a != s.get F.hrlStat_GMA || b != s.get F.hrlStat_GMB
    if extra = [] ∧ !roles then s
    else
      let epoch := (s.get F.hrlMisc_ROLE_EPOCH + (if roles then 1 else 0)) % 65536
      let p := s.rosterBytes s.hIndex a b epoch ((s.turn + 1) % 2 ^ 32) extra
      (s.setHrl { s.hrl with joining := [] }).sendRoster p epoch

/-! ### Turns (R585–R587, R600, R606, R615) -/

/-- This node paces the turns: GM-A, or the steward while GM-A is vacant. -/
def State.paces (s : State) : Bool := s.isMember && (s.hRole == roleA || (s.isSteward && s.get F.hrlStat_GMA == noIdx))

/-- The key switch of a turn (R618). -/
def State.keySwitch (s : State) : State :=
  if s.getB F.hrlMisc_KEY_PEND && !laterSerial 32 (s.get F.hrlKey_SWITCH_TURN) s.turn then
    let v := s.get F.hrlCfg_KEY_SLOT
    let old := s.get F.hrlKey_SEND_GEN
    let s := s.putB F.hrlMisc_KEY_PEND false
    if s.ringKeyOk then
      let (g, s) := s.pin v
      (s.put F.hrlKey_SEND_GEN g).unpin v old
    else s
  else s

/-- The length of a turn in cycles of CLK_TSE (R585). -/
def State.turnLen (s : State) : Nat := if s.getB F.hrlStat_QUIET then 1250000 else 12500

/-- The offset of a turn, in cycles, has been reached (R588). -/
def State.atOffset (s : State) (n : Nat) : Bool := decide (s.hrl.turnCyc + n ≤ s.tse.cyc)

/-- A frame that is sent once a turn may be sent: its offset has been reached, and it has not been sent in this turn (R588). -/
def State.turnDue (s : State) (ty n : Nat) : Bool := s.atOffset n && !s.hrl.sentTypes.contains ty

/-- Note a frame that is sent once a turn. -/
def State.noteSent (s : State) (ty : Nat) : State := s.setHrl { s.hrl with sentTypes := ty :: s.hrl.sentTypes }

/-- The turn starts in this cycle. -/
def State.turnStarts (s : State) : Bool := s.hrl.turnCyc == s.tse.cyc

/-- This node has turns: a member, or a node that only repeats (R586, R602). -/
def State.inTurns (s : State) : Bool := s.isMember || s.hState == hRepeat

/-- The GM-capable member of lowest node ID among those still heard, the steward aside (R606). -/
def State.heir (s : State) : Option Nat :=
  (s.members.filter fun k => k != s.get F.hrlStat_STEWARD &&
      (if k = s.hIndex then s.getB F.hrlCfg_GM_CAPABLE else s.getB F.nodeStat_GM_CAPABLE k && decide ((s.hnode k).miss < 3))).foldl
    (fun b k => match b with
      | none => some k
      | some j => if s.nodeIdOf k < s.nodeIdOf j then some k else some j) none

/-- No steward exists any more: the one there was is lost and no GM-capable member is left (R587). -/
def State.stewardLost (s : State) : State :=
  let w := s.get F.hrlStat_STEWARD
  if s.isMember && w != noIdx && w != s.hIndex && decide (3 ≤ (s.hnode w).miss) && s.heir.isNone then
    (s.put F.hrlStat_STEWARD noIdx).logRoster (s.get F.hrlStat_MEMBERS) 0xff (s.get F.hrlMisc_ROLE_EPOCH) s.turn
  else s

/-- The count of turns without something, from whether it came in the turn that ends. -/
def missed (came : Bool) (n : Nat) : Nat := if came then 0 else n + 1

/-- The members' HEALTH of the turn that ends: MISS counts (R606, R619). -/
def State.healthTurn (s : State) : State :=
  if !s.isMember then s
  else s.members.foldl (fun s k =>
    if k = s.hIndex then s
    else
      let n := s.hnode k
      let s := s.setHnode k { n with heard := false, miss := missed n.heard n.miss }
      if n.heard then s else s.nodeTally k 0) s

/-- Turn `t` starts (R585–R587). -/
def State.startTurn (s : State) (t : Nat) : State :=
  let h := s.hrl
  let s := ((s.tally (.ev 0x09 0x01 0xff 0 1 0)).put F.hrlStat_TURN t).setHrl { h with
    turnAt := s.startTicks 0, turnCyc := s.tse.cyc, sentTypes := [], adopt := false, adopted := false, coinMiss := missed h.coinSeen h.coinMiss, coinSeen := false, silent := missed h.otherHeard h.silent, otherHeard := false,
    stewSilent := missed (h.stewHeard || s.isSteward) h.stewSilent, stewHeard := false,
    markMiss := missed (h.markHeard || s.hRole == roleA) h.markMiss, markHeard := false,
    sentOwn := 0, sentGm := 0, coin := h.coinNext, coinNext := none }
  let s := match s.hrl.rosterNext with
    | some p =>
      if laterSerial 32 (fnum p 8 4) t then s else ((s.setHrl { s.hrl with rosterNext := none }).applyRoster p).put F.hrlStat_TURN t
    | none => s
  let s := match s.hrl.quietAt with
    | some q => if laterSerial 32 q t then s else (s.putB F.hrlStat_QUIET true).setHrl { s.hrl with quietAt := none }
    | none => s
  s.keySwitch.healthTurn.stewardLost.stewardWork.hrlFaults

/-- QUIET ends, or never takes effect (R616). -/
def State.quietEnd (s : State) : State :=
  ((s.putB F.hrlStat_QUIET false).putB F.hrlMisc_QUIET_PEND false).setHrl { s.hrl with quietAt := none, voteAsk := false }

end Sys2Proof.Machine
end

