-- ==== Sys2Proof/Machine/HingeTime.lean ====
section
/-! DEFINITION. HRL's time: TIME_MARK and HEALTH frames, phase samples, the servo of RING domains (R582–R594). -/
namespace Sys2Proof.Machine

/-! ### TIME_MARK -/

/-- ROLE of the marks that this node sends (R572, R574, R587, R604); none where it sends none. -/
def State.marks (s : State) : Option Nat :=
  if !s.isMember then none
  else if s.hRole = roleA then some 1
  else if s.hRole = roleB ∧ s.mode = .standby then some 2
  else if s.isSteward ∧ s.get F.hrlStat_GMA = noIdx then some 3
  else none

/-- Domains of the entries: D0, and those that HRL_DIST lists and that may be sent (R582). -/
def State.markDoms (s : State) : List Nat :=
  0 :: ((List.range (s.get F.hrlDist_COUNT)).map fun k => s.get F.hrlDist_DOM / 32 ^ k % 32).filter
    fun d => d == 0 || (s.dom d).owner == 0

/-- The entries of a departure stamped delta ticks into the cycle on lane e. -/
def State.markEntries (s : State) (e delta : Nat) : List HEntry × State :=
  let (free, s) := s.draw
  (s.markDoms.map fun d =>
    { dom := d, traced := (s.dom d).traceable, hold := (s.dom d).hold, bound := ecode (s.dom d).bound,
      time := timeVal free (s.hTxStamp d e delta) }, s)

def entryBytes (x : HEntry) : List Byte :=
  [byte ((if x.traced then 128 else 0) + (if x.hold then 64 else 0) + x.dom), 0] ++ beBytes 2 x.bound ++ beBytes 12 x.time

/-- The payload of a mark on lane e. -/
def State.markPay (s : State) (role e : Nat) : List Byte :=
  let l := tabGet [] s.hrl.departed e
  let none' := l == []
  let (free, _) := s.draw
  let l := if none' then s.markDoms.map fun d => ⟨d, (s.dom d).traceable, (s.dom d).hold, 0xffff, free % 2 ^ 96⟩ else l
  [byte l.length, byte (role * 64 + s.get F.tseUtc_LEAP_TYPE * 16 + s.mode.code)] ++ beBytes 2 (s.get F.tseUtc_UTC_OFFSET) ++
    beBytes 6 (s.get F.tseLeapAt_LEAP_AT) ++ beBytes 2 (s.get F.hrlMisc_ROLE_EPOCH) ++ [byte (if none' then 1 else 0), 0, 0, 0] ++
    (l.map entryBytes).flatten

/-- TIME_MARK_SEND, once a turn: deltaE and deltaW are the departures' positions in the cycle, in ticks. -/
def execTimeMarkSend (deltaE deltaW : Nat) (s : State) : Res :=
  .next (match s.marks with
    | none => s.setHrl { s.hrl with departed := [] }
    | some role =>
      if !s.turnDue tMark 0 then s else
      let s := s.noteSent tMark
      let s := s.hSend tMark 16 s.turn false (s.markPay role)
      let (l0, s) := s.markEntries 0 deltaE
      let (l1, s) := s.markEntries 1 deltaW
      s.setHrl { s.hrl with departed := [(0, l0), (1, l1)].filter fun x => s.hLink x.1 })

/-- The entries of a received mark. -/
def markRead (p : List Byte) : List HEntry :=
  (List.range (min 8 (fb p 0))).map fun k =>
    let o := 16 + 16 * k
    { dom := fb p o % 32, traced := fb p o / 128 == 1, hold := fb p o / 64 % 2 == 1, bound := fnum p (o + 2) 2,
      time := fnum p (o + 4) 12 }

/-- Ticks of a time value as it travels (R1). -/
def ticksOfTv (t : Nat) : Int := Int.ofNat ((t / 2 ^ 48 * 1000000000 + t % 2 ^ 48 / 2 ^ 18) * 262144 + t % 2 ^ 18)

/-- The domains that a mark serves here: D0 and the enabled RING domains. -/
def State.ringDoms (s : State) : List Nat :=
  0 :: (List.range 32).filter fun d => d != 0 && (s.dom d).kind == .ring && s.getB F.hrlRdom_EN d

/-- The mark is one that starts turns: of the current GM-A, of the GM-B in STANDBY, or of the steward while GM-A is vacant (R580,
R587, R593). -/
def State.markValid (s : State) (f : List Byte) : Bool :=
  let role := fb (hPay f) 1 / 64
  (role == 1 && hOrigin f == s.get F.hrlStat_GMA) ||
    (role == 2 && fb (hPay f) 1 % 16 == 8 && hOrigin f == s.get F.hrlStat_GMB) ||
    (role == 3 && s.get F.hrlStat_GMA == noIdx && hOrigin f == s.get F.hrlStat_STEWARD)

/-- The mark comes from a sender whose samples count at this node (R593). -/
def State.sampleFrom (s : State) (f : List Byte) : Bool :=
  let role := fb (hPay f) 1 / 64
  let isA := hOrigin f == s.get F.hrlStat_GMA && role == 1
  let isB := role == 2 && fb (hPay f) 1 % 16 == 8 && hOrigin f == s.get F.hrlStat_GMB
  s.hRole != roleA && (isA || (isB && s.hRole != roleB))

/-- Seed a RING domain from a sample (R594, R61, R68). -/
def State.ringSeed (s : State) (d : Nat) (p : Int) (src ref origin : Nat) : State :=
  let x := tabGet {} s.hrl.rdoms d
  let s := s.setTime d (s.ticks d + p) 0x89
  let s := s.setHrl { s.hrl with rdoms := tabSet {} s.hrl.rdoms d { x with smp := [], errs := [0], seedN := 1, miss := 0 } }
  let tol := ceilDiv (s.get F.rshModelFtol_PARAM s.modelSet * (s.get F.hrlRservo_PER_MS * 262144000000)) (2 ^ 64)
  s.setDom d { s.dom d with prov := [{ kind := 4, id := origin }], lost := false, hold := false, bcSrc := src, bcRef := ref,
                            bcServo := max 209716 tol }

/-- A sample for a RING domain. -/
def State.ringSample (s : State) (d : Nat) (p : Int) (src ref origin : Nat) : State :=
  if (s.dom d).unseeded ∨ (s.dom d).bound = Config.unb then s.ringSeed d p src ref origin
  else
    let x := tabGet {} s.hrl.rdoms d
    s.setHrl { s.hrl with rdoms := tabSet {} s.hrl.rdoms d { x with smp := x.smp ++ [(p, src, ref, origin)] } }

/-- The rate estimate of the samples kept: the change of p over its span, in units of 2^-56 (R593). -/
def trendRate (l : List (Nat × Int × Int)) : Int :=
  match l.head?, l.getLast? with
  | some (_, t1, p1), some (_, t0, p0) => if 0 < t1 - t0 then roundDiv ((p1 - p0) * 2 ^ 56) (t1 - t0).toNat else 0
  | _, _ => 0

/-- What a mark of a sender whose samples count says of the traceability of the domains that follow it (R84). -/
def State.markTrace (s : State) (f : List Byte) : State :=
  if !s.sampleFrom f then s
  else
    let l := markRead (hPay f)
    s.ringDoms.foldl (fun s d =>
      match l.find? fun x => x.dom == (if d = 0 then 0 else s.get F.hrlRdom_SRC_DOM d) with
      | some x => s.setHrl { s.hrl with ringTrace := tabSet false s.hrl.ringTrace d x.traced }
      | none => s) s

/-- The samples of a mark of turn n on lane e, from the stamps of the mark of turn n − 1 on it (R591–R593). A sample whose entry 0
does not carry TRACEABLE is the turn's sample and is not valid: nothing takes it. -/
def State.markSample (s : State) (e : Nat) (f : List Byte) (prev : Option (Nat × List (Nat × Int))) : State :=
  let n := hSeq f
  let l := markRead (hPay f)
  match prev, s.pathFrom (hDir f) 17 (hOrigin f) with
  | some (m, at'), some (h, delay, allow, true) =>
    if s.hrl.sampled = some n ∨ (m + 1) % 2 ^ 32 ≠ n ∨ fb (hPay f) 12 % 2 = 1 ∨ !s.sampleFrom f ∨ h = 0 ∨
       !s.getB F.hLaneStat_DLM_VALID e then s
    else
      let path := Int.ofNat (delay + (h - 1) * 157286400)
      let s := s.setHrl { s.hrl with sampled := some n }
      if !((l.head?.map (·.traced)).getD false) then s
      else s.ringDoms.foldl (fun s d =>
        let src := if d = 0 then 0 else s.get F.hrlRdom_SRC_DOM d
        match l.find? fun x => x.dom == src, at'.find? fun x => x.1 == d with
        | some x, some (_, a) =>
          let p := ticksOfTv x.time + path - a
          let bc := boundSum [ecodeBound x.bound, allow]
          if d = 0 then
            let t := (n, a, p) :: s.hrl.trend.filter fun y => decide ((n + 2 ^ 32 - y.1) % 2 ^ 32 ≤ 100)
            (s.setHrl { s.hrl with trend := t }).offerSample cRing { inst := a, p := p, src := bc, ref := 78644, rate := trendRate t, steer := s.steerTicks }
          else s.ringSample d p bc 78644 (hOrigin f)
        | _, _ => s) s
  | _, _ => s

/-- A mark of GM-B as GM-A under a later epoch: it has promoted itself (R611). -/
def State.markRoles (s : State) (f : List Byte) : State :=
  let epoch := fnum (hPay f) 10 2
  if fb (hPay f) 1 / 64 = 1 ∧ laterSerial 16 epoch (s.get F.hrlMisc_ROLE_EPOCH) ∧ s.get F.hrlStat_GMB = hOrigin f then
    (s.setRoles (hOrigin f) noIdx epoch).quietEnd
  else s

/-- The mark of a later turn starts it at a member that does not pace (R586); the first mark of GM-A after a steward's
re-phases the turns (R604). -/
def State.markStarts (s : State) (f : List Byte) (arr : Int) : State :=
  let role := fb (hPay f) 1 / 64
  let again := s.hrl.pacer == 3 && role == 1
  let s := if again && !s.paces then
      let (free, s) := s.draw
      let step := if s.hrl.turnAt = 0 then Int.ofNat free else arr - (s.hrl.turnAt + 2621440000)
      s.log 0x09 0xff 0x0904 0 1 (beBytes 8 (clip64 step))
    else s
  if s.paces ∨ (!laterSerial 32 (hSeq f) s.turn ∧ !again) then s
  else (s.setHrl { s.hrl with pacer := role }).startTurn (hSeq f)

/-- A frame of one type arrives on lane e and is handed to its handler. -/
def State.rxFrame (s : State) (e ty : Nat) (f : List Byte) (crcOk : Bool) (g : State → State) : State :=
  if crcOk && hForm f && hType f != ty then s
  else
    let (ok, s) := s.hReceive e f crcOk
    if ok then g s else s

/-- TIME_MARK_RX: a copy arrives on lane e, its start delta ticks into the cycle. -/
def execTimeMarkRx (e delta : Nat) (frame : List Byte) (crcOk : Bool) (s : State) : Res :=
  .next (s.rxFrame e tMark frame crcOk fun s =>
    let path := s.pathFrom (hDir frame) 17 (hOrigin frame)
    let bad := match path with | some (h, _, _, _) => decide (hHops frame + 1 ≠ h) | none => false
    let applies := match s.hrl.rosterNext with
      | some p => !laterSerial 32 (fnum p 8 4) (hSeq frame)
      | none => false
    if s.hState = hClaiming then (if applies then s.startTurn (hSeq frame) else s)
    else if s.hState = hRepeat then
      (if s.markValid frame ∧ laterSerial 32 (hSeq frame) s.turn then s.startTurn (hSeq frame) else s)
    else if !s.isMember then s
    else if bad then s.linkErr e 2
    else
      let s := s.markRoles frame
      if !s.markValid frame then s else
      let role := fb (hPay frame) 1 / 64
      let arr := s.hRxStamp 0 e delta
      let s := s.markStarts frame arr
      let s := if role = 1 ∨ role = 2 then s.setHrl { s.hrl with markHeard := true, markMiss := 0 } else s
      let key := e * 32 + hOrigin frame
      let prev := tabGet none s.hrl.arrived key
      let now := s.ringDoms.map fun d => (d, s.hRxStamp d e delta)
      let s := s.setHrl { s.hrl with arrived := tabSet none s.hrl.arrived key (some (hSeq frame, now)) }
      let s := if s.isTwin frame then s.twinDrop frame else s.noteSeen frame
      ((s.markTrace frame).markSample e frame prev).hrlFaults)

/-! ### HEALTH -/

/-- The candidate whose disagreement with RING a GM-B reports (R610). -/
def State.diverging (s : State) : Option Nat :=
  if s.hRole = roleB ∧ s.get F.rshStat_SEL = cRing then
    (List.range 26).find? fun c =>
      c != cRing && (s.refState c == 1 || s.refState c == 2) && s.getB F.refStat_DISAGREE c
  else none

/-- OK of the own HEALTH (R610). -/
def State.healthOk (s : State) : Bool :=
  s.getB F.kvcStat_KAT_OK && s.hrl.loopOk &&
    !((List.range 64).any fun t => s.getB F.tdcStat_UNCAL t || s.getB F.tdcStat_LAST_FAIL t)

/-- The payload of a HEALTH on lane e (R583). -/
def State.healthPay (s : State) (e : Nat) : List Byte :=
  let l := s.hlane e
  let b (x : Bool) (n : Nat) : Nat := if x then n else 0
  let hop (e : Nat) : List Byte :=
    if s.getB F.hLaneStat_HOP_VALID e then beBytes 4 (s.get F.hLaneDelay_VALUE e) ++ beBytes 4 (s.get F.hLaneAllow_VALUE e)
    else List.replicate 8 0#8
  beBytes 8 ownId ++
    [byte (s.mode.code * 16 + s.hRole * 4 + b (s.getB F.hrlCfg_GM_CAPABLE) 2 + b (s.getB F.hrlCfg_QUIET_OK) 1),
     byte (s.get F.hrlCfg_PRIO),
     byte (b s.healthOk 128 + b s.diverging.isSome 64 + b (s.dom 0).traceable 32 + b (s.hLink 0) 16 + b (s.hLink 1) 8 +
           b s.hrl.handover 4 + b (s.hrl.joining != []) 2), 0] ++
    beBytes 2 s.d0Ecode ++ beBytes 2 (s.get F.hrlMisc_ROLE_EPOCH) ++ beBytes 8 (s.get F.hLaneNbr_NODE_ID 0) ++
    beBytes 8 l.last.2.2 ++ beBytes 8 l.echo.1 ++ beBytes 4 l.echo.2 ++ List.replicate 4 0#8 ++ hop 0 ++ hop 1

/-- What HEALTH says of node k, as NODEk_STAT shows it. -/
def State.noteHealth (s : State) (k : Nat) (pay : List Byte) (untagged : Bool) : State :=
  let s := (s.put F.nodeStat_MODE (fb pay 8 / 16) k).put F.nodeStat_ROLE (fb pay 8 / 4 % 4) k
  let s := s.putB F.nodeStat_UNTAGGED untagged k
  if untagged then s
  else
    let s := (s.put F.nodeStat_GM_CAPABLE (fb pay 8 / 2) k).put F.nodeStat_QUIET_OK (fb pay 8) k
    let s := (s.put F.nodeStat_PRIO (fb pay 9) k).put F.nodeStat_OK (fb pay 10 / 128) k
    let s := (s.put F.nodeStat_DIVERGE (fb pay 10 / 64) k).put F.nodeStat_TRACEABLE (fb pay 10 / 32) k
    let s := (s.put F.nodeStat_EAST_LINK (fb pay 10 / 16) k).put F.nodeStat_WEST_LINK (fb pay 10 / 8) k
    s.put F.nodeStat_BOUND (fnum pay 12 2) k

/-- HEALTH_SEND, once a turn, from 0.4 µs. -/
def execHealthSend (deltaE deltaW : Nat) (s : State) : Res :=
  .next (if !s.inTurns ∨ !s.turnDue tHealth 500 then s
    else
      let s := ((s.noteSent tHealth).showHop 0).showHop 1
      let k := s.hIndex
      let was := s.getB F.nodeStat_DIVERGE k
      let s := s.hSend tHealth (if k = noIdx then 15 else k) s.turn false s.healthPay
      let s := [(0, deltaE), (1, deltaW)].foldl (fun s x =>
        let l := s.hlane x.1
        let dep := low64 (s.hTxStamp 0 x.1 x.2)
        if s.hLink x.1 then
          s.setHlane x.1 { l with sent := ((s.turn, dep) :: l.sent).take 64, echo := (l.last.1, l.last.2.1),
                                  last := (l.last.1, l.last.2.1, dep) }
        else s) s
      if s.isMember then
        let s := s.noteHealth k (s.healthPay 0) false
        let s := match s.diverging with
          | some c => if was then s else s.log 0x09 0xff 0x0903 0 2 [byte c]
          | none => s
        s.showBroken.hrlFaults
      else s)

/-- HEALTH_RX. A copy with HOPS 0 measures the hop even when it is a twin. -/
def execHealthRx (e delta : Nat) (frame : List Byte) (crcOk : Bool) (s : State) : Res :=
  .next (s.rxFrame e tHealth frame crcOk fun s =>
    let pay := hPay frame
    let untagged := s.getB F.hrlCfg_AUTH && !hAuth frame
    let t4 := low64 (s.hRxStamp 0 e delta)
    let s := if hHops frame = 0 ∧ !untagged then
        let s := (s.put F.hLaneNbr_NODE_ID (fnum pay 0 8) e).hopMeasure e t4 pay
        let l := s.hlane e
        s.setHlane e { l with last := (t4, hTurn frame, l.last.2.2) }
      else s
    if !s.isMember then s
    else if s.isTwin frame then s.twinDrop frame
    else
      let s := s.noteSeen frame
      match s.indexOf (fnum pay 0 8) with
      | none => s
      | some k =>
        let n := { s.hnode k with heard := true, miss := 0 }
        let n := { n with repeatOnly := decide (fb pay 8 / 16 = 10 ∨ fb pay 8 / 16 = 11) }
        let n := if untagged then n else
          { n with seen := true, east := fnum pay 16 8, handover := fb pay 10 / 4 % 2 == 1, delayE := fnum pay 48 4, allowE := fnum pay 52 4,
                   delayW := fnum pay 56 4, allowW := fnum pay 60 4 }
        ((s.setHnode k n).noteHealth k pay untagged).showHops.showBroken.hrlFaults)

/-! ### RING domains (R594) -/

/-- FOFF of a domain, held to its range. -/
def foffOf (f : Int) : Int := clampInt (-(2 ^ 47 - 1)) (2 ^ 47 - 1) f

/-- The close of domain d's servo period. -/
def State.ringClose (s : State) (d : Nat) : State :=
  let x := tabGet {} s.hrl.rdoms d
  let dm := s.dom d
  let per := s.get F.hrlRservo_PER_MS
  let set (s : State) (x : RDom) : State := s.setHrl { s.hrl with rdoms := tabSet {} s.hrl.rdoms d x }
  match x.smp with
  | [] =>
    let x := { x with miss := x.miss + 1 }
    if dm.hold then
      set (s.setDom d { dm with tint := dm.tint + ceilDiv ((s.thetaQ - x.th).natAbs * per) 65536000 }) x
    else if x.miss < 2 then set s x
    else if dm.dfu = 0 then set (s.setDom d { dm with bcSrc := Config.unb }) x
    else
      let s := s.setHold d true
      set (s.setDom d { s.dom d with tint := 0 }) { x with th := s.thetaQ }
  | (p0, _) :: _ =>
    let mean := roundDiv (x.smp.map (·.1)).sum x.smp.length
    let (_, src, ref, origin) := x.smp.foldl (fun a b => if boundSum [a.2.1, a.2.2.1] ≤ boundSum [b.2.1, b.2.2.1] then b else a)
      (p0, 0, 0, 0)
    let s := if dm.hold then
        let amount := satInt 64 (mean - slewRemTicks dm)
        let s := s.setHold d false
        s.setDom d (bookSlew (s.dom d) amount ref dm.slewMax)
      else s
    let e := mean - slewRemTicks (s.dom d)
    let en := e * 16384
    let i := clampInt (-servoLim) servoLim (x.i + roundDiv (Int.ofNat (s.get F.hrlRki_GAIN) * en) 4294967296)
    let f := clampInt (-servoLim) servoLim (roundDiv (Int.ofNat (s.get F.hrlRkp_GAIN) * en) 4294967296 + i)
    let h := (e.natAbs :: x.errs).take 64
    let tol := if x.seedN = 0 then 0
      else ceilDiv (s.get F.rshModelFtol_PARAM s.modelSet * (per * 262144000000)) (2 ^ 64)
    let s := set s { x with smp := [], i := i, errs := h, seedN := x.seedN - 1, miss := 0 }
    s.setDom d { s.dom d with foff := foffOf (roundDiv (f * 16777216) 1000000000), bcSrc := src, bcRef := ref, lost := false,
                              bcServo := max (max 209716 (2 * h.foldl max 0)) tol,
                              prov := if (s.dom d).prov = [{ kind := 4, id := origin }] then (s.dom d).prov
                                else [{ kind := 4, id := origin }] }

/-- HRL_RDOMd has been written: its SERVO_CLOSE alarm is armed or cancelled (R594). -/
def State.hrlRdomWritten (s : State) (d : Nat) (old : Word) : State :=
  let x := tabGet {} s.hrl.rdoms d
  let set (s : State) (x : RDom) : State := s.setHrl { s.hrl with rdoms := tabSet {} s.hrl.rdoms d x }
  let en := s.getB F.hrlRdom_EN d
  if en && bitsOf old 7 7 == 0 then
    if (s.dom d).kind ≠ .ring then s.putB F.hrlRdom_EN false d
    else
      match s.freeSlot 0 with
      | none => s.wr .hrlRdom old d
      | some k =>
        let t := s.get F.hrlRservo_PER_MS * 262144000000
        (set s { slot := some k }).armSlot k 0 d (s.ticks d + Int.ofNat t).toNat .servoClose (32 + d) t true false
  else if !en && bitsOf old 7 7 == 1 then
    match x.slot with
    | some k => (set s {}).releaseOwn k .servoClose (32 + d)
    | none => s
  else s

end Sys2Proof.Machine
end

