-- ==== Sys2Proof/Machine/Quote.lean ====
section
/-! DEFINITION. CP firmware's settings store and attestation quotes (R725–R728, R738–R742). -/
namespace Sys2Proof.Machine

/-- A slot no longer counts as persistent. -/
def State.persistDrop (s : State) (v : Nat) : State :=
  if s.settings.persist.any (·.slot == v) then
    s.setSettings { s.settings with persist := s.settings.persist.filter (·.slot != v) }
  else s

/-- A slot's blob and LAST_GEN are kept (R552). -/
def State.persistPut (s : State) (k : KeptKey) : State :=
  s.setSettings { s.settings with persist := s.settings.persist.filter (·.slot != k.slot) ++ [k] }

/-! ### Quotes (R738–R742) -/

/-- The 48 bytes of MREGi (R722). -/
def State.mreg (s : State) (i : Nat) : List Byte := (List.range 6).flatMap fun k => beBytes 8 (s.rd .cpxMreg i k).toNat

/-- The certificate chain of the settings store. -/
def State.chain' (s : State) : List Byte := s.settings.chain

/-- The leaf certificate names the identity key (R739). -/
def State.chainStale (s : State) : Bool := BitVec.ofNat 768 (Config.certKey s.chain') != Config.ecdsaPub 48 s.idk

/-- Byte 6 of a quote. -/
def State.quoteFlags (s : State) (byHash : Bool) : Nat :=
  let b (x : Bool) (k : Nat) : Nat := if x then 2 ^ k else 0
  b (s.getB F.cpxBoot_FALLBACK) 7 + b (!s.getB F.cpxBoot_CONFIRMED) 6 + b s.cpx.owner.lock 5 + b s.cpx.owner.set 4 +
    b s.cpx.owner.csig 3 + b s.chainStale 2 + b byHash 1

/-- A quote without its signature (R738); `free` stands for a D0 time outside the format. -/
def State.quoteBody (s : State) (free : Nat) (nonce : List Byte) (byHash : Bool) : List Byte :=
  let slot := s.get F.cpxBoot_SLOT
  let chain := if byHash then beBytes 48 (Config.sha384 s.chain').toNat else s.chain'
  beBytes 4 0x54444e51 ++ [byte 1, byte s.mode.code, byte (s.quoteFlags byHash), byte slot] ++ deviceId ++
    beBytes 4 s.kvc.epoch ++ beBytes 4 (s.get F.cpxImg_VERSION slot) ++ beBytes 2 (s.get F.cpxImg_SFMT slot) ++
    [byte (s.get F.cpxImg_SVN slot), 0] ++ beBytes 12 (timeVal free (s.startTicks 0)) ++ beBytes 2 s.d0Ecode ++ [0, 0] ++
    (nonce ++ List.replicate 32 0#8).take 32 ++ (List.range 16).flatMap s.mreg ++ beBytes 2 chain.length ++ [0, 0] ++ chain

/-- Quotes are produced in the present mode (R742), and the identity key and the generator serve. -/
def State.quotes' (s : State) : Bool := s.mode.up && s.mode != .sealed && s.keysHeld && s.rngOk

/-- Quotes signed in the present second. -/
def State.quotesNow (s : State) : Nat := if s.cpx.quoteSec = s.tse.cyc / 1250000000 then s.cpx.quoteCnt else 0

/-- The limit of R740 is reached. -/
def State.quoteBusy (s : State) : Bool := decide (25000 ≤ s.quotesNow)

/-- Sign a quote. -/
def State.quote (s : State) (nonce : List Byte) (byHash : Bool) : List Byte × State :=
  let body := s.quoteBody s.draw.1 nonce byHash
  let (sig, s) := s.draw.2.signWith 48 s.idk (beBytes 48 (Config.sha384 body).toNat)
  (body ++ sig, ({ s with cpx := { s.cpx with quoteSec := s.tse.cyc / 1250000000, quoteCnt := s.quotesNow + 1 } }).tallyEcdsa 0xff 0)

end Sys2Proof.Machine
end

