-- ==== Sys2Proof/Machine/Hinge.lean ====
section
/-! DEFINITION. HRL's coin, bulk streams, formation, redundancy, QUIET, and commands (R569, R595–R622). -/
namespace Sys2Proof.Machine

/-! ### On and off, lanes (R602) -/

/-- HRL is OFF: its lanes idle, its ring state gone; what HRL_RXF holds stays. -/
def State.hrlOff (s : State) : State :=
  let s := s.hClaim.ringUnpin (s.get F.hrlCfg_KEY_SLOT)
  let s := [0, 1].foldl (fun s e => (s.wr .hLaneStat 0 e).wr .hLaneNbr 0 e |>.wr .hLaneDelay 0 e |>.wr .hLaneAllow 0 e) s
  let s := ((s.putB F.hrlCfg_EN false).put F.hrlStat_STATE hOff).wr .hrlMisc 0 |>.wr .hrlKey 0 |>.put F.hrlStat_TURN 0
  (s.setHrl { rxf := s.hrl.rxf, loopOk := s.hrl.loopOk, rdoms := s.hrl.rdoms, ringTrace := s.hrl.ringTrace }).hrlFaults

/-- HRL starts to train its lanes. -/
def State.hrlOn (s : State) : State :=
  if s.hState = hOff then (((s.putB F.hrlCfg_EN true).put F.hrlStat_STATE hTraining).hrlTrained).hrlFaults else s

/-- The mode has changed: SAFE and SEALED leave HRL repeating only, leaving SAFE makes it claim (R602). -/
def State.hrlMode (s : State) : State :=
  let st := s.hState
  if s.fatalMode then
    (if st = hTraining ∨ st = hClaiming ∨ st = hMember then
      let s := s.put F.hrlStat_STATE hRepeat
      (s.setRoles (s.get F.hrlStat_GMA) (s.get F.hrlStat_GMB) (s.get F.hrlMisc_ROLE_EPOCH)).showBroken
    else s)
  else if st = hRepeat then s.hClaim
  else s.hrlTrained

def execHrlEnable (c : Caller) (on : Nat) (s : State) : Res :=
  .next (s.runCmd c 0x90 [notOwner s c, (decide (1 < on), .badArg)] (if on = 1 then s.hrlOn else if s.hState = hOff then s else s.hrlOff))

/-- Lane e gains or loses LINK; rx and tx are the calibration that its monitor measured, in ticks. -/
def State.hLaneLink (s : State) (e : Nat) (up : Bool) (rx tx : Int) : State :=
  if 1 < e ∨ s.hState = hOff ∨ s.hLink e = up then s
    else
      let s := (s.putB F.hLaneStat_SIGNAL up e).putB F.hLaneStat_PCS_LOCK up e
      let s := (s.putB F.hLaneStat_DLM_VALID up e).putB F.hLaneStat_LINK up e
      let s := s.setHlane e { rxCal := rx, txCal := tx }
      let s := if up then s else (s.putB F.hLaneStat_DOWN_SEEN true e).put F.hLaneNbr_NODE_ID 0 e |>.laneTally e 3
      ((s.showHop e).showHops.showBroken.hrlTrained).hrlFaults

def execHingeLinkChange (e : Nat) (up : Bool) (rx tx : Int) (s : State) : Res := .next (s.hLaneLink e up rx tx)

/-- LANEe_STAT has been written: DOWN_SEEN stands again while the link is down. -/
def State.hLaneWritten (s : State) (e : Nat) (old : Word) : State :=
  if bitsOf old 7 7 == 1 && !s.hLink e then s.putB F.hLaneStat_DOWN_SEEN true e else s

/-- HRL_CFG has been written: a change of KEY_SLOT or AUTH releases the send generation; the 36 ms of R603 start anew where
GM_CAPABLE rises. -/
def State.hrlCfgWritten (s : State) (old : Word) : State :=
  let s := if bitsOf old 16 16 = 0 ∧ s.getB F.hrlCfg_GM_CAPABLE then s.setHrl { s.hrl with aloneAt := s.tse.cyc } else s
  if bitsOf old 15 8 ≠ s.get F.hrlCfg_KEY_SLOT ∨ (bitsOf old 1 1 == 1) ≠ s.getB F.hrlCfg_AUTH then
    (s.ringUnpin (bitsOf old 15 8)).hrlFaults
  else s.hrlFaults

/-- FRAME_REPEAT: the frame whose launch on lane e falls in this cycle starts there; one whose cycle has passed is not launched any
more (R579). -/
def execFrameRepeat (e : Nat) (s : State) : Res :=
  let l := tabGet [] s.hrl.repeats e
  let s' := s.setHrl { s.hrl with repeats := tabSet [] s.hrl.repeats e (l.filter fun x => decide (s.tse.cyc < x.1)) }
  .next (match l.find? fun x => x.1 == s.tse.cyc with
    | some x => if s.hLink e then s'.emit (.hinge e x.2) else s'
    | none => s')

/-! ### Bulk (R596–R601) -/

/-- A BULK payload that is CP firmware's own (R741): 0x54444e41 in the upper half of its first word. -/
def cpMarked (p : List Byte) : Bool := fnum p 0 4 == 0x54444e41

/-- A frame queued on the own stream. -/
def State.queueOwn (s : State) (payload : List Byte) : State :=
  let seq := s.get F.hrlTx_NEXT_SEQ
  (s.put F.hrlTx_NEXT_SEQ (seq + 1)).setHrl { s.hrl with own := s.hrl.own ++ [{ seq := seq, payload := payload }] }

/-- The first word of CP firmware's quote exchange (log entry 33): kind 0 request, 1 reply, 2 BUSY; the roster index addressed;
the fragment's number; the bytes of the whole quote. -/
def cpWord (kind dest frag len : Nat) : List Byte :=
  beBytes 4 0x54444e41 ++ beBytes 4 (kind * 2 ^ 28 + dest % 16 * 2 ^ 24 + frag % 256 * 2 ^ 16 + len % 65536)

/-- The fragments of a quote, at most 1,016 bytes each (R740). -/
def quoteParts : Nat → List Byte → List (List Byte)
  | 0, _ => []
  | _, [] => []
  | n + 1, l => (l.take 1016 ++ List.replicate ((8 - (l.take 1016).length % 8) % 8) 0#8) :: quoteParts n (l.drop 1016)

/-- CP firmware answers a request for a quote: its fragments, as far as the own stream takes them. -/
def State.quoteAnswer (s : State) (dest : Nat) (nonce : List Byte) : State :=
  if !s.quotes' then s
  else if s.quoteBusy then (if s.hrl.own.length < 64 then s.queueOwn (cpWord 2 dest 0 0) else s)
  else
    let (q, s) := s.quote nonce false
    (quoteParts 8 q).zipIdx.foldl (fun s e =>
      if s.hrl.own.length < 64 then s.queueOwn (cpWord 1 dest e.2 q.length ++ e.1) else s) s

/-- A reply of roster index k reaches the request that waits for it: the fragment is joined, and the whole quote completes it. -/
def State.quoteReply (s : State) (k len : Nat) (part : List Byte) : State :=
  match s.cpx.quotes.find? fun q => q.2.1 == k with
  | none => s
  | some (c, i, got, t) =>
    let got' := got ++ part
    if len ≤ got'.length then
      ({ s with cpx := { s.cpx with quotes := s.cpx.quotes.filter (·.2.1 != k) } }).complete c 0xb9 .ok (got'.take len)
    else { s with cpx := { s.cpx with quotes := s.cpx.quotes.map fun q => if q.2.1 = k then (c, i, got', t) else q } }

/-- CP firmware takes a BULK frame of roster index k (R740, R741). -/
def State.cpBulk (s : State) (k : Nat) (p : List Byte) : State :=
  let w := fnum p 4 4
  if w / 2 ^ 24 % 16 ≠ s.hIndex then s
  else if w / 2 ^ 28 = 0 then s.quoteAnswer k ((p.drop 8).take 32)
  else if w / 2 ^ 28 = 1 then s.quoteReply k (w % 65536) (p.drop 8)
  else
    match s.cpx.quotes.find? fun q => q.2.1 == k with
    | none => s
    | some q => ({ s with cpx := { s.cpx with quotes := s.cpx.quotes.filter (·.2.1 != k) } }).complete q.1 0xb9 .busy

def execHrlSend (c : Caller) (gm : Bool) (payload : List Byte) (s : State) : Res :=
  let full := if gm then s.hrl.gms.length else s.hrl.own.length
  let seq := if gm then s.hrl.gmNext else s.get F.hrlTx_NEXT_SEQ
  let kept : HKept := { seq := seq, payload := payload }
  .next (s.runCmd c 0x91
    [notOwner s c, (payload.length % 8 != 0 || payload.length == 0 || decide (1024 < payload.length) || cpMarked payload || (gm && s.hRole != roleA), .badArg),
     (decide (64 ≤ full), .busy)]
    (if gm then s.setHrl { s.hrl with gms := s.hrl.gms ++ [kept], gmNext := (seq + 1) % 2 ^ 32 }
     else s.queueOwn payload)
    (beBytes 4 seq))

/-- Send frames of a stream, noting the turn; each is the first of the list that `sel` picks. -/
def State.sendKept (s : State) (stream : Nat) (rep : Bool) (l : List HKept) : State :=
  l.foldl (fun s x => s.hSend tBulk stream x.seq rep fun _ => x.payload) s

/-- Mark frames of a list as sent in a turn. -/
def markSent (t : Nat) (l : List Nat) (k : List HKept) : List HKept :=
  k.map fun x => if l.contains x.seq then { x with sent := some t } else x

/-- The last SEQ that this node has accepted of a stream; of its own, the last it has sent. -/
def State.setAcc (s : State) (stream seq : Nat) : State := s.setHrl { s.hrl with lastAcc := tabSet 0 s.hrl.lastAcc stream seq }

/-- Send up to n frames of the own stream. -/
def State.sendOwn (s : State) (rep : Bool) (l : List HKept) : State :=
  let l := l.take (16 - s.hrl.sentOwn)
  let s := s.sendKept s.hIndex rep l
  let s := s.setHrl { s.hrl with own := markSent s.turn (l.map (·.seq)) s.hrl.own, sentOwn := s.hrl.sentOwn + l.length }
  match l.getLast? with
  | some x => if rep then s else s.setAcc s.hIndex x.seq
  | none => s

/-- Send frames of the grandmaster stream within the allowance of a turn. -/
def State.sendGm (s : State) (rep : Bool) (l : List HKept) : State :=
  let l := l.take (4 - s.hrl.sentGm)
  let s := s.sendKept 16 rep l
  let s := s.setHrl { s.hrl with gms := markSent s.turn (l.map (·.seq)) s.hrl.gms, sentGm := s.hrl.sentGm + l.length }
  match l.getLast? with
  | some x => if rep then s else s.setAcc 16 x.seq
  | none => s

/-- The coin holder may start BULK frames of its own stream: from 1.0 µs to 8.6 µs of its turn, none in a QUIET turn and none without
a steward (R587, R588, R596, R615). -/
def State.bulkTime (s : State) : Bool :=
  s.isMember && s.hrl.coin.isSome && !s.getB F.hrlStat_QUIET && s.atOffset 1250 && !s.atOffset 10751 &&
    s.get F.hrlStat_STEWARD != noIdx

/-- BULK_SEND: the coin holder's own stream. -/
def execBulkSend (s : State) : Res :=
  .next (if !s.bulkTime then s
    else s.sendOwn false (s.hrl.own.filter fun x => x.sent.isNone))

/-- GM_STREAM_SEND: GM-A's frames, or GM-B's copies of those it accepted in the turn before (R609). -/
def execGmStreamSend (s : State) : Res :=
  .next (if s.getB F.hrlStat_QUIET ∨ !s.atOffset 1250 then s
    else if s.hRole = roleA then s.sendGm false (s.hrl.gms.filter fun x => x.sent.isNone)
    else if s.hRole = roleB ∧ s.mode = .standby then
      let l := s.hrl.copies.take (4 - s.hrl.sentGm)
      let s := s.sendKept 16 false (l.map fun x => { seq := x.1, payload := x.2 })
      s.setHrl { s.hrl with copies := s.hrl.copies.drop l.length, sentGm := s.hrl.sentGm + l.length }
    else s)

/-- The frames to be repeated: from the first that is not acknowledged within 4 turns (R599). -/
def State.stale (s : State) (l : List HKept) : List HKept :=
  (l.dropWhile fun x => match x.sent with
    | some t => decide ((s.turn + 2 ^ 32 - t) % 2 ^ 32 < 4)
    | none => true).filter fun x => x.sent.isSome

/-- BULK_RETRANSMIT, of the own stream or of the grandmaster stream. -/
def execBulkRetransmit (gm : Bool) (s : State) : Res :=
  .next (if gm then
      (if s.isMember && !s.getB F.hrlStat_QUIET && s.atOffset 1250 && s.hRole == roleA then s.sendGm true (s.stale s.hrl.gms) else s)
    else if s.bulkTime then s.sendOwn true (s.stale s.hrl.own)
    else s)

/-- ACK_SEND, once a turn, from 0.6 µs (R588, R597). -/
def execAckSend (s : State) : Res :=
  .next (if !s.isMember ∨ !s.turnDue tAck 750 then s
    else (s.noteSent tAck).hSend tAck s.hIndex s.turn false fun _ =>
      ((List.range 17).map fun k => beBytes 4 (tabGet 0 s.hrl.lastAcc k)).flatten ++ List.replicate 4 0#8)

/-- A member admitted later takes the last accepted SEQ of every stream from the ACKs of its first member turn (R599): the first sets
them, a later one raises them. What waits on its own stream follows the last SEQ of that stream (DEDUCED: log entry 55). -/
def State.adoptAcks (s : State) (acks : List Nat) : State :=
  let s := (List.range 17).foldl (fun s j =>
    if !s.hrl.adopted || laterSerial 32 (acks.getD j 0) (tabGet 0 s.hrl.lastAcc j) then s.setAcc j (acks.getD j 0) else s) s
  let base := tabGet 0 s.hrl.lastAcc s.hIndex
  if s.hrl.own.any (·.sent.isSome) then s.setHrl { s.hrl with adopted := true }
  else
    let own := s.hrl.own.zipIdx.map fun x => { x.1 with seq := (base + 1 + x.2) % 2 ^ 32 }
    (s.put F.hrlTx_NEXT_SEQ ((base + 1 + own.length) % 2 ^ 32)).setHrl
      { s.hrl with adopted := true, own := own, gmNext := (tabGet 0 s.hrl.lastAcc 16 + 1) % 2 ^ 32 }

def execAckRx (e : Nat) (frame : List Byte) (crcOk : Bool) (s : State) : Res :=
  .next (s.rxFrame e tAck frame crcOk fun s =>
    if !s.isMember then s
    else if s.isTwin frame then s.twinDrop frame
    else
      let s := s.noteSeen frame
      let k := hOrigin frame
      let acks := (List.range 17).map fun j => fnum (hPay frame) (4 * j) 4
      let s := s.setHnode k { s.hnode k with acks := acks }
      (if s.hrl.adopt then s.adoptAcks acks else s).release)

/-- Payload bytes as words. -/
def payWords : Nat → List Byte → List Word
  | 0, _ => []
  | n + 1, l => BitVec.ofNat 64 (beNat (l.take 8)) :: payWords n (l.drop 8)

/-- Words that HRL_RXF holds. -/
def State.rxfWords (s : State) : Nat := (s.hrl.rxf.items.map List.length).sum + s.hrl.rxf.cur.length

/-- Every destination of a BULK item of n words has room (R598, R601). -/
def State.bulkRoom (s : State) (n : Nat) : Bool :=
  let q := s.get F.hrlCfg_RX_Q
  decide (s.rxfWords + n ≤ 8192) &&
    (!s.getB F.hrlCfg_RX_QEN ||
      (decide ((s.queue q).words.length + n ≤ s.qDepth q) && ((s.queue q).opn.isNone || (s.queue q).held.isNone)))

/-- BULK_RX (R598). -/
def execBulkRx (e : Nat) (frame : List Byte) (crcOk : Bool) (s : State) : Res :=
  .next (s.rxFrame e tBulk frame crcOk fun s =>
    if !s.isMember then s
    else
      let st := hStream frame
      let seq := hSeq frame
      let last := tabGet 0 s.hrl.lastAcc st
      let n := hLen frame / 8
      if !laterSerial 32 seq last then s.twinDrop frame
      else if seq ≠ (last + 1) % 2 ^ 32 then s.nodeTally (hOrigin frame) 2
      else if cpMarked (hPay frame) then (s.setAcc st seq).cpBulk (hOrigin frame) (hPay frame)
      else if !s.bulkRoom (n + 1) then s
      else
        let w := BitVec.ofNat 64 (seq * 2 ^ 32 + st * 2 ^ 27 + hOrigin frame * 2 ^ 23 + n)
        let item := w :: payWords n (hPay frame)
        let s := s.setAcc st seq
        let s := s.setHrl { s.hrl with rxf := s.hrl.rxf.add item }
        let s := if s.getB F.hrlCfg_RX_QEN then
            (s.qPostHw (s.get F.hrlCfg_RX_Q) (itemOf item)).qAssign (s.get F.hrlCfg_RX_Q) else s
        if st = 16 ∧ s.hRole = roleB then
          s.setHrl { s.hrl with
            copies := s.hrl.copies ++ [(seq, hPay frame)]
            gms := (s.hrl.gms ++ [({ seq := seq, payload := hPay frame, sent := some s.turn } : HKept)]).take 64
            gmNext := (seq + 1) % 2 ^ 32 }
        else if st = 16 then s.setHrl { s.hrl with gmNext := (seq + 1) % 2 ^ 32 }
        else s)

/-! ### The coin and its votes (R595, R600, R614, R616) -/

abbrev voteNone := 0
abbrev voteOpen := 1
abbrev voteCommit := 2
abbrev voteAbort := 3

/-- The first member eastward that is not REPEAT_ONLY (R595); `fuel` bounds the ring. -/
def State.nextEast (s : State) : Nat → Nat → Option Nat
  | 0, _ => none
  | f + 1, k =>
    match s.eastOf k with
    | none => none
    | some j => if s.repeatsOnly j && j != s.hIndex then s.nextEast f j else some j

/-- The coin comes back to the steward: a rotation ends, and with it a step of a vote (R595, R614, R616). -/
def State.coinHome (s : State) (x : Coin) : State :=
  let x := { x with rotation := (x.rotation + 1) % 2 ^ 32 }
  let s := s.setHrl { s.hrl with lastRotation := x.rotation }
  let all := (s.members.filter fun k => !s.repeatsOnly k).all fun k => bitOf x.yes k
  let x' : Coin :=
    if x.vote = voteOpen then { x with vote := if all && !s.hrl.wakeSeen then voteCommit else voteNone } else { x with vote := voteNone }
  let s := s.putB F.hrlMisc_QUIET_PEND (x'.vote == voteCommit)
  let s := if x.vote = voteCommit ∧ !s.hrl.wakeSeen then
      let t := (s.turn + 2) % 2 ^ 32
      ((s.put F.hrlMisc_QUIET_TURN t).setHrl { s.hrl with quietAt := some t }).hSend tQuiet 17 t false fun _ =>
        beBytes 4 t ++ List.replicate 4 0#8
    else s
  s.setHrl { s.hrl with coinNext := some x' }

/-- Send the coin to a member, or keep it where that is this node: a rotation ends where that is the steward. -/
def State.passCoin (s : State) (x : Coin) (next : Nat) : State :=
  let pay := beBytes 4 x.rotation ++ [byte s.hIndex, byte next, byte (x.vote * 64), 0] ++ beBytes 2 x.yes ++ beBytes 2 x.visited ++
    beBytes 8 (if s.get F.hrlStat_STEWARD = noIdx then 0 else s.nodeIdOf (s.get F.hrlStat_STEWARD)) ++ List.replicate 12 0#8
  let s := s.hSend tCoin 17 x.seq false fun _ => pay
  let s := s.setHrl { s.hrl with coin := none, coinSeen := true, lastHolder := s.hIndex, lastRotation := x.rotation }
  if next ≠ s.hIndex then s else if s.isSteward then s.coinHome x else s.setHrl { s.hrl with coinNext := some x }

/-- The vote as this holder leaves it on the coin. -/
def State.voted (s : State) (x : Coin) : Coin × Bool :=
  let me := s.hIndex
  let start := s.isSteward && s.hrl.voteAsk
  let x := if start then { x with vote := voteOpen, yes := 0, visited := 0 } else x
  let x := if (x.vote = voteOpen ∨ x.vote = voteCommit) ∧ s.hrl.wakeSeen ∧ !start then { x with vote := voteAbort } else x
  let x := if x.vote = voteOpen then
      { x with visited := withBit x.visited me,
               yes := if s.getB F.hrlCfg_QUIET_OK && s.hrl.own == [] && s.hrl.gms == [] then withBit x.yes me else x.yes }
    else x
  (x, start)

/-- COIN_SEND, from 9.0 µs of the holder's turn (R588, R595); none without a steward (R587). -/
def execCoinSend (s : State) : Res :=
  .next (match s.hrl.coin with
    | none => s
    | some x =>
      if !s.isMember ∨ !s.atOffset 11250 ∨ s.get F.hrlStat_STEWARD = noIdx then s
      else
        match s.nextEast 17 s.hIndex with
        | none => s
        | some j =>
          let (x, start) := s.voted x
          let s := if start then s.setHrl { s.hrl with voteAsk := false, wakeSeen := false } else s
          let s := s.putB F.hrlMisc_QUIET_PEND (x.vote == voteOpen || x.vote == voteCommit)
          s.passCoin { x with seq := (x.seq + 1) % 2 ^ 32 } j)

/-- A frame of another steward (R607): the node claims where that one's node ID is lower. -/
def State.otherSteward (s : State) (id : Nat) : Option State :=
  let own := s.get F.hrlStat_STEWARD
  if own = noIdx ∨ s.nodeIdOf own = id ∨ (s.indexOf id).isSome then none
  else if id < s.nodeIdOf own then some (let t := s.hClaim; t.setHrl { t.hrl with ringHeard := true })
  else some s

/-- COIN_RX (R595, R600). -/
def execCoinRx (e : Nat) (frame : List Byte) (crcOk : Bool) (s : State) : Res :=
  .next (s.rxFrame e tCoin frame crcOk fun s =>
    let p := hPay frame
    let id := fnum p 12 8
    if !s.isMember then s
    else
      match s.otherSteward id with
      | some t => t
      | none =>
        if s.isTwin frame then s.twinDrop frame
        else
          let s := s.noteSeen frame
          let vote := fb p 6 / 64
          let fresh := vote == voteOpen && fb p 4 == s.get F.hrlStat_STEWARD
          let s := s.setHrl { s.hrl with coinSeen := true, lastHolder := fb p 4, lastRotation := fnum p 0 4,
                                         wakeSeen := s.hrl.wakeSeen && !fresh }
          let s := s.putB F.hrlMisc_QUIET_PEND (vote == voteOpen || vote == voteCommit)
          if fb p 5 ≠ s.hIndex ∨ s.get F.hrlStat_STEWARD = noIdx ∨ s.nodeIdOf (s.get F.hrlStat_STEWARD) ≠ id then s
          else
            let x : Coin := { seq := hSeq frame, rotation := fnum p 0 4, vote := vote, yes := fnum p 8 2, visited := fnum p 10 2 }
            if s.isSteward then s.coinHome x else s.setHrl { s.hrl with coinNext := some x })

/-- COIN_REMINT (R600). -/
def execCoinRemint (s : State) : Res :=
  .next (if !s.isSteward ∨ s.hrl.coinMiss < 4 ∨ s.hrl.coin.isSome ∨ s.hrl.coinNext.isSome then s
    else
      let x : Coin := { rotation := (s.hrl.lastRotation + 1) % 2 ^ 32 }
      match s.nextEast 17 s.hrl.lastHolder with
      | some j => let s := s.passCoin x j; s.setHrl { s.hrl with coinMiss := 0 }
      | none => s)

/-! ### Turns -/

/-- TURN_START: the turn of the node that paces ends (R585–R587). -/
def execTurnStart (s : State) : Res := .next (if s.paces && s.atOffset s.turnLen then s.startTurn ((s.turn + 1) % 2 ^ 32) else s)

/-- TURN_TIMEOUT: no mark has started the turn within 64 cycles after one turn length (R586). -/
def execTurnTimeout (s : State) : Res :=
  .next (if s.inTurns && !s.paces && s.atOffset (s.turnLen + 64) then s.startTurn ((s.turn + 1) % 2 ^ 32) else s)

/-! ### Formation and membership (R603–R606) -/

/-- A CLAIM is due: the first, or 1 ms after the last (R603). -/
def State.claimDue (s : State) : Bool := s.hrl.claimAt.all fun t => decide (t + 1250000 ≤ s.tse.cyc)

/-- CLAIM_SEND (R603). -/
def execClaimSend (s : State) : Res :=
  .next (if s.hState ≠ hClaiming ∨ !s.claimDue then s
    else
      let n := s.hrl.claimSeq
      let flags := (if s.getB F.hrlCfg_GM_CAPABLE then 128 else 0) + (if s.hrl.ringHeard then 64 else 0)
      let s := s.setHrl { s.hrl with claimSeq := (n + 1) % 2 ^ 32, claimAt := some s.tse.cyc }
      s.hSend tClaim 31 n false fun _ =>
        beBytes 8 ownId ++ [byte flags, byte (s.get F.hrlCfg_PRIO)] ++ List.replicate 6 0#8)

/-- No GM-capable claimant of a lower node ID has been heard (R603). -/
def State.lowestClaim (s : State) : Bool := !s.hrl.claimed.any fun x => x.2.1 && decide (x.1 < ownId)

/-- CLAIM_RX (R603, R605). A new node ID starts the 36 ms anew, and so does a claim while a lower claimant stands. -/
def execClaimRx (e : Nat) (frame : List Byte) (crcOk : Bool) (s : State) : Res :=
  .next (s.rxFrame e tClaim frame crcOk fun s =>
    let p := hPay frame
    let x := (fnum p 0 8, fb p 8 / 128 == 1, fb p 9 % 16)
    let s := if hHops frame = 0 then s.put F.hLaneNbr_NODE_ID x.1 e else s
    if s.isTwin frame then s.twinDrop frame
    else
      let s := s.noteSeen frame
      if s.hState = hClaiming then
        s.setHrl { s.hrl with
          claimed := x :: s.hrl.claimed.filter fun y => y.1 != x.1
          aloneAt := if s.lowestClaim && s.hrl.claimed.any (fun y => y.1 == x.1) then s.hrl.aloneAt else s.tse.cyc }
      else if s.isSteward ∧ fb p 8 / 64 % 2 = 1 ∧ (s.indexOf x.1).isNone then
        s.setHrl { s.hrl with joining := (s.hrl.joining.filter fun y => y.1 != x.1) ++ [x] }
      else s)

/-- Insert a claimant in the order of node IDs. -/
def insertClaim (x : Nat × Bool × Nat) : List (Nat × Bool × Nat) → List (Nat × Bool × Nat)
  | [] => [x]
  | y :: l => if x.1 < y.1 then x :: y :: l else y :: insertClaim x l

/-- STEWARD_ELECT: the 36 ms of R603 have passed (R603, R604). -/
def execStewardElect (s : State) : Res :=
  .next (if s.hState ≠ hClaiming ∨ !s.getB F.hrlCfg_GM_CAPABLE ∨ s.hrl.ringHeard ∨
        !s.lowestClaim ∨ s.tse.cyc < s.hrl.aloneAt + 45000000 then s
    else
      let me := (ownId, true, s.get F.hrlCfg_PRIO)
      let all := (s.hrl.claimed.foldl (fun l x => insertClaim x l) [me]).take 16
      let entry (x : (Nat × Bool × Nat) × Nat) : List Byte :=
        beBytes 8 x.1.1 ++ [byte x.2, byte (if x.1.2.1 then 128 else 0), byte x.1.2.2] ++ List.replicate 5 0#8
      let idx := (all.map (·.1)).idxOf ownId
      let p := [byte all.length, byte idx, 0, 0, 0xff, 0xff, 0, 0] ++ List.replicate 8 0#8 ++ (all.zipIdx.map entry).flatten
      let s := s.applyRoster p
      let s := (s.put F.hrlStat_TURN 0).setHrl { s.hrl with rosterIssue := 0, turnAt := s.startTicks 0, turnCyc := s.tse.cyc, coin := some {} }
      s.hSend tRoster 17 0 false fun _ => p)

/-- ROSTER_RX (R602, R605, R607). -/
def execRosterRx (e : Nat) (frame : List Byte) (crcOk : Bool) (s : State) : Res :=
  .next (s.rxFrame e tRoster frame crcOk fun s =>
    let p := hPay frame
    let lead := (rosterEntries p).find? fun x => x.2.1 == fb p 1 % 16
    if s.isTwin frame then s.twinDrop frame
    else
      let s := s.noteSeen frame
      let later := (s.isMember || s.hState == hRepeat) && laterSerial 32 (fnum p 8 4) s.turn || s.hState == hClaiming && laterSerial 32 (fnum p 8 4) (hTurn frame)
      let take (s : State) : State :=
        let s := s.setHrl { s.hrl with rosterIssue := hSeq frame % 65536 }
        if later then s.setHrl { s.hrl with rosterNext := some p } else s.applyRoster p
      if s.isMember then
        match (lead.map fun x => s.otherSteward x.1).getD none with
        | some t => t
        | none => take s
      else if s.hState = hRepeat then (if fb p 1 % 16 = s.get F.hrlStat_STEWARD then take s else s)
      else if (rosterEntries p).any fun x => x.1 == ownId then take s
      else s)

/-- The roster without a member; a lost GM-A's role goes to GM-B, which promotes itself (R606, R611). -/
def State.dropMember (s : State) (k : Nat) : State :=
  let a := s.get F.hrlStat_GMA
  let b := s.get F.hrlStat_GMB
  let a' := if a = k then b else a
  let b' := if a = k ∨ b = k then noIdx else b
  let epoch := (s.get F.hrlMisc_ROLE_EPOCH + (if a' = a ∧ b' = b then 0 else 1)) % 65536
  let p := (s.putB F.nodeStat_VALID false k).rosterBytes (s.get F.hrlStat_STEWARD) a' b' epoch ((s.turn + 1) % 2 ^ 32) []
  s.sendRoster p epoch

/-- MEMBER_REMOVE (R606). -/
def execMemberRemove (k : Nat) (s : State) : Res :=
  .next (if s.isSteward ∧ k < 16 ∧ k ≠ s.hIndex ∧ s.getB F.nodeStat_VALID k ∧ s.hrl.rosterNext.isNone ∧
        (3 ≤ (s.hnode k).miss ∨ s.repeatsOnly k) then s.dropMember k else s)

/-- STEWARD_TAKEOVER, at the start of the heir's turn (R606); a coin of the old steward is discarded (R600). -/
def execStewardTakeover (s : State) : Res :=
  .next (let old := s.get F.hrlStat_STEWARD
    if !s.isMember ∨ !s.turnStarts ∨ old = noIdx ∨ old = s.hIndex ∨ (s.hnode old).miss < 3 ∨ s.heir ≠ some s.hIndex then s
    else
      let s := (s.put F.hrlStat_STEWARD s.hIndex).setHrl { s.hrl with coin := none, coinNext := none }
      let s := s.logRoster (s.get F.hrlStat_MEMBERS) s.hIndex (s.get F.hrlMisc_ROLE_EPOCH) s.turn
      s.dropMember old)

/-- GMB_PROMOTE, at the start of GM-B's turn (R609, R611). -/
def execGmbPromote (s : State) : Res :=
  .next (let a := s.get F.hrlStat_GMA
    if s.hRole ≠ roleB ∨ !s.turnStarts ∨ a = noIdx ∨
       ((s.hnode a).miss < 3 ∧ s.get F.nodeStat_MODE a ∉ [9, 10, 11] ∧ !(s.hnode a).handover) then s
    else (s.setRoles s.hIndex noIdx ((s.get F.hrlMisc_ROLE_EPOCH + 1) % 65536)).quietEnd)

/-- RING_SILENCE_TIMEOUT (R602). -/
def execRingSilenceTimeout (s : State) : Res :=
  .next (if s.isMember ∧ (100 ≤ s.hrl.silent ∨ 100 ≤ s.hrl.stewSilent) then s.hClaim else s)

/-- The result of the known-answer tests (R563). -/
def State.katResult (s : State) (pass : Bool) : State :=
  let s := { s.putB F.kvcStat_KAT_OK pass with kvc := { s.kvc with katFail := !pass } }
  s.refresh 42

/-- GMB_SELFTEST: a GM-B's known-answer and loopback tests give these results (R610). -/
def execGmbSelftest (kat loop : Bool) (s : State) : Res :=
  .next (if s.hRole = roleB then (s.katResult kat).setHrl { s.hrl with loopOk := loop } |>.hrlFaults else s)

/-- HRL_HANDOVER (R612). -/
def execHrlHandover (c : Caller) (s : State) : Res :=
  let b := s.get F.hrlStat_GMB
  .next (s.runCmd c 0x92
    [notOwner s c, (s.hRole != roleA, .badArg), (b == noIdx || s.get F.nodeStat_MODE b != 8, .busy)]
    (s.setHrl { s.hrl with handover := true }))

/-! ### QUIET and WAKE (R614–R617) -/

def execHrlQuiet (c : Caller) (s : State) : Res :=
  .next (s.runCmd c 0x93
    [notOwner s c, (!s.isSteward, .badArg), (s.getB F.hrlMisc_QUIET_PEND || s.hrl.voteAsk || s.getB F.hrlStat_QUIET, .busy)]
    ((s.putB F.hrlMisc_QUIET_PEND true).setHrl { s.hrl with voteAsk := true, wakeSeen := false }))

/-- Send a WAKE on both lanes. -/
def State.sendWake (s : State) : State :=
  let n := s.hrl.wakeSeq
  (s.setHrl { s.hrl with wakeSeq := (n + 1) % 2 ^ 32 }).hSend tWake 31 n false fun _ => List.replicate 8 0#8

/-- A WAKE is seen: it aborts a vote, or ends QUIET; GM-A starts a turn (R616, R617). -/
def State.wakeHere (s : State) : State :=
  let s := s.setHrl { s.hrl with wakeSeen := true }
  if s.getB F.hrlStat_QUIET ∨ s.hrl.quietAt.isSome then
    let was := s.getB F.hrlStat_QUIET
    let s := s.quietEnd
    if was && s.paces then s.startTurn ((s.turn + 1) % 2 ^ 32) else s
  else s

def execHrlWake (c : Caller) (s : State) : Res :=
  .next (s.runCmd c 0x94 [notOwner s c] s.sendWake.wakeHere)

/-- WAKE_RX (R616, R617). -/
def execWakeRx (e : Nat) (frame : List Byte) (crcOk : Bool) (s : State) : Res :=
  .next (s.rxFrame e tWake frame crcOk fun s =>
    if !s.isMember then s
    else if s.isTwin frame then s.twinDrop frame
    else
      let s := s.noteSeen frame
      let s := if s.getB F.hrlStat_QUIET then s.sendWake else s
      s.wakeHere)

/-- QUIET_RX (R614, R615). -/
def execQuietRx (e : Nat) (frame : List Byte) (crcOk : Bool) (s : State) : Res :=
  .next (s.rxFrame e tQuiet frame crcOk fun s =>
    if !s.isMember then s
    else if s.isTwin frame then s.twinDrop frame
    else
      let s := s.noteSeen frame
      let t := fnum (hPay frame) 0 4
      let s := (s.put F.hrlMisc_QUIET_TURN t).putB F.hrlMisc_QUIET_PEND false
      if laterSerial 32 t s.turn then s.setHrl { s.hrl with quietAt := some t } else s.putB F.hrlStat_QUIET true)

/-! ### The ring key (R618) -/

def execHrlKeySwitch (c : Caller) (turn : Nat) (s : State) : Res :=
  .next (s.runCmd c 0x95
    [notOwner s c, (decide (2 ^ 32 ≤ turn) || !s.getB F.hrlCfg_AUTH, .badArg), (!s.ringKeyOk, .noKey),
     (!laterSerial 32 turn s.turn, .late)]
    ((s.put F.hrlKey_SWITCH_TURN turn).putB F.hrlMisc_KEY_PEND true))

end Sys2Proof.Machine
end

