-- ==== Sys2Proof/Machine/Share.lean ====
section
/-! DEFINITION. The share rule of R351, by which engines, TSV admission and the AES lanes choose a partition. -/
namespace Sys2Proof.Machine

/-- The partition with the highest credit among those of a list, the first of equals. -/
def topCredit (credit : Tab Int) : List Nat → Option Nat
  | [] => none
  | p :: l =>
    match topCredit credit l with
    | none => some p
    | some q => if tabGet 0 credit q > tabGet 0 credit p then some q else some p

/-- Choose a partition among those that are ready; none where none is (R351). -/
def Arb.pick (a : Arb) (window : Nat) (min weight : Nat → Nat) (ready : Nat → Bool) : Option Nat × Arb :=
  let rs := (List.range 8).filter ready
  let sum : Int := Int.ofNat (rs.map weight).sum
  let zeroed := (List.range 8).foldl (fun c p => if ready p then c else tabSet 0 c p 0) a.credit
  let pay (c : Tab Int) (p : Nat) : Tab Int := tabSet 0 c p (tabGet 0 c p - sum)
  let note (c : Nat) : List Nat := (c :: a.hist).take window
  match rs.find? fun p => decide (((a.hist.take window).filter (· == p)).length < min p) with
  | some p => (some p, { hist := note p, credit := pay zeroed p })
  | none =>
    let credit := rs.foldl (fun c p => tabSet 0 c p (tabGet 0 c p + Int.ofNat (weight p))) zeroed
    let cand := if rs.any fun p => decide (0 < weight p) then rs.filter fun p => decide (0 < weight p) else rs
    match topCredit credit cand with
    | some p => (some p, { hist := note p, credit := pay credit p })
    | none => (none, { hist := note 8, credit := zeroed })

end Sys2Proof.Machine
end

