-- ==== Sys2Proof/Machine/TsvMsg.lean ====
section
/-! DEFINITION. What TSV reads from and writes into frames: claiming, checksums, extension fields, PTP messages, cookies
(R469–R473, R486–R496, R501–R507). The layouts of IPv4, IPv6, UDP, NTPv4, RFC 7822, RFC 8915 and IEEE 1588 are those of the
standards that the rules name (log entry 26). -/
namespace Sys2Proof.Machine

/-! ### Internet checksums -/

/-- One's complement sum of the 16-bit words of a list, folded. -/
def ocSum : List Byte → Nat
  | [] => 0
  | [a] => 256 * a.toNat
  | a :: b :: l => let x := 256 * a.toNat + b.toNat + ocSum l; x % 65536 + x / 65536

/-- The internet checksum of bytes. -/
def inetSum (l : List Byte) : Nat := 65535 - ocSum l

/-- The pseudo-header of UDP. -/
def pseudo (src dst : List Byte) (len : Nat) : List Byte :=
  if src.length = 4 then src ++ dst ++ [0, 17] ++ beBytes 2 len else src ++ dst ++ beBytes 4 len ++ [0, 0, 0, 17]

/-! ### Received frames (R469, R470) -/

/-- A frame as TSV reads it. `len` and `csum` are the UDP header's; `plain`: no fragment, no options, no extension headers. -/
structure Pkt where
  dst : Nat
  src : Nat
  tags : List Byte
  ether : Nat
  ipSrc : List Byte := []
  ipDst : List Byte := []
  plain : Bool := true
  udp : Bool := false
  sport : Nat := 0
  dport : Nat := 0
  len : Nat := 0
  csum : Nat := 0
  payload : List Byte := []
  deriving DecidableEq, Repr

/-- Where the UDP header lies behind IPv6 extension headers: next header, offset; `fuel` bounds their number. -/
def walkV6 (f : List Byte) : Nat → Nat → Nat → Option Nat
  | 0, _, _ => none
  | k + 1, nh, o =>
    if nh = 17 then some o
    else if nh = 0 ∨ nh = 43 ∨ nh = 60 then walkV6 f k (fb f o) (o + 8 * (fb f (o + 1) + 1))
    else if nh = 44 then walkV6 f k (fb f o) (o + 8)
    else none

/-- The UDP part of a frame whose UDP header lies at offset o; `room` is the length that the IP header leaves for it. -/
def Pkt.withUdp (k : Pkt) (f : List Byte) (o room : Nat) : Pkt :=
  let len := fnum f (o + 4) 2
  { k with udp := true, sport := fnum f o 2, dport := fnum f (o + 2) 2, len := len, csum := fnum f (o + 6) 2,
           payload := (f.drop (o + 8)).take (len - 8), plain := k.plain && decide (8 ≤ len) && len == room && decide (o + len ≤ f.length) }

/-- Read a frame (without FCS). -/
def readPkt (f : List Byte) : Pkt :=
  let e := etherOfs f
  let n := e + 2
  let k : Pkt := { dst := fnum f 0 6, src := fnum f 6 6, tags := (f.drop 12).take (e - 12), ether := etherType f }
  if k.ether = 0x0800 ∧ fb f n / 16 = 4 then
    let k := { k with ipSrc := (f.drop (n + 12)).take 4, ipDst := (f.drop (n + 16)).take 4,
                      plain := fb f n % 16 == 5 && fnum f (n + 6) 2 % 16384 == 0 }
    if fb f (n + 9) = 17 then k.withUdp f (n + 4 * (fb f n % 16)) (fnum f (n + 2) 2 - 4 * (fb f n % 16)) else k
  else if k.ether = 0x86dd then
    let k := { k with ipSrc := (f.drop (n + 8)).take 16, ipDst := (f.drop (n + 24)).take 16, plain := fb f (n + 6) == 17 }
    match walkV6 f 8 (fb f (n + 6)) (n + 40) with
    | some o => k.withUdp f o (n + 40 + fnum f (n + 4) 2 - o)
    | none => k
  else if k.ether = 0x88f7 then { k with payload := f.drop n }
  else k

/-- The UDP checksum of a packet is right; zero means none over IPv4 and is wrong over IPv6. -/
def Pkt.sumOk (k : Pkt) : Bool :=
  if k.csum = 0 then k.ipSrc.length == 4
  else ocSum (pseudo k.ipSrc k.ipDst k.len ++ beBytes 2 k.sport ++ beBytes 2 k.dport ++ beBytes 2 k.len ++ beBytes 2 k.csum ++
      k.payload) == 65535

/-- The frame passes R470, but for its payload's length. -/
def Pkt.whole (k : Pkt) : Bool := if k.udp then k.plain && k.sumOk else true

/-- The address of a service address: IPv6 16 bytes, IPv4 4, MAC 6. -/
def State.svcAddr (s : State) (a : Nat) : List Byte :=
  match s.get F.svcCfg_TRANSPORT a with
  | 0 => beBytes 6 (s.get F.svcAddrLo_ADDR a)
  | 1 => beBytes 4 (s.get F.svcAddrLo_ADDR a)
  | _ => beBytes 8 (s.get F.svcAddrHi_ADDR a) ++ beBytes 8 (s.get F.svcAddrLo_ADDR a)

/-- The tag bytes of a service address, the outer tag first. -/
def State.svcTags (s : State) (a : Nat) : List Byte :=
  match s.get F.svcCfg_TAGS a with
  | 0 => []
  | 1 => beBytes 4 (s.get F.svcTag_OUTER a)
  | _ => beBytes 4 (s.get F.svcTag_OUTER a) ++ beBytes 4 (s.get F.svcTag_INNER a)

/-- 224.0.1.129 and ff0e::181. -/
def groupV4 : List Byte := [224, 0, 1, 129]
def groupV6 : List Byte := [0xff, 0x0e] ++ List.replicate 12 0#8 ++ [0x01, 0x81]

/-- Address a claims a frame (R469). -/
def State.claims (s : State) (a port : Nat) (k : Pkt) : Bool :=
  let mcast := s.getB F.svcCfg_MCAST a
  let tr := s.get F.svcCfg_TRANSPORT a
  let ether := if tr = 0 then 0x88f7 else if tr = 1 then 0x0800 else 0x86dd
  s.getB F.svcCfg_EN a && s.get F.svcCfg_PORT a == port && k.tags == s.svcTags a && k.ether == ether &&
    (if tr = 0 then
      s.getB F.svcCfg_PTP a &&
        (beBytes 6 k.dst == s.svcAddr a || (mcast && (k.dst == 0x011b19000000 || k.dst == 0x0180c200000e)))
     else
      k.udp && ((s.getB F.svcCfg_PTP a && (k.dport == 319 || k.dport == 320) &&
          (k.ipDst == s.svcAddr a || (mcast && k.ipDst == if tr = 1 then groupV4 else groupV6))) ||
        ((s.getB F.svcCfg_NTP a || s.getB F.svcCfg_NTS a) && k.dport == 123 && k.ipDst == s.svcAddr a)))

/-- The address that claims a frame on a port, the lowest. -/
def State.claimant (s : State) (port : Nat) (k : Pkt) : Option Nat := (List.range 64).find? fun a => s.claims a port k

/-- A client's address as a record holds it (R509). -/
def clientAddr (k : Pkt) : List Byte :=
  if k.ipSrc.length = 16 then k.ipSrc
  else if k.ipSrc.length = 4 then List.replicate 10 0#8 ++ [0xff, 0xff] ++ k.ipSrc
  else List.replicate 10 0#8 ++ beBytes 6 k.src

/-! ### Sent frames (R471) -/

/-- A frame of address a: its destination MAC, network destination, UDP ports (0 for Layer 2) and payload. -/
def State.svcFrame (s : State) (a dst : Nat) (ipDst : List Byte) (sport dport : Nat) (payload : List Byte) : List Byte :=
  let tr := s.get F.svcCfg_TRANSPORT a
  let own := s.svcAddr a
  let ttl := byte (s.get F.svcCfg_TTL a)
  let mac := if tr = 0 then own else beBytes 6 (Config.portMac (s.get F.svcCfg_PORT a))
  let l2 := beBytes 6 dst ++ mac ++ s.svcTags a
  let len := 8 + payload.length
  let sum := inetSum (pseudo own ipDst len ++ beBytes 2 sport ++ beBytes 2 dport ++ beBytes 2 len ++ [0, 0] ++ payload)
  let udp := beBytes 2 sport ++ beBytes 2 dport ++ beBytes 2 len ++ beBytes 2 (if sum = 0 then 65535 else sum) ++ payload
  let f :=
    if tr = 0 then l2 ++ [0x88, 0xf7] ++ payload
    else if tr = 1 then
      let h (c : Nat) : List Byte :=
        [0x45, 0] ++ beBytes 2 (20 + len) ++ [0, 0, 0x40, 0, ttl, 17] ++ beBytes 2 c ++ own ++ ipDst
      l2 ++ [0x08, 0x00] ++ h (inetSum (h 0)) ++ udp
    else l2 ++ [0x86, 0xdd, 0x60, 0, 0, 0] ++ beBytes 2 len ++ [17, ttl] ++ own ++ ipDst ++ udp
  f ++ List.replicate (60 - f.length) 0#8

/-- Where the payload lies in a frame of address a. -/
def State.payloadOfs (s : State) (a : Nat) : Nat :=
  14 + 4 * s.get F.svcCfg_TAGS a + (match s.get F.svcCfg_TRANSPORT a with | 0 => 0 | 1 => 28 | _ => 48)

/-- The answer to a packet: addresses and ports swapped (R471). -/
def State.answer (s : State) (a : Nat) (k : Pkt) (sport dport : Nat) (payload : List Byte) : List Byte :=
  s.svcFrame a k.src k.ipSrc sport dport payload

/-- An emission: to the client of a record, or to the profile's group. -/
def State.emission (s : State) (a : Nat) (client : Option (List Byte)) (udpPort : Nat) (payload : List Byte) : List Byte :=
  let tr := s.get F.svcCfg_TRANSPORT a
  let port := s.get F.svcCfg_PORT a
  match client with
  | some addr =>
    if tr = 0 then s.svcFrame a (beNat (addr.drop 10)) [] 0 0 payload
    else s.svcFrame a (Config.neighbour port addr) (if tr = 1 then addr.drop 12 else addr) udpPort udpPort payload
  | none =>
    if tr = 0 then s.svcFrame a 0x011b19000000 [] 0 0 payload
    else if tr = 1 then s.svcFrame a 0x01005e000181 groupV4 udpPort udpPort payload
    else s.svcFrame a 0x333300000181 groupV6 udpPort udpPort payload

/-! ### NTP extension fields (RFC 7822) -/

/-- The extension fields of bytes, type and body; none where they do not parse. `fuel` bounds their number. -/
def extFields : Nat → List Byte → Option (List (Nat × List Byte))
  | 0, l => if l = [] then some [] else none
  | f + 1, l =>
    if l = [] then some []
    else
      let n := fnum l 2 2
      if l.length < 4 ∨ n < 16 ∨ n % 4 ≠ 0 ∨ l.length < n then none
      else
        match extFields f (l.drop n) with
        | some r => some ((fnum l 0 2, (l.take n).drop 4) :: r)
        | none => none

/-- A field, its body padded to whole words. -/
def extField (type : Nat) (body : List Byte) : List Byte :=
  let b := body ++ List.replicate ((4 - body.length % 4) % 4) 0#8
  beBytes 2 type ++ beBytes 2 (4 + b.length) ++ b

abbrev efUid := 0x0104
abbrev efCookie := 0x0204
abbrev efPlaceholder := 0x0304
abbrev efAuth := 0x0404

/-- The extension fields of an NTP request's payload. -/
def ntpFieldsOf (p : List Byte) : Option (List (Nat × List Byte)) := extFields (p.length / 16 + 1) (p.drop 48)

/-- An NTP request is well formed (R473, R486). -/
def State.ntpOk (s : State) (a : Nat) (p : List Byte) : Bool :=
  let vn := fb p 0 / 8 % 8
  decide (48 ≤ p.length) && fb p 0 % 8 == 3 && (vn == 3 || vn == 4) &&
    (match ntpFieldsOf p with
     | none => false
     | some [] => s.getB F.svcCfg_NTP a
     | some l => match l.getLast? with
       | some (_, b) => decide (24 ≤ b.length)
       | none => false)

/-- A request asks for NTS: it carries extension fields and NTS is set. -/
def State.isNts (s : State) (a : Nat) (p : List Byte) : Bool := s.getB F.svcCfg_NTS a && decide (48 < p.length)

/-- The bodies of the fields of a type. -/
def fieldsOf (l : List (Nat × List Byte)) (ty : Nat) : List (List Byte) := (l.filter fun e => e.1 == ty).map (·.2)

/-- The form of an NTS request (R493): its unique identifier, cookie, placeholders, authenticator body. -/
def ntsForm (p : List Byte) : Option (List Byte × List Byte × Nat × List Byte) :=
  match ntpFieldsOf p with
  | none => none
  | some l =>
    match fieldsOf l efUid, fieldsOf l efCookie, fieldsOf l efAuth, l.getLast? with
    | [u], [c], [_], some (ty, b) =>
      let n := (fieldsOf l efPlaceholder).length
      if 32 ≤ u.length ∧ n ≤ 7 ∧ ty = efAuth then some (u, c, n, b) else none
    | _, _, _, _ => none

/-! ### AES-SIV and cookies (R489–R491) -/

/-- Bytes laid over a key stream. -/
def sivXor (key : List Byte) (tag : BitVec 128) (l : List Byte) : List Byte :=
  l.zipIdx.map fun e => e.1 ^^^ Config.sivStream key tag e.2

/-- Tag and ciphertext. -/
def sivSeal (key : List Byte) (ad : List (List Byte)) (pt : List Byte) : List Byte :=
  let tag := Config.sivTag key ad pt
  beBytes 16 tag.toNat ++ sivXor key tag pt

/-- The plaintext, where the tag is right. -/
def sivOpen (key : List Byte) (ad : List (List Byte)) (ct : List Byte) : Option (List Byte) :=
  let tag : BitVec 128 := BitVec.ofNat 128 (beNat (ct.take 16))
  let pt := sivXor key tag (ct.drop 16)
  if 16 ≤ ct.length ∧ Config.sivTag key ad pt = tag then some pt else none

/-- The slot that KEY_ID names, where it passes R490. -/
def State.cookieSlot (s : State) (a : Nat) (cookie : List Byte) : Option Nat :=
  let v := fb cookie 0
  if cookie.length = 108 ∧
      ((v = s.get F.svcKeys_NTS_CUR a ∧ s.getB F.svcKeys_CUR_VALID a = true) ∨
       (v = s.get F.svcKeys_NTS_PREV a ∧ s.getB F.svcKeys_PREV_VALID a = true)) ∧
      s.get F.vsGen_CUR_GEN v % 2 ^ 24 = fnum cookie 1 3 then some v
  else none

/-- The keys C2S and S2C of a cookie under the master key of slot v; none for each reason of R491. -/
def State.openCookie (s : State) (a v gen : Nat) (cookie : List Byte) : Option (List Byte × List Byte) :=
  match sivOpen (s.keyBytes v gen) [(cookie.drop 4).take 16] (cookie.drop 20) with
  | none => none
  | some pt =>
    let now := s.d0Sec
    let issued := Int.ofNat (fnum pt 4 4)
    let age := signedOf 32 (codeOf 32 (now - issued))
    if fnum pt 0 2 ≠ 15 ∨ Int.ofNat (s.get F.svcNtp_COOKIE_LIFE a) < age ∨ age < -1 then none
    else some ((pt.drop 8).take 32, (pt.drop 40).take 32)

/-- A cookie minted under NTS_CUR with a nonce (R489, R494). -/
def State.mint (s : State) (a nonce : Nat) (c2s s2c : List Byte) : List Byte :=
  let v := s.get F.svcKeys_NTS_CUR a
  let gen := s.get F.vsGen_CUR_GEN v
  let n := beBytes 16 nonce
  let pt := beBytes 2 15 ++ beBytes 2 0 ++ beBytes 4 (codeOf 32 s.d0Sec) ++ c2s ++ s2c
  [byte v] ++ beBytes 3 gen ++ n ++ sivSeal (s.keyBytes v gen) [n] pt

/-- n fresh nonces of 16 bytes. -/
def State.nonces (s : State) : Nat → List Nat × State
  | 0 => ([], s)
  | n + 1 =>
    let (v, s) := s.rng 16
    let (l, s) := s.nonces n
    (v :: l, s)

/-! ### Bounds and indications (R485, R488, R501–R504) -/

/-- The bound that a packet carries (R485): Δ in ticks. -/
def State.packetBound (s : State) (port bRead : Nat) (delta : Int) : Nat :=
  let rate := max 100 (s.get F.tsvCfg_LAUNCH_RATE)
  boundSum [bRead, ceilDiv (rate * delta.toNat) 10000000, 78644, s.get F.portAllow_ALLOW port]

/-- An INSERT (1) or DELETE (2) is pending within a number of seconds of LEAP_AT. -/
def State.leapNear (s : State) (type within : Nat) : Bool :=
  s.get F.tseUtc_LEAP_TYPE == type && decide (Int.ofNat (s.get F.tseLeapAt_LEAP_AT) - s.d0Sec ≤ Int.ofNat within)

/-- The domain that address a serves, and whether it is traceable for its clients (R488). -/
def State.svcDom (s : State) (a : Nat) : Nat := s.get F.portCfg_DOMAIN (s.get F.svcCfg_PORT a)
def State.svcTraced (s : State) (a : Nat) : Bool := (s.dom (s.svcDom a)).traceable && s.mode != .service

/-- Reference IDs. -/
abbrev refGnss := 0x474e5353
abbrev refPps := 0x50505300
abbrev refHnge := 0x484e4745
abbrev refNone := 0x4e4f4e45
abbrev refRate := 0x52415445
abbrev refNtsn := 0x4e54534e

/-- LI, stratum, reference ID (R488). -/
def State.indication (s : State) (a : Nat) : Nat × Nat × Nat :=
  if s.svcTraced a then
    let li := if s.leapNear 1 86400 then 1 else if s.leapNear 2 86400 then 2 else 0
    let rid := match ((s.dom (s.svcDom a)).prov.find? fun l => l.kind == 1 || l.kind == 2 || l.kind == 4) with
      | some l => if l.kind = 1 then refGnss else if l.kind = 2 then refPps else refHnge
      | none => refNone
    (li, 1, rid)
  else (3, 16, refNone)

/-- Root dispersion (R487). -/
def rootDisp (b : Nat) : Nat :=
  if b = Config.unb then 0xffffffff else min 0xffffffff (ceilDiv (b * 65536) Config.secTicks)

/-- timeSource of a provenance link (R502). HOLDOVER's identifier 1 is SYSXO. -/
def sourceCode (l : Link) : Nat :=
  match l.kind with
  | 1 => 0x20
  | 2 => 0x90
  | 4 => 0x40
  | 3 => if l.id = 0 then 0x10 else 0xa0
  | 6 => 0x60
  | 8 => 0x60
  | _ => 0xa0

def State.timeSource (s : State) (d : Nat) : Nat :=
  match (s.dom d).prov.find? fun l => l.kind != 5 with
  | some l => sourceCode l
  | none => 0xa0

/-- The accuracies of clockAccuracy 0x17 to 0x30 in tenths of a picosecond (IEEE 1588-2019). -/
def accuracies : List Nat :=
  [10, 25, 100, 250, 1000, 2500, 10000, 25000, 100000, 250000, 1000000, 2500000, 10000000, 25000000, 100000000, 250000000,
   1000000000, 2500000000, 10000000000, 25000000000, 100000000000, 250000000000, 1000000000000, 2500000000000, 10000000000000,
   100000000000000]

/-- clockAccuracy of a bound (R503). -/
def accuracyCode (b : Nat) : Nat := 0x17 + (accuracies.takeWhile fun x => decide (x * Config.nsTicks < b * 10000)).length

/-- ceil(512 · log2(b / 1 s)): the least k with 2^k ≥ (b / 1 s)^512. -/
def logVar (b : Nat) : Int :=
  let x := b ^ 512
  let y := Config.secTicks ^ 512
  let k0 : Int := Int.ofNat (Nat.log2 x) - Int.ofNat (Nat.log2 y) - 1
  let ok (k : Int) : Bool := if 0 ≤ k then decide (x ≤ y * 2 ^ k.toNat) else decide (x * 2 ^ (-k).toNat ≤ y)
  if ok k0 then k0 else if ok (k0 + 1) then k0 + 1 else if ok (k0 + 2) then k0 + 2 else k0 + 3

/-- offsetScaledLogVariance of a bound (R503). -/
def varianceCode (b : Nat) : Nat :=
  if b = Config.unb then 0xffff else if b = 0 then 0 else (clampInt 0 0xfffe (0x8000 + logVar b)).toNat

/-- The row of R503's clockClass: 0 LOCKED, 1 HOLD_IN, 2 HOLD_OUT, 3 FREE, which is that of SERVICE (R523). -/
def State.qualRow (s : State) (a b : Nat) : Nat :=
  let d := s.dom (s.svcDom a)
  if s.mode = .service then 3
  else if d.traceable && !d.hold then 0
  else if d.hold then (if b ≤ s.get F.svcHoldSpec_HOLD_SPEC a then 1 else 2)
  else 3

/-- clockClass, clockAccuracy, offsetScaledLogVariance of address a for a bound (R503, R504). -/
def State.quality (s : State) (a b : Nat) : Nat × Nat × Nat :=
  let r := s.qualRow a b
  if s.get F.svcCfg_PROFILE a = 0 then
    ([6, 7, 52, 248].getD r 248,
     if b = Config.unb ∨ s.mode = .service then 0xfe else accuracyCode b, varianceCode b)
  else
    let q := [s.get F.svcPqual_LOCKED a, s.get F.svcPqual_HOLD_IN a, s.get F.svcPqual_HOLD_OUT a, s.get F.svcPqual_FREE a].getD r 0
    let v := [s.get F.svcPoslv_LOCKED a, s.get F.svcPoslv_HOLD_IN a, s.get F.svcPoslv_HOLD_OUT a, s.get F.svcPoslv_FREE a].getD r 0
    (q / 256, q % 256, v)

/-! ### PTP messages (R501, R505–R507) -/

abbrev msgSync := 0
abbrev msgDelayReq := 1
abbrev msgFollowUp := 8
abbrev msgDelayResp := 9
abbrev msgAnnounce := 11
abbrev msgSignaling := 12

/-- controlField of a message type. -/
def ctrlOf (ty : Nat) : Nat :=
  if ty = msgSync then 0 else if ty = msgDelayReq then 1 else if ty = msgFollowUp then 2 else if ty = msgDelayResp then 3 else 5

/-- The clockIdentity and portNumber of the device. -/
def ownPort : List Byte := deviceId ++ [0, 1]

/-- A message: type, flags, correctionField, sequenceId, logMessageInterval, and what follows the header. -/
def State.ptpMsg (s : State) (a ty flags : Nat) (corr : Int) (seq : Nat) (log : Int) (body : List Byte) : List Byte :=
  [byte ty, 0x12] ++ beBytes 2 (34 + body.length) ++ [byte (s.get F.svcCfg_PTP_DOMAIN a), 0] ++ beBytes 2 flags ++
    beBytes 8 (codeOf 64 corr) ++ beBytes 4 0 ++ ownPort ++ beBytes 2 seq ++ [byte (ctrlOf ty), byte (codeOf 8 log)] ++ body

/-- A timestamp of PTP: 6 bytes of seconds, 4 of nanoseconds. -/
def ptpTime (v : Nat) : List Byte := beBytes 6 (v / 2 ^ 48) ++ beBytes 4 (v % 2 ^ 48 / 2 ^ 18)

/-- round(FRAC / 4) of a time value. -/
def fracQ (v : Nat) : Int := roundDiv (Int.ofNat (v % 2 ^ 18)) 4

/-- Flags of Announce (R501), with unicastFlag. In SERVICE the indications are non-traceable (R47). -/
def State.annFlags (s : State) (a : Nat) (unicast : Bool) : Nat :=
  let b (v : Bool) (k : Nat) : Nat := if v then 2 ^ k else 0
  let tr := (s.dom (s.svcDom a)).traceable && s.mode != .service
  b unicast 10 + b (s.leapNear 1 43200) 0 + b (s.leapNear 2 43200) 1 + b tr 2 + 8 + b tr 4 +
    b (tr || s.get F.rshStat_STATE == 2) 5

/-- The body of Announce for a bound. -/
def State.annBody (s : State) (a b : Nat) : List Byte :=
  let (cls, acc, var) := s.quality a b
  List.replicate 10 0#8 ++ beBytes 2 (codeOf 16 (s.getI F.tseUtc_UTC_OFFSET)) ++ [0, byte (s.get F.svcPtp_PRIO1 a), byte cls,
    byte acc] ++ beBytes 2 var ++ [byte (s.get F.svcPtp_PRIO2 a)] ++ deviceId ++ [0, 0, byte (s.timeSource (s.svcDom a))]

/-- The AUTHENTICATION TLV up to its ICV (R507). -/
def State.authHead (s : State) (a : Nat) : List Byte :=
  [0x80, 0x09, 0, 22, byte (s.get F.svcKeys_SPP a), 0] ++ beBytes 4 (s.get F.svcKeys_PTP_KEY a)

/-- The ICV of bytes under a key: AES-CMAC-128 or HMAC-SHA-256-128. -/
def State.icv (s : State) (a : Nat) (key m : List Byte) : List Byte :=
  if s.get F.svcKeys_AUTH_ALG a = 0 then beBytes 16 (Config.cmac key m).toNat
  else (beBytes 32 (Config.hmac key m).toNat).take 16

/-- A message with its AUTHENTICATION TLV, its messageLength extended. -/
def State.authed (s : State) (a : Nat) (key m : List Byte) : List Byte :=
  let m := patch m 2 (beBytes 2 (m.length + 26)) ++ s.authHead a
  m ++ s.icv a key m

/-- The last TLV of a message is an AUTHENTICATION TLV that verifies (R507). -/
def State.authOk (s : State) (a : Nat) (key m : List Byte) : Bool :=
  let n := m.length - 26
  decide (60 ≤ m.length) && ((m.drop n).take 10 == s.authHead a) && m.drop (n + 10) == s.icv a key (m.take (n + 10))

/-- The message in a payload, cut to its messageLength. -/
def ptpOf (p : List Byte) : List Byte := p.take (fnum p 2 2)

/-- The TLVs of a signaling message, type and body; `fuel` bounds their number. -/
def tlvs : Nat → List Byte → List (Nat × List Byte)
  | 0, _ => []
  | f + 1, l =>
    if l.length < 4 then []
    else (fnum l 0 2, (l.drop 4).take (fnum l 2 2)) :: tlvs f (l.drop (4 + fnum l 2 2))

/-- The negotiation TLVs of a signaling message (16.1). -/
def unicastTlvs (m : List Byte) : List (Nat × List Byte) :=
  (tlvs (m.length / 4 + 1) (m.drop 44)).filter fun e => e.1 == 4 || e.1 == 6

/-- The profile's intervals: Sync and Announce, as log2 of seconds. -/
def profileLogs (profile : Nat) : Int × Int := if profile = 1 then (-4, -3) else (0, 1)

end Sys2Proof.Machine
end

