-- ==== Sys2Proof/Machine/Tsv.lean ====
section
/-! DEFINITION. TSV: claimed frames, the exchange pipeline, associations, emission, policing, NTS-KE, its commands
(11_time_service.md). -/
namespace Sys2Proof.Machine

def State.svc (s : State) (a : Nat) : Svc := tabGet {} s.tsv.svcs a
def State.setSvc (s : State) (a : Nat) (x : Svc) : State := s.setTsv { s.tsv with svcs := tabSet {} s.tsv.svcs a x }
def State.assoc (s : State) (i : Nat) : Option Assoc := tabGet none s.tsv.assocs i
def State.setAssoc (s : State) (i : Nat) (x : Option Assoc) : State :=
  s.setTsv { s.tsv with assocs := tabSet none s.tsv.assocs i x }
def State.svcPart (s : State) (a : Nat) : Nat := s.get F.svcCfg_PART a

/-- D0 SEC[31:0]. -/
def State.sec32 (s : State) : Nat := codeOf 32 s.d0Sec

/-- TSV serves in the present mode (R523). -/
def State.tsvServes (s : State) : Bool := s.mode.running && !s.fatalMode

/-! ### Frames that arrive on service ports (R392–R394, R409, R469) -/

/-- A request waits for admission. -/
def State.xcQueue (s : State) (part : Nat) (r : XReq) : State :=
  s.setTsv { s.tsv with wait := tabSet [] s.tsv.wait part (tabGet [] s.tsv.wait part ++ [r]) }

/-- SERVICE_FRAME_RX: a frame (its bytes without FCS) arrives, crossing the boundary delta ticks into the cycle. -/
def execServiceFrameRx (port delta : Nat) (frame : List Byte) (bad : Bool) (s : State) : Res :=
  .next (if !s.leads port || !s.portsRun || !s.getB F.portCfg_EN port || !s.getB F.portStat_LINK port ||
      s.get F.portCfg_ROLE port == rolePair then s
    else
      let len := frame.length + 4
      let t := s.rxStamp port delta
      let s := (s.countRx port frame bad).tally (.ev 0x10 0x03 port (s.get F.portCfg_PART port) 1 0)
      if bad || decide (len < 64) || decide (s.get F.portCfg_MAX_FRAME port < len) then s
      else
        let s := if etherType frame = s.get F.npaProbe_ETYPE ∧ s.get F.portCfg_ROLE port = roleService then
            s.txtsPush port (fnum frame (etherOfs frame + 2) 2) t (s.stampBound port) true false
          else s
        match (if s.get F.portCfg_ROLE port = roleService then s.claimant port (readPkt frame) else none) with
        | none => s.slowPath port
        | some a =>
          let part := s.svcPart a
          let s := s.svcCnt a 0
          if s.tsvServes && !s.resetting part then
            s.xcQueue part { svc := a, msg := .request, frame := frame, rx := t }
          else s)

/-! ### Admission (R474, R477, R478) -/

/-- An XC is available to partition p. -/
def State.xcAvail (s : State) (p : Nat) : Bool :=
  let held := s.xcHeld p
  let others := ((List.range 8).map fun q => if q = p then 0 else s.get F.tsvShare_XC_MIN q - s.xcHeld q).sum
  decide (held < s.get F.tsvShare_XC_MAX p) &&
    (decide (held < s.get F.tsvShare_XC_MIN p) || decide (s.xcBusy + others < 8192))

/-- The lowest XC that is free. -/
def State.freeXc (s : State) : Nat := ((List.range (s.tsv.xcs.length + 1)).find? fun k => (s.xc k).isNone).getD 0

/-- An exchange or emission dropped for want of an XC (R478, R516, R524). -/
def State.xcDrop (s : State) (part a : Nat) : State := (s.bump F.tsvDrop_XC_DROP 1 part).pulse 36 part a

/-- XC_ADMIT: one admission slot. -/
def execXcAdmit (s : State) : Res :=
  .next (if !s.tsvServes then s
    else
      let ready (p : Nat) : Bool := decide (tabGet [] s.tsv.wait p ≠ []) && !s.resetting p
      let (c, arb) := s.tsv.arb.pick 1024 (fun p => s.get F.tsvShare_MIN p) (fun p => s.get F.tsvShare_WEIGHT p) ready
      let s := s.setTsv { s.tsv with arb := arb }
      match c with
      | none => s
      | some p =>
        match tabGet [] s.tsv.wait p with
        | [] => s
        | r :: l =>
          let s := s.setTsv { s.tsv with wait := tabSet [] s.tsv.wait p l }
          if !s.xcAvail p then s.xcDrop p r.svc
          else
            let x : Xc := { part := p, svc := r.svc, msg := r.msg, frame := r.frame, rx := r.rx, em := r.em, born := s.tse.cyc }
            ((s.setXc s.freeXc (some x)).tally (.ev 0x07 0x01 r.svc p 1 0)).showXcs)

/-! ### PARSE (R470, R472, R473, R475, R486, R506) -/

/-- The association that a packet's client has with address a: its record (R510). -/
def State.assocKey (_ : State) (a : Nat) (addr portId : List Byte) : List Byte := addr ++ portId ++ [byte a]

/-- The two places of a key. -/
def State.assocAt (s : State) (key : List Byte) : Nat × Nat :=
  let h := Config.assocHash s.tsv.hashKey key
  let n := 2 ^ clampNat 10 22 (s.get F.tsvAssoc_LOG_SIZE)
  (h.1 % n, h.2 % n)

def State.assocIs (s : State) (i a : Nat) (addr portId : List Byte) : Bool :=
  match s.assoc i with
  | some r => r.svc == a && r.addr == addr && r.portId == portId
  | none => false

/-- The index of a client's record. -/
def State.findAssoc (s : State) (a : Nat) (addr portId : List Byte) : Option Nat :=
  if !s.getB F.tsvAssoc_EN then none
  else
    let (i, j) := s.assocAt (s.assocKey a addr portId)
    if s.assocIs i a addr portId then some i else if s.assocIs j a addr portId then some j else none

/-- The record of the sender of a PTP message. -/
def State.senderAssoc (s : State) (a : Nat) (k : Pkt) (m : List Byte) : Option Nat :=
  s.findAssoc a (clientAddr k) ((m.drop 20).take 10)

/-- The message of a PTP request, where it passes R506 as far as PARSE sees it. -/
def State.parsePtp (s : State) (a : Nat) (k : Pkt) : Option XMsg :=
  let m := ptpOf k.payload
  let ty := fb m 0 % 16
  let form := decide (34 ≤ fnum k.payload 2 2) && decide (fnum k.payload 2 2 ≤ k.payload.length) &&
    (fb m 1 == 0x02 || fb m 1 == 0x12) && fb m 4 == s.get F.svcCfg_PTP_DOMAIN a && fb m 0 / 16 == 0 && fb m 5 == 0 &&
    (m.drop 20).take 8 != deviceId
  if !form then none
  else if ty = msgDelayReq ∧ 44 ≤ m.length then some .delayReq
  else if ty = msgSignaling ∧ 44 ≤ m.length ∧ !s.getB F.svcCfg_MCAST a ∧ unicastTlvs m ≠ [] then some .signal
  else none

/-- The message of a claimed frame; none where PARSE drops it. -/
def State.parseReq (s : State) (a : Nat) (f : List Byte) : Option XMsg :=
  let k := readPkt f
  if !k.whole then none
  else if k.udp && k.dport == 123 then (if s.ntpOk a k.payload then some .ntp else none)
  else s.parsePtp a k

/-- The vault slot whose key an XC needs: NTS names it in its cookie, PTP by AUTH_REQ. None: no key is needed. -/
def State.xcSlot (s : State) (x : Xc) : Option (Option Nat) :=
  match x.msg with
  | .ntp =>
    let p := (readPkt x.frame).payload
    if s.isNts x.svc p then
      match ntsForm p with
      | some (_, c, _, _) => some (s.cookieSlot x.svc c)
      | none => none
    else none
  | .request => none
  | _ => if s.getB F.svcCfg_AUTH_REQ x.svc then some (some (s.get F.svcKeys_PTP_KEY x.svc)) else none

/-- The key type that an XC needs. -/
def State.xcKeyType (s : State) (x : Xc) : Nat :=
  match x.msg with
  | .ntp => tySiv256
  | _ => if s.get F.svcKeys_AUTH_ALG x.svc = 0 then tyAes128 else tyHmac256

/-- An XC enters KEY: it pins the generation of its slot, where the slot is usable (R476, R548). -/
def State.xcKey (s : State) (i : Nat) (x : Xc) : State :=
  match s.xcSlot x with
  | some (some v) =>
    if s.keyUsable v x.part attrTsv && s.get F.vsCfg_TYPE v == s.xcKeyType x && s.kvcOk then
      let (g, s) := s.pin v
      s.setXc i (some { x with stage := .key, pin := some (v, g) })
    else s.setXc i (some { x with stage := .key })
  | _ => s.setXc i (some { x with stage := .key })

/-- XC_PARSE_DONE. -/
def execXcParseDone (i : Nat) (s : State) : Res :=
  .next (match s.xc i with
    | none => s
    | some x =>
      if x.stage ≠ .parse then s
      else if x.msg = .request then
        match s.parseReq x.svc x.frame with
        | some m => s.xcKey i { x with msg := m }
        | none => (s.svcCnt x.svc 2).xcFree i
      else s.xcKey i x)

/-! ### Building messages (R471, R482–R505) -/

/-- A time value for a packet; outside the format an open one. -/
def State.packetTime (s : State) (t : Int) : Nat := timeVal s.draw.1 t

/-- The bound that an XC's packet carries (R485); on-the-fly messages take 1 ms. -/
def State.xcBound (s : State) (x : Xc) (launch : Bool) : Nat :=
  s.packetBound (s.get F.svcCfg_PORT x.svc) x.bRead (if launch then x.tL - x.tRead else 262144000000)

/-- The header of an NTP answer (R487, R495, R519). -/
def State.ntpHeader (s : State) (x : Xc) (req : List Byte) : List Byte :=
  let d := s.svcDom x.svc
  let (li, stratum, rid) := s.indication x.svc
  let z (n : Nat) : List Byte := List.replicate n 0#8
  let poll := clampInt (s.getI F.svcNtp_MINPOLL x.svc) (s.getI F.svcNtp_MAXPOLL x.svc) (signedOf 8 (fb req 2))
  let head (st r : Nat) : List Byte :=
    [byte (li * 64 + fb req 0 / 8 % 8 * 8 + 4), byte st, byte (codeOf 8 poll), byte (s.get F.svcNtp_PRECISION x.svc)] ++ z 4 ++
      beBytes 4 (rootDisp (s.xcBound x true)) ++ beBytes 4 r
  let ref := s.get F.tsvRefts_SEC
  match x.kiss with
  | .ntsn => head 0 refNtsn ++ z 32
  | .rate => head 0 refRate ++ z 8 ++ (req.drop 40).take 8 ++ z 16
  | .no =>
    head stratum rid ++ (if ref = 0 then z 8 else s.ntpFields 0 (ref * 2 ^ 48)) ++ (req.drop 40).take 8 ++
      s.ntpFields d (s.packetTime x.rx) ++ s.ntpFields d (s.packetTime x.tL)

/-- The bound field of R496. -/
def State.boundField (s : State) (x : Xc) : List Byte :=
  let d := s.dom (s.svcDom x.svc)
  let b (v : Bool) (k : Nat) : Nat := if v then 2 ^ k else 0
  extField (s.get F.tsvCfg_BOUND_EF_TYPE)
    (beBytes 2 (ecode (s.xcBound x true)) ++
      beBytes 2 (b d.traceable 15 + b d.hold 14 + b (s.getB F.tseUtc_LEAP_FLAG) 13) ++ beBytes 8 (provWord d.prov) ++
      beBytes 4 (s.get F.slgCseq_CSEQ x.part))

/-- A request's encrypted part carries a field of a type that is not 0; `p` judges its body. -/
def asksFor (plain : List Byte) (type : Nat) (p : List Byte → Bool) : Bool :=
  type != 0 && (match extFields (plain.length / 16 + 1) plain with
    | some l => (fieldsOf l type).any p
    | none => false)

/-- The 32-byte nonce with which a request's encrypted part asks for a quote. -/
def askedNonce (plain : List Byte) (type : Nat) : List Byte :=
  match extFields (plain.length / 16 + 1) plain with
  | some l => ((fieldsOf l type).find? fun b => b.length == 32).getD []
  | none => []

/-- The encrypted part of an NTS answer: 1 + n cookies, the bound field, the quote (R494, R496, R497). -/
def State.ntsPlain (s : State) (x : Xc) (n : Nat) (nonces : List Nat) : List Byte :=
  ((List.range (n + 1)).map fun k => extField efCookie (s.mint x.svc (nonces.getD k 0) x.c2s x.s2c)).flatten ++
    (if asksFor x.plain (s.get F.tsvCfg_BOUND_EF_TYPE) (fun b => b.all (· == 0#8)) then s.boundField x else []) ++
    (if x.quote = [] then [] else extField (s.get F.tsvCfg_ATT_EF_TYPE) x.quote)

/-- The payload of an NTP answer. -/
def State.ntpPayload (s : State) (x : Xc) (nonces : List Nat) : List Byte :=
  let req := (readPkt x.frame).payload
  let head := s.ntpHeader x req
  if !s.isNts x.svc req then head
  else
    match ntsForm req with
    | none => head
    | some (u, _, n, _) =>
      let head := head ++ extField efUid u
      if x.kiss = .ntsn then head
      else
        let nonce := beBytes 16 (nonces.getD (n + 1) 0)
        let ct := sivSeal x.s2c [head, nonce] (s.ntsPlain x n nonces)
        head ++ extField efAuth (beBytes 2 16 ++ beBytes 2 ct.length ++ nonce ++ ct)

/-- Fresh nonces that the answer of an XC takes: one per cookie and one for its authenticator. -/
def State.nonceCount (s : State) (x : Xc) : Nat :=
  let req := (readPkt x.frame).payload
  if x.msg = .ntp ∧ s.isNts x.svc req = true ∧ x.kiss ≠ .ntsn then
    match ntsForm req with
    | some (_, _, n, _) => n + 2
    | none => 0
  else 0

/-- The interval of an emission or answer (R505). -/
def State.msgLog (s : State) (x : Xc) : Int :=
  let pl := profileLogs (s.get F.svcCfg_PROFILE x.svc)
  match x.msg with
  | .sync _ | .announce _ => x.em.log
  | .delayReq =>
    let k := readPkt x.frame
    if s.getB F.svcCfg_MCAST x.svc then pl.1
    else match s.senderAssoc x.svc k (ptpOf k.payload) with
      | some i => match s.assoc i with | some r => r.dresp.log | none => pl.1
      | none => pl.1
  | _ => 0x7f

/-- An XC's message is sent by launch-time insertion (R483, R505): authenticated messages, NTP, two-step Sync. -/
def State.xcLaunches (s : State) (x : Xc) : Bool :=
  match x.msg with
  | .ntp => true
  | .sync _ => s.getB F.svcCfg_AUTH_REQ x.svc || s.getB F.svcCfg_TWO_STEP x.svc
  | _ => s.getB F.svcCfg_AUTH_REQ x.svc

/-- A PTP message, with its TLV where the address asks for it. -/
def State.ptpOut (s : State) (x : Xc) (m : List Byte) : List Byte :=
  match x.pin with
  | some (v, g) => if s.getB F.svcCfg_AUTH_REQ x.svc then s.authed x.svc (s.keyBytes v g) m else m
  | none => m

/-- The frame of an XC, with T_L as its transmit time where it launches. -/
def State.xcFrame (s : State) (x : Xc) (nonces : List Nat) : List Byte :=
  let k := readPkt x.frame
  let a := x.svc
  let v := s.packetTime x.tL
  match x.msg with
  | .ntp => s.answer a k k.dport k.sport (s.ntpPayload x nonces)
  | .delayReq =>
    let m := ptpOf k.payload
    let r := s.packetTime x.rx
    let corr := signedOf 64 (fnum m 8 8) - fracQ r
    s.answer a k k.dport k.sport (s.ptpOut x (s.ptpMsg a msgDelayResp (fnum m 6 2 / 1024 % 2 * 1024) corr (fnum m 30 2) (s.msgLog x)
      (ptpTime r ++ (m.drop 20).take 10)))
  | .signal =>
    let m := ptpOf k.payload
    s.answer a k k.dport k.sport (s.ptpOut x (s.ptpMsg a msgSignaling 1024 0 (fnum m 30 2) 0x7f ((m.drop 20).take 10 ++ x.plain)))
  | .sync peer =>
    let two := s.getB F.svcCfg_TWO_STEP a
    let uni := if peer.isSome then 1024 else 0
    let timed := s.xcLaunches x && !two
    s.emission a (x.em.client) 319 (s.ptpOut x (s.ptpMsg a msgSync (uni + if two then 512 else 0) (if timed then fracQ v else 0)
      x.em.seq (s.msgLog x) (if timed then ptpTime v else List.replicate 10 0#8)))
  | .announce peer =>
    s.emission a (x.em.client) 320 (s.ptpOut x (s.ptpMsg a msgAnnounce (s.annFlags a peer.isSome) 0 x.em.seq (s.msgLog x)
      (s.annBody a (s.xcBound x (s.xcLaunches x)))))
  | .request => []

/-- The Follow_Up of a two-step Sync (R505). -/
def State.followUp (s : State) (x : Xc) : Option TxFrame :=
  match x.msg with
  | .sync peer =>
    if s.getB F.svcCfg_TWO_STEP x.svc then
      let v := s.packetTime x.tL
      let m := s.ptpMsg x.svc msgFollowUp (if peer.isSome then 1024 else 0) (fracQ v) x.em.seq (s.msgLog x) (ptpTime v)
      some { bytes := s.emission x.svc (x.em.client) 320 (s.ptpOut x m) }
    else none
  | _ => none

/-- The offsets of an on-the-fly Sync: TIME, CORR, CSUM (R403, R404). -/
def State.syncOffsets (s : State) (a : Nat) : Nat × Nat × Nat :=
  let o := s.payloadOfs a
  (o + 34, o + 8, if s.get F.svcCfg_TRANSPORT a = 0 then 0xffff else o - 2)

/-- An XC enters BUILD: its launch is reserved, or its domain read for an on-the-fly message. It stays where it is while NPA has
no reservation left. -/
def State.xcBuild (s : State) (i : Nat) (x : Xc) (opp : Nat) : State :=
  let port := s.get F.svcCfg_PORT x.svc
  let d := s.get F.portCfg_DOMAIN port
  let s := s.setXc i (some x)
  if s.xcLaunches x then
    match s.xcReserve i port (s.frameTicks port (s.xcFrame x []).length) opp with
    | some t => t
    | none => s
  else s.setXc i (some { x with stage := .build, tRead := s.ticks d, bRead := (s.dom d).bound })

/-! ### KEY (R475, R476, R490, R491, R506) -/

/-- A grant lasts at the present second. -/
def State.grantLive (s : State) (g : Grant) : Bool := g.exp != 0 && laterSerial 32 g.exp s.sec32

/-- NTSN is the answer (R495). -/
def State.xcNtsn (s : State) (i : Nat) (x : Xc) : State :=
  (s.setXc i (some { x with kiss := .ntsn, stage := .verify })).svcCnt x.svc 5

/-- XC_KEY_DONE. -/
def execXcKeyDone (i : Nat) (s : State) : Res :=
  .next (match s.xc i with
    | none => s
    | some x =>
      if x.stage ≠ .key then s
      else
        let k := readPkt x.frame
        let res := match x.pin with | some (v, g) => s.keyResident v g | none => true
        if !res then
          (if x.missed then s else (s.setXc i (some { x with missed := true })).tally (.ev 0x07 0x04 x.svc x.part 1 0))
        else
          match x.msg with
          | .ntp =>
            if !s.isNts x.svc k.payload then s.setXc i (some { x with stage := .verify })
            else
              match ntsForm k.payload with
              | none => (s.svcCnt x.svc 3).xcFree i
              | some (_, c, _, _) =>
                match x.pin with
                | none => s.xcNtsn i x
                | some (v, g) =>
                  let s := s.tallyAes x.part (sivBlocks [16] 72)
                  match s.openCookie x.svc v g c with
                  | none => s.xcNtsn i x
                  | some (c2s, s2c) => s.setXc i (some { x with stage := .verify, c2s := c2s, s2c := s2c })
          | m =>
            if s.getB F.svcCfg_AUTH_REQ x.svc && x.pin.isNone then s.xcAbort i
            else
              let granted := match s.senderAssoc x.svc k (ptpOf k.payload) with
                | some j => match s.assoc j with | some r => s.grantLive r.dresp | none => false
                | none => false
              if m = .delayReq ∧ !s.getB F.svcCfg_MCAST x.svc ∧ !granted then (s.svcCnt x.svc 2).xcFree i
              else s.setXc i (some { x with stage := .verify }))

/-! ### Policing (R517–R519) -/

/-- Replace an entry of a line, the first with the lowest counter. -/
def lineEvict (l : List (Nat × Nat)) (tag n : Nat) : List (Nat × Nat) :=
  let low := (l.map (·.2)).foldl min 16
  let k := (l.takeWhile fun e => e.2 != low).length
  l.take k ++ [(tag, n)] ++ l.drop (k + 1)

/-- A client's police counter, and where its entry stands: line, tag. -/
def State.policeOf (s : State) (addr : List Byte) : Nat × Nat × Nat :=
  let h := Config.policeHash s.tsv.hashKey addr
  let n := 2 ^ clampNat 10 20 (s.get F.tsvPolice_LOG_LINES)
  let tag := h / n % 2 ^ 28
  let l := tabGet (List.replicate 16 (0, 0)) s.tsv.police (h % n)
  (((l.find? fun e => e.1 == tag).map (·.2)).getD 0, h % n, tag)

/-- The line after a request for an address of partition p: the client's counter is c. -/
def State.policeSet (s : State) (p line tag c : Nat) : State :=
  let dflt := List.replicate 16 (0, 0)
  let l := tabGet dflt s.tsv.police line
  let l := if l.any fun e => e.1 == tag then l.map fun e => if e.1 = tag then (tag, c) else e else lineEvict l tag c
  s.setTsv { s.tsv with police := tabSet dflt s.tsv.police line l,
                        lineParts := tabSet 0 s.tsv.lineParts line (withBit (tabGet 0 s.tsv.lineParts line) p) }

/-- The police lines of a partition's addresses are flushed (R479): the lines in which requests for them have counted
(log entry 36). -/
def State.policeFlush (s : State) (p : Nat) : State :=
  let mine (k : Nat) : Bool := bitOf (tabGet 0 s.tsv.lineParts k) p
  s.setTsv { s.tsv with police := s.tsv.police.filter fun e => !mine e.1,
                        lineParts := s.tsv.lineParts.filter fun e => !bitOf e.2 p }

/-- POLICE_DECAY_SWEEP: every non-zero counter falls by 1 (R518). -/
def execPoliceDecaySweep (s : State) : Res :=
  let dec (e : Nat × Option Assoc) : Nat × Option Assoc :=
    (e.1, e.2.map fun r => { r with police := r.police - 1, fails := r.fails - 1 })
  let line (e : Nat × List (Nat × Nat)) : Nat × List (Nat × Nat) := (e.1, e.2.map fun x => (x.1, x.2 - 1))
  .next (if s.getB F.tsvPolice_EN then
      s.setTsv { s.tsv with police := (s.tsv.police.map line).filter fun e => e.2 != List.replicate 16 (0, 0),
                            assocs := s.tsv.assocs.map dec }
    else s)

/-! ### Negotiation (R508–R511, R514) -/

/-- The sum of the rates granted in a partition, in messages per 16 seconds. -/
def State.grantSum (s : State) (part : Nat) : Nat :=
  (s.tsv.assocs.map fun e =>
    match e.2 with
    | some r =>
      if s.svcPart r.svc = part then
        ([r.ann, r.sync, r.dresp].map fun g => if s.grantLive g then 2 ^ (4 - g.log).toNat else 0).sum
      else 0
    | none => 0).sum

/-- The emission period of a unicast address in ticks: 2^-7 s. -/
abbrev calTicks : Nat := 2048000000000

/-- The bucket of a grant of interval 2^log accepted now (R514). -/
def State.firstBucket (s : State) (a h1 : Nat) (log : Int) : Nat :=
  let n := ((s.ticks (s.svcDom a) + 2621440000000 + Int.ofNat calTicks - 1) / Int.ofNat calTicks).toNat
  let m := 2 ^ (log + 7).toNat
  (n + (h1 % m + m - n % m) % m) % 2048

/-- The grant that a message type of a TLV names, and how to replace it. -/
def Assoc.grant (r : Assoc) (ty : Nat) : Option Grant :=
  if ty = msgAnnounce then some r.ann else if ty = msgSync then some r.sync else if ty = msgDelayResp then some r.dresp else none
def Assoc.setGrant (r : Assoc) (ty : Nat) (g : Grant) : Assoc :=
  if ty = msgAnnounce then { r with ann := g } else if ty = msgSync then { r with sync := g } else { r with dresp := g }

/-- Where a client's record stands or can be placed; none where both places are taken (R510). -/
def State.assocPlace (s : State) (a : Nat) (addr portId : List Byte) : Option Nat :=
  match s.findAssoc a addr portId with
  | some i => some i
  | none =>
    let (i, j) := s.assocAt (s.assocKey a addr portId)
    if (s.assoc i).isNone then some i else if (s.assoc j).isNone then some j else none

/-- The GRANT TLV. -/
def grantTlv (ty : Nat) (log dur : Nat) : List Byte := [0, 5, 0, 8, byte (ty * 16), byte log] ++ beBytes 4 dur ++ [0, 0]

/-- One REQUEST_UNICAST_TRANSMISSION: the TLV that answers it (R508, R510, R511). -/
def State.grantReq (s : State) (x : Xc) (k : Pkt) (portId b : List Byte) : List Byte × State :=
  let ty := fb b 0 / 16
  let log := signedOf 8 (fb b 1)
  let a := x.svc
  let addr := clientAddr k
  let lo := if ty = msgAnnounce then s.getI F.svcPtp_MIN_LOG_ANN a else s.getI F.svcPtp_MIN_LOG_SYNC a
  let deny (s : State) : List Byte × State := (grantTlv ty (fb b 1) 0, s)
  let polite := !s.getB F.tsvPolice_EN || match s.findAssoc a addr portId with
    | some i => match s.assoc i with | some r => decide (r.police < s.get F.svcNtp_RATE_LIMIT a) | none => true
    | none => true
  let served := ty = msgAnnounce ∨ ty = msgSync ∨ ty = msgDelayResp
  if !s.getB F.tsvAssoc_EN || !polite || !decide served || decide (log < lo) || decide (4 < log) then deny s
  else
    match s.assocPlace a addr portId with
    | none => deny ((s.bump F.tsvErr_ASSOC_FULL 1 x.part).pulse 37 x.part a)
    | some i =>
      let h1 := (Config.assocHash s.tsv.hashKey (s.assocKey a addr portId)).1
      let r := (s.assoc i).getD { addr := addr, portId := portId, svc := a, h1 := h1 }
      let old := (r.grant ty).getD {}
      let had := if s.grantLive old then 2 ^ (4 - old.log).toNat else 0
      if 16 * s.get F.tsvGrant_GRANT_MAX x.part < s.grantSum x.part - had + 2 ^ (4 - log).toNat then deny s
      else
        let dur := clampNat 10 (max 10 (s.get F.svcPtp_MAX_DURATION a)) (fnum b 2 4)
        let g := { old with log := log, exp := (s.sec32 + dur) % 2 ^ 32, bucket := s.firstBucket a h1 log }
        (grantTlv ty (fb b 1) dur, s.setAssoc i (some { r.setGrant ty g with seen := s.sec32 }))

/-- One CANCEL_UNICAST_TRANSMISSION. -/
def State.grantCancel (s : State) (x : Xc) (k : Pkt) (portId b : List Byte) : List Byte × State :=
  let ty := fb b 0 / 16
  let s := match s.findAssoc x.svc (clientAddr k) portId with
    | some i => match s.assoc i with
      | some r => match r.grant ty with
        | some g => s.setAssoc i (some (r.setGrant ty { g with exp := 0 }))
        | none => s
      | none => s
    | none => s
  ([0, 7, 0, 2, byte (ty * 16), 0], s)

/-- Every negotiation TLV of a signaling message, and the answers. -/
def State.negotiate (s : State) (x : Xc) (k : Pkt) (m : List Byte) : List Byte × State :=
  (unicastTlvs m).foldl (fun acc e =>
    let (b, s) := if e.1 = 4 then acc.2.grantReq x k ((m.drop 20).take 10) e.2 else acc.2.grantCancel x k ((m.drop 20).take 10) e.2
    (acc.1 ++ b, s)) ([], s)

/-! ### VERIFY (R493, R497, R507, R519) -/

/-- The plaintext of an NTS request's encrypted part, where its authenticator verifies under C2S. -/
def ntsVerify (c2s p : List Byte) : Option (List Byte) :=
  match ntsForm p with
  | none => none
  | some (_, _, _, b) =>
    let nl := fnum b 0 2
    let cl := fnum b 2 2
    let np := (nl + 3) / 4 * 4
    if b.length < 4 + np + cl then none
    else sivOpen c2s [p.take (p.length - b.length - 4), (b.drop 4).take nl] ((b.drop (4 + np)).take cl)

/-- AES blocks of verifying an NTS request's authenticator. -/
def ntsBlocks (p : List Byte) : Nat :=
  match ntsForm p with
  | none => 0
  | some (_, _, _, b) => sivBlocks [p.length - b.length - 4, fnum b 0 2] (fnum b 2 2 - 16)

/-- An NTP request is policed: dropped, answered with RATE, or answered (R519). -/
def State.ntpPolice (s : State) (i : Nat) (x : Xc) (k : Pkt) (opp : Nat) : State :=
  if !s.getB F.tsvPolice_EN then s.xcBuild i x opp
  else
    let (c, line, tag) := s.policeOf (clientAddr k)
    if s.get F.svcNtp_DROP_LIMIT x.svc ≤ c then s.xcFree i
    else
      let s := s.policeSet x.part line tag (min 15 (c + 1))
      if s.get F.svcNtp_RATE_LIMIT x.svc ≤ c then (s.svcCnt x.svc 4).xcBuild i { x with kiss := .rate } opp
      else s.xcBuild i x opp

/-- The quote that CP firmware returns for a request, where it serves it (R497). -/
def State.quoteFor (s : State) (x : Xc) : List Byte × State :=
  let a := x.svc
  let w := s.tse.cyc / 1250000000
  let v := s.svc a
  let n := if v.quoteSec = w then v.quoteN else 0
  if asksFor x.plain (s.get F.tsvCfg_ATT_EF_TYPE) (fun b => b.length == 32) && decide (n < 1000) && s.quotes' && !s.quoteBusy then
    (s.setSvc a { v with quoteSec := w, quoteN := n + 1 }).quote (askedNonce x.plain (s.get F.tsvCfg_ATT_EF_TYPE)) true
  else ([], s)

/-- A PTP request that fails its check (R507, R518). POLICE and FAILS count while policing is enabled (log entry 36). -/
def State.ptpFail (s : State) (i : Nat) (x : Xc) (peer : Option Nat) : State :=
  let s := match peer with
    | some j => match s.assoc j with
      | some r => if s.getB F.tsvPolice_EN then s.setAssoc j (some { r with fails := min 15 (r.fails + 1) }) else s
      | none => s
    | none => s
  (s.svcCnt x.svc 3).xcFree i

/-- POLICE of a record counts an accepted request. -/
def State.assocSeen (s : State) (peer : Option Nat) : State :=
  match peer with
  | some j => match s.assoc j with
    | some r => s.setAssoc j (some { r with police := if s.getB F.tsvPolice_EN then min 15 (r.police + 1) else r.police, seen := s.sec32 })
    | none => s
  | none => s

/-- AES blocks of the AUTHENTICATION TLV of a message under AES-CMAC. -/
def State.tlvBlocks (s : State) (x : Xc) (m : List Byte) : Nat :=
  if s.getB F.svcCfg_AUTH_REQ x.svc && x.pin.isSome && s.get F.svcKeys_AUTH_ALG x.svc == 0 then cmacBlocks (m.length - 16) else 0

/-- A PTP request after VERIFY. -/
def State.ptpVerify (s : State) (i : Nat) (x : Xc) (k : Pkt) (opp : Nat) : State :=
  let m := ptpOf k.payload
  let peer := s.senderAssoc x.svc k m
  let (police, fails) := match peer with
    | some j => match s.assoc j with
      | some r => if s.getB F.tsvPolice_EN then (r.police, r.fails) else (0, 0)
      | none => (0, 0)
    | none => (0, 0)
  let good := match x.pin with
    | some (v, g) => if s.getB F.svcCfg_AUTH_REQ x.svc then s.authOk x.svc (s.keyBytes v g) m else true
    | none => true
  let s := s.tallyAes x.part (s.tlvBlocks x m)
  if !good then s.ptpFail i x peer
  else if fails = 15 then s.xcFree i
  else if x.msg = .delayReq then
    (if s.get F.svcNtp_RATE_LIMIT x.svc ≤ police ∧ peer.isSome then (s.assocSeen peer).xcFree i
     else (s.assocSeen peer).xcBuild i x opp)
  else
    let (tlv, s) := s.negotiate x k m
    (s.assocSeen (s.senderAssoc x.svc k m)).xcBuild i { x with plain := tlv } opp

/-- XC_VERIFY_DONE: `opp` places the wire's next opportunity (R406). -/
def execXcVerifyDone (i opp : Nat) (s : State) : Res :=
  .next (match s.xc i with
    | none => s
    | some x =>
      if x.stage ≠ .verify then s
      else
        let k := readPkt x.frame
        match x.msg with
        | .ntp =>
          if x.kiss = .ntsn then s.xcBuild i x opp
          else if !s.isNts x.svc k.payload then s.ntpPolice i x k opp
          else
            let s := s.tallyAes x.part (ntsBlocks k.payload)
            match ntsVerify x.c2s k.payload with
            | none => (s.svcCnt x.svc 3).xcFree i
            | some pt =>
              if !s.rngOk then s.xcAbort i
              else
                let x := { x with plain := pt }
                let (q, s) := s.quoteFor x
                s.ntpPolice i { x with quote := q } k opp
        | .sync _ | .announce _ => s.xcBuild i x opp
        | _ => s.ptpVerify i x k opp)

/-! ### BUILD and STAMP (R475, R483, R505) -/

/-- The frame of an XC reaches the reservation that waits for it. -/
def State.xcHand (s : State) (i port : Nat) (f : TxFrame) : State :=
  let put (r : Resv) : Resv := if r.xc = some i then { r with frame := some f, arrived := s.tse.cyc } else r
  s.setNport port { s.nport port with resv := (s.nport port).resv.map put }

/-- AES blocks of building an XC's frame: the cookies and the authenticator of an NTS answer, the TLV of a PTP message. -/
def State.buildBlocks (s : State) (x : Xc) (nonces : List Nat) (f : List Byte) : Nat :=
  let req := (readPkt x.frame).payload
  if x.msg ≠ .ntp then s.tlvBlocks x (ptpOf (readPkt f).payload)
  else if s.nonceCount x = 0 then 0
  else match ntsForm req with
    | some (u, _, n, _) =>
      (n + 1) * sivBlocks [16] 72 +
        sivBlocks [(s.ntpHeader x req ++ extField efUid u).length, 16] (s.ntsPlain x n nonces).length
    | none => 0

/-- XC_BUILD_DONE. Sync and Announce take queue 7 (R36), other general messages queue 6 (R394; log entry 78). -/
def execXcBuildDone (i : Nat) (s : State) : Res :=
  .next (match s.xc i with
    | none => s
    | some x =>
      if x.stage ≠ .build then s
      else if s.nonceCount x ≠ 0 ∧ !s.rngOk then s.xcAbort i
      else
        let port := s.get F.svcCfg_PORT x.svc
        let (ns, s) := s.nonces (s.nonceCount x)
        let s := if 0 ≤ x.tL ∧ x.tL < timeSpan ∧ 0 ≤ x.rx ∧ x.rx < timeSpan then s else s.draw.2
        let f := s.xcFrame x ns
        let s := s.tallyAes x.part (s.buildBlocks x ns f)
        let s := (s.setXc i (some { x with stage := .stamp, follow := s.followUp x }))
        if s.xcLaunches x then s.xcHand i port { bytes := f, xc := some i }
        else
          match x.msg with
          | .sync _ =>
            let (t, c, u) := s.syncOffsets x.svc
            s.enqueue port 7 { bytes := f, insert := 1, timeOfs := t, corrOfs := c, csumOfs := u, xc := some i }
          | .announce _ => s.enqueue port 7 { bytes := f, xc := some i }
          | _ => s.enqueue port 6 { bytes := f, xc := some i })

/-- XC_TIMEOUT: 1 ms (1,250,000 CLK_TSE cycles) after its admission an XC is freed (R475). -/
def execXcTimeout (i : Nat) (s : State) : Res :=
  .next (match s.xc i with
    | none => s
    | some x => if x.born + 1250000 ≤ s.tse.cyc then s.xcTimeout i else s)

/-! ### Emission (R513–R516) -/

/-- An emission waits for admission. -/
def State.emitMsg (s : State) (a : Nat) (m : XMsg) (e : Emission) : State :=
  s.xcQueue (s.svcPart a) { svc := a, msg := m, frame := [], rx := 0, em := e }

/-- The next sequenceId. -/
def nextSeq (n : Nat) : Nat := (n + 1) % 65536

/-- The emission of a multicast address: Sync or Announce to the group, at the profile's interval. -/
def State.emitGroup (s : State) (a : Nat) (sync : Bool) : State :=
  let v := s.svc a
  let pl := profileLogs (s.get F.svcCfg_PROFILE a)
  if sync then (s.setSvc a { v with syncSeq := nextSeq v.syncSeq }).emitMsg a (.sync none) { log := pl.1, seq := v.syncSeq }
  else (s.setSvc a { v with annSeq := nextSeq v.annSeq }).emitMsg a (.announce none) { log := pl.2, seq := v.annSeq }

/-- The next bucket of a grant after firing number n: one interval on, or, after a step, the first after the firing. -/
def nextBucket (g : Grant) (n : Nat) (step : Bool) : Nat :=
  let m := 2 ^ (g.log + 7).toNat
  if step then (n + 1 + (g.bucket + 2048 - (n + 1) % 2048) % 2048 % m) % 2048 else (g.bucket + m) % 2048

/-- A record's grant in the firing of an alarm: emitted where it lasts, moved forward. -/
def State.walk (s : State) (i : Nat) (sync : Bool) (n missed : Nat) (step : Bool) : State :=
  match s.assoc i with
  | none => s
  | some r =>
    let g := if sync then r.sync else r.ann
    let dist := (n % 2048 + 2048 - g.bucket) % 2048
    if !s.grantLive g || decide ((if step then missed else 0) < dist) then s
    else
      let g' := { g with bucket := nextBucket g n step, seq := nextSeq g.seq }
      let s := s.setAssoc i (some (if sync then { r with sync := g' } else { r with ann := g' }))
      s.emitMsg r.svc (if sync then .sync (some i) else .announce (some i)) { client := some r.addr, log := g.log, seq := g.seq }

/-- A TSV_EMIT alarm fires: its target, instant, the periods missed, whether it fired with S. -/
def State.tsvEmit (s : State) (target inst missed : Nat) (step : Bool) : State :=
  let a := target % 64
  let sync := target / 256 % 16 == msgSync
  if !s.getB F.svcCfg_EN a || !s.getB F.svcCfg_PTP a || !s.tsvServes || s.resetting (s.svcPart a) then s
  else if s.getB F.svcCfg_MCAST a then s.emitGroup a sync
  else
    (tabKeys (fun _ r => match r with | some v => v.svc == a | none => false) s.tsv.assocs).foldl
      (fun s i => s.walk i sync (inst / calTicks + missed) missed step) s

/-- ASSOC_EXPIRE: a record is freed 60 s after the last of its grants has ended (R512). -/
def execAssocExpire (i : Nat) (s : State) : Res :=
  .next (match s.assoc i with
    | none => s
    | some r =>
      let old (g : Grant) : Bool := g.exp == 0 || !laterSerial 32 (g.exp + 60) s.sec32
      if old r.ann && old r.sync && old r.dresp then s.setAssoc i none else s)

/-! ### Commands (R468, R492, R498, R520, R521) -/

/-- Free the records of the addresses for which p holds. -/
def State.assocFlush (s : State) (p : Nat → Bool) : State :=
  s.setTsv { s.tsv with assocs := s.tsv.assocs.filter fun e => match e.2 with | some r => !p r.svc | none => false }

/-- End the exchanges of the addresses for which p holds: those in STAMP complete, the others are freed (R479). -/
def State.xcEnd (s : State) (p : Nat → Bool) : State :=
  let s := s.xcEach (fun x => p x.svc && x.stage != .stamp) fun s i => s.xcFree i
  s.setTsv { s.tsv with wait := (s.tsv.wait.map fun e => (e.1, e.2.filter fun r => !p r.svc)).filter fun e => e.2 != [] }

/-- The emission alarms of an address are armed (R513): the first instant is the next multiple of the period. -/
def State.emitArm (s : State) (a part sSlot aSlot : Nat) : State :=
  let d := s.svcDom a
  let pl := profileLogs (s.get F.svcCfg_PROFILE a)
  let per (log : Int) : Nat := if s.getB F.svcCfg_MCAST a then 2 ^ (log + 7).toNat * calTicks else calTicks
  let inst (p : Nat) : Nat := ((s.ticks d / Int.ofNat p + 1) * Int.ofNat p).toNat
  let s := s.armSlot sSlot part d (inst (per pl.1)) .tsvEmit (a + 256 * msgSync) (per pl.1) true false
  let s := s.armSlot aSlot part d (inst (per pl.2)) .tsvEmit (a + 256 * msgAnnounce) (per pl.2) true false
  s.setSvc a { s.svc a with syncSlot := some sSlot, annSlot := some aSlot }

/-- The profile fits the transport, MCAST and the domainNumber (R472). -/
def profileOk (profile transport dom : Nat) (mcast : Bool) : Bool :=
  match profile with
  | 0 => decide (dom < 256)
  | 1 => transport == 0 && mcast && decide (24 ≤ dom) && decide (dom ≤ 43)
  | 2 => transport != 0 && !mcast && decide (44 ≤ dom) && decide (dom ≤ 63)
  | _ => false

/-- SVC_SET (0x70). `tags` are the tags' four bytes, the outer first. -/
def execSvcSet (c : Caller) (a part port transport addr : Nat) (tags : List Nat) (ttl : Nat) (ptp ntp nts : Bool)
    (profile domNum : Nat) (mcast auth twoStep : Bool) (s : State) : Res :=
  let b (v : Bool) (k : Nat) : Nat := if v then 2 ^ k else 0
  let cfg := 2 ^ 63 + part * 2 ^ 56 + port * 2 ^ 48 + transport * 2 ^ 44 + tags.length * 2 ^ 42 + b mcast 40 + domNum * 2 ^ 32 +
    profile * 2 ^ 24 + b twoStep 20 + b auth 19 + b nts 18 + b ntp 17 + b ptp 16 + ttl
  let s1 := ((s.wr .svcCfg (BitVec.ofNat 64 cfg) a).wr .svcAddrHi (BitVec.ofNat 64 (addr / 2 ^ 64)) a).wr .svcAddrLo
    (BitVec.ofNat 64 addr) a
  let s1 := (s1.put F.svcTag_OUTER (tags.getD 0 0) a).put F.svcTag_INNER (tags.getD 1 0) a
  let slots := s.twoSlots part
  let width := if transport = 0 then 2 ^ 48 else if transport = 1 then 2 ^ 32 else 2 ^ 128
  let same (k : Nat) : Bool :=
    k != a && s.getB F.svcCfg_EN k && s.get F.svcCfg_PORT k == port && s.get F.svcCfg_TRANSPORT k == transport &&
      s.get F.svcAddrHi_ADDR k == addr / 2 ^ 64 && s.get F.svcAddrLo_ADDR k == addr % 2 ^ 64 &&
      s.get F.svcCfg_TAGS k == tags.length && s.svcTags k == (tags.map (beBytes 4)).flatten
  let s2 := if ptp then (match slots with | some (x, y) => s1.emitArm a part x y | none => s1) else s1
  .next (s.runCmd c 0x70
    [notOwner s c,
     (decide (64 ≤ a) || decide (8 ≤ part) || decide (64 ≤ port) || decide (2 < transport) || decide (width ≤ addr) ||
        decide (2 < tags.length) || tags.any (fun t => decide (2 ^ 32 ≤ t)) || decide (256 ≤ ttl), .badArg),
     (s.resetting part, .busy),
     (!s.leads port || s.get F.portCfg_ROLE port != roleService || s.get F.portCfg_PART port != part, .badArg),
     ((List.range 64).any same || !profileOk profile transport domNum mcast || (auth && !ptp), .badArg),
     (s.getB F.svcCfg_EN a || (ptp && slots.isNone), .busy)]
    (s2.refreshAll [38, 39]))

/-- SVC_CLEAR (0x71). -/
def State.svcStop (s : State) (a : Nat) : State :=
  let v := s.svc a
  let off (s : State) (k : Option Nat) (msg : Nat) : State :=
    match k with
    | some i => s.releaseOwn i .tsvEmit (a + 256 * msg)
    | none => s
  let s := off (off (s.xcEnd (· == a)) v.syncSlot msgSync) v.annSlot msgAnnounce
  (s.setSvc a { s.svc a with syncSlot := none, annSlot := none }).assocFlush (· == a)

def execSvcClear (c : Caller) (a : Nat) (s : State) : Res :=
  .next (s.runCmd c 0x71
    [notOwner s c, (decide (64 ≤ a) || !s.getB F.svcCfg_EN a, .badArg), (s.resetting (s.svcPart a), .busy)]
    (((s.svcStop a).putB F.svcCfg_EN false a).refreshAll [38, 39]))

/-- NTS_KEY_ROLL (0x72). -/
def execNtsKeyRoll (c : Caller) (a slot : Nat) (prevClear : Bool) (s : State) : Res :=
  let part := s.svcPart a
  let s1 := (s.put F.svcKeys_NTS_PREV (s.get F.svcKeys_NTS_CUR a) a).put F.svcKeys_NTS_CUR slot a
  .next (s.runCmd c 0x72
    ([(decide (64 ≤ a) || decide (256 ≤ slot) || !s.getB F.svcCfg_EN a, .badArg)] ++ ofPart s c part ++
      [(!s.keyUsable slot part attrTsv || s.get F.vsCfg_TYPE slot != tySiv256, .noKey)])
    (((s1.putB F.svcKeys_PREV_VALID (!prevClear) a).putB F.svcKeys_CUR_VALID true a).refresh 38))

/-- ASSOC_FLUSH (0x73); none stands for ALL of the caller's partition. -/
def execAssocFlush (c : Caller) (a : Option Nat) (s : State) : Res :=
  .next (match a with
    | some k =>
      s.runCmd c 0x73
        [(decide (64 ≤ k), .badArg), (s.resetting (s.svcPart k), .busy),
         (s.cPart c != s.svcPart k && !s.cPt0 c, .partitionDenied)]
        (s.assocFlush (· == k))
    | none => s.runCmd c 0x73 [] (s.assocFlush fun k => s.svcPart k == s.cPart c))

/-- NTSKE_CFG (0x74). -/
def execNtskeCfg (c : Caller) (a slot cert port : Nat) (records : List Byte) (s : State) : Res :=
  .next (s.runCmd c 0x74
    [notOwner s c, (decide (64 ≤ a) || decide (256 ≤ slot) || decide (65536 ≤ port) || port == 0 || !s.getB F.svcCfg_EN a, .badArg),
     (s.resetting (s.svcPart a), .busy), (!s.keyUsable slot (s.svcPart a) attrAtt || !isEcdsa (s.get F.vsCfg_TYPE slot), .noKey)]
    ((s.setSvc a { s.svc a with keSet := true, keSlot := slot, keCert := cert, kePort := port, keRecords := records }).refresh 39))

/-- NTSKE_HANDSHAKE (R498–R500): the keys C2S and S2C that the TLS session exports; eight cookies are minted. -/
def execNtskeHandshake (a : Nat) (c2s s2c : List Byte) (s : State) : Res :=
  let w := s.tse.cyc / 1250000000
  let n := if s.tsv.keSec = w then s.tsv.keN else 0
  let cur := s.get F.svcKeys_NTS_CUR a
  .next (if decide (64 ≤ a) || !s.getB F.svcCfg_EN a || !s.getB F.svcCfg_NTS a || !s.keServes a || !s.tsvServes || !s.rngOk ||
      !s.kvcOk || !s.getB F.svcKeys_CUR_VALID a || !s.keyUsable cur (s.svcPart a) attrTsv then s
    else if 50000 ≤ n then s.setTsv { s.tsv with keRefused := s.tsv.keRefused + 1 }
    else
      let s := s.setTsv { s.tsv with keSec := w, keN := n + 1 }
      let (ns, s) := s.nonces 8
      let v := (s.svc a).keSlot
      (s.tallyEcdsa v (s.svcPart a)).emit (.ntske a (ns.map fun k => s.mint a k c2s s2c)))

end Sys2Proof.Machine
end

