-- ==== Sys2Proof/Machine/Kvc.lean ====
section
/-! DEFINITION. KVC's commands, cache events, the generator's events, tamper and zeroisation (R526–R567). -/
namespace Sys2Proof.Machine

/-- The status word of R330. -/
def statusWord (st : Status) (result : Nat) : Word := BitVec.ofNat 64 (st.code * 2 ^ 56 + result)

/-- A thread's instruction that returns a status has its results ready: the status word to gd, further registers (R330). -/
def State.statusReply (s : State) (t gd : Nat) (st : Status) (result : Nat := 0) (more : List (Nat × Word) := []) : State :=
  let fl := flagsTo (s.get F.thrStat_FLAGS t) [(.z, st == .ok), (.n, false), (.c, false), (.v, false)]
  s.setThr t { s.thr t with await := .result ((gd, statusWord st result) :: more) [] fl }

/-- A KMAC completes: its tag on OK (R339). -/
def State.kmacReply (s : State) (t gd : Nat) (st : Status) (tag : Nat := 0) : State :=
  s.statusReply t gd st 0 (if st = .ok then [(gd + 1, BitVec.ofNat 64 (tag / 2 ^ 64)), (gd + 2, BitVec.ofNat 64 tag)] else [])

/-! ### Operations that use a generation -/

/-- An operation that has its key runs, and releases its pin (R548). -/
def State.keyOpRun (s : State) (w : KeyWait) : State :=
  let key := s.keyBytes w.slot w.gen
  let part := s.vsPart w.slot
  match w.op with
  | .sign c digest =>
    let n := keyLen (s.get F.vsCfg_TYPE w.slot)
    let (r, s) := s.signWith n (beNat key) digest
    ((s.tallyEcdsa w.slot part).unpin w.slot w.gen).complete c 0x85 .ok r
  | .kmac t gd msg =>
    let s := s.tallyAes part (ceilDiv msg.length 16)
    (s.unpin w.slot w.gen).kmacReply t gd .ok (Config.cmac key msg).toNat

/-- An operation ends without its key. -/
def State.keyOpEnd (s : State) (w : KeyWait) (st : Status) : State :=
  match w.op with
  | .sign c _ => (s.unpin w.slot w.gen).complete c 0x85 st
  | .kmac t gd _ => (s.unpin w.slot w.gen).kmacReply t gd st

/-- Pin CUR of a slot and run the operation, or have it wait for a miss (R548, R554). -/
def State.keyOpStart (s : State) (v : Nat) (op : KeyOp) : State :=
  let (g, s) := s.pin v
  let w : KeyWait := { slot := v, gen := g, op := op }
  if s.keyResident v g then s.keyOpRun w
  else s.setKvc { s.kvc with waits := s.kvc.waits ++ [w] }

/-- Every waiting operation on a generation for which `f` decides. -/
def State.keyOps (s : State) (p : KeyWait → Bool) (f : State → KeyWait → State) : State :=
  let l := s.kvc.waits.filter p
  l.foldl f (s.setKvc { s.kvc with waits := s.kvc.waits.filter fun w => !p w })

/-! ### Key generation and import (R543, R544, R562) -/

/-- The answer to KEY_GEN and KEY_IMPORT: the blob, and the public key of an ECDSA type. -/
def State.wrapped (s : State) (part ty attr gen : Nat) (key : List Byte) : List Byte × State :=
  let (iv, s) := (s.tallyAes part gcmBlocks).rng 12
  (s.blobOf part ty attr gen iv key ++ (if isEcdsa ty then pubForm (keyLen ty) (beNat key) else []), s)

/-- A KEY_GEN that has the generator completes. -/
def State.genRun (s : State) (w : GenWait) : State :=
  let (k, s) := s.rng (keyLen w.type)
  let (r, s) := s.wrapped (s.cPart w.c) w.type w.attr w.gen (beBytes (keyLen w.type) k)
  s.complete w.c 0x80 .ok r

def genOk (ty attr gen : Nat) : Bool := attrOk ty attr && decide (1 ≤ gen) && decide (gen < 2 ^ 32)

def execKeyGen (c : Caller) (ty attr gen : Nat) (s : State) : Res :=
  let w : GenWait := { c := c, type := ty, attr := attr, gen := gen, at' := s.tse.cyc }
  .next (s.runDeferred c 0x80 [(!genOk ty attr gen, .badArg), (!s.kvcOk, .timeout)]
    (if s.rngOk then s.genRun w else s.setKvc { s.kvc with genWaits := s.kvc.genWaits ++ [w] }))

def execKeyImport (c : Caller) (ty attr gen : Nat) (material : List Byte) (s : State) : Res :=
  let (r, t) := s.wrapped (s.cPart c) ty attr gen material
  .next (s.runCmd c 0x81
    [(!genOk ty attr gen || material.length != keyLen ty, .badArg), (!bitOf (s.get F.kvcImportOk_IMPORT) (s.cPart c), .refusedOwner),
     (!s.kvcOk || !s.rngOk, .timeout)] t r)

/-- KEY_GEN_TIMEOUT: the KEY_GEN that has waited longest ends, 10 ms (12,500,000 CLK_TSE cycles) after its acceptance (R562). -/
def execKeyGenTimeout (s : State) : Res :=
  .next (match s.kvc.genWaits with
    | w :: l => if w.at' + 12500000 ≤ s.tse.cyc then (s.setKvc { s.kvc with genWaits := l }).complete w.c 0x80 .timeout else s
    | [] => s)

/-! ### Vault slots (R545–R552) -/

/-- The address of one of a slot's two blob positions (R554). -/
def State.blobAddr (s : State) (v k : Nat) : Nat := s.get F.kvcBlobBase_ADDR * 65536 + 192 * v + 96 * k

/-- A checked blob becomes the slot's CUR; the old generation becomes PREV (R547, R549). -/
def State.keyInstall (s : State) (v : Nat) (blob : List Byte) (persist : Bool) : State :=
  let ty := nb blob 1
  let gen := nn blob 4 4
  let x := s.vslot v
  let pos := match x.cur with | some m => 1 - m.pos | none => 0
  let s := s.makeRoom (keyEntries ty)
  let mat : KeyMat := { key := s.blobKey (s.vsPart v) blob, pos := pos, resident := s.hasRoom (keyEntries ty) }
  let s := s.emit (.dmaWrite (s.blobAddr v pos) 3 blob)
  let s := if (s.vslot v).cur.isSome then
      ((s.put F.vsGen_PREV_GEN (s.get F.vsGen_CUR_GEN v) v).put F.vsKcv_PREV_KCV (s.get F.vsKcv_CUR_KCV v) v).put
        F.vsPins_PREV_PINS (s.get F.vsPins_CUR_PINS v) v |>.put F.vsPins_CUR_PINS 0 v
    else s
  let s := s.setVslot v { s.vslot v with cur := some mat, prev := (s.vslot v).cur }
  let s := (s.put F.vsGen_CUR_GEN gen v).put F.vsKcv_CUR_KCV (nn blob 8 3) v
  let s := ((s.put F.vsCfg_TYPE ty v).put F.vsCfg_ATTR (nb blob 2) v).put F.vsCfg_STATE vsActive v
  let s := (s.put F.vsCfg_LAST_GEN gen v).putB F.vsCfg_PERSIST persist v
  ((s.touch v).pinsSettle v).refreshAll [38, 39]

/-- The checks of a load into a slot (R545, R549, R552). -/
def State.loadChecks (s : State) (v : Nat) (blob : List Byte) (kcv : Nat) : List (Bool × Status) :=
  let bad := decide (nn blob 4 4 ≤ s.get F.vsCfg_LAST_GEN v) || nn blob 4 4 == 0 ||
    (s.get F.vsCfg_STATE v == vsActive && nb blob 1 != s.get F.vsCfg_TYPE v)
  s.blobChecks (s.vsPart v) blob (bad, .badArg) kcv

def execKeyLoad (c : Caller) (slot : Nat) (blob : List Byte) (kcv : Nat) (persist : Bool) (s : State) : Res :=
  let t := (s.keyInstall slot blob persist).tallyAes (s.vsPart slot) gcmBlocks
  .next (s.runCmd c 0x82
    ([(decide (256 ≤ slot), .badArg)] ++ ofPart s c (s.vsPart slot) ++
      [(!s.getB F.kvcBlobBase_EN, .badArg),
       (s.get F.vsCfg_STATE slot == vsErasing || s.getB F.vsCfg_BUSYOP slot || s.get F.vsGen_PREV_GEN slot != 0, .busy),
       (!s.kvcOk, .verifyFail)] ++ s.loadChecks slot blob kcv)
    (if persist then t.persistPut { slot := slot, part := s.vsPart slot, blob := blob, lastGen := nn blob 4 4 } else t))

/-- A slot moves to ERASING: engines let go of it (R551). -/
def State.eraseStart (s : State) (v : Nat) (c : Caller) : State :=
  let s := (s.put F.vsCfg_STATE vsErasing v).putB F.vsCfg_BUSYOP true v
  let s := s.setVslot v { s.vslot v with eraser := some c, eraseAt := s.tse.cyc }
  let s := s.persistDrop v
  let s := (s.slgKeyGone v).ringKeyGone v
  (s.pinsSettle v).refreshAll [38, 39]

def execKeyErase (c : Caller) (slot : Nat) (s : State) : Res :=
  .next (s.runDeferred c 0x83
    ([(decide (256 ≤ slot), .badArg)] ++ (if s.cPt0 c then [(s.resetting (s.vsPart slot), .busy)] else ofPart s c (s.vsPart slot)) ++
      [(s.get F.vsCfg_STATE slot == vsEmpty, .badArg), (s.get F.vsCfg_STATE slot == vsErasing, .busy)])
    (s.eraseStart slot c))

/-- ERASE_FORCE_TIMEOUT: 1 ms (1,250,000 CLK_TSE cycles) after ERASING, whatever pins remain (R551). -/
def execEraseForceTimeout (slot : Nat) (s : State) : Res :=
  .next (if 256 ≤ slot ∨ s.get F.vsCfg_STATE slot ≠ vsErasing ∨ s.tse.cyc < (s.vslot slot).eraseAt + 1250000 then s
    else
      let s := s.bump F.vsPins_FORCED (s.get F.vsPins_CUR_PINS slot + s.get F.vsPins_PREV_PINS slot) slot
      let s := s.keyOps (fun w => w.slot == slot) fun s w => s.keyOpEnd w .noKey
      let s := s.xcEach (fun x => (x.pin.map (·.1)) == some slot) State.xcTimeout
      let s := s.setKvc { s.kvc with
        exports := s.kvc.exports.filter (fun e => e.1 != slot)
        copies := s.kvc.copies.filter (fun e => e.1.1 != slot) }
      (if s.get F.vsCfg_STATE slot = vsErasing then s.slotEmpty slot else s).refreshAll [38, 39])

/-- The record of KEY_INFO (R565). -/
def State.keyInfo (s : State) (v : Nat) : List Byte :=
  let st := s.get F.vsCfg_STATE v
  if st = vsEmpty then [byte 0]
  else
    [byte st, byte (s.vsPart v), byte (s.get F.vsCfg_TYPE v), byte (s.get F.vsCfg_ATTR v)] ++
      beBytes 4 (s.get F.vsGen_CUR_GEN v) ++ beBytes 4 (s.get F.vsGen_PREV_GEN v) ++
      beBytes 4 (s.get F.vsKcv_CUR_KCV v) ++ beBytes 4 (s.get F.vsKcv_PREV_KCV v) ++ beBytes 4 (s.get F.vsCfg_LAST_GEN v) ++
      beBytes 4 (s.get F.vsPins_CUR_PINS v) ++ beBytes 4 (s.get F.vsPins_PREV_PINS v) ++
      (if isEcdsa (s.get F.vsCfg_TYPE v) then
        pubForm (keyLen (s.get F.vsCfg_TYPE v)) (beNat (s.keyBytes v (s.get F.vsGen_CUR_GEN v))) else [])

def execKeyInfo (c : Caller) (slot : Nat) (s : State) : Res :=
  .next (s.runCmd c 0x84
    ([(decide (256 ≤ slot), .badArg)] ++ (if s.cPt0 c then [(s.resetting (s.vsPart slot), .busy)] else ofPart s c (s.vsPart slot)))
      s (s.keyInfo slot))

def execKvcSign (c : Caller) (slot : Nat) (digest : List Byte) (s : State) : Res :=
  let ty := s.get F.vsCfg_TYPE slot
  .next (s.runDeferred c 0x85
    ([(decide (256 ≤ slot), .badArg)] ++ ofPart s c (s.vsPart slot) ++
      [(!s.keyUsable slot (s.vsPart slot) attrAtt || !isEcdsa ty || !s.kvcOk, .noKey), (digest.length != keyLen ty, .badArg),
       (!s.rngOk, .timeout)])
    (s.keyOpStart slot (.sign c digest)))

def execSlotAssign (c : Caller) (slot part : Nat) (s : State) : Res :=
  .next (s.runCmd c 0x86
    [notOwner s c, (decide (256 ≤ slot) || decide (8 ≤ part), .badArg), (s.resetting (s.vsPart slot), .busy),
     (s.get F.vsCfg_STATE slot != vsEmpty || s.get F.vsPins_CUR_PINS slot != 0 || s.get F.vsPins_PREV_PINS slot != 0, .busy)]
    ((s.put F.vsCfg_PART part slot).refreshAll [38, 39]))

/-! ### The key cache (R554–R557) -/

/-- KEY_CACHE_MISS_DONE: the blob that DRAM returned for a generation that is not resident. The miss is served, counted in MISSES, once
its entries are free (R554, R556). -/
def execKeyCacheMissDone (slot gen : Nat) (blob : List Byte) (s : State) : Res :=
  .next (match s.keyMat slot gen with
    | none => s
    | some m =>
      if m.resident then s
      else
        let part := s.vsPart slot
        let waits (w : KeyWait) : Bool := w.slot == slot && w.gen == gen
        let bad := (nn blob 4 4 != gen, Status.verifyFail)
        let s := s.tallyAes part gcmBlocks
        match firstFail (s.blobChecks part blob bad (s.keyKcv slot gen)) with
        | some _ =>
          let s := s.pulse 40 part slot
          let s := s.keyOps waits fun s w => s.keyOpEnd w .noKey
          s.xcEach (fun x => x.pin == some (slot, gen) && x.stage == .key) State.xcAbort
        | none =>
          let n := keyEntries (s.get F.vsCfg_TYPE slot)
          let s := s.makeRoom n
          if !s.hasRoom n then s
          else
            let x := s.vslot slot
            let m := { m with resident := true, key := s.blobKey part blob }
            let s := s.setVslot slot (if s.get F.vsGen_CUR_GEN slot = gen then { x with cur := some m } else { x with prev := some m })
            ((s.bump F.kvcCacheStat_MISSES 1).touch slot).keyOps waits State.keyOpRun)

/-- KVC delivers the current generation of a slot to CP SRAM: only a key with CP_EXPORT; any other request has NO_KEY and changes
nothing (R37–R39). The copy pins its generation (R548). -/
def State.cpExport (s : State) (slot : Nat) : State :=
  let gen := s.get F.vsGen_CUR_GEN slot
  if s.keyUsable slot (s.vsPart slot) attrCpExport && s.kvcOk && s.keyResident slot gen && !s.kvc.exports.contains (slot, gen) then
    (s.setKvc { s.kvc with exports := (slot, gen) :: s.kvc.exports,
                           copies := ((slot, gen), s.keyBytes slot gen) :: s.kvc.copies }).pin slot |>.2
  else s

/-- CP firmware has destroyed its copy: the pin is released (R548). -/
def State.cpRelease (s : State) (slot gen : Nat) : State :=
  if s.kvc.exports.contains (slot, gen) then
    (s.setKvc { s.kvc with exports := s.kvc.exports.erase (slot, gen),
                           copies := s.kvc.copies.filter fun e => e.1 != (slot, gen) }).unpin slot gen
  else s

/-- CP_EXPORT_RELEASE (R548): CP firmware takes copies of the keys of some slots, and reports that it has destroyed one. The table
has no row for the delivery of a copy, so this one carries it (DESIGN CHOICE: log entry 78). -/
def execCpExportRelease (call : CopyCall) (gen : Nat) (s : State) : Res :=
  .next ((call.take.foldl (fun s v => s.cpExport v) s).cpRelease call.slot gen)

/-- CACHE_ECC_ERROR: in a generation of a slot, or in a derived key (R557). -/
def execCacheEccError (slot : Option Nat) (gen : Nat) (s : State) : Res :=
  .next (match slot with
    | none => s.pulse 43 0 0xff
    | some v =>
      match s.keyMat v gen with
      | none => s
      | some m =>
        let x := s.vslot v
        let m := { m with resident := false }
        (s.setVslot v (if s.get F.vsGen_CUR_GEN v = gen then { x with cur := some m } else { x with prev := some m })).pulse
          43 (s.vsPart v) v)

/-! ### The generator and the self-tests (R562, R563) -/

def execDrbgReseed (s : State) : Res := .next (s.setKvc { s.kvc with drbg := 0 })

def execRngHealthFail (s : State) : Res :=
  .next (((s.putB F.kvcStat_RNG_OK false).setKvc { (s.putB F.kvcStat_RNG_OK false).kvc with rngFail := true }).refresh 41)

def execRngHealthPass (s : State) : Res :=
  .next (
    let l := s.kvc.genWaits
    let s := s.putB F.kvcStat_RNG_OK true
    let s := (s.setKvc { s.kvc with rngFail := false, genWaits := [] }).refresh 41
    l.foldl State.genRun s)

/-- KVC_SELFTEST: its tests give `pass`. -/
def execKvcSelftest (c : Caller) (pass : Bool) (s : State) : Res :=
  .next (s.runDeferred c 0x88 [notOwner s c] ((s.katResult pass).complete c 0x88 (if pass then .ok else .verifyFail)))

/-! ### Tamper and zeroisation (R529–R535) -/

/-- The sources in the bit order of KVC_TAMPER_CAUSE: TMP0–TMP3, VBAT_LOW, TEMP, VGLITCH, CLKGLITCH. -/
def State.tamperOn (s : State) (k : Nat) : Bool :=
  match k with
  | 4 => true
  | 5 => s.getB F.kvcTamperCfg_TEMP_EN
  | 6 => s.getB F.kvcTamperCfg_VGLITCH_EN
  | 7 => s.getB F.kvcTamperCfg_CLKGLITCH_EN
  | _ => decide (k < 4) && s.get F.kvcTamperCfg_TMP_MODE / 4 ^ k % 4 != 0

/-- The VBAT record of a zeroisation by a source, `sec` the D0 second it latches. -/
def State.tamperRecord (s : State) (k sec : Nat) : State :=
  let s := (s.bump F.kvcTamperCause_COUNT 1).put F.kvcTamperCause_SEC sec
  let s := s.wr .kvcTamperCause (s.rd .kvcTamperCause ||| BitVec.ofNat 64 (2 ^ k))
  (s.putB F.kvcStat_ZEROISED true).setKvc { (s.putB F.kvcStat_ZEROISED true).kvc with root := 0, epoch := 0, crcOk := false }

/-- A slot at zeroisation: EMPTY with LAST_GEN 0, an erase in progress completed (R547, R551). -/
def State.slotWipe (s : State) (v : Nat) : State := (s.slotEmpty v).put F.vsCfg_LAST_GEN 0 v

/-- NPA holds a frame of an XC for a launch that has not started. -/
def State.launchHeld (s : State) (i : Nat) : Bool :=
  s.npa.ports.any fun e => e.2.resv.any fun r => r.xc == some i && r.frame.isSome

/-- Zeroisation by a source (R531): every operation that holds a pin is aborted, and the frames that wait for a launch are discarded
with their exchanges (R532). -/
def State.zeroise (s : State) (k : Nat) : State :=
  let d0 := s.dom 0
  let sec := if d0.st = .running then (s.ticks 0 / Int.ofNat Config.secTicks).toNat % 2 ^ 32 else 0
  let s := s.keyOps (fun _ => true) fun s w => s.keyOpEnd w .keyGone
  let l := s.kvc.genWaits
  let s := l.foldl (fun s w => s.complete w.c 0x80 .keyGone) (s.setKvc { s.kvc with genWaits := [] })
  let s := s.xcEach (fun x => x.pin.isSome) State.xcAbort
  let s := (tabKeys (fun i x => x.isSome && s.launchHeld i) s.tsv.xcs).foldl State.xcFree s
  let s := (List.range 256).foldl (fun s v =>
    if s.get F.vsCfg_STATE v = vsEmpty then s else ((s.slgKeyGone v).ringKeyGone v).slotWipe v) s
  let s := (List.range 256).foldl (fun s v => s.put F.vsCfg_LAST_GEN 0 v) s
  let s := s.setKvc { s.kvc with derived := .none, lru := [], exports := [], copies := [], drbg := 0 }
  let s := ((s.tamperRecord k sec).putB F.kvcStat_ROOT_VALID false).put F.kvcStat_ROOT_EPOCH 0
  let s := s.log 0x08 0xff 0x0801 0 4 (beBytes 2 (s.rd .kvcTamperCause).toNat)
  s.refreshAll [38, 39, 60, 61]

/-- R533 exempts a fall of VDD_CORE that began at least 1 µs after PWRGOOD had fallen; `fell` is that time in nanoseconds, none while
PWRGOOD is high. -/
def glitchExempt (source : Nat) (fell : Option Nat) : Bool :=
  source == 6 && (match fell with | some n => decide (1000 ≤ n) | none => false)

/-- TAMPER_TRIP: a source trips; with main power off only the root is overwritten. -/
def execTamperTrip (source : Nat) (supply : Supply) (s : State) : Res :=
  .next (if 8 ≤ source ∨ !s.tamperOn source ∨ glitchExempt source supply.fell then s
    else
      let s := s.setKvc { s.kvc with tripped := withBit s.kvc.tripped source }
      if supply.powered then s.zeroise source
      else if source < 6 then s.tamperRecord source 0 else s)

/-- TAMPER_SOURCE_RELEASE (R535, R567). -/
def execTamperSourceRelease (source : Nat) (s : State) : Res :=
  .next (if 8 ≤ source then s
    else (s.setKvc { s.kvc with tripped := withoutBit s.kvc.tripped source }).refresh 60)

def execKvcZeroise (c : Caller) (s : State) : Res := .next (s.runCmd c 0x89 [notOwner s c] (s.zeroise 8))

/-- The new configuration disables a source, turns a TMP input OFF or widens the limits (R534). -/
def State.tamperLoosens (s : State) (modes en : Nat) (lo hi : Int) : Bool :=
  (List.range 4).any (fun k => s.get F.kvcTamperCfg_TMP_MODE / 4 ^ k % 4 != 0 && modes / 4 ^ k % 4 == 0) ||
    (s.getB F.kvcTamperCfg_TEMP_EN && !bitOf en 0) || (s.getB F.kvcTamperCfg_VGLITCH_EN && !bitOf en 1) ||
    (s.getB F.kvcTamperCfg_CLKGLITCH_EN && !bitOf en 2) ||
    decide (lo < s.getI F.kvcTempLim_TEMP_LO) || decide (s.getI F.kvcTempLim_TEMP_HI < hi)

/-- TAMPER_CFG: modes of TMP0–TMP3, FILT, the enables of TEMP, VGLITCH and CLKGLITCH, the limits in 1/16 °C. -/
def execTamperCfg (c : Caller) (modes filt en : Nat) (lo hi : Int) (s : State) : Res :=
  let inW (x : Int) : Bool := decide (-(2 ^ 15 : Int) ≤ x) && decide (x < 2 ^ 15)
  .next (s.runCmd c 0x87
    [notOwner s c, (decide (256 ≤ modes) || filt == 0 || decide (15 < filt) || decide (8 ≤ en) || !inW lo || !inW hi, .badArg),
     (s.cpx.owner.lock && s.tamperLoosens modes en lo hi, .refusedOwner)]
    (let s := (s.put F.kvcTamperCfg_TMP_MODE modes).put F.kvcTamperCfg_FILT filt
     let s := (s.putB F.kvcTamperCfg_TEMP_EN (bitOf en 0)).putB F.kvcTamperCfg_VGLITCH_EN (bitOf en 1)
     let s := (s.putB F.kvcTamperCfg_CLKGLITCH_EN (bitOf en 2)).putI F.kvcTempLim_TEMP_LO lo
     (s.putI F.kvcTempLim_TEMP_HI hi).refresh 63))

/-- VBAT_WARN: VBAT has been read and lies on either side of WARN_MV (R535, R567). -/
def State.vbatJudge (s : State) : State :=
  let low := decide (s.get F.kvcVbat_VBAT_MV < s.get F.kvcVbat_WARN_MV)
  ((s.putB F.kvcStat_VBAT_WARN low).setKvc { (s.putB F.kvcStat_VBAT_WARN low).kvc with vbatLow := low }).refresh 62

def execVbatWarn (mv : Nat) (s : State) : Res := .next ((s.put F.kvcVbat_VBAT_MV mv).vbatJudge)

end Sys2Proof.Machine
end

