-- ==== Sys2Proof/Machine/Sup.lean ====
section
/-! DEFINITION. SUP: the event ledger's writer and reader, the tally banks and their snapshots, clearing of sticky bits, the
heartbeat, block resets (15_faults_ledger_tally.md). -/
namespace Sys2Proof.Machine

/-! ### The event ledger (R672–R680) -/

/-- An entry is written before another (R675). -/
def entryBefore (a b : LEntry) : Bool :=
  if a.stamp ≠ b.stamp then decide (a.stamp < b.stamp)
  else if a.src ≠ b.src then decide (a.src < b.src)
  else decide (a.code < b.code)

/-- The staged entry that is written next, and the others. -/
def nextEntry : List LEntry → Option (LEntry × List LEntry)
  | [] => none
  | e :: l =>
    match nextEntry l with
    | none => some (e, [])
    | some (f, r) => if entryBefore f e then some (f, e :: r) else some (e, f :: r)

/-- The four words of an entry (R673); `free` stands for a stamp outside the time format. -/
def entryWords (free : Nat) (e : LEntry) : List Word :=
  wordsOf 4 (beBytes 12 (timeVal free e.stamp) ++ beBytes 2 e.bound ++ beBytes 2 e.src ++ beBytes 2 e.code ++
    [byte e.part, byte e.sev] ++ (e.data ++ List.replicate 12 0#8).take 12)

/-- LOST set in an entry (R677): bit 7 of byte 19. -/
def markLost : List Word → List Word
  | w0 :: w1 :: w2 :: l => w0 :: w1 :: (w2 ||| BitVec.ofNat 64 (2 ^ 39)) :: l
  | l => l

/-- LOST set in the oldest unread entry. -/
def markHead : List (List Word) → List (List Word)
  | [] => []
  | e :: l => markLost e :: l

/-- An entry arrives in the ledger; a full one gives up its oldest unread entry (R677). -/
def State.ledgerAdd (s : State) (w : List Word) : State :=
  let f := s.sup.ledger
  if f.items.length + (if f.cur = [] then 0 else 1) < 8192 then { s with sup := { s.sup with ledger := f.add w } }
  else
    { (s.bump F.supLedgerStat_LEDGER_LOST 1) with
      sup := { s.sup with ledger := { f with items := markHead (f.items.drop 1 ++ [w]) } } }

/-- Write one staged entry (R675), and post it to its partition's queue (R680). -/
def State.ledgerWrite (s : State) : State :=
  match nextEntry s.sup.staged with
  | none => s
  | some (e, l) =>
    let s := { s with sup := { s.sup with staged := l } }
    let w := entryWords s.draw.1 e
    let s := if 0 ≤ e.stamp ∧ e.stamp < timeSpan then s else s.draw.2
    let s := s.ledgerAdd w
    if e.part < 8 ∧ s.getB F.supLq_EN e.part then
      (s.qPostHw (s.get F.supLq_QUEUE e.part) (itemOf w)).emit (.ledgerPost (s.get F.supLq_QUEUE e.part))
    else s

/-- LEDGER_ENTRY_WRITE: at most one entry in each cycle (R675). -/
def execLedgerEntryWrite (s : State) : Res :=
  .next (if s.sup.wrote || s.sup.staged.isEmpty then s else let t := s.ledgerWrite; { t with sup := { t.sup with wrote := true } })

/-- Write entries until none of those that `p` picks is staged: what a write that waits on them waits for (R675). -/
def ledgerUntil (p : LEntry → Bool) : Nat → State → State
  | 0, s => s
  | n + 1, s => if s.sup.staged.any p then ledgerUntil p n s.ledgerWrite else s

/-- A write that waits for the entries that `p` picks. -/
def State.awaitEntries (s : State) (p : LEntry → Bool) : State := ledgerUntil p s.sup.staged.length s

/-! ### Clearing sticky bits (R663, R675) -/

/-- The entry carries the onset of D[n] for a bit n of the mask. -/
def dOnset (mask : Nat) (e : LEntry) : Bool :=
  match e.onset with
  | some n => bitOf mask n && bitOf (nb e.data 4) 1
  | none => false

/-- The entry carries the onset of S[n,p] for a bit n of the mask. -/
def pOnset (mask p : Nat) (e : LEntry) : Bool :=
  match e.onset with
  | some n => bitOf mask n && e.part == p
  | none => false

/-- Clear D[n] for the bits of a mask; a live source re-latches (R663). -/
def State.clearD (s : State) (mask : Nat) : State :=
  let s := s.awaitEntries (dOnset mask)
  (List.range 64).foldl (fun s n =>
    if bitOf mask n && s.liveOf n == 0 then s.put F.supFstat0_D (withoutBit (s.get F.supFstat0_D) n) else s) s

/-- Clear S[n,p] for the bits of a mask. -/
def State.clearS (s : State) (p mask : Nat) : State :=
  let s := s.awaitEntries (pOnset mask p)
  (List.range 64).foldl (fun s n =>
    if bitOf mask n && !s.fLive n p then s.put F.supPfstat_S_or_L (withoutBit (s.get F.supPfstat_S_or_L p) n) p else s) s

/-! ### Conditions of SUP itself (R670, R671, R820) -/

/-- COLLECTOR_PARITY (R670): SAFE, whatever the configuration. -/
def execCollectorParity (s : State) : Res :=
  .next (((s.putB F.supCtl_COLL_PAR true).log 0x0a 0xff 0x0a02 0 4 []).latchSafe 0x0700)

/-- The CP has written SUP_HB. -/
def State.heartbeat (s : State) : State :=
  ({ s with sup := { s.sup with hbExpired := false, hbCyc := s.tse.cyc } }).refresh 0

/-- HEARTBEAT_EXPIRE (R671, R820): HB_MS has passed without a write. -/
def execHeartbeatExpire (s : State) : Res :=
  .next (if s.getB F.supCtl_HB_EN && decide (s.sup.hbCyc + s.get F.supCtl_HB_MS * 1250000 ≤ s.tse.cyc) then ({ s with sup := { s.sup with hbExpired := true } }).refresh 0 else s)

/-- SUP_CTL has been written over its former value: CP_HEARTBEAT needs HB_EN, and its limit starts as HB_EN is set. -/
def State.supCtlWritten (s : State) (old : Word) : State :=
  if s.getB F.supCtl_HB_EN && bitsOf old 3 3 == 1 then s else s.heartbeat

/-- RESET_COUNT_CLEAR (R667). -/
def execResetCountClear (s : State) : Res := .next (s.put F.supAon_RST_CNT 0)

/-- CHECKBIT_RATE_WINDOW (R671): the check-bit errors of the last second. -/
def execCheckbitRateWindow (errors : Nat) (s : State) : Res :=
  .next (({ s with sup := { s.sup with cbRate := decide (s.get F.supCtl_CB_LIMIT < errors) } }).refresh 59)

/-- PCIE_ERR (R671): whether the link is down after training, or an uncorrectable error stands in AER. -/
def execPcieErr (live : Bool) (s : State) : Res :=
  .next (({ s with sup := { s.sup with pcieErr := live } }).refresh 2)

/-! ### Commands (R693–R695) -/

/-- FAULT_INJECT (0xa8): L[n,p] is high for one cycle; a live source has no rise. -/
def execFaultInject (c : Caller) (n p : Nat) (s : State) : Res :=
  .next (s.runCmd c 0xa8
    [notOwner s c, (decide (64 ≤ n) || decide (8 ≤ p) || n == 51 || n == 55 || n == 60 || n == 61, .badArg)]
    (s.pulse n p 0xff true))

/-- LEDGER_MARK (0xa9). -/
def execLedgerMark (c : Caller) (sev : Nat) (data : List Byte) (s : State) : Res :=
  .next (s.runCmd c 0xa9 [(decide (2 < sev) || data.length != 12, .badArg)]
    (s.log 0x0a 0xff 0x0a04 (s.cPart c) sev data))

/-! ### Block resets (R666) -/

/-- An ADPLL is cleared and searches again. -/
def State.synReset (s : State) (n : Nat) : State :=
  if s.synState n = 7 ∨ (s.getB F.synStat_FL_SEEN n ∧ s.synState n ≠ 0) then
    ((List.range 16).foldl (fun s e => (s.wr .synMemKey 0 n e).wr .synMemVal 0 n e) s).startSearch n
  else s

/-- The port on lane l retrains (R666): its lanes lose their link state. -/
def State.portRetrain (s : State) (l : Nat) : State := ((s.portLanes l).foldl (fun s k => s.laneReset k) s).showLink l

/-- The lead lanes of the partitions of a mask for which NPA's level source n is live. -/
def State.faultPorts (s : State) (n mask : Nat) : List Nat :=
  (List.range 64).filter fun l => s.leads l && bitOf mask (s.get F.portCfg_PART l) &&
    (if n = 28 then !s.getB F.portStat_LINK l
     else (s.portLanes l).any fun k => !s.getB F.laneStat_DLM_VALID k)

/-- The block of source n is reset (R666); `kat` is the outcome of KVC_SELFTEST. -/
def State.blockReset (s : State) (n mask inst : Nat) (kat : Bool) : State :=
  if n < 12 then s.calAll
  else if n < 16 then
    ((List.range 192).foldl (fun s c => s.chLose c) s).setGnb { s.gnb with acq := none, coldStart := false }
  else if n < 24 then ([2, 3, 4, 5, 6, 7].foldl (fun s k => s.synReset k) s).refreshAll [20, 21, 22]
  else if n < 36 then (s.faultPorts n mask).foldl (fun s l => s.portRetrain l) s
  else if n < 44 then (s.setKvc { s.kvc with drbg := 0 }).katResult kat
  else if inst < 2 then s.hLaneLink inst false 0 0
  else s

/-- BLOCK_RESET_REACTION: the oldest block reset asked for is performed. -/
def execBlockResetReaction (kat : Bool) (s : State) : Res :=
  .next (match s.sup.blockPend with
    | [] => s
    | (n, mask, inst) :: l => ({ s with sup := { s.sup with blockPend := l } }).blockReset n mask inst kat)

/-! ### Programmable tally counters (R682–R687) -/

/-- What a counter's selection names: with a resource that INSTANCE gives, its partition. -/
inductive EvKind | plain | inst (part : Nat) | unknown
  deriving DecidableEq, Repr

/-- The kind of event that BLOCK, EVENT and INSTANCE select (R682). -/
def State.evKind (s : State) (block ev inst : Nat) : EvKind :=
  match block, ev with
  | 0x00, 1 | 0x00, 2 | 0x06, 4 | 0x07, 3 | 0x08, 1 | 0x09, 1 | 0x0c, 1 => .plain
  | 0x01, 1 | 0x01, 2 => .inst (s.dom inst).owner
  | 0x02, 1 => .inst 0
  | 0x06, 1 | 0x06, 2 | 0x06, 3 => .inst (s.thrPart inst)
  | 0x07, 1 | 0x07, 2 | 0x07, 4 => .inst (s.get F.svcCfg_PART inst)
  | 0x08, 2 => .inst (s.get F.vsCfg_PART inst)
  | 0x10, 1 | 0x10, 2 | 0x10, 3 => .inst (s.get F.portCfg_PART inst)
  | _, _ => .unknown

/-- Counter i of SUP bank b has an invalid configuration (R683, R684; WIN_LOG; log entry 31). -/
def State.tbBad (s : State) (b i : Nat) : Bool :=
  let part := s.get F.tbCfg_PART b
  let inst := s.get F.tbCtl_INSTANCE b i
  s.getB F.tbCtl_EN b i &&
    (if s.getB F.tbCtl_CHAIN b i then i == 0
     else
      (match s.evKind (s.get F.tbCtl_BLOCK b i) (s.get F.tbCtl_EVENT b i) inst with
        | .unknown => true
        | .inst p => inst != 0xff && part != 0 && p != part
        | .plain => false) ||
      s.get F.tbCtl_MODE b i == 3 ||
      (s.get F.tbCtl_MODE b i == 1 && (decide (s.get F.tbCtl_WIN_LOG b i < 10) || decide (30 < s.get F.tbCtl_WIN_LOG b i))))

/-- CFG_ERR of TBb_STAT. -/
def State.tbErr (s : State) (b : Nat) : Nat := ((List.range 8).map fun i => if s.tbBad b i then 2 ^ i else 0).sum

/-- Counter i of bank b counts. -/
def State.tbOn (s : State) (b i : Nat) : Bool := s.getB F.tbCtl_EN b i && !s.tbBad b i

/-- The increment that one bump gives to counter i of bank b (R682, R683), and the thread whose event it is. -/
def State.tbTakes (s : State) (b i : Nat) (x : Bump) : Option (Nat × Nat) :=
  match x with
  | .ev block ev inst part n thread =>
    let sel := s.get F.tbCtl_INSTANCE b i
    let own := s.get F.tbCfg_PART b
    if block = s.get F.tbCtl_BLOCK b i ∧ ev = s.get F.tbCtl_EVENT b i ∧ (sel = 0xff ∨ inst = 0xff ∨ sel = inst) ∧
        (own = 0 ∨ part = own ∨ 8 ≤ part) then some (n, thread)
    else none
  | _ => none

/-- The increments of a cycle for a counter, each with its thread and the events after it. -/
def State.tbEvents (s : State) (b i : Nat) : List Bump → List (Nat × Nat × List Bump)
  | [] => []
  | x :: l =>
    match s.tbTakes b i x with
    | some e => (e.1, e.2, l) :: s.tbEvents b i l
    | none => s.tbEvents b i l

/-- Post a sample record (R381); a thread that waits gives the PC of the instruction it waits on (R380). -/
def State.samplePost (s : State) (x : SampleReq) : State :=
  let t := x.thread
  let p := s.thrPart t
  let st := s.thrState t
  let pc := if st = thAlarm ∨ st = thQueue ∨ st = thReply ∨ st = thYielded then (s.thr t).at' else s.get F.thrStat_PC t
  let w0 := min x.issued 7 * 2 ^ 61 + t * 2 ^ 54 + x.bank * 2 ^ 46 + st * 2 ^ 43 + pc
  let item := itemOf [BitVec.ofNat 64 w0, BitVec.ofNat 64 x.ticks]
  if s.getB F.dsqNotify_SMP_EN p then s.qPostHw (s.get F.dsqNotify_SMP_Q p) item (.sample t) else s.sampleLost t

/-- The instructions of thread t among the events of a cycle. -/
def issuesOf (t : Nat) (l : List Bump) : Nat :=
  (l.filter fun x => match x with | .ev 0x06 0x01 i _ _ _ => i == t | _ => false).length

/-- A sample request for thread t from bank b (R380), `rest` the events of the cycle after the one that asks for it: a thread that is
not READY is captured at once. -/
def State.sampleReq (s : State) (b t : Nat) (rest : List Bump) : State :=
  let x : SampleReq := { thread := t, bank := 128 + b, ticks := codeOf 64 (s.startTicks 0), issued := 0 }
  if s.thrState t = thReady then
    { s with dsq := { s.dsq with samples := s.dsq.samples ++ [{ x with issued := issuesOf t rest }] } }
  else s.samplePost x

/-- The thread that a sample request of a counter names (R686). -/
def State.sampleThread (s : State) (b i thread : Nat) : Nat :=
  let inst := s.get F.tbCtl_INSTANCE b i
  let ev := s.get F.tbCtl_EVENT b i
  if s.get F.tbCtl_BLOCK b i = 6 ∧ ev ≤ 3 then (if inst = 0xff then thread else inst)
  else s.get F.tbCfg_SMP_THREAD b

/-- Events of a counter in SAMPLE mode: each PERIOD-th one sends a request; `n` events of one thread (R685, R686), `rest` the events
after them. -/
def sampleEvents (b i thread : Nat) (rest : List Bump) : Nat → State → State
  | 0, s => s
  | f + 1, s =>
    let k := b * 8 + i
    let per := s.get F.tbCtl_PERIOD b i
    let c := tabGet 0 s.sup.perCnt k
    if per = 0 ∨ c < per then s
    else
      let s := { s with sup := { s.sup with perCnt := tabSet 0 s.sup.perCnt k (c - per) } }
      let t := s.sampleThread b i thread
      let s := if t < 128 ∧ s.thrPart t = s.get F.tbCfg_PART b then s.sampleReq b t rest else s.bump F.tbStat_SMP_SKIP 1 b
      sampleEvents b i thread rest f s

/-- Add n to the 48 bits of a counter; the state, and whether it carried out of bit 47 (R684, R687). -/
def State.tbAdd (s : State) (b i n : Nat) : State × Bool :=
  let old := s.get F.tbCnt_COUNT b i
  let s := s.put F.tbCnt_COUNT (old + n) b i
  let feeds := decide (i < 7) && s.tbOn b (i + 1) && s.getB F.tbCtl_CHAIN b (i + 1)
  let s := if !bitOf old 47 && bitOf (s.get F.tbCnt_COUNT b i) 47 && !feeds then
      (s.put F.tbStat_HALF (withBit (s.get F.tbStat_HALF b) i) b).msix (fnOfPart (s.get F.tbCfg_PART b))
        (s.get F.tbCfg_HALF_VEC b)
    else s
  (s, decide (2 ^ 48 ≤ old + n))

/-- One cycle of counter i of bank b; `carry` is that of the counter below. -/
def State.tbCount (s : State) (b i : Nat) (l : List Bump) (carry : Bool) : State × Bool :=
  if !s.tbOn b i then (s, false)
  else if s.getB F.tbCtl_CHAIN b i then s.tbAdd b i (if carry then 1 else 0)
  else
    let evs := s.tbEvents b i l
    let n := (evs.map (·.1)).sum
    let (s, c) := s.tbAdd b i n
    let k := b * 8 + i
    let s := if s.get F.tbCtl_MODE b i = 1 then
        { s with sup := { s.sup with winSum := tabSet 0 s.sup.winSum k (tabGet 0 s.sup.winSum k + n) } }
      else if s.get F.tbCtl_MODE b i = 2 then
        evs.foldl (fun s e =>
          sampleEvents b i e.2.1 e.2.2 e.1
            { s with sup := { s.sup with perCnt := tabSet 0 s.sup.perCnt k (tabGet 0 s.sup.perCnt k + e.1) } }) s
      else s
    (s, c)

/-- One cycle of a SUP bank. -/
def State.tbCycle (s : State) (b : Nat) (l : List Bump) : State :=
  ((List.range 8).foldl (fun (x : State × Bool) i => x.1.tbCount b i l x.2) (s, false)).1

/-- The SUP banks with a counter enabled: the control words that differ from reset. -/
def State.tbBanks (s : State) : List Nat :=
  (List.range 64).filter fun b => (List.range 8).any fun i => s.getB F.tbCtl_EN b i

/-! ### Counters of the other banks -/

/-- Saturate a 4-bit tally (R619). -/
def State.tally4 (s : State) (f : Field) (lo i : Nat) : State :=
  let w := s.rd f.reg i
  s.wr f.reg (setBits w (lo + 3) lo (min 15 (bitsOf w (lo + 3) lo + 1))) i

/-- One increment of the cycle reaches its counter (R413, R525, R619). -/
def State.applyBump (s : State) (x : Bump) : State :=
  match x with
  | .port p i n => s.applyCnt p i n
  | .svc a i n => s.wrap F.svcCnt_COUNT n a i
  | .node k which => s.tally4 F.nodeTally_MISS (8 - 4 * min which 2) k
  | .lane e which => s.tally4 F.hrlLtally_EAST (16 * e + 12 - 4 * min which 3) 0
  | .ev .. => s

/-- The increments of the cycle that every cycle brings: TSE_CYCLES, CORE_CYCLES, XC_HELD. -/
def State.cycleBumps (s : State) (core : Nat) : List Bump :=
  [.ev 0x00 0x01 0xff 0xff 1 0, .ev 0x00 0x02 0xff 0xff (min core 2) 0] ++
    (List.range 8).map fun p => .ev 0x07 0x03 0xff p (s.xcHeld p) 0

/-- The cycle ends: its increments are added (R682, R690). -/
def State.applyBumps (s : State) (core : Nat) : State :=
  let l := s.sup.bumps ++ s.cycleBumps core
  let s := { s with sup := { s.sup with bumps := [] } }
  let s := l.foldl (fun s x => s.applyBump x) s
  s.tbBanks.foldl (fun s b => s.tbCycle b l) s

/-- TALLY_WINDOW_END (R685): every window whose length divides GNB_RXC ends. -/
def State.windowEnd (s : State) (b i : Nat) : State :=
  let k := b * 8 + i
  if s.tbOn b i ∧ s.get F.tbCtl_MODE b i = 1 ∧ (s.rd .gnbRxc).toNat % 2 ^ s.get F.tbCtl_WIN_LOG b i = 0 then
    let sum := tabGet 0 s.sup.winSum k
    let s := { s with sup := { s.sup with winSum := tabSet 0 s.sup.winSum k 0 } }
    if s.get F.tbPeak_COUNT b i < sum then s.put F.tbPeak_COUNT (min sum (2 ^ 48 - 1)) b i else s
  else s

def execTallyWindowEnd (s : State) : Res :=
  .next (s.tbBanks.foldl (fun s b => (List.range 8).foldl (fun s i => s.windowEnd b i) s) s)

/-! ### Snapshots (R689–R692) -/

/-- Copy the counters of a bank to their shadows. -/
def State.bankCopy (s : State) (b : Nat) : State :=
  if b < 64 then (List.range 64).foldl (fun s i => s.wr .portShd (s.rd .portCnt b i) b i) s
  else if b < 72 then
    ((List.range 64).filter fun a => s.get F.svcCfg_PART a == b - 64).foldl (fun s a =>
      (List.range 6).foldl (fun s i =>
        { s with sup := { s.sup with svcShd := tabSet 0 s.sup.svcShd (a * 8 + i) (s.get F.svcCnt_COUNT a i) } }) s) s
  else if b = 72 then
    let t := tabSet 0 s.hrl.shadow 0 (s.rd .hrlLtally)
    s.setHrl { s.hrl with shadow := (List.range 16).foldl (fun t k => tabSet 0 t (k + 1) (s.rd .nodeTally k)) t }
  else (List.range 8).foldl (fun s i => s.wr .tbShd (s.rd .tbCnt (b - 128) i) (b - 128) i) s

/-- The banks that a scope includes for the arming partition p (R689, R690). -/
def State.snapBanks (s : State) (target p : Nat) : List Nat :=
  if target < 256 then (if s.bankPart target = some p then [target] else [])
  else if target = 0xffff then (List.range 256).filter fun b => s.bankPart b == some p
  else if p = 0 then (List.range 256).filter fun b => (s.bankPart b).isSome
  else []

/-- A TALLY_SNAP alarm fires: the shadows, the sequences of banks not copied in this cycle yet, and the record of the
partition, for the last such alarm of the cycle in slot order (R690). `done` are the banks already copied. -/
def State.tallySnap (s : State) (d : Due) (done : List Nat) : State :=
  let p := d.al.part
  let banks := (s.snapBanks d.al.target p).filter fun b => !done.contains b
  let s := banks.foldl (fun s b => (s.bankCopy b).wrap F.supBseq_SEQ 1 b) s
  let s := s.wrap F.supSnapCtl_SEQ 1 p
  if d.slot < tabGet 0 s.sup.snapSlot p then s else
  let s := { s with sup := { s.sup with snapSlot := tabSet 0 s.sup.snapSlot p (d.slot + 1) } }
  let s := s.putB F.supSnapCtl_S d.step p
  let s := (s.putB F.supSnapCtl_L d.al.lateArm p).put F.supSnapCtl_DOMAIN d.al.dom p
  let s := s.put F.supSnapCtl_SLOT d.slot p
  let v := timeVal 0 (Int.ofNat d.al.inst)
  ((s.wr .supSnapSec (BitVec.ofNat 64 (v / 2 ^ 48)) p).wr .supSnapSub (BitVec.ofNat 64 (v % 2 ^ 48)) p).wr .supSnapLate
    (BitVec.ofNat 64 d.lat) p

end Sys2Proof.Machine
end

