-- ==== Sys2Proof/Machine/Firm.lean ====
section
/-! DEFINITION. Firmware images, measurements, the owner record and its tokens, the firmware update, attestation, and the
commands of CP firmware (R713–R745, R528, R565). -/
namespace Sys2Proof.Machine

def State.setCpx (s : State) (x : Cpx) : State := { s with cpx := x }

/-! ### Firmware images (R714, R715) -/

/-- Bytes of the body. -/
def imgTotal (b : List Byte) : Nat := nn b 20 4

/-- Component i: type, offset, length, and its reserved bytes. -/
def imgComp (b : List Byte) (i : Nat) : Nat × Nat × Nat × Nat :=
  (nb b (32 + 16 * i), nn b (36 + 16 * i) 4, nn b (40 + 16 * i) 4, nn b (33 + 16 * i) 3 + nn b (44 + 16 * i) 4)

/-- The bytes of the component of a type. -/
def imgPart (b : List Byte) (type : Nat) : List Byte :=
  match [0, 1, 2, 3].find? fun i => (imgComp b i).1 == type with
  | some i => (b.drop (512 + (imgComp b i).2.1)).take (imgComp b i).2.2.1
  | none => []

/-- The header is readable. -/
def imgPresent (b : List Byte) : Bool := decide (512 ≤ b.length) && nn b 0 4 == 0x54444e46

/-- Step 1 of R715. -/
def imgForm (b : List Byte) : Bool :=
  let t := imgTotal b
  let comps := [0, 1, 2, 3].map (imgComp b)
  imgPresent b && nn b 4 2 == 1 && nn b 6 2 == 512 && decide (nn b 14 2 ≤ nn b 12 2) && decide (nb b 17 < 2) && nn b 18 2 == 0 &&
    t % 256 == 0 && decide (512 + t + 192 ≤ 16777216) && decide (512 + t + 192 ≤ b.length) &&
    ((b.drop 160).take 352).all (· == 0#8) &&
    comps.all (fun c => decide (c.1 ≤ 3) && c.2.2.2 == 0 && (c.1 == 0 || decide (c.2.1 + c.2.2.1 ≤ t))) &&
    (comps.filter (·.1 == 1)).length == 1 && (comps.filter (·.1 == 2)).length == 1

/-- The first 8 bytes of the SHA-384 of a public key in uncompressed form. -/
def keyId (key : Nat) : Nat := (Config.sha384 (byte 4 :: beBytes 96 key)).toNat / 2 ^ 320

/-- MIN_SVN: what is fused. -/
def State.minSvn (s : State) : Nat := max (Config.fuseMinSvn % 256) s.cpx.svnBurnt

/-- An image verifies (R715). -/
def State.imgVerifies (s : State) (b : List Byte) : Bool :=
  let t := imgTotal b
  let h := Config.sha384 (b.take 512)
  let o := s.cpx.owner
  imgForm b &&
    (match Config.vendorKey (nn b 144 8) with
      | some k => Config.ecdsaVerify k h (nn b (512 + t) 96)
      | none => false) &&
    (if nn b 152 8 = 0 then !o.csig
     else o.key != 0 && nn b 152 8 == keyId o.key && Config.ecdsaVerify o.key h (nn b (512 + t + 96) 96)) &&
    decide (s.minSvn ≤ nb b 16) && nn b 96 48 == (Config.sha384 ((b.drop 512).take t)).toNat

/-- The bytes of slot k: 0 A, 1 B. -/
def State.slotImg (s : State) (k : Nat) : List Byte := if k = 0 then s.cpx.flash.slotA else s.cpx.flash.slotB

def State.setSlotImg (s : State) (k : Nat) (b : List Byte) : State :=
  let f := s.cpx.flash
  s.setCpx { s.cpx with flash := if k = 0 then { f with slotA := b } else { f with slotB := b } }

/-- CPX_IMGk after a check with outcome `ok`. -/
def State.showImg (s : State) (k : Nat) (ok : Bool) : State :=
  let b := s.slotImg k
  if !imgPresent b then s.wr .cpxImg 0 k
  else
    let s := (s.put F.cpxImg_VERSION (nn b 8 4) k).put F.cpxImg_SFMT (nn b 12 2) k
    let s := (s.put F.cpxImg_SVN (nb b 16) k).putB F.cpxImg_CSIG (nn b 152 8 != 0) k
    (s.putB F.cpxImg_VERIFIED ok k).putB F.cpxImg_PRESENT true k

/-! ### The boot control block (R716, R717) -/

/-- The copy in force, and the position that the next write takes. -/
def bcbNow (f : Flash) : Bcb × Nat :=
  let none' : Bcb := { seq := 0, active := 0, pending := none, fallback := false, confirmed := false, triesA := 0, triesB := 0 }
  match f.bcb0, f.bcb1 with
  | none, none => (none', 0)
  | some a, none => (a, 1)
  | none, some b => (b, 0)
  | some a, some b => if laterSerial 32 b.seq a.seq then (b, 0) else (a, 1)

def State.bcb (s : State) : Bcb := (bcbNow s.cpx.flash).1

/-- Write a new copy over the older one. -/
def State.putBcb (s : State) (b : Bcb) : State :=
  let f := s.cpx.flash
  let b := some { b with seq := (s.bcb.seq + 1) % 2 ^ 32 }
  s.setCpx { s.cpx with flash := if (bcbNow f).2 = 0 then { f with bcb0 := b } else { f with bcb1 := b } }

def tries (b : Bcb) (k : Nat) : Nat := if k = 0 then b.triesA else b.triesB
def withTries (b : Bcb) (k n : Nat) : Bcb := if k = 0 then { b with triesA := n } else { b with triesB := n }

/-- The running slot. -/
def State.running (s : State) : Nat := s.get F.cpxBoot_SLOT

/-- CPX_BOOT as the block in force has it. -/
def State.showBoot (s : State) : State :=
  let b := s.bcb
  let k := s.running
  let s := (s.put F.cpxBoot_TRIES_A b.triesA).put F.cpxBoot_TRIES_B b.triesB
  let s := (s.putB F.cpxBoot_CONFIRMED (b.active == k && b.confirmed)).putB F.cpxBoot_FALLBACK b.fallback
  ((s.putB F.cpxBoot_PENDING (b.pending == some k)).putB F.cpxBoot_CHAIN_STALE s.chainStale).refresh 3

/-! ### Measurements (R722–R724) -/

/-- Extend MREGi by a measurement; the log's label is the firmware's own (open). -/
def State.extend (s : State) (i : Nat) (m : BitVec 384) : State :=
  let v := (Config.sha384 (s.mreg i ++ beBytes 48 m.toNat)).toNat
  let label := s.draw.1 % 2 ^ 128
  let s := (List.range 6).foldl (fun s k => s.wr .cpxMreg (BitVec.ofNat 64 (v / 2 ^ (64 * (5 - k)))) i k) s.draw.2
  s.setCpx { s.cpx with mlog := s.cpx.mlog ++ [{ mreg := i, meas := m, label := label }] }

/-- The measurement of the identity key: DEVICE, ROOT_EPOCH, public key. -/
def State.idMeas (s : State) : BitVec 384 := Config.sha384 (deviceId ++ beBytes 4 s.kvc.epoch ++ s.idPub)

/-! ### The owner record and tokens (R730, R731) -/

/-- CPX_OWNER and KVC_STAT.OWNER_LOCK follow the record. -/
def State.showOwner (s : State) : State :=
  let o := s.cpx.owner
  let s := (s.put F.cpxOwner_OWNER_SEQ o.seq).put F.cpxOwner_MIN_SVN s.minSvn
  let s := (s.putB F.cpxOwner_CSIG_REQ o.csig).putB F.cpxOwner_OWNER_LOCK o.lock
  ((s.putB F.cpxOwner_PT0_KEY (o.pt0Key != 0)).putB F.cpxOwner_OWNER_SET o.set).putB F.kvcStat_OWNER_LOCK o.lock

def State.setOwner (s : State) (o : Owner) : State := (s.setCpx { s.cpx with owner := o }).showOwner

/-- ARG of a token. -/
def tokenArg (t : List Byte) : Nat := nn t 32 96

/-- CP firmware accepts a token of a type under a signer's key (R731). -/
def State.tokenOk (s : State) (t : List Byte) (type key : Nat) : Bool :=
  t.length == 224 && nn t 0 4 == 0x54444e54 && nb t 4 == type && nn t 8 8 == Config.fuseNodeId % 2 ^ 64 &&
    nn t 16 8 == (s.rd .kvcNonce).toNat && nn t 24 4 == s.cpx.owner.seq + 1 && key != 0 &&
    Config.ecdsaVerify key (Config.sha384 (t.take 128)) (nn t 128 96)

/-- The owner record after a token has been accepted. -/
def taken (o : Owner) : Owner := { o with seq := o.seq + 1 }

/-- A new KVC_NONCE (R565). -/
def State.newNonce (s : State) : State :=
  let (v, s) := s.rng 8
  s.wr .kvcNonce (BitVec.ofNat 64 v)

def execOwnerClaim (c : Caller) (token : List Byte) (s : State) : Res :=
  let o := s.cpx.owner
  .next (s.runCmd c 0xbc
    [notOwner s c, (!s.tokenOk token 1 (if o.set then o.key else tokenArg token), .verifyFail)]
    (s.setOwner { taken o with set := true, key := tokenArg token }))

/-- OWNER_LOCK: `act` 0 off with a token of TYPE 2, 1 on, 2 CSIG_SET with a token of TYPE 5. -/
def execOwnerLock (c : Caller) (act : Nat) (token : List Byte) (s : State) : Res :=
  let o := s.cpx.owner
  .next (s.runCmd c 0xbd
    [notOwner s c, (decide (2 < act), .badArg), (act == 0 && !s.tokenOk token 2 o.key, .verifyFail),
     (act == 2 && !s.tokenOk token 5 o.key, .verifyFail), (act == 2 && decide (1 < nb token 32), .badArg)]
    (s.setOwner (if act = 1 then { o with lock := true } else if act = 0 then { taken o with lock := false }
                 else { taken o with csig := nb token 32 == 1 })))

/-- CERT_INSTALL (R744). -/
def execCertInstall (c : Caller) (chain : List Byte) (s : State) : Res :=
  .next (s.runCmd c 0xbe
    [notOwner s c, (decide (2048 < chain.length), .badArg),
     (s.kvc.derived == .none || BitVec.ofNat 768 (Config.certKey chain) != Config.ecdsaPub 48 s.idk || !Config.certsOk chain,
      .verifyFail)]
    (s.setSettings { s.settings with chain := chain }).showBoot)

/-- The image key registered for a partition (R343); zero where none is. -/
def State.imgKey (s : State) (p : Nat) : Nat :=
  if p = 0 then s.cpx.owner.pt0Key else ((s.settings.imgKeys.find? (·.1 == p)).map (·.2)).getD 0

/-- IMG_KEY_SET: for PT0 the key comes in a token of TYPE 3. -/
def execImgKeySet (c : Caller) (part key : Nat) (token : List Byte) (s : State) : Res :=
  let o := s.cpx.owner
  .next (s.runCmd c 0xbf
    [notOwner s c, (decide (8 ≤ part) || decide (2 ^ 768 ≤ key), .badArg), (o.lock, .refusedOwner),
     (s.dsq.images.any (·.part == part), .busy), (part == 0 && !s.tokenOk token 3 o.key, .verifyFail)]
    (if part = 0 then s.setOwner { taken o with pt0Key := tokenArg token }
     else s.setSettings { s.settings with imgKeys := s.settings.imgKeys.filter (·.1 != part) ++ [(part, key)] }))

/-- VAULT_PROVISION does this once it is accepted (R528). -/
def State.provision (s : State) : State :=
  let (root, s) := s.rng 32
  let s := s.setKvc { s.kvc with root := root, epoch := (s.kvc.epoch + 1) % 2 ^ 32, crcOk := true, derived := .idk }
  let s := (s.putB F.kvcStat_PROV_PEND true).putB F.kvcStat_ZEROISED false
  let s := s.wr .kvcTamperCause (setBits (s.rd .kvcTamperCause) 8 0 0)
  let s := s.newNonce.setOwner (taken s.cpx.owner)
  (s.extend 14 s.idMeas).putB F.cpxBoot_CHAIN_STALE s.chainStale

/-- VAULT_PROVISION (0x8a), its refusals in the order of R565. -/
def execVaultProvision (c : Caller) (token : List Byte) (s : State) : Res :=
  let o := s.cpx.owner
  .next (s.runCmd c 0x8a
    [notOwner s c, (s.kvc.tripped != 0 || !s.rngOk, .busy), (s.kvc.vbatLow, .refusedBattery),
     (!s.tokenOk token 4 (if o.set then o.key else Config.provKey), .verifyFail)]
    s.provision s.provision.idPub)

/-! ### Settings copies (R727–R729) -/

/-- The position of the copy that an image of format `sfmt` uses. -/
def copyFor (f : Flash) (sfmt : Nat) : Option Nat :=
  let ok (c : Option SetCopy) : Bool := match c with | some c => c.sfmt == sfmt | none => false
  match ok f.set0, ok f.set1 with
  | true, true =>
    (match f.set0, f.set1 with
      | some a, some b => if laterSerial 32 b.seq a.seq then some 1 else some 0
      | _, _ => some 0)
  | true, false => some 0
  | false, true => some 1
  | false, false => none

/-- The position of the copy that the loader migrates for an image of formats `from'` to `sfmt`. Two valid copies of the same
format: the one of later SEQ, as R727 has it for copies in use (DEDUCED, log entry 82). -/
def copyToMigrate (f : Flash) (from' sfmt : Nat) : Option Nat :=
  let fit (c : Option SetCopy) : Nat := match c with
    | some c => if from' ≤ c.sfmt ∧ c.sfmt < sfmt then c.sfmt + 1 else 0
    | none => 0
  if fit f.set0 = 0 ∧ fit f.set1 = 0 then none else if fit f.set0 < fit f.set1 then some 1
  else if fit f.set1 < fit f.set0 then some 0
  else match f.set0, f.set1 with
    | some a, some b => if laterSerial 32 b.seq a.seq then some 1 else some 0
    | _, _ => some 0

/-- A usable settings copy exists for an image (R735). -/
def State.settingsFor (s : State) (b : List Byte) : Bool :=
  (copyFor s.cpx.flash (nn b 12 2)).isSome || (copyToMigrate s.cpx.flash (nn b 14 2) (nn b 12 2)).isSome

/-- The copy that is not in use becomes FREE (R729). -/
def State.freeOther (s : State) : State :=
  let free (c : Option SetCopy) : Option SetCopy := c.map fun c => { c with state := 0 }
  let f := s.cpx.flash
  let f := if s.cpx.setPos = 0 then f else { f with set0 := free f.set0 }
  s.setCpx { s.cpx with flash := if s.cpx.setPos = 1 then f else { f with set1 := free f.set1 } }

/-! ### Firmware update (R732–R737) -/

/-- The node is GM-A in TRACK or HOLDOVER with a healthy GM-B in STANDBY (R732). -/
def State.mustHandOver (s : State) : Bool :=
  let b := s.get F.hrlStat_GMB
  s.isMember && s.hRole == roleA && (s.mode == .track || s.mode == .holdover) && b != noIdx &&
    s.get F.nodeStat_MODE b == 8 && s.getB F.nodeStat_OK b

/-- A command of the update, with the refusals of R732 in their order. -/
def State.runFw (s : State) (c : Caller) (op : Nat) (checks : List (Bool × Status)) (eff : State) : State :=
  let o := [(s.cpx.owner.lock, Status.refusedOwner), (s.kvc.vbatLow, Status.refusedBattery)]
  if s.served && s.legal op && (firstFail o).isNone && s.mustHandOver then
    (s.logRefused c op (s.cCmdId c)).complete c op .refusedMode
  else s.runCmd c op (o ++ [notOwner s c] ++ checks) eff

def State.other (s : State) : Nat := 1 - s.running

def execFwBegin (c : Caller) (len : Nat) (s : State) : Res :=
  .next (s.runFw c 0xb4
    [(s.getB F.cpxBoot_PENDING || s.getB F.cpxBoot_FALLBACK, .busy), (decide (16777216 < len), .badArg)]
    (let s := (s.setSlotImg s.other []).putBcb (withTries s.bcb s.other 0)
     let s := (s.showImg s.other false).showBoot
     ((s.put F.cpxUpd_WRITTEN 0).put F.cpxUpd_STATE 1).setCpx { s.cpx with updLen := len }))

/-- FW_WRITE is INDIRECT (R734): a host's entry that carries its payload inline is refused. -/
def State.inlineEntry (s : State) : Caller → Bool
  | .host f r => (s.started f r).any fun st => !st.indirect
  | _ => false

def execFwWrite (c : Caller) (offset : Nat) (data : List Byte) (s : State) : Res :=
  .next (s.runFw c 0xb5
    [(s.inlineEntry c || s.get F.cpxUpd_STATE != 1 || offset != s.get F.cpxUpd_WRITTEN || decide (4194304 < data.length) ||
        decide (s.cpx.updLen < offset + data.length), .badArg)]
    ((s.setSlotImg s.other (s.slotImg s.other ++ data)).put F.cpxUpd_WRITTEN (offset + data.length)))

/-- FW_VERIFY (R735). A failed check leaves the state as it was (R17; log entry 34). -/
def execFwVerify (c : Caller) (s : State) : Res :=
  let b := s.slotImg s.other
  let open' := s.get F.cpxUpd_STATE == 1 || s.get F.cpxUpd_STATE == 2
  .next (s.runFw c 0xb6
    [(!open', .badArg), (!s.imgVerifies b, .verifyFail), (!s.settingsFor b, .badArg)]
    ((s.put F.cpxUpd_STATE 2).showImg s.other true))

def execFwActivate (c : Caller) (s : State) : Res :=
  .next (s.runFw c 0xb7 [(s.get F.cpxUpd_STATE != 2, .badArg)]
    (let s := s.putBcb { s.bcb with pending := some s.other }
     (s.showBoot.put F.cpxUpd_STATE 3).setCpx { s.cpx with warmPend := some 3 }))

/-- The running slot is confirmed (R737). -/
def State.confirm (s : State) : State :=
  let k := s.running
  let b := s.slotImg k
  let s := s.putBcb { withTries s.bcb k 0 with active := k, pending := none, confirmed := true, fallback := false }
  let s := if bitOf (nb b 17) 0 then s.setCpx { s.cpx with svnBurnt := max s.cpx.svnBurnt (nb b 16) } else s
  s.freeOther.showBoot.showOwner

/-- There is something to confirm. -/
def State.unconfirmed (s : State) : Bool := s.getB F.cpxBoot_PENDING || s.getB F.cpxBoot_FALLBACK

def execFwConfirm (c : Caller) (force : Bool) (s : State) : Res :=
  .next (if s.served && s.legal 0xb8 && s.cOwner c && s.unconfirmed && !force && !s.cpx.proved then
      (s.logRefused c 0xb8 (s.cCmdId c)).complete c 0xb8 .refusedMode
    else s.runCmd c 0xb8 [notOwner s c, (!s.unconfirmed, .badArg)] s.confirm)

/-! ### Attestation (R740, R742, R744) -/

/-- ATTEST_QUOTE: target 0, or k + 1 for roster index k. -/
def execAttestQuote (c : Caller) (nonce : List Byte) (target : Nat) (s : State) : Res :=
  let k := target - 1
  let far := target != 0 && k != s.hIndex
  let bad := nonce.length != 32 || (target != 0 && (decide (16 < target) || !s.isMember || !s.getB F.nodeStat_VALID k))
  .next (
    if far then
      s.runDeferred c 0xb9 [(bad, .badArg), (decide (64 ≤ s.hrl.own.length) || s.cpx.quotes.any (·.2.1 == k), .busy)]
        ((s.queueOwn (cpWord 0 k 0 0 ++ nonce)).setCpx { s.cpx with quotes := s.cpx.quotes ++ [(c, k, [], s.tse.cyc)] })
    else
      s.runCmd c 0xb9 [(bad, .badArg), (s.quoteBusy, .busy), (!s.keysHeld || !s.rngOk, .timeout)] (s.quote nonce false).2
        (s.quote nonce false).1)

/-- ATTEST_HINGE_TIMEOUT: the oldest quote asked for over the ring has waited 50 ms; before that the row changes nothing. -/
def execAttestHingeTimeout (s : State) : Res :=
  .next (match s.cpx.quotes with
    | [] => s
    | q :: l => if s.tse.cyc < q.2.2.2 + 62500000 then s else (s.setCpx { s.cpx with quotes := l }).complete q.1 0xb9 .timeout)

/-- ATTEST_LOG: the extensions in order, each as MREG, measurement, label (log entry 35). -/
def execAttestLog (c : Caller) (s : State) : Res :=
  .next (s.runCmd c 0xba [] s (s.cpx.mlog.flatMap fun e => byte e.mreg :: beBytes 48 e.meas.toNat ++ beBytes 16 e.label))

def execMregExtend (c : Caller) (data : List Byte) (s : State) : Res :=
  .next (s.runCmd c 0xbb [notOwner s c, (data.length != 48, .badArg)] (s.extend 15 (BitVec.ofNat 384 (beNat data))))

/-! ### Modes and reset by command (R705, R706, R743) -/

/-- A command that may change the mode is noted as its cause (R710). -/
def State.cmdCause (s : State) (op : Nat) : State := s.setCpx { s.cpx with cmdCause := 0x0400 + op }

/-- DEV_RESET: OK, then the warm reset. -/
def execDevReset (c : Caller) (s : State) : Res :=
  .next (s.runCmd c 0xb0 [notOwner s c] (s.setCpx { s.cpx with warmPend := some 2 }))

def execServiceEnter (c : Caller) (s : State) : Res :=
  .next (s.runCmd c 0xb1 [notOwner s c] ((s.cmdCause 0xb1).setCpx { (s.cmdCause 0xb1).cpx with service := true }))

def execServiceExit (c : Caller) (s : State) : Res :=
  .next (s.runCmd c 0xb2 [notOwner s c]
    ((s.cmdCause 0xb2).setCpx { (s.cmdCause 0xb2).cpx with service := false }).rshServiceExit)

def execSafeExit (c : Caller) (s : State) : Res :=
  .next (s.runCmd c 0xb3 [notOwner s c, (s.safeHold || s.getB F.supCtl_COLL_PAR || s.getB F.supAon_ESCALATED, .busy)]
    ((s.cmdCause 0xb3).setCpx { (s.cmdCause 0xb3).cpx with safe := false, safeCause := 0 }))

end Sys2Proof.Machine
end

