-- ==== Sys2Proof/Machine/Images.lean ====
section
/-! DEFINITION. Dravik images: their format and checks, the memories of DSQ that they are written to, DRV_LOAD and DRV_UNLOAD
(R341–R347). -/
namespace Sys2Proof.Machine

/-! ### DSQ SRAM -/

/-- First byte and size of partition p's instruction region, within instruction SRAM. -/
def State.iwin (s : State) (p : Nat) : Nat × Nat := (4096 * s.get F.dsqIwin_BASE p, 4096 * s.get F.dsqIwin_SIZE p)

/-- First byte and size of partition p's data region, as bus addresses. -/
def State.dwin (s : State) (p : Nat) : Nat × Nat :=
  (0x2400000 + 4096 * s.get F.dsqDwin_BASE p, 4096 * s.get F.dsqDwin_SIZE p)

/-- The 32-bit instruction word at a byte offset of instruction SRAM. -/
def State.iword (s : State) (off : Nat) : Nat := tabGet 0 s.dsq.isram (off / 4)

/-- The 64-bit word of data SRAM at a bus address. -/
def State.dword (s : State) (addr : Nat) : Word := tabGet 0 s.dsq.dsram ((addr - 0x2400000) / 8)

def State.setDword (s : State) (addr : Nat) (w : Word) : State :=
  let k := (addr - 0x2400000) / 8
  { s with dsq := { s.dsq with dsram := tabSet 0 s.dsq.dsram k w, decc := tabSet 0 s.dsq.decc k 0 } }

/-- The ECC error that stands in the 64-bit word at a bus address: 0 none, 1 confined to check bits, 2 uncorrectable (R340). -/
def State.dataEcc (s : State) (addr : Nat) : Nat := tabGet 0 s.dsq.decc ((addr - 0x2400000) / 8)

/-- The ECC errors of the words of an instruction of `size` bytes at offset `off` of instruction SRAM, the worse of two. -/
def State.codeEcc (s : State) (off size : Nat) : Nat :=
  let e (o : Nat) : Nat := tabGet 0 s.dsq.iecc (o / 4)
  if size = 8 then max (e off) (e (off + 4)) else e off

/-- A byte of data SRAM: a 64-bit location holds its bytes big-endian (R345). -/
def State.dbyte (s : State) (addr : Nat) : Byte :=
  BitVec.ofNat 8 ((s.dword addr).toNat / 2 ^ (8 * (7 - addr % 8)))

/-- n bytes of data SRAM from an address upwards. -/
def State.dbytes (s : State) (addr n : Nat) : List Byte := (List.range n).map fun i => s.dbyte (addr + i)

/-- Write bytes into data SRAM from an address upwards. -/
def State.setDbytes (s : State) : Nat → List Byte → State
  | _, [] => s
  | a, b :: l =>
    let k := 8 * (7 - a % 8)
    let w := (s.dword a).toNat
    let w := w - w / 2 ^ k % 256 * 2 ^ k + b.toNat * 2 ^ k
    (s.setDword a (BitVec.ofNat 64 w)).setDbytes (a + 1) l

/-- The range [a, a + n) lies within a region. -/
def within (a n : Nat) (r : Nat × Nat) : Bool := decide (r.1 ≤ a) && decide (a + n ≤ r.1 + r.2)

/-! ### The image header (R342) -/

def drvPart (b : List Byte) : Nat := nb b 12
def drvCodeLen (b : List Byte) : Nat := nn b 20 4
def drvDataLen (b : List Byte) : Nat := nn b 24 4
def drvBssLen (b : List Byte) : Nat := nn b 28 4
def drvCodeBase (b : List Byte) : Nat := nn b 32 4
def drvDataBase (b : List Byte) : Nat := nn b 36 4

/-- PRIV. -/
def drvPriv (b : List Byte) : Bool := nn b 8 4 % 2 == 1

/-- Entry k: offset, thread, flags, reserved. -/
def drvEntry (b : List Byte) (k : Nat) : Nat × Nat × Nat × Nat :=
  (nn b (40 + 8 * k) 4, nb b (44 + 8 * k), nb b (45 + 8 * k), nn b (46 + 8 * k) 2)

/-- Code and data. -/
def drvBody (b : List Byte) : List Byte := (b.drop 256).take (drvCodeLen b + drvDataLen b)

/-- An entry that step 1 accepts: unused, or an offset within the code for a thread that exists. -/
def drvEntryOk (b : List Byte) (k : Nat) : Bool :=
  let e := drvEntry b k
  e.1 == 0xffffffff ||
    (decide (e.1 < drvCodeLen b) && e.1 % 4 == 0 && (decide (e.2.1 < 128) || e.2.1 == 255) && decide (e.2.2.1 < 2) && e.2.2.2 == 0)

/-- Step 1 of R344. -/
def drvForm (b : List Byte) : Bool :=
  decide (256 ≤ b.length) && nn b 0 4 == 0x4452564b && nn b 4 2 == 1 && nn b 6 2 == 256 && decide (nn b 8 4 < 2) &&
    decide (drvPart b < 8) && nn b 13 3 == 0 && drvCodeLen b % 4 == 0 && decide (4 ≤ drvCodeLen b) && drvDataLen b % 8 == 0 &&
    drvBssLen b % 8 == 0 && drvCodeBase b % 4 == 0 && drvDataBase b % 8 == 0 && nn b 224 32 == 0 &&
    b.length == 352 + drvCodeLen b + drvDataLen b && (List.range 16).all (drvEntryOk b)

/-- Step 6 of R344. -/
def State.drvFits (s : State) (b : List Byte) : Bool :=
  let p := drvPart b
  decide (drvCodeBase b + drvCodeLen b ≤ (s.iwin p).2) &&
    (drvDataLen b + drvBssLen b == 0 || within (drvDataBase b) (drvDataLen b + drvBssLen b) (s.dwin p))

/-- The code of two images of one partition overlaps. -/
def codeMeets (i : Image) (part base len : Nat) : Bool := i.part == part && regionsMeet i.codeBase i.codeLen base len

/-- An offset of the region lies in an image's code. -/
def Image.holds (i : Image) (off : Nat) : Bool := decide (i.codeBase ≤ off) && decide (off < i.codeBase + i.codeLen)

/-- The offset of the instruction that a thread is at: the one that waits, or the next. -/
def State.atPc (s : State) (t : Nat) : Nat :=
  let st := s.thrState t
  if st = thAlarm ∨ st = thQueue ∨ st = thReply then (s.thr t).at' else s.get F.thrStat_PC t

/-- A thread of the image is started: one of the image's partition that was started in it, or that is at an instruction of it. -/
def State.imageBusy (s : State) (i : Image) : Bool :=
  (List.range 128).any fun t => s.isStarted t && s.thrPart t == i.part &&
    (i.holds (s.atPc t) || ((s.thr t).home.map i.holds).getD false)

/-- The checks of R344 from step 3 onwards. -/
def State.drvChecks (s : State) (b : List Byte) : List (Bool × Status) :=
  let p := drvPart b
  let key := s.imgKey p
  [(key == 0 || nn b 216 8 != keyId key, .verifyFail),
   (!Config.ecdsaVerify key (Config.sha384 (b.take 256)) (nn b (256 + drvCodeLen b + drvDataLen b) 96), .verifyFail),
   (nn b 168 48 != (Config.sha384 (drvBody b)).toNat, .verifyFail),
   (!s.drvFits b, .badArg),
   (s.dsq.images.any fun i => codeMeets i p (drvCodeBase b) (drvCodeLen b) && s.imageBusy i, .busy)]

/-- What a header gives of a loaded image. -/
def drvImage (b : List Byte) (boot : Bool) : Image :=
  { part := drvPart b, priv := drvPriv b, codeBase := drvCodeBase b, codeLen := drvCodeLen b, dataBase := drvDataBase b,
    dataLen := drvDataLen b + drvBssLen b, version := nn b 16 4, boot := boot,
    entries := ((List.range 16).map fun k => ((drvEntry b k).1, (drvEntry b k).2.1, (drvEntry b k).2.2.1 == 1)) }

/-- Write 32-bit code words into instruction SRAM from a word index upwards. -/
def putCode : Nat → Nat → List Byte → Tab Nat → Tab Nat
  | 0, _, _, t => t
  | f + 1, k, l, t => putCode f (k + 1) (l.drop 4) (tabSet 0 t k (beNat (l.take 4)))

/-- Write 64-bit words into data SRAM from a word index upwards; zeros once the bytes have ended. -/
def putData : Nat → Nat → List Byte → Tab Word → Tab Word
  | 0, _, _, t => t
  | f + 1, k, l, t => putData f (k + 1) (l.drop 8) (tabSet 0 t k (BitVec.ofNat 64 (beNat (l.take 8))))

/-- The image is installed (R345). -/
def State.drvInstall (s : State) (b : List Byte) (boot : Bool) : State :=
  let i := drvImage b boot
  let code := putCode (i.codeLen / 4) (((s.iwin i.part).1 + i.codeBase) / 4) ((b.drop 256).take i.codeLen) s.dsq.isram
  let data := putData (i.dataLen / 8) ((i.dataBase - 0x2400000) / 8) ((b.drop (256 + i.codeLen)).take (drvDataLen b)) s.dsq.dsram
  let keep := s.dsq.images.filter fun x => !codeMeets x i.part i.codeBase i.codeLen
  let c := ((s.iwin i.part).1 + i.codeBase) / 4
  let d := (i.dataBase - 0x2400000) / 8
  let clean (from' n : Nat) (e : Nat × Nat) : Bool := decide (e.1 < from') || decide (from' + n ≤ e.1)
  { s with dsq := { s.dsq with isram := code, dsram := data, images := keep ++ [i],
                               iecc := s.dsq.iecc.filter (clean c (i.codeLen / 4)),
                               decc := s.dsq.decc.filter (clean d (i.dataLen / 8)) } }

/-- The two extensions of MREG(6 + p) (R723). -/
def State.drvMeasure (s : State) (b : List Byte) : State :=
  (s.extend (6 + drvPart b) (BitVec.ofNat 384 (nn b 168 48))).extend (6 + drvPart b) (Config.sha384 (b.take 256))

/-- DRV_LOAD (0x60). -/
def execDrvLoad (c : Caller) (image : List Byte) (s : State) : Res :=
  .next (s.runCmd c 0x60
    ([(!drvForm image, .badArg),
      (!s.cPt0 c && s.cPart c != drvPart image, .partitionDenied), (drvPriv image && drvPart image != 0, .partitionDenied),
      (s.resetting (drvPart image), .busy)] ++ s.drvChecks image)
    (((s.drvMeasure image).drvInstall image false).autostart (drvImage image false)))

/-- DRV_UNLOAD (0x61). -/
def execDrvUnload (c : Caller) (part codeBase : Nat) (s : State) : Res :=
  let i? := s.dsq.images.find? fun i => i.part == part && i.codeBase == codeBase
  .next (s.runCmd c 0x61
    [(decide (7 < part), .badArg), (!s.cPt0 c && s.cPart c != part, .partitionDenied), (s.resetting part, .busy),
     (i?.isNone, .badArg), ((i?.map s.imageBusy).getD false, .busy)]
    { s with dsq := { s.dsq with images := s.dsq.images.filter fun i => !(i.part == part && i.codeBase == codeBase) } })

end Sys2Proof.Machine
end

