-- ==== Sys2Proof/Machine/Partition.lean ====
section
/-! DEFINITION. Partition reset, Function Level Reset and the enabling of partitions (R45, R100, R372, R479, R625, R633–R636,
R648). -/
namespace Sys2Proof.Machine

def State.setPar (s : State) (x : Par) : State := { s with par := x }

/-- The threads of a partition. -/
def State.threadsOf (s : State) (p : Nat) : List Nat := (List.range 128).filter fun t => s.thrPart t == p

/-- The rings that function f has commands executing on. -/
def State.startedOf (s : State) (f : Nat) : List Nat := (List.range 4).filter fun r => (s.started f r).isSome

/-- The partition has exchanges that have reached STAMP, or started commands (R634). -/
def State.drains (s : State) (p : Nat) : Bool := decide (s.xcHeld p ≠ 0) || s.startedOf (fnOfPart p) != []

/-- The service addresses of a partition that are enabled. -/
def State.svcsOf (s : State) (p : Nat) : List Nat :=
  (List.range 64).filter fun a => s.getB F.svcCfg_EN a && s.svcPart a == p

/-! ### A function's rings, history and MSI-X state -/

/-- A ring returns to its reset values; the completion of a command that it executes will be discarded (R633). -/
def State.ringZero (s : State) (f r : Nat) : State :=
  let s := ((s.wr .ringSqBase 0 f r).wr .ringCqBase 0 f r).wr .ringCfg 0 f r
  let s := (s.wr .ringSqIdx 0 f r).wr .ringCqIdx 0 f r
  match s.started f r with
  | some x => s.setStarted f r (some { x with dead := true })
  | none => s

/-- The history of a function is cleared. -/
def State.histZero (s : State) (f : Nat) : State := s.setPar { s.par with hist := tabSet [] s.par.hist f [] }

/-- MSI-X state of a function at its reset values. -/
def State.msixZero (s : State) (f : Nat) : State :=
  s.setPar { s.par with msix := s.par.msix.filter fun e => e.1 / 2048 != f, msixCtl := tabSet {} s.par.msixCtl f {} }

/-- The pending bits of a function are cleared (R634). -/
def State.msixUnpend (s : State) (f : Nat) : State :=
  let off (e : Nat × MsixEntry) : Nat × MsixEntry := if e.1 / 2048 = f then (e.1, { e.2 with pend := false }) else e
  s.setPar { s.par with msix := (s.par.msix.map off).filter fun e => decide (e.2 ≠ {}) }

/-- Rings, history and MSI-X state of a function (R633, R699). -/
def State.hostZero (s : State) (f : Nat) : State :=
  (((List.range 4).foldl (fun s r => s.ringZero f r) s).histZero f).msixZero f

/-- A ring that a partition reset disables (R634). -/
def State.ringOff (s : State) (f r : Nat) : State := (s.putB F.ringCfg_EN false f r).putB F.ringCfg_HALT false f r

/-! ### Partition reset (R634) -/

/-- The reset of partition p begins: fetching and admission stop, the threads become IDLE. -/
def State.resetStart (s : State) (p : Nat) (job : RstJob) : State :=
  let f := fnOfPart p
  let s := (s.put F.parStat_RESETTING (withBit (s.get F.parStat_RESETTING) p)).put F.parStat_ENABLED
    (withoutBit (s.get F.parStat_ENABLED) p)
  let s := s.setPar { s.par with jobs := tabSet none s.par.jobs p (some job) }
  let s := (List.range 4).foldl (fun s r => s.putB F.ringCfg_HALT true f r) s
  let mine (w : KeyWait) : Bool := match w.op with | .kmac t _ _ => s.thrPart t == p | .sign _ _ => false
  let s := s.keyOps mine fun s w => s.unpin w.slot w.gen
  let s := (s.threadsOf p).foldl (fun s t => s.idleThr t) s
  let s := s.threadFault 0xff
  s.xcEnd fun a => s.svcPart a == p

/-- An escrow is freed; its commit is cancelled and its slot freed (R100, R373). -/
def State.escFree (s : State) (k : Nat) : State :=
  let commits (d : Due) : Bool := d.al.kind == AlarmKind.escrowCommit && d.al.target == k
  let s := { s with dsq := { s.dsq with staged := tabSet [] s.dsq.staged k [] },
                    tse := { s.tse with imm := s.tse.imm.filter (· != k), due := s.tse.due.filter fun d => !commits d } }
  (if s.get F.escStat_STATE k = 2 then s.cancelSlot (s.get F.escStat_SLOT k) else s).wr .escStat 0 k

/-- The alarms of a partition are cancelled (R45). -/
def State.alarmsOff (s : State) (p : Nat) : State :=
  (tabKeys (fun k a => decide (8 ≤ k) && a.part == p && a.st == .armed) s.tse.alarms).foldl (fun s k => s.releaseSlot k) s

/-- Every closed page of the partition is sealed and its FINAL checkpoint written (R449, R450); `fuel` bounds the pages. -/
def sealAll (p : Nat) : Nat → State → State
  | 0, s => s
  | f + 1, s =>
    match s.slg.chains.find? fun e => e.2.closed.any fun x => x.part == p with
    | some e => match execPageSeal e.1 s with
      | .next t => sealAll p f t
      | _ => s
    | none => s

/-- The chains of a partition end, their pages are sealed, the FINAL checkpoint is written. -/
def State.slgFinal (s : State) (p : Nat) : State :=
  let s := s.slgEndPart p
  let n := (s.slg.chains.map fun e => e.2.closed.length).sum
  let s := sealAll p n s
  match execCheckpointBuild p s with
  | .next t => t
  | _ => s

/-- The emission alarms of an address are armed again (R479). -/
def State.rearmEmission (s : State) (a : Nat) : State :=
  let p := s.svcPart a
  if !s.getB F.svcCfg_PTP a then s
  else match s.twoSlots p with
    | some (x, y) => s.emitArm a p x y
    | none => s.setSvc a { s.svc a with syncSlot := none, annSlot := none }

/-- The rest of the reset, once nothing drains: what R634 gives for t1, t2 and t3. -/
def State.resetRest (s : State) (p : Nat) : State :=
  let f := fnOfPart p
  let job := (tabGet none s.par.jobs p).getD {}
  let s := s.qClearPart p
  let s := [0, 1, 2, 3].foldl (fun s k => s.escFree (4 * p + k)) s
  let s := ((s.alarmsOff p).assocFlush fun a => s.svcPart a == p).policeFlush p
  let s := s.slgFinal p
  let s := ((List.range 4).foldl (fun s r => s.ringOff f r) s).histZero f
  let s := s.autostartAll fun i => i.part == p
  let s := (s.svcsOf p).foldl (fun s a => s.rearmEmission a) s
  let s := s.msixUnpend f
  let s := s.put F.parStat_RESETTING (withoutBit (s.get F.parStat_RESETTING) p)
  let s := if s.getB F.parPtCfg_EN p then s.put F.parStat_ENABLED (withBit (s.get F.parStat_ENABLED) p) else s
  let s := s.setPar { s.par with jobs := tabSet none s.par.jobs p none }
  (job.callers.foldl (fun s c => s.complete c 0xa0 .ok) s).refresh 1

/-- PART_RESET (0xa0). -/
def execPartReset (c : Caller) (p : Nat) (s : State) : Res :=
  .next (s.runDeferred c 0xa0
    [notOwner s c, (p == 0 || decide (7 < p) || !(s.enabled p || s.resetting p), .badArg), (s.resetting p, .busy)]
    (s.resetStart p { callers := [c] }))

/-- PARTITION_RESET_COMPLETE (R634): once the partition's exchanges and started commands have ended. -/
def execPartitionResetComplete (p : Nat) (s : State) : Res :=
  .next (if decide (8 ≤ p) || !s.resetting p || s.drains p then s else s.resetRest p)

/-- PAR_PTp_CFG.EN has been written over its former value (R625). -/
def State.ptCfgWritten (s : State) (p : Nat) (old : Bool) : State :=
  let en := s.getB F.parPtCfg_EN p
  if s.resetting p then s
  else if en && !s.enabled p then s.put F.parStat_ENABLED (withBit (s.get F.parStat_ENABLED) p)
  else if !en && old && s.enabled p then s.resetStart p {}
  else s

/-! ### Function Level Reset and PERST# (R633, R699) -/

/-- FUNCTION_LEVEL_RESET of function f. -/
def execFunctionLevelReset (f : Nat) (s : State) : Res :=
  .next (if decide (8 < f) || s.deaf || s.par.perstLow then s
    else if f = 0 then ((List.range 9).foldl (fun s k => s.hostZero k) s).refresh 1
    else if f = 1 then (s.hostZero 1).refresh 1
    else
      let p := partOfFn f
      match tabGet none s.par.jobs p with
      | some j => s.setPar { s.par with jobs := tabSet none s.par.jobs p (some { j with flr := j.flr ++ [f] }) }
      | none => if s.enabled p then s.resetStart p { flr := [f] } else s)

def execPerstAssert (s : State) : Res := .next (s.setPar { s.par with perstLow := true })

/-- PERST_RELEASE: endpoint, rings, histories and MSI-X state of every function at their reset values (R699). -/
def execPerstRelease (s : State) : Res :=
  .next (if !s.par.perstLow then s
    else
      let s := (List.range 9).foldl (fun s f => s.hostZero f) s
      (s.setPar { s.par with perstLow := false, stalls := tabSet none s.par.stalls 1 none }).refresh 1)

end Sys2Proof.Machine
end

