-- ==== Sys2Proof/Machine/RegView.lean ====
section
/-! DEFINITION. What each register shows: the word of the register file, with the fields that the block derives from the state
behind it. -/
namespace Sys2Proof.Machine

/-- A register word with some of its fields replaced. -/
def showIn (w : Word) (l : List (Field × Nat)) : Word := l.foldl (fun w e => setBits w e.1.hi e.1.lo e.2) w

/-- A register word of given fields. -/
def showAs (l : List (Field × Nat)) : Word := showIn 0 l

def natB (b : Bool) : Nat := if b then 1 else 0

def AlarmState.code : AlarmState → Nat
  | .free => 0 | .armed => 1 | .fired => 2 | .cancelled => 3

/-- The time value of an alarm's instant; a free value where a period has taken it beyond the format. -/
def instVal (a : Alarm) : Nat := timeVal (Config.freeValue a.inst) (Int.ofNat a.inst)

/-- A chain's key has a generation that waits for the next window (R456). -/
def State.slgKeyPend (s : State) (l : Nat) : Bool :=
  match (s.chain l).win with
  | some w => s.getB F.slgCfg_EN l && w.gen != s.get F.vsGen_CUR_GEN (s.get F.slgCfg_SLOT l)
  | none => false

/-- A word of a bound term register of domain n. -/
def State.domWord (s : State) (n : Nat) (r : RegId) : Word :=
  let d := s.dom n
  BitVec.ofNat 64 (match r with
    | .domFoff => codeOf 48 d.foff
    | .domSlewRem => clip64 (slewRemTicks d)
    | .domSlewMax => d.slewMax
    | .domBcSrc => d.bcSrc
    | .domBcRef => d.bcRef
    | .domBcServo => d.bcServo
    | .domBcBook => boundSum [(slewRemTicks d).natAbs, d.bookUnc]
    | .domBookUnc => d.bookUnc
    | .domHoldDfu => d.dfu
    | .domHoldAge => d.age
    | .domHoldTc => d.tc
    | .domHoldTint => d.tint
    | .domHoldT => d.holdT
    | .domHoldB0 => d.b0
    | _ => 0)

/-- A word of alarm slot k. -/
def State.almWord (s : State) (k : Nat) (r : RegId) : Word :=
  let a := s.alarm k
  match r with
  | .almCtl => showAs [(F.almCtl_PART, s.slotPart k), (F.almCtl_DOMAIN, a.dom), (F.almCtl_TARGET, a.target),
      (F.almCtl_KIND, a.kind.code), (F.almCtl_POLICY, natB a.fire), (F.almCtl_PERIODIC, natB (a.period != 0)),
      (F.almCtl_STATE, a.st.code)]
  | .almInstSec => BitVec.ofNat 64 (instVal a / 2 ^ 48)
  | .almInstSub => BitVec.ofNat 64 (instVal a % 2 ^ 48)
  | .almPeriod => BitVec.ofNat 64 a.period
  | .almStat => showAs [(F.almStat_MISSED, satNat 32 a.missed), (F.almStat_FIRES, satNat 29 a.fires), (F.almStat_S, natB a.sFlag),
      (F.almStat_L, natB a.lFlag), (F.almStat_CANCEL_LATE, natB a.cancelLate)]
  | .almLateness => BitVec.ofNat 64 a.lateness
  | _ => 0

/-- What a field of PWR_CLK_STAT shows (R749, R752). -/
def State.clkStatWord (s : State) : Word :=
  showIn (s.rd .pwrClkStat)
    [(F.pwrClkStat_CORE_ON_IRC, natB (s.pwr.core.src == .irc)), (F.pwrClkStat_SUP_ON_IRC, natB (s.pwr.sup.src == .irc)),
     (F.pwrClkStat_TSE_PROVEN, natB s.pwr.tseProven), (F.pwrClkStat_LO_PROVEN, natB s.pwr.aoi.proven),
     (F.pwrClkStat_IRC_PROVEN, natB s.pwr.irc.proven), (F.pwrClkStat_SYSXO_PROVEN, natB s.pwr.sysxo.proven),
     (F.pwrClkStat_IRC_RUN, natB s.pwr.irc.run)]

/-- The word that register (i, j) of a family shows to master m, with no side effect of the read. -/
def State.view (s : State) (m : Master) (r : RegId) (i j : Nat) : Word :=
  match r with
  | .cpxMode => showAs [(F.cpxMode_CAUSE, s.cpx.cause), (F.cpxMode_PREV, s.cpx.prev.code), (F.cpxMode_MODE, s.mode.code)]
  | .tseAlmQuota => showIn (s.rd r i) [(F.tseAlmQuota_USED, s.almUsed i)]
  | .domTimeSec => (s.cap m i).sec
  | .domTimeSub => (s.cap m i).sub
  | .domBound => (s.cap m i).bound
  | .domState => (s.cap m i).state
  | .domProv => (s.cap m i).prov
  | .domUtc => (s.cap m i).utc
  | .domFoff | .domSlewRem | .domSlewMax | .domBcSrc | .domBcRef | .domBcServo | .domBcBook | .domBookUnc | .domHoldDfu
  | .domHoldAge | .domHoldTc | .domHoldTint | .domHoldT | .domHoldB0 => s.domWord i r
  | .almCtl | .almInstSec | .almInstSub | .almPeriod | .almStat | .almLateness => s.almWord i r
  | .inFuseDly => showAs [(F.inFuseDly_FALL, Config.fusePathDelay i false), (F.inFuseDly_RISE, Config.fusePathDelay i true)]
  | .emuFifoCnt => BitVec.ofNat 64 (tabGet {} s.rim.emus i).fifo.cntWord
  | .gnbTmsg => tabGet 0 s.gnb.tcap (reqCode m * 4 + i)
  | .gnbSurvey => if s.get F.gnbSurvey_STATE = 1 then showIn (s.rd r) [(F.gnbSurvey_ELAPSED, s.survElapsed)] else s.rd r
  | .gnbTapfCnt => BitVec.ofNat 64 s.gnb.tapf.cntWord
  | .rshStat => s.rshStatWord
  | .rshTemp => showIn (s.rd r) [(F.rshTemp_THETA_NOW, codeOf 32 s.theta)]
  | .outStat => BitVec.ofNat 64 (s.outStatWord i)
  | .evoStat => showIn (s.rd r i) [(F.evoStat_ARMED, natB (s.evoArmed i))]
  | .evoFuse => showAs [(F.evoFuse_FD, s.evoFused i)]
  | .thrG => if s.thrState i = 6 ∨ s.thrState i = 7 then s.rd r i j else 0
  | .qPtr => showAs [(F.qPtr_WR, (s.queue i).wr), (F.qPtr_RD, (s.queue i).rd)]
  | .qCnt => BitVec.ofNat 64 (qCntWord (s.queue i))
  | .qStat => s.rd r i ||| BitVec.ofNat 64 (qStatBits (s.queue i))
  | .escStat => showIn (s.rd r i) [(F.escStat_COUNT, (tabGet [] s.dsq.staged i).length)]
  | .tsvGrant => showIn (s.rd r i) [(F.tsvGrant_GRANT_USED, ceilDiv (s.grantSum i) 16)]
  | .kvcCacheUse => showAs [(F.kvcCacheUse_PINNED, s.cachePinned), (F.kvcCacheUse_USED, s.cacheUsed)]
  | .hrlRxfCnt => BitVec.ofNat 64 s.hrl.rxf.cntWord
  | .supFstat1 => BitVec.ofNat 64 (((List.range 64).map fun n => if s.liveOf n = 0 then 0 else 2 ^ n).sum)
  | .supCtl => showIn (s.rd r) [(F.supCtl_SAFE_HOLD, natB s.safeHold), (F.supCtl_NFAULT, natB s.nFault)]
  | .supLedgerCnt => BitVec.ofNat 64 s.sup.ledger.cntWord
  | .tbStat => showIn (s.rd r i) [(F.tbStat_CFG_ERR, s.tbErr i)]
  | .pwrClkStat => s.clkStatWord
  | .txtsCnt => BitVec.ofNat 64 (tabGet {} s.npa.ports i).txts.cntWord
  | .portStat => showIn (s.rd r i) [(F.portStat_CFG_ERR, natB (s.getB F.portStat_CFG_ERR i || s.portDomBad i))]
  | .slgStat => showIn (s.rd r i) [(F.slgStat_KEY_PEND, natB (s.slgKeyPend i))]
  | .emuFifo | .gnbTapf | .hrlRxf | .qData | .supLedger | .txtsFifo | .qPush | .qPushEnd | .supHb => 0
  | _ => s.rd r i j

/-- A field of what a register shows. -/
def State.viewF (s : State) (m : Master) (f : Field) (i j : Nat) : Nat := bitsOf (s.view m f.reg i j) f.hi f.lo

end Sys2Proof.Machine
end

