-- ==== Sys2Proof/Machine/RegWrite.lean ====
section
/-! DEFINITION. A write of a register, direct or by an escrow commit: who may write it, which writes it ignores, what it keeps,
what follows (R13–R15, R42, R97, R107, R627–R629, R815, and the rules of each block's registers). -/
namespace Sys2Proof.Machine

/-! ### Who writes -/

/-- In whose right a write is made: with owner rights, for a partition, by a function, by the CP. -/
structure Who where
  pt0 : Bool
  part : Nat
  fn : Option Nat := none
  cp : Bool := false
  deriving DecidableEq, Repr

/-- A master's own rights (R624); a register sees a Dravik access as one by the thread's partition, through that partition's
function (R326). -/
def State.whoOf (s : State) (m : Master) : Who :=
  { pt0 := (match m with | .thread t => s.thrPart t == 0 | _ => s.mOwner m), part := s.mPart m, fn := (match m with
      | .fn f => some f
      | .thread t => if s.thrPart t = 0 then none else some (fnOfPart (s.thrPart t))
      | _ => none),
    cp := (match m with | .cp _ => true | _ => false) }

/-- The rights with which a commit writes: those of whoever staged the write (log entry 37). -/
def whoStaged (own : Bool) (part : Nat) : Who := { pt0 := own, part := part }

/-- The register accepts writes from this writer. -/
def State.mayWrite (s : State) (w : Who) (r : RegId) (i : Nat) : Bool :=
  let mine := decide (i ≠ 0) && w.part == (s.dom i).owner
  let kind := (s.dom i).kind
  match r with
  | .domFoff | .domSlewMax => mine && kind != DomKind.ring
  | .domState => mine || (i == 0 && w.pt0)
  | .domBcSrc => mine && kind == DomKind.steered
  | .domBcRef => mine && kind == DomKind.derived
  | .domBcServo => false
  | .domHoldDfu => mine && (kind == DomKind.ring || kind == DomKind.steered)
  | .domHoldAge | .domHoldTc => mine && kind == DomKind.ring
  | .dsqNotify | .slgPringBase | .slgPringCfg | .slgPringIdx | .slgCringBase | .slgCringCfg | .slgCringIdx | .supPfstat | .supLq =>
    w.pt0 || w.part == i
  | .qPush | .qPushEnd => w.pt0 || w.part == s.get F.qCfg_PART i
  | .ringSqBase | .ringCqBase | .ringCfg | .ringSqIdx | .ringCqIdx | .parFnCfg => w.pt0 || w.fn == some i
  | .tbCtl | .tbCnt | .tbStat => w.pt0 || w.part == s.get F.tbCfg_PART i
  | .supHb => w.cp
  | _ => w.pt0

/-! ### The word written -/

/-- The bits that an access addresses (R815). -/
def halfMask : Half → Word
  | .full => 0xffffffffffffffff
  | .low => 0xffffffff
  | .high => 0xffffffff00000000

/-- The data of a write in its place within the register. -/
def halfData (h : Half) (data : Word) : Word :=
  match h with
  | .full => data
  | .low => data &&& 0xffffffff
  | .high => data <<< 32

/-- One field of a register under a write of the bits in `hm`; a commit writes RWE fields alone (R13). -/
def accField (commit : Bool) (data hm w : Word) (f : Nat × Nat × Acc) : Word :=
  let m := fieldMask f.1 f.2.1 &&& hm
  match f.2.2 with
  | .rwe => (w &&& ~~~m) ||| (data &&& m)
  | .rw => if commit then w else (w &&& ~~~m) ||| (data &&& m)
  | .w1c => if commit then w else w &&& ~~~(data &&& m)
  | _ => w

/-- A register's word after a write, by the access codes of its fields (R13, R14). -/
def mergeWord (commit : Bool) (old data hm : Word) (l : List (Nat × Nat × Acc)) : Word :=
  l.foldl (accField commit data hm) old

/-- The registers whose word stands in a domain's record. -/
def domReg : RegId → Bool
  | .domFoff | .domSlewMax | .domBcSrc | .domBcRef | .domBcServo | .domHoldDfu | .domHoldAge | .domHoldTc => true
  | _ => false

/-- The word that a write changes. -/
def State.cell (s : State) (r : RegId) (i j : Nat) : Word := if domReg r then s.domWord i r else s.rd r i j

/-- A domain's record with one of its written registers replaced (R62, R63, R78, R79). -/
def Dom.store (d : Dom) (r : RegId) (w : Word) : Dom :=
  let v := w.toNat
  match r with
  | .domFoff =>
    let x := signedOf 48 v
    if x = -(2 ^ 47) then { d with foff := -(2 ^ 47 - 1), foffSat := true } else { d with foff := x }
  | .domSlewMax => { d with slewMax := v }
  | .domBcSrc => { d with bcSrc := v, tw := 0 }
  | .domBcRef => { d with bcRef := v }
  | .domHoldDfu => { d with dfu := v }
  | .domHoldAge => { d with age := v }
  | .domHoldTc => { d with tc := v }
  | _ => d

def State.store (s : State) (r : RegId) (i j : Nat) (w : Word) : State :=
  if domReg r then s.setDom i ((s.dom i).store r w) else s.wr r w i j

/-! ### Writes that a register ignores -/

/-- The sum of a field over the partitions, with partition p's value replaced. -/
def State.sumWith (s : State) (f : Field) (p v : Nat) : Nat :=
  ((List.range 8).map fun q => if q = p then v else s.get f q).sum

/-- A region write is ignored (R348): `b` and `n` are its new first page and pages, `lim` the pages of the SRAM, `img` where an
image of the partition lies within the region, in bytes. -/
def State.regionRefused (s : State) (base size : Field) (p b n lim : Nat) (img : Image → Nat × Nat) : Bool :=
  decide (lim < b + n) ||
  (List.range 8).any (fun q => q != p && s.get size q != 0 && n != 0 && regionsMeet b n (s.get base q) (s.get size q)) ||
  s.dsq.images.any fun x =>
    x.part == p && decide ((img x).2 ≠ 0) &&
      !within (4096 * s.get base p + (img x).1) (img x).2 (4096 * b, 4096 * n)

/-- The instruction region of partition p has moved from page `b` to its present BASE: the offsets of its images count from there. -/
def State.imagesRebased (s : State) (p b : Nat) : State :=
  let f (x : Image) : Image :=
    if x.part = p then { x with codeBase := 4096 * b + x.codeBase - 4096 * s.get F.dsqIwin_BASE p } else x
  { s with dsq := { s.dsq with images := s.dsq.images.map f } }

/-- A queue named for a partition belongs to another. -/
def State.queueForeign (s : State) (p q : Nat) : Bool := s.get F.qCfg_PART q != p

/-- The register ignores the write that would make `old` into `new`. -/
def State.refuses (s : State) (r : RegId) (i j : Nat) (old new : Word) : Bool :=
  match r with
  | .tseAlmQuota =>
    let v := bitsOf new 12 0
    decide (4096 < s.sumWith F.tseAlmQuota_QUOTA i v) || decide (v < s.almUsed i)
  | .dsqIwin =>
    s.regionRefused F.dsqIwin_BASE F.dsqIwin_SIZE i (bitsOf new 8 0) (bitsOf new 25 16) 512 fun x => (x.codeBase, x.codeLen)
  | .dsqDwin =>
    s.regionRefused F.dsqDwin_BASE F.dsqDwin_SIZE i (bitsOf new 7 0) (bitsOf new 24 16) 256
      fun x => (x.dataBase - 0x2400000 - 4096 * s.get F.dsqDwin_BASE i, x.dataLen)
  | .dsqShare => decide (256 < s.sumWith F.dsqShare_MIN i (bitsOf new 16 8))
  | .tsvShare =>
    decide (1024 < s.sumWith F.tsvShare_MIN i (bitsOf new 26 16)) || decide (8192 < s.sumWith F.tsvShare_XC_MIN i (bitsOf new 45 32))
  | .kvcShare => decide (1024 < s.sumWith F.kvcShare_MIN i (bitsOf new 26 16))
  | .parDram => decide (1024 < s.sumWith F.parDram_MIN i (bitsOf new 26 16))
  | .parPtCfg => i == 0
  | .dsqNotify =>
    (bitsOf new 26 26 == 1 && s.queueForeign i (bitsOf new 25 18)) || (bitsOf new 17 17 == 1 && s.queueForeign i (bitsOf new 16 9)) ||
      (bitsOf new 8 8 == 1 && s.queueForeign i (bitsOf new 7 0))
  | .supLq => s.queueForeign i (bitsOf new 7 0)
  | .thrCfg => s.thrState i != 0
  | .qCfg => s.qCfgRefused i new
  | .portCfg =>
    bitsOf new 34 32 != bitsOf old 34 32 &&
      (bitsOf old 31 31 == 1 || s.getB F.pairCfg_ACTIVE i || s.get F.portCfg_ROLE i == roleExport)
  | .ringSqBase | .ringCqBase => s.getB F.ringCfg_EN i j
  | .slgPringBase => s.getB F.slgPringCfg_EN i
  | .slgCringBase => s.getB F.slgCringCfg_EN i
  | .tbCnt => s.getB F.tbCtl_EN i j
  | .pwrEn => s.enRefused old new
  | _ => false

/-! ### Fields that a register keeps or limits -/

/-- Bits [hi:lo] of the new word replaced by the old word's. -/
def keepBits (old new : Word) (hi lo : Nat) : Word := setBits new hi lo (bitsOf old hi lo)

/-- A ring's CFG word: SIZE at `hi`:`lo` stays while EN is set; out of its range it leaves EN clear (R467, RINGr_CFG). -/
def ringFix (old new : Word) (hi lo low high : Nat) : Word :=
  let w := if bitsOf old 0 0 = 1 then keepBits old new hi lo else new
  if low ≤ bitsOf w hi lo ∧ bitsOf w hi lo ≤ high then w else setBits w 0 0 0

/-- What the register makes of the word written. -/
def State.fixed (s : State) (who : Who) (r : RegId) (i : Nat) (old new : Word) : Word :=
  match r with
  | .supReact =>
    let w := if bitsOf old 7 7 = 1 then new ||| (regRst .supReact i &&& 0x3f) else new
    if bitsOf old 6 6 = 1 then w else setBits w 2 2 0
  | .supAon => if s.pwr.noFallback then keepBits old new 0 0 else new
  | .tsvCfg => setBits (setBits new 31 16 (clampNat 400 10000 (bitsOf new 31 16))) 15 0 (max 100 (bitsOf new 15 0))
  | .tsvAssoc | .tsvPolice => if bitsOf old 7 7 = 1 then keepBits old new 47 20 else new
  | .kvcVbat => setBits new 47 32 (clampNat 2200 3300 (bitsOf new 47 32))
  | .kvcBlobBase => if (List.range 256).any fun v => s.get F.vsCfg_STATE v != 0 then keepBits old new 47 16 else new
  | .tbCfg => if (List.range 8).any fun k => s.getB F.tbCtl_EN i k then keepBits old new 34 32 else new
  | .pwrTherm => setBits new 47 32 (clampNat 1680 2000 (bitsOf new 47 32))
  | .pwrPmbCfg => if who.cp && s.mode == .boot then new else keepBits old new 17 17
  | .ringCfg => ringFix old new 11 8 4 12
  | .slgPringCfg => setBits (ringFix old new 5 1 4 20) 26 16 0
  | .slgCringCfg => ringFix old new 5 1 2 10
  | .portStat => if s.getB F.portStat_LINK i then new else keepBits old new 4 4
  | _ => new

/-! ### What follows a write -/

/-- EN of a ring has risen: its indexes are zero, ERR and HALT clear (R645). -/
def State.ringEnabled (s : State) (f r : Nat) : State :=
  let s := (s.wr .ringSqIdx 0 f r).wr .ringCqIdx 0 f r
  (s.putB F.ringCfg_ERR false f r).putB F.ringCfg_HALT (s.resetting (partOfFn f) && f != 0) f r

/-- A ring stops with ERR (R645). -/
def State.ringFail (s : State) (f r : Nat) : State :=
  let s := ((s.putB F.ringCfg_ERR true f r).putB F.ringCfg_HALT true f r).refresh 1
  s.log 0x0c f 0x0c01 (partOfFn f) 2 ([byte f, byte r, 0, 0] ++ beBytes 4 (s.get F.ringSqIdx_SQ_CONS f r))

/-- The doorbell of a ring (R645). -/
def State.doorbell (s : State) (f r : Nat) : State :=
  let n := (s.get F.ringSqIdx_SQ_PROD f r + 2 ^ 32 - s.get F.ringSqIdx_SQ_CONS f r) % 2 ^ 32
  if s.getB F.ringCfg_EN f r && !s.getB F.ringCfg_HALT f r && decide (2 ^ s.get F.ringCfg_SIZE f r < n) then s.ringFail f r else s

/-- EN at bit `b` has risen. -/
def rose (b : Nat) (old new : Word) : Bool := bitsOf old b b == 0 && bitsOf new b b == 1

/-- What follows the write of a register that held `old`; `data` are the bits that the write carried. -/
def State.written (s : State) (r : RegId) (i j : Nat) (old data : Word) : State :=
  let new := s.rd r i j
  match r with
  | .dsqIwin => s.imagesRebased i (bitsOf old 8 0)
  | .domState => if bitsOf data 12 12 = 1 then s.setDom i { s.dom i with foffSat := false } else s
  | .inCfg => s.inWritten i old (s.rd .inNom i)
  | .inNom => s.inWritten i (s.rd .inCfg i) old
  | .inAct | .inFmLim | .inFmGate => s.inLimWritten i
  | .gspCfg => s.gspWritten i old (s.rd .gspLo i)
  | .gspLo => s.gspWritten i (s.rd .gspCfg i) old
  | .rshCfg => s.rshCfgWritten
  | .refCfg => s.refCfgWritten i
  | .aoiCfdCtl => s.cfdCtlWritten
  | .aoiMonLim => s.monLimWritten
  | .synLimits => s.synLimitsWritten i
  | .synPmon => s.synPmonWritten i
  | .synAlignPer => s.gspJudgeAll
  | .outCfg | .outDiv => (s.outWritten i).gspJudgeAll
  | .evoCfg => s.evoCfgWritten i
  | .evoDelay => s.evoDelayWritten i
  | .qCfg => s.setQueue i {}
  | .tsvAssoc => if rose 7 old new then s.setTsv { s.tsv with assocs := [] } else s
  | .tsvPolice => if rose 7 old new then s.setTsv { s.tsv with police := [], lineParts := [] } else s
  | .svcKeys => s.refresh 38
  | .svcCfg => s.refreshAll [38, 39]
  | .kvcVbat => s.vbatJudge
  | .hrlCfg => s.hrlCfgWritten old
  | .hLaneStat => s.hLaneWritten i old
  | .hLaneAsym => s.showHop i
  | .hrlRdom => s.hrlRdomWritten i old
  | .supCtl => s.supCtlWritten old
  | .supReact => if s.getB F.supReact_SAFE i && s.dSticky i then s.latchSafe (0x0500 + i) else s
  | .tbCtl =>
    if rose 63 old new then
      { s with sup := { s.sup with winSum := tabSet 0 s.sup.winSum (8 * i + j) 0, perCnt := tabSet 0 s.sup.perCnt (8 * i + j) 0 } }
    else s
  | .pwrEn => s
  | .pwrFmcCtl => if bitsOf data 63 63 = 1 then s.fmcStart old else s
  | .pwrDvfs => s.dvfsWritten
  | .pwrTherm => s.critJudge.dvfsPoll
  | .pwrWearCfg => s.refresh 54
  | .pwrClkCfg => s.clockUpdate
  | .parPtCfg => s.ptCfgWritten i (bitsOf old 0 0 == 1)
  | .ringCfg => (if rose 0 old new then s.ringEnabled i j else s).refresh 1
  | .ringSqIdx => s.doorbell i j
  | .slgPringCfg => if rose 0 old new then s.wr .slgPringIdx 0 i else s
  | .slgCringCfg => if rose 0 old new then s.wr .slgCringIdx 0 i else s
  | .portCfg => s.portWritten i old
  | _ => s

/-! ### The write -/

/-- A push of the host (R364, R365): dropped and counted where another's item is open or the queue is full. A thread that waits goes
first (R368). -/
def State.hostPush (s : State) (m : Master) (q : Nat) (w : Word) (fin : Bool) : State :=
  let s := s.qAssign q
  if s.qCanPut q m then s.qPut q m w fin else s.qDrop q .other (match m with | .thread t => t | _ => 0xff)

/-- The write of an ordinary register: its acceptance, its word, what follows. The flag tells whether it was accepted. -/
def State.regWrite (s : State) (who : Who) (commit : Bool) (r : RegId) (i j : Nat) (data hm : Word) : State × Bool :=
  if !s.mayWrite who r i then (s, false)
  else
    let old := s.cell r i j
    let new := s.fixed who r i old (mergeWord commit old data hm (regInfo r).fields)
    if s.refuses r i j old new then (s, false)
    else ((s.store r i j new).written r i j old (data &&& hm), true)

/-- A direct write of the present cycle is kept over the commits that fire in it: its bits are noted (R34). -/
def State.noteDirect (s : State) (r : RegId) (i j : Nat) (hm : Word) : State :=
  let a := regAddr r i j
  { s with tse := { s.tse with direct := tabSet 0 s.tse.direct a (tabGet 0 s.tse.direct a ||| hm) } }

/-- The write of an ordinary register by a master. -/
def State.plainWrite (s : State) (who : Who) (r : RegId) (i j : Nat) (data hm : Word) : State :=
  match s.regWrite who false r i j data hm with
  | (s, true) => s.noteDirect r i j hm
  | (s, false) => s

/-- A direct write of a register by a master (R13). -/
def State.directWrite (s : State) (m : Master) (r : RegId) (i j : Nat) (h : Half) (data : Word) : State :=
  let who := s.whoOf m
  let d := halfData h data
  match r with
  | .supFstat0 => if who.pt0 then s.clearD d.toNat else s
  | .supPfstat => if s.mayWrite who r i then s.clearS i d.toNat else s
  | .supHb => if who.cp then s.heartbeat else s
  | .qPush => if s.mayWrite who r i then s.hostPush m i d false else s
  | .qPushEnd => if s.mayWrite who r i then s.hostPush m i d true else s
  | _ => s.plainWrite who r i j d (halfMask h)

end Sys2Proof.Machine
end

