-- ==== Sys2Proof/Machine/Map.lean ====
section
/-! DEFINITION. The bus address map: which register stands at an address, what each function and thread reaches, what is gated
(R325, R326, R386, R436, R467, R525, R568, R649–R651, R657, R696). -/
namespace Sys2Proof.Machine

/-! ### Which register stands at an address -/

/-- The indexes of an address within a register family. -/
def regIndex (r : RegId) (addr : Nat) : Option (Nat × Nat) :=
  let x := regInfo r
  if addr < x.base then none
  else
    let d := addr - x.base
    let i := if x.si = 0 then 0 else d / x.si
    let e := if x.si = 0 then d else d % x.si
    let j := if x.sj = 0 then 0 else e / x.sj
    let z := if x.sj = 0 then e else e % x.sj
    if z = 0 ∧ i < x.ni ∧ j < x.nj then some (i, j) else none

/-- The first register of a list that stands at an address. -/
def regIn (addr : Nat) : List RegId → Option (RegId × Nat × Nat)
  | [] => none
  | r :: l =>
    match regIndex r addr with
    | some (i, j) => some (r, i, j)
    | none => regIn addr l

/-- The register at a bus address (R15, R649). -/
def regAt (addr : Nat) : Option (RegId × Nat × Nat) := regIn addr regIds

/-- The registers that exist in the window of a port's lead lane alone (R436, R467). -/
def portReg : RegId → Bool
  | .portCfg | .portRxDelay | .portTxDelay | .portAllow | .portStat | .portHalf | .pairCfg | .portCnt | .portShd | .txtsFifo
  | .txtsCnt | .slgCfg | .slgStat | .slgKcv => true
  | _ => false

/-- An offset of a lane window (R436). -/
def laneWindow (addr : Nat) : Bool := decide (0x1000000 ≤ addr) && decide (addr < 0x1800000)

/-! ### The address map (R649) -/

/-- A range of register windows that the map lists. -/
def regWindow (addr : Nat) : Bool := decide (addr < 0xd00000) || laneWindow addr

/-- DSQ data SRAM. -/
def inDsram (addr : Nat) : Bool := decide (0x2400000 ≤ addr) && decide (addr < 0x2500000)

/-- Ranges that no function reaches: DSQ instruction SRAM and CP SRAM. -/
def hidden (addr : Nat) : Bool :=
  (decide (0x2000000 ≤ addr) && decide (addr < 0x2200000)) || (decide (0x3000000 ≤ addr) && decide (addr < 0x3400000))

/-- Offset o lies in block k of a family of blocks of `size` bytes from `base`. -/
def inBlock (o base size k : Nat) : Bool := decide (base + size * k ≤ o) && decide (o < base + size * (k + 1))

/-- Offset o lies in a family of n blocks, in one whose index satisfies p. -/
def inFamily (o base size n : Nat) (p : Nat → Bool) : Bool :=
  decide (base ≤ o) && decide (o < base + size * n) && p ((o - base) / size)

/-- What the function f of partition p maps, where it is not the PF. -/
def State.vfMaps (s : State) (f p addr : Nat) : Bool :=
  let o := addr % 0x100000
  match addr / 0x100000 with
  | 0 => o == 0
  | 1 => inFamily o 0x1000 0x100 32 (fun n => n == 0 || (s.dom n).owner == p) ||
      inFamily o 0x10000 0x40 4096 fun k => s.slotHeld k && s.slotPart k == p
  | 6 => inBlock o 0x200 0x10 p || inFamily o 0x10000 0x200 128 (fun t => s.thrPart t == p) ||
      inFamily o 0x20000 0x40 256 (fun q => s.get F.qCfg_PART q == p) || inFamily o 0x30000 0x20 32 fun k => k / 4 == p
  | 7 => inBlock o 0x100 0x20 p || inFamily o 0x1000 0x80 64 fun a => s.svcPart a == p
  | 8 => inBlock o 0x100 8 p || inFamily o 0x1000 0x20 256 fun v => s.vsPart v == p
  | 10 => inBlock o 0x80 8 p || inBlock o 0x800 0x10 p || inBlock o 0x900 0x20 p || inFamily o 0xc00 8 256 (fun _ => true) ||
      inFamily o 0x10000 0x200 64 fun b => s.get F.tbCfg_PART b == p
  | 12 => inBlock o 0x100 0x10 p || inBlock o 0x10000 0x1000 f
  | _ =>
    if laneWindow addr then
      let l := (addr - 0x1000000) / 0x20000
      let w := addr % 0x20000
      (decide (0x1000 ≤ w) && decide (w < 0x5000) && s.leads l && s.get F.portCfg_PART l == p) ||
        (l == 0 && inBlock w 0xc100 0x40 p)
    else inDsram addr && within addr 8 (s.dwin p)

/-- What the matrix takes of a function's access (R649, R651): for the PF the whole map with its reserved ranges, for a VF its
windows while its partition is not DISABLED (R626). -/
def State.fnReaches (s : State) (f addr : Nat) : Bool :=
  let p := partOfFn f
  if f = 0 then !hidden addr else (p == 0 || s.enabled p || s.resetting p) && s.vfMaps f p addr

/-- What a thread reaches (R325): no reserved range, no other partition's data SRAM. -/
def State.thrReaches (s : State) (t addr : Nat) : Bool :=
  let p := s.thrPart t
  if p = 0 then regWindow addr || (inDsram addr && within addr 8 (s.dwin 0)) else s.vfMaps (fnOfPart p) p addr

/-! ### Gated blocks (R657, R763) -/

/-- The block of an address is gated: it reads as zero and drops writes. -/
def State.gated (s : State) (addr : Nat) : Bool :=
  let off (b : Nat) : Bool := !bitOf (s.rd .pwrEn).toNat b
  let o := addr % 0x100000
  match addr / 0x100000 with
  | 2 => decide (0x4000 ≤ o) && decide (o < 0x48000) && off 23
  | 3 => off 24
  | 4 => decide (0x2000 ≤ o) && off 25
  | 6 => inFamily o 0x10000 0x200 128 fun t => off (t / 16)
  | 7 => off 27
  | 9 => off 26
  | _ => laneWindow addr && decide (addr % 0x20000 < 0xc000) && off (8 + (addr - 0x1000000) / 0x100000)

end Sys2Proof.Machine
end

