-- ==== Sys2Proof/Machine/Escrow.lean ====
section
/-! DEFINITION. Escrows: staging, commit, conflict, outcome (R96–R100, R331, R332, R373–R379, R384, R629). -/
namespace Sys2Proof.Machine

/-- Escrow states (R373). -/
abbrev escFreeSt := 0
abbrev escOpen := 1
abbrev escArmed := 2
abbrev escDone := 3

def State.escState (s : State) (k : Nat) : Nat := s.get F.escStat_STATE k
def State.escStaged (s : State) (k : Nat) : List (Nat × Word × Bool) := tabGet [] s.dsq.staged k
def State.setStaged (s : State) (k : Nat) (l : List (Nat × Word × Bool)) : State :=
  { s with dsq := { s.dsq with staged := tabSet [] s.dsq.staged k l } }

/-- DSQ_CSEQ (R374). -/
def State.cseq (s : State) : Nat := (s.rd .dsqCseq).toNat

/-- An immediate commit of escrow k waits for the next cycle (R96). -/
def State.escPends (s : State) (k : Nat) : Bool := s.tse.imm.contains k

/-- Escrow k is open, and no commit of it is armed or accepted. -/
def State.escIsOpen (s : State) (k : Nat) : Bool := s.escState k == escOpen && !s.escPends k

/-- What an escrow operation answers: its status, its result field, the state. -/
abbrev EscRes := Status × Nat × State

/-! ### Staging -/

/-- EBEGIN, ESC_BEGIN (R331, R373). -/
def State.escBegin (s : State) (p : Nat) : EscRes :=
  match [0, 1, 2, 3].find? fun e => s.escState (4 * p + e) == escFreeSt || s.escState (4 * p + e) == escDone with
  | none => (.busy, 0, s)
  | some e =>
    let k := 4 * p + e
    (.ok, e, ((s.setStaged k []).wr .escStat (showAs [(F.escStat_STATE, escOpen)]) k).wr .escSeq (s.rd .dsqCseq) k)

/-- Registers of a family whose RWE fields are RO in this one: D0's rate, slew limit and holdover registers, and PAR_PT0_CFG. -/
def roHere (r : RegId) (i : Nat) : Bool :=
  match r with
  | .domFoff | .domSlewMax | .domHoldDfu | .domHoldAge | .domHoldTc | .parPtCfg => i == 0
  | _ => false

/-- A register stands at the address: a port's exists in the window of a lane that leads a port alone (R436). -/
def State.regHere (s : State) (addr : Nat) : Option (RegId × Nat × Nat) :=
  match regAt addr with
  | some (r, i, j) => if portReg r && !s.leads i then none else some (r, i, j)
  | none => none

/-- The register at an address has a field that a commit may write (R97, R331). -/
def State.stageable (s : State) (addr : Nat) : Bool :=
  match s.regHere addr with
  | some (r, i, _) => ((regInfo r).fields.any fun f => f.2.2 == Acc.rwe) && !roHere r i
  | none => false

/-- A write staged over an earlier one of the same register, or after the others (R332). -/
def stageIn (addr : Nat) (w : Word) (own : Bool) (l : List (Nat × Word × Bool)) : List (Nat × Word × Bool) :=
  if l.any fun e => e.1 == addr then l.map fun e => if e.1 = addr then (addr, w, own) else e else l ++ [(addr, w, own)]

/-- EWR, ESC_WRITE (R331, R332, R379): escrow e of partition p; `reach` tells whether the address can be reached, `own` whether
the writer has owner rights. -/
def State.escWrite (s : State) (p e addr : Nat) (w : Word) (reach own : Bool) : EscRes :=
  let k := 4 * p + e
  let l := s.escStaged k
  let l' := stageIn addr w own l
  if decide (4 ≤ e) || !s.escIsOpen k || decide (addr % 8 ≠ 0) then (.badArg, 0, s)
  else if !reach then (.partitionDenied, 0, s)
  else if !s.stageable addr || decide (1024 < l'.length) then (.badArg, 0, s)
  else (.ok, l'.length, s.setStaged k l')

/-! ### Committing -/

/-- ECOMMIT, ESC_COMMIT (R96, R331, R817): at an instant of a domain, or in the next cycle. -/
def State.escCommit (s : State) (p e : Nat) (at' : Option (Nat × Nat)) (lateOk : Bool) : EscRes :=
  let k := 4 * p + e
  if decide (4 ≤ e) || !s.escIsOpen k then (.badArg, 0, s)
  else
    match at' with
    | none => (.ok, 0, { s with tse := { s.tse with imm := s.tse.imm ++ [k] } })
    | some (dom, inst) =>
      if decide (32 ≤ dom) || (s.dom dom).st == DomState.off then (.badArg, 0, s)
      else if dom != 0 && (s.dom dom).owner != p then (.partitionDenied, 0, s)
      else
        match s.freeSlot p with
        | none => (.busy, 0, s)
        | some j =>
          let past := s.isPast dom inst
          if past && !lateOk then (.late, 0, s)
          else
            let s := s.armSlot j p dom inst .escrowCommit k 0 lateOk past
            (.ok, j, (s.put F.escStat_STATE escArmed k).put F.escStat_SLOT j k)

/-- EABORT, ESC_ABORT (R331, R373). -/
def State.escAbort (s : State) (p e : Nat) : EscRes :=
  let k := 4 * p + e
  if decide (4 ≤ e) || s.escState k == escFreeSt then (.badArg, 0, s)
  else if s.escState k == escDone || s.escPends k || (s.escState k == escArmed && s.isDue (s.get F.escStat_SLOT k)) then
    (.late, 0, s)
  else
    let s := if s.escState k = escArmed then s.cancelSlot (s.get F.escStat_SLOT k) else s
    (.ok, 0, (s.setStaged k []).wr .escStat 0 k)

/-! ### The outcome (R97, R98, R374–R378) -/

/-- The lowest address of a list that a later commit than `seq` has written. -/
def State.escConflict (s : State) (seq : Nat) (l : List (Nat × Word × Bool)) : Option Nat :=
  let bad := (l.filter fun e => decide (seq < tabGet 0 s.dsq.cseqOf e.1)).map (·.1)
  match bad with
  | [] => none
  | a :: r => some (r.foldl min a)

/-- Apply one staged write of a commit, in the order of staging, so that the checks of one register see what the same commit has
written to another before (log entry 37); the bits of direct writes of the same cycle stay (R34). Accepted, the write records the
commit's CSEQ; ignored, PAR_STAT counts it (R629). The number counts the writes accepted so far. -/
def State.escApply (p : Nat) (a : State × Nat) (e : Nat × Word × Bool) : State × Nat :=
  match a.1.regHere e.1 with
  | none => (a.1.bump F.parStat_ESC_IGN 1, a.2)
  | some (r, i, j) =>
    let (s, ok) := a.1.regWrite (whoStaged e.2.2 p) true r i j e.2.1 (~~~ tabGet 0 a.1.tse.direct e.1)
    if ok then ({ s with dsq := { s.dsq with cseqOf := tabSet 0 s.dsq.cseqOf e.1 (s.cseq + 1) } }, a.2 + 1)
    else (s.bump F.parStat_ESC_IGN 1, a.2)

/-- The outcome word (R377). -/
def escWord (st : Status) (k : Nat) (step : Bool) (count addr : Nat) : Nat :=
  st.code * 2 ^ 56 + k / 4 * 2 ^ 53 + k % 4 * 2 ^ 51 + (if step then 2 ^ 50 else 0) + count % 2048 * 2 ^ 38 + addr % 2 ^ 26

/-- Note an outcome: ESCk_LAST, and the partition's outcome queue. -/
def State.escNote (s : State) (k : Nat) (w : Word) : State :=
  let p := k / 4
  let s := s.wr .escLast w k
  if s.getB F.dsqNotify_ESC_EN p then s.qPostHw (s.get F.dsqNotify_ESC_Q p) [(w, true)] else s

/-- A commit is judged and applied (R97, R98, R375); `step` tells that it fired through a step. -/
def State.escJudge (s : State) (k : Nat) (step : Bool) : State :=
  let p := k / 4
  let l := s.escStaged k
  let s := (s.put F.escStat_STATE escDone k).put F.escStat_SLOT 0 k
  match s.escConflict (s.rd .escSeq k).toNat l with
  | some a =>
    let w := escWord .escrowConflict k step l.length a
    (s.escNote k (BitVec.ofNat 64 w)).log 0x06 0xff 0x0601 p 1 (beBytes 8 w)
  | none =>
    let (s, n) := l.foldl (State.escApply p) (s, 0)
    let s := if n = 0 then s else s.wr .dsqCseq (BitVec.ofNat 64 (s.cseq + 1))
    (s.tally (.ev 0x06 0x04 0xff p 1 0)).escNote k (BitVec.ofNat 64 (escWord .ok k step l.length 0))

/-- The oldest accepted immediate commit takes place (R96). -/
def State.escImmediate (s : State) : State :=
  match s.tse.imm with
  | [] => s
  | k :: l =>
    let s := { s with tse := { s.tse with imm := l } }
    if s.escState k = escOpen then s.escJudge k false else s


/-! ### Host commands (R373, R382–R384) -/

/-- A host escrow command. -/
def State.escCmd (s : State) (c : Caller) (op : Nat) (x : EscRes) (result : List Byte) : State :=
  let bad : List (Bool × Status) := (s.resetting (s.cPart c), .busy) :: (if x.1 = .ok then [] else [(true, x.1)])
  s.runCmd c op bad x.2.2 result

/-- The caller reaches a register (R383): the registers that its function's BAR maps, or its thread's. -/
def State.callerReaches (s : State) (c : Caller) (addr : Nat) : Bool :=
  match c with
  | .host f _ => s.fnReaches f addr && (regWindow addr || inDsram addr)
  | .thread t => s.thrReaches t addr
  | .firmware => regWindow addr

/-- A caller's staged writes carry owner rights (R326, R624). -/
def State.stagesOwn (s : State) (c : Caller) : Bool :=
  match c with
  | .host f _ => f == 0
  | .thread t => s.thrPart t == 0
  | .firmware => true

/-- ESC_BEGIN (0x66). -/
def execEscBegin (c : Caller) (s : State) : Res :=
  let x := s.escBegin (s.cPart c)
  .next (s.escCmd c 0x66 x [byte x.2.1])

/-- ESC_WRITE (0x67). -/
def execEscWrite (c : Caller) (e addr : Nat) (w : Word) (s : State) : Res :=
  let x := s.escWrite (s.cPart c) e addr w (s.callerReaches c addr) (s.stagesOwn c)
  .next (s.escCmd c 0x67 x (beBytes 2 x.2.1))

/-- ESC_COMMIT (0x68): AT with domain and instant, or immediate. -/
def execEscCommit (c : Caller) (e : Nat) (at' : Option (Nat × TimeVal)) (lateOk : Bool) (s : State) : Res :=
  let bad := match at' with | some (_, t) => !tvOk t | none => false
  let x := s.escCommit (s.cPart c) e (at'.map fun a => (a.1, tvTicks a.2)) lateOk
  .next (s.escCmd c 0x68 (if bad then (.badArg, 0, s) else x) (if at'.isSome then beBytes 2 x.2.1 else []))

/-- ESC_ABORT (0x69). -/
def execEscAbort (c : Caller) (e : Nat) (s : State) : Res :=
  let x := s.escAbort (s.cPart c) e
  .next (s.escCmd c 0x69 x [])

end Sys2Proof.Machine
end

