-- ==== Sys2Proof/Machine/Fire.lean ====
section
/-! DEFINITION. What due alarms do, one at a time in the order of R92 (R32, R36, R76, R88–R93, R97, R123, R142, R216, R284, R319,
R370, R440, R513, R594, R690). -/
namespace Sys2Proof.Machine

/-- The words that a QPUT alarm posts (R370). -/
def qputWords (d : Due) : List Word :=
  [BitVec.ofNat 64 (d.slot * 2 ^ 52 + (if d.al.lateArm then 2 ^ 51 else 0) + (if d.step then 2 ^ 50 else 0)), BitVec.ofNat 64 d.lat]

/-- Instances that a periodic alarm's firing stands for, beyond the first (R93). -/
def missedOf (d : Due) : Nat := if d.step && d.al.period != 0 then d.lat / d.al.period else 0

/-- The action of a due alarm (R88); `rest` are the alarms due after it in the cycle. -/
def State.act (s : State) (d : Due) (rest : List Due) : State :=
  let t := d.al.target
  match d.al.kind with
  | .none => s
  | .evoEdge => let last := !(rest.any fun e => e.al.kind == AlarmKind.evoEdge && e.al.target % 8 == t % 8)
    (s.evoFire d last).evoParked (t % 8) last
  | .emuOpen => s.emuOpenFire (t % 32) d.al.lateArm d.step
  | .emuClose => s.emuCloseFire (t % 32) d.step d.al.period
  | .tsvEmit => s.tsvEmit t d.al.inst (missedOf d) d.step
  | .escrowCommit => if s.escState (t % 32) = escArmed then s.escJudge (t % 32) d.step else s
  | .tallySnap =>
    let s1 := s.tallySnap d s.tse.snapped
    { s1 with tse := { s1.tse with snapped := s.tse.snapped ++ s.snapBanks t d.al.part } }
  | .dsqWake => s.wakeThr (t % 128) d.lat d.al.lateArm d.step
  | .slwClose => s.slwClose (t % 64) (Int.ofNat d.al.inst) d.step
  | .leap => s.leapFire t
  | .hostInt => s.msix (fnOfPart d.al.part) t
  | .qput => s.qPostHw (t % 256) (itemOf (qputWords d))
  | .servoClose => if bitOf t 5 then s.ringClose (t % 32) else s.servoClose d

/-- Alarms fired, and those with L or S, as the tally banks count them (R682). -/
def State.tallyFired (s : State) (d : Due) : State :=
  let p := if d.slot < 8 then 0 else d.al.part
  let s := s.tally (.ev 0x01 0x01 d.al.dom p 1 0)
  if d.al.lateArm || d.step then s.tally (.ev 0x01 0x02 d.al.dom p 1 0) else s

/-- The first due alarm fires: its slot is written (R89, R93), then it acts. -/
def State.fireHead (s : State) : State :=
  match s.tse.due with
  | [] => s
  | d :: rest => ((s.noteFired d).tallyFired d).act d rest

/-- Every alarm that is due in the cycle fires (R32); `fuel` bounds their number. -/
def fireAll : Nat → State → State
  | 0, s => s
  | f + 1, s => if s.tse.due = [] then s else fireAll f s.fireHead

def State.drainDue (s : State) : State := fireAll (s.tse.due.length + s.tse.alarms.length) s

/-- Every accepted immediate commit takes place (R96). -/
def immAll : Nat → State → State
  | 0, s => s
  | f + 1, s => if s.tse.imm = [] then s else immAll f s.escImmediate

def State.drainImm (s : State) : State := immAll s.tse.imm.length s

/-! ### Rows: the first due alarm fires, where it is of the row's kind -/

/-- The first due alarm is of a kind for which p holds. -/
def State.headIs (s : State) (p : Due → Bool) : Bool :=
  match s.tse.due with
  | [] => false
  | d :: _ => p d

/-- Fire the first due alarm if p holds of it. -/
def State.fireIf (s : State) (p : Due → Bool) : State := if s.headIs p then s.fireHead else s

/-- The alarm is of kind k. -/
def Due.isKind (k : AlarmKind) (d : Due) : Bool := d.al.kind == k

def execLeapFire (s : State) : Res := .next (s.fireIf (Due.isKind .leap))
def execEvoEdgeFire (s : State) : Res := .next (s.fireIf (Due.isKind .evoEdge))
def execEmuOpenFire (s : State) : Res := .next (s.fireIf (Due.isKind .emuOpen))
def execEmuCloseFire (s : State) : Res := .next (s.fireIf (Due.isKind .emuClose))
def execTsvEmitFire (s : State) : Res := .next (s.fireIf (Due.isKind .tsvEmit))
def execEscrowCommitFire (s : State) : Res := .next (s.fireIf (Due.isKind .escrowCommit))
def execTallySnapFire (s : State) : Res := .next (s.fireIf (Due.isKind .tallySnap))
def execDsqWakeFire (s : State) : Res := .next (s.fireIf (Due.isKind .dsqWake))
def execSlwCloseFire (s : State) : Res := .next (s.fireIf (Due.isKind .slwClose))
def execHostIntFire (s : State) : Res := .next (s.fireIf (Due.isKind .hostInt))
def execQputFire (s : State) : Res := .next (s.fireIf (Due.isKind .qput))

/-- RSH's SERVO_CLOSE (R216): target bit 5 clear. -/
def execRshServoClose (s : State) : Res := .next (s.fireIf fun d => d.isKind .servoClose && !bitOf d.al.target 5)
/-- HRL's SERVO_CLOSE of a RING domain (R594): target bit 5 set. -/
def execHrlServoClose (s : State) : Res := .next (s.fireIf fun d => d.isKind .servoClose && bitOf d.al.target 5)

/-- ESCROW_IMMEDIATE_COMMIT (R96): in the cycle after acceptance, so after what is due in the present one. -/
def execEscrowImmediateCommit (s : State) : Res := .next (if s.tse.imm = [] then s else s.drainDue.escImmediate)

/-! ### Edges at the inputs (R113, R180) -/

/-- REFIN_EDGE: an edge of a source, its direction, the gap since the source's last edge in CLK_TSE cycles, and what the TDCs measured
of it. The windows that open or close at the start of the cycle do so before it (R123). -/
def execRefinEdge (src : Nat) (edge : BallEdge) (tdc : List (Nat × Nat × Nat)) (s : State) : Res :=
  .next (s.drainDue.rimEdge src edge.rise edge.gap tdc)

/-- GPPS_EDGE, with what the TDCs read of it. -/
def execGppsEdge (tdc : List (Nat × Nat × Nat)) (s : State) : Res := .next (s.drainDue.gppsEdge tdc)

end Sys2Proof.Machine
end

