-- ==== Sys2Proof/Machine/Modes.lean ====
section
/-! DEFINITION. The mode sequencer, the bound update, and one CLK_TSE cycle (R28, R32, R49, R58, R62, R105, R700–R711). -/
namespace Sys2Proof.Machine

/-! ### Which mode (R701–R704) -/

/-- The conditions of STANDBY (R704). -/
def State.standbyOk (s : State) : Bool :=
  s.hRole == roleB && (s.rshState == 2 || s.rshState == 3) && s.sel == cRing && (s.dom 0).traceable && s.healthOk

/-- The mode that follows RSH and D0 (R702). -/
def State.timeMode (s : State) : Mode :=
  let un := (s.dom 0).bound == Config.unb
  match s.rshState with
  | 2 | 3 => if (s.dom 0).traceable then .track else if un then .acquire else .steer
  | 4 => if (s.dom 0).traceable then .holdover else if un then .acquire else .steer
  | 5 => .freerun
  | 6 => .steer
  | _ => .acquire

/-- The mode: the first row of R701 whose condition holds. -/
def State.targetMode (s : State) : Mode :=
  if s.cpx.inReset then .reset
  else if s.cpx.halted then .halted
  else if !s.cpx.booted then .boot
  else if !s.getB F.kvcStat_ROOT_VALID then .sealed
  else if s.cpx.safe then .safe
  else if !s.cpx.calDone then .calibrate
  else if s.cpx.service then .service
  else if s.standbyOk then .standby
  else s.timeMode

/-- The cause of a change from mode `old` to mode `new` (R710): a change between STANDBY and the mode of R702 is the role's where
the mode of R702 is not itself new, or where the role is lost (log entry 38). -/
def State.modeCause (s : State) (old new : Mode) : Nat :=
  if new = .sealed then 0x0600
  else if new = .safe then s.cpx.safeCause
  else if old = .boot ∨ old = .reset then 0x0100
  else if old = .calibrate then 0x0800
  else if old = .safe ∨ old = .service ∨ new = .service then s.cpx.cmdCause
  else if (old = .standby ∧ s.hRole ≠ roleB) ∨ (new = .standby ∧ old = s.timeMode) then 0x0300 + s.hRole
  else 0x0200 + s.rshState

/-! ### Entry actions (R709) -/

/-- End of BOOT: D0 runs, unseeded and UNBOUNDED (R58). -/
def State.d0Runs (s : State) : State :=
  s.setDom 0 { s.dom 0 with st := .running, unseeded := true, lost := true, bound := Config.unb }

/-- Entry to CALIBRATE: TDC calibrations and the retunes of the stored ADPLL configurations (R136, R270); the first, after boot, also
AUTOSTART threads and the Hinge ring (R357, R709). Bit 8 of `calMask` notes that it has taken place. -/
def State.enterCalibrate (s : State) : State :=
  let first := !bitOf s.cpx.calMask 8
  let l := s.settings.syn.filter fun x => 1 ≤ x.n && x.n < 8
  let s := s.calAll
  let s := l.foldl (fun s x => s.synCfg x.n x.tf x.mode x.refin x.bw x.lockWait x.fl) s
  let s := s.setCpx { s.cpx with calMask := 256 ||| orMasks (l.map fun x => 2 ^ x.n) }
  let s := if first then s.autostartAll (·.boot) else s
  if first && s.getB F.hrlCfg_EN then s.hrlOn else s

/-- R105: the alarms that end with the entry to SAFE or SEALED, and every domain UNBOUNDED, a FREERUN link at its head. -/
def State.safeDomains (s : State) : State :=
  let ends (k : AlarmKind) : Bool := k == .evoEdge || k == .tsvEmit || k == .slwClose
  let s := (tabKeys (fun _ a => a.st == AlarmState.armed && ends a.kind) s.tse.alarms).foldl (fun s k => s.releaseSlot k) s
  (List.range 32).foldl (fun s n => s.setDom n (pushLink { s.dom n with lost := true, bound := Config.unb } 7 0)) s

/-- Entry to SAFE or SEALED (R49, R105, R226, R288, R523). -/
def State.enterSafe (s : State) : State :=
  let s := s.slgEndAll.safeDomains.rshSafe.evoAllIdle
  let s := (tabKeys (fun _ _ => true) s.tsv.xcs).foldl (fun s i => s.xcFree i) s
  s.setTsv { s.tsv with wait := [] }

/-- An attempt on a slot that is not PENDING succeeds (R721). -/
def State.bootProved (s : State) : State :=
  if s.bcb.pending = some s.running ∨ tries s.bcb s.running = 0 then s
  else (s.putBcb (withTries s.bcb s.running 0)).showBoot

/-- Entry to TRACK or STANDBY: the image is proved, and confirmed where AUTO_CONFIRM says so (R737). -/
def State.enterProved (s : State) : State :=
  let first := !s.cpx.proved
  let s := s.setCpx { s.cpx with proved := true }
  if first && s.settings.autoConfirm && s.unconfirmed then s.confirm else s

/-- What a block does at entry to a mode. -/
def State.enterMode (s : State) (old new : Mode) : State :=
  let s := if old = .boot ∧ new ≠ .halted then s.d0Runs.evoAllIdle else s
  match new with
  | .calibrate => s.enterCalibrate
  | .acquire => s.gnbAcquire.rshAcquire.bootProved
  | .track | .standby => s.enterProved
  | .service => s.rshService
  | .safe | .sealed => s.enterSafe
  | _ => s

/-- The mode changes: its entry in the event ledger, CPX_MODE, the entry actions, and what the blocks show. -/
def State.changeMode (s : State) (new : Mode) : State :=
  let old := s.mode
  if old = new then s
  else
    let cause := s.modeCause old new
    let s := s.log 0x00 0xff 0x0001 0 1 ([byte old.code, byte new.code] ++ beBytes 2 cause)
    let s := s.setCpx { s.cpx with mode := new, prev := old, cause := cause }
    let s := (s.enterMode old new).outsFollow.hrlMode.dvfsPoll
    s.refreshAll levelSources

/-! ### The bound update (R28, R85, R87, R232, R700, R703) -/

/-- Calibration has completed (R703). -/
def State.calibrated (s : State) : Bool :=
  bitOf s.cpx.calMask 8 && s.calIdle && s.synState 1 == 4 &&
    (List.range 8).all fun n => !bitOf s.cpx.calMask n || s.synState n == 4 || s.synState n == 7 || s.synState n == 0

/-- One bound update with what hangs on it. RSH leaves a holdover that it may not keep; the mode follows (log entry 39). -/
def State.boundUpdate (s : State) : State :=
  let s := { s with tse := { s.tse with usPhase := 0 } }.updateBounds
  let s := ((List.range 24).foldl (fun s c => s.showFreqOnly c) s).holdJudge
  let s := if s.calibrated then s.setCpx { s.cpx with calDone := true } else s
  (s.changeMode s.targetMode).refreshAll levelSources

/-- BOUND_UPDATE: where 1,250 cycles have passed since the last one. -/
def execBoundUpdate (s : State) : Res :=
  .next (if s.pwr.tseProven ∧ Config.boundPeriod ≤ s.tse.usPhase then s.boundUpdate else s)

/-! ### One cycle (R32, R34, R62, R682) -/

/-- A CLK_TSE cycle: what was left of the last one takes place, every domain advances, the counters of the cycle count, and the
alarms that are due at the start of the next one are marked (log entry 40). -/
def State.tseCycle (s : State) (core : Nat) : State :=
  let s := if Config.boundPeriod ≤ s.tse.usPhase then s.boundUpdate else s
  let s := ((s.drainDue.gppsEdge []).slgEndCycle.applyBumps core).endPulses
  let s := s.learnCycle.synAllCycle
  let u0 := (s.dom 0).acc
  let s := s.advanceAll
  let c0 := (s.dom 0).acc - u0 - Int.ofNat (if (s.dom 0).st = .running then Config.nomAdvance else 0)
  let s := { s with tse := { s.tse with snapped := [], firedNow := [], direct := [], cyc := s.tse.cyc + 1, usPhase := s.tse.usPhase + 1, steer := s.tse.steer + c0 } }
  let s := s.drainImm.slgCycle
  let s := s.expCycle
  let s := s.wr .gnbRxc (s.rd .gnbRxc + 1)
  (s.refreshAll levelSources).markDue

/-- CLK_TSE_CYCLE; `core` is the number of CLK_CORE cycles in it. Nothing passes while CLK_TSE is not proven. -/
def execClkTseCycle (core : Nat) (s : State) : Res := .next (if s.pwr.tseProven then s.tseCycle core else s)

end Sys2Proof.Machine
end

