-- ==== Sys2Proof/Machine/Bus.lean ====
section
/-! DEFINITION. A bus access from its master to its register or location and back: the filter, the gated blocks, the ports that
stall and the bus watchdog, the reads with an effect (R13, R34, R70, R186, R201, R436, R619, R630, R631, R651–R657, R815, R816). -/
namespace Sys2Proof.Machine

/-! ### Reads of registers -/

/-- The bits of a register that a read of a half clears: its RC fields that lie wholly within the half (R815). -/
def rcMask (h : Half) (l : List (Nat × Nat × Acc)) : Word :=
  l.foldl (fun w f =>
    let inside := match h with
      | .full => true
      | .low => decide (f.1 < 32)
      | .high => decide (32 ≤ f.2.1)
    if f.2.2 == .rc && inside then w ||| fieldMask f.1 f.2.1 else w) 0

/-- A read clears the RC fields that it returns (R13). XC_PEAK counts from the XCs in use at the read. -/
def State.clearRc (s : State) (r : RegId) (i j : Nat) (h : Half) : State :=
  let m := rcMask h (regInfo r).fields
  if m = 0 then s
  else
    let s := s.wr r (s.rd r i j &&& ~~~m) i j
    if r = .tsvStat then s.put F.tsvStat_XC_PEAK (max (s.get F.tsvStat_XC_PEAK) (s.get F.tsvStat_XC_BUSY)) else s

/-- A read of a queue's data register (R367, R371, R816); a thread that waits goes first (R368). -/
def State.queueRead (s : State) (m : Master) (q : Nat) (h : Half) : Option (Word × State) :=
  let k := halfKey m
  if h = .high then some (tabGet 0 (s.queue q).half k >>> 32, s)
  else if !(s.qAssign q).qCanGet q m then none
  else
    let s := s.qAssign q
    let w := (s.qHead q).1
    let s := s.qTake q m
    let s := if h = .low then s.setQueue q { s.queue q with half := tabSet 0 (s.queue q).half k w } else s
    some (halfOf h w, s)

/-- A read of a register: its word and what the read does; none where it stalls. -/
def State.regRead (s : State) (m : Master) (r : RegId) (i j : Nat) (h : Half) : Option (Word × State) :=
  let k := halfKey m
  match r with
  | .domTimeSec => let s := if h = .high then s else s.capture m i; some (halfOf h (s.cap m i).sec, s)
  | .gnbTmsg => let s := if i ≠ 0 ∨ h = .high then s else s.captureTmsg m; some (halfOf h (s.tmsgCap m i), s)
  | .emuFifo =>
    let x := tabGet {} s.rim.emus i
    (x.fifo.read k h).map fun e => (e.1, { s with rim := { s.rim with emus := tabSet {} s.rim.emus i { x with fifo := e.2 } } })
  | .gnbTapf => (s.gnb.tapf.read k h).map fun e => (e.1, s.setGnb { s.gnb with tapf := e.2 })
  | .hrlRxf => (s.hrl.rxf.read k h).map fun e => (e.1, s.setHrl { s.hrl with rxf := e.2 })
  | .supLedger => (s.sup.ledger.read k h).map fun e => (e.1, { s with sup := { s.sup with ledger := e.2 } })
  | .txtsFifo => ((s.nport i).txts.read k h).map fun e => (e.1, s.setNport i { s.nport i with txts := e.2 })
  | .qData => s.queueRead m i h
  | _ => some (halfOf h (s.view m r i j), s.clearRc r i j h)

/-! ### Locations that are no register of a table -/

/-- The part of the GNB window that the CP alone accesses (R201). -/
def gnbInner (addr : Nat) : Bool := decide (0x308000 ≤ addr) && decide (addr < 0x310000)

/-- A word of the measurement banks: its offset from 0x1_0000 (R201). -/
def bankAt (addr : Nat) : Option Nat :=
  let o := addr - 0x310000
  if 0x310000 ≤ addr ∧ o < 0x4000 ∧ o % 0x2000 < 0x1840 ∧ o % 8 = 0 then some o else none

/-- The shadow of a Hinge tally: 0 for HRL_LTALLY, k + 1 for NODEk_TALLY (R619). -/
def shadowAt (addr : Nat) : Option Nat :=
  if addr < 0x908000 then none
  else
    match regAt (addr - 0x8000) with
    | some (.hrlLtally, _, _) => some 0
    | some (.nodeTally, k, _) => some (k + 1)
    | _ => none

/-- CP SRAM. -/
def inCpSram (addr : Nat) : Bool := decide (0x3000000 ≤ addr) && decide (addr < 0x3400000)

/-- DSQ instruction SRAM. -/
def inIsram (addr : Nat) : Bool := decide (0x2000000 ≤ addr) && decide (addr < 0x2200000)

/-- What a master's own path leads to besides registers and data SRAM (R653): nothing of it decodes for any master but the CP. -/
def cpOnly (m : Master) (addr : Nat) : Bool :=
  match m with
  | .cp _ => inCpSram addr || inIsram addr || decide (0x4000000 ≤ addr)
  | _ => false

/-- A read by the CP of a location of its own: DRAM, host memory, boot ROM and flash answer with a value that the spec does not
give (log entry 41). -/
def State.cpRead (s : State) (addr : Nat) (h : Half) : Word × State :=
  if inCpSram addr then (halfOf h (tabGet 0 s.cpx.sram (addr / 8)), s)
  else if inIsram addr then
    let a := addr % 0x2000000
    (halfOf h (BitVec.ofNat 64 (s.iword a * 2 ^ 32 + s.iword (a + 4))), s)
  else (halfOf h (BitVec.ofNat 64 s.draw.1), s.draw.2)

/-- A word with the half of a write replaced. -/
def withHalf (h : Half) (old data : Word) : Word := (old &&& ~~~halfMask h) ||| (halfData h data &&& halfMask h)

def State.cpWrite (s : State) (addr : Nat) (h : Half) (data : Word) : State :=
  if inCpSram addr then
    { s with cpx := { s.cpx with sram := tabSet 0 s.cpx.sram (addr / 8) (withHalf h (tabGet 0 s.cpx.sram (addr / 8)) data) } }
  else if inIsram addr then
    let a := addr % 0x2000000
    let w := (withHalf h (BitVec.ofNat 64 (s.iword a * 2 ^ 32 + s.iword (a + 4))) data).toNat
    { s with dsq := { s.dsq with isram := tabSet 0 (tabSet 0 s.dsq.isram (a / 4) (w / 2 ^ 32)) (a / 4 + 1) (w % 2 ^ 32) } }
  else s

/-! ### Serving an access -/

/-- Serve a read: the data, and the state after; none where nothing answers (R656). -/
def State.serveRead (s : State) (a : Access) : Option (Word × State) :=
  if s.gated a.addr then some (0, s)
  else if cpOnly a.m a.addr && a.addr % 8 == 0 then some (s.cpRead a.addr a.h)
  else if inDsram a.addr && a.addr % 8 == 0 then some (halfOf a.h (s.dword a.addr), s)
  else
    match regAt a.addr with
    | some (r, i, j) => if portReg r && !s.leads i then some (0, s) else s.regRead a.m r i j a.h
    | none =>
      if laneWindow a.addr then some (0, s)
      else if gnbInner a.addr then
        (match a.m with
        | .cp _ => some (halfOf a.h (BitVec.ofNat 64 s.draw.1), s.draw.2)
        | _ => some (0, s))
      else
        match bankAt a.addr, shadowAt a.addr with
        | some o, _ => some (halfOf a.h (tabGet 0 s.gnb.bank o), s)
        | none, some k => some (halfOf a.h (tabGet 0 s.hrl.shadow k), s)
        | none, none => none

/-- Serve a write: the state after; none where nothing answers, as at a register that a lane window lacks, of which R436 exempts
reads alone. A direct register write follows the commits of its cycle
(R34). -/
def State.serveWrite (s : State) (a : Access) : Option State :=
  if s.gated a.addr then some s
  else if cpOnly a.m a.addr && a.addr % 8 == 0 then some (s.cpWrite a.addr a.h a.data)
  else if inDsram a.addr && a.addr % 8 == 0 then some (s.setDword a.addr (withHalf a.h (s.dword a.addr) a.data))
  else
    match regAt a.addr with
    | some (r, i, j) =>
      if portReg r && !s.leads i then (if (s.whoOf a.m).pt0 then none else some s)
      else some (s.drainDue.directWrite a.m r i j a.h a.data)
    | none =>
      if (laneWindow a.addr && !(s.whoOf a.m).pt0) || gnbInner a.addr || (bankAt a.addr).isSome || (shadowAt a.addr).isSome then some s else none

/-- The answer of a read reaches its master: a thread that waits for a load has it ready to be written. -/
def State.busAnswer (s : State) (a : Access) (w : Word) : State :=
  match a.m with
  | .thread t =>
    if (s.thr t).await = .bus then s.setThr t { s.thr t with await := .result [(a.rd, w)] [] (s.get F.thrStat_FLAGS t) } else s.emit (.readData a.m w)
  | _ => s.emit (.readData a.m w)

/-- Serve an access; an access that nothing answers stalls its master port. -/
def State.serve (s : State) (a : Access) : State :=
  let hang := s.setPar { s.par with stalls := tabSet none s.par.stalls (portCode a.m) (some a) }
  if a.write then (s.serveWrite a).getD hang
  else
    match s.serveRead a with
    | some (w, s) => s.busAnswer a w
    | none => hang

/-- An access at its master port: behind a stalled one it waits (R328, R656). -/
def State.access (s : State) (a : Access) : State :=
  let c := portCode a.m
  match tabGet none s.par.stalls c with
  | some _ => s.setPar { s.par with behind := tabSet [] s.par.behind c (tabGet [] s.par.behind c ++ [a]) }
  | none => s.serve a

/-! ### The filter of the endpoint (R651) -/

/-- A function's access is refused and counted. -/
def State.deny (s : State) (f : Nat) (write : Bool) : State :=
  let s := s.bump F.parFnStat_DENY 1 f
  if write then s else s.emit (.unsupported (.fn f))

/-- An access from outside: not while the chip is in reset or its boot has halted (R22); a function's passes the filter, and not while PERST# is low (R699);
a thread's stays within what it reaches; the DMA engine has no path to a register (R653). -/
def State.bus (s : State) (a : Access) : State :=
  if s.deaf then s
  else
    match a.m with
    | .fn f =>
      if s.par.perstLow || decide (8 < f) then s
      else if s.fnReaches f a.addr then s.access a
      else s.deny f a.write
    | .thread t => if decide (t < 128) && s.thrReaches t a.addr then s.access a else s
    | .cp _ => s.access a
    | .dma => s

/-- A read of register (i, j) of a family. -/
def State.readOf (s : State) (m : Master) (r : RegId) (i j : Nat) (h : Half) : State :=
  if i < (regInfo r).ni ∧ j < (regInfo r).nj then s.bus { m := m, write := false, addr := regAddr r i j, h := h } else s

/-- A write of register (i, j) of a family. -/
def State.writeOf (s : State) (m : Master) (r : RegId) (i j : Nat) (h : Half) (data : Word) : State :=
  if i < (regInfo r).ni ∧ j < (regInfo r).nj then
    s.bus { m := m, write := true, addr := regAddr r i j, h := h, data := data }
  else s

/-! ### MSI-X tables (R630, R631) -/

def State.msixEntry (s : State) (f v : Nat) : MsixEntry := tabGet {} s.par.msix (f * 2048 + v)

def State.setMsix (s : State) (f v : Nat) (e : MsixEntry) : State :=
  s.setPar { s.par with msix := tabSet {} s.par.msix (f * 2048 + v) e }

/-- One message for the events of a vector that came while it was masked. -/
def State.msixFlush1 (s : State) (f v : Nat) : State :=
  let c := tabGet {} s.par.msixCtl f
  let e := s.msixEntry f v
  if e.pend && c.en && !c.fmask && !e.masked then (s.setMsix f v { e with pend := false }).emit (.msix f v e.addr e.data) else s

/-- The messages that a function owes. -/
def State.msixFlush (s : State) (f : Nat) : State :=
  (tabKeys (fun k e => k / 2048 == f && e.pend) s.par.msix).foldl (fun s k => s.msixFlush1 f (k % 2048)) s

/-- A write of the MSI-X table: entries of 16 bytes, the address, then the data and the mask. -/
def State.msixWrite (s : State) (f addr : Nat) (h : Half) (data : Word) : State :=
  let v := addr / 16
  let e := s.msixEntry f v
  if 0x8000 ≤ addr then s
  else if addr % 16 = 0 then s.setMsix f v { e with addr := (withHalf h (BitVec.ofNat 64 e.addr) data).toNat }
  else if addr % 16 = 8 then
    let w := withHalf h (BitVec.ofNat 64 (e.data + natB e.masked * 2 ^ 32)) data
    (s.setMsix f v { e with data := bitsOf w 31 0, masked := bitsOf w 32 32 == 1 }).msixFlush1 f v
  else s

/-- A write of Message Control: [15] MSI-X Enable, [14] Function Mask. -/
def State.msixControl (s : State) (f : Nat) (data : Word) : State :=
  (s.setPar { s.par with
    msixCtl := tabSet {} s.par.msixCtl f { en := bitsOf data 15 15 == 1, fmask := bitsOf data 14 14 == 1 } }).msixFlush f

/-- MSIX_UNMASK (R631): vector v, or with none the function mask. -/
def execMsixUnmask (f : Nat) (v : Option Nat) (s : State) : Res :=
  .next (if decide (8 < f) || s.par.perstLow || s.deaf then s
    else
      match v with
      | some v => if v < 2048 then (s.setMsix f v { s.msixEntry f v with masked := false }).msixFlush1 f v else s
      | none =>
        (s.setPar { s.par with msixCtl := tabSet {} s.par.msixCtl f { tabGet {} s.par.msixCtl f with fmask := false } }).msixFlush f)

/-! ### Writes -/

/-- REGISTER_WRITE (R13): any write of a master, of the register map, its MSI-X table or its MSI-X control. -/
def execRegisterWrite (m : Master) (sp : Space) (addr : Nat) (h : Half) (data : Word) (s : State) : Res :=
  .next (match sp, m with
    | .map, _ => s.bus { m := m, write := true, addr := addr, h := h, data := data }
    | .msixTable, .fn f => if decide (8 < f) || s.par.perstLow || s.deaf then s else s.msixWrite f addr h data
    | .msixCtl, .fn f => if decide (8 < f) || s.par.perstLow || s.deaf then s else s.msixControl f data
    | _, _ => s)

def execInputCfgWrite (m : Master) (n : Nat) (nom : Bool) (h : Half) (data : Word) (s : State) : Res :=
  .next (s.writeOf m (if nom then .inNom else .inCfg) n 0 h data)
def execGspCfgWrite (m : Master) (n : Nat) (lo : Bool) (h : Half) (data : Word) (s : State) : Res :=
  .next (s.writeOf m (if lo then .gspLo else .gspCfg) n 0 h data)
def execQueuePush (m : Master) (q : Nat) (h : Half) (data : Word) (s : State) : Res := .next (s.writeOf m .qPush q 0 h data)
def execQueuePushEnd (m : Master) (q : Nat) (h : Half) (data : Word) (s : State) : Res := .next (s.writeOf m .qPushEnd q 0 h data)
def execQueueCfgWrite (m : Master) (q : Nat) (h : Half) (data : Word) (s : State) : Res := .next (s.writeOf m .qCfg q 0 h data)
def execSlgRingEnable (m : Master) (p : Nat) (ckpt : Bool) (h : Half) (data : Word) (s : State) : Res :=
  .next (s.writeOf m (if ckpt then .slgCringCfg else .slgPringCfg) p 0 h data)
def execTsvTableEnable (m : Master) (police : Bool) (h : Half) (data : Word) (s : State) : Res :=
  .next (s.writeOf m (if police then .tsvPolice else .tsvAssoc) 0 0 h data)
def execPartitionEnableWrite (m : Master) (p : Nat) (h : Half) (data : Word) (s : State) : Res :=
  .next (s.writeOf m .parPtCfg p 0 h data)
def execRingDoorbell (m : Master) (f r : Nat) (h : Half) (data : Word) (s : State) : Res :=
  .next (s.writeOf m .ringSqIdx f r h data)
def execRingEnable (m : Master) (f r : Nat) (h : Half) (data : Word) (s : State) : Res :=
  .next (s.writeOf m .ringCfg f r h data)
def execFaultDeviceClear (m : Master) (h : Half) (data : Word) (s : State) : Res := .next (s.writeOf m .supFstat0 0 0 h data)
def execFaultPartitionClear (m : Master) (p : Nat) (h : Half) (data : Word) (s : State) : Res :=
  .next (s.writeOf m .supPfstat p 0 h data)
def execHeartbeatWrite (m : Master) (h : Half) (data : Word) (s : State) : Res := .next (s.writeOf m .supHb 0 0 h data)
def execPeripheralEnableWrite (m : Master) (h : Half) (data : Word) (s : State) : Res := .next (s.writeOf m .pwrEn 0 0 h data)
def execFmcStart (m : Master) (h : Half) (data : Word) (s : State) : Res := .next (s.writeOf m .pwrFmcCtl 0 0 h data)
def execDvfsTargetWrite (m : Master) (h : Half) (data : Word) (s : State) : Res := .next (s.writeOf m .pwrDvfs 0 0 h data)

/-! ### Reads -/

/-- A read that includes bit 0 of DOMn_TIME_SEC captures the domain (R70, R72). -/
def execDomainTimeCapture (m : Master) (dom : Nat) (h : Half) (s : State) : Res := .next (s.readOf m .domTimeSec dom 0 h)
def execGnbTmsgCapture (m : Master) (h : Half) (s : State) : Res := .next (s.readOf m .gnbTmsg 0 0 h)
def execEmuFifoRead (m : Master) (emu : Nat) (h : Half) (s : State) : Res := .next (s.readOf m .emuFifo emu 0 h)
def execGnbTapfRead (m : Master) (h : Half) (s : State) : Res := .next (s.readOf m .gnbTapf 0 0 h)
def execTxtsFifoRead (m : Master) (port : Nat) (h : Half) (s : State) : Res := .next (s.readOf m .txtsFifo port 0 h)
def execHrlRxfRead (m : Master) (h : Half) (s : State) : Res := .next (s.readOf m .hrlRxf 0 0 h)
def execSupLedgerRead (m : Master) (h : Half) (s : State) : Res := .next (s.readOf m .supLedger 0 0 h)
def execQueueDataRead (m : Master) (q : Nat) (h : Half) (s : State) : Res := .next (s.readOf m .qData q 0 h)
def execEmuStatReadClear (m : Master) (emu : Nat) (h : Half) (s : State) : Res := .next (s.readOf m .emuStat emu 0 h)
def execGnbTstatReadClear (m : Master) (h : Half) (s : State) : Res := .next (s.readOf m .gnbTstat 0 0 h)
def execGnbNavStatReadClear (m : Master) (h : Half) (s : State) : Res := .next (s.readOf m .gnbNavStat 0 0 h)
def execSynStatReadClear (m : Master) (n : Nat) (h : Half) (s : State) : Res := .next (s.readOf m .synStat n 0 h)
def execEvoStatReadClear (m : Master) (v : Nat) (h : Half) (s : State) : Res := .next (s.readOf m .evoStat v 0 h)
def execDsqStatReadClear (m : Master) (h : Half) (s : State) : Res := .next (s.readOf m .dsqStat 0 0 h)
def execQueueStatReadClear (m : Master) (q : Nat) (h : Half) (s : State) : Res := .next (s.readOf m .qStat q 0 h)
def execTsvStatReadClear (m : Master) (h : Half) (s : State) : Res := .next (s.readOf m .tsvStat 0 0 h)
def execTsvDropReadClear (m : Master) (p : Nat) (h : Half) (s : State) : Res := .next (s.readOf m .tsvDrop p 0 h)
def execTsvErrReadClear (m : Master) (p : Nat) (h : Half) (s : State) : Res := .next (s.readOf m .tsvErr p 0 h)
def execKvcCacheStatReadClear (m : Master) (h : Half) (s : State) : Res := .next (s.readOf m .kvcCacheStat 0 0 h)
def execVsPinsReadClear (m : Master) (v : Nat) (h : Half) (s : State) : Res := .next (s.readOf m .vsPins v 0 h)
def execHrlLtallyReadClear (m : Master) (h : Half) (s : State) : Res := .next (s.readOf m .hrlLtally 0 0 h)
def execNodeTallyReadClear (m : Master) (k : Nat) (h : Half) (s : State) : Res := .next (s.readOf m .nodeTally k 0 h)
def execParStatReadClear (m : Master) (h : Half) (s : State) : Res := .next (s.readOf m .parStat 0 0 h)
def execParFnStatReadClear (m : Master) (f : Nat) (h : Half) (s : State) : Res := .next (s.readOf m .parFnStat f 0 h)
def execParBusCntReadClear (m : Master) (h : Half) (s : State) : Res := .next (s.readOf m .parBusCnt 0 0 h)
def execLedgerStatReadClear (m : Master) (h : Half) (s : State) : Res := .next (s.readOf m .supLedgerStat 0 0 h)
def execFcntReadClear (m : Master) (n : Nat) (h : Half) (s : State) : Res := .next (s.readOf m .supFcnt n 0 h)
def execTbStatReadClear (m : Master) (b : Nat) (h : Half) (s : State) : Res := .next (s.readOf m .tbStat b 0 h)
def execTbPeakReadClear (m : Master) (b i : Nat) (h : Half) (s : State) : Res := .next (s.readOf m .tbPeak b i h)
def execExpStatReadClear (m : Master) (h : Half) (s : State) : Res := .next (s.readOf m .npaExpStat 0 0 h)
def execSlgStatReadClear (m : Master) (p : Nat) (h : Half) (s : State) : Res := .next (s.readOf m .slgPStat p 0 h)
def execPwrClkCntReadClear (m : Master) (h : Half) (s : State) : Res := .next (s.readOf m .pwrClkCnt 0 0 h)
def execPwrDvfsReadClear (m : Master) (h : Half) (s : State) : Res := .next (s.readOf m .pwrDvfs 0 0 h)
def execPwrTempReadClear (m : Master) (h : Half) (s : State) : Res := .next (s.readOf m .pwrTemp 0 0 h)

/-- WINDOW_DENY (R651): a function's access that its windows do not admit. -/
def execWindowDeny (f addr : Nat) (write : Bool) (s : State) : Res :=
  .next (if decide (8 < f) || s.par.perstLow || s.deaf || s.fnReaches f addr then s else s.deny f write)

/-! ### The bus watchdog (R656) -/

/-- The target of an address (PAR_BUS_HUNG.TARGET). -/
def targetOf (addr : Nat) : Nat :=
  if regWindow addr then 0 else if inIsram addr then 1 else if inDsram addr then 2 else if inCpSram addr then 3 else 15

/-- A reset of a master port: recorded, counted, BUSWD. -/
def State.hungNote (s : State) (code target f addr part : Nat) (write : Bool) : State :=
  let w := showAs [(F.parBusHung_MASTER, code), (F.parBusHung_TARGET, target), (F.parBusHung_WRITE, natB write),
    (F.parBusHung_FUNC, f), (F.parBusHung_ADDR, addr)]
  ((s.wr .parBusHung w).bump F.parBusCnt_HUNG 1).pulse 56 part (if code = 1 then f else 0xff)

/-- What the master of the reset access sees. -/
def State.hungResult (s : State) (a : Access) : State :=
  match a.m with
  | .cp _ => if a.write then s else { s.emit (.nmi 1 a.addr) with cpx := { s.cpx with nmis := (1, a.addr) :: s.cpx.nmis } }
  | .fn f => if a.write then s else s.emit (.unsupported (.fn f))
  | .thread t => if s.isStarted t then s.faultThr t 5 0 a.pc (BitVec.ofNat 64 a.addr) else s
  | .dma => s

/-- What a reset of the DMA engine's access does to its work. -/
def State.hungDma (s : State) (job : DmaJob) : State :=
  match job with
  | .payload f r =>
    (match s.started f r with
    | some x => s.completeRing f r x.opcode .timeout []
    | none => s)
  | .result f r =>
    (match s.started f r with
    | some x => s.setStarted f r (some { x with lost := true })
    | none => s)
  | .fetch f r => s.ringFail f r
  | .page port => s.pageSeal port true
  | .checkpoint part => s.checkpointBuild part true

/-- The DMA engine's access was a write. -/
def dmaWrites : DmaJob → Bool
  | .payload .. | .fetch .. => false
  | _ => true

/-- The accesses that waited behind a reset one proceed, up to one that stalls the port again. -/
def State.replay (s : State) (c : Nat) : State :=
  let l := tabGet [] s.par.behind c
  let s := s.setPar { s.par with behind := tabSet [] s.par.behind c [] }
  l.foldl (fun s a => s.access a) s

/-- BUS_WATCHDOG_EXPIRE of a master port: its stalled access is reset. A stalled access of the DMA engine comes with what it was
for and its address (log entry 42). -/
def execBusWatchdogExpire (code : Nat) (job : DmaJob) (addr : Nat) (s : State) : Res :=
  .next (if s.cpx.inReset then s
    else if code = 10 then (s.hungNote 10 7 0 addr 0 (dmaWrites job)).hungDma job
    else
      match tabGet none s.par.stalls code with
      | none => s
      | some a =>
        let s := s.setPar { s.par with stalls := tabSet none s.par.stalls code none }
        let f := match a.m with
          | .fn f => f
          | _ => 0
        let s := s.hungNote code (targetOf a.addr) f a.addr (s.mPart a.m) a.write
        (s.hungResult a).replay code)

end Sys2Proof.Machine
end

