-- ==== Sys2Proof/Machine/Resets.lean ====
section
/-! DEFINITION. Chip resets: what they keep, what causes them, and the supervisor's fallback (R667, R697–R699, R758–R760). -/
namespace Sys2Proof.Machine

/-- The registers of the VBAT domain (R534, R567): the tamper configuration, its limits, the cause of the last zeroisation. -/
def State.vbatRegs (old s : State) : State :=
  let s := (s.wr .kvcTamperCfg (old.rd .kvcTamperCfg)).wr .kvcTempLim (old.rd .kvcTempLim)
  (s.wr .kvcTamperCause (old.rd .kvcTamperCause)).putB F.kvcStat_ZEROISED (old.getB F.kvcStat_ZEROISED)

/-- What every chip reset leaves of a state (R698): the VBAT domain, the boot flash, the fuses; the tamper sources that VBAT
powers stay tripped. The queue of commands and what has been given to the outside world are no state of the chip. -/
def State.chipReset (old : State) : State :=
  old.vbatRegs
    { out := old.out, freeCtr := old.freeCtr, pending := old.pending,
      kvc := { root := old.kvc.root, epoch := old.kvc.epoch, crcOk := old.kvc.crcOk, tripped := old.kvc.tripped % 64 },
      cpx := { flash := old.cpx.flash, owner := old.cpx.owner, svnBurnt := old.cpx.svnBurnt },
      par := { perstLow := old.par.perstLow },
      pwr := { hours := old.pwr.hours, stressN := old.pwr.stressN, stressSum := old.pwr.stressSum, means := old.pwr.means } }

/-- The cold reset: PORn or PWRGOOD is low. -/
def State.coldReset (s : State) : State := s.chipReset

/-- The outstanding reads of the host, oldest first: a read is the non-posted request of a function. -/
def State.hostReads (s : State) : List Access :=
  let wait := s.par.stalls.filterMap (fun e => e.2) ++ s.par.behind.flatMap fun e => e.2
  wait.filter fun a => !a.write && (match a.m with | .fn _ => true | _ => false)

/-- The warm reset (R698) with its WARM_CAUSE: it keeps the event ledger with what is staged for it, SUP_FSTAT0, SUP_AON, the
MSI-X state and the oscillators that run by themselves; every outstanding request of the host ends with Unsupported Request. -/
def State.warmReset (old : State) (cause : Nat) : State :=
  let s := old.hostReads.foldl (fun s a => s.emit (.unsupported a.m)) old
  let s := s.chipReset
  let s := { s with
    sup := { staged := old.sup.staged, ledger := old.sup.ledger }
    par := { msix := old.par.msix, msixCtl := old.par.msixCtl, perstLow := old.par.perstLow } }
  let s := s.setPwr { s.pwr with sysxo := old.pwr.sysxo, irc := { old.pwr.irc with run := true },
                                 noFallback := old.pwr.noFallback }
  let s := s.wr .supLedgerStat (old.rd .supLedgerStat)
  let s := ((s.wr .supFstat0 (old.rd .supFstat0)).wr .supAon (old.rd .supAon)).faultCycle
  (s.putB F.cpxBoot_RESET_KIND true).put F.cpxBoot_WARM_CAUSE cause

/-- COLD_RESET (R697). -/
def execColdReset (s : State) : Res := .next s.coldReset

/-- WARM_RESET (R698): the warm reset that DEV_RESET or FW_ACTIVATE has announced. -/
def execWarmReset (s : State) : Res :=
  .next (match s.cpx.warmPend with
    | some c => s.warmReset c
    | none => s)

/-- CHIP_RESET_REACTION (R667): the reset that an onset has asked for, counted; or, as the fourth, ESCALATED. -/
def execChipResetReaction (s : State) : Res :=
  .next (match s.sup.chipPend with
    | none => s
    | some (n, true) =>
      let s := { s with sup := { s.sup with chipPend := none } }
      (s.putB F.supAon_ESCALATED true).log 0x0a 0xff 0x0a03 0 4 [byte n]
    | some (n, false) =>
      ((s.bump F.supAon_RST_CNT 1).put F.supAon_LAST_FS n).warmReset 1)

/-- IRC_FALLBACK_TIMEOUT (R758, R759): 66 AON cycles without IRC. In RESET the supervisor drives nFAULT low and starts IRC
again; while a clock domain waits, it latches CLK_NO_FALLBACK and performs a warm reset. -/
def execIrcFallbackTimeout (s : State) : Res :=
  .next (
    if s.pwr.irc.proven then s
    else if s.cpx.inReset then s.setPwr { s.pwr with noFallback := true, irc := { run := true } }
    else if s.pwr.ircWait then
      ((s.setPwr { s.pwr with noFallback := true }).putB F.supAon_CLK_NO_FALLBACK true).warmReset 4
    else s)

end Sys2Proof.Machine
end

