-- ==== Sys2Proof/Machine/Boot.lean ====
section
/-! DEFINITION. Boot: the slot that the boot ROM chooses, the measurements, the settings, the clocks, and what CP firmware brings
back (R717–R723, R727, R728, R747, R759, R760). -/
namespace Sys2Proof.Machine

/-! ### The choice of a slot (R718) -/

/-- What the boot ROM writes and boots: the block before the attempt is counted, and the slot; none where it halts. -/
def State.bootChoice (s : State) : Option (Bcb × Nat) :=
  let b := s.bcb
  let ok (b : Bcb) (k : Nat) : Bool := decide (tries b k < 3) && s.imgVerifies (s.slotImg k)
  let k := b.pending.getD b.active
  if ok b k then some (b, k)
  else
    let b := { withTries b k 3 with pending := none, fallback := true }
    if ok b (1 - k) then some (b, 1 - k) else none

/-! ### Settings (R727, R728) -/

/-- The loader migrates the copy at position `k` to the other position. -/
def State.migrate (s : State) (k sfmt : Nat) : State :=
  let f := s.cpx.flash
  match (if k = 0 then f.set0 else f.set1) with
  | none => s
  | some c =>
    let n : SetCopy := { sfmt := sfmt, state := 1, seq := (c.seq + 1) % 2 ^ 32, body := Config.migratedBody c.body sfmt,
                         digest := Config.migrated c.digest sfmt }
    let old := some { c with state := 2 }
    let f := if k = 0 then { f with set0 := old, set1 := some n } else { f with set1 := old, set0 := some n }
    (s.setCpx { s.cpx with flash := f, setPos := 1 - k }).putB F.cpxBoot_MIGRATED true

/-- The settings that the image `b` uses. The ledger entry's code is open. -/
def State.loadSettings (s : State) (b : List Byte) : State :=
  let s := s.setCpx { s.cpx with factory := Config.factorySettings (imgPart b 3) }
  match copyFor s.cpx.flash (nn b 12 2) with
  | some k => s.setCpx { s.cpx with setPos := k }
  | none =>
    match copyToMigrate s.cpx.flash (nn b 14 2) (nn b 12 2) with
    | some k => s.migrate k (nn b 12 2)
    | none => (s.draw.2.putB F.cpxBoot_SETTINGS_DEFAULT true).log 0x00 0xff (s.draw.1 % 2 ^ 16) 0xff 1 []

/-- The measurement of the settings: of the copy in use, or of the factory settings component. -/
def State.setMeas (s : State) (b : List Byte) : BitVec 384 :=
  match s.setCopy with
  | some c => c.digest
  | none => Config.sha384 (imgPart b 3)

/-! ### Clocks (R747, R748, R759) and SYN0 (R270) -/

/-- The reference that REF_SYS and SYN0 start on, and the clock domains on IRC. RIM_AOI_IN comes from the settings (R112). -/
def State.bootClocks (s : State) : State :=
  let aoiIn := (s.settings.regs.find? (·.1 == regAddr .rimAoiIn 0 0)).map (·.2)
  let s := s.wr .rimAoiIn (aoiIn.getD 0 &&& 63)
  let s := s.putB F.pwrClkStat_REF_SYS (!s.pwr.sysxo.proven)
  let s := s.putB F.pwrClkStat_SYN0_REF (s.getB F.rimAoiIn_VALID && s.pwr.aoi.proven)
  (s.setPwr { s.pwr with core := { src := .irc }, sup := { src := .irc }, noFallback := false }).startLocks

/-- CP firmware configures SYN0: 1.25 GHz on the local oscillator, by a full search. -/
def State.bootSyn0 (s : State) : State :=
  ((s.put F.synFreq_TARGET_F (hz24 1250000000) 0).put F.synCfg_REF_MODE 3 0).startSearch 0

/-! ### BOOT_ROM_START -/

/-- The onset of FS51 that a reset of the supervisor leaves behind (R760). -/
def State.noFallbackOnset (s : State) : State :=
  if s.get F.cpxBoot_WARM_CAUSE = 4 then
    (s.put F.supFstat0_D (withBit (s.get F.supFstat0_D) 51)).stageOnset 51 0xff 0xff 24 false true
  else s

/-- What KVC and the random keys are at the end of reset (R510, R526, R565, R647). -/
def State.bootKeys (s : State) : State :=
  let s := s.putB F.kvcStat_ROOT_VALID s.kvc.crcOk
  let s := s.put F.kvcStat_ROOT_EPOCH s.kvc.epoch
  let s := s.newNonce.showOwner
  let s := s.draw.2.setPar { s.draw.2.par with histKey := s.draw.1 }
  { s.draw.2 with tsv := { s.draw.2.tsv with hashKey := s.draw.1 } }

/-- The attempt on slot k begins: counted, measured, its settings chosen. -/
def State.bootSlot (s : State) (b : Bcb) (k : Nat) : State :=
  let s := s.putBcb (withTries b k (tries b k + 1))
  let s := (s.showImg k true).showImg (1 - k) (s.imgVerifies (s.slotImg (1 - k)))
  let s := s.put F.cpxBoot_SLOT k
  let img := s.slotImg k
  let s := (s.extend 0 (Config.sha384 (Config.romVersion ++ Config.fuseWords))).extend 1 (Config.sha384 (imgPart img 1))
  let s := s.extend 3 (Config.sha384 (img.take 512 ++ [byte k, byte (if b.fallback then 1 else 0)]))
  let s := (s.extend 2 (Config.sha384 (imgPart img 2))).loadSettings img
  let o := s.cpx.owner
  let s := s.extend 4 (s.setMeas img)
  (s.extend 5 (Config.sha384 (Config.ownerBytes o.set o.lock o.csig o.seq o.key o.pt0Key))).bootClocks.bootSyn0.showBoot

/-- The reset is released: BOOT, and the boot ROM chooses and verifies a slot, or halts (R718, R719). -/
def State.bootRom (s : State) : State :=
  let s := s.setCpx { s.cpx with inReset := false }
  let s := s.bootKeys.noFallbackOnset
  let s := s.changeMode .boot
  match s.bootChoice with
  | some (b, k) => s.bootSlot b k
  | none => (s.setCpx { s.cpx with halted := true }).changeMode .halted

/-- BOOT_ROM_START: once IRC is proven; `flash` is what an external programmer has left in the boot flash, where it has changed
it (R711). -/
def execBootRomStart (flash : Option Flash) (s : State) : Res :=
  .next (if !s.cpx.inReset || !s.pwr.irc.proven then s
    else (match flash with | some f => s.setCpx { s.cpx with flash := f } | none => s).bootRom)

/-! ### JTAG (R22, R805) -/

/-- IDCODE: the silicon revision, 0x1280, the JEP106 identity and 1. -/
def idcode : Nat := Config.siliconRev % 16 * 2 ^ 28 + 0x1280 * 2 ^ 12 + Config.jep106 % 2 ^ 11 * 2 + 1

/-- The data register that the instruction in force selects, its length and what a capture loads into it; while boot is halted only
IDCODE and BYPASS act. -/
def State.jtagCapture (s : State) : Nat × Nat :=
  if s.jtag.ir = 1 then (32, idcode)
  else if (s.jtag.ir = 0 ∨ s.jtag.ir = 2) ∧ !s.cpx.halted then (684, s.jtag.boundary)
  else (1, 0)

/-! ### BOOT_COMPLETE -/

/-- One register of the settings store, written as the CP writes it. -/
def State.bootReg (s : State) (e : Nat × Word) : State :=
  match regAt e.1 with
  | some (r, i, j) => if r = .rimAoiIn then s else s.directWrite (.cp 0) r i j .full e.2
  | none => s

/-- A PERSIST slot is loaded again (R552, R558); one that fails its checks stays EMPTY. -/
def State.bootKey (s : State) (k : KeptKey) : State :=
  if 256 ≤ k.slot then s else
  let s := s.put F.vsCfg_PART k.part k.slot
  let s1 := if s.getB F.kvcBlobBase_EN ∧ s.kvcOk ∧ (firstFail (s.loadChecks k.slot k.blob (nn k.blob 8 3))).isNone then
      s.keyInstall k.slot k.blob true
    else s
  s1.put F.vsCfg_LAST_GEN (max k.lastGen (s1.get F.vsCfg_LAST_GEN k.slot)) k.slot

/-- A Dravik image of the settings store is checked, measured and loaded (R343, R344, R723). -/
def State.bootImage (s : State) (b : List Byte) : State :=
  if drvForm b && (!drvPriv b || drvPart b == 0) && (firstFail (s.drvChecks b)).isNone then (s.drvMeasure b).drvInstall b true else s

/-- The powered hours, and with them the junction temperature over them, come back (R775, R777, PWR_STRESS). -/
def State.bootStress (s : State) : State :=
  let s := s.put F.pwrStress_POWER_HOURS s.pwr.hours
  if s.pwr.stressN = 0 then s else s.put F.pwrStress_TJ_EQ (Config.arrheniusInv s.pwr.stressSum s.pwr.stressN)

/-- Everything that CP firmware brings back: its registers, PERSIST slots, Dravik images, the held position, the wear figures. -/
def State.bootConfig (s : State) : State :=
  let x := s.settings
  let s := s.bootStress
  let s := x.regs.foldl (fun s e => s.bootReg e) s
  let s := x.persist.foldl (fun s k => s.bootKey k) s
  let s := x.images.foldl (fun s b => s.bootImage b) s
  match x.pos with
  | some (a, b, c, u) => s.holdAt a b c u
  | none => s

/-- The tests of KVC (R562, R563) and the derivation of the keys (R539). -/
def State.bootKvc (s : State) (rngOk kat : Bool) : State :=
  let s := (s.putB F.kvcStat_RNG_OK rngOk).putB F.kvcStat_KAT_OK kat
  let s := s.setKvc { s.kvc with rngFail := !rngOk, katFail := !kat,
                                 derived := if s.getB F.kvcStat_ROOT_VALID then .all else .none }
  s.refreshAll [41, 42]

/-- BOOT_COMPLETE (R720): once SYN0 is LOCKED; the sequencer moves on in its next evaluation (R700, R709). -/
def execBootComplete (rngOk kat : Bool) (s : State) : Res :=
  .next (if s.mode ≠ .boot ∨ s.synState 0 ≠ 4 then s
    else
      let s := (s.bootKvc rngOk kat).bootConfig
      let s := if s.getB F.kvcStat_ROOT_VALID then s.extend 14 s.idMeas else s
      s.showBoot.setCpx { s.showBoot.cpx with booted := true })

end Sys2Proof.Machine
end

