-- ==== Sys2Proof/Machine/Domains.lean ====
section
/-! DEFINITION. The commands of TSE on domains: DOM_CONFIG, DOM_SEED, DOM_START, DOM_STOP, DOM_STEP and DOM_SLEW (R54–R69,
R101–R104). -/
namespace Sys2Proof.Machine

/-- DOM_CONFIG (0x10). The parent is judged for its range whatever the kind, which the manual does not say of the kinds other than
DERIVED (log entry 49). -/
def execDomConfig (c : Caller) (dom kind parent owner : Nat) (s : State) : Res :=
  .next (s.runCmd c 0x10
    [notOwner s c, (dom == 0 || decide (32 ≤ dom) || decide (8 ≤ owner) || decide (32 ≤ parent), .badArg),
     (kindOfCode kind == none || kind == 1, .badArg), (kind == 3 && decide (dom ≤ parent), .badArg),
     ((s.dom dom).st == .running || (s.dom dom).st == .held, .busy), domFree s dom]
    (s.domConfig dom kind parent owner))

def execDomSeed (c : Caller) (dom : Nat) (t : TimeVal) (bound : Nat) (s : State) : Res :=
  .next (s.runCmd c 0x11
    [notOwner s c, (dom == 0 || decide (32 ≤ dom) || !tvOk t || decide (2 ^ 64 ≤ bound), .badArg),
     ((s.dom dom).st == .off, .badArg), domFree s dom]
    (s.domSeed dom (tvTicks t) bound (s.cPart c)))

def execDomStart (c : Caller) (dom : Nat) (s : State) : Res :=
  .next (s.runCmd c 0x12
    [notOwner s c, (dom == 0 || decide (32 ≤ dom), .badArg), ((s.dom dom).st == .off, .badArg),
     ((s.dom dom).st == .held, .busy), domFree s dom]
    (if (s.dom dom).st = .stopped then
      (if s.pwr.tseProven then s.resumeDom dom else (s.setDom dom { s.dom dom with st := .held }).refresh 4)
     else s))

def execDomStop (c : Caller) (dom : Nat) (s : State) : Res :=
  .next (s.runCmd c 0x13
    [notOwner s c, (dom == 0 || decide (32 ≤ dom), .badArg), ((s.dom dom).st == .off, .badArg), domFree s dom]
    (if (s.dom dom).st = .stopped then s else (s.freezeDom dom .stopped).refresh 4))

/-- The owner's steps and slews reach the domains whose phase the owner changes: DERIVED and STEERED (R54). Those of any other kind
are refused with BAD_ARG (log entry 49). -/
def State.ownerMoves (s : State) (n : Nat) : Bool := (s.dom n).kind == .derived || (s.dom n).kind == .steered

def execDomStep (c : Caller) (dom : Nat) (ticks : Int) (s : State) : Res :=
  .next (s.runCmd c 0x14
    ([(dom == 0 || decide (32 ≤ dom) || !fits64 ticks, .badArg), ((s.dom dom).st == .off, .badArg)] ++
      ofPart s c (s.dom dom).owner ++ [(!s.ownerMoves dom, .badArg)])
    (s.stepDom dom ticks (s.cPart c)))

/-- DOM_SLEW (R64, R65). The sum of remainders is exact; the register shows it clipped. -/
def execDomSlew (c : Caller) (dom : Nat) (ticks : Int) (unc slewMax : Nat) (s : State) : Res :=
  .next (s.runCmd c 0x15
    ([(dom == 0 || decide (32 ≤ dom) || !fits64 ticks || decide (2 ^ 64 ≤ unc), .badArg), ((s.dom dom).st == .off, .badArg)] ++
      ofPart s c (s.dom dom).owner ++
      [(!s.ownerMoves dom, .badArg), (decide (2 ^ 47 - 1 < slewMax + (s.dom dom).foff.natAbs), .badArg)])
    (s.setDom dom (bookSlew (s.dom dom) ticks unc slewMax)))

end Sys2Proof.Machine
end

