-- ==== Sys2Proof/Machine/Isa.lean ====
section
/-! DEFINITION. What each Dravik instruction does (R297–R340, R354, R355). -/
namespace Sys2Proof.Machine

/-- A Dravik instruction with its fields. `imm` is the immediate as R307 extends it; a branch target is a byte offset. -/
inductive DIns
  | alu (fn rd ra rb : Nat)
  | aluImm (fn rd ra : Nat) (imm : Word)
  | shi (ty rd ra amount : Nat)
  | li (rd : Nat) (imm : Word)
  | liu (rd v : Nat)
  | fmul (rd ra rb rm : Nat)
  | fmac (rd ra rb rm : Nat)
  | sat (rd ra rb : Nat)
  | itof (rd ra : Nat)
  | ftoi (rd ra rm : Nat)
  | load (wide : Bool) (rd ra : Nat) (imm : Word)
  | store (wide : Bool) (rs ra : Nat) (imm : Word)
  | tread (tn dom : Nat)
  | tsnap (tn count gs : Nat)
  | tadd (tn ta gs : Nat) (ns : Bool)
  | tsub (gd ta tb : Nat) (wb : Option Nat)
  | tcmp (ta tb : Nat) (bnd : Bool)
  | twait (tn gd : Nat)
  | temit (tn gd gs : Nat)
  | tget (gd tn field : Nat)
  | tset (tn gs field : Nat)
  | qput (gs q : Nat) (fin nb : Bool)
  | qget (gd q : Nat) (nb : Bool)
  | qcnt (gd q : Nat)
  | ebegin (gd : Nat)
  | ewr (gd ga gs e : Nat)
  | ecommit (gd e : Nat) (at' : Option Nat) (late : Bool)
  | eabort (gd e : Nat)
  | pcmd (gd ga cmd : Nat)
  | kmac (gd ga gb : Nat)
  | br (target : Int)
  | bcc (cond : Nat) (target : Int)
  | call (gl : Nat) (target : Int)
  | ret (ga : Nat)
  | yield
  | halt
  | trap (code : Nat)
  | illegal
  deriving DecidableEq, Repr

/-! ### Integer and fixed-point arithmetic (R302, R303, R309, R311) -/

/-- A result with its C and V. -/
abbrev AluRes := Word × Bool × Bool

/-- A signed result does not fit 64 bits. -/
def overflows (x : Int) : Bool := !fits64 x

def aluAdd (a b : Word) : AluRes := (a + b, decide (2 ^ 64 ≤ a.toNat + b.toNat), overflows (a.toInt + b.toInt))
def aluSub (a b : Word) : AluRes := (a - b, decide (b.toNat ≤ a.toNat), overflows (a.toInt - b.toInt))

/-- Shifts: 0 left, 1 right logical, 2 right arithmetic; C is the last bit shifted out. -/
def aluShift (ty : Nat) (a : Word) (n : Nat) : AluRes :=
  let c := n != 0 && bitOf a.toNat (if ty = 0 then 64 - n else n - 1)
  (if ty = 0 then a <<< n else if ty = 1 then a >>> n else a.sshiftRight n, c, false)

/-- A signed value brought into 64 bits; V where it was limited. -/
def satRes (x : Int) : AluRes := (BitVec.ofInt 64 (satInt 64 x), false, overflows x)

/-- The ALU function of R309. -/
def aluFn (fn : Nat) (a b : Word) : AluRes :=
  match fn with
  | 0x0 => aluAdd a b
  | 0x1 | 0xb => aluSub a b
  | 0x2 => (a &&& b, false, false)
  | 0x3 => (a ||| b, false, false)
  | 0x4 => (a ^^^ b, false, false)
  | 0x5 => aluShift 0 a (b.toNat % 64)
  | 0x6 => aluShift 1 a (b.toNat % 64)
  | 0x7 => aluShift 2 a (b.toNat % 64)
  | 0x8 => (a * b, false, overflows (a.toInt * b.toInt))
  | 0x9 => (BitVec.ofNat 64 (a.toNat * b.toNat / 2 ^ 64), false, false)
  | 0xa => (BitVec.ofInt 64 (a.toInt * b.toInt / 2 ^ 64), false, false)
  | 0xc => (if a.toInt ≤ b.toInt then a else b, false, false)
  | 0xd => (if a.toInt ≤ b.toInt then b else a, false, false)
  | 0xe => satRes (a.toInt + b.toInt)
  | _ => satRes (a.toInt - b.toInt)

/-- x / 2^32 rounded as rm selects (R303): 0 nearest, ties away from zero; 1 up; 2 down; 3 towards zero. -/
def roundQ (rm : Nat) (x : Int) : Int :=
  let lo := x / 4294967296
  let r := x % 4294967296
  match rm with
  | 0 => if 2147483648 < r ∨ (r = 2147483648 ∧ 0 ≤ x) then lo + 1 else lo
  | 1 => if r = 0 then lo else lo + 1
  | 2 => lo
  | _ => if r ≠ 0 ∧ x < 0 then lo + 1 else lo

def fxMul (rm : Nat) (a b : Word) : AluRes := satRes (roundQ rm (a.toInt * b.toInt))
def fxMac (rm : Nat) (d a b : Word) : AluRes := satRes (d.toInt + roundQ rm (a.toInt * b.toInt))

/-- SAT: ra limited to ±m. -/
def fxSat (a b : Word) : AluRes :=
  let m : Int := min b.toInt.natAbs (2 ^ 63 - 1)
  let x := clampInt (-m) m a.toInt
  (BitVec.ofInt 64 x, false, x != a.toInt)

def fxItof (a : Word) : AluRes := satRes (a.toInt * 4294967296)
def fxFtoi (rm : Nat) (a : Word) : AluRes := satRes (roundQ rm a.toInt)

/-- The flags that an ALU or fixed-point result sets. -/
def aluFlags (x : AluRes) : List (Flag × Bool) :=
  [(.z, x.1 == 0), (.n, bitOf x.1.toNat 63), (.c, x.2.1), (.v, x.2.2)]

/-! ### Issuing (R300, R336, R354, R380) -/

def State.eng (s : State) (e : Nat) : Engine := tabGet {} s.dsq.eng e

def State.setEng (s : State) (e : Nat) (x : Engine) : State := { s with dsq := { s.dsq with eng := tabSet {} s.dsq.eng e x } }

/-- The CLK_CORE cycle of the engines: that of the one whose clock has run longest, since a gated one stands still (R368). -/
def State.coreCyc (s : State) : Nat := (List.range 8).foldl (fun m e => max m (s.eng e).cyc) 0

def State.pc (s : State) (t : Nat) : Nat := s.get F.thrStat_PC t

/-- An issue of thread t: counted, also for its sample requests; those that yielded no longer wait for it. -/
def State.issued (s : State) (t : Nat) : State :=
  let s := s.tally (.ev 0x06 0x01 t (s.thrPart t) 1 t)
  let count (x : SampleReq) : SampleReq := if x.thread = t then { x with issued := x.issued + 1 } else x
  ({ s with dsq := { s.dsq with samples := s.dsq.samples.map count } }).unyield t

/-- The thread goes on at an offset; its next instruction issues no earlier than `n` engine cycles on. -/
def State.goOn (s : State) (t pc n : Nat) : State :=
  (s.setThr t { s.thr t with cool := (s.eng (t / 16)).cyc + n }).put F.thrStat_PC (pc % 2 ^ 21) t

/-- An exception at the present instruction (R340, R360). -/
def State.raise (s : State) (t cause : Nat) (code : Nat := 0) (data : Nat := 0) : State :=
  s.faultThr t cause code (s.pc t) (BitVec.ofNat 64 data)

/-- A result with its flags, and on. -/
def State.aluDone (s : State) (t rd next : Nat) (x : AluRes) : State := ((s.setG t rd x.1).setFlags t (aluFlags x)).goOn t next 1

/-- The thread waits in a state; PC stands at the next instruction, `at'` at this one. -/
def State.park (s : State) (t st next gd : Nat) : State :=
  let s := s.setThr t { s.thr t with at' := s.pc t, gd := gd }
  (s.put F.thrStat_PC (next % 2 ^ 21) t).setThrState t st

/-- The thread waits for its reply, which is ready to be written: registers, time registers, changed flags. -/
def State.parkReply (s : State) (t next : Nat) (g : List (Nat × Word)) (tr : List (Nat × TReg)) (fl : List (Flag × Bool)) : State :=
  let w := flagsTo (s.get F.thrStat_FLAGS t) fl
  let s := s.park t thReply next 0
  s.setThr t { s.thr t with await := .result g tr w }

/-- The thread waits for the status word of an instruction of R330. -/
def State.parkStatus (s : State) (t next gd : Nat) (st : Status) (result : Nat) : State :=
  (s.park t thReply next gd).statusReply t gd st result

/-- The thread may name the domain (R314). -/
def State.domMine (s : State) (t n : Nat) : Bool := n == 0 || (s.dom n).owner == s.thrPart t

/-! ### Time registers (R312–R318) -/

/-- What a capture of a domain gives a time register. A time that R1's format does not hold is open. -/
def State.capT (s : State) (n : Nat) : TReg × State :=
  let t := s.startTicks n
  if 0 ≤ t ∧ t < timeSpan then ({ t := t.toNat, dom := n, b := (s.dom n).bound }, s)
  else ({ t := s.draw.1 % timeSpan.toNat, dom := n, b := (s.dom n).bound }, s.draw.2)

/-- Captures of several domains, in order. -/
def State.capTs (s : State) : List Nat → List TReg × State
  | [] => ([], s)
  | n :: l =>
    let (x, s) := s.capT n
    let (xs, s) := s.capTs l
    (x :: xs, s)

/-- TREAD, TSNAP: domains into consecutive time registers from tn on. -/
def State.snapT (s : State) (t tn next : Nat) (l : List Nat) : State :=
  if l.all (s.domMine t) then
    let (xs, s) := s.capTs l
    s.parkReply t next [] (xs.zipIdx.map fun e => (tn + e.2, e.1)) [(.v, xs.any fun x => x.b == Config.unb)]
  else s.raise t 4

/-- Seconds and the rest of a tick count, as TGET shows them (R1, R318). -/
def tregSec (t : Nat) : Nat := t / Config.secTicks
def tregSub (t : Nat) : Nat := t % Config.secTicks / 262144 * 2 ^ 18 + t % 262144

/-- TCMP of the closed intervals around two times. -/
def intervalFlags (a b : TReg) : Bool × Bool :=
  if a.b = Config.unb ∨ b.b = Config.unb then (true, false)
  else
    let d := (Int.ofNat a.t - Int.ofNat b.t).natAbs
    if d ≤ a.b + b.b then (true, false) else (false, decide (a.t < b.t))

/-- TSET: the new register, or none where it has no effect. -/
def tsetField (x : TReg) (field : Nat) (w : Nat) : Option TReg :=
  match field with
  | 0 => if w < 2 ^ 48 then some { x with t := w * Config.secTicks + x.t % Config.secTicks } else none
  | 1 =>
    let ns := w / 2 ^ 18 % 2 ^ 30
    if w < 2 ^ 48 ∧ ns < 1000000000 then some { x with t := x.t / Config.secTicks * Config.secTicks + ns * 262144 + w % 2 ^ 18 }
    else none
  | 2 => some { x with b := w }
  | _ => if w < 32 then some { x with dom := w } else none

/-- TWAIT (R319, R320): the wait slot is armed again. -/
def State.twait (s : State) (t tn gd next : Nat) : State :=
  let x := s.treg t tn
  if !s.domMine t x.dom then s.raise t 4
  else if (s.dom x.dom).st = .off then s.raise t 7
  else
    (s.armSlot (s.get F.thrStat_SLOT t) (s.thrPart t) x.dom x.t .dsqWake t 0 true (s.isPast x.dom x.t)).park t thAlarm next gd

/-- TEMIT (R321–R323). -/
def State.temit (s : State) (t tn gd gs next : Nat) : State :=
  let x := s.treg t tn
  let p := s.thrPart t
  let w := (s.g t gs).toNat
  let per := (s.g t (gs + 1)).toNat
  let kind := w % 256
  let target := w / 2 ^ 16 % 2 ^ 16
  let policy := w / 2 ^ 32 % 2
  let pick := w / 2 ^ 60 % 2 == 1
  let slot := if pick then (s.freeSlot p).getD 4096 else w / 2 ^ 48 % 4096
  let checks := s.armChecks p x.dom x.t kind target per policy ++
    (if pick then [((s.freeSlot p).isNone, .busy)] else s.slotChecks p slot) ++ [s.armLate x.dom x.t kind policy]
  let k := (armKind kind).getD .none
  let past := s.isPast x.dom (storedInst k x.t)
  if !s.domMine t x.dom then s.raise t 4
  else
    let refused := !s.legal 0x18 || s.kindRefused kind
    let st := if refused then Status.refusedMode else (firstFail checks).getD .ok
    let s := if refused then s.logRefused (.thread t) 0x18 0 else s
    let s := if st = .ok then s.armAlarm slot p x.dom x.t kind target per policy else s
    let s := s.setFlags t [(.l, st == .ok && past)]
    s.parkStatus t next gd st (if st = .ok then slot else 0)

/-! ### Bus (R324–R328) -/

/-- An ECC error confined to check bits is corrected and counted (R340). -/
def State.checkBit (s : State) : State := s.bump F.dsqStat_CHECKBIT 1

/-- An uncorrectable ECC error in what thread t reads at an address (R340, R385). -/
def State.eccFault (s : State) (t addr : Nat) : State := (s.pulse 25 (s.thrPart t) t).raise t 6 0 addr

/-- An earlier store of the thread waits at its port (R327). -/
def State.storesPend (s : State) (t : Nat) : Bool :=
  let c := portCode (.thread t)
  let mine (a : Access) : Bool := a.m == .thread t && a.write
  (match tabGet none s.par.stalls c with | some a => mine a | none => false) || (tabGet [] s.par.behind c).any mine

/-- A load or store: the access that an address makes, or the exception (R324, R325, R340). After a load from DSQ SRAM the next
instruction issues 3 cycles on at the earliest (R354). -/
def State.memory (s : State) (t addr next rd : Nat) (wide write : Bool) (data : Word) : State :=
  let base := addr / 8 * 8
  let a : Access :=
    { m := .thread t, write := write, addr := base, h := if wide then .full else if addr % 8 = 0 then .low else .high,
      data := if wide then data else data &&& 0xffffffff, rd := rd, pc := s.pc t }
  if addr % (if wide then 8 else 4) ≠ 0 then s.raise t 3 0 addr
  else if !s.thrReaches t base then s.raise t 4 0 addr
  else if write then (s.goOn t next 1).access a
  else if inDsram base && s.dataEcc base == 2 then s.eccFault t addr
  else
    let s := if inDsram base && s.dataEcc base == 1 then (s.setDword base (s.dword base)).checkBit else s
    let s := s.park t thReply next rd
    let cool := if inDsram base then (s.eng (t / 16)).cyc + 3 else (s.thr t).cool
    (s.setThr t { s.thr t with await := .bus, cool := cool }).access a

/-! ### Queues (R329) -/

/-- The thread waits on a queue. -/
def State.queueWait (s : State) (t q next gd : Nat) (put : Option (Word × Bool)) : State :=
  let s := s.park t thQueue next gd
  let x := s.queue q
  s.setQueue q { x with waiters := insertWait { thread := t, put := put, since := s.coreCyc } x.waiters }

def State.qputIns (s : State) (t gs q next : Nat) (fin nb : Bool) : State :=
  if s.get F.qCfg_PART q ≠ s.thrPart t then s.raise t 4
  else
    let s := s.qAssign q
    let w := s.g t gs
    if s.qCanPut q (.thread t) then (((s.qPut q (.thread t) w fin).setFlags t [(.v, false)]).goOn t next 2).qAssign q
    else if nb then (s.setFlags t [(.v, true)]).goOn t next 2
    else s.queueWait t q next 0 (some (w, fin))

def State.qgetIns (s : State) (t gd q next : Nat) (nb : Bool) : State :=
  if s.get F.qCfg_PART q ≠ s.thrPart t then s.raise t 4
  else
    let s := s.qAssign q
    if s.qCanGet q (.thread t) then
      let h := s.qHead q
      ((((s.qTake q (.thread t)).setG t gd h.1).setFlags t [(.c, h.2), (.v, false)]).goOn t next 2).qAssign q
    else if nb then ((s.setG t gd 0).setFlags t [(.c, false), (.v, true)]).goOn t next 2
    else s.queueWait t q next gd none

/-! ### Escrows, commands, KMAC (R330–R339) -/

/-- An escrow instruction, legal like its host command (R384). -/
def State.escIns (s : State) (t gd op next : Nat) (x : EscRes) : State :=
  if !s.legal op then (s.logRefused (.thread t) op 0).parkStatus t next gd .refusedMode 0
  else (if x.1 = .ok then x.2.2 else s).parkStatus t next gd x.1 (if x.1 = .ok then x.2.1 else 0)

/-- The opcodes that their chapters admit as privileged Dravik operations (R337). -/
def pcmdAdmits (op : Nat) : Bool :=
  knownOpcode op &&
    match op / 16 with
    | 1 | 2 | 4 | 5 | 7 | 9 | 0xd => true
    | 6 => decide (2 ≤ op % 16)
    | 8 => decide (op % 16 ≤ 5)
    | 0xa => decide (8 ≤ op % 16)
    | _ => false

/-- Bytes of an argument block: the payload of R641, each argument in whole bytes of its register field. What varies in length counts
with its least (log entry 44). -/
def pcmdLen (op : Nat) : Nat :=
  match op with
  | 0x10 => 4 | 0x11 => 21 | 0x12 | 0x13 => 1 | 0x14 => 9 | 0x15 => 21 | 0x16 => 7 | 0x18 => 27 | 0x19 => 2
  | 0x20 => 37 | 0x21 => 1 | 0x22 => 8 | 0x23 => 3
  | 0x40 => 1 | 0x41 => 2 | 0x42 | 0x43 => 0 | 0x44 => 6 | 0x45 | 0x46 => 20 | 0x47 => 1 | 0x48 | 0x49 => 4
  | 0x50 => 18 | 0x51 => 9 | 0x52 => 2 | 0x53 | 0x54 => 1 | 0x55 => 32 | 0x56 => 1
  | 0x62 => 4 | 0x63 => 1 | 0x64 => 5 | 0x66 => 0 | 0x67 => 13 | 0x68 => 16 | 0x69 => 1
  | 0x70 => 32 | 0x71 => 1 | 0x72 => 3 | 0x73 => 1 | 0x74 => 5
  | 0x80 => 6 | 0x81 => 22 | 0x82 => 5 | 0x83 | 0x84 => 1 | 0x85 => 33
  | 0x90 | 0x91 => 1 | 0x92 | 0x93 | 0x94 => 0 | 0x95 => 4
  | 0xa8 => 2 | 0xa9 => 1
  | 0xd0 => 9 | 0xd1 => 6 | 0xd2 => 1 | 0xd3 => 13 | 0xd4 => 16 | 0xd8 => 7 | 0xd9 => 1 | 0xda => 64
  | _ => 0

/-- PCMD: the command itself arrives as its own row, on behalf of the thread (log entry 44). -/
def State.pcmdIns (s : State) (t gd ga cmd next : Nat) : State :=
  let a := (s.g t ga).toNat
  if !pcmdAdmits cmd || !within a (pcmdLen cmd) (s.dwin (s.thrPart t)) then s.parkStatus t next gd .badArg 0
  else
    let s := s.park t thReply next gd
    { s.setThr t { s.thr t with await := .cmd gd a cmd } with
      dsq := { (s.setThr t { s.thr t with await := .cmd gd a cmd }).dsq with pcmd := tabSet none s.dsq.pcmd t none } }

/-- KMAC (R339). -/
def State.kmacIns (s : State) (t gd ga gb next : Nat) : State :=
  let a := (s.g t ga).toNat
  let v := (s.g t gb).toNat % 256
  let len := (s.g t gb).toNat / 2 ^ 16 % 2 ^ 13
  let p := s.thrPart t
  let ty := s.get F.vsCfg_TYPE v
  let st := firstFail
    [(s.vsPart v != p, .partitionDenied), (!s.keyUsable v p attrDsq || !s.kvcOk, .noKey),
     ((ty != tyAes128 && ty != tyAes256) || len == 0 || decide (4096 < len) || !within a len (s.dwin p), .badArg)]
  match st with
  | some x => s.parkStatus t next gd x 0
  | none => (s.park t thReply next gd).keyOpStart v (.kmac t gd (s.dbytes a len))

/-! ### Control (R333–R336) -/

/-- The condition of BCC (R334). -/
def State.cond (s : State) (t c : Nat) : Bool :=
  let z := s.flag t .z; let n := s.flag t .n; let cy := s.flag t .c; let v := s.flag t .v
  let b := match c / 2 with
    | 0 => z
    | 1 => n != v
    | 2 => !z && n == v
    | 3 => !cy
    | 4 => n
    | 5 => v
    | 6 => s.flag t .l
    | _ => s.flag t .s
  if c % 2 = 0 then b else !b

/-- Branch to a byte offset of the region, or FETCH (R333); `f` is what CALL writes. -/
def State.branch (s : State) (t : Nat) (target : Int) (f : State → State := id) : State :=
  if 0 ≤ target ∧ target < 2 ^ 21 ∧ s.codeOk (s.thrPart t) target.toNat then (f s).goOn t target.toNat 1
  else s.faultThr t 2 0 (s.pc t) (BitVec.ofInt 64 target)

/-- YIELD (R336): the other READY threads of the engine must issue first. -/
def State.yieldIns (s : State) (t next : Nat) : State :=
  let s := s.goOn t next 1
  let l := (List.range 16).map (t / 16 * 16 + ·)
  let s := s.setThr t { s.thr t with at' := next - 4, yield := l.filter fun k => k != t && s.thrState k == thReady }
  (s.setThrState t thYielded).yieldRelease t

/-! ### One instruction -/

/-- What an instruction of `size` bytes does at its issue. -/
def State.effect (s : State) (t size : Nat) (d : DIns) : State :=
  let next := s.pc t + size
  let g := s.g t
  match d with
  | .alu fn rd ra rb => s.aluDone t (if fn = 0xb then 0 else rd) next (aluFn fn (g ra) (g rb))
  | .aluImm fn rd ra imm => s.aluDone t (if fn = 0xb then 0 else rd) next (aluFn fn (g ra) imm)
  | .shi ty rd ra n => s.aluDone t rd next (aluShift ty (g ra) (n % 64))
  | .li rd imm => (s.setG t rd imm).goOn t next 1
  | .liu rd v => (s.setG t rd (setBits (g rd) 63 32 v)).goOn t next 1
  | .fmul rd ra rb rm => s.aluDone t rd next (fxMul rm (g ra) (g rb))
  | .fmac rd ra rb rm => s.aluDone t rd next (fxMac rm (g rd) (g ra) (g rb))
  | .sat rd ra rb => s.aluDone t rd next (fxSat (g ra) (g rb))
  | .itof rd ra => s.aluDone t rd next (fxItof (g ra))
  | .ftoi rd ra rm => s.aluDone t rd next (fxFtoi rm (g ra))
  | .load wide rd ra imm => s.memory t (g ra + imm).toNat next rd wide false 0
  | .store wide rs ra imm => s.memory t (g ra + imm).toNat next 0 wide true (g rs)
  | .tread tn dom => s.snapT t tn next [dom]
  | .tsnap tn count gs =>
    if 8 < tn + count then s.raise t 1
    else s.snapT t tn next ((List.range count).map fun k => (g gs).toNat / 2 ^ (8 * k) % 32)
  | .tadd tn ta gs ns =>
    let x := s.treg t ta
    let y := Int.ofNat x.t + (g gs).toInt * (if ns then 262144 else 1)
    (if 0 ≤ y ∧ y < timeSpan then (s.setTreg t tn { x with t := y.toNat }).setFlags t [(.v, false)]
      else s.setFlags t [(.v, true)]).goOn t next 1
  | .tsub gd ta tb wb =>
    let x := s.treg t ta
    let y := s.treg t tb
    let dlt := Int.ofNat x.t - Int.ofNat y.t
    let lim : Int := 2 ^ 63 - 1
    let s := (s.setG t gd (BitVec.ofInt 64 (clampInt (-lim) lim dlt))).setFlags t [(.v, decide (lim < dlt.natAbs))]
    (match wb with
      | some bn => s.setTreg t bn { s.treg t bn with b := boundSum [x.b, y.b] }
      | none => s).goOn t next 1
  | .tcmp ta tb bnd =>
    let x := s.treg t ta
    let y := s.treg t tb
    (if bnd then s.setFlags t [(.z, (intervalFlags x y).1), (.n, (intervalFlags x y).2)]
      else s.setFlags t [(.z, x.t == y.t), (.n, decide (x.t < y.t)), (.c, false), (.v, false)]).goOn t next 1
  | .twait tn gd => s.twait t tn gd next
  | .temit tn gd gs => if gs = 31 then s.raise t 1 else s.temit t tn gd gs next
  | .tget gd tn field =>
    let x := s.treg t tn
    (s.setG t gd (BitVec.ofNat 64 (match field with
      | 0 => tregSec x.t
      | 1 => tregSub x.t
      | 2 => x.b
      | _ => x.dom))).goOn t next 1
  | .tset tn gs field =>
    (match tsetField (s.treg t tn) field (g gs).toNat with
      | some x => (s.setTreg t tn x).setFlags t [(.v, false)]
      | none => s.setFlags t [(.v, true)]).goOn t next 1
  | .qput gs q fin nb => s.qputIns t gs q next fin nb
  | .qget gd q nb => s.qgetIns t gd q next nb
  | .qcnt gd q =>
    if s.get F.qCfg_PART q ≠ s.thrPart t then s.raise t 4
    else (s.setG t gd (BitVec.ofNat 64 (qCount (s.queue q)))).goOn t next 2
  | .ebegin gd => s.escIns t gd 0x66 next (s.escBegin (s.thrPart t))
  | .ewr gd ga gs e =>
    let a := (g ga).toNat
    s.escIns t gd 0x67 next (s.escWrite (s.thrPart t) e a (g gs) (s.thrReaches t a) (s.thrPart t == 0))
  | .ecommit gd e at' late =>
    (match at' with
      | none => s.escIns t gd 0x68 next (s.escCommit (s.thrPart t) e none late)
      | some tn =>
        let x := s.treg t tn
        if !s.domMine t x.dom then s.raise t 4
        else s.escIns t gd 0x68 next (s.escCommit (s.thrPart t) e (some (x.dom, x.t)) late))
  | .eabort gd e => s.escIns t gd 0x69 next (s.escAbort (s.thrPart t) e)
  | .pcmd gd ga cmd => s.pcmdIns t gd ga cmd next
  | .kmac gd ga gb => if 29 < gd then s.raise t 1 else s.kmacIns t gd ga gb next
  | .br target => s.branch t target
  | .bcc c target => if s.cond t c then s.branch t target else s.goOn t next 1
  | .call gl target => s.branch t target fun s => s.setG t gl (BitVec.ofNat 64 next)
  | .ret ga => s.branch t (Int.ofNat ((g ga).toNat % 2 ^ 21))
  | .yield => s.yieldIns t next
  | .halt => (s.put F.thrStat_PC (next % 2 ^ 21) t).haltThr t
  | .trap code => s.raise t 8 code
  | .illegal => s.raise t 1

/-- QPUT, ECOMMIT and PCMD issue only after every earlier store of the thread (R327). -/
def DIns.ordered : DIns → Bool
  | .qput .. | .ecommit .. | .pcmd .. => true
  | _ => false

/-- The words of an instruction of `size` bytes at the thread's PC lie in the code of one image: an extension word beyond it raises
FETCH (R340). -/
def State.extOk (s : State) (t size : Nat) : Bool :=
  size != 8 || ((s.imageAt (s.thrPart t) (s.pc t)).map fun i => decide (s.pc t + 4 < i.codeBase + i.codeLen)).getD false

/-- The ECC error in the instruction at the thread's PC. -/
def State.fetchEcc (s : State) (t size : Nat) : Nat := s.codeEcc ((s.iwin (s.thrPart t)).1 + s.pc t) size

/-- Its check-bit errors are corrected and counted. -/
def State.fetchFix (s : State) (t size : Nat) : State :=
  if s.fetchEcc t size = 0 then s
  else
    let k := ((s.iwin (s.thrPart t)).1 + s.pc t) / 4
    { s with dsq := { s.dsq with iecc := tabSet 0 (tabSet 0 s.dsq.iecc k 0) (k + size / 4 - 1) 0 } }.checkBit

/-- An instruction of thread t issues, where the thread is READY (R340). -/
def State.issue (s : State) (t size : Nat) (d : DIns) : State :=
  if 128 ≤ t ∨ s.thrState t ≠ thReady ∨ (d.ordered ∧ s.storesPend t) then s
  else if 2 ≤ s.fetchEcc t size then (s.issued t).eccFault t (s.pc t)
  else if !s.extOk t size then (s.issued t).raise t 2 0 (s.pc t + 4)
  else ((s.fetchFix t size).issued t).effect t size d

end Sys2Proof.Machine
end

