-- ==== Sys2Proof/Machine/Engine.lean ====
section
/-! DEFINITION. Instruction words, an engine's issue cycle, the instructions as commands, replies and samples (R304–R308, R333,
R337, R350–R355, R380). -/
namespace Sys2Proof.Machine

/-! ### Immediates and branch targets (R304, R307, R333) -/

/-- An immediate extended to 64 bits: the 15-bit field, or with E the extension word. -/
def immOf (e : Bool) (x : Nat) : Word := BitVec.ofInt 64 (signedOf (if e then 32 else 15) (x % 2 ^ (if e then 32 else 15)))

/-- The 32 bits that LIU writes. -/
def liuOf (e : Bool) (x : Nat) : Nat := (immOf e x).toNat % 2 ^ 32

/-- The target of a branch at `pc`: words from the branch itself, or with E an absolute byte offset. -/
def targetAt (pc : Nat) (width : Nat) (e : Bool) (x : Nat) : Int :=
  if e then Int.ofNat (x % 2 ^ 32) else Int.ofNat pc + 4 * signedOf width (x % 2 ^ width)

/-- Bytes of an instruction. -/
def sizeOf' (e : Bool) : Nat := if e then 8 else 4

/-! ### Decoding (R304–R308) -/

/-- Bits [hi:lo] of an instruction word. -/
def wf (w hi lo : Nat) : Nat := w / 2 ^ lo % 2 ^ (hi + 1 - lo)

/-- An instruction without an extension word: legal where its reserved bits are zero. -/
def plain (ok : Bool) (d : DIns) : DIns × Nat := (if ok then d else .illegal, 4)

/-- An instruction with an E bit at `b` and a field below it: the field is zero where E is set (R304). -/
def extended (w ext b : Nat) (ok : Bool) (d : Bool → Nat → DIns) : DIns × Nat :=
  let e := wf w b b == 1
  let f := w % 2 ^ b
  if !ok || (e && f != 0) then (.illegal, 4) else (d e (if e then ext else f), sizeOf' e)

/-- The instruction at `pc` whose word is w, with the word after it, and its bytes. -/
def decodeIns (pc w ext : Nat) : DIns × Nat :=
  let a := wf w 25 21
  let b := wf w 20 16
  let c := wf w 15 11
  match w / 2 ^ 26 % 64 with
  | 0x01 => plain (wf w 10 4 == 0 && (wf w 3 0 != 0xb || a == 0)) (.alu (wf w 3 0) a b c)
  | 0x02 => extended w ext 15 true fun e x => .aluImm 0x0 a b (immOf e x)
  | 0x03 => extended w ext 15 true fun e x => .aluImm 0x2 a b (immOf e x)
  | 0x04 => extended w ext 15 true fun e x => .aluImm 0x3 a b (immOf e x)
  | 0x05 => extended w ext 15 true fun e x => .aluImm 0x4 a b (immOf e x)
  | 0x06 => plain (wf w 15 8 == 0 && wf w 7 6 != 3) (.shi (wf w 7 6) a b (wf w 5 0))
  | 0x07 => extended w ext 15 (a == 0) fun e x => .aluImm 0xb 0 b (immOf e x)
  | 0x08 => extended w ext 15 (b == 0) fun e x => .li a (immOf e x)
  | 0x09 => extended w ext 15 (b == 0) fun e x => .liu a (liuOf e x)
  | 0x0c => plain (wf w 10 2 == 0) (.fmul a b c (wf w 1 0))
  | 0x0d => plain (wf w 10 2 == 0) (.fmac a b c (wf w 1 0))
  | 0x0e => plain (wf w 10 0 == 0) (.sat a b c)
  | 0x0f => plain (wf w 15 3 == 0) (if wf w 2 2 = 0 then .itof a b else .ftoi a b (wf w 1 0))
  | 0x10 => extended w ext 15 true fun e x => .load true a b (immOf e x)
  | 0x11 => extended w ext 15 true fun e x => .load false a b (immOf e x)
  | 0x12 => extended w ext 15 true fun e x => .store true a b (immOf e x)
  | 0x13 => extended w ext 15 true fun e x => .store false a b (immOf e x)
  | 0x18 => plain (wf w 17 0 == 0) (.tread (wf w 25 23) (wf w 22 18))
  | 0x19 => plain (wf w 14 0 == 0) (.tsnap (wf w 25 23) (wf w 22 20 + 1) (wf w 19 15))
  | 0x1a => plain (wf w 13 0 == 0) (.tadd (wf w 25 23) (wf w 22 20) (wf w 19 15) (wf w 14 14 == 1))
  | 0x1b =>
    plain (wf w 10 0 == 0) (.tsub a (wf w 20 18) (wf w 17 15) (if wf w 14 14 = 1 then some (wf w 13 11) else none))
  | 0x1c => plain (wf w 18 0 == 0) (.tcmp (wf w 25 23) (wf w 22 20) (wf w 19 19 == 1))
  | 0x1d => plain (wf w 17 0 == 0) (.twait (wf w 25 23) (wf w 22 18))
  | 0x1e => plain (wf w 12 0 == 0) (.temit (wf w 25 23) (wf w 22 18) (wf w 17 13))
  | 0x1f => plain (wf w 15 0 == 0) (.tget a (wf w 20 18) (wf w 17 16))
  | 0x20 => plain (wf w 15 0 == 0) (.tset (wf w 25 23) (wf w 22 18) (wf w 17 16))
  | 0x28 => plain (wf w 10 0 == 0) (.qput a (wf w 20 13) (wf w 12 12 == 1) (wf w 11 11 == 1))
  | 0x29 => plain (wf w 12 12 == 0 && wf w 10 0 == 0) (.qget a (wf w 20 13) (wf w 11 11 == 1))
  | 0x2a => plain (wf w 12 0 == 0) (.qcnt a (wf w 20 13))
  | 0x30 => plain (wf w 20 0 == 0) (.ebegin a)
  | 0x31 => plain (wf w 8 0 == 0) (.ewr a b c (wf w 10 9))
  | 0x32 =>
    plain (wf w 13 0 == 0)
      (.ecommit a (wf w 20 19) (if wf w 18 18 = 1 then some (wf w 17 15) else none) (wf w 14 14 == 1))
  | 0x33 => plain (wf w 18 0 == 0) (.eabort a (wf w 20 19))
  | 0x34 => plain (wf w 7 0 == 0) (.pcmd a b (wf w 15 8))
  | 0x35 => plain (wf w 10 0 == 0) (.kmac a b c)
  | 0x38 => extended w ext 25 true fun e x => .br (targetAt pc 25 e x)
  | 0x39 => extended w ext 21 true fun e x => .bcc (wf w 25 22) (targetAt pc 21 e x)
  | 0x3a => extended w ext 20 true fun e x => .call a (targetAt pc 20 e x)
  | 0x3b => plain (a == 0 && wf w 15 0 == 0) (.ret b)
  | 0x3c => plain (wf w 25 0 == 0) .yield
  | 0x3d => plain (wf w 25 0 == 0) .halt
  | 0x3e => plain (wf w 25 16 == 0) (.trap (wf w 15 0))
  | _ => (.illegal, 4)

/-! ### The issue cycle (R350–R354) -/

/-- The instruction that thread t would issue now. -/
def State.fetchIns (s : State) (t : Nat) : DIns × Nat :=
  let a := (s.iwin (s.thrPart t)).1 + s.pc t
  decodeIns (s.pc t) (s.iword a) (s.iword (a + 4))

/-- Thread t may issue in the present cycle. -/
def State.canIssue (s : State) (t : Nat) : Bool :=
  s.thrState t == thReady && decide ((s.thr t).cool ≤ (s.eng (t / 16)).cyc) && !((s.fetchIns t).1.ordered && s.storesPend t)

/-- The thread of a partition that follows the one it last issued (R352). -/
def State.nextThr (s : State) (e p : Nat) : Option Nat :=
  let l := ((List.range 16).map (16 * e + ·)).filter fun t => s.thrPart t == p && s.canIssue t
  let last := tabGet 0 (s.eng e).last p
  match l.find? fun t => decide (last ≤ t) with
  | some t => some t
  | none => l.head?

/-- A thread's oldest sample request is captured (R380). -/
def State.sampleTake (s : State) (t : Nat) : Option State :=
  match s.dsq.samples.find? fun x => x.thread == t with
  | none => none
  | some x => some (({ s with dsq := { s.dsq with samples := s.dsq.samples.erase x } }).samplePost x)

/-- The chosen thread's slot: a sample takes it, else its instruction issues. -/
def State.slotOf (s : State) (t : Nat) : State :=
  match s.sampleTake t with
  | some s => s
  | none => s.issue t (s.fetchIns t).2 (s.fetchIns t).1

/-- Engine cycles counted for the tally banks: READY without issue, past the wait of R354; WAIT_REPLY (R682). -/
def State.cycleTally (s : State) (e : Nat) (chosen : Option Nat) : State :=
  ((List.range 16).map (16 * e + ·)).foldl (fun s t =>
    let st := s.thrState t
    if st = thReady ∧ (s.thr t).cool ≤ (s.eng e).cyc ∧ chosen ≠ some t then s.tally (.ev 0x06 0x02 t (s.thrPart t) 1 t)
    else if st = thReply then s.tally (.ev 0x06 0x03 t (s.thrPart t) 1 t)
    else s) s

/-- One engine cycle. -/
def State.engCycle (s : State) (e : Nat) : State :=
  let ts := (List.range 16).map (16 * e + ·)
  let s := s.setEng e { s.eng e with cyc := (s.eng e).cyc + 1 }
  let s := ts.foldl (fun s t => s.yieldRelease t) s
  let (p?, arb) := (s.eng e).arb.pick 256 (fun p => s.get F.dsqShare_MIN p) (fun p => s.get F.dsqShare_WEIGHT p)
    fun p => (s.nextThr e p).isSome
  let s := s.setEng e { s.eng e with arb := arb }
  match p?.bind fun p => (s.nextThr e p).map fun t => (p, t) with
  | none => s.cycleTally e none
  | some (p, t) =>
    let taken := s.dsq.samples.any fun x => x.thread == t
    let s := s.cycleTally e (if taken then none else some t)
    let s := s.setEng e { s.eng e with last := tabSet 0 (s.eng e).last p (t + 1) }
    s.slotOf t

/-- ENGINE_ISSUE_CYCLE of engine e, where its clock runs (R763). -/
def execEngineIssueCycle (e : Nat) (s : State) : Res :=
  .next (if 8 ≤ e ∨ s.cpx.inReset ∨ !bitOf (s.rd .pwrEn).toNat e then s else s.engCycle e)

/-- DSQ_SAMPLE_CAPTURE: thread t's next issue slot goes to its sample request. -/
def execDsqSampleCapture (t : Nat) (s : State) : Res := .next (if 128 ≤ t then s else (s.sampleTake t).getD s)

/-! ### Replies (R330, R337, R355) -/

/-- A reply is written, and the thread is READY, or HALTED where a stop waits for it. -/
def State.replied (s : State) (t : Nat) (g : List (Nat × Word)) (tr : List (Nat × TReg)) (flags : Nat) : State :=
  let s := g.foldl (fun s e => s.setG t e.1 e.2) s
  let s := tr.foldl (fun s e => s.setTreg t e.1 e.2) s
  let s := (s.put F.thrStat_FLAGS flags t).setThr t { s.thr t with await := .none }
  if s.getB F.thrStat_STOP_PEND t then s.haltThr t else s.setThrState t thReady

/-- The completion of a command over its argument block; the key bytes of a KEY_IMPORT are overwritten (R337, R544). -/
def State.blockWrite (s : State) (t addr op : Nat) (result : List Byte) : State :=
  let w := s.dwin (s.thrPart t)
  let room := w.1 + w.2 - addr
  let s := if op = 0x81 then s.setDbytes (addr + 8) ((List.replicate (keyLen (s.dbyte addr).toNat) 0#8).take (room - 8)) else s
  s.setDbytes addr (result.take room)

/-- THREAD_REPLY_ARRIVE: what thread t waits for has come. -/
def State.replyArrive (s : State) (t : Nat) : State :=
  if s.thrState t ≠ thReply then s
  else
    match (s.thr t).await with
    | .result g tr fl => s.replied t g tr fl
    | .cmd gd addr op =>
      (match tabGet none s.dsq.pcmd t with
      | none => s
      | some (st, r) =>
        let s := { s with dsq := { s.dsq with pcmd := tabSet none s.dsq.pcmd t none } }
        let fl := flagsTo (s.get F.thrStat_FLAGS t) [(.z, st == .ok), (.n, false), (.c, false), (.v, false)]
        (s.blockWrite t addr op r).replied t [(gd, statusWord st 0)] [] fl)
    | _ => s

def execThreadReplyArrive (t : Nat) (s : State) : Res := .next (if 128 ≤ t then s else s.replyArrive t)

/-! ### The instructions as commands: thread t issues one -/

def execAdd (t rd ra rb : Nat) (s : State) : Res := .next (s.issue t 4 (.alu 0x0 rd ra rb))
def execSub (t rd ra rb : Nat) (s : State) : Res := .next (s.issue t 4 (.alu 0x1 rd ra rb))
def execAnd (t rd ra rb : Nat) (s : State) : Res := .next (s.issue t 4 (.alu 0x2 rd ra rb))
def execOr (t rd ra rb : Nat) (s : State) : Res := .next (s.issue t 4 (.alu 0x3 rd ra rb))
def execXor (t rd ra rb : Nat) (s : State) : Res := .next (s.issue t 4 (.alu 0x4 rd ra rb))
def execShl (t rd ra rb : Nat) (s : State) : Res := .next (s.issue t 4 (.alu 0x5 rd ra rb))
def execShr (t rd ra rb : Nat) (s : State) : Res := .next (s.issue t 4 (.alu 0x6 rd ra rb))
def execSra (t rd ra rb : Nat) (s : State) : Res := .next (s.issue t 4 (.alu 0x7 rd ra rb))
def execMul (t rd ra rb : Nat) (s : State) : Res := .next (s.issue t 4 (.alu 0x8 rd ra rb))
def execMulhu (t rd ra rb : Nat) (s : State) : Res := .next (s.issue t 4 (.alu 0x9 rd ra rb))
def execMulhs (t rd ra rb : Nat) (s : State) : Res := .next (s.issue t 4 (.alu 0xa rd ra rb))
def execCmp (t ra rb : Nat) (s : State) : Res := .next (s.issue t 4 (.alu 0xb 0 ra rb))
def execMin (t rd ra rb : Nat) (s : State) : Res := .next (s.issue t 4 (.alu 0xc rd ra rb))
def execMax (t rd ra rb : Nat) (s : State) : Res := .next (s.issue t 4 (.alu 0xd rd ra rb))
def execAdds (t rd ra rb : Nat) (s : State) : Res := .next (s.issue t 4 (.alu 0xe rd ra rb))
def execSubs (t rd ra rb : Nat) (s : State) : Res := .next (s.issue t 4 (.alu 0xf rd ra rb))

def execAddi (t rd ra : Nat) (e : Bool) (imm : Nat) (s : State) : Res :=
  .next (s.issue t (sizeOf' e) (.aluImm 0x0 rd ra (immOf e imm)))
def execAndi (t rd ra : Nat) (e : Bool) (imm : Nat) (s : State) : Res :=
  .next (s.issue t (sizeOf' e) (.aluImm 0x2 rd ra (immOf e imm)))
def execOri (t rd ra : Nat) (e : Bool) (imm : Nat) (s : State) : Res :=
  .next (s.issue t (sizeOf' e) (.aluImm 0x3 rd ra (immOf e imm)))
def execXori (t rd ra : Nat) (e : Bool) (imm : Nat) (s : State) : Res :=
  .next (s.issue t (sizeOf' e) (.aluImm 0x4 rd ra (immOf e imm)))
def execShi (t rd ra ty amount : Nat) (s : State) : Res :=
  .next (s.issue t 4 (if ty < 3 then .shi ty rd ra amount else .illegal))
def execCmpi (t ra : Nat) (e : Bool) (imm : Nat) (s : State) : Res :=
  .next (s.issue t (sizeOf' e) (.aluImm 0xb 0 ra (immOf e imm)))
def execLi (t rd : Nat) (e : Bool) (imm : Nat) (s : State) : Res := .next (s.issue t (sizeOf' e) (.li rd (immOf e imm)))
def execLiu (t rd : Nat) (e : Bool) (imm : Nat) (s : State) : Res := .next (s.issue t (sizeOf' e) (.liu rd (liuOf e imm)))

def execFmul (t rd ra rb rm : Nat) (s : State) : Res := .next (s.issue t 4 (.fmul rd ra rb rm))
def execFmac (t rd ra rb rm : Nat) (s : State) : Res := .next (s.issue t 4 (.fmac rd ra rb rm))
def execSat (t rd ra rb : Nat) (s : State) : Res := .next (s.issue t 4 (.sat rd ra rb))
def execItof (t rd ra : Nat) (s : State) : Res := .next (s.issue t 4 (.itof rd ra))
def execFtoi (t rd ra rm : Nat) (s : State) : Res := .next (s.issue t 4 (.ftoi rd ra rm))

def execLd (t rd ra : Nat) (e : Bool) (imm : Nat) (s : State) : Res :=
  .next (s.issue t (sizeOf' e) (.load true rd ra (immOf e imm)))
def execLdw (t rd ra : Nat) (e : Bool) (imm : Nat) (s : State) : Res :=
  .next (s.issue t (sizeOf' e) (.load false rd ra (immOf e imm)))
def execSt (t rs ra : Nat) (e : Bool) (imm : Nat) (s : State) : Res :=
  .next (s.issue t (sizeOf' e) (.store true rs ra (immOf e imm)))
def execStw (t rs ra : Nat) (e : Bool) (imm : Nat) (s : State) : Res :=
  .next (s.issue t (sizeOf' e) (.store false rs ra (immOf e imm)))

def execTread (t tn dom : Nat) (s : State) : Res := .next (s.issue t 4 (.tread tn (dom % 32)))
def execTsnap (t tn count gs : Nat) (s : State) : Res := .next (s.issue t 4 (.tsnap tn count gs))
def execTadd (t tn ta gs : Nat) (ns : Bool) (s : State) : Res := .next (s.issue t 4 (.tadd tn ta gs ns))
def execTsub (t gd ta tb : Nat) (wb : Option Nat) (s : State) : Res := .next (s.issue t 4 (.tsub gd ta tb wb))
def execTcmp (t ta tb : Nat) (bnd : Bool) (s : State) : Res := .next (s.issue t 4 (.tcmp ta tb bnd))
def execTwait (t tn gd : Nat) (s : State) : Res := .next (s.issue t 4 (.twait tn gd))
def execTemit (t tn gd gs : Nat) (s : State) : Res := .next (s.issue t 4 (.temit tn gd gs))
def execTget (t gd tn field : Nat) (s : State) : Res := .next (s.issue t 4 (.tget gd tn field))
def execTset (t tn gs field : Nat) (s : State) : Res := .next (s.issue t 4 (.tset tn gs field))

def execQput (t gs q : Nat) (fin nb : Bool) (s : State) : Res := .next (s.issue t 4 (.qput gs (q % 256) fin nb))
def execQget (t gd q : Nat) (nb : Bool) (s : State) : Res := .next (s.issue t 4 (.qget gd (q % 256) nb))
def execQcnt (t gd q : Nat) (s : State) : Res := .next (s.issue t 4 (.qcnt gd (q % 256)))

def execEbegin (t gd : Nat) (s : State) : Res := .next (s.issue t 4 (.ebegin gd))
def execEwr (t gd ga gs e : Nat) (s : State) : Res := .next (s.issue t 4 (.ewr gd ga gs e))
def execEcommit (t gd e : Nat) (at' : Option Nat) (late : Bool) (s : State) : Res :=
  .next (s.issue t 4 (.ecommit gd e at' late))
def execEabort (t gd e : Nat) (s : State) : Res := .next (s.issue t 4 (.eabort gd e))
def execPcmd (t gd ga cmd : Nat) (s : State) : Res := .next (s.issue t 4 (.pcmd gd ga cmd))
def execKmac (t gd ga gb : Nat) (s : State) : Res := .next (s.issue t 4 (.kmac gd ga gb))

def execBr (t : Nat) (e : Bool) (off : Nat) (s : State) : Res :=
  .next (s.issue t (sizeOf' e) (.br (targetAt (s.pc t) 25 e off)))
def execBcc (t cond : Nat) (e : Bool) (off : Nat) (s : State) : Res :=
  .next (s.issue t (sizeOf' e) (.bcc (cond % 16) (targetAt (s.pc t) 21 e off)))
def execCall (t gl : Nat) (e : Bool) (off : Nat) (s : State) : Res :=
  .next (s.issue t (sizeOf' e) (.call gl (targetAt (s.pc t) 20 e off)))
def execRet (t ga : Nat) (s : State) : Res := .next (s.issue t 4 (.ret ga))
def execYield (t : Nat) (s : State) : Res := .next (s.issue t 4 .yield)
def execHalt (t : Nat) (s : State) : Res := .next (s.issue t 4 .halt)
def execTrap (t code : Nat) (s : State) : Res := .next (s.issue t 4 (.trap (code % 65536)))

/-- ILLEGAL_INSTRUCTION (R306): a reserved word. -/
def execIllegalInstruction (t : Nat) (s : State) : Res := .next (s.issue t 4 .illegal)

end Sys2Proof.Machine
end

