-- ==== Sys2Proof/Machine/Ring.lean ====
section
/-! DEFINITION. Command rings: fetching and starting a command, repeated commands (R641–R647). -/
namespace Sys2Proof.Machine

/-! ### A submission entry (R641, R643) -/

def entryId (e : List Byte) : Nat := nn e 0 4
def entryOp (e : List Byte) : Nat := nb e 4
def entryIndirect (e : List Byte) : Bool := bitOf (nb e 5) 7
def entryLen (e : List Byte) : Nat := nn e 8 4
def entryBufLen (e : List Byte) : Nat := nn e 12 4
def entryBuf (e : List Byte) : Nat := nn e 16 8

/-- The payload: inline, or as it was read from the host buffer. -/
def entryPayload (e ext : List Byte) : List Byte := if entryIndirect e then ext else (e.drop 32).take (entryLen e)

/-- The longest result that a command can have, in bytes, from the sizes of what it returns. -/
def State.maxResult (s : State) (op : Nat) : Nat :=
  match op with
  | 0x18 | 0x67 | 0x68 => 2
  | 0x66 => 1
  | 0x91 => 4
  | 0xd4 => 12
  | 0x80 | 0x81 => 193
  | 0x84 => 129
  | 0x85 => 96
  | 0xb9 => 2992
  | 0xba => 65 * s.cpx.mlog.length
  | _ => 0

/-- The entry is well formed, its opcode is known, and its buffer takes the result (R643). -/
def State.entryOk (s : State) (e : List Byte) : Bool :=
  let m := s.maxResult (entryOp e)
  knownOpcode (entryOp e) && nb e 5 % 128 == 0 && nn e 6 2 == 0 && nn e 24 8 == 0 &&
    (if entryIndirect e then
      decide (entryLen e ≤ 4194304) && decide (entryLen e ≤ entryBufLen e) && entryBuf e % 8 == 0 && decide (m ≤ entryBufLen e) &&
        (e.drop 32).all (· == 0#8)
    else
      decide (entryLen e ≤ 96) && entryBufLen e == 0 && entryBuf e == 0 && decide (m ≤ 48) &&
        (e.drop (32 + entryLen e)).all (· == 0#8))

/-- The keyed hash of opcode, LEN and payload (R647). -/
def State.entryHash (s : State) (e ext : List Byte) : Word :=
  Config.cmdHash s.par.histKey (byte (entryOp e) :: beBytes 4 (entryLen e) ++ entryPayload e ext)

/-! ### Starting (R644–R647) -/

/-- Entries submitted and not fetched, and completions not consumed, of a ring. -/
def State.sqWaiting (s : State) (f r : Nat) : Nat := (s.get F.ringSqIdx_SQ_PROD f r + 2 ^ 32 - s.get F.ringSqIdx_SQ_CONS f r) % 2 ^ 32
def State.cqHeld (s : State) (f r : Nat) : Nat := (s.get F.ringCqIdx_CQ_PROD f r + 2 ^ 32 - s.get F.ringCqIdx_CQ_CONS f r) % 2 ^ 32

/-- The ring may fetch its next entry (R645, R646). -/
def State.ringReady (s : State) (f r : Nat) : Bool :=
  decide (f < 9) && decide (r < 4) && s.served && !s.par.perstLow && s.getB F.ringCfg_EN f r && !s.getB F.ringCfg_HALT f r &&
    (s.started f r).isNone && s.sqWaiting f r != 0 && s.cqHeld f r != 2 ^ s.get F.ringCfg_SIZE f r

/-- A CMD_ID is still executing on another ring of the function (R647). -/
def State.idBusy (s : State) (f id : Nat) : Bool :=
  id != 0 && (List.range 4).any fun r =>
    match s.started f r with
    | some x => x.cmdId == id
    | none => false

/-- The command of an entry starts, or completes at once: malformed, repeated, in conflict, or in BOOT. -/
def State.startEntry (s : State) (f r : Nat) (e ext : List Byte) : State :=
  let st : Started :=
    { cmdId := entryId e, opcode := entryOp e, indirect := entryIndirect e, bufLen := entryBufLen e, buf := entryBuf e,
      sqIndex := s.get F.ringSqIdx_SQ_CONS f r, hash := s.entryHash e ext }
  let s := (s.wrap F.ringSqIdx_SQ_CONS 1 f r).setStarted f r (some st)
  if s.mode = .boot then (s.logRefused (.host f r) st.opcode st.cmdId).completeRing f r st.opcode .refusedMode []
  else if !s.entryOk e then s.completeRing f r st.opcode .badArg []
  else
    match (tabGet [] s.par.hist f).find? fun h => st.cmdId != 0 && h.cmdId == st.cmdId with
    | none => s
    | some h =>
      if h.hash = st.hash then
        ((s.setStarted f r none).bump F.parFnStat_DUP 1 f).post f r st .duplicate .ok
          (if h.resultLen ≤ 256 then h.resultLen else 0) h.result
      else (s.bump F.parFnStat_ID_CONFLICT 1 f).completeRing f r st.opcode .badArg []

/-- COMMAND_START: ring r of function f fetches its next entry, 128 bytes, and the payload that an INDIRECT entry names. An entry
that cannot be read comes with no bytes. The command itself then arrives as its own row (log entry 43). -/
def execCommandStart (f r : Nat) (entry ext : List Byte) (s : State) : Res :=
  .next (if !s.ringReady f r then s
    else if entry.length ≠ 128 then s.ringFail f r
    else if s.idBusy f (entryId entry) then s
    else s.startEntry f r entry ext)

end Sys2Proof.Machine
end

