-- ==== Sys2Proof/Machine/Dispatch.lean ====
section
/-! DEFINITION. One arm per command: its meaning, or its refusal by name. -/
namespace Sys2Proof.Machine

def exec (i : Instr) (s : State) : Host.Outcome State Fault Refusal :=
  match i with
  | .registerWrite m sp addr h data => Sys2Proof.Machine.execRegisterWrite m sp addr h data s
  | .clkTseCycle core => Sys2Proof.Machine.execClkTseCycle core s
  | .boundUpdate => Sys2Proof.Machine.execBoundUpdate s
  | .domainTimeCapture m dom h => Sys2Proof.Machine.execDomainTimeCapture m dom h s
  | .domConfig c dom kind parent owner => Sys2Proof.Machine.execDomConfig c dom kind parent owner s
  | .domSeed c dom t bound => Sys2Proof.Machine.execDomSeed c dom t bound s
  | .domStart c dom => Sys2Proof.Machine.execDomStart c dom s
  | .domStop c dom => Sys2Proof.Machine.execDomStop c dom s
  | .domStep c dom ticks => Sys2Proof.Machine.execDomStep c dom ticks s
  | .domSlew c dom ticks unc slewMax => Sys2Proof.Machine.execDomSlew c dom ticks unc slewMax s
  | .leapSet c type leapAt => Sys2Proof.Machine.execLeapSet c type leapAt s
  | .almArm c slot dom t kind target period policy => Sys2Proof.Machine.execAlmArm c slot dom t kind target period policy s
  | .almCancel c slot => Sys2Proof.Machine.execAlmCancel c slot s
  | .leapFire => Sys2Proof.Machine.execLeapFire s
  | .evoEdgeFire => Sys2Proof.Machine.execEvoEdgeFire s
  | .emuOpenFire => Sys2Proof.Machine.execEmuOpenFire s
  | .emuCloseFire => Sys2Proof.Machine.execEmuCloseFire s
  | .tsvEmitFire => Sys2Proof.Machine.execTsvEmitFire s
  | .escrowCommitFire => Sys2Proof.Machine.execEscrowCommitFire s
  | .tallySnapFire => Sys2Proof.Machine.execTallySnapFire s
  | .dsqWakeFire => Sys2Proof.Machine.execDsqWakeFire s
  | .slwCloseFire => Sys2Proof.Machine.execSlwCloseFire s
  | .hostIntFire => Sys2Proof.Machine.execHostIntFire s
  | .qputFire => Sys2Proof.Machine.execQputFire s
  | .rshServoClose => Sys2Proof.Machine.execRshServoClose s
  | .hrlServoClose => Sys2Proof.Machine.execHrlServoClose s
  | .holdoverSecondTick => Sys2Proof.Machine.execHoldoverSecondTick s
  | .crossCheckAnchor => Sys2Proof.Machine.execCrossCheckAnchor s
  | .gnssPairTimeout => Sys2Proof.Machine.execGnssPairTimeout s
  | .inputCfgWrite m n nom h data => Sys2Proof.Machine.execInputCfgWrite m n nom h data s
  | .refinEdge src edge tdc => Sys2Proof.Machine.execRefinEdge src edge tdc s
  | .actGapTimeout n => Sys2Proof.Machine.execActGapTimeout n s
  | .actAcceptTimeout n => Sys2Proof.Machine.execActAcceptTimeout n s
  | .fmFastGateEnd n fe ft le lt => Sys2Proof.Machine.execFmFastGateEnd n fe ft le lt s
  | .emuFifoRead m emu h => Sys2Proof.Machine.execEmuFifoRead m emu h s
  | .tdcCalCollectDone t hp hb => Sys2Proof.Machine.execTdcCalCollectDone t hp hb s
  | .tdcCalTimeout t => Sys2Proof.Machine.execTdcCalTimeout t s
  | .tdcCalWaitEnd t => Sys2Proof.Machine.execTdcCalWaitEnd t s
  | .tdcTableInstall t => Sys2Proof.Machine.execTdcTableInstall t s
  | .tdcTempTrigger temp => Sys2Proof.Machine.execTdcTempTrigger temp s
  | .emuArm c m mode startSrc stopSrc dom t0 per w dests queue emptyReport lateOk => Sys2Proof.Machine.execEmuArm c m mode startSrc stopSrc dom t0 per w dests queue emptyReport lateOk s
  | .emuDisarm c m => Sys2Proof.Machine.execEmuDisarm c m s
  | .tdcCal c mask => Sys2Proof.Machine.execTdcCal c mask s
  | .monRestart c mask => Sys2Proof.Machine.execMonRestart c mask s
  | .cohGateEnd smp0 smp1 rms => Sys2Proof.Machine.execCohGateEnd smp0 smp1 rms s
  | .gspCfgWrite m n lo h data => Sys2Proof.Machine.execGspCfgWrite m n lo h data s
  | .acquisitionSearchDone signal sv found phase doppler => Sys2Proof.Machine.execAcquisitionSearchDone signal sv found phase doppler s
  | .channelAssign ch signal sv phase doppler => Sys2Proof.Machine.execChannelAssign ch signal sv phase doppler s
  | .channelLock ch => Sys2Proof.Machine.execChannelLock ch s
  | .pullInTimeout ch => Sys2Proof.Machine.execPullInTimeout ch s
  | .bitSyncFound ch => Sys2Proof.Machine.execBitSyncFound ch s
  | .frameSyncFound sync => Sys2Proof.Machine.execFrameSyncFound sync s
  | .cn0Loss ch => Sys2Proof.Machine.execCn0Loss ch s
  | .channelRelease ch => Sys2Proof.Machine.execChannelRelease ch s
  | .measEpoch meas => Sys2Proof.Machine.execMeasEpoch meas s
  | .navUnitComplete ch fmt inverted fail rxc received taken => Sys2Proof.Machine.execNavUnitComplete ch fmt inverted fail rxc received taken s
  | .gnbTapfRead m h => Sys2Proof.Machine.execGnbTapfRead m h s
  | .gppsScheduleWrite sysSec est sigma mode flags used => Sys2Proof.Machine.execGppsScheduleWrite sysSec est sigma mode flags used s
  | .gppsEdge tdc => Sys2Proof.Machine.execGppsEdge tdc s
  | .gnbTmsgCapture m h => Sys2Proof.Machine.execGnbTmsgCapture m h s
  | .solutionLostTimeout => Sys2Proof.Machine.execSolutionLostTimeout s
  | .surveyDone elapsed x y z unc => Sys2Proof.Machine.execSurveyDone elapsed x y z unc s
  | .surveyFailed elapsed unc => Sys2Proof.Machine.execSurveyFailed elapsed unc s
  | .holdSuspect => Sys2Proof.Machine.execHoldSuspect s
  | .gnssCfg c sigEn tsys elev cn0 span per => Sys2Proof.Machine.execGnssCfg c sigEn tsys elev cn0 span per s
  | .gnssRestart c kind => Sys2Proof.Machine.execGnssRestart c kind s
  | .gnssSurvey c min target max => Sys2Proof.Machine.execGnssSurvey c min target max s
  | .gnssPosSet c cand x y z unc => Sys2Proof.Machine.execGnssPosSet c cand x y z unc s
  | .gnssPosClear c => Sys2Proof.Machine.execGnssPosClear c s
  | .gnssTap c on => Sys2Proof.Machine.execGnssTap c on s
  | .cfdComplianceSample vloop vcfd imeas => Sys2Proof.Machine.execCfdComplianceSample vloop vcfd imeas s
  | .aoiOffloadStep => Sys2Proof.Machine.execAoiOffloadStep s
  | .aoiMonMean codes => Sys2Proof.Machine.execAoiMonMean codes s
  | .aoiEolFit => Sys2Proof.Machine.execAoiEolFit s
  | .gainCalPhaseEnd => Sys2Proof.Machine.execGainCalPhaseEnd s
  | .refForce c cand => Sys2Proof.Machine.execRefForce c cand s
  | .refLockout c cand on => Sys2Proof.Machine.execRefLockout c cand on s
  | .rshOpen c => Sys2Proof.Machine.execRshOpen c s
  | .rshClose c => Sys2Proof.Machine.execRshClose c s
  | .steerFreq c foff => Sys2Proof.Machine.execSteerFreq c foff s
  | .steerPhase c ticks unc slewMax => Sys2Proof.Machine.execSteerPhase c ticks unc slewMax s
  | .rshD0Seed c t bound => Sys2Proof.Machine.execRshD0Seed c t bound s
  | .aoiSteer c on => Sys2Proof.Machine.execAoiSteer c on s
  | .aoiCfdSet c code => Sys2Proof.Machine.execAoiCfdSet c code s
  | .cfdGainCal c step => Sys2Proof.Machine.execCfdGainCal c step s
  | .bandSearchStepEnd n count => Sys2Proof.Machine.execBandSearchStepEnd n count s
  | .bandVerifyEnd n count => Sys2Proof.Machine.execBandVerifyEnd n count s
  | .lockWaitExpire n => Sys2Proof.Machine.execLockWaitExpire n s
  | .phaseMonitorCompare n count => Sys2Proof.Machine.execPhaseMonitorCompare n count s
  | .alignErrCompute n => Sys2Proof.Machine.execAlignErrCompute n s
  | .clkoutSettingApply o => Sys2Proof.Machine.execClkoutSettingApply o s
  | .synCfg c n tf mode refin bw lockWait fl => Sys2Proof.Machine.execSynCfg c n tf mode refin bw lockWait fl s
  | .synPstep c n ticks => Sys2Proof.Machine.execSynPstep c n ticks s
  | .synAlign c n method => Sys2Proof.Machine.execSynAlign c n method s
  | .synMemClear c n => Sys2Proof.Machine.execSynMemClear c n s
  | .synOff c n => Sys2Proof.Machine.execSynOff c n s
  | .synEvoArm c v dom e0 per width pol lateOk => Sys2Proof.Machine.execSynEvoArm c v dom e0 per width pol lateOk s
  | .synEvoDisarm c v => Sys2Proof.Machine.execSynEvoDisarm c v s
  | .engineIssueCycle e => Sys2Proof.Machine.execEngineIssueCycle e s
  | .add t rd ra rb => Sys2Proof.Machine.execAdd t rd ra rb s
  | .sub t rd ra rb => Sys2Proof.Machine.execSub t rd ra rb s
  | .and t rd ra rb => Sys2Proof.Machine.execAnd t rd ra rb s
  | .or t rd ra rb => Sys2Proof.Machine.execOr t rd ra rb s
  | .xor t rd ra rb => Sys2Proof.Machine.execXor t rd ra rb s
  | .shl t rd ra rb => Sys2Proof.Machine.execShl t rd ra rb s
  | .shr t rd ra rb => Sys2Proof.Machine.execShr t rd ra rb s
  | .sra t rd ra rb => Sys2Proof.Machine.execSra t rd ra rb s
  | .mul t rd ra rb => Sys2Proof.Machine.execMul t rd ra rb s
  | .mulhu t rd ra rb => Sys2Proof.Machine.execMulhu t rd ra rb s
  | .mulhs t rd ra rb => Sys2Proof.Machine.execMulhs t rd ra rb s
  | .cmp t ra rb => Sys2Proof.Machine.execCmp t ra rb s
  | .min t rd ra rb => Sys2Proof.Machine.execMin t rd ra rb s
  | .max t rd ra rb => Sys2Proof.Machine.execMax t rd ra rb s
  | .adds t rd ra rb => Sys2Proof.Machine.execAdds t rd ra rb s
  | .subs t rd ra rb => Sys2Proof.Machine.execSubs t rd ra rb s
  | .addi t rd ra e imm => Sys2Proof.Machine.execAddi t rd ra e imm s
  | .andi t rd ra e imm => Sys2Proof.Machine.execAndi t rd ra e imm s
  | .ori t rd ra e imm => Sys2Proof.Machine.execOri t rd ra e imm s
  | .xori t rd ra e imm => Sys2Proof.Machine.execXori t rd ra e imm s
  | .shi t rd ra ty amount => Sys2Proof.Machine.execShi t rd ra ty amount s
  | .cmpi t ra e imm => Sys2Proof.Machine.execCmpi t ra e imm s
  | .li t rd e imm => Sys2Proof.Machine.execLi t rd e imm s
  | .liu t rd e imm => Sys2Proof.Machine.execLiu t rd e imm s
  | .fmul t rd ra rb rm => Sys2Proof.Machine.execFmul t rd ra rb rm s
  | .fmac t rd ra rb rm => Sys2Proof.Machine.execFmac t rd ra rb rm s
  | .sat t rd ra rb => Sys2Proof.Machine.execSat t rd ra rb s
  | .itof t rd ra => Sys2Proof.Machine.execItof t rd ra s
  | .ftoi t rd ra rm => Sys2Proof.Machine.execFtoi t rd ra rm s
  | .ld t rd ra e imm => Sys2Proof.Machine.execLd t rd ra e imm s
  | .ldw t rd ra e imm => Sys2Proof.Machine.execLdw t rd ra e imm s
  | .st t rs ra e imm => Sys2Proof.Machine.execSt t rs ra e imm s
  | .stw t rs ra e imm => Sys2Proof.Machine.execStw t rs ra e imm s
  | .tread t tn dom => Sys2Proof.Machine.execTread t tn dom s
  | .tsnap t tn count gs => Sys2Proof.Machine.execTsnap t tn count gs s
  | .tadd t tn ta gs ns => Sys2Proof.Machine.execTadd t tn ta gs ns s
  | .tsub t gd ta tb wb => Sys2Proof.Machine.execTsub t gd ta tb wb s
  | .tcmp t ta tb bnd => Sys2Proof.Machine.execTcmp t ta tb bnd s
  | .twait t tn gd => Sys2Proof.Machine.execTwait t tn gd s
  | .temit t tn gd gs => Sys2Proof.Machine.execTemit t tn gd gs s
  | .tget t gd tn field => Sys2Proof.Machine.execTget t gd tn field s
  | .tset t tn gs field => Sys2Proof.Machine.execTset t tn gs field s
  | .qput t gs q fin nb => Sys2Proof.Machine.execQput t gs q fin nb s
  | .qget t gd q nb => Sys2Proof.Machine.execQget t gd q nb s
  | .qcnt t gd q => Sys2Proof.Machine.execQcnt t gd q s
  | .ebegin t gd => Sys2Proof.Machine.execEbegin t gd s
  | .ewr t gd ga gs e => Sys2Proof.Machine.execEwr t gd ga gs e s
  | .ecommit t gd e at' late => Sys2Proof.Machine.execEcommit t gd e at' late s
  | .eabort t gd e => Sys2Proof.Machine.execEabort t gd e s
  | .pcmd t gd ga cmd => Sys2Proof.Machine.execPcmd t gd ga cmd s
  | .kmac t gd ga gb => Sys2Proof.Machine.execKmac t gd ga gb s
  | .br t e off => Sys2Proof.Machine.execBr t e off s
  | .bcc t cond e off => Sys2Proof.Machine.execBcc t cond e off s
  | .call t gl e off => Sys2Proof.Machine.execCall t gl e off s
  | .ret t ga => Sys2Proof.Machine.execRet t ga s
  | .yield t => Sys2Proof.Machine.execYield t s
  | .halt t => Sys2Proof.Machine.execHalt t s
  | .trap t code => Sys2Proof.Machine.execTrap t code s
  | .illegalInstruction t => Sys2Proof.Machine.execIllegalInstruction t s
  | .threadReplyArrive t => Sys2Proof.Machine.execThreadReplyArrive t s
  | .queueWaitWake q => Sys2Proof.Machine.execQueueWaitWake q s
  | .yieldRelease t => Sys2Proof.Machine.execYieldRelease t s
  | .escrowImmediateCommit => Sys2Proof.Machine.execEscrowImmediateCommit s
  | .dsqSampleCapture t => Sys2Proof.Machine.execDsqSampleCapture t s
  | .drvLoad c image => Sys2Proof.Machine.execDrvLoad c image s
  | .drvUnload c part codeBase => Sys2Proof.Machine.execDrvUnload c part codeBase s
  | .thrStart c t off => Sys2Proof.Machine.execThrStart c t off s
  | .thrStop c t => Sys2Proof.Machine.execThrStop c t s
  | .thrResume c t pc => Sys2Proof.Machine.execThrResume c t pc s
  | .escBegin c => Sys2Proof.Machine.execEscBegin c s
  | .escWrite c e addr w => Sys2Proof.Machine.execEscWrite c e addr w s
  | .escCommit c e at' lateOk => Sys2Proof.Machine.execEscCommit c e at' lateOk s
  | .escAbort c e => Sys2Proof.Machine.execEscAbort c e s
  | .queuePush m q h data => Sys2Proof.Machine.execQueuePush m q h data s
  | .queuePushEnd m q h data => Sys2Proof.Machine.execQueuePushEnd m q h data s
  | .queueDataRead m q h => Sys2Proof.Machine.execQueueDataRead m q h s
  | .queueCfgWrite m q h data => Sys2Proof.Machine.execQueueCfgWrite m q h data s
  | .octCfg c oct lmodes fecs => Sys2Proof.Machine.execOctCfg c oct lmodes fecs s
  | .pairSet c a b dom trailer skipLl xport => Sys2Proof.Machine.execPairSet c a b dom trailer skipLl xport s
  | .pairClear c port => Sys2Proof.Machine.execPairClear c port s
  | .exportSet c port dst etype flush => Sys2Proof.Machine.execExportSet c port dst etype flush s
  | .portSend c port queue frame tsReq insert timeOfs corrOfs csumOfs launch opp => Sys2Proof.Machine.execPortSend c port queue frame tsReq insert timeOfs corrOfs csumOfs launch opp s
  | .serviceFrameRx port delta frame bad => Sys2Proof.Machine.execServiceFrameRx port delta frame bad s
  | .passFrameRx port delta frame bad gap => Sys2Proof.Machine.execPassFrameRx port delta frame bad gap s
  | .passFrameForward port => Sys2Proof.Machine.execPassFrameForward port s
  | .frameTx port delta => Sys2Proof.Machine.execFrameTx port delta s
  | .launchOpportunity port delta => Sys2Proof.Machine.execLaunchOpportunity port delta s
  | .dlmMeasure lane done rx tx => Sys2Proof.Machine.execDlmMeasure lane done rx tx s
  | .portLinkUp lane => Sys2Proof.Machine.execPortLinkUp lane s
  | .portLinkDown lane => Sys2Proof.Machine.execPortLinkDown lane s
  | .txtsFifoRead m port h => Sys2Proof.Machine.execTxtsFifoRead m port h s
  | .exportFlush => Sys2Proof.Machine.execExportFlush s
  | .slgEnable c port slot hdrLen winUs => Sys2Proof.Machine.execSlgEnable c port slot hdrLen winUs s
  | .slgDisable c port => Sys2Proof.Machine.execSlgDisable c port s
  | .slgPageCheck c page => Sys2Proof.Machine.execSlgPageCheck c page s
  | .pageSeal port => Sys2Proof.Machine.execPageSeal port s
  | .checkpointBuild part => Sys2Proof.Machine.execCheckpointBuild part s
  | .slgRingEnable m p ckpt h data => Sys2Proof.Machine.execSlgRingEnable m p ckpt h data s
  | .svcSet c a part port transport addr tags ttl ptp ntp nts profile domNum mcast auth twoStep => Sys2Proof.Machine.execSvcSet c a part port transport addr tags ttl ptp ntp nts profile domNum mcast auth twoStep s
  | .svcClear c a => Sys2Proof.Machine.execSvcClear c a s
  | .ntsKeyRoll c a slot prevClear => Sys2Proof.Machine.execNtsKeyRoll c a slot prevClear s
  | .assocFlush c a => Sys2Proof.Machine.execAssocFlush c a s
  | .ntskeCfg c a slot cert port records => Sys2Proof.Machine.execNtskeCfg c a slot cert port records s
  | .xcAdmit => Sys2Proof.Machine.execXcAdmit s
  | .xcParseDone x => Sys2Proof.Machine.execXcParseDone x s
  | .xcKeyDone x => Sys2Proof.Machine.execXcKeyDone x s
  | .xcVerifyDone x opp => Sys2Proof.Machine.execXcVerifyDone x opp s
  | .xcBuildDone x => Sys2Proof.Machine.execXcBuildDone x s
  | .xcTimeout x => Sys2Proof.Machine.execXcTimeout x s
  | .policeDecaySweep => Sys2Proof.Machine.execPoliceDecaySweep s
  | .assocExpire x => Sys2Proof.Machine.execAssocExpire x s
  | .ntskeHandshake a c2s s2c => Sys2Proof.Machine.execNtskeHandshake a c2s s2c s
  | .tsvTableEnable m police h data => Sys2Proof.Machine.execTsvTableEnable m police h data s
  | .keyGen c ty attr gen => Sys2Proof.Machine.execKeyGen c ty attr gen s
  | .keyImport c ty attr gen material => Sys2Proof.Machine.execKeyImport c ty attr gen material s
  | .keyLoad c slot blob kcv persist => Sys2Proof.Machine.execKeyLoad c slot blob kcv persist s
  | .keyErase c slot => Sys2Proof.Machine.execKeyErase c slot s
  | .keyInfo c slot => Sys2Proof.Machine.execKeyInfo c slot s
  | .kvcSign c slot digest => Sys2Proof.Machine.execKvcSign c slot digest s
  | .slotAssign c slot part => Sys2Proof.Machine.execSlotAssign c slot part s
  | .tamperCfg c modes filt en lo hi => Sys2Proof.Machine.execTamperCfg c modes filt en lo hi s
  | .kvcSelftest c pass => Sys2Proof.Machine.execKvcSelftest c pass s
  | .kvcZeroise c => Sys2Proof.Machine.execKvcZeroise c s
  | .vaultProvision c token => Sys2Proof.Machine.execVaultProvision c token s
  | .tamperTrip source supply => Sys2Proof.Machine.execTamperTrip source supply s
  | .eraseForceTimeout slot => Sys2Proof.Machine.execEraseForceTimeout slot s
  | .keyCacheMissDone slot gen blob => Sys2Proof.Machine.execKeyCacheMissDone slot gen blob s
  | .cpExportRelease call gen => Sys2Proof.Machine.execCpExportRelease call gen s
  | .cacheEccError slot gen => Sys2Proof.Machine.execCacheEccError slot gen s
  | .drbgReseed => Sys2Proof.Machine.execDrbgReseed s
  | .rngHealthFail => Sys2Proof.Machine.execRngHealthFail s
  | .hrlEnable c on => Sys2Proof.Machine.execHrlEnable c on s
  | .hrlSend c gm payload => Sys2Proof.Machine.execHrlSend c gm payload s
  | .hrlHandover c => Sys2Proof.Machine.execHrlHandover c s
  | .hrlQuiet c => Sys2Proof.Machine.execHrlQuiet c s
  | .hrlWake c => Sys2Proof.Machine.execHrlWake c s
  | .hrlKeySwitch c turn => Sys2Proof.Machine.execHrlKeySwitch c turn s
  | .hingeLinkChange e up rx tx => Sys2Proof.Machine.execHingeLinkChange e up rx tx s
  | .timeMarkRx e delta frame crcOk => Sys2Proof.Machine.execTimeMarkRx e delta frame crcOk s
  | .coinRx e frame crcOk => Sys2Proof.Machine.execCoinRx e frame crcOk s
  | .bulkRx e frame crcOk => Sys2Proof.Machine.execBulkRx e frame crcOk s
  | .ackRx e frame crcOk => Sys2Proof.Machine.execAckRx e frame crcOk s
  | .healthRx e delta frame crcOk => Sys2Proof.Machine.execHealthRx e delta frame crcOk s
  | .claimRx e frame crcOk => Sys2Proof.Machine.execClaimRx e frame crcOk s
  | .rosterRx e frame crcOk => Sys2Proof.Machine.execRosterRx e frame crcOk s
  | .wakeRx e frame crcOk => Sys2Proof.Machine.execWakeRx e frame crcOk s
  | .quietRx e frame crcOk => Sys2Proof.Machine.execQuietRx e frame crcOk s
  | .frameRepeat e => Sys2Proof.Machine.execFrameRepeat e s
  | .turnStart => Sys2Proof.Machine.execTurnStart s
  | .turnTimeout => Sys2Proof.Machine.execTurnTimeout s
  | .timeMarkSend deltaE deltaW => Sys2Proof.Machine.execTimeMarkSend deltaE deltaW s
  | .healthSend deltaE deltaW => Sys2Proof.Machine.execHealthSend deltaE deltaW s
  | .ackSend => Sys2Proof.Machine.execAckSend s
  | .gmStreamSend => Sys2Proof.Machine.execGmStreamSend s
  | .bulkSend => Sys2Proof.Machine.execBulkSend s
  | .coinSend => Sys2Proof.Machine.execCoinSend s
  | .bulkRetransmit gm => Sys2Proof.Machine.execBulkRetransmit gm s
  | .claimSend => Sys2Proof.Machine.execClaimSend s
  | .stewardElect => Sys2Proof.Machine.execStewardElect s
  | .coinRemint => Sys2Proof.Machine.execCoinRemint s
  | .memberRemove k => Sys2Proof.Machine.execMemberRemove k s
  | .stewardTakeover => Sys2Proof.Machine.execStewardTakeover s
  | .gmbPromote => Sys2Proof.Machine.execGmbPromote s
  | .ringSilenceTimeout => Sys2Proof.Machine.execRingSilenceTimeout s
  | .gmbSelftest kat loop => Sys2Proof.Machine.execGmbSelftest kat loop s
  | .hrlRxfRead m h => Sys2Proof.Machine.execHrlRxfRead m h s
  | .partReset c p => Sys2Proof.Machine.execPartReset c p s
  | .partitionEnableWrite m p h data => Sys2Proof.Machine.execPartitionEnableWrite m p h data s
  | .functionLevelReset f => Sys2Proof.Machine.execFunctionLevelReset f s
  | .perstAssert => Sys2Proof.Machine.execPerstAssert s
  | .perstRelease => Sys2Proof.Machine.execPerstRelease s
  | .ringDoorbell m f r h data => Sys2Proof.Machine.execRingDoorbell m f r h data s
  | .commandStart f r entry ext => Sys2Proof.Machine.execCommandStart f r entry ext s
  | .ringEnable m f r h data => Sys2Proof.Machine.execRingEnable m f r h data s
  | .msixUnmask f v => Sys2Proof.Machine.execMsixUnmask f v s
  | .busWatchdogExpire code job addr => Sys2Proof.Machine.execBusWatchdogExpire code job addr s
  | .blockResetReaction kat => Sys2Proof.Machine.execBlockResetReaction kat s
  | .chipResetReaction => Sys2Proof.Machine.execChipResetReaction s
  | .faultDeviceClear m h data => Sys2Proof.Machine.execFaultDeviceClear m h data s
  | .faultPartitionClear m p h data => Sys2Proof.Machine.execFaultPartitionClear m p h data s
  | .collectorParity => Sys2Proof.Machine.execCollectorParity s
  | .ledgerEntryWrite => Sys2Proof.Machine.execLedgerEntryWrite s
  | .supLedgerRead m h => Sys2Proof.Machine.execSupLedgerRead m h s
  | .heartbeatWrite m h data => Sys2Proof.Machine.execHeartbeatWrite m h data s
  | .heartbeatExpire => Sys2Proof.Machine.execHeartbeatExpire s
  | .resetCountClear => Sys2Proof.Machine.execResetCountClear s
  | .tallyWindowEnd => Sys2Proof.Machine.execTallyWindowEnd s
  | .faultInject c n p => Sys2Proof.Machine.execFaultInject c n p s
  | .ledgerMark c sev data => Sys2Proof.Machine.execLedgerMark c sev data s
  | .coldReset => Sys2Proof.Machine.execColdReset s
  | .warmReset => Sys2Proof.Machine.execWarmReset s
  | .bootRomStart flash => Sys2Proof.Machine.execBootRomStart flash s
  | .bootComplete rngOk kat => Sys2Proof.Machine.execBootComplete rngOk kat s
  | .devReset c => Sys2Proof.Machine.execDevReset c s
  | .serviceEnter c => Sys2Proof.Machine.execServiceEnter c s
  | .serviceExit c => Sys2Proof.Machine.execServiceExit c s
  | .safeExit c => Sys2Proof.Machine.execSafeExit c s
  | .fwBegin c len => Sys2Proof.Machine.execFwBegin c len s
  | .fwWrite c offset data => Sys2Proof.Machine.execFwWrite c offset data s
  | .fwVerify c => Sys2Proof.Machine.execFwVerify c s
  | .fwActivate c => Sys2Proof.Machine.execFwActivate c s
  | .fwConfirm c force => Sys2Proof.Machine.execFwConfirm c force s
  | .attestQuote c nonce target => Sys2Proof.Machine.execAttestQuote c nonce target s
  | .attestHingeTimeout => Sys2Proof.Machine.execAttestHingeTimeout s
  | .attestLog c => Sys2Proof.Machine.execAttestLog c s
  | .mregExtend c data => Sys2Proof.Machine.execMregExtend c data s
  | .ownerClaim c token => Sys2Proof.Machine.execOwnerClaim c token s
  | .ownerLock c act token => Sys2Proof.Machine.execOwnerLock c act token s
  | .certInstall c chain => Sys2Proof.Machine.execCertInstall c chain s
  | .imgKeySet c part key token => Sys2Proof.Machine.execImgKeySet c part key token s
  | .oscStabilityCompare k n => Sys2Proof.Machine.execOscStabilityCompare k n s
  | .oscEdgeTimeout k => Sys2Proof.Machine.execOscEdgeTimeout k s
  | .pllProofTimer k => Sys2Proof.Machine.execPllProofTimer k s
  | .refSysReturn => Sys2Proof.Machine.execRefSysReturn s
  | .clockSourceRelease d heldNs => Sys2Proof.Machine.execClockSourceRelease d heldNs s
  | .ircFallbackTimeout => Sys2Proof.Machine.execIrcFallbackTimeout s
  | .ircRestartTimer => Sys2Proof.Machine.execIrcRestartTimer s
  | .sysxoBootWaitEnd => Sys2Proof.Machine.execSysxoBootWaitEnd s
  | .ircTrim count => Sys2Proof.Machine.execIrcTrim count s
  | .peripheralEnableWrite m h data => Sys2Proof.Machine.execPeripheralEnableWrite m h data s
  | .fmcStart m h data => Sys2Proof.Machine.execFmcStart m h data s
  | .fmcDone count => Sys2Proof.Machine.execFmcDone count s
  | .fmcStall => Sys2Proof.Machine.execFmcStall s
  | .dvfsTargetWrite m h data => Sys2Proof.Machine.execDvfsTargetWrite m h data s
  | .pmbusTransactionDone ok value => Sys2Proof.Machine.execPmbusTransactionDone ok value s
  | .dvfsSettleExpire => Sys2Proof.Machine.execDvfsSettleExpire s
  | .dvfsStepTimeout => Sys2Proof.Machine.execDvfsStepTimeout s
  | .tempRead readings => Sys2Proof.Machine.execTempRead readings s
  | .wearMeasure d => Sys2Proof.Machine.execWearMeasure d s
  | .wearDailyFit => Sys2Proof.Machine.execWearDailyFit s
  | .emuStatReadClear m emu h => Sys2Proof.Machine.execEmuStatReadClear m emu h s
  | .gnbTstatReadClear m h => Sys2Proof.Machine.execGnbTstatReadClear m h s
  | .gnbNavStatReadClear m h => Sys2Proof.Machine.execGnbNavStatReadClear m h s
  | .synStatReadClear m n h => Sys2Proof.Machine.execSynStatReadClear m n h s
  | .evoStatReadClear m v h => Sys2Proof.Machine.execEvoStatReadClear m v h s
  | .dsqStatReadClear m h => Sys2Proof.Machine.execDsqStatReadClear m h s
  | .queueStatReadClear m q h => Sys2Proof.Machine.execQueueStatReadClear m q h s
  | .tsvStatReadClear m h => Sys2Proof.Machine.execTsvStatReadClear m h s
  | .tsvDropReadClear m p h => Sys2Proof.Machine.execTsvDropReadClear m p h s
  | .tsvErrReadClear m p h => Sys2Proof.Machine.execTsvErrReadClear m p h s
  | .kvcCacheStatReadClear m h => Sys2Proof.Machine.execKvcCacheStatReadClear m h s
  | .vsPinsReadClear m v h => Sys2Proof.Machine.execVsPinsReadClear m v h s
  | .hrlLtallyReadClear m h => Sys2Proof.Machine.execHrlLtallyReadClear m h s
  | .nodeTallyReadClear m k h => Sys2Proof.Machine.execNodeTallyReadClear m k h s
  | .parStatReadClear m h => Sys2Proof.Machine.execParStatReadClear m h s
  | .parFnStatReadClear m f h => Sys2Proof.Machine.execParFnStatReadClear m f h s
  | .parBusCntReadClear m h => Sys2Proof.Machine.execParBusCntReadClear m h s
  | .ledgerStatReadClear m h => Sys2Proof.Machine.execLedgerStatReadClear m h s
  | .fcntReadClear m n h => Sys2Proof.Machine.execFcntReadClear m n h s
  | .tbStatReadClear m b h => Sys2Proof.Machine.execTbStatReadClear m b h s
  | .tbPeakReadClear m b k h => Sys2Proof.Machine.execTbPeakReadClear m b k h s
  | .expStatReadClear m h => Sys2Proof.Machine.execExpStatReadClear m h s
  | .slgStatReadClear m p h => Sys2Proof.Machine.execSlgStatReadClear m p h s
  | .pwrClkCntReadClear m h => Sys2Proof.Machine.execPwrClkCntReadClear m h s
  | .pwrDvfsReadClear m h => Sys2Proof.Machine.execPwrDvfsReadClear m h s
  | .pwrTempReadClear m h => Sys2Proof.Machine.execPwrTempReadClear m h s
  | .rngHealthPass => Sys2Proof.Machine.execRngHealthPass s
  | .keyGenTimeout => Sys2Proof.Machine.execKeyGenTimeout s
  | .vbatWarn mv => Sys2Proof.Machine.execVbatWarn mv s
  | .tamperSourceRelease source => Sys2Proof.Machine.execTamperSourceRelease source s
  | .aonFail => Sys2Proof.Machine.execAonFail s
  | .pcieErr live => Sys2Proof.Machine.execPcieErr live s
  | .fecUncorr lane => Sys2Proof.Machine.execFecUncorr lane s
  | .windowDeny f addr write => Sys2Proof.Machine.execWindowDeny f addr write s
  | .partitionResetComplete p => Sys2Proof.Machine.execPartitionResetComplete p s
  | .checkbitRateWindow errors => Sys2Proof.Machine.execCheckbitRateWindow errors s

end Sys2Proof.Machine
end

