-- ==== Sys2Proof/WellFormed.lean ====
section
/-! DEFINITION. Which commands are well formed: the sender is one that the block has (R338, R624, R652). Every other operand is
judged by the command's own meaning, which refuses it or leaves the state as it is. -/
namespace Sys2Proof

/-- A caller exists: functions 0 to 8 with four rings each, threads 0 to 127, CP firmware. -/
def Caller.wf : Caller → Bool
  | .host f r => decide (f < 9) && decide (r < 4)
  | .thread t => decide (t < 128)
  | .firmware => true

/-- A master exists: four CP cores, functions 0 to 8, threads 0 to 127, the DMA engine. -/
def Master.wf : Master → Bool
  | .cp k => decide (k < 4)
  | .fn f => decide (f < 9)
  | .thread t => decide (t < 128)
  | .dma => true

/-- A job of the DMA engine names what exists: rings, ports, partitions. -/
def DmaJob.wf : DmaJob → Bool
  | .payload f r | .result f r | .fetch f r => decide (f < 9) && decide (r < 4)
  | .page p => decide (p < 64)
  | .checkpoint p => decide (p < 8)

/-- Who sends a command: a caller, a master, the DMA engine with its job, or the block's own clocks, timers and pins. -/
inductive Sender
  | caller (c : Caller)
  | master (m : Master)
  | job (j : DmaJob)
  | event
  deriving DecidableEq, Repr

/-- The sender of a command. -/
def Instr.sender : Instr → Sender
  | .registerWrite m .. | .domainTimeCapture m .. | .inputCfgWrite m .. | .emuFifoRead m .. | .gspCfgWrite m ..
  | .gnbTapfRead m .. | .gnbTmsgCapture m .. | .queuePush m .. | .queuePushEnd m .. | .queueDataRead m ..
  | .queueCfgWrite m .. | .txtsFifoRead m .. | .slgRingEnable m .. | .tsvTableEnable m .. | .hrlRxfRead m ..
  | .partitionEnableWrite m .. | .ringDoorbell m .. | .ringEnable m .. | .faultDeviceClear m ..
  | .faultPartitionClear m .. | .supLedgerRead m .. | .heartbeatWrite m .. | .peripheralEnableWrite m ..
  | .fmcStart m .. | .dvfsTargetWrite m .. | .emuStatReadClear m .. | .gnbTstatReadClear m ..
  | .gnbNavStatReadClear m .. | .synStatReadClear m .. | .evoStatReadClear m .. | .dsqStatReadClear m ..
  | .queueStatReadClear m .. | .tsvStatReadClear m .. | .tsvDropReadClear m .. | .tsvErrReadClear m ..
  | .kvcCacheStatReadClear m .. | .vsPinsReadClear m .. | .hrlLtallyReadClear m .. | .nodeTallyReadClear m ..
  | .parStatReadClear m .. | .parFnStatReadClear m .. | .parBusCntReadClear m .. | .ledgerStatReadClear m ..
  | .fcntReadClear m .. | .tbStatReadClear m .. | .tbPeakReadClear m .. | .expStatReadClear m ..
  | .slgStatReadClear m .. | .pwrClkCntReadClear m .. | .pwrDvfsReadClear m .. | .pwrTempReadClear m .. => .master m
  | .domConfig c .. | .domSeed c .. | .domStart c .. | .domStop c .. | .domStep c .. | .domSlew c .. | .leapSet c ..
  | .almArm c .. | .almCancel c .. | .emuArm c .. | .emuDisarm c .. | .tdcCal c .. | .monRestart c .. | .gnssCfg c ..
  | .gnssRestart c .. | .gnssSurvey c .. | .gnssPosSet c .. | .gnssPosClear c | .gnssTap c .. | .refForce c ..
  | .refLockout c .. | .rshOpen c | .rshClose c | .steerFreq c .. | .steerPhase c .. | .rshD0Seed c .. | .aoiSteer c ..
  | .aoiCfdSet c .. | .cfdGainCal c .. | .synCfg c .. | .synPstep c .. | .synAlign c .. | .synMemClear c ..
  | .synOff c .. | .synEvoArm c .. | .synEvoDisarm c .. | .drvLoad c .. | .drvUnload c .. | .thrStart c ..
  | .thrStop c .. | .thrResume c .. | .escBegin c | .escWrite c .. | .escCommit c .. | .escAbort c .. | .octCfg c ..
  | .pairSet c .. | .pairClear c .. | .exportSet c .. | .portSend c .. | .slgEnable c .. | .slgDisable c ..
  | .slgPageCheck c .. | .svcSet c .. | .svcClear c .. | .ntsKeyRoll c .. | .assocFlush c .. | .ntskeCfg c ..
  | .keyGen c .. | .keyImport c .. | .keyLoad c .. | .keyErase c .. | .keyInfo c .. | .kvcSign c .. | .slotAssign c ..
  | .tamperCfg c .. | .kvcSelftest c .. | .kvcZeroise c | .vaultProvision c .. | .hrlEnable c .. | .hrlSend c ..
  | .hrlHandover c | .hrlQuiet c | .hrlWake c | .hrlKeySwitch c .. | .partReset c .. | .faultInject c ..
  | .ledgerMark c .. | .devReset c | .serviceEnter c | .serviceExit c | .safeExit c | .fwBegin c .. | .fwWrite c ..
  | .fwVerify c | .fwActivate c | .fwConfirm c .. | .attestQuote c .. | .attestLog c | .mregExtend c ..
  | .ownerClaim c .. | .ownerLock c .. | .certInstall c .. | .imgKeySet c .. => .caller c
  | .busWatchdogExpire _ j .. => .job j
  | .clkTseCycle .. | .boundUpdate | .leapFire | .evoEdgeFire | .emuOpenFire | .emuCloseFire | .tsvEmitFire
  | .escrowCommitFire | .tallySnapFire | .dsqWakeFire | .slwCloseFire | .hostIntFire | .qputFire | .rshServoClose
  | .hrlServoClose | .holdoverSecondTick | .crossCheckAnchor | .gnssPairTimeout | .refinEdge .. | .actGapTimeout ..
  | .actAcceptTimeout .. | .fmFastGateEnd .. | .tdcCalCollectDone .. | .tdcCalTimeout .. | .tdcCalWaitEnd ..
  | .tdcTableInstall .. | .tdcTempTrigger .. | .cohGateEnd .. | .acquisitionSearchDone .. | .channelAssign ..
  | .channelLock .. | .pullInTimeout .. | .bitSyncFound .. | .frameSyncFound .. | .cn0Loss .. | .channelRelease ..
  | .measEpoch .. | .navUnitComplete .. | .gppsScheduleWrite .. | .gppsEdge .. | .solutionLostTimeout | .surveyDone ..
  | .surveyFailed .. | .holdSuspect | .cfdComplianceSample .. | .aoiOffloadStep | .aoiMonMean .. | .aoiEolFit
  | .gainCalPhaseEnd | .bandSearchStepEnd .. | .bandVerifyEnd .. | .lockWaitExpire .. | .phaseMonitorCompare ..
  | .alignErrCompute .. | .clkoutSettingApply .. | .engineIssueCycle .. | .add .. | .sub .. | .and .. | .or ..
  | .xor .. | .shl .. | .shr .. | .sra .. | .mul .. | .mulhu .. | .mulhs .. | .cmp .. | .min .. | .max .. | .adds ..
  | .subs .. | .addi .. | .andi .. | .ori .. | .xori .. | .shi .. | .cmpi .. | .li .. | .liu .. | .fmul .. | .fmac ..
  | .sat .. | .itof .. | .ftoi .. | .ld .. | .ldw .. | .st .. | .stw .. | .tread .. | .tsnap .. | .tadd .. | .tsub ..
  | .tcmp .. | .twait .. | .temit .. | .tget .. | .tset .. | .qput .. | .qget .. | .qcnt .. | .ebegin .. | .ewr ..
  | .ecommit .. | .eabort .. | .pcmd .. | .kmac .. | .br .. | .bcc .. | .call .. | .ret .. | .yield .. | .halt ..
  | .trap .. | .illegalInstruction .. | .threadReplyArrive .. | .queueWaitWake .. | .yieldRelease ..
  | .escrowImmediateCommit | .dsqSampleCapture .. | .serviceFrameRx .. | .passFrameRx .. | .passFrameForward ..
  | .frameTx .. | .launchOpportunity .. | .dlmMeasure .. | .portLinkUp .. | .portLinkDown .. | .exportFlush
  | .pageSeal .. | .checkpointBuild .. | .xcAdmit | .xcParseDone .. | .xcKeyDone .. | .xcVerifyDone ..
  | .xcBuildDone .. | .xcTimeout .. | .policeDecaySweep | .assocExpire .. | .ntskeHandshake .. | .tamperTrip ..
  | .eraseForceTimeout .. | .keyCacheMissDone .. | .cpExportRelease .. | .cacheEccError .. | .drbgReseed
  | .rngHealthFail | .hingeLinkChange .. | .timeMarkRx .. | .coinRx .. | .bulkRx .. | .ackRx .. | .healthRx ..
  | .claimRx .. | .rosterRx .. | .wakeRx .. | .quietRx .. | .frameRepeat .. | .turnStart | .turnTimeout
  | .timeMarkSend .. | .healthSend .. | .ackSend | .gmStreamSend | .bulkSend | .coinSend | .bulkRetransmit ..
  | .claimSend | .stewardElect | .coinRemint | .memberRemove .. | .stewardTakeover | .gmbPromote | .ringSilenceTimeout
  | .gmbSelftest .. | .functionLevelReset .. | .perstAssert | .perstRelease | .commandStart .. | .msixUnmask ..
  | .blockResetReaction .. | .chipResetReaction | .collectorParity | .ledgerEntryWrite | .heartbeatExpire
  | .resetCountClear | .tallyWindowEnd | .coldReset | .warmReset | .bootRomStart .. | .bootComplete ..
  | .attestHingeTimeout | .oscStabilityCompare .. | .oscEdgeTimeout .. | .pllProofTimer .. | .refSysReturn
  | .clockSourceRelease .. | .ircFallbackTimeout | .ircRestartTimer | .sysxoBootWaitEnd | .ircTrim .. | .fmcDone ..
  | .fmcStall | .pmbusTransactionDone .. | .dvfsSettleExpire | .dvfsStepTimeout | .tempRead .. | .wearMeasure ..
  | .wearDailyFit | .rngHealthPass | .keyGenTimeout | .vbatWarn .. | .tamperSourceRelease .. | .aonFail | .pcieErr ..
  | .fecUncorr .. | .windowDeny .. | .partitionResetComplete .. | .checkbitRateWindow .. => .event

/-- A sender exists. -/
def Sender.wf : Sender → Bool
  | .caller c => c.wf
  | .master m => m.wf
  | .job j => j.wf
  | .event => true

/-- A command is well formed: its sender exists. -/
def Instr.wf (i : Instr) : Bool := i.sender.wf

end Sys2Proof
end

