-- ==== Sys2Proof/Safety.lean ====
section
/-! DEFINITION. What counts as a safe run, and the conditions under which a command completes, in the terms that claims use. -/
namespace Sys2Proof.Machine

/-- The addressed stores of the block are in canonical form: the register file, the two SRAMs of DSQ, CP SRAM, the measurement
banks of GNB. -/
def State.memWf (s : State) : Bool :=
  tabWf 0 s.regs && tabWf 0 s.dsq.isram && tabWf 0 s.dsq.dsram && tabWf 0 s.cpx.sram && tabWf 0 s.gnb.bank

/-- Every DERIVED domain has a parent of a lower number (R55). -/
def State.parentsLower (s : State) : Prop := ∀ n : Nat, (s.dom n).kind = .derived → (s.dom n).parent < n

/-- A command completes: it answers a next state. -/
def Completes (i : Instr) (s : State) : Prop := ∃ t, exec i s = .next t

/-- A run of `n` steps from `s` neither faults nor is refused. -/
def RunsSafe : Nat → State → Prop
  | 0, _ => True
  | n + 1, s => ∃ t, step s = .next t ∧ RunsSafe n t

/-- Commands are served, and the opcode is legal in the present mode (R646, R712). -/
def State.admits (s : State) (op : Nat) : Bool := s.served && s.legal op

/-- The opcode is admitted from a caller with owner rights (R624). -/
def State.admitsOwner (s : State) (c : Caller) (op : Nat) : Bool := s.admits op && s.cOwner c

/-- The command of an opcode is judged by the mode before all else: nothing happens in RESET and in the halted mode (R646), and in a
mode in which the opcode is not legal it is refused with REFUSED_MODE and that refusal is entered in the event ledger (R19, R712). -/
def ModeFirst (i : Instr) (c : Caller) (op : Nat) : Prop :=
  ∀ s : State, (s.served = false → exec i s = .next s) ∧
    (s.served = true → s.legal op = false → exec i s = .next ((s.logRefused c op (s.cCmdId c)).complete c op .refusedMode))

/-- In a mode that admits the opcode, a caller without owner rights is refused with PARTITION_DENIED, whatever the operands (R624). -/
def OwnerOnly (i : Instr) (c : Caller) (op : Nat) : Prop :=
  ∀ s : State, s.admits op = true → s.cOwner c = false → exec i s = .next (s.complete c op .partitionDenied)

/-- An access of a master to register (i, j) is served at once: it lies within the family, the chip is out of reset, the master's
port is not stalled, the block is not gated, and the master reaches the address (R325, R651, R656, R657). -/
def State.serves (s : State) (m : Master) (r : RegId) (i j : Nat) : Bool :=
  decide (i < (regInfo r).ni) && decide (j < (regInfo r).nj) && !s.deaf &&
    (tabGet none s.par.stalls (portCode m)).isNone && !s.gated (regAddr r i j) && (!portReg r || s.leads i) &&
    (match m with
      | .cp _ => true
      | .fn f => !s.par.perstLow && decide (f ≤ 8) && s.fnReaches f (regAddr r i j)
      | .thread t => decide (t < 128) && s.thrReaches t (regAddr r i j)
      | .dma => false)

/-- What a served read of an ordinary register leaves: its RC fields cleared, its word answered (R13, R815). -/
def State.answered (s : State) (m : Master) (r : RegId) (i j : Nat) (h : Half) : State :=
  (s.clearRc r i j h).busAnswer { m := m, write := false, addr := regAddr r i j, h := h } (halfOf h (s.view m r i j))

/-- What a served write of an ordinary register leaves: the commits of its cycle come first (R34), then its fields take the
write by their access codes (R13), and what follows from it. -/
def State.stored (s : State) (m : Master) (r : RegId) (i j : Nat) (h : Half) (data : Word) : State :=
  s.drainDue.directWrite m r i j h data

/-! ### Threads -/

/-- Thread t may issue an instruction of `size` bytes: it is READY, an extension word lies within the code of the image that holds
PC, and no ECC error stands in the words (R340, R350). -/
def State.mayRun (s : State) (t size : Nat) : Prop :=
  t < 128 ∧ s.thrState t = 1 ∧ s.fetchEcc t size = 0 ∧
    (size = 8 → ∃ i : Image, s.imageAt (s.thrPart t) (s.pc t) = some i ∧ s.pc t + 4 < i.codeBase + i.codeLen)

/-- From s to u the registers of thread t and its own state may differ; every other register, memory and unit is as it was. The
count of issues for the tally banks and for samples goes on. -/
structure OnlyThread (s u : State) (t : Nat) : Prop where
  regs : ∀ (r : RegId) (i j : Nat), i < (regInfo r).ni → j < (regInfo r).nj → ¬ (i = t ∧ (r = .thrStat ∨ r = .thrG)) →
    u.rd r i j = s.rd r i j
  treg : ∀ k n : Nat, k ≠ t → u.treg k n = s.treg k n
  mem : u.dsq.dsram = s.dsq.dsram ∧ u.dsq.isram = s.dsq.isram ∧ u.dsq.images = s.dsq.images
  dsq : u.dsq.queues = s.dsq.queues ∧ u.dsq.staged = s.dsq.staged ∧ u.dsq.cseqOf = s.dsq.cseqOf ∧ u.dsq.pcmd = s.dsq.pcmd
  units : u.tse = s.tse ∧ u.rim = s.rim ∧ u.gnb = s.gnb ∧ u.rsh = s.rsh ∧ u.syn = s.syn ∧ u.npa = s.npa ∧ u.slg = s.slg ∧
    u.tsv = s.tsv ∧ u.kvc = s.kvc ∧ u.hrl = s.hrl ∧ u.par = s.par ∧ u.cpx = s.cpx ∧ u.pwr = s.pwr
  sup : { u.sup with bumps := [] } = { s.sup with bumps := [] }
  rest : u.out = s.out ∧ u.pending = s.pending

/-- From s to u thread t has gone on to `next`, READY, with register rd holding `x` (a write to G0 is discarded, R297) and every
other general register, every time register as it was, and nothing outside the thread changed. -/
structure WroteG (s u : State) (t next rd : Nat) (x : Word) : Prop where
  dest : u.g t rd = if rd % 32 = 0 then 0 else x
  others : ∀ r : Nat, r % 32 ≠ rd % 32 → u.g t r = s.g t r
  treg : ∀ n : Nat, u.treg t n = s.treg t n
  pc : u.pc t = next % 2 ^ 21
  ready : u.thrState t = 1
  only : OnlyThread s u t

/-- As `WroteG`, for an instruction that writes one time register and no general register. -/
structure WroteT (s u : State) (t next tn : Nat) (x : TReg) : Prop where
  dest : u.treg t tn = x
  others : ∀ n : Nat, n % 8 ≠ tn % 8 → u.treg t n = s.treg t n
  g : ∀ r : Nat, u.g t r = s.g t r
  pc : u.pc t = next % 2 ^ 21
  ready : u.thrState t = 1
  only : OnlyThread s u t

/-- The flags Z, N, C, V of thread t; L and S are as they were. -/
def State.setZNCV (s u : State) (t : Nat) (z n c v : Bool) : Prop :=
  u.flag t .z = z ∧ u.flag t .n = n ∧ u.flag t .c = c ∧ u.flag t .v = v ∧ u.flag t .l = s.flag t .l ∧ u.flag t .s = s.flag t .s

/-- V of thread t, no other flag. -/
def State.setV (s u : State) (t : Nat) (v : Bool) : Prop := u.flag t .v = v ∧ ∀ f : Flag, f ≠ .v → u.flag t f = s.flag t f

/-- No flag of thread t changes. -/
def State.sameFlags (s u : State) (t : Nat) : Prop := ∀ f : Flag, u.flag t f = s.flag t f

/-- An ALU instruction's effect (R309): the result and Z, N after it, C and V as given. -/
def State.aluTo (s u : State) (t next rd : Nat) (x : Word) (c v : Bool) : Prop :=
  WroteG s u t next rd x ∧ s.setZNCV u t (x == 0) x.msb c v

/-- An instruction that returns a status (R330): thread t waits for its reply, and as the reply arrives in `w` its status word is in
gd, Z shows whether it is OK, and N, C and V are clear. -/
structure ReturnsStatus (i : Instr) (s w : State) (t next gd : Nat) (st : Status) (result : Nat) : Prop where
  runs : ∃ u : State, exec i s = .next u ∧ u.thrState t = 4 ∧ exec (.threadReplyArrive t) u = .next w
  word : gd % 32 ≠ 0 → w.g t gd = BitVec.ofNat 64 (st.code * 2 ^ 56 + result)
  flags : w.flag t .z = decide (st = .ok) ∧ w.flag t .n = false ∧ w.flag t .c = false ∧ w.flag t .v = false ∧
    w.flag t .s = s.flag t .s
  pc : w.pc t = next % 2 ^ 21
  ready : w.thrState t = 1

/-! ### The Hinge ring -/

/-- A frame that arrives on lane e is delivered (R578): LINK, the form of R575, this ring's RING_ID, the AUTH setting of this node and
a right tag, from another node, at a node that claims or is a member. -/
def State.hTakes (s : State) (e : Nat) (f : List Byte) : Prop :=
  (s.hState = 2 ∨ s.hState = 3) ∧ e < 2 ∧ s.hLink e = true ∧ 16 ≤ f.length ∧ hForm f = true ∧
    fnum f 14 2 = s.get F.hrlCfg_RING_ID ∧ hAuth f = s.getB F.hrlCfg_AUTH ∧ (hAuth f = true → s.tagOk f = true) ∧
    s.isOwnFrame f = false

/-- The frames that this node originates on its lanes with LINK, the later one first (R570); none where it may not (R618). -/
def State.ringOut (s : State) (ty stream seq : Nat) (rep : Bool) (pay : Nat → List Byte) : List Out :=
  if s.ringPin.maySend ty then
    ([1, 0].filter s.hLink).map fun e => .hinge e (s.ringPin.hFrame e ty stream seq rep (pay e))
  else []

/-- The immediate of an instruction (R307): 15 bits, or with E the extension word, sign-extended. -/
def immVal (e : Bool) (imm : Nat) : Word :=
  if e then BitVec.signExtend 64 (BitVec.ofNat 32 imm) else BitVec.signExtend 64 (BitVec.ofNat 15 imm)

end Sys2Proof.Machine
end

