-- ==== Sys2Proof/Certificates/Slice0/Obligations.lean ====
section
/-! DEFINITION. The statements about the block: what its commands do, row by row and as a whole. -/

open Sys2Proof Sys2Proof.Machine

/-- DOM_CONFIG, DOM_SEED, DOM_START, DOM_STOP, DOM_STEP, DOM_SLEW complete with OK (R57, R60, R64, R67): the state of the domain
that each leaves; a step or a slew of a domain that is neither DERIVED nor STEERED is refused (R54).
It rests on readings of the model: log entry 49. -/
def Obligations.DomainCommandsComplete : Prop :=
  ∀ (s : State) (c : Caller) (d : Nat), 1 ≤ d → d < 32 →
    (∀ (kind parent owner : Nat) (k : DomKind), kindOfCode kind = some k → k ≠ .off → k ≠ .ref → parent < 32 →
      (k = .derived → parent < d) → owner < 8 → s.admitsOwner c 0x10 = true → (s.dom d).st = .off →
      ∃ u : State, exec (.domConfig c d kind parent owner) s = .next (u.complete c 0x10 .ok) ∧ (u.dom d).kind = k ∧
        (u.dom d).st = .stopped ∧ (u.dom d).owner = owner ∧ (u.dom d).acc = 0 ∧ (u.dom d).unseeded = true ∧
        (u.dom d).bound = Config.unb ∧ (u.dom d).prov = []) ∧
    (∀ (t : TimeVal) (bound : Nat), tvOk t = true → bound < 2 ^ 64 → s.admitsOwner c 0x11 = true → (s.dom d).st ≠ .off →
      s.resetting (s.dom d).owner = false →
      ∃ u : State, exec (.domSeed c d t bound) s = .next (u.complete c 0x11 .ok) ∧ (u.dom d).unseeded = false ∧
        (u.dom d).bound = Config.unb ∧ ((s.dom d).kind ≠ .derived → u.ticks d = Int.ofNat (tvTicks t)) ∧
        ((s.dom d).kind = .steered → (u.dom d).bcSrc = bound) ∧
        (u.dom d).prov = if (s.dom d).kind = .derived then [{ kind := 5, id := (s.dom d).parent }]
                         else [{ kind := 8, id := s.cPart c }]) ∧
    (s.admitsOwner c 0x12 = true → (s.dom d).st = .stopped → s.resetting (s.dom d).owner = false →
      ∃ u : State, exec (.domStart c d) s = .next (u.complete c 0x12 .ok) ∧
        (u.dom d).st = if s.pwr.tseProven then .running else .held) ∧
    (s.admitsOwner c 0x13 = true → (s.dom d).st = .running ∨ (s.dom d).st = .held → s.resetting (s.dom d).owner = false →
      ∃ u : State, exec (.domStop c d) s = .next (u.complete c 0x13 .ok) ∧ (u.dom d).st = .stopped ∧ (u.dom d).acc = s.domU d ∧
        (u.dom d).bound = Config.unb ∧ (u.dom d).lost = true ∧ (u.dom d).prov = { kind := 7, id := 0 } :: (s.dom d).prov) ∧
    (∀ ticks : Int, fits64 ticks = true → s.admits 0x14 = true → s.cPart c = (s.dom d).owner →
      s.resetting (s.dom d).owner = false → (s.dom d).st ≠ .off →
      ((s.dom d).kind = .derived ∨ (s.dom d).kind = .steered →
        ∃ u : State, exec (.domStep c d ticks) s = .next (u.complete c 0x14 .ok) ∧
          (u.dom d).acc = (s.dom d).acc + ticks * Int.ofNat Config.uPerTick) ∧
      ((s.dom d).kind ≠ .derived → (s.dom d).kind ≠ .steered → exec (.domStep c d ticks) s = .next (s.complete c 0x14 .badArg))) ∧
    (∀ (ticks : Int) (unc slewMax : Nat), fits64 ticks = true → unc < 2 ^ 64 → s.admits 0x15 = true →
      s.cPart c = (s.dom d).owner → s.resetting (s.dom d).owner = false → (s.dom d).st ≠ .off →
      slewMax + (s.dom d).foff.natAbs ≤ 2 ^ 47 - 1 →
      ((s.dom d).kind = .derived ∨ (s.dom d).kind = .steered →
        ∃ u : State, exec (.domSlew c d ticks unc slewMax) s = .next (u.complete c 0x15 .ok) ∧
          (u.dom d).rem = (s.dom d).rem + ticks * Int.ofNat Config.uPerTick ∧
          (u.dom d).bookUnc = boundSum [(s.dom d).bookUnc, unc] ∧ (u.dom d).slewMax = slewMax) ∧
      ((s.dom d).kind ≠ .derived → (s.dom d).kind ≠ .steered →
        exec (.domSlew c d ticks unc slewMax) s = .next (s.complete c 0x15 .badArg)))

/-- LEAP_SET, ALM_ARM and ALM_CANCEL complete with OK (R75, R76, R90, R95).
It rests on readings of the model: log entries 29, 45 and 52. -/
def Obligations.AlarmCommandsComplete : Prop :=
  (∀ (s : State) (c : Caller) (type leapAt : Nat), s.admitsOwner c 0x16 = true → type = 1 ∨ type = 2 → 1 ≤ leapAt →
    leapAt < 2 ^ 48 → (Int.ofNat leapAt - s.newUtcOffset type) % 86400 = 0 → s.leapLate = false →
    ∃ u : State, exec (.leapSet c type leapAt) s = .next (u.complete c 0x16 .ok) ∧ u.get F.tseUtc_LEAP_TYPE = type ∧
      u.get F.tseLeapAt_LEAP_AT = leapAt ∧ (u.alarm 1).st = .armed ∧ (u.alarm 1).inst = leapAt * Config.secTicks ∧
      (type = 1 → (u.alarm 0).st = .armed ∧ (u.alarm 0).inst = (leapAt - 1) * Config.secTicks)) ∧
  (∀ (s : State) (c : Caller) (slot dom : Nat) (t : TimeVal) (kind target period policy : Nat) (k : AlarmKind),
    s.admits 0x18 = true → s.kindRefused kind = false → tvOk t = true → armKind kind = some k → dom < 32 → period < 2 ^ 64 →
    policy < 2 → s.targetOk k target = true → period = 0 ∨ 26214400 ≤ period → (k = .evoEdge → evoLead ≤ tvTicks t) →
    (s.dom dom).st ≠ .off → dom = 0 ∨ (s.dom dom).owner = s.cPart c → s.targetDenied k target (s.cPart c) = false → 8 ≤ slot →
    slot < 4096 → (if s.slotHeld slot then s.slotPart slot = s.cPart c else s.quotaLeft (s.cPart c) = true) →
    armFires k policy = true ∨ s.isPast dom (storedInst k (tvTicks t)) = false →
    ∃ u : State, exec (.almArm c slot dom t kind target period policy) s = .next (u.complete c 0x18 .ok (beBytes 2 slot)) ∧
      (u.alarm slot).st = .armed ∧ (u.alarm slot).part = s.cPart c ∧ (u.alarm slot).dom = dom ∧ (u.alarm slot).kind = k ∧
      (u.alarm slot).inst = storedInst k (tvTicks t) ∧ (u.alarm slot).target = target ∧ (u.alarm slot).period = period ∧
      (u.alarm slot).lateArm = s.isPast dom (storedInst k (tvTicks t))) ∧
  (∀ (s : State) (c : Caller) (slot : Nat), s.admits 0x19 = true → 8 ≤ slot → slot < 4096 → (s.alarm slot).st = .armed →
    (s.alarm slot).part = s.cPart c → s.isDue slot = false → s.cancelsLate (s.cPart c) slot = false →
    ∃ u : State, exec (.almCancel c slot) s = .next (u.complete c 0x19 .ok) ∧ (u.alarm slot).st = .cancelled)

/-- Every row that fires an alarm: the first due alarm fires where it is of the row's kind, and its action follows the write of its
slot (R32, R88, R89); there a one-shot alarm is FIRED with its lateness, and a periodic one is armed again on its grid, past the
domain's value where a step has made it due, with the instances it stands for beyond the first in MISSED (R93). A periodic alarm whose slot was
released while it was due fires once and is not armed again (R95, R128).
It rests on readings of the model: log entries 9, 40. -/
def Obligations.AlarmFiringsComplete : Prop :=
  (∀ (s : State) (d : Due) (rest : List Due), s.tse.due = d :: rest →
    let u := (s.noteFired d).tallyFired d
    let t := d.al.target
    (d.al.kind = .leap → exec .leapFire s = .next (u.leapFire t)) ∧
    (d.al.kind = .evoEdge → exec .evoEdgeFire s = .next (
      let last := !(rest.any fun e => e.al.kind == AlarmKind.evoEdge && e.al.target % 8 == t % 8)
      (u.evoFire d last).evoParked (t % 8) last)) ∧
    (d.al.kind = .emuOpen → exec .emuOpenFire s = .next (u.emuOpenFire (t % 32) d.al.lateArm d.step)) ∧
    (d.al.kind = .emuClose → exec .emuCloseFire s = .next (u.emuCloseFire (t % 32) d.step d.al.period)) ∧
    (d.al.kind = .tsvEmit → exec .tsvEmitFire s = .next (u.tsvEmit t d.al.inst (missedOf d) d.step)) ∧
    (d.al.kind = .escrowCommit → u.escState (t % 32) = escArmed → exec .escrowCommitFire s = .next (u.escJudge (t % 32) d.step)) ∧
    (d.al.kind = .tallySnap → exec .tallySnapFire s = .next (
      let v := u.tallySnap d u.tse.snapped
      { v with tse := { v.tse with snapped := u.tse.snapped ++ u.snapBanks t d.al.part } })) ∧
    (d.al.kind = .dsqWake → exec .dsqWakeFire s = .next (u.wakeThr (t % 128) d.lat d.al.lateArm d.step)) ∧
    (d.al.kind = .slwClose → exec .slwCloseFire s = .next (u.slwClose (t % 64) (Int.ofNat d.al.inst) d.step)) ∧
    (d.al.kind = .hostInt → exec .hostIntFire s = .next (u.msix (fnOfPart d.al.part) t)) ∧
    (d.al.kind = .qput → exec .qputFire s = .next (u.qPostHw (t % 256) (itemOf (qputWords d)))) ∧
    (d.al.kind = .servoClose → bitOf t 5 = false → exec .rshServoClose s = .next (u.servoClose d)) ∧
    (d.al.kind = .servoClose → bitOf t 5 = true → exec .hrlServoClose s = .next (u.ringClose (t % 32)))) ∧
  (∀ (s : State) (d : Due), (s.alarm d.slot).seq = d.al.seq →
    let a := (s.noteFired d).alarm d.slot
    a.lateness = d.lat ∧ a.sFlag = d.step ∧ a.lFlag = d.al.lateArm ∧
    (d.al.period = 0 → d.al.st = .armed → a.st = .fired ∧ a.inst = d.al.inst) ∧
    (0 < d.al.period → (s.alarm d.slot).st = .cancelled → a.st = .fired ∧ a.inst = d.al.inst) ∧
    (0 < d.al.period → (s.alarm d.slot).st = .armed → d.al.st = .armed → d.step = false →
      a.st = .armed ∧ a.inst = d.al.inst + d.al.period) ∧
    (0 < d.al.period → (s.alarm d.slot).st = .armed → d.al.st = .armed → d.step = true → a.st = .armed ∧
      (∃ k, a.inst = d.al.inst + k * d.al.period) ∧ d.al.inst + d.lat < a.inst ∧ a.inst ≤ d.al.inst + d.lat + d.al.period ∧
      a.missed = satNat 32 (d.lat / d.al.period)))

/-- CLK_TSE_CYCLE and BOUND_UPDATE complete while CLK_TSE is proven (R28, R62, R753): a cycle advances every running accumulator by
the sum of R62, takes from the slew remainder what R64 gives, and leaves every other domain's (R62, R64); the update, due once in
1,250 cycles, forms every domain's bound from its terms, the parent's before the domain's (R28, R55, R79). While CLK_TSE is not
proven nothing passes, and an update that is not due changes nothing.
It rests on readings of the model: log entry 40. -/
def Obligations.CyclesAdvanceDomains : Prop :=
  ((∀ d : Dom, d.st = .running → d.kind ≠ .derived →
    (advanceDom d).acc = d.acc + Int.ofNat Config.nomAdvance + d.foff + slewStep d) ∧
  (∀ d : Dom, d.st = .running → (advanceDom d).rem = d.rem - slewStep d ∧
    ((advanceDom d).rem = 0 → (advanceDom d).bookUnc = 0) ∧ (slewStep d).natAbs = min d.slewMax d.rem.natAbs ∧
    (advanceDom d).rem.natAbs + (slewStep d).natAbs = d.rem.natAbs) ∧
  (∀ d : Dom, d.st ≠ .running → advanceDom d = { d with moved := 0 }) ∧
  (∀ (s : State) (n : Nat), (s.advanceAll.dom n) = advanceDom (s.dom n))) ∧
  ((∀ (s : State) (core : Nat), s.pwr.tseProven = true →
    ∃ t : State, exec (.clkTseCycle core) s = .next t ∧ t = s.tseCycle core) ∧
  (∀ (s : State) (core : Nat), s.pwr.tseProven = true → s.tse.usPhase < Config.boundPeriod → s.tse.due = [] → s.tse.imm = [] →
    ∃ t : State, exec (.clkTseCycle core) s = .next t ∧ t.tse.usPhase = s.tse.usPhase + 1 ∧ t.tse.cyc = s.tse.cyc + 1 ∧
      ∀ n : Nat, t.dom n = advanceDom (s.dom n)) ∧
  (∀ s : State, s.pwr.tseProven = true → Config.boundPeriod ≤ s.tse.usPhase →
    ∃ t : State, exec .boundUpdate s = .next t ∧ t = s.boundUpdate ∧ t.tse.usPhase = 0) ∧
  (∀ (s : State) (core : Nat), s.pwr.tseProven = false →
    exec (.clkTseCycle core) s = .next s ∧ exec .boundUpdate s = .next s) ∧
  (∀ s : State, s.tse.usPhase < Config.boundPeriod → exec .boundUpdate s = .next s) ∧
  (∀ (s : State) (n : Nat), n < 32 → (s.dom n).st ≠ .off → ((s.dom n).kind = .derived → (s.dom n).parent < n) →
    (s.updateBounds.dom n).bound = boundOf (tickTerms (s.dom n)) (s.updateBounds.dom (s.dom n).parent).bound))

/-- The bound of a domain at an update (R79–R81): UNBOUNDED where the domain is not running, not seeded, lost or FREE; else the sum
of its kind's terms, UNBOUNDED where a term is. -/
def Obligations.BoundFollowsItsTerms : Prop :=
  (∀ (d : Dom) (p : Nat), d.unseeded = true ∨ d.lost = true ∨ d.st ≠ .running ∨ d.kind = .off ∨ d.kind = .free →
    boundOf d p = Config.unb) ∧
  (∀ (d : Dom) (p : Nat), d.unseeded = false → d.lost = false → d.st = .running →
    ((d.kind = .ref ∨ d.kind = .ring) → d.hold = false →
      boundOf d p = boundSum [d.bcSrc, d.bcRef, d.bcServo, d.bcBook]) ∧
    ((d.kind = .ref ∨ d.kind = .ring) → d.hold = true →
      boundOf d p = boundSum [d.b0, d.bcBook, holdGrowth d (d.holdT + 1)]) ∧
    (d.kind = .derived → boundOf d p = boundSum [p, d.bcRef, d.bcBook])) ∧
  (∀ l : List Nat, (∃ x ∈ l, x = Config.unb) ∨ 2 ^ 64 - 2 < l.sum → boundSum l = Config.unb) ∧
  (∀ l : List Nat, (∀ x ∈ l, x ≠ Config.unb) → l.sum ≤ 2 ^ 64 - 2 → boundSum l = l.sum)

/-- DOM_CONFIG that names a parent not below a DERIVED domain is refused with BAD_ARG (R55). -/
def Obligations.DerivedParentIsLower : Prop :=
  ∀ (s : State) (c : Caller) (d parent owner : Nat), s.admitsOwner c 0x10 = true → d ≤ parent →
    exec (.domConfig c d 3 parent owner) s = .next (s.complete c 0x10 .badArg)

/-- DOM_SLEW whose rate, added to the frequency offset, leaves the range is refused with BAD_ARG (R65). -/
def Obligations.SlewRateIsLimited : Prop :=
  ∀ (s : State) (c : Caller) (d : Nat) (ticks : Int) (unc slewMax : Nat), 1 ≤ d → d < 32 → fits64 ticks = true → unc < 2 ^ 64 →
    s.admits 0x15 = true → s.cPart c = (s.dom d).owner → s.resetting (s.dom d).owner = false → (s.dom d).st ≠ .off →
    2 ^ 47 - 1 < slewMax + (s.dom d).foff.natAbs →
    exec (.domSlew c d ticks unc slewMax) s = .next (s.complete c 0x15 .badArg)

/-- The monitors of an input that RIM takes edges of: a gap, the accept time, an edge past slope selection and the prescaler, which
the monitors judge by the gap since the last such edge, and an edge that does not pass (R110, R113, R116, R821); and the end of a
fast gate (R114, R115, R118): the reported estimate, and whether the frequency monitor rejects, interrupts its hold, or accepts. The
estimates are of the edges counted in the gate and over the hold, against what D0 counted between them.
It rests on readings of the model: log entries 10 and 70. -/
def Obligations.MonitorsJudgeInputs : Prop :=
  (∀ (s : State) (n : Nat), n < 24 → s.inLive n = true →
    (∃ u : State, exec (.actGapTimeout n) s = .next (u.monShow n) ∧ u.getB F.inStat_REJ_GAP n = true ∧
      u.getB F.inStat_ACT_OK n = false ∧ u.getB F.inStat_FREQ_OK n = false ∧ u.getB F.inStat_PRESENT n = false ∧
      (u.mon n).hold = 0) ∧
    (s.getB F.inStat_PRESENT n = true → ∃ u : State, exec (.actAcceptTimeout n) s = .next (u.monShow n) ∧
      u.getB F.inStat_ACT_OK n = true ∧ u.getB F.inStat_FREQ_OK n = s.getB F.inStat_FREQ_OK n) ∧
    (∀ (rise : Bool) (gap : Nat) (tdc : List (Nat × Nat × Nat)), s.tse.due = [] →
      let all : Nat := (s.mon n).gap + gap
      let early : Prop := (all : ℚ) / 1250000000 <
        (min 3 (s.get F.inAct_EARLY n) : ℚ) / 4 * (2 ^ s.get F.inCfg_PRESCALE n / (s.get F.inNom_NOM_FREQ n / 65536))
      (rise = s.getB F.inCfg_SLOPE n → ∃ u : State, exec (.refinEdge n ⟨rise, gap⟩ tdc) s = .next u ∧ u.regs = s.regs ∧
        u.mon n = { s.mon n with gap := all }) ∧
      (rise ≠ s.getB F.inCfg_SLOPE n → (s.mon n).pre ≠ 0 → ∃ u : State, exec (.refinEdge n ⟨rise, gap⟩ tdc) s = .next u ∧
        u.regs = s.regs ∧ u.mon n = { s.mon n with gap := all, pre := (s.mon n).pre - 1 }) ∧
      (rise ≠ s.getB F.inCfg_SLOPE n → (s.mon n).pre = 0 →
        ((s.mon n).seen = true → early →
          ∃ u : State, exec (.refinEdge n ⟨rise, gap⟩ tdc) s = .next (((u.monShow n).edgeToAdplls n).edgeToEmus n (reading tdc)) ∧
            u.getB F.inStat_REJ_GLITCH n = true ∧ u.getB F.inStat_ACT_OK n = false ∧ u.getB F.inStat_FREQ_OK n = false ∧
            u.getB F.inStat_PRESENT n = true ∧ (u.mon n).pre = 2 ^ s.get F.inCfg_PRESCALE n - 1 ∧ (u.mon n).gap = 0) ∧
        ((s.mon n).seen = false ∨ ¬ early →
          ∃ u : State, exec (.refinEdge n ⟨rise, gap⟩ tdc) s = .next ((u.edgeToAdplls n).edgeToEmus n (reading tdc)) ∧
            u.getB F.inStat_PRESENT n = true ∧ (u.mon n).seen = true ∧ u.getB F.inStat_ACT_OK n = s.getB F.inStat_ACT_OK n ∧
            u.getB F.inStat_REJ_GLITCH n = s.getB F.inStat_REJ_GLITCH n ∧ (u.mon n).gap = 0 ∧
            (u.mon n).pre = 2 ^ s.get F.inCfg_PRESCALE n - 1 ∧
            (u.mon n).cur = (s.mon n).cur.edge (if (s.mon n).seen then s.d0Span all else 0))))) ∧
  (∀ (s : State) (n : Nat), n < 24 → s.inLive n = true →
    let fe := (s.fmFast n).1
    let ft := (s.fmFast n).2
    let le := (s.fmLong n).1
    let lt := (s.fmLong n).2
    let second : ℚ := Config.secTicks * Config.uPerTick
    let df (e t : Nat) : ℚ := (e * (2 ^ s.get F.inCfg_PRESCALE n / (s.get F.inNom_NOM_FREQ n / 65536))) / (t / second) - 1
    let unit : ℚ := 1 / 10 ^ 10
    let rej : ℚ := s.get F.inFmLim_REJ n * unit
    let acc : ℚ := s.get F.inFmLim_ACC n * unit
    let hold : Nat := (s.mon n).hold + s.fastGate n
    ∃ u : State,
      (0 < le → 0 < lt → |df le lt / unit| ≤ 2 ^ 47 - 1 → |df le lt / unit| ≤ |(u.getI F.inFmDf_DF n : ℚ)| ∧
        |(u.getI F.inFmDf_DF n : ℚ)| < |df le lt / unit| + 1 ∧ 0 ≤ df le lt * u.getI F.inFmDf_DF n) ∧
      (le = 0 ∨ lt = 0 → u.getI F.inFmDf_DF n = s.getI F.inFmDf_DF n) ∧
      (u.mon n).cur = {} ∧ (u.mon n).gates = s.fmGates n ∧
      (fe = 0 ∨ ft = 0 → exec (.fmFastGateEnd n () () () ()) s = .next u ∧ (u.mon n).hold = 0 ∧
        u.getB F.inStat_FREQ_OK n = s.getB F.inStat_FREQ_OK n) ∧
      (0 < fe → 0 < ft → rej < |df fe ft| → exec (.fmFastGateEnd n () () () ()) s = .next (u.monShow n) ∧
        u.getB F.inStat_FREQ_OK n = false ∧ u.getB F.inStat_REJ_FREQ n = true ∧ (u.mon n).hold = 0) ∧
      (0 < fe → 0 < ft → |df fe ft| ≤ rej → acc ≤ |df fe ft| ∨ (s.mon n).held = false →
        exec (.fmFastGateEnd n () () () ()) s = .next u ∧ (u.mon n).hold = 0 ∧
        u.getB F.inStat_FREQ_OK n = s.getB F.inStat_FREQ_OK n) ∧
      (0 < fe → 0 < ft → |df fe ft| ≤ rej → |df fe ft| < acc → (s.mon n).held = true → (u.mon n).hold = hold ∧
        (max 1 (s.get F.inFmGate_HOLD_S n) * 262144000000000 ≤ hold ∧ 0 < le ∧ 0 < lt ∧ |df le lt| < acc →
          exec (.fmFastGateEnd n () () () ()) s = .next (u.monShow n) ∧ u.getB F.inStat_FREQ_OK n = true) ∧
        (hold < max 1 (s.get F.inFmGate_HOLD_S n) * 262144000000000 ∨ le = 0 ∨ lt = 0 ∨ acc ≤ |df le lt| →
          exec (.fmFastGateEnd n () () () ()) s = .next u ∧ u.getB F.inStat_FREQ_OK n = s.getB F.inStat_FREQ_OK n)))

/-- The calibration state machine of a TDC (R132–R137, R139): what ends a collection, of 2^24 edges and with no
window of its EMU open, a wait, a swap, and what the tables
of a calibration hold.
It rests on readings of the model: log entry 10. -/
def Obligations.TdcCalibrationRows : Prop :=
  (∀ (s : State) (t : Nat), t < 64 →
    (s.get F.tdcStat_STATE t = 1 → s.getB F.emuStat_OPEN (t / 2) = false → ∀ hp hb : List Nat, hp.length = 8 → hb.length = 256 →
      hp.sum = 16777216 → hb.sum = 16777216 →
      (tablesOk hp hb = true → ∃ u : State, exec (.tdcCalCollectDone t hp hb) s = .next u ∧ u.get F.tdcStat_STATE t = 3 ∧
        (u.tdc t).table = some (hp, hb)) ∧
      (tablesOk hp hb = false → (s.tdc t).attempt < 3 → ∃ u : State, exec (.tdcCalCollectDone t hp hb) s = .next u ∧
        u.get F.tdcStat_STATE t = 2) ∧
      (tablesOk hp hb = false → 3 ≤ (s.tdc t).attempt → ∃ u : State, exec (.tdcCalCollectDone t hp hb) s = .next (u.refresh 8) ∧
        u.get F.tdcStat_STATE t = 0 ∧ u.getB F.tdcStat_LAST_FAIL t = true)) ∧
    (∀ hp hb : List Nat, s.getB F.emuStat_OPEN (t / 2) = true ∨ hp.sum ≠ 16777216 ∨ hb.sum ≠ 16777216 →
      exec (.tdcCalCollectDone t hp hb) s = .next s) ∧
    (s.get F.tdcStat_STATE t = 1 → ∃ u : State, exec (.tdcCalTimeout t) s = .next (u.pulse 9 0 (t / 2)) ∧
      u.get F.tdcStat_STATE t = 0) ∧
    (s.get F.tdcStat_STATE t = 2 → ∃ u : State, exec (.tdcCalWaitEnd t) s = .next u ∧ u.get F.tdcStat_STATE t = 1 ∧
      (u.tdc t).attempt = (s.tdc t).attempt + 1) ∧
    (∀ hp hb : List Nat, s.get F.tdcStat_STATE t = 3 → s.getB F.emuStat_OPEN (t / 2) = false → hp.length = 8 → hb.length = 256 →
      (s.tdc t).table = some (hp, hb) → ∃ u : State, exec (.tdcTableInstall t) s = .next (u.refresh 8) ∧
        u.get F.tdcStat_STATE t = 0 ∧ u.getB F.tdcStat_UNCAL t = false ∧ u.getB F.tdcStat_LAST_FAIL t = false ∧
        u.get F.tdcStat_GEN t = (s.get F.tdcStat_GEN t + 1) % 2 ^ 16 ∧ u.get F.tdcStat_TEMP_CAL t = s.get F.rimTemp_TEMP_NOW ∧
        (u.tdc t).fresh = true ∧ (∀ p < 8, u.get F.tdcPhase_END t p = (phaseEnds hp).getD p 0 % 2 ^ 18) ∧
        ∀ b < 256, u.get F.tdcBin_CENTRE t b = (binCentres hb).getD b 0 % 2 ^ 16)) ∧
  (∀ (s : State) (temp : Int), ∃ u : State, exec (.tdcTempTrigger temp) s = .next u ∧
    u.getI F.rimTemp_TEMP_NOW = satInt 16 temp ∧ ∀ t < 64, s.get F.tdcStat_STATE t = 0 → u.get F.tdcStat_STATE t =
      if s.getB F.rimCtl_CAL_AUTO ∧ s.getB F.tdcStat_UNCAL t = false ∧
        80 ≤ (satInt 16 temp - s.getI F.tdcStat_TEMP_CAL t).natAbs then 1 else 0) ∧
  (∀ (hp hb : List Nat), hp.length = 8 → hb.length = 256 →
    (∀ p < 8, |((phaseEnds hp).getD p 0 : ℚ) - 209715.2 * (hp.take (p + 1)).sum / 16777216| ≤ 1 / 2) ∧
    (∀ b < 256, |((binCentres hb).getD b 0 : ℚ) - 26214.4 * ((hb.take b).sum + (hb.getD b 0 : ℚ) / 2) / 16777216| ≤ 1 / 2) ∧
    (tablesOk hp hb = true ↔ hb.getD 255 0 = 0 ∧ (∀ h ∈ hb, 26214.4 * (h : ℚ) / 16777216 ≤ 262) ∧
      ∀ p < 8, |((phaseEnds hp).getD p 0 : ℚ) - (if p = 0 then 0 else ((phaseEnds hp).getD (p - 1) 0 : ℚ)) - 26214.4| ≤ 524))

/-- The time of an accepted edge (R129): the domain's value at the start of the cycle, and X scaled into the domain's ticks, rounded
to the nearest tick. A DERIVED domain scales with its parent's rate and its own slew. -/
def Obligations.EdgeTimesAreScaled : Prop :=
  ∀ (s : State) (dom t src p b : Nat), s.parentsLower → dom < 32 → p < 8 → b < 256 →
    let delay : Int := if src < 24 then s.getI F.inDelay_DELAY src else 0
    let x : ℚ := s.get F.tdcPhase_END t p - s.get F.tdcBin_CENTRE t b - s.srcDelay src - delay
    (∃ r : Int, s.edgeTime dom t src p b = s.ticks dom + r ∧ |(r : ℚ) - x * (2 ^ 56 + s.domRate dom) / 2 ^ 56| ≤ 1 / 2) ∧
    ((s.dom dom).kind ≠ .derived → s.domRate dom = (s.dom dom).foff + slewStep (s.dom dom)) ∧
    ((s.dom dom).kind = .derived →
      s.domRate dom = s.domRate (s.dom dom).parent + slewStep (s.dom dom))

/-- EMU_ARM, EMU_DISARM, TDC_CAL and MON_RESTART complete with OK (R122, R128, R136, R149, R150): what each leaves.
It rests on readings of the model: log entry 9. -/
def Obligations.MeasurementCommandsComplete : Prop :=
  ∀ (s : State) (c : Caller),
    (∀ (m mode startSrc stopSrc dom : Nat) (t0 : TimeVal) (per w dests queue emptyReport lateOk : Nat),
      s.admitsOwner c 0x20 = true → m < 32 → dom < 32 → tvOk t0 = true → dests < 8 → queue < 256 → emptyReport < 2 → lateOk < 2 →
      per < 2 ^ 64 → mode = 0 ∧ startSrc = 0xff ∨ mode = 1 ∧ srcOk startSrc = true → srcOk stopSrc = true →
      per = 0 ∨ 262144000 ≤ per ∧ w * 10 + 4194304 ≤ per * 10 → 4194304 ≤ w * 10 → (s.dom dom).st ≠ .off →
      s.resetting (s.dom dom).owner = false →
      s.getB F.emuCfg_ARMED m = false → s.twoFree = true → lateOk = 1 ∨ s.ticks dom < tvTicks t0 →
      ∃ u : State, exec (.emuArm c m mode startSrc stopSrc dom t0 per w dests queue emptyReport lateOk) s =
          .next (u.complete c 0x20 .ok) ∧ u.getB F.emuCfg_ARMED m = true ∧ u.get F.emuCfg_MODE m = mode ∧
        u.get F.emuCfg_START_SRC m = startSrc ∧ u.get F.emuCfg_STOP_SRC m = stopSrc ∧ u.get F.emuCfg_DOMAIN m = dom ∧
        u.get F.emuStat_SEQ m = 0 ∧
        (let a := u.alarm (u.get F.emuSlots_OPEN_SLOT m)
         a.st = .armed ∧ a.part = 0 ∧ a.dom = dom ∧ a.kind = .emuOpen ∧ a.target = m ∧ a.inst = tvTicks t0 ∧ a.period = per ∧
           a.fire = (lateOk == 1)) ∧
        (let a := u.alarm (u.get F.emuSlots_CLOSE_SLOT m)
         a.st = .armed ∧ a.part = 0 ∧ a.dom = dom ∧ a.kind = .emuClose ∧ a.target = m ∧ a.inst = tvTicks t0 + w ∧
           a.period = per)) ∧
    (∀ m : Nat, s.admitsOwner c 0x21 = true → m < 32 → s.getB F.emuCfg_ARMED m = true → s.getB F.emuStat_OPEN m = false →
      ∃ u : State, exec (.emuDisarm c m) s = .next (u.complete c 0x21 .ok) ∧ u.getB F.emuCfg_ARMED m = false ∧
        (s.ownAlarm (s.get F.emuSlots_OPEN_SLOT m) .emuOpen m = true → (u.alarm (s.get F.emuSlots_OPEN_SLOT m)).st = .cancelled) ∧
        (s.ownAlarm (s.get F.emuSlots_CLOSE_SLOT m) .emuClose m = true →
          (u.alarm (s.get F.emuSlots_CLOSE_SLOT m)).st = .cancelled) ∧
        u = ((s.releaseOwn (s.get F.emuSlots_OPEN_SLOT m) .emuOpen m).releaseOwn (s.get F.emuSlots_CLOSE_SLOT m) .emuClose m).putB
          F.emuCfg_ARMED false m ∧
        (∀ k, s.ownAlarm k .emuOpen m = false → s.ownAlarm k .emuClose m = false → u.alarm k = s.alarm k)) ∧
    (∀ mask : Nat, s.admitsOwner c 0x22 = true → mask < 2 ^ 64 →
      (∀ t < 64, bitOf mask t = true → s.get F.tdcStat_STATE t = 0) →
      ∃ u : State, exec (.tdcCal c mask) s = .next (u.complete c 0x22 .ok) ∧
        ∀ t < 64, u.get F.tdcStat_STATE t = if bitOf mask t then 1 else s.get F.tdcStat_STATE t) ∧
    (∀ mask : Nat, s.admitsOwner c 0x23 = true → mask < 2 ^ 24 →
      exec (.monRestart c mask) s =
        .next (((maskList 24 mask).foldl (fun v n => v.monRestart n) s).complete c 0x23 .ok) ∧
      ∀ (v : State) (n : Nat), ∃ u : State, v.monRestart n = u.monShow n ∧ u.getB F.inStat_ACT_OK n = false ∧
        u.getB F.inStat_FREQ_OK n = false ∧ u.mon n = { pre := (v.mon n).pre })

/-- A channel moves by the table of R168: each row, from the states that the table names, puts the channel in its next state; a
released channel shows nothing. GPS L1C and BeiDou B1C start by hand-over alone (R166), and frame sync notes the two bits before the
first word (R174). -/
def Obligations.ChannelsMoveByTheirTable : Prop :=
  ∀ (s : State) (ch : Nat), ch < 192 →
    (∀ (signal sv phase : Nat) (doppler : Int), s.chState ch = 0 → s.sigUsable signal = true → 1 ≤ sv → sv ≤ 63 →
      s.handOver signal sv = true →
      ∃ u : State, exec (.channelAssign ch signal sv phase doppler) s = .next u ∧ u.get F.chStat_STATE ch = 1 ∧
        u.get F.chStat_SIGNAL ch = signal ∧ u.get F.chStat_SV ch = sv ∧ u.get F.chStat_CN0 ch = s.get F.chStat_CN0 ch) ∧
    (∀ (sv phase : Nat) (doppler : Int), (∀ k < 192, s.chState k = 0) → exec (.channelAssign ch 0x02 sv phase doppler) s = .next s ∧
      exec (.channelAssign ch 0x22 sv phase doppler) s = .next s) ∧
    (s.chState ch = 1 → exec (.channelLock ch) s = .next (s.put F.chStat_STATE 2 ch)) ∧
    (s.chState ch = 1 → exec (.pullInTimeout ch) s = .next (s.put F.chStat_STATE 5 ch)) ∧
    (s.chState ch = 2 → exec (.bitSyncFound ch) s = .next (s.put F.chStat_STATE 3 ch)) ∧
    (∀ last : Nat, s.chState ch = 3 → exec (.frameSyncFound ⟨ch, last⟩) s =
      .next ((s.setGnb { s.gnb with lnav := tabSet 0 s.gnb.lnav ch (last % 4) }).put F.chStat_STATE 4 ch)) ∧
    (s.chState ch = 2 ∨ s.chState ch = 3 ∨ s.chState ch = 4 → exec (.cn0Loss ch) s = .next (s.put F.chStat_STATE 5 ch)) ∧
    (s.chState ch = 5 → exec (.channelRelease ch) s = .next (s.wr .chStat 0 ch))

/-- What ends a coherence gate, an acquisition search and a measurement epoch (R153, R157, R164–R166, R170, R171); and a navigation unit
of a channel in FRAME_SYNC (R173–R175, R177, R178): its record, with the verdict of its own check, enters NAVF, and TAPF while TAP_EN
is set, where a whole record fits; else it is dropped from that FIFO alone and counted.
It rests on readings of the model: log entries 75 and 76. -/
def Obligations.GnssRecordsComplete : Prop :=
  (∀ s : State,
    (∀ smp0 smp1 : List (Nat × Nat × Nat), s.get F.gnbRxc_RXC % 1250000 = 0 → s.gnb.gateAt ≠ some (s.get F.gnbRxc_RXC) →
      ∃ u : State, exec (.cohGateEnd smp0 smp1 ()) s = .next (u.refresh 12) ∧ ∀ n < 2, s.gspOn n = true →
        let smp := if n = 0 then smp0 else smp1
        let cnt := (smp.map fun e => e.1).sum
        u.get F.gspLevel_DCLK_CNT n = min cnt 262143 ∧ u.get F.gspLevel_RMS n = min (s.gateFigures n smp).2.1 65535 ∧
        u.get F.gspLevel_FS_FRAC n = min (s.gateFigures n smp).2.2 65535 ∧
        (let pass : Prop := ((cnt : Int) - 1250000 / s.gspDiv n).natAbs ≤ 1
         ((s.gsp n).skip = true → (u.gsp n).skip = false ∧ u.getB F.gspLevel_COH_OK n = s.getB F.gspLevel_COH_OK n) ∧
         ((s.gsp n).skip = false → pass → (u.gsp n).pass = min 1000 ((s.gsp n).pass + 1) ∧
           u.getB F.gspLevel_COH_OK n = (decide (999 ≤ (s.gsp n).pass) || s.getB F.gspLevel_COH_OK n)) ∧
         ((s.gsp n).skip = false → ¬ pass → (u.gsp n).pass = 0 ∧ u.getB F.gspLevel_COH_OK n = false))) ∧
    (∀ (signal sv phase : Nat) (found : Bool) (doppler : Int), s.sigUsable signal = true → 1 ≤ sv → sv ≤ 63 →
      (∀ points bin : Nat, searchGrid signal = some (points, bin) → phase < points → doppler.natAbs ≤ s.gnb.acqSpan →
        doppler.natAbs % bin = 0 → ∃ u : State, exec (.acquisitionSearchDone signal sv found phase doppler) s = .next u ∧
          u.gnb.acq = some { signal := signal, sv := sv, found := found, phase := phase, doppler := doppler }) ∧
      (searchGrid signal = none ∨ s.gnb.acqSpan < doppler.natAbs →
        exec (.acquisitionSearchDone signal sv found phase doppler) s = .next s)) ∧
    (∀ meas : List ChanMeas, s.getB F.gnbCtl_RUN = true → s.get F.gnbRxc_RXC % (s.gnb.measPer * 1250000) = 0 →
      s.gnb.epochAt ≠ some (s.get F.gnbRxc_RXC) →
      ∃ u : State, exec (.measEpoch meas) s = .next u ∧ u.gnb.epoch = s.gnb.epoch + 1 ∧
        (let base := 0x2000 * (s.gnb.epoch % 2)
         tabGet 0 u.gnb.bank base = BitVec.ofNat 64 s.gnb.epoch ∧ tabGet 0 u.gnb.bank (base + 8) = s.rd .gnbRxc ∧
           tabGet 0 u.gnb.bank (base + 0x38) = BitVec.ofNat 64 s.gnb.epoch ∧
           (0 ≤ s.startTicks 0 → s.startTicks 0 < 2 ^ 48 * 262144000000000 →
             (tabGet 0 u.gnb.bank (base + 0x10)).toNat = s.startTicks 0 / 262144000000000) ∧
           ∀ k, k < 0x2000 → tabGet 0 u.gnb.bank (0x2000 - base + k) = tabGet 0 s.gnb.bank (0x2000 - base + k)))) ∧
  (∀ (s : State) (ch fmt nbits : Nat) (sigs : List Nat) (inverted : Bool) (rxc : Nat) (received : List Word) (taken : Nat),
    ch < 192 → s.chState ch = 4 → navFormat fmt = some (nbits, sigs) →
    sigs.contains (s.get F.chStat_SIGNAL ch) = true →
    let f := s.gnb.navf.dropItems taken
    let size := 2 + ceilDiv nbits 64
    let unit := s.navBits ch fmt nbits inverted received
    ∃ u : State, exec (.navUnitComplete ch fmt inverted () rxc received taken) s = .next u ∧
      (f.words + size ≤ 8192 → u.gnb.navLost = false ∧ ∃ n0 : Word,
        u.gnb.navf = f.add (n0 :: BitVec.ofNat 64 rxc :: packBits unit) ∧ bitsOf n0 63 56 = 1 ∧
        bitsOf n0 55 48 = ch ∧ bitsOf n0 47 40 = s.get F.chStat_SIGNAL ch ∧ bitsOf n0 39 32 = s.get F.chStat_SV ch ∧
        bitsOf n0 31 16 = nbits ∧ bitsOf n0 15 15 = (navFails fmt unit).toNat ∧ bitsOf n0 14 14 = inverted.toNat ∧
        bitsOf n0 12 12 = s.gnb.navLost.toNat ∧ bitsOf n0 7 0 = fmt) ∧
      (8192 < f.words + size → u.gnb.navf = f ∧ u.gnb.navLost = true) ∧
      (fmt = 0x01 → tabGet 0 u.gnb.lnav ch = bitsNat (unit.drop 30)) ∧
      (s.getB F.gnbCtl_TAP_EN = false → u.gnb.tapf = s.gnb.tapf) ∧
      (s.getB F.gnbCtl_TAP_EN = true → s.gnb.tapf.words + size ≤ 8192 → u.gnb.tapLost = false ∧
        ∃ n0 : Word, u.gnb.tapf = s.gnb.tapf.add (n0 :: BitVec.ofNat 64 rxc :: packBits unit)) ∧
      (s.getB F.gnbCtl_TAP_EN = true → 8192 < s.gnb.tapf.words + size → u.gnb.tapf = s.gnb.tapf ∧ u.gnb.tapLost = true))

/-- The GPPS (R158, R180–R188, R192, R195, R196, R200): what a schedule holds of a solution, which schedules are taken, the edge with
its message in the cycle that the schedule names, and the loss of the solution.
It rests on readings of the model: log entries 14 and 75. -/
def Obligations.GppsFollowsItsSchedule : Prop :=
  ∀ s : State,
    (∀ sysSec est sigma mode flags used : Nat,
      let x := s.schedOf sysSec est sigma mode flags used
      let dual := bitOf flags 27
      let hold := s.get F.gnbSurvey_POS_MODE = 2
      let cycle := (est + 2 ^ 32 - 1) / 2 ^ 32
      x.edge = cycle % 2 ^ 64 ∧ |(x.qerr : ℚ) + (cycle * 2 ^ 32 - est) / 2 ^ 32 * 209715.2| ≤ 1 / 2 ∧
      -209715 ≤ x.qerr ∧ x.qerr ≤ 0 ∧ x.sigma ≤ 0xffffffff ∧
      (mode % 16 ≠ 0 →
        (if hold then (if dual then 786432 else 2097152) else (if dual then 3145728 else 5242880)) ≤ x.sigma) ∧
      (s.pathAllow dual ≤ 0xfffffffe → x.allow = s.pathAllow dual ∧ bitOf x.flags 25 = bitOf flags 25) ∧
      (0xfffffffe < s.pathAllow dual → x.allow = 0xffffffff ∧ bitOf x.flags 25 = false)) ∧
    (∀ sysSec est sigma mode flags used : Nat,
      let x := s.schedOf sysSec est sigma mode flags used
      let near : Prop := x.edge < s.get F.gnbRxc_RXC + 1250
      let off : Prop := ∃ e, s.gnb.prev = some e ∧ bitOf flags 24 = false ∧
        (x.edge < e + 1248750000 ∨ e + 1251250000 < x.edge)
      s.earliestSec ≤ x.sec →
      (¬ near → ¬ off → s.pwr.tseProven = true → ∃ u : State,
        exec (.gppsScheduleWrite sysSec est sigma mode flags used) s = .next u ∧ u.regs = s.regs ∧ u.gnb.sched = some x) ∧
      (¬ near → ¬ off → s.pwr.tseProven = false → ∃ u : State,
        exec (.gppsScheduleWrite sysSec est sigma mode flags used) s = .next u ∧ u.gnb.sched = s.gnb.sched ∧
          u.get F.gnbTstat_SCHED_SKIP = min 65535 (s.get F.gnbTstat_SCHED_SKIP + 1)) ∧
      (near ∨ off → ∃ u : State, exec (.gppsScheduleWrite sysSec est sigma mode flags used) s = .next u ∧
        u.gnb.sched = s.gnb.sched ∧ u.get F.gnbTstat_SCHED_LATE = min 65535 (s.get F.gnbTstat_SCHED_LATE + 1))) ∧
    (∀ (x : Sched) (tdc : List (Nat × Nat × Nat)), s.tse.due = [] → s.gnb.sched = some x →
      (s.get F.gnbRxc_RXC ≠ x.edge → exec (.gppsEdge tdc) s = .next s) ∧
      (s.get F.gnbRxc_RXC = x.edge → s.getB F.gspLevel_COH_OK 0 = true →
        (bitOf x.flags 27 = true → s.getB F.gspLevel_COH_OK 1 = true) →
        ∃ (u : State) (g : TMsg), exec (.gppsEdge tdc) s =
            .next (((u.refresh 13).tmsgToRsh g).edgeToEmus 0x40 ((u.refresh 13).startReading tdc)) ∧
          g = tmsgOf x s.gnb.seq (bitOf x.flags 24 || s.gnb.resync || s.gnb.prev.isNone) ∧ u.out = .gppsEdge x.edge :: s.out ∧
          u.gnb.sched = none ∧ u.gnb.prev = some x.edge ∧ u.gnb.resync = false ∧ u.gnb.seq = (s.gnb.seq + 1) % 2 ^ 16 ∧
          u.get F.gnbTmsg_WORD 0 = g.m0 % 2 ^ 64 ∧ u.get F.gnbTmsg_WORD 1 = g.m1 % 2 ^ 64 ∧
          u.get F.gnbTmsg_WORD 2 = g.m2 % 2 ^ 64 ∧ u.get F.gnbTmsg_WORD 3 = g.m3 % 2 ^ 64 ∧
          (s.get F.gnbSurvey_POS_MODE = 2 → u.get F.gnbSurvey_POS_MODE = 2) ∧
          (s.get F.gnbSurvey_POS_MODE ≠ 2 → u.get F.gnbSurvey_POS_MODE ≠ 2)) ∧
      (s.get F.gnbRxc_RXC = x.edge →
        s.getB F.gspLevel_COH_OK 0 = false ∨ (bitOf x.flags 27 = true ∧ s.getB F.gspLevel_COH_OK 1 = false) →
        ∃ u : State, exec (.gppsEdge tdc) s = .next u ∧ u.out = s.out ∧ u.gnb = { s.gnb with sched := none } ∧
          u.get F.gnbTstat_SCHED_SKIP = min 65535 (s.get F.gnbTstat_SCHED_SKIP + 1))) ∧
    (∃ u : State, exec .solutionLostTimeout s = .next (u.refresh 13) ∧ u.gnb = { s.gnb with solLost := s.gnb.seenValid } ∧
      u.regs = s.regs)

/-- Survey and position (R189–R193, R197, R198): the end of a survey, a suspect position, and the GNSS commands.
It rests on readings of the model: log entries 14, 45 and 75. -/
def Obligations.GnssCommandsComplete : Prop :=
  ∀ s : State,
    (∀ (x y z : Int) (unc : Nat), s.get F.gnbSurvey_STATE = 1 → s.gnb.survMin ≤ s.survElapsed → s.survElapsed ≤ s.gnb.survMax →
      unc ≤ s.gnb.survTgt → fits64 x = true → fits64 y = true → fits64 z = true → unc < 2 ^ 32 →
      (s.mode = .track ∨ s.mode = .standby → ∃ u : State, exec (.surveyDone () x y z unc) s = .next (u.refresh 14) ∧
        u.get F.gnbSurvey_STATE = 2 ∧ u.get F.gnbSurvey_ELAPSED = s.survElapsed ∧ u.getB F.gnbSurvey_CAND = true ∧ u.getI F.gnbPos_COORD 3 = x ∧
        u.getI F.gnbPos_COORD 4 = y ∧ u.getI F.gnbPos_COORD 5 = z ∧ u.gnb.candUnc = unc ∧
        u.getI F.gnbPos_COORD 0 = s.getI F.gnbPos_COORD 0) ∧
      (s.mode ≠ .track → s.mode ≠ .standby → ∃ u : State, exec (.surveyDone () x y z unc) s = .next (u.holdPos x y z unc) ∧
        u.get F.gnbSurvey_STATE = 2)) ∧
    (∀ unc : Nat, s.get F.gnbSurvey_STATE = 1 → s.gnb.survMax ≤ s.survElapsed →
      ∃ u : State, exec (.surveyFailed () unc) s = .next u ∧ u.get F.gnbSurvey_STATE = 3) ∧
    (s.get F.gnbSurvey_POS_MODE = 2 → ∃ u : State, exec .holdSuspect s = .next (u.refresh 14) ∧
      u.get F.gnbSurvey_POS_MODE = 1 ∧ u.getB F.gnbSurvey_HOLD_SUSPECT = true ∧ u.gnb.resync = true) ∧
    (∀ (x y z : Int) (unc : Nat), fits64 x = true → fits64 y = true → fits64 z = true → unc < 2 ^ 32 →
      ∃ u : State, s.holdPos x y z unc = (u.refresh 14).setSettings { s.settings with pos := some (x, y, z, unc) } ∧
        u.getI F.gnbPos_COORD 0 = x ∧ u.getI F.gnbPos_COORD 1 = y ∧ u.getI F.gnbPos_COORD 2 = z ∧
        u.get F.gnbPosUnc_HOLD_UNC = unc ∧ u.get F.gnbSurvey_POS_MODE = 2 ∧ u.getB F.gnbSurvey_HOLD_SUSPECT = false) ∧
    (∀ v : Settings, (s.setSettings v).settings = v) ∧
    (∀ (c : Caller) (sigEn tsys elev cn0 span per : Nat), s.admitsOwner c 0x30 = true → sigEn < 1024 → tsys ≤ 2 → elev ≤ 90 →
      cn0 < 256 → span ≤ 50000 → 10 ≤ per → per ≤ 1000 →
      ∃ u : State, exec (.gnssCfg c sigEn tsys elev cn0 span per) s = .next (u.showOob.complete c 0x30 .ok) ∧
        u.get F.gnbCfg_SIG_EN = sigEn ∧ u.get F.gnbCfg_TSYS = tsys ∧ u.get F.gnbCfg_ELEV_MASK = elev ∧
        u.get F.gnbCfg_CN0_MASK = cn0 ∧ u.gnb.measPer = per ∧ u.gnb.acqSpan = span ∧
        (tsys ≠ s.get F.gnbCfg_TSYS ∨ s.disablesUsed sigEn = true → u.gnb.resync = true)) ∧
    (∀ (c : Caller) (kind : Nat), s.admitsOwner c 0x31 = true → kind < 2 →
      exec (.gnssRestart c kind) s = .next ((s.setGnb { s.gnb with acq := none, coldStart := kind == 0 }).complete c 0x31 .ok)) ∧
    (∀ (c : Caller) (min target max : Nat), s.admitsOwner c 0x32 = true → min < 2 ^ 32 → target < 2 ^ 32 → max < 2 ^ 32 →
      s.get F.gnbSurvey_STATE ≠ 1 → ∃ u : State, exec (.gnssSurvey c min target max) s = .next (u.complete c 0x32 .ok) ∧
        u.get F.gnbSurvey_STATE = 1 ∧ u.get F.gnbSurvey_ELAPSED = 0 ∧ u.gnb.survMin = min ∧ u.gnb.survTgt = target ∧
        u.gnb.survMax = max ∧ u.gnb.survAt = s.get F.gnbRxc_RXC) ∧
    (∀ (c : Caller) (x y z : Int) (unc : Nat), s.admitsOwner c 0x33 = true →
      (fits64 x = true → fits64 y = true → fits64 z = true → unc < 2 ^ 32 →
        exec (.gnssPosSet c 0 x y z unc) s = .next ((s.holdPos x y z unc).complete c 0x33 .ok)) ∧
      (s.getB F.gnbSurvey_CAND = true → ∃ u : State, exec (.gnssPosSet c 1 x y z unc) s =
        .next ((u.putB F.gnbSurvey_CAND false).complete c 0x33 .ok) ∧
        u = s.holdPos (s.getI F.gnbPos_COORD 3) (s.getI F.gnbPos_COORD 4) (s.getI F.gnbPos_COORD 5) s.gnb.candUnc)) ∧
    (∀ c : Caller, s.admitsOwner c 0x34 = true → ∃ u : State, exec (.gnssPosClear c) s = .next (u.complete c 0x34 .ok) ∧
      u.settings.pos = none ∧ u.getI F.gnbPos_COORD 0 = 0 ∧ u.get F.gnbPosUnc_HOLD_UNC = 0 ∧ u.get F.gnbSurvey_POS_MODE ≠ 2) ∧
    (∀ (c : Caller) (on : Nat), s.admitsOwner c 0x35 = true → on < 2 → exec (.gnssTap c on) s =
      .next ((s.putB F.gnbCtl_TAP_EN (on == 1)).complete c 0x35 .ok))

/-- The RSH commands complete with OK (R209, R214, R222, R235, R248, R249, R252): what each leaves.
It rests on readings of the model: log entries 15, 23, 24 and 45. -/
def Obligations.RshCommandsComplete : Prop :=
  ∀ (s : State) (c : Caller),
    (∀ k : Nat, s.admitsOwner c 0x40 = true → k = 0x1f ∨ k < 26 ∧ 2 ≤ s.refState k ∧ s.getB F.refStat_FREQ_ONLY k = false →
      ∃ u : State, exec (.refForce c k) s = .next (u.complete c 0x40 .ok) ∧ ∀ j < 26, u.getB F.refStat_FORCED j = decide (j = k)) ∧
    (∀ k on : Nat, s.admitsOwner c 0x41 = true → k < 26 → on < 2 →
      ∃ u : State, u.getB F.refStat_LOCKOUT k = (on == 1) ∧
        (on = 0 ∨ s.refState k = 0 → exec (.refLockout c k on) s = .next (u.complete c 0x41 .ok) ∧
          u.refState k = s.refState k) ∧
        (on = 1 → s.refState k ≠ 0 → exec (.refLockout c k on) s = .next ((u.refresh 16).complete c 0x41 .ok) ∧
          u.refState k = 0 ∧ u.sel ≠ k)) ∧
    (s.admitsOwner c 0x42 = true → s.mode ≠ .steer ∨ s.rshState ≠ 6 →
      ∃ u : State, exec (.rshOpen c) s = .next (u.complete c 0x42 .ok) ∧ u.rshState = 6 ∧ (u.dom 0).hold = false ∧ u.sel = s.sel ∧
        u.getI F.rshServoI_VALUE = s.getI F.rshServoI_VALUE ∧ (u.dom 0).foff = (s.dom 0).foff ∧
        (s.sel = 0x1f → (u.dom 0).bcSrc = Config.unb ∧ ∃ rest, (u.dom 0).prov = { kind := 6, id := 0 } :: rest)) ∧
    (s.admitsOwner c 0x43 = true → s.rshState = 6 → exec (.rshClose c) s = .next (s.closeLoop.complete c 0x43 .ok)) ∧
    (∀ foff : Int, s.admitsOwner c 0x44 = true → s.rshState = 6 → foff.natAbs ≤ 2 ^ 47 - 1 →
      ∃ u : State, exec (.steerFreq c foff) s = .next (u.complete c 0x44 .ok) ∧ (u.dom 0).foff = foff ∧
        (u.dom 0).foffSat = (s.dom 0).foffSat ∧ (u.dom 0).acc = (s.dom 0).acc) ∧
    (∀ (ticks : Int) (unc slewMax : Nat), s.admitsOwner c 0x45 = true → s.rshState = 6 → fits64 ticks = true → unc < 2 ^ 64 →
      slewMax + (s.dom 0).foff.natAbs ≤ 2 ^ 47 - 1 →
      ∃ u : State, exec (.steerPhase c ticks unc slewMax) s = .next (u.complete c 0x45 .ok) ∧ u.regs = s.regs ∧
        (u.dom 0).rem = (s.dom 0).rem + ticks * Int.ofNat Config.uPerTick ∧ (u.dom 0).slewMax = slewMax ∧
        (u.dom 0).bookUnc = boundSum [(s.dom 0).bookUnc, unc] ∧ (u.dom 0).acc = (s.dom 0).acc) ∧
    (∀ (t : TimeVal) (bound : Nat), s.admitsOwner c 0x46 = true → tvOk t = true → bound < 2 ^ 64 → (s.dom 0).kind = .ref →
      ∃ u : State, exec (.rshD0Seed c t bound) s = .next (u.complete c 0x46 .ok) ∧ u.ticks 0 = Int.ofNat (tvTicks t) ∧
        (u.dom 0).unseeded = false ∧ (u.dom 0).bound = Config.unb ∧ (u.dom 0).prov = [{ kind := 8, id := s.cPart c }]) ∧
    (∀ on : Nat, s.admitsOwner c 0x47 = true → on < 2 → s.aoiOn = true → on = 0 ∨ s.getB F.aoiCfdStat_CFD_SAT = false →
      exec (.aoiSteer c on) s = .next ((s.putB F.aoiCfdCtl_STEER (on == 1)).complete c 0x47 .ok)) ∧
    (∀ code : Nat, s.admitsOwner c 0x48 = true → code < 2 ^ 24 → s.aoiOn = true → s.getB F.aoiCfdCtl_STEER = false →
      ∃ u : State, exec (.aoiCfdSet c code) s = .next (u.complete c 0x48 .ok) ∧ u.get F.aoiCfdCtl_CODE_CMD = code ∧
        (s.getB F.aoiCfdCtl_CFD_EN = true → s.getB F.aoiCfdStat_CFD_SAT = false → u.get F.aoiCfdStat_CODE_OUT = code) ∧
        (s.getB F.aoiCfdCtl_CFD_EN = false → u.get F.aoiCfdStat_CODE_OUT = s.get F.aoiCfdStat_CODE_OUT)) ∧
    (∀ step : Int, s.admitsOwner c 0x49 = true → step ≠ 0 → 0 ≤ s.get F.aoiCfdCtl_CODE_CMD + step →
      s.get F.aoiCfdCtl_CODE_CMD + step < 2 ^ 24 → s.rsh.gain = none →
      ∃ (u : State) (g : GainCal), exec (.cfdGainCal c step) s = .next (u.complete c 0x49 .ok) ∧ u.rsh.gain = some g ∧
        g.step = step ∧ g.second = false ∧ (u.get F.aoiCfdCtl_CODE_CMD : Int) = s.get F.aoiCfdCtl_CODE_CMD + step)

/-- RSH_CLOSE continues the frequency command without a jump (R235): the integrator takes the FOFF in force less KP · e, to the
nearest step; RSH leaves STEER for LOCKED where a candidate is SELECTED, else for HOLDOVER or FREERUN. -/
def Obligations.LoopClosesWithoutAJump : Prop :=
  ∀ s : State,
    let f : ℚ := (s.dom 0).foff * (10 ^ 9 / 2 ^ 56)
    let kpe : ℚ := (s.get F.rshServoKp_GAIN / 2 ^ 32) * (s.getI F.rshServoE_VALUE / 262144)
    ∃ u : State, (|f - kpe| ≤ 1953124 → |(u.getI F.rshServoI_VALUE : ℚ) / 2 ^ 32 - (f - kpe)| ≤ 1 / 2 ^ 32) ∧
      (u.dom 0) = (s.dom 0) ∧ u.rsh.suspended = false ∧
      let v := u.select
      (v.sel ≠ 0x1f → ∃ w : State, s.closeLoop = w.refresh 16 ∧ w.rshState = 2 ∧ w.rsh.bookPend = true ∧ w.rsh.cur = v.sel) ∧
      (v.sel = 0x1f → (v.dom 0).bound ≠ Config.unb → v.modelInvalid = false → s.closeLoop = v.enterHoldover) ∧
      (v.sel = 0x1f → (v.dom 0).bound = Config.unb ∨ v.modelInvalid = true → s.closeLoop = v.enterFreerun)

/-- The PI filter (R217, R218): i moves by KI · en and the command is KP · en + i, both held to ±1,953,125 ppb; FOFF is the command
in units of 2^-56, to the nearest. `en` is the error in ns. -/
def Obligations.ServoFollowsItsFilter : Prop :=
  ∀ (s : State) (e : Int),
    let sat (x : ℚ) : ℚ := max (-1953125) (min 1953125 x)
    let ki : ℚ := s.get F.rshServoKi_GAIN / 2 ^ 32
    let kp : ℚ := s.get F.rshServoKp_GAIN / 2 ^ 32
    let en : ℚ := e / 262144
    let i0 : ℚ := s.getI F.rshServoI_VALUE / 2 ^ 32
    let i : ℚ := (s.piFilter e).getI F.rshServoI_VALUE / 2 ^ 32
    let f : ℚ := sat (kp * en + i)
    |i - sat (i0 + ki * en)| ≤ 1 / 2 ^ 33 ∧
    |(((s.piFilter e).dom 0).foff : ℚ) - max (-(2 ^ 47 - 1)) (min (2 ^ 47 - 1) (f * (2 ^ 56 / 10 ^ 9)))| ≤ 1 ∧
    (s.piFilter e).getI F.rshServoF_FOFF = ((s.piFilter e).dom 0).foff ∧
    ((s.piFilter e).dom 0).foff.natAbs ≤ 2 ^ 47 - 1

/-- RSH's timed rows (R204, R211, R229, R230, R232): a message unpaired for 2 ms, a second of holdover, an anchor.
It rests on readings of the model: log entries 10, 15 and 22. -/
def Obligations.HoldoverRowsComplete : Prop :=
  ∀ s : State,
    exec .gnssPairTimeout s = .next (s.setRsh { s.rsh with tmsg := none }) ∧
    ((s.dom 0).hold = true →
      let v := s.setRsh { s.rsh with holdS := s.rsh.holdS + 1 }
      let ends : Prop := s.get F.rshHoldCfg_HOLD_MAX_S ≤ s.rsh.holdS + 1 ∨ s.holdBroken = true ∨ ∃ c < 24, v.verifyFails c = true
      (ends → exec .holdoverSecondTick s = .next v.enterFreerun) ∧
      (¬ ends → (s.rsh.holdF + s.rsh.holdA * Int.ofNat (s.rsh.holdS + 1)).natAbs ≤ 2 ^ 47 - 1 →
        ∃ u : State, exec .holdoverSecondTick s = .next u ∧
          (u.dom 0).foff = s.rsh.holdF + s.rsh.holdA * Int.ofNat (s.rsh.holdS + 1) ∧
          (u.dom 0).tint = (s.dom 0).tint + ceilDiv (s.thetaQ - s.rsh.holdTh).natAbs 65536 ∧ (u.dom 0).hold = true ∧
          (u.dom 0).dfu = (s.dom 0).dfu ∧ (u.dom 0).age = (s.dom 0).age ∧ (u.dom 0).tc = (s.dom 0).tc)) ∧
    (∀ x : Sample, (s.cand s.sel).smp.getLast? = some x → s.sel ≠ 0x1f → s.getB F.rshStat_LEARNED = true →
      exec .crossCheckAnchor s =
        .next (s.setRsh { s.rsh with chk := some { q := x.p + x.steer, inst := x.inst, tint := 0 } }))

/-- The rows of the atomic oscillator interface (R240–R247, R250): the compliance clamp with the compensation of D0's FOFF, the
offload, the monitors, the ageing fit and the end of a gain calibration's step.
It rests on readings of the model: log entries 10 and 24. -/
def Obligations.AoiRowsComplete : Prop :=
  ∀ s : State, s.aoiOn = true →
    (∀ vloop vcfd imeas : Nat, vloop < 2 ^ 16 → vcfd < 2 ^ 16 → imeas < 2 ^ 16 →
      let head : Nat := vloop - s.get F.aoiCfdLim_HR_MV
      let load : ℚ := if 1000 ≤ imeas then 1000 * vcfd / imeas else s.get F.aoiCfdLoad_RLOAD_INIT
      let m : Nat := ⌊(head : ℚ) / load * (2 ^ 24 / 25)⌋₊
      let cmd := s.get F.aoiCfdCtl_CODE_CMD
      (0 < load → s.getB F.aoiCfdCtl_CFD_EN = true → m < cmd →
        ∃ u : State, exec (.cfdComplianceSample vloop vcfd imeas) s = .next ((u.gainAbort 3).refresh 17) ∧
          u.get F.aoiCfdStat_CODE_OUT = m ∧ u.getB F.aoiCfdStat_CFD_SAT = true ∧ u.getB F.aoiCfdCtl_STEER = false ∧
          (u.dom 0).foff = if m = s.get F.aoiCfdStat_CODE_OUT then (s.dom 0).foff else
            clampInt (-(2 ^ 47 - 1)) (2 ^ 47 - 1) ((s.dom 0).foff -
              roundDiv (s.getI F.aoiCfdGain_GAIN * (Int.ofNat m - Int.ofNat (s.get F.aoiCfdStat_CODE_OUT))) 256)) ∧
      (0 < load → s.getB F.aoiCfdCtl_CFD_EN = true → cmd ≤ m → s.getB F.aoiCfdStat_CFD_SAT = false →
        ∃ u : State, exec (.cfdComplianceSample vloop vcfd imeas) s = .next u ∧ u.get F.aoiCfdStat_VLOOP_MV = vloop ∧
          u.get F.aoiCfdStat_VCFD_MV = vcfd ∧ u.get F.aoiCfdLoad_IMEAS_UA = imeas ∧
          u.get F.aoiCfdStat_CODE_OUT = s.get F.aoiCfdStat_CODE_OUT)) ∧
    (∀ vloop vcfd imeas : Nat, vloop < 2 ^ 16 → vcfd < 2 ^ 16 → imeas < 2 ^ 16 → s.getB F.aoiCfdCtl_CFD_EN = false →
      ∃ u : State, exec (.cfdComplianceSample vloop vcfd imeas) s = .next u ∧
        u.get F.aoiCfdStat_CODE_OUT = s.get F.aoiCfdStat_CODE_OUT ∧ u.get F.aoiCfdStat_VLOOP_MV = vloop ∧
        u.get F.aoiCfdStat_VCFD_MV = vcfd ∧ u.get F.aoiCfdLoad_IMEAS_UA = imeas) ∧
    (s.getB F.aoiCfdCtl_STEER = true → s.rshState = 2 →
      0 < Int.ofNat (s.get F.aoiOffload_TAU_S) * s.getI F.aoiCfdGain_GAIN →
      ∃ x : Int, exec .aoiOffloadStep s = .next (s.setCodeCmd (Int.ofNat (s.get F.aoiCfdCtl_CODE_CMD) + x)) ∧
        x.natAbs ≤ s.get F.aoiCfdLim_STEP_MAX) ∧
    (∀ codes : List Nat, codes.length = 4 → ∃ u : State, (∀ k < 4, u.get F.aoiMon_VALUE k = codes.getD k 0 % 2 ^ 16) ∧
      (∀ k < 4, bitOf u.rsh.monBad k = decide (u.get F.aoiMon_VALUE k < s.get F.aoiMonLim_LO k ∨
        s.get F.aoiMonLim_HI k < u.get F.aoiMon_VALUE k)) ∧ u.rsh.dayN = s.rsh.dayN + 1 ∧
      (bitOf u.rsh.monBad 2 = false → exec (.aoiMonMean codes) s = .next (u.refresh 18)) ∧
      (bitOf u.rsh.monBad 2 = true → let v := (u.putB F.aoiCfdCtl_STEER false).learnReset
        exec (.aoiMonMean codes) s =
          .next ((if (v.dom 0).hold && v.modelSet == 0 then v.enterFreerun else v).refresh 18))) ∧
    (0 < s.rsh.dayN → ∃ u : State, exec .aoiEolFit s = .next (u.refresh 54) ∧ u.rsh.dayN = 0 ∧ u.rsh.daySum = [] ∧
      ∀ k < 3, tabGet [] u.rsh.days k =
        (tabGet 0 s.rsh.daySum k / s.rsh.dayN :: tabGet [] s.rsh.days k).take 365) ∧
    (∀ g : GainCal, s.rsh.gain = some g →
      (s.getB F.aoiCfdStat_CFD_SAT = true → exec .gainCalPhaseEnd s = .next (s.gainAbort 3)) ∧
      (s.getB F.aoiCfdStat_CFD_SAT = false → g.second = false → ∃ (u : State) (h : GainCal), exec .gainCalPhaseEnd s = .next u ∧ u.rsh.gain = some h ∧
        h.second = true ∧ h.di = s.getI F.rshServoI_VALUE - g.i0 ∧ h.step = g.step ∧
        u.get F.aoiCfdCtl_CODE_CMD =
          (clampInt 0 16777215 (Int.ofNat (s.get F.aoiCfdCtl_CODE_CMD) - g.step)).toNat) ∧
      (s.getB F.aoiCfdStat_CFD_SAT = false → g.second = true →
        ∃ u : State, exec .gainCalPhaseEnd s = .next u ∧ u.rsh.gain = none))

/-- The retune of an ADPLL (R260–R263, R265–R268): a step of the band search, the verification, the end of LOCK_WAIT, the phase
monitor.
It rests on readings of the model: log entry 20. -/
def Obligations.RetuneRowsComplete : Prop :=
  ∀ (s : State) (n : Nat), n < 8 →
    let target : ℚ := s.synTarget n / 2 ^ 24
    (∀ count b : Nat, s.synState n = 2 → (s.adpll n).bit = b → b ≤ 7 →
      ∃ u : State, exec (.bandSearchStepEnd n count) s = .next u ∧ u.synState n = 2 ∧
        bitOf (u.get F.synStat_BAND n) b = (bitOf (s.get F.synStat_BAND n) b && decide ((count : ℚ) * 4000 ≤ target)) ∧
        (b = 0 → (u.adpll n).bit = 8) ∧
        (0 < b → (u.adpll n).bit = b - 1 ∧ bitOf (u.get F.synStat_BAND n) (b - 1) = true)) ∧
    (∀ count : Nat, (s.adpll n).bit = 8 →
      let pass : Prop := |(count : ℚ) * 62500 - target| ≤ target * 800 / 10 ^ 6
      (s.synState n = 1 → ∀ e : Nat, e < 16 → (s.adpll n).mem = some e →
        (pass → ∃ u : State, exec (.bandVerifyEnd n count) s = .next u ∧ u.synState n = 3 ∧ u.getB F.synStat_HIT n = true ∧
          u.get F.synMemVal_LRU n e = 0) ∧
        (¬ pass → ∃ u : State, exec (.bandVerifyEnd n count) s = .next u ∧ u.synState n = 2 ∧ u.get F.synStat_BAND n = 128 ∧
          u.getB F.synMemVal_VALID n e = false ∧ (u.adpll n).bit = 7)) ∧
      (s.synState n = 2 →
        (pass ∧ 1150000000 ≤ target ∧ target ≤ 1600000000 → ∃ (u : State) (e : Nat), exec (.bandVerifyEnd n count) s = .next u ∧
          u.synState n = 3 ∧ u.getB F.synStat_HIT n = false ∧ e < 16 ∧ (u.adpll n).mem = some e ∧
          u.getB F.synMemVal_VALID n e = true ∧ u.get F.synMemKey_TARGET_F n e = s.synTarget n ∧
          u.get F.synMemKey_REF_MODE n e = s.get F.synCfg_REF_MODE n ∧ u.get F.synMemVal_BAND n e = s.get F.synStat_BAND n ∧
          u.get F.synMemVal_FINE n e = s.get F.synStat_FINE n ∧ u.get F.synMemVal_LRU n e = 0) ∧
        (¬ (pass ∧ 1150000000 ≤ target ∧ target ≤ 1600000000) → ∃ u : State, exec (.bandVerifyEnd n count) s =
          .next u.synChanged ∧ u.synState n = 7))) ∧
    (s.synState n = 3 ∨ s.synState n = 6 → ∃ u : State, exec (.lockWaitExpire n) s = .next u.synChanged ∧ u.synState n = 4 ∧
      (u.adpll n).tripped = false ∧ (u.adpll n).pm0 = (u.adpll n).phase ∧
      (s.synState n = 6 → (u.adpll n).phase = (s.adpll n).phase)) ∧
    (∀ count : Nat, s.synState n = 4 →
      let d : Int := count - s.pmonExpected n
      (d.natAbs ≤ max 2 (s.get F.synPmon_PMON_TOL n) → ∃ u : State, exec (.phaseMonitorCompare n count) s = .next u ∧
        u = s.putI F.synPmon_DIFF (satInt 32 d) n) ∧
      (max 2 (s.get F.synPmon_PMON_TOL n) < d.natAbs → ∃ u : State, exec (.phaseMonitorCompare n count) s = .next u.synChanged ∧
        u.getB F.synStat_FL_SEEN n = true ∧ (u.adpll n).tripped = true ∧
        u.synState n = if s.getB F.synCfg_AUTO_RELOCK n then 2 else 7))

/-- ALIGN_ERR and MISALIGNED (R275), and the settings that an output takes up (R280).
It rests on readings of the model: log entry 10. -/
def Obligations.OutputRowsComplete : Prop :=
  (∀ (s : State) (n : Nat), n < 8 → s.get F.synCfg_REF_MODE n = 1 → 4 ≤ s.synState n → s.synState n ≤ 6 →
    0 < s.get F.synAlignPer_ALIGN_PER n →
    ∃ u : State, exec (.alignErrCompute n) s = .next u ∧
      let t : Int := u.getI F.synAlignErr_VALUE n
      let per : Int := s.get F.synAlignPer_ALIGN_PER n
      0 ≤ 2 * t + per + 1 ∧ 2 * t < per ∧ u.getB F.synStat_MISALIGNED n = decide (t ≠ 0) ∧
      ∃ k : Int, let r := s.domU 0 * phaseFine - ((s.adpll n).phase + (s.adpll n).grid) - (s.getI F.synPhaseOfs_VALUE n + t + k * per) * phasePerTick
        0 ≤ r ∧ r < phasePerTick) ∧
  (∀ (s : State) (n : Nat), n < 8 → s.get F.synCfg_REF_MODE n = 1 → 4 ≤ s.synState n → s.synState n ≤ 6 →
    s.get F.synAlignPer_ALIGN_PER n = 0 → ∃ u : State, exec (.alignErrCompute n) s = .next u) ∧
  (∀ (s : State) (o : Nat), o < 24 → ∃ u : State, exec (.clkoutSettingApply o) s = .next u ∧ u.regs = s.regs ∧
    (u.out' o).cfg = s.rd .outCfg o ∧ (u.out' o).div = s.rd .outDiv o ∧ ∀ p, p ≠ o → u.out' p = s.out' p)

/-- An EVO edge (R284, R286–R288): its placement in interpolator steps of 204.8 ticks, and when it is suppressed, merged, driven. -/
def Obligations.EvoEdgesArePlaced : Prop :=
  (∀ (s : State) (v dom lat : Nat), v < 8 → 0 < 2 ^ 56 + s.domRate dom →
    let fixed : ℚ := ((min 1048576 (Config.fusePadDelay v (s.get F.evoCfg_STD v)) + min 5242880 (s.get F.evoDelay_DELAY v) : Nat) : ℚ)
    let d : ℚ := (10485760 - lat) * 2 ^ 56 / (2 ^ 56 + s.domRate dom) - fixed
    |(s.evoPlace v dom lat : ℚ) - d / 204.8| ≤ 1 / 2) ∧
  (∀ (s : State) (d : Due) (last : Bool),
    let v := d.al.target % 8
    let level := bitOf d.al.target 8
    (s.evoEmits v = false → s.evoFire d last = s.bump F.evoStat_SUPPRESSED 1 v) ∧
    (s.evoEmits v = true → last = false → s.evoFire d last = s.bump F.evoStat_MERGED 1 v) ∧
    (s.evoEmits v = true → last = true → d.lat < 209716 → s.getB F.evoStat_LEVEL v = level → s.evoFire d last = s) ∧
    (s.evoEmits v = true → last = true → d.lat < 209716 → s.getB F.evoStat_LEVEL v ≠ level →
      let t := s.cycStep + s.evoPlace v d.al.dom d.lat
      (∀ t0, tabGet none s.syn.evoLast v = some t0 → t0 + 5120 ≤ t) →
      (s.evoFire d last).getB F.evoStat_LEVEL v = level ∧ (s.evoFire d last).out = .evoEdge v level t :: s.out ∧
        tabGet none (s.evoFire d last).syn.evoLast v = some t) ∧
    (s.evoEmits v = true → last = true → 209716 ≤ d.lat → s.getB F.evoStat_LEVEL v ≠ level →
      tabGet none s.syn.evoLast v = none →
      ∃ u : State, s.evoFire d last = (u.pulse 23 0 (0x10 + v)).evoDrive v level ((u.pulse 23 0 (0x10 + v)).cycStep + (u.pulse 23 0 (0x10 + v)).evoPlace v d.al.dom 0) ∧
        u.get F.evoStat_LATE v = min 65535 (s.get F.evoStat_LATE v + 1)))

/-- The SYN commands complete with OK (R271, R276, R290, R292–R294): what each leaves.
It rests on readings of the model: log entries 9, 16, 45 and 68. -/
def Obligations.SynCommandsComplete : Prop :=
  ∀ (s : State) (c : Caller),
    (∀ n tf mode refin bw lockWait fl : Nat, s.admitsOwner c 0x50 = true → s.synCfgBad n tf mode refin bw lockWait = false →
      fl < 2 ^ 32 → s.synState n ≠ 1 → s.synState n ≠ 2 → s.synState n ≠ 3 →
      let same : Prop := s.synState n ≠ 0 ∧ tf = s.synTarget n
      (same ∧ mode = s.get F.synCfg_REF_MODE n → ∃ u : State, exec (.synCfg c n tf mode refin bw lockWait fl) s =
        .next (u.complete c 0x50 .ok) ∧ u.synState n = s.synState n ∧
        u.get F.synCfg_BW n = (if n = 1 then s.get F.synCfg_BW n else bw) ∧
        u.get F.synCfg_LOCK_WAIT n = (if n = 1 then s.get F.synCfg_LOCK_WAIT n else lockWait) ∧ u.get F.synCfg_REFIN n = s.get F.synCfg_REFIN n ∧ u.syn = s.syn ∧
        u.get F.synLimits_FOLLOW_LIM n = min fl (if n = 1 then 500000 else 5000000)) ∧
      (same → mode ≠ s.get F.synCfg_REF_MODE n → mode ≤ 1 → s.get F.synCfg_REF_MODE n ≤ 1 →
        ∃ u : State, exec (.synCfg c n tf mode refin bw lockWait fl) s = .next (u.complete c 0x50 .ok) ∧
          u.synState n = s.synState n ∧ u.get F.synCfg_REF_MODE n = mode ∧ u.getB F.synStat_MISALIGNED n = true ∧ u.syn = s.syn) ∧
      (s.synState n = 0 ∨ tf ≠ s.synTarget n ∨ (mode ≠ s.get F.synCfg_REF_MODE n ∧ (mode = 2 ∨ 1 < s.get F.synCfg_REF_MODE n)) →
        ∃ u : State, exec (.synCfg c n tf mode refin bw lockWait fl) s = .next (u.synChanged.complete c 0x50 .ok) ∧
          (u.synState n = 1 ∨ u.synState n = 2) ∧ u.synTarget n = tf ∧ u.get F.synCfg_REF_MODE n = mode ∧
          u.get F.synCfg_BW n = (if n = 1 then s.get F.synCfg_BW n else bw) ∧
          u.get F.synCfg_LOCK_WAIT n = (if n = 1 then s.get F.synCfg_LOCK_WAIT n else lockWait) ∧ (mode = 2 → u.get F.synCfg_REFIN n = refin))) ∧
    (∀ (n : Nat) (ticks : Int), s.admitsOwner c 0x51 = true → 2 ≤ n → n < 8 → fits64 ticks = true → s.synRuns n = true →
      ∃ u : State, exec (.synPstep c n ticks) s = .next (u.complete c 0x51 .ok) ∧
        u.get F.synPhaseOfs_VALUE n = codeOf 64 (s.getI F.synPhaseOfs_VALUE n + ticks) ∧
        (u.adpll n).rem = (s.adpll n).rem + ticks * phasePerTick ∧ (u.adpll n).phase = (s.adpll n).phase) ∧
    (∀ n : Nat, s.admitsOwner c 0x52 = true → 2 ≤ n → n < 8 → s.get F.synCfg_REF_MODE n = 1 → s.synRuns n = true →
      (∃ u : State, exec (.synAlign c n 0) s = .next (u.complete c 0x52 .ok) ∧
        (u.adpll n).rem = (s.adpll n).rem - s.getI F.synAlignErr_VALUE n * phasePerTick ∧
        (u.adpll n).phase = (s.adpll n).phase ∧ u.get F.synPhaseOfs_VALUE n = s.get F.synPhaseOfs_VALUE n) ∧
      (∃ u : State, exec (.synAlign c n 1) s = .next (u.complete c 0x52 .ok) ∧
        (u.adpll n).phase = (s.adpll n).phase ∧
        (u.adpll n).grid - (u.adpll n).rem =
          (s.adpll n).grid - (s.adpll n).rem + s.getI F.synAlignErr_VALUE n * phasePerTick ∧
        0 ≤ (u.adpll n).rem - (s.adpll n).rem ∧
        ((u.adpll n).rem - (s.adpll n).rem - 1) * max 1 (s.synTarget n) < phasePerTick * (262144000000000 * 2 ^ 24))) ∧
    (∀ n : Nat, s.admitsOwner c 0x53 = true → 1 ≤ n → n < 8 → ∃ u : State, exec (.synMemClear c n) s =
      .next (u.complete c 0x53 .ok) ∧ (∀ e < 16, u.getB F.synMemVal_VALID n e = false) ∧ u.synState n = s.synState n) ∧
    (∀ n : Nat, s.admitsOwner c 0x54 = true → 2 ≤ n → n < 8 → exec (.synOff c n) s =
      .next (((s.put F.synStat_STATE 0 n).putB F.synStat_FOLLOW_SAT false n).synChanged.complete c 0x54 .ok)) ∧
    (∀ (v dom : Nat) (e0 : TimeVal) (per width pol lateOk : Nat), s.admitsOwner c 0x55 = true → v < 8 → dom < 32 → tvOk e0 = true →
      per < 2 ^ 63 → width < 2 ^ 63 → pol < 2 → lateOk < 2 → per = 0 ∨ 26214400 ≤ per ∧ width + 1048576 ≤ per →
      1048576 ≤ width → evoLead ≤ tvTicks e0 → (s.dom dom).st ≠ .off → s.resetting (s.dom dom).owner = false → s.evoArmed v = false →
      s.twoSlots 0 ≠ none → lateOk = 1 ∨ s.ticks dom < tvTicks e0 - evoLead →
      ∃ u : State, exec (.synEvoArm c v dom e0 per width pol lateOk) s = .next (u.complete c 0x55 .ok) ∧
        u.evoArmed v = true ∧
        (let a := u.alarm (u.get F.evoSlots_LEAD_SLOT v)
         a.st = .armed ∧ a.dom = dom ∧ a.kind = .evoEdge ∧ a.target = v + 256 * pol ∧ a.inst = tvTicks e0 - evoLead ∧
           a.period = per) ∧
        (let a := u.alarm (u.get F.evoSlots_TRAIL_SLOT v)
         a.st = .armed ∧ a.dom = dom ∧ a.kind = .evoEdge ∧ a.target = v + 256 * (1 - pol) ∧
           a.inst = tvTicks e0 + width - evoLead ∧ a.period = per)) ∧
    (∀ v : Nat, s.admitsOwner c 0x56 = true → v < 8 →
      (s.evoArmed v = false → exec (.synEvoDisarm c v) s = .next (s.complete c 0x56 .ok)) ∧
      (s.evoArmed v = true → ∃ u : State, exec (.synEvoDisarm c v) s = .next
          ((if u.evoDue v then { u with syn := { u.syn with evoPark := withBit u.syn.evoPark v } } else u.evoIdle v).complete c 0x56 .ok) ∧
        u.evoArmed v = false ∧ u = { s with tse := { s.tse with alarms := u.tse.alarms } } ∧
        ∀ k, u.alarm k = s.alarm k ∨
          ((k = s.get F.evoSlots_LEAD_SLOT v ∨ k = s.get F.evoSlots_TRAIL_SLOT v) ∧ (s.alarm k).st = .armed ∧
            (u.alarm k).st = .cancelled)))

/-- Every ALU instruction (R309): its result, Z and N after the result, C and V, no other flag; nothing outside the thread's own
registers changes, and the thread goes on to the next word. -/
def Obligations.AluResultsAndFlags : Prop :=
  ∀ (s : State) (t rd ra rb : Nat), s.mayRun t 4 →
    let a := s.g t ra
    let b := s.g t rb
    let n := (BitVec.extractLsb' 0 6 b).toNat
    let gives (i : Instr) (rd : Nat) (x : Word) (c v : Bool) : Prop :=
      ∃ u : State, exec i s = .next u ∧ s.aluTo u t (s.pc t + 4) rd x c v
    let sat (x : Int) : Word := BitVec.ofInt 64 (max (-(2 ^ 63)) (min (2 ^ 63 - 1) x))
    let big (x : Int) : Bool := decide (x < -(2 ^ 63) ∨ 2 ^ 63 ≤ x)
    gives (.add t rd ra rb) rd (a + b) (decide (2 ^ 64 ≤ a.toNat + b.toNat)) (big (a.toInt + b.toInt)) ∧
    gives (.sub t rd ra rb) rd (a - b) (decide (b.toNat ≤ a.toNat)) (big (a.toInt - b.toInt)) ∧
    gives (.and t rd ra rb) rd (a &&& b) false false ∧
    gives (.or t rd ra rb) rd (a ||| b) false false ∧
    gives (.xor t rd ra rb) rd (a ^^^ b) false false ∧
    gives (.shl t rd ra rb) rd (a <<< n) (decide (n ≠ 0) && a.getLsbD (64 - n)) false ∧
    gives (.shr t rd ra rb) rd (a >>> n) (decide (n ≠ 0) && a.getLsbD (n - 1)) false ∧
    gives (.sra t rd ra rb) rd (a.sshiftRight n) (decide (n ≠ 0) && a.getLsbD (n - 1)) false ∧
    gives (.mul t rd ra rb) rd (a * b) false (big (a.toInt * b.toInt)) ∧
    gives (.mulhu t rd ra rb) rd (BitVec.ofNat 64 (a.toNat * b.toNat / 2 ^ 64)) false false ∧
    gives (.mulhs t rd ra rb) rd (BitVec.ofInt 64 (a.toInt * b.toInt / 2 ^ 64)) false false ∧
    (∃ u : State, exec (.cmp t ra rb) s = .next u ∧ (∀ r : Nat, u.g t r = s.g t r) ∧ (∀ k : Nat, u.treg t k = s.treg t k) ∧
      u.pc t = (s.pc t + 4) % 2 ^ 21 ∧ OnlyThread s u t ∧
      s.setZNCV u t (a == b) (a - b).msb (decide (b.toNat ≤ a.toNat)) (big (a.toInt - b.toInt))) ∧
    gives (.min t rd ra rb) rd (if a.toInt ≤ b.toInt then a else b) false false ∧
    gives (.max t rd ra rb) rd (if a.toInt ≤ b.toInt then b else a) false false ∧
    gives (.adds t rd ra rb) rd (sat (a.toInt + b.toInt)) false (big (a.toInt + b.toInt)) ∧
    gives (.subs t rd ra rb) rd (sat (a.toInt - b.toInt)) false (big (a.toInt - b.toInt))

/-- The immediate instructions (R307, R310) act as their register forms, with a 15-bit immediate or an extension word; and the
fixed-point instructions (R302, R303, R311), over Q32.32 values as rationals, round once as rm selects, with the result limited to
64 bits, V set where it was, Z and N after the result, C clear. -/
def Obligations.ImmediatesAndFixedPoint : Prop :=
  (∀ (s : State) (t rd ra imm : Nat) (e : Bool), s.mayRun t (if e then 8 else 4) →
    let next := s.pc t + if e then 8 else 4
    let a := s.g t ra
    let b := immVal e imm
    let gives (i : Instr) (rd : Nat) (x : Word) (c v : Bool) : Prop := ∃ u : State, exec i s = .next u ∧ s.aluTo u t next rd x c v
    let big (x : Int) : Bool := decide (x < -(2 ^ 63) ∨ 2 ^ 63 ≤ x)
    gives (.addi t rd ra e imm) rd (a + b) (decide (2 ^ 64 ≤ a.toNat + b.toNat)) (big (a.toInt + b.toInt)) ∧
    gives (.andi t rd ra e imm) rd (a &&& b) false false ∧
    gives (.ori t rd ra e imm) rd (a ||| b) false false ∧
    gives (.xori t rd ra e imm) rd (a ^^^ b) false false ∧
    (∃ u : State, exec (.cmpi t ra e imm) s = .next u ∧ (∀ r : Nat, u.g t r = s.g t r) ∧ u.pc t = next % 2 ^ 21 ∧ OnlyThread s u t ∧
      s.setZNCV u t (a == b) (a - b).msb (decide (b.toNat ≤ a.toNat)) (big (a.toInt - b.toInt))) ∧
    (∃ u : State, exec (.li t rd e imm) s = .next u ∧ WroteG s u t next rd b ∧ s.sameFlags u t) ∧
    (∃ u : State, exec (.liu t rd e imm) s = .next u ∧ s.sameFlags u t ∧
      WroteG s u t next rd ((BitVec.extractLsb' 0 32 b ++ BitVec.extractLsb' 0 32 (s.g t rd) : BitVec 64))) ∧
    (e = false → ∀ ty n : Nat, n < 64 →
      (ty = 0 → gives (.shi t rd ra ty n) rd (a <<< n) (decide (n ≠ 0) && a.getLsbD (64 - n)) false) ∧
      (ty = 1 → gives (.shi t rd ra ty n) rd (a >>> n) (decide (n ≠ 0) && a.getLsbD (n - 1)) false) ∧
      (ty = 2 → gives (.shi t rd ra ty n) rd (a.sshiftRight n) (decide (n ≠ 0) && a.getLsbD (n - 1)) false) ∧
      (ty = 3 → exec (.shi t rd ra ty n) s = .next ((s.issued t).faultThr t 1 0 (s.pc t) 0)))) ∧
  (∀ (s : State) (t rd ra rb rm : Nat), rm < 4 → s.mayRun t 4 →
    let a := s.g t ra
    let b := s.g t rb
    let round (x : ℚ) : Int :=
      match rm with
      | 0 => if 0 ≤ x then ⌊x + 1 / 2⌋ else ⌈x - 1 / 2⌉
      | 1 => ⌈x⌉
      | 2 => ⌊x⌋
      | _ => if 0 ≤ x then ⌊x⌋ else ⌈x⌉
    let lim (x : Int) : Int := max (-(2 ^ 63)) (min (2 ^ 63 - 1) x)
    let gives (i : Instr) (x : Int) : Prop :=
      ∃ u : State, exec i s = .next u ∧ s.aluTo u t (s.pc t + 4) rd (BitVec.ofInt 64 (lim x)) false (decide (lim x ≠ x))
    let m : Int := min (b.toInt.natAbs : Int) (2 ^ 63 - 1)
    gives (.fmul t rd ra rb rm) (round ((a.toInt : ℚ) * b.toInt / 2 ^ 32)) ∧
    gives (.fmac t rd ra rb rm) ((s.g t rd).toInt + round ((a.toInt : ℚ) * b.toInt / 2 ^ 32)) ∧
    (∃ u : State, exec (.sat t rd ra rb) s = .next u ∧
      s.aluTo u t (s.pc t + 4) rd (BitVec.ofInt 64 (max (-m) (min m a.toInt))) false (decide (m < (a.toInt.natAbs : Int)))) ∧
    gives (.itof t rd ra) (a.toInt * 2 ^ 32) ∧
    gives (.ftoi t rd ra rm) (round ((a.toInt : ℚ) / 2 ^ 32)))

/-- TADD, TSUB, TCMP, TGET and TSET (R315–R318): instants, differences, interval comparison and the fields of a time register. -/
def Obligations.TimeRegisterInstructions : Prop :=
  ∀ (s : State) (t : Nat), s.mayRun t 4 →
    let next := s.pc t + 4
    (∀ (tn ta gs : Nat) (ns : Bool),
      let x := s.treg t ta
      let y : Int := x.t + (s.g t gs).toInt * (if ns then 2 ^ 18 else 1)
      (0 ≤ y → y < 2 ^ 48 * Config.secTicks → ∃ u : State, exec (.tadd t tn ta gs ns) s = .next u ∧
        WroteT s u t next tn { x with t := y.toNat } ∧ s.setV u t false) ∧
      (y < 0 ∨ 2 ^ 48 * Config.secTicks ≤ y → ∃ u : State, exec (.tadd t tn ta gs ns) s = .next u ∧
        WroteT s u t next tn (s.treg t tn) ∧ s.setV u t true)) ∧
    (∀ gd ta tb : Nat,
      let d : Int := Int.ofNat (s.treg t ta).t - Int.ofNat (s.treg t tb).t
      let g : Word := BitVec.ofInt 64 (max (-(2 ^ 63 - 1)) (min (2 ^ 63 - 1) d))
      let b := (s.treg t ta).b + (s.treg t tb).b
      (∃ u : State, exec (.tsub t gd ta tb none) s = .next u ∧ WroteG s u t next gd g ∧ s.setV u t (decide (2 ^ 63 ≤ d.natAbs))) ∧
      (∀ bn : Nat, ∃ u : State, exec (.tsub t gd ta tb (some bn)) s = .next u ∧ (gd % 32 ≠ 0 → u.g t gd = g) ∧
        (u.treg t bn).t = (s.treg t bn).t ∧ (u.treg t bn).dom = (s.treg t bn).dom ∧ s.setV u t (decide (2 ^ 63 ≤ d.natAbs)) ∧
        (u.treg t bn).b = (if (s.treg t ta).b = 2 ^ 64 - 1 ∨ (s.treg t tb).b = 2 ^ 64 - 1 ∨ 2 ^ 64 - 2 < b then 2 ^ 64 - 1 else b) ∧
        (∀ n : Nat, n % 8 ≠ bn % 8 → u.treg t n = s.treg t n) ∧ OnlyThread s u t)) ∧
    (∀ ta tb : Nat,
      let x := s.treg t ta
      let y := s.treg t tb
      let lo (r : TReg) : Int := r.t - r.b
      let hi (r : TReg) : Int := r.t + r.b
      let unb : Prop := x.b = 2 ^ 64 - 1 ∨ y.b = 2 ^ 64 - 1
      (∃ u : State, exec (.tcmp t ta tb false) s = .next u ∧ WroteG s u t next 0 0 ∧
        s.setZNCV u t (decide (x.t = y.t)) (decide (x.t < y.t)) false false) ∧
      (∃ u : State, exec (.tcmp t ta tb true) s = .next u ∧ WroteG s u t next 0 0 ∧
        (u.flag t .z = true ↔ unb ∨ ∃ p : Int, lo x ≤ p ∧ p ≤ hi x ∧ lo y ≤ p ∧ p ≤ hi y) ∧
        (u.flag t .n = true ↔ ¬ unb ∧ hi x < lo y) ∧ (∀ f : Flag, f ≠ .z → f ≠ .n → u.flag t f = s.flag t f))) ∧
    (∀ (gd tn field : Nat), field < 4 →
      let x := s.treg t tn
      ∃ u : State, exec (.tget t gd tn field) s = .next u ∧ s.sameFlags u t ∧ WroteG s u t next gd (BitVec.ofNat 64
        (match field with
          | 0 => x.t / (10 ^ 9 * 2 ^ 18)
          | 1 => x.t / 2 ^ 18 % 10 ^ 9 * 2 ^ 18 + x.t % 2 ^ 18
          | 2 => x.b
          | _ => x.dom))) ∧
    (∀ tn gs : Nat,
      let x := s.treg t tn
      let g := (s.g t gs).toNat
      let sets (field : Nat) (ok : Prop) [Decidable ok] (y : TReg) : Prop := ∃ u : State, exec (.tset t tn gs field) s = .next u ∧
        WroteT s u t next tn (if ok then y else x) ∧ s.setV u t (decide (¬ ok))
      sets 0 (g < 2 ^ 48) { x with t := g * (10 ^ 9 * 2 ^ 18) + x.t % (10 ^ 9 * 2 ^ 18) } ∧
      sets 1 (g < 2 ^ 48 ∧ g / 2 ^ 18 < 10 ^ 9)
        { x with t := x.t / (10 ^ 9 * 2 ^ 18) * (10 ^ 9 * 2 ^ 18) + g / 2 ^ 18 * 2 ^ 18 + g % 2 ^ 18 } ∧
      sets 2 True { x with b := g } ∧ sets 3 (g < 32) { x with dom := g })

/-- TREAD and TSNAP (R312, R314): as the capture arrives, the time registers hold the domains' values at the start of the issue's cycle (R73) with their
bounds and numbers, and V tells an UNBOUNDED bound; a domain of another partition raises ACCESS. TWAIT (R319, R320) arms the wait
slot and parks the thread, and the slot's firing wakes it with its lateness. TEMIT (R321–R323) arms an alarm.
It rests on readings of the model: log entries 18 and 19. -/
def Obligations.TimeInstructionsReadAndArm : Prop :=
  ∀ (s : State) (t : Nat), s.mayRun t 4 → s.getB F.thrStat_STOP_PEND t = false →
    let next := s.pc t + 4
    let p := s.thrPart t
    let mine (n : Nat) : Prop := n = 0 ∨ (s.dom n).owner = p
    let inFormat (n : Nat) : Prop := 0 ≤ s.startTicks n ∧ s.startTicks n < 2 ^ 48 * Config.secTicks
    let captured (x : TReg) (n : Nat) : Prop := (x.t : Int) = s.startTicks n ∧ x.dom = n ∧ x.b = (s.dom n).bound
    (∀ tn dom : Nat, dom < 32 →
      (mine dom → inFormat dom → ∃ u w : State, exec (.tread t tn dom) s = .next u ∧ u.thrState t = 4 ∧
        exec (.threadReplyArrive t) u = .next w ∧ captured (w.treg t tn) dom ∧
        WroteT s w t next tn (w.treg t tn) ∧ s.setV w t (decide ((s.dom dom).bound = 2 ^ 64 - 1))) ∧
      (¬ mine dom → exec (.tread t tn dom) s = .next ((s.issued t).faultThr t 4 0 (s.pc t) 0))) ∧
    (∀ tn count gs : Nat, 1 ≤ count →
      let dom (k : Nat) : Nat := (BitVec.extractLsb' (8 * k) 5 (s.g t gs)).toNat
      (8 < tn + count → exec (.tsnap t tn count gs) s = .next ((s.issued t).faultThr t 1 0 (s.pc t) 0)) ∧
      (tn + count ≤ 8 → (∃ k < count, ¬ mine (dom k)) →
        exec (.tsnap t tn count gs) s = .next ((s.issued t).faultThr t 4 0 (s.pc t) 0)) ∧
      (tn + count ≤ 8 → (∀ k < count, mine (dom k) ∧ inFormat (dom k)) →
        ∃ u w : State, exec (.tsnap t tn count gs) s = .next u ∧ u.thrState t = 4 ∧ exec (.threadReplyArrive t) u = .next w ∧
          (∀ k < count, captured (w.treg t (tn + k)) (dom k)) ∧
          (∀ n < 8, n < tn ∨ tn + count ≤ n → w.treg t n = s.treg t n) ∧ (∀ r : Nat, w.g t r = s.g t r) ∧ w.thrState t = 1 ∧
          s.setV w t (decide (∃ k < count, (s.dom (dom k)).bound = 2 ^ 64 - 1)) ∧ OnlyThread s w t)) ∧
    (∀ tn gd : Nat,
      let x := s.treg t tn
      let k := s.get F.thrStat_SLOT t
      (mine x.dom → (s.dom x.dom).st ≠ .off →
        ∃ u : State, exec (.twait t tn gd) s = .next u ∧ u.thrState t = 2 ∧ u.pc t = next % 2 ^ 21 ∧ (u.alarm k).st = .armed ∧
          (u.alarm k).kind = .dsqWake ∧ (u.alarm k).target = t ∧ (u.alarm k).dom = x.dom ∧ (u.alarm k).inst = x.t ∧
          (u.alarm k).fire = true ∧ (u.alarm k).period = 0 ∧ (u.alarm k).lateArm = decide ((x.t : Int) ≤ s.ticks x.dom) ∧
          ∀ (lat : Nat) (l st : Bool), let w := u.wakeThr t lat l st
            w.thrState t = 1 ∧ (gd % 32 ≠ 0 → w.g t gd = BitVec.ofNat 64 lat) ∧ w.flag t .l = l ∧ w.flag t .s = st ∧
              ∀ f : Flag, f ≠ .l → f ≠ .s → w.flag t f = s.flag t f) ∧
      (mine x.dom → (s.dom x.dom).st = .off → exec (.twait t tn gd) s = .next ((s.issued t).faultThr t 7 0 (s.pc t) 0)) ∧
      (¬ mine x.dom → exec (.twait t tn gd) s = .next ((s.issued t).faultThr t 4 0 (s.pc t) 0))) ∧
    (∀ (tn gd gs : Nat) (k : AlarmKind) (slot : Nat), gs ≠ 31 →
      let x := s.treg t tn
      let d := s.g t gs
      let kind := (BitVec.extractLsb' 0 8 d).toNat
      let target := (BitVec.extractLsb' 16 16 d).toNat
      let policy := (BitVec.extractLsb' 32 1 d).toNat
      let period := (s.g t (gs + 1)).toNat
      let past := s.isPast x.dom (storedInst k x.t)
      mine x.dom → s.legal 0x18 = true → s.kindRefused kind = false → armKind kind = some k → s.targetOk k target = true →
      period = 0 ∨ 26214400 ≤ period → (k = .evoEdge → evoLead ≤ x.t) → (s.dom x.dom).st ≠ .off → x.dom < 32 →
      s.targetDenied k target p = false → armFires k policy = true ∨ past = false →
      (if d.getLsbD 60 then s.freeSlot p = some slot
        else slot = (BitVec.extractLsb' 48 12 d).toNat ∧ 8 ≤ slot ∧
          (if s.slotHeld slot then s.slotPart slot = p else s.quotaLeft p = true)) →
      ∃ w : State, ReturnsStatus (.temit t tn gd gs) s w t next gd .ok slot ∧ (w.alarm slot).st = .armed ∧
        (w.alarm slot).dom = x.dom ∧ (w.alarm slot).inst = storedInst k x.t ∧ (w.alarm slot).kind = k ∧
        (w.alarm slot).target = target ∧ (w.alarm slot).period = period ∧ w.flag t .l = past)

/-- LD, LDW, ST and STW on data SRAM (R324, R325, R327): the addressed location alone is written, a load's word arrives in rd, a
misaligned address raises ALIGN and one that the thread does not reach ACCESS, with the address as their DATA; after a load the
thread's next instruction waits for its third cycle (R354), and an uncorrectable ECC error in the loaded word raises ECC (R340). -/
def Obligations.LoadsAndStoresReachDataSram : Prop :=
  ∀ (s : State) (t rd ra imm : Nat) (e : Bool), s.mayRun t (if e then 8 else 4) → s.getB F.thrStat_STOP_PEND t = false →
    tabGet none s.par.stalls (2 + t / 16) = none →
    let next := s.pc t + if e then 8 else 4
    let w := s.g t ra + immVal e imm
    let a := w.toNat
    let at' := 8 * (a / 8)
    let hit : Prop := s.thrReaches t at' = true ∧ inDsram at' = true
    let stored (i : Instr) (x : Word) : Prop := ∃ u : State, exec i s = .next u ∧ u.dword at' = x ∧
      (∀ b : Nat, inDsram b = true → b / 8 ≠ a / 8 → u.dword b = s.dword b) ∧ s.sameFlags u t ∧ (∀ r : Nat, u.g t r = s.g t r) ∧
      (∀ n : Nat, u.treg t n = s.treg t n) ∧ u.pc t = next % 2 ^ 21 ∧ u.thrState t = 1 ∧ u.tse = s.tse ∧ u.out = s.out ∧
      u.dsq.isram = s.dsq.isram
    let loaded (i : Instr) (x : Word) : Prop :=
      (s.dataEcc at' = 0 → ∃ u v : State, exec i s = .next u ∧ u.thrState t = 4 ∧ exec (.threadReplyArrive t) u = .next v ∧
        WroteG s v t next rd x ∧ s.sameFlags v t ∧ (v.thr t).cool = (s.eng (t / 16)).cyc + 3) ∧
      (s.dataEcc at' = 2 → exec i s = .next (((s.issued t).pulse 25 (s.thrPart t) t).faultThr t 6 0 (s.pc t) w))
    let fails (i : Instr) (cause : Nat) : Prop := exec i s = .next ((s.issued t).faultThr t cause 0 (s.pc t) w)
    let lo (x : Word) : BitVec 32 := BitVec.extractLsb' 0 32 x
    let hi (x : Word) : BitVec 32 := BitVec.extractLsb' 32 32 x
    (hit → a % 8 = 0 → stored (.st t rd ra e imm) (s.g t rd) ∧ loaded (.ld t rd ra e imm) (s.dword a) ∧
      stored (.stw t rd ra e imm) (hi (s.dword a) ++ lo (s.g t rd) : BitVec 64) ∧
      loaded (.ldw t rd ra e imm) (0#32 ++ lo (s.dword a) : BitVec 64)) ∧
    (hit → a % 8 = 4 → stored (.stw t rd ra e imm) (lo (s.g t rd) ++ lo (s.dword at') : BitVec 64) ∧
      loaded (.ldw t rd ra e imm) (0#32 ++ hi (s.dword at') : BitVec 64)) ∧
    (a % 8 ≠ 0 → fails (.ld t rd ra e imm) 3 ∧ fails (.st t rd ra e imm) 3) ∧
    (a % 4 ≠ 0 → fails (.ldw t rd ra e imm) 3 ∧ fails (.stw t rd ra e imm) 3) ∧
    (s.thrReaches t at' = false →
      (a % 8 = 0 → fails (.ld t rd ra e imm) 4 ∧ fails (.st t rd ra e imm) 4) ∧
      (a % 4 = 0 → fails (.ldw t rd ra e imm) 4 ∧ fails (.stw t rd ra e imm) 4))

/-- QPUT, QGET and QCNT (R329, R367) on a queue of the thread's partition on which no thread waits: with room a word goes in with
its end mark, with a whole item the oldest word comes out; else nb returns with V set, and without nb the thread waits. -/
def Obligations.QueueInstructionsMoveWords : Prop :=
  ∀ (s : State) (t g q : Nat) (fin nb : Bool), s.mayRun t 4 → q < 256 → (s.queue q).waiters = [] → (s.queue q).held = none →
    let next := s.pc t + 4
    let x := s.queue q
    let others (u : State) : Prop := (∀ k : Nat, k ≠ q → u.queue k = s.queue k) ∧ (∀ n : Nat, u.treg t n = s.treg t n) ∧
      u.dsq.dsram = s.dsq.dsram ∧ u.tse = s.tse ∧ u.out = s.out
    let waits (u : State) (put : Option (Word × Bool)) : Prop := u.thrState t = 3 ∧ u.pc t = next % 2 ^ 21 ∧
      (u.queue q).words = x.words ∧ ((u.queue q).waiters.map fun y => (y.thread, y.put)) = [(t, put)] ∧ s.sameFlags u t ∧ others u
    (s.get F.qCfg_PART q ≠ s.thrPart t →
      (s.storesPend t = false → exec (.qput t g q fin nb) s = .next ((s.issued t).faultThr t 4 0 (s.pc t) 0)) ∧
      exec (.qget t g q nb) s = .next ((s.issued t).faultThr t 4 0 (s.pc t) 0) ∧
      exec (.qcnt t g q) s = .next ((s.issued t).faultThr t 4 0 (s.pc t) 0)) ∧
    (s.get F.qCfg_PART q = s.thrPart t →
      (∃ u : State, exec (.qcnt t g q) s = .next u ∧ s.sameFlags u t ∧
        WroteG s u t next g (BitVec.ofNat 64 (x.words.filter (·.2)).length)) ∧
      (s.storesPend t = false → s.qCanPut q (.thread t) = true → ∃ u : State, exec (.qput t g q fin nb) s = .next u ∧
        (u.queue q).words = x.words ++ [(s.g t g, fin)] ∧ ((u.queue q).opn = none ↔ fin = true) ∧ s.setV u t false ∧
        u.thrState t = 1 ∧ u.pc t = next % 2 ^ 21 ∧ (∀ r : Nat, u.g t r = s.g t r) ∧ others u) ∧
      (s.storesPend t = false → s.qCanPut q (.thread t) = false → ∃ u : State, exec (.qput t g q fin nb) s = .next u ∧
        (nb = true → s.setV u t true ∧ WroteG s u t next 0 0) ∧ (nb = false → waits u (some (s.g t g, fin)))) ∧
      (s.qCanGet q (.thread t) = true → ∀ (y : Word) (last : Bool) (l : List (Word × Bool)), x.words = (y, last) :: l →
        ∃ u : State, exec (.qget t g q nb) s = .next u ∧ (g % 32 ≠ 0 → u.g t g = y) ∧ u.flag t .c = last ∧ u.flag t .v = false ∧
          (∀ f : Flag, f ≠ .c → f ≠ .v → u.flag t f = s.flag t f) ∧ (u.queue q).words = l ∧
          (u.queue q).claim = (if last then none else some (.thread t)) ∧ u.thrState t = 1 ∧ u.pc t = next % 2 ^ 21 ∧ others u) ∧
      (s.qCanGet q (.thread t) = false → ∃ u : State, exec (.qget t g q nb) s = .next u ∧
        (nb = true → u.flag t .v = true ∧ u.flag t .c = false ∧ WroteG s u t next g 0) ∧ (nb = false → waits u none)))

/-- Escrows (R96, R331, R332, R373, R374, R377, R378, R382): EBEGIN opens the lowest free one, EWR stages a write over an earlier one
of the same register, ECOMMIT accepts an immediate commit or arms one at an instant, EABORT discards, the host's commands do the
same; a commit whose write set holds a register that a later commit has written fails with ESCROW_CONFLICT at the lowest such
address and applies nothing; one with no staged writes applies with OK and leaves CSEQ as it is.
It rests on readings of the model: log entries 9 and 52. -/
def Obligations.EscrowsStageJudgeAndCommit : Prop :=
  (∀ (s : State) (t gd e : Nat), s.mayRun t 4 → s.getB F.thrStat_STOP_PEND t = false → e < 4 →
    let next := s.pc t + 4
    let p := s.thrPart t
    let k := 4 * p + e
    (s.legal 0x66 = true →
      ((s.escState k = 0 ∨ s.escState k = 3) → (∀ j < e, s.escState (4 * p + j) = 1 ∨ s.escState (4 * p + j) = 2) →
        ∃ w : State, ReturnsStatus (.ebegin t gd) s w t next gd .ok e ∧ w.escState k = 1 ∧ w.escStaged k = [] ∧
          w.rd .escSeq k = s.rd .dsqCseq) ∧
      ((∀ j < 4, s.escState (4 * p + j) = 1 ∨ s.escState (4 * p + j) = 2) →
        ∃ w : State, ReturnsStatus (.ebegin t gd) s w t next gd .busy 0 ∧ w.dsq.staged = s.dsq.staged ∧ w.tse = s.tse)) ∧
    (∀ ga gs : Nat, s.legal 0x67 = true → s.escIsOpen k = true →
      let a := (s.g t ga).toNat
      let x : Nat × Word × Bool := (a, s.g t gs, p == 0)
      let old := s.escStaged k
      a % 8 = 0 → s.thrReaches t a = true → s.stageable a = true →
      ((∃ y ∈ old, y.1 = a) → old.length ≤ 1024 → ∃ w : State, ReturnsStatus (.ewr t gd ga gs e) s w t next gd .ok old.length ∧
        w.escStaged k = old.map fun y => if y.1 = a then x else y) ∧
      ((∀ y ∈ old, y.1 ≠ a) → old.length < 1024 →
        ∃ w : State, ReturnsStatus (.ewr t gd ga gs e) s w t next gd .ok (old.length + 1) ∧ w.escStaged k = old ++ [x])) ∧
    (s.legal 0x68 = true → s.escIsOpen k = true → s.storesPend t = false → ∀ late : Bool,
      (∃ w : State, ReturnsStatus (.ecommit t gd e none late) s w t next gd .ok 0 ∧ w.tse.imm = s.tse.imm ++ [k] ∧
        w.escStaged k = s.escStaged k) ∧
      (∀ tn slot : Nat, let x := s.treg t tn
        x.dom < 32 → x.dom = 0 ∨ (s.dom x.dom).owner = p → (s.dom x.dom).st ≠ .off → s.freeSlot p = some slot →
        (late = true ∨ s.ticks x.dom < x.t → ∃ w : State, ReturnsStatus (.ecommit t gd e (some tn) late) s w t next gd .ok slot ∧
          w.escState k = 2 ∧ w.get F.escStat_SLOT k = slot ∧ (w.alarm slot).st = .armed ∧ (w.alarm slot).kind = .escrowCommit ∧
          (w.alarm slot).target = k ∧ (w.alarm slot).dom = x.dom ∧ (w.alarm slot).inst = x.t ∧ (w.alarm slot).period = 0) ∧
        (late = false → (x.t : Int) ≤ s.ticks x.dom →
          ∃ w : State, ReturnsStatus (.ecommit t gd e (some tn) late) s w t next gd .late 0 ∧ w.tse = s.tse ∧
            w.escState k = 1))) ∧
    (s.legal 0x69 = true →
      (s.escIsOpen k = true → ∃ w : State, ReturnsStatus (.eabort t gd e) s w t next gd .ok 0 ∧ w.escState k = 0 ∧
        w.escStaged k = []) ∧
      (s.escState k = 3 → ∃ w : State, ReturnsStatus (.eabort t gd e) s w t next gd .late 0 ∧ w.escState k = 3 ∧
        w.dsq.staged = s.dsq.staged))) ∧
  ((∀ (s : State) (c : Caller) (e : Nat), e < 4 → s.resetting (s.cPart c) = false →
    let p := s.cPart c
    let k := 4 * p + e
    (s.admits 0x66 = true → (s.escState k = 0 ∨ s.escState k = 3) →
      (∀ j < e, s.escState (4 * p + j) = 1 ∨ s.escState (4 * p + j) = 2) → ∃ u : State,
      exec (.escBegin c) s = .next (u.complete c 0x66 .ok [byte e]) ∧ u.escState k = 1 ∧ u.escStaged k = [] ∧
        u.rd .escSeq k = s.rd .dsqCseq) ∧
    (∀ (a : Nat) (w : Word), s.admits 0x67 = true → s.escIsOpen k = true → a % 8 = 0 → s.callerReaches c a = true →
      s.stageable a = true → (∀ y ∈ s.escStaged k, y.1 ≠ a) → (s.escStaged k).length < 1024 → ∃ u : State,
      exec (.escWrite c e a w) s = .next (u.complete c 0x67 .ok (beBytes 2 ((s.escStaged k).length + 1))) ∧
        u.escStaged k = s.escStaged k ++ [(a, w, s.stagesOwn c)] ∧ u.regs = s.regs) ∧
    (∀ late : Bool, s.admits 0x68 = true → s.escIsOpen k = true →
      exec (.escCommit c e none late) s =
        .next ({ s with tse := { s.tse with imm := s.tse.imm ++ [k] } }.complete c 0x68 .ok)) ∧
    (s.admits 0x69 = true → s.escIsOpen k = true → ∃ u : State, exec (.escAbort c e) s = .next (u.complete c 0x69 .ok) ∧
      u.escState k = 0 ∧ u.escStaged k = [] ∧ u.tse = s.tse)) ∧
  (∀ (s : State) (k : Nat) (l : List Nat), s.tse.due = [] → s.tse.imm = k :: l → k < 32 → s.escState k = 1 →
    let staged := s.escStaged k
    let late (y : Nat × Word × Bool) : Prop := (s.rd .escSeq k).toNat < tabGet 0 s.dsq.cseqOf y.1
    let word (status a : Nat) : Word := BitVec.ofNat 64 (status * 2 ^ 56 + k / 4 * 2 ^ 53 + k % 4 * 2 ^ 51 +
      staged.length % 2048 * 2 ^ 38 + a % 2 ^ 26)
    (∀ y ∈ staged, late y → (∀ z ∈ staged, late z → y.1 ≤ z.1) → ∃ u : State, exec .escrowImmediateCommit s = .next u ∧
      u.escState k = 3 ∧ u.rd .escLast k = word 12 y.1 ∧ u.rd .dsqCseq = s.rd .dsqCseq ∧ u.dsq.cseqOf = s.dsq.cseqOf ∧
      u.tse.doms = s.tse.doms ∧ u.tse.imm = l) ∧
    (staged = [] → ∃ u : State, exec .escrowImmediateCommit s = .next u ∧ u.escState k = 3 ∧ u.rd .escLast k = word 0 0 ∧
      u.rd .dsqCseq = s.rd .dsqCseq ∧ u.tse.doms = s.tse.doms ∧ u.tse.imm = l)))

/-- Branches, calls, returns, YIELD, HALT, TRAP and reserved words (R306, R333–R336): where each leaves PC, the flags and the thread;
a target that is no code of a loaded image raises FETCH.
It rests on readings of the model: log entries 18 and 19. -/
def Obligations.ControlInstructionsMovePc : Prop :=
  ∀ (s : State) (t : Nat),
    let goes (i : Instr) (target : Int) (rd : Nat) (link : Word) : Prop :=
      let ok : Prop := 0 ≤ target ∧ target < 2 ^ 21 ∧ target % 4 = 0 ∧ (s.imageAt (s.thrPart t) target.toNat).isSome = true
      (ok → ∃ u : State, exec i s = .next u ∧ WroteG s u t target.toNat rd link ∧ s.sameFlags u t) ∧
      (¬ ok → exec i s = .next ((s.issued t).faultThr t 2 0 (s.pc t) (BitVec.ofInt 64 target)))
    let z := s.flag t .z; let n := s.flag t .n; let cy := s.flag t .c; let v := s.flag t .v
    let conds : List Bool := [z, !z, n != v, n == v, !z && n == v, z || n != v, !cy, cy, n, !n, v, !v, s.flag t .l, !s.flag t .l,
      s.flag t .s, !s.flag t .s]
    (∀ (e : Bool) (off : Nat), s.mayRun t (if e then 8 else 4) →
      let size := if e then 8 else 4
      let target (w : Nat) : Int := if e then (off % 2 ^ 32 : Nat) else s.pc t + 4 * (BitVec.ofNat w off).toInt
      goes (.br t e off) (target 25) 0 0 ∧
      (∀ cond < 16, (conds.getD cond false = true → goes (.bcc t cond e off) (target 21) 0 0) ∧
        (conds.getD cond false = false → ∃ u : State, exec (.bcc t cond e off) s = .next u ∧ WroteG s u t (s.pc t + size) 0 0 ∧
          s.sameFlags u t)) ∧
      (∀ gl : Nat, goes (.call t gl e off) (target 20) gl (BitVec.ofNat 64 (s.pc t + size)))) ∧
    (s.mayRun t 4 →
      (∀ ga : Nat, goes (.ret t ga) ((s.g t ga).toNat % 2 ^ 21 : Nat) 0 0) ∧
      (let l := ((List.range 16).map (16 * (t / 16) + ·)).filter fun k => k != t && s.thrState k == 1
        ∃ u : State, exec (.yield t) s = .next u ∧ u.pc t = (s.pc t + 4) % 2 ^ 21 ∧ (u.thr t).yield = l ∧
          u.thrState t = (if l = [] then 1 else 5) ∧ s.sameFlags u t ∧ (∀ r : Nat, u.g t r = s.g t r) ∧
          (∀ k : Nat, u.treg t k = s.treg t k) ∧ OnlyThread s u t) ∧
      (let k := s.get F.thrStat_SLOT t
        ∃ u : State, exec (.halt t) s = .next u ∧ u.thrState t = 6 ∧ u.pc t = (s.pc t + 4) % 2 ^ 21 ∧ s.sameFlags u t ∧
          (∀ r : Nat, u.g t r = s.g t r) ∧ (8 ≤ k → (u.alarm k).pinned = false ∧
            ((s.alarm k).pinned = true → s.isDue k = false → (u.alarm k).st ≠ .armed)) ∧ u.tse.doms = s.tse.doms ∧
          ∀ q : Nat, (u.queue q).claim ≠ some (.thread t) ∧ (∀ n : Nat, (u.queue q).opn ≠ some (.thread t, n)) ∧
            ((s.queue q).opn = none → (s.queue q).claim ≠ some (.thread t) →
              (∀ w ∈ (s.queue q).waiters, w.thread ≠ t) → u.queue q = s.queue q)) ∧
      (∀ code : Nat, exec (.trap t code) s = .next ((s.issued t).faultThr t 8 (code % 65536) (s.pc t) 0)) ∧
      exec (.illegalInstruction t) s = .next ((s.issued t).faultThr t 1 0 (s.pc t) 0))

/-- A thread that raises an exception (R340, R360–R362), as an uncorrectable ECC error in the word at its PC or an extension word
beyond its image's code makes it do, is FAULTED with its registers and flags as they were, its words E0 and E1
recorded and, where the partition's exception queue is enabled and has room, posted there; THREAD_FAULT is live for the partition,
and no queue holds an open item, a claim or a place of the thread. -/
def Obligations.ExceptionsAreRecorded : Prop :=
  ∀ (s : State) (t cause code pc : Nat) (data : Word), t < 128 → cause < 256 → code < 2 ^ 16 → pc < 2 ^ 21 →
    let u := s.faultThr t cause code pc data
    let p := s.thrPart t
    let q := s.get F.dsqNotify_EXC_Q p
    let e0 : Word := BitVec.ofNat 64 (cause * 2 ^ 56 + t * 2 ^ 48 + code * 2 ^ 32 + pc)
    u.thrState t = 7 ∧ u.rd .thrExc t = e0 ∧ u.rd .thrExcData t = data ∧ u.pc t = pc ∧ s.sameFlags u t ∧
    (∀ r : Nat, u.g t r = s.g t r) ∧ (∀ n : Nat, u.treg t n = s.treg t n) ∧ bitOf (u.liveOf 24) p = true ∧
    (∀ k : Nat, (u.queue k).claim ≠ some (.thread t) ∧ (∀ n : Nat, (u.queue k).opn ≠ some (.thread t, n)) ∧
      ∀ w ∈ (u.queue k).waiters, w.thread ≠ t) ∧
    (s.getB F.dsqNotify_EXC_EN p = true → s.getB F.qCfg_EN q = true → (s.queue q).opn = none → (s.queue q).held = none →
      (s.queue q).claim ≠ some (.thread t) → (s.queue q).words.length + 2 ≤ 2 ^ s.get F.qCfg_DEPTH q →
      (u.queue q).words = (s.queue q).words ++ [(e0, false), (data, true)]) ∧
    u.dsq.staged = s.dsq.staged ∧ u.tse.imm = s.tse.imm ∧ u.tse.doms = s.tse.doms ∧
    (s.thrState t = 1 → s.fetchEcc t 4 = 2 → exec (.halt t) s = .next ((s.issued t).eccFault t (s.pc t))) ∧
    (s.thrState t = 1 → s.fetchEcc t 8 = 0 → (∀ i : Image, s.imageAt p (s.pc t) = some i → i.codeBase + i.codeLen ≤ s.pc t + 4) →
      ∀ rd imm : Nat, exec (.li t rd true imm) s =
        .next ((s.issued t).faultThr t 2 0 (s.pc t) (BitVec.ofNat 64 (s.pc t + 4))))

/-- An engine's cycle (R304, R305, R350–R352): the partition chosen is the lowest of those below their minimum, else the one of
highest credit after each ready partition's weight is added, the lower number of equals, weight 0 only where no other is ready; of
it the ready thread after the one it last issued issues the word at its PC with the word after it; a thread with a sample request
gives its slot to the capture (R380). Nothing else changes; where no thread may issue, nothing does. -/
def Obligations.EnginesIssueByShare : Prop :=
  (∀ (a : Arb) (window : Nat) (min weight : Nat → Nat) (ready : Nat → Bool),
    let below (p : Nat) : Prop := ready p = true ∧ (a.hist.take window).count p < min p
    let sum : Int := (((List.range 8).filter ready).map fun p => (weight p : Int)).sum
    let credit (p : Nat) : Int := if ready p then tabGet 0 a.credit p + weight p else 0
    let cand (p : Nat) : Prop := ready p = true ∧ (0 < weight p ∨ ∀ q < 8, ready q = true → weight q = 0)
    let b := (a.pick window min weight ready).2
    ((∀ p < 8, ready p = false) → (a.pick window min weight ready).1 = none) ∧
    (∀ p < 8, below p → (∀ q < p, ¬ below q) → (a.pick window min weight ready).1 = some p ∧
      tabGet 0 b.credit p = tabGet 0 a.credit p - sum ∧
      ∀ q < 8, q ≠ p → tabGet 0 b.credit q = if ready q then tabGet 0 a.credit q else 0) ∧
    ((∀ q < 8, ¬ below q) → ∀ p < 8, cand p → (∀ q < 8, cand q → credit q ≤ credit p) → (∀ q < p, cand q → credit q < credit p) →
      (a.pick window min weight ready).1 = some p ∧ tabGet 0 b.credit p = credit p - sum ∧
      ∀ q < 8, q ≠ p → tabGet 0 b.credit q = credit q)) ∧
  (∀ (s : State) (e : Nat), e < 8 → s.cpx.inReset = false → bitOf (s.rd .pwrEn).toNat e = true →
    let ts := (List.range 16).map (16 * e + ·)
    let s1 := ts.foldl (fun s t => s.yieldRelease t) (s.setEng e { s.eng e with cyc := (s.eng e).cyc + 1 })
    let choice := ((s.eng e).arb.pick 256 (fun p => s.get F.dsqShare_MIN p) (fun p => s.get F.dsqShare_WEIGHT p)
      fun p => (s1.nextThr e p).isSome).1
    let same (w : State) : Prop := w.regs = s1.regs ∧ w.tse = s1.tse ∧ w.dsq.thr = s1.dsq.thr ∧ w.dsq.queues = s1.dsq.queues ∧
      w.dsq.isram = s1.dsq.isram ∧ w.dsq.dsram = s1.dsq.dsram ∧ w.dsq.samples = s1.dsq.samples ∧ w.par = s1.par ∧ w.out = s1.out
    let may (t : Nat) : Prop := s1.canIssue t = true
    (choice = none → ∃ u : State, exec (.engineIssueCycle e) s = .next u ∧ same u) ∧
    (∀ p : Nat, choice = some p → ∃ t : Nat, t / 16 = e ∧ s1.thrPart t = p ∧ may t ∧
      (∀ k : Nat, k / 16 = e → s1.thrPart k = p → may k → tabGet 0 (s.eng e).last p ≤ k → tabGet 0 (s.eng e).last p ≤ t ∧ t ≤ k) ∧
      let a := 4096 * s.get F.dsqIwin_BASE p + s1.pc t
      let d := decodeIns (s1.pc t) (tabGet 0 s.dsq.isram (a / 4)) (tabGet 0 s.dsq.isram ((a + 4) / 4))
      ∃ w : State, same w ∧ tabGet 0 (w.eng e).last p = t + 1 ∧
        ((∀ x ∈ s.dsq.samples, x.thread ≠ t) → exec (.engineIssueCycle e) s = .next (w.issue t d.2 d.1)) ∧
        (∀ x : SampleReq, s.dsq.samples.find? (fun x => x.thread == t) = some x →
          exec (.engineIssueCycle e) s = .next ({ w with dsq := { w.dsq with samples := w.dsq.samples.erase x } }.samplePost x))))

/-- The thread and image commands, the rows that make a thread ready, and a sample's capture complete (R301, R345, R355, R368, R380,
R381).
It rests on readings of the model: log entries 19 and 62. -/
def Obligations.ThreadCommandsComplete : Prop :=
  ∀ (s : State) (c : Caller) (t : Nat), t < 128 →
    let p := s.thrPart t
    let mine : Prop := (s.cPt0 c = true ∨ s.cPart c = p) ∧ s.resetting p = false
    let kept (u : State) : Prop := s.sameFlags u t ∧ (∀ r : Nat, u.g t r = s.g t r) ∧ ∀ n : Nat, u.treg t n = s.treg t n
    (∀ off k : Nat, mine → s.admits 0x62 = true → s.codeOk p off = true → off < 2 ^ 21 → s.isStarted t = false →
      s.freeSlot p = some k → ∃ u : State, exec (.thrStart c t off) s = .next ((u.threadFault t).complete c 0x62 .ok) ∧
        u.thrState t = 1 ∧ u.pc t = off ∧ (∀ r : Nat, u.g t r = 0) ∧
        (∀ n : Nat, u.treg t n = { t := 0, dom := 0, b := 2 ^ 64 - 1 }) ∧ (∀ f : Flag, u.flag t f = false) ∧
        u.get F.thrStat_SLOT t = k ∧ (u.alarm k).pinned = true ∧ (u.alarm k).part = p) ∧
    (mine → s.admits 0x63 = true →
      (s.thrState t = 0 ∨ s.thrState t = 6 ∨ s.thrState t = 7 → exec (.thrStop c t) s = .next (s.complete c 0x63 .ok)) ∧
      (s.thrState t = 4 → ∃ u : State, exec (.thrStop c t) s = .next (u.complete c 0x63 .ok) ∧ u.thrState t = 4 ∧
        u.getB F.thrStat_STOP_PEND t = true ∧ kept u) ∧
      (s.thrState t = 1 ∨ s.thrState t = 2 ∨ s.thrState t = 3 ∨ s.thrState t = 5 →
        ∃ u : State, exec (.thrStop c t) s = .next (u.complete c 0x63 .ok) ∧ u.thrState t = 6 ∧ u.pc t = s.pc t ∧ kept u)) ∧
    (∀ pc k : Nat, mine → s.admits 0x64 = true → s.thrState t = 6 ∨ s.thrState t = 7 → s.freeSlot p = some k →
      let at' := if pc = 0xffffffff then s.pc t else pc
      s.codeOk p at' = true → at' < 2 ^ 21 →
      ∃ u : State, exec (.thrResume c t pc) s = .next ((u.threadFault t).complete c 0x64 .ok) ∧ u.thrState t = 1 ∧ u.pc t = at' ∧
        u.get F.thrStat_SLOT t = k ∧ kept u) ∧
    (∀ b : List Byte, s.admits 0x60 = true → drvForm b = true → s.cPt0 c = true ∨ s.cPart c = drvPart b →
      (drvPriv b = true → drvPart b = 0) → s.resetting (drvPart b) = false → firstFail (s.drvChecks b) = none →
      ∃ u : State, exec (.drvLoad c b) s = .next ((u.autostart (drvImage b false)).complete c 0x60 .ok) ∧
        drvImage b false ∈ u.dsq.images ∧
        (∀ i < drvCodeLen b / 4, u.iword (4096 * s.get F.dsqIwin_BASE (drvPart b) + drvCodeBase b + 4 * i) =
          beNat ((b.drop (256 + 4 * i)).take 4)) ∧
        (∀ i < drvDataLen b / 8, u.dword (drvDataBase b + 8 * i) =
          BitVec.ofNat 64 (beNat ((b.drop (256 + drvCodeLen b + 8 * i)).take 8))) ∧
        (∀ i < drvBssLen b / 8, u.dword (drvDataBase b + drvDataLen b + 8 * i) = 0)) ∧
    (∀ part base : Nat, s.admits 0x61 = true → part < 8 → s.cPt0 c = true ∨ s.cPart c = part → s.resetting part = false →
      (∃ i ∈ s.dsq.images, i.part = part ∧ i.codeBase = base) →
      (∀ i ∈ s.dsq.images, i.part = part → i.codeBase = base → s.imageBusy i = false) →
      ∃ u : State, exec (.drvUnload c part base) s = .next (u.complete c 0x61 .ok) ∧ u.regs = s.regs ∧
        ∀ i : Image, i ∈ u.dsq.images ↔ i ∈ s.dsq.images ∧ ¬ (i.part = part ∧ i.codeBase = base)) ∧
    (s.thrState t = 5 → (s.thr t).yield = [] → ∃ u : State, exec (.yieldRelease t) s = .next u ∧ u.thrState t = 1 ∧ kept u) ∧
    (∀ (g : List (Nat × Word)) (tr : List (Nat × TReg)) (fl : Nat), s.thrState t = 4 → (s.thr t).await = .result g tr fl →
      ∃ u : State, exec (.threadReplyArrive t) s = .next u ∧
        u.thrState t = (if s.getB F.thrStat_STOP_PEND t then 6 else 1) ∧ u.get F.thrStat_FLAGS t = fl % 64 ∧
        (∀ r < 32, (∀ e ∈ g, e.1 % 32 ≠ r) → u.g t r = s.g t r)) ∧
    (∀ (q : Nat) (y : Word) (l : List (Word × Bool)) (w : QWait), q < 256 → (s.queue q).waiters = [w] → w.put = none →
      w.thread = t → (s.queue q).claim = none → (s.queue q).words = (y, true) :: l → (s.queue q).held = none →
      ∃ u : State, exec (.queueWaitWake q) s = .next u ∧ u.thrState t = 1 ∧ (u.queue q).words = l ∧ (u.queue q).waiters = [] ∧
        u.flag t .c = true ∧ u.flag t .v = false ∧ ((s.thr t).gd % 32 ≠ 0 → u.g t (s.thr t).gd = y)) ∧
    (∀ x : SampleReq, s.dsq.samples.find? (fun x => x.thread == t) = some x → s.thrState t = 1 → s.pc t < 2 ^ 21 → x.bank < 256 →
      let q := s.get F.dsqNotify_SMP_Q p
      s.getB F.dsqNotify_SMP_EN p = true → s.getB F.qCfg_EN q = true → (s.queue q).opn = none → (s.queue q).held = none →
      (s.queue q).words.length + 2 ≤ 2 ^ s.get F.qCfg_DEPTH q →
      ∃ u : State, exec (.dsqSampleCapture t) s = .next u ∧ (u.queue q).words = (s.queue q).words ++
        [(BitVec.ofNat 64 (min x.issued 7 * 2 ^ 61 + t * 2 ^ 54 + x.bank * 2 ^ 46 + 1 * 2 ^ 43 + s.pc t), false),
          (BitVec.ofNat 64 x.ticks, true)])

/-- PCMD and KMAC (R337, R339): an admitted opcode with its block in the thread's data range waits for the command, whose completion
is written over the block and whose status goes to gd; KMAC starts under its slot's key or returns the first failing status.
It rests on readings of the model: log entries 25 and 44. -/
def Obligations.PrivilegedInstructionsComplete : Prop :=
  ∀ (s : State) (t gd : Nat), s.mayRun t 4 → s.getB F.thrStat_STOP_PEND t = false →
    let next := s.pc t + 4
    let p := s.thrPart t
    let base := 0x2400000 + 4096 * s.get F.dsqDwin_BASE p
    let size := 4096 * s.get F.dsqDwin_SIZE p
    (∀ ga cmd : Nat, s.storesPend t = false →
      let a := (s.g t ga).toNat
      (pcmdAdmits cmd = true → base ≤ a → a + pcmdLen cmd ≤ base + size →
        ∃ u : State, exec (.pcmd t gd ga cmd) s = .next u ∧ u.thrState t = 4 ∧ u.pc t = next % 2 ^ 21 ∧
          exec (.threadReplyArrive t) u = .next u ∧
          ∀ (st : Status) (r : List Byte), cmd ≠ 0x81 → a + r.length ≤ base + size →
            ∃ w : State, exec (.threadReplyArrive t) (u.replyThread t st r) = .next w ∧ w.thrState t = 1 ∧
              (gd % 32 ≠ 0 → w.g t gd = BitVec.ofNat 64 (st.code * 2 ^ 56)) ∧ w.flag t .z = decide (st = .ok) ∧
              ∀ i < r.length, w.dbyte (a + i) = r.getD i 0) ∧
      (pcmdAdmits cmd = false ∨ a < base ∨ base + size < a + pcmdLen cmd →
        ∃ w : State, ReturnsStatus (.pcmd t gd ga cmd) s w t next gd .badArg 0 ∧ w.dsq.dsram = s.dsq.dsram)) ∧
    (∀ ga gb : Nat, gd < 30 →
      let a := (s.g t ga).toNat
      let v := (BitVec.extractLsb' 0 8 (s.g t gb)).toNat
      let len := (BitVec.extractLsb' 16 13 (s.g t gb)).toNat
      let usable : Prop := s.keyUsable v p attrDsq = true ∧ s.kvcOk = true
      let aes : Prop := s.get F.vsCfg_TYPE v = tyAes128 ∨ s.get F.vsCfg_TYPE v = tyAes256
      (s.vsPart v ≠ p → ∃ w : State, ReturnsStatus (.kmac t gd ga gb) s w t next gd .partitionDenied 0 ∧ w.kvc = s.kvc) ∧
      (s.vsPart v = p → ¬ usable → ∃ w : State, ReturnsStatus (.kmac t gd ga gb) s w t next gd .noKey 0 ∧ w.kvc = s.kvc) ∧
      (s.vsPart v = p → usable → ¬ aes ∨ len = 0 ∨ 4096 < len ∨ a < base ∨ base + size < a + len →
        ∃ w : State, ReturnsStatus (.kmac t gd ga gb) s w t next gd .badArg 0 ∧ w.kvc = s.kvc) ∧
      (s.vsPart v = p → usable → aes → 1 ≤ len → len ≤ 4096 → base ≤ a → a + len ≤ base + size →
        ∃ u : State, exec (.kmac t gd ga gb) s = .next (u.keyOpStart v (.kmac t gd (s.dbytes a len))) ∧ u.thrState t = 4 ∧
          u.kvc = s.kvc ∧ u.pc t = next % 2 ^ 21 ∧
          ∀ tag < 2 ^ 128, ∃ w : State, exec (.threadReplyArrive t) (u.kmacReply t gd .ok tag) = .next w ∧ w.thrState t = 1 ∧
            w.g t (gd + 1) = BitVec.ofNat 64 (tag / 2 ^ 64) ∧ w.g t (gd + 2) = BitVec.ofNat 64 tag)) ∧
    (∀ ga gb : Nat, 29 < gd → exec (.kmac t gd ga gb) s = .next ((s.issued t).faultThr t 1 0 (s.pc t) 0))

/-- The NPA commands complete with OK (R406, R417, R425, R426, R429, R432, R433): what each leaves.
It rests on readings of the model: log entries 27, 45 and 46. -/
def Obligations.PortCommandsComplete : Prop :=
  ∀ (s : State) (c : Caller),
    (∀ (oct : Nat) (lm fec : List Nat), s.admitsOwner c 0xd0 = true → oct < 8 → octOk lm fec = true →
      (∀ k < 8, s.getB F.portCfg_EN (8 * oct + k) = false ∧ s.get F.portCfg_ROLE (8 * oct + k) = 0) →
      ∃ u : State, exec (.octCfg c oct lm fec) s = .next (u.complete c 0xd0 .ok) ∧
        ∀ k < 8, u.laneMode (8 * oct + k) = lm.getD k 0 ∧ u.laneFec (8 * oct + k) = fec.getD k 0 ∧
          u.getB F.laneStat_PCS_LOCK (8 * oct + k) = false ∧ u.getB F.laneStat_DLM_VALID (8 * oct + k) = false) ∧
    (∀ a b dom trailer skip xport : Nat, s.admitsOwner c 0xd1 = true → s.leads a = true → s.leads b = true → a ≠ b →
      trailer < 2 → skip < 2 → xport < 2 → s.laneMode a = s.laneMode b → 1 ≤ s.laneMode a → s.laneMode a ≤ 3 →
      s.get F.portCfg_PART b = s.get F.portCfg_PART a → s.resetting (s.get F.portCfg_PART a) = false → s.get F.portCfg_ROLE a = 0 → s.get F.portCfg_ROLE b = 0 →
      dom = 0 ∨ dom < 32 ∧ (s.dom dom).st ≠ .off ∧ (s.dom dom).owner = s.get F.portCfg_PART a →
      (s.nport a).resv = [] → (s.nport b).resv = [] →
      ∃ u : State, exec (.pairSet c a b dom trailer skip xport) s = .next ((u.refreshAll [28, 30]).complete c 0xd1 .ok) ∧
        ∀ p q : Nat, (p = a ∧ q = b) ∨ (p = b ∧ q = a) → u.getB F.pairCfg_ACTIVE p = true ∧ u.get F.pairCfg_PARTNER p = q ∧
          u.get F.portCfg_ROLE p = 1 ∧ u.get F.portCfg_DOMAIN p = dom ∧ u.get F.pairCfg_TRAILER p = trailer ∧
          u.get F.pairCfg_SKIP_LL p = skip ∧ u.get F.pairCfg_EXPORT p = xport) ∧
    (∀ a : Nat, s.admitsOwner c 0xd2 = true → s.leads a = true → s.getB F.pairCfg_ACTIVE a = true →
      s.resetting (s.get F.portCfg_PART a) = false →
      ∃ u : State, exec (.pairClear c a) s = .next ((u.refreshAll [28, 30]).complete c 0xd2 .ok) ∧
        ∀ p : Nat, p = a ∨ p = s.get F.pairCfg_PARTNER a → u.getB F.pairCfg_ACTIVE p = false ∧ u.get F.portCfg_ROLE p = 0 ∧
          u.get F.portCfg_DOMAIN p = s.get F.portCfg_DOMAIN p) ∧
    (∀ dst etype flush : Nat, s.admitsOwner c 0xd3 = true → dst < 2 ^ 48 → etype < 2 ^ 16 → 10 ≤ flush → flush ≤ 10000 →
      s.getB F.npaExpCfg_EN = false ∨ (s.npa.recs = [] ∧ s.txq (s.get F.npaExpCfg_PORT) 2 = []) →
      let sets (u : State) : Prop := u.get F.npaExpCfg_ETYPE = etype ∧ u.get F.npaExpCfg_FLUSH = flush ∧
        u.get F.npaExpDst_DST = dst
      (∃ u : State, exec (.exportSet c 0xff dst etype flush) s = .next ((u.refreshAll [28, 30]).complete c 0xd3 .ok) ∧ sets u ∧
        u.getB F.npaExpCfg_EN = false ∧ u.get F.npaExpRate_RATE = 0) ∧
      (∀ p < 64, 1 ≤ s.laneMode p → s.laneMode p ≤ 3 → s.get F.portCfg_ROLE p ≠ 1 → s.resetting (s.get F.portCfg_PART p) = false →
        ∃ u : State, exec (.exportSet c p dst etype flush) s = .next ((u.refreshAll [28, 30]).complete c 0xd3 .ok) ∧ sets u ∧
          u.getB F.npaExpCfg_EN = true ∧ u.get F.npaExpCfg_PORT = p ∧ u.get F.portCfg_ROLE p = 2 ∧ u.get F.portCfg_PART p = 0 ∧
          u.get F.npaExpRate_RATE = [78894, 157788, 315576].getD (s.laneMode p - 1) 0)) ∧
    (∀ (p q opp : Nat) (frame : List Byte) (ts : Option Nat) (t : TimeVal), s.admits 0xd4 = true → s.leads p = true →
      s.cPart c = s.get F.portCfg_PART p → s.resetting (s.get F.portCfg_PART p) = false → s.get F.portCfg_ROLE p = 0 →
      60 ≤ frame.length → frame.length ≤ 1514 →
      (q = 0 ∨ q = 1 ∨ q = 3 ∨ q = 4 → ∃ (u : State) (x : TxFrame),
        exec (.portSend c p q frame ts 0 0xffff 0xffff 0xffff none opp) s = .next (u.complete c 0xd4 .ok) ∧
        u.txq p q = s.txq p q ++ [x] ∧ x.bytes = frame ∧ x.tsReq = ts.map (· % 2 ^ 16) ∧ x.insert = 0 ∧ u.regs = s.regs) ∧
      (let now := s.ticks (s.get F.portCfg_DOMAIN p)
       tvOk t = true → now < tvTicks t → (tvTicks t : Int) ≤ now + 10 ^ 6 * 2 ^ 18 → (s.nport p).resv.length < 64 →
        ∃ (u : State) (r : Resv), exec (.portSend c p q frame ts 0 0xffff 0xffff 0xffff (some t) opp) s = .next u ∧
          (u.nport p).resv.length = (s.nport p).resv.length + 1 ∧ r ∈ (u.nport p).resv ∧ (tvTicks t : Int) ≤ r.tL ∧
          r.caller = some c ∧ (r.frame.map (·.bytes)) = some frame ∧ u.regs = s.regs ∧ u.out = s.out))

/-- A port's stamps (R396, R399, R400): the domain's value at the start of the cycle and, scaled by the domain's rate, the position in
it with the correction, calibration and delay of its direction; the bound is the domain's with 78,644 ticks and the port's
allowance, UNBOUNDED where a term or the sum is, without STAMP_OK, and for a domain of another partition. -/
def Obligations.StampsAreCorrected : Prop :=
  ∀ (s : State) (p delta : Nat),
    let d := s.get F.portCfg_DOMAIN p
    let scaled (x : Int) : ℚ := s.startTicks d + (x : ℚ) * (2 ^ 56 + s.domRate d) / 2 ^ 56
    let rx : Int := delta - (corrTable (s.laneMode p) (s.laneFec p)).1 - s.getI F.laneCal_RX_CAL p - s.getI F.portRxDelay_DELAY p
    let tx : Int := delta + (corrTable (s.laneMode p) (s.laneFec p)).2 + s.getI F.laneCal_TX_CAL p + s.getI F.portTxDelay_DELAY p
    let sum := (s.dom d).bound + 78644 + s.get F.portAllow_ALLOW p
    let unb : Prop := (s.dom d).bound = 2 ^ 64 - 1 ∨ s.get F.portAllow_ALLOW p = 2 ^ 64 - 1 ∨ 2 ^ 64 - 2 < sum ∨
      s.getB F.portStat_STAMP_OK p = false ∨ (d ≠ 0 ∧ ((s.dom d).st = .off ∨ (s.dom d).owner ≠ s.get F.portCfg_PART p))
    |(s.rxStamp p delta : ℚ) - scaled rx| ≤ 1 / 2 ∧ |(s.txStamp p delta : ℚ) - scaled tx| ≤ 1 / 2 ∧
    (unb → s.stampBound p = 2 ^ 64 - 1) ∧ (¬ unb → s.stampBound p = sum)

/-- Frames and links (R394, R399, R407, R408, R418–R423, R430, R431): a frame at a pair's ingress takes the next sequence and leaves
with its trailer, or without one and counted for the first reason that applies; a queue's frame, a launch and a pair's egress send
at their turn; links and their latency measurements show in the lanes.
It rests on readings of the model: log entries 27 and 56. -/
def Obligations.FramesAndLinksMove : Prop :=
  ∀ (s : State) (p : Nat),
    (∀ (delta gap : Nat) (f : List Byte) (bad : Bool), s.leads p = true → s.portsRun = true → s.getB F.pairCfg_ACTIVE p = true →
      s.getB F.portStat_LINK p = true → 0 ≤ s.rxStamp p delta → s.rxStamp p delta < 2 ^ 48 * Config.secTicks →
      let t := (s.rxStamp p delta).toNat
      let e := s.get F.pairCfg_PARTNER p
      let len := f.length + 4
      let seq := (s.nport p).seq
      let fl := s.stampFlags p (s.stampBound p)
      let b (x : Bool) (k : Nat) : Nat := if x then k else 0
      let trailer (x : Bool) : List Byte := [byte (16 + b fl.1 8 + b fl.2.1 4 + b fl.2.2 2 + b x 1), byte (p % 64)] ++ beBytes 2 seq ++
        beBytes 4 (t / (10 ^ 9 * 2 ^ 18) % 2 ^ 32) ++ beBytes 4 (t / 2 ^ 18 % 10 ^ 9 * 4 + t % 2 ^ 18 / 2 ^ 16) ++
        beBytes 2 (t % 2 ^ 16) ++ beBytes 2 (ecode (s.stampBound p))
      let linkLocal : Prop := s.getB F.pairCfg_SKIP_LL p = true ∧ fnum f 0 5 = 0x0180c20000 ∧ fb f 5 < 16
      let row : Nat := if bad then 55 else if len < 64 ∨ s.get F.portCfg_MAX_FRAME e < len + 16 then 53
        else if linkLocal then 54 else if gap < 36 then 52 else 51
      let ins := s.getB F.pairCfg_TRAILER p && row == 51
      ∃ (u : State) (x : Bool), exec (.passFrameRx p delta f bad gap) s = .next u ∧ (s.getB F.pairCfg_EXPORT p = false → x = false) ∧
        (u.nport p).seq = (seq + 1) % 65536 ∧
        (u.nport e).flight = (s.nport e).flight ++ [(if ins then f ++ trailer x else f, bad)] ∧
        (s.getB F.pairCfg_TRAILER p = true → .port p row 1 ∈ u.sup.bumps)) ∧
    (∀ (f : List Byte) (bad : Bool) (l : List (List Byte × Bool)), (s.nport p).flight = (f, bad) :: l →
      ∃ u : State, exec (.passFrameForward p) s = .next u ∧ (u.nport p).flight = l ∧
        (s.getB F.portStat_LINK p = true → u.out = .frame p f bad :: s.out) ∧
        (s.getB F.portStat_LINK p = false → .port p 48 1 ∈ u.sup.bumps)) ∧
    (∀ (delta q : Nat) (x : TxFrame) (l : List TxFrame), s.leads p = true → s.portsRun = true → s.getB F.portCfg_EN p = true →
      s.getB F.portStat_LINK p = true → s.get F.portCfg_ROLE p ≠ 1 → q < 8 → s.txq p q = x :: l →
      (∀ k < 8, q < k → s.txq p k = []) → x.insert = 0 → x.tsReq = none → x.xc = none →
      (∀ r ∈ (s.nport p).resv.head?, s.txStamp p delta + s.frameTicks p x.bytes.length ≤ r.tL) →
      ∃ u : State, exec (.frameTx p delta) s = .next u ∧ u.out = .frame p x.bytes false :: s.out ∧ u.txq p q = l ∧
        ∀ k : Nat, k ≠ q → u.txq p k = s.txq p k) ∧
    (∀ (delta : Nat) (r : Resv) (l : List Resv), (s.nport p).resv = r :: l →
      let v := s.setNport p { s.nport p with resv := l }
      let t := s.txStamp p delta
      let meets (x : TxFrame) : Prop := s.getB F.portStat_LINK p = true ∧ s.getB F.portCfg_EN p = true ∧ s.portsRun = true ∧
        (t - r.tL).natAbs ≤ 1 ∧ r.arrived + 125 ≤ s.tse.cyc ∧ r.frame = some x
      (∀ x : TxFrame, meets x → exec (.launchOpportunity p delta) s = .next ((v.sendFrame p x r.tL true).launchDone p r true)) ∧
      ((∀ x : TxFrame, ¬ meets x) → exec (.launchOpportunity p delta) s =
        .next (((v.cnt p 49 1).pulse 33 (s.get F.portCfg_PART p) p).launchDone p r false))) ∧
    (∀ lane < 64, s.leadOf lane = some p →
      (s.mode.up = true → ∃ u : State, exec (.portLinkUp lane) s = .next (u.refreshAll [28, 30]) ∧
        u.getB F.laneStat_PCS_LOCK lane = true ∧ u.getB F.laneStat_SIGNAL lane = true ∧ u.getB F.laneStat_DLM_VALID lane = false ∧
        (u.getB F.portStat_LINK p = true ↔ ∀ l ∈ s.portLanes p, l = lane ∨ s.getB F.laneStat_PCS_LOCK l = true)) ∧
      (∃ u : State, exec (.portLinkDown lane) s = .next (u.refreshAll [28, 30]) ∧ u.getB F.laneStat_PCS_LOCK lane = false ∧
        u.getB F.portStat_LINK p = false ∧ (s.getB F.portStat_LINK p = true → u.getB F.portStat_DOWN_SEEN p = true)) ∧
      (∀ (done : Bool) (rx tx : Int), s.getB F.laneStat_PCS_LOCK lane = true →
        let near : Prop := ∀ r t : Int, tabGet none s.npa.dlm lane = some (r, t) → (rx - r).natAbs ≤ 52429 ∧ (tx - t).natAbs ≤ 52429
        (done = true → near → ∃ u : State, exec (.dlmMeasure lane done rx tx) s = .next (u.refresh 30) ∧
          u.getB F.laneStat_DLM_VALID lane = true ∧
          ((Config.laneFuse lane (s.laneMode p) false + rx).natAbs < 2 ^ 31 →
            u.getI F.laneCal_RX_CAL lane = Config.laneFuse lane (s.laneMode p) false + rx)) ∧
        (done = false ∨ ¬ near → ∃ u : State, exec (.dlmMeasure lane done rx tx) s = .next (u.refresh 30) ∧
          u.getB F.laneStat_DLM_FAILED lane = true ∧ u.rd .laneCal lane = s.rd .laneCal lane)) ∧
      exec (.fecUncorr lane) s = .next ((s.cnt p 24 1).pulse 31 (s.get F.portCfg_PART p) p)) ∧
    (s.tse.cyc < s.npa.recAt + 125 * s.get F.npaExpCfg_FLUSH → exec .exportFlush s = .next s) ∧
    (s.npa.recs ≠ [] → s.npa.recAt + 125 * s.get F.npaExpCfg_FLUSH ≤ s.tse.cyc →
      ∃ (u : State) (x : TxFrame), exec .exportFlush s = .next u ∧ u.npa.recs = [] ∧
      u.txq (s.get F.npaExpCfg_PORT) 2 = s.txq (s.get F.npaExpCfg_PORT) 2 ++ [x] ∧ (x.bytes.drop 30) = s.npa.recs.flatten ∧
      (x.bytes.drop 16).take 2 = beBytes 2 s.npa.recs.length ∧ (x.bytes.drop 18).take 4 = beBytes 4 (s.get F.npaExpStat_SEQ) ∧
      u.get F.npaExpStat_SEQ = (s.get F.npaExpStat_SEQ + 1) % 2 ^ 32)

/-- The stamp ledger (R439, R444, R449, R451–R457): its commands, the frame digest as a polynomial over 2^64 − 59, the sealing of the
oldest closed page into its ring with PREV_TAG and TAG, and a due checkpoint.
It rests on readings of the model: log entry 57. -/
def Obligations.LedgerPagesAreSealed : Prop :=
  (∀ (key m : List Byte), key.length = 16 →
    let P : Nat := 2 ^ 64 - 59
    let r := 2 + beNat (key.take 8) % (P - 2)
    let n := (m.length + 6) / 7
    let b (i : Nat) : Nat := beNat ((m ++ List.replicate 7 0#8).drop (7 * i) |>.take 7)
    frameDigest key m =
      (((List.range n).map fun i => b i * r ^ (n + 1 - i)).sum + m.length * r + beNat (key.drop 8)) % P) ∧
  (∀ (s : State) (c : Caller) (p slot hdr win k : Nat),
    let part := s.get F.portCfg_PART p
    let q := s.get F.pairCfg_PARTNER p
    let dom := s.get F.portCfg_DOMAIN p
    (s.admits 0xd8 = true → s.leads p = true → s.cPart c = part → s.resetting part = false → s.getB F.pairCfg_ACTIVE p = true →
      s.getB F.slgCfg_EN p = false → hdr ≤ 64 → 1000 ≤ win → win ≤ 1000000 → 1000000 % win = 0 →
      (∀ l ∈ s.slgChains part, s.get F.slgCfg_DOMAIN l = dom) → s.getB F.slgPringCfg_EN part = true →
      s.getB F.slgCringCfg_EN part = true → s.freeSlot part = some k → s.keyUsable slot part attrSeal = true →
      s.get F.vsCfg_TYPE slot = tyDigest → slot < 256 → 0 ≤ s.ticks dom → (s.dom dom).st ≠ .off →
      ∃ u : State, exec (.slgEnable c p slot hdr win) s = .next (u.complete c 0xd8 .ok) ∧
        (∀ l : Nat, l = p ∨ l = q → u.getB F.slgCfg_EN l = true ∧ u.get F.slgCfg_SLOT l = slot ∧ u.get F.slgCfg_HDR_LEN l = hdr ∧
          u.get F.slgCfg_WIN_US l = win ∧ u.get F.slgCfg_DOMAIN l = dom ∧ u.get F.slgStat_PSEQ l = 0 ∧
          u.getB F.slgStat_FIRST l = true ∧ (u.chain l).pend = true) ∧
        (u.alarm k).st = .armed ∧ (u.alarm k).kind = .slwClose ∧ (u.alarm k).dom = dom ∧ (u.alarm k).target = min p q ∧
        (u.alarm k).period = win * 1000 * 2 ^ 18 ∧ (u.alarm k).inst % (win * 1000 * 2 ^ 18) = 0 ∧
        s.ticks dom + 10000 * 2 ^ 18 ≤ (u.alarm k).inst ∧ (u.alarm k).inst < s.ticks dom + 10000 * 2 ^ 18 + win * 1000 * 2 ^ 18) ∧
    (s.admits 0xd9 = true → s.leads p = true → s.resetting part = false → s.cPart c = part ∨ s.cPt0 c = true →
      s.getB F.slgCfg_EN p = true → ∃ u : State, exec (.slgDisable c p) s = .next (u.complete c 0xd9 .ok) ∧
        u.getB F.slgCfg_EN p = false ∧ u.getB F.slgCfg_EN q = false ∧ (u.chain p).win = none ∧ (u.chain q).win = none)) ∧
  (∀ (s : State) (c : Caller) (page : List Byte), s.admits 0xda = true → pageForm page = true →
    s.cPart c = nb page 2 ∨ s.cPt0 c = true → s.keysHeld = true → (page.drop 8).take 8 = deviceId →
    let tag := (Config.cmac (s.sealKey (nb page 2)) (page.take 144)).toNat
    (tag = nn page 144 16 → ∃ u : State, exec (.slgPageCheck c page) s = .next (u.complete c 0xda .ok) ∧ u.regs = s.regs) ∧
    (tag ≠ nn page 144 16 → exec (.slgPageCheck c page) s = .next (s.complete c 0xda .verifyFail))) ∧
  (∀ (s : State) (p : Nat) (x : SlgPage) (l : List SlgPage), (s.chain p).closed = x :: l → s.keysHeld = true →
    let flags := x.flags + if (s.chain p).lost then 8 else 0
    let head := [1#8, byte flags] ++ x.body ++ beBytes 16 (if bitOf x.flags 7 then 0 else (s.chain p).prevTag)
    let tag := (Config.cmac (s.sealKey x.part) head).toNat
    let full : Prop := (s.get F.slgPringIdx_PROD x.part + 2 ^ 32 - s.get F.slgPringIdx_CONS x.part) % 2 ^ 32 =
      2 ^ s.get F.slgPringCfg_SIZE x.part
    ∃ u : State, exec (.pageSeal p) s = .next u ∧ (u.chain p).closed = l ∧ (u.chain p).prevTag = tag ∧
      (s.getB F.slgPringCfg_EN x.part = true → ¬ full → (u.chain p).lost = false ∧
        u.get F.slgPringIdx_PROD x.part = (s.get F.slgPringIdx_PROD x.part + 1) % 2 ^ 32 ∧
        u.out = .dmaWrite (s.get F.slgPringBase_ADDR x.part * 4096 + 160 *
          (s.get F.slgPringIdx_PROD x.part % 2 ^ s.get F.slgPringCfg_SIZE x.part)) 1 (head ++ beBytes 16 tag) :: s.out) ∧
      (full → (u.chain p).lost = true ∧ u.out = s.out ∧
        u.get F.slgPringIdx_PROD x.part = s.get F.slgPringIdx_PROD x.part)) ∧
  (∀ (s : State) (part : Nat) (due : SlgDue), (s.slgPart part).due = some due → s.unsealedLeft part = false →
    (s.keysHeld = true → s.mode ≠ .sealed → s.rngOk = true → 0 ≤ due.at' → due.at' < 2 ^ 48 * Config.secTicks →
      s.get F.slgCseq_CSEQ part < 2 ^ 64 - 1 →
      ∃ (u : State) (sig : List Byte), exec (.checkpointBuild part) s = .next u ∧ (u.slgPart part).due = none ∧
        (u.slgPart part).done = [] ∧ u.get F.slgCseq_CSEQ part = s.get F.slgCseq_CSEQ part + 1 ∧
        (u.slgPart part).prev = (beBytes 48 (Config.sha384 (s.ckptBody part due ++ sig)).toNat).take 24 ∧
        ((u.slgPart part).prevLost = true ↔ s.cringTakes part = false)) ∧
    (s.keysHeld = false ∨ s.mode = .sealed → ∃ u : State, exec (.checkpointBuild part) s = .next u ∧
      (u.slgPart part).due = none ∧ u.regs = s.regs ∧ u.out = s.out))

/-- The commands of TSV complete with OK, and its background work runs (R468, R479, R492, R498, R500, R509, R512, R513, R518,
R520, R521): what each leaves.
It rests on readings of the model: log entries 36 and 53. -/
def Obligations.TimeServiceCommandsComplete : Prop :=
  ∀ (s : State) (c : Caller) (a : Nat), a < 64 →
    (∀ (part port tr addr : Nat) (tags : List Nat) (ttl : Nat) (ptp ntp nts : Bool) (profile dn : Nat) (mcast auth two : Bool)
      (x y : Nat), s.admitsOwner c 0x70 = true → part < 8 → s.leads port = true → s.get F.portCfg_ROLE port = 0 →
      s.get F.portCfg_PART port = part → s.resetting part = false → tr ≤ 2 →
      addr < [2 ^ 48, 2 ^ 32, 2 ^ 128].getD tr 0 → tags.length ≤ 2 → (∀ t ∈ tags, t < 2 ^ 32) → ttl < 256 →
      ((profile = 0 ∧ dn < 256) ∨ (profile = 1 ∧ tr = 0 ∧ mcast = true ∧ 24 ≤ dn ∧ dn ≤ 43) ∨
        (profile = 2 ∧ tr ≠ 0 ∧ mcast = false ∧ 44 ≤ dn ∧ dn ≤ 63)) →
      (auth = true → ptp = true) → s.getB F.svcCfg_EN a = false →
      (∀ k < 64, ¬ (s.getB F.svcCfg_EN k = true ∧ s.get F.svcCfg_PORT k = port ∧ s.get F.svcCfg_TRANSPORT k = tr ∧
        s.get F.svcAddrHi_ADDR k * 2 ^ 64 + s.get F.svcAddrLo_ADDR k = addr ∧ s.svcTags k = (tags.map (beBytes 4)).flatten)) →
      (ptp = true → s.twoSlots part = some (x, y)) →
      let d := s.get F.portCfg_DOMAIN port
      let armed (u : State) (k ty : Nat) (log : Int) : Prop :=
        let P : Nat := if mcast then 2 ^ (log + 7).toNat * 2048000000000 else 2048000000000
        (u.alarm k).st = .armed ∧ (u.alarm k).kind = .tsvEmit ∧ (u.alarm k).part = part ∧ (u.alarm k).dom = d ∧
          (u.alarm k).period = P ∧ (u.alarm k).target = a + 256 * ty ∧
          (0 ≤ s.ticks d → (u.alarm k).inst % P = 0 ∧ s.ticks d < (u.alarm k).inst ∧ ((u.alarm k).inst : Int) ≤ s.ticks d + P)
      ∃ u : State, exec (.svcSet c a part port tr addr tags ttl ptp ntp nts profile dn mcast auth two) s =
          .next ((u.refreshAll [38, 39]).complete c 0x70 .ok) ∧
        u.getB F.svcCfg_EN a = true ∧ u.get F.svcCfg_PART a = part ∧ u.get F.svcCfg_PORT a = port ∧
        u.get F.svcCfg_TRANSPORT a = tr ∧ u.get F.svcAddrHi_ADDR a * 2 ^ 64 + u.get F.svcAddrLo_ADDR a = addr ∧
        u.get F.svcCfg_TAGS a = tags.length ∧ u.get F.svcCfg_TTL a = ttl ∧ u.getB F.svcCfg_PTP a = ptp ∧
        u.getB F.svcCfg_NTP a = ntp ∧ u.getB F.svcCfg_NTS a = nts ∧
        u.get F.svcCfg_PROFILE a = profile ∧ u.get F.svcCfg_PTP_DOMAIN a = dn ∧
        u.getB F.svcCfg_MCAST a = mcast ∧ u.getB F.svcCfg_AUTH_REQ a = auth ∧ u.getB F.svcCfg_TWO_STEP a = two ∧
        (ptp = true → armed u x 0 (if profile = 1 then -4 else 0) ∧ armed u y 11 (if profile = 1 then -3 else 1))) ∧
    (s.admitsOwner c 0x71 = true → s.getB F.svcCfg_EN a = true → s.resetting (s.svcPart a) = false →
      ∃ u : State, exec (.svcClear c a) s = .next ((u.refreshAll [38, 39]).complete c 0x71 .ok) ∧ u.getB F.svcCfg_EN a = false ∧
        (∀ (i : Nat) (r : Assoc), u.assoc i = some r → r.svc ≠ a) ∧
        (∀ (i : Nat) (x : Xc), u.xc i = some x → x.svc = a → x.stage = .stamp) ∧ (u.svc a).syncSlot = none ∧
        (u.svc a).annSlot = none) ∧
    (∀ (slot : Nat) (clear : Bool), s.admits 0x72 = true → slot < 256 → s.getB F.svcCfg_EN a = true →
      s.resetting (s.svcPart a) = false → s.cPart c = s.svcPart a → s.keyUsable slot (s.svcPart a) attrTsv = true →
      s.get F.vsCfg_TYPE slot = tySiv256 →
      ∃ u : State, exec (.ntsKeyRoll c a slot clear) s = .next ((u.refresh 38).complete c 0x72 .ok) ∧
        u.get F.svcKeys_NTS_CUR a = slot ∧ u.get F.svcKeys_NTS_PREV a = s.get F.svcKeys_NTS_CUR a ∧
        u.getB F.svcKeys_PREV_VALID a = !clear ∧ u.getB F.svcKeys_CUR_VALID a = true) ∧
    (s.admits 0x73 = true →
      (s.resetting (s.svcPart a) = false → s.cPart c = s.svcPart a ∨ s.cPt0 c = true →
        ∃ u : State, exec (.assocFlush c (some a)) s = .next (u.complete c 0x73 .ok) ∧ u.regs = s.regs ∧
          ∀ (i : Nat) (r : Assoc), u.assoc i = some r → r.svc ≠ a) ∧
      (∃ u : State, exec (.assocFlush c none) s = .next (u.complete c 0x73 .ok) ∧ u.regs = s.regs ∧
        ∀ (i : Nat) (r : Assoc), u.assoc i = some r → s.svcPart r.svc ≠ s.cPart c)) ∧
    (∀ (slot cert port : Nat) (records : List Byte), s.admitsOwner c 0x74 = true → slot < 256 → 0 < port → port < 65536 →
      s.getB F.svcCfg_EN a = true → s.resetting (s.svcPart a) = false → s.keyUsable slot (s.svcPart a) attrAtt = true → isEcdsa (s.get F.vsCfg_TYPE slot) = true →
      ∃ u : State, exec (.ntskeCfg c a slot cert port records) s = .next ((u.refresh 39).complete c 0x74 .ok) ∧ u.regs = s.regs ∧
        (u.svc a).keSet = true ∧ (u.svc a).keSlot = slot ∧ (u.svc a).keCert = cert ∧ (u.svc a).kePort = port ∧
        (u.svc a).keRecords = records) ∧
    (∀ c2s s2c : List Byte, c2s.length = 32 → s2c.length = 32 → s.getB F.svcCfg_EN a = true → s.getB F.svcCfg_NTS a = true →
      s.keServes a = true → s.tsvServes = true → s.rngOk = true → s.kvcOk = true → s.getB F.svcKeys_CUR_VALID a = true →
      s.keyUsable (s.get F.svcKeys_NTS_CUR a) (s.svcPart a) attrTsv = true → s.tsv.keSec < s.tse.cyc / 1250000000 →
      ∃ (u : State) (l : List (List Byte)), exec (.ntskeHandshake a c2s s2c) s = .next u ∧ u.out = .ntske a l :: s.out ∧
        l.length = 8 ∧ ∀ k ∈ l, k.length = 108 ∧ s.cookieSlot a k = some (s.get F.svcKeys_NTS_CUR a) ∧
          s.openCookie a (s.get F.svcKeys_NTS_CUR a) (s.get F.vsGen_CUR_GEN (s.get F.svcKeys_NTS_CUR a)) k = some (c2s, s2c)) ∧
    (s.getB F.tsvPolice_EN = true → ∃ u : State, exec .policeDecaySweep s = .next u ∧ u.regs = s.regs ∧
      (∀ line : Nat, (∃ e ∈ tabGet (List.replicate 16 (0, 0)) s.tsv.police line, e.1 ≠ 0 ∨ 1 < e.2) →
        (tabGet (List.replicate 16 (0, 0)) u.tsv.police line).map (·.2) =
          (tabGet (List.replicate 16 (0, 0)) s.tsv.police line).map (fun e => e.2 - 1)) ∧
      ∀ (i : Nat) (r : Assoc), s.assoc i = some r → u.assoc i = some { r with police := r.police - 1, fails := r.fails - 1 }) ∧
    (∀ (i : Nat) (r : Assoc), s.assoc i = some r →
      let ended (g : Grant) : Prop := g.exp = 0 ∨ laterSerial 32 (g.exp + 60) s.sec32 = false
      (ended r.ann ∧ ended r.sync ∧ ended r.dresp → ∃ u : State, exec (.assocExpire i) s = .next u ∧ u.assoc i = none ∧
        (∀ k : Nat, k ≠ i → u.assoc k = s.assoc k) ∧ u.regs = s.regs) ∧
      (¬ (ended r.ann ∧ ended r.sync ∧ ended r.dresp) → exec (.assocExpire i) s = .next s))

/-- Exchanges move through their stages (R469, R470, R474–R476, R478, R483, R484, R486, R493, R495, R505–R507, R519): a claimed
frame waits for admission, an admission takes an exchange context or drops the request, and PARSE, KEY, VERIFY, BUILD and the
timeout each lead to the next stage or free the context with the count of the reason.
It rests on readings of the model: log entry 53. -/
def Obligations.ExchangesMoveThroughTheirStages : Prop :=
  ∀ s : State,
    (∀ (port delta : Nat) (f : List Byte), s.leads port = true → s.portsRun = true → s.getB F.portCfg_EN port = true →
      s.getB F.portStat_LINK port = true → s.get F.portCfg_ROLE port = 0 → 60 ≤ f.length →
      f.length + 4 ≤ s.get F.portCfg_MAX_FRAME port →
      etherType f ≠ s.get F.npaProbe_ETYPE ∨ (s.nport port).txts.full 64 = false →
      (∀ a : Nat, s.claimant port (readPkt f) = some a → s.tsvServes = true → s.resetting (s.svcPart a) = false →
        ∃ u : State, exec (.serviceFrameRx port delta f false) s = .next u ∧ .svc a 0 1 ∈ u.sup.bumps ∧
          tabGet [] u.tsv.wait (s.svcPart a) = tabGet [] s.tsv.wait (s.svcPart a) ++
            [{ svc := a, msg := .request, frame := f, rx := s.rxStamp port delta }]) ∧
      (s.claimant port (readPkt f) = none →
        ∃ u : State, exec (.serviceFrameRx port delta f false) s = .next u ∧ u.tsv = s.tsv)) ∧
    (∀ p < 8, s.tsvServes = true → s.resetting p = false → tabGet [] s.tsv.wait p ≠ [] →
      ∃ (q : Nat) (r : XReq) (l : List XReq), q < 8 ∧ s.resetting q = false ∧ tabGet [] s.tsv.wait q = r :: l ∧
        (s.xcAvail q = true → ∃ (u : State) (i : Nat), exec .xcAdmit s = .next u ∧ s.xc i = none ∧
          u.xc i = some { part := q, svc := r.svc, msg := r.msg, frame := r.frame, rx := r.rx, em := r.em, born := s.tse.cyc } ∧
          (∀ k : Nat, k ≠ i → u.xc k = s.xc k) ∧ tabGet [] u.tsv.wait q = l) ∧
        (s.xcAvail q = false → ∃ v : State, exec .xcAdmit s = .next ((v.bump F.tsvDrop_XC_DROP 1 q).pulse 36 q r.svc) ∧
          v.regs = s.regs ∧ tabGet [] v.tsv.wait q = l ∧ v.tsv.xcs = s.tsv.xcs)) ∧
    (∀ (i opp : Nat) (x : Xc), s.xc i = some x →
      let k := readPkt x.frame
      let port := s.get F.svcCfg_PORT x.svc
      let dom := s.get F.portCfg_DOMAIN port
      let freed (u : State) : Prop := u.xc i = none
      let builds (u : State) (kiss : Kiss) : Prop := ∃ y : Xc, u.xc i = some y ∧ y.stage = .build ∧ y.kiss = kiss ∧ y.msg = x.msg ∧
        y.tRead = s.ticks dom ∧ y.bRead = (s.dom dom).bound ∧
        (s.xcLaunches x = true → s.ticks dom + s.launchLead ≤ y.tL ∧ ∃ r ∈ (u.nport port).resv, r.xc = some i ∧ r.tL = y.tL)
      (x.stage = .parse → x.msg = .request →
        (∀ m : XMsg, s.parseReq x.svc x.frame = some m → ∃ (u : State) (y : Xc), exec (.xcParseDone i) s = .next u ∧
          u.xc i = some y ∧ y.stage = .key ∧ y.msg = m ∧ y.frame = x.frame ∧ y.rx = x.rx) ∧
        (s.parseReq x.svc x.frame = none → ∃ u : State, exec (.xcParseDone i) s = .next u ∧ freed u ∧
          .svc x.svc 2 1 ∈ u.sup.bumps)) ∧
      (x.stage = .key → (∀ v g : Nat, x.pin = some (v, g) → s.keyResident v g = true) →
        (x.msg = .ntp → s.isNts x.svc k.payload = false →
          exec (.xcKeyDone i) s = .next (s.setXc i (some { x with stage := .verify }))) ∧
        (∀ (uid cookie auth : List Byte) (n v g : Nat), x.msg = .ntp → s.isNts x.svc k.payload = true →
          ntsForm k.payload = some (uid, cookie, n, auth) → x.pin = some (v, g) →
          (∀ c2s s2c : List Byte, s.openCookie x.svc v g cookie = some (c2s, s2c) →
            exec (.xcKeyDone i) s = .next ((s.tallyAes x.part (sivBlocks [16] 72)).setXc i
              (some { x with stage := .verify, c2s := c2s, s2c := s2c }))) ∧
          (s.openCookie x.svc v g cookie = none → ∃ u : State, exec (.xcKeyDone i) s = .next u ∧
            u.xc i = some { x with kiss := .ntsn, stage := .verify } ∧ .svc x.svc 5 1 ∈ u.sup.bumps)) ∧
        (x.msg = .signal ∨ (∃ p, x.msg = .sync p) ∨ (∃ p, x.msg = .announce p) →
          (s.getB F.svcCfg_AUTH_REQ x.svc = true → x.pin = none → x.part < 8 → ∃ u : State, exec (.xcKeyDone i) s = .next u ∧ freed u ∧
            u.get F.tsvErr_KEY_ABORT x.part = min 65535 (s.get F.tsvErr_KEY_ABORT x.part + 1)) ∧
          (s.getB F.svcCfg_AUTH_REQ x.svc = false →
            exec (.xcKeyDone i) s = .next (s.setXc i (some { x with stage := .verify }))))) ∧
      (x.stage = .verify → (s.nport port).resv.length < 64 →
        (x.msg = .ntp → x.kiss = .ntsn → ∃ u : State, exec (.xcVerifyDone i opp) s = .next u ∧ builds u .ntsn) ∧
        (x.msg = .ntp → x.kiss = .no → s.isNts x.svc k.payload = false →
          let c := (s.policeOf (clientAddr k)).1
          (s.getB F.tsvPolice_EN = false → ∃ u : State, exec (.xcVerifyDone i opp) s = .next u ∧ builds u .no) ∧
          (s.getB F.tsvPolice_EN = true → c < s.get F.svcNtp_DROP_LIMIT x.svc → ∃ u : State, exec (.xcVerifyDone i opp) s = .next u ∧
            builds u (if s.get F.svcNtp_RATE_LIMIT x.svc ≤ c then .rate else .no) ∧
            (u.policeOf (clientAddr k)).1 = min 15 (c + 1)) ∧
          (s.getB F.tsvPolice_EN = true → s.get F.svcNtp_DROP_LIMIT x.svc ≤ c → ∃ u : State,
            exec (.xcVerifyDone i opp) s = .next u ∧ freed u)) ∧
        (x.msg = .ntp → x.kiss ≠ .ntsn → s.isNts x.svc k.payload = true → ntsVerify x.c2s k.payload = none → ∃ u : State,
          exec (.xcVerifyDone i opp) s = .next u ∧ freed u ∧ .svc x.svc 3 1 ∈ u.sup.bumps) ∧
        ((∃ p, x.msg = .sync p) ∨ (∃ p, x.msg = .announce p) → ∃ u : State, exec (.xcVerifyDone i opp) s = .next u ∧
          builds u x.kiss)) ∧
      (x.stage = .build → s.nonceCount x = 0 ∨ s.rngOk = true → ∃ (u : State) (y : Xc), exec (.xcBuildDone i) s = .next u ∧
        u.xc i = some y ∧ y.stage = .stamp ∧ y.msg = x.msg ∧
        (s.xcLaunches x = true → ∀ r ∈ (u.nport port).resv, r.xc = some i → r.frame.isSome = true ∧ r.arrived = s.tse.cyc) ∧
        (s.xcLaunches x = false → ∃ f : TxFrame, f.xc = some i ∧
          let (q, ins) : Nat × Nat := match x.msg with | .sync _ => (7, 1) | .announce _ => (7, 0) | _ => (6, 0)
          u.txq port q = s.txq port q ++ [f] ∧ f.insert = ins)) ∧
      (s.tse.cyc < x.born + 1250000 → exec (.xcTimeout i) s = .next s) ∧
      (x.part < 8 → x.born + 1250000 ≤ s.tse.cyc → ∃ u : State, exec (.xcTimeout i) s = .next u ∧ freed u ∧
        u.get F.tsvDrop_TIMEOUT x.part = min (2 ^ 32 - 1) (s.get F.tsvDrop_TIMEOUT x.part + 1)))

/-- The KVC commands complete with OK (R528, R534, R541–R549, R551, R561, R563–R565): the blob of a new key passes KVC's own checks,
a load makes it the slot's current generation, an erase empties the slot, and zeroisation leaves nothing.
It rests on readings of the model: log entries 25 and 54. -/
def Obligations.KeyCommandsComplete : Prop :=
  ∀ (s : State) (c : Caller),
    let p := s.cPart c
    (∀ ty attr gen : Nat, attrOk ty attr = true → 1 ≤ gen → gen < 2 ^ 32 → s.kvcOk = true → p < 8 → s.kvc.epoch < 2 ^ 32 →
      let answers (blob pub key : List Byte) : Prop :=
        blob.length = 96 ∧ nb blob 1 = ty ∧ nb blob 2 = attr ∧ nb blob 3 = p ∧ nn blob 4 4 = gen ∧ s.blobKey p blob = key ∧
          firstFail (s.blobChecks p blob (false, .badArg) (kcvOf ty key)) = none ∧
          pub = if isEcdsa ty then pubForm (keyLen ty) (beNat key) else []
      (s.admits 0x80 = true → s.rngOk = true → ∃ (u : State) (blob pub key : List Byte),
        exec (.keyGen c ty attr gen) s = .next (u.complete c 0x80 .ok (blob ++ pub)) ∧ u.regs = s.regs ∧ key.length = keyLen ty ∧
          answers blob pub key) ∧
      (s.admits 0x80 = true → s.rngOk = false → ∃ u : State, exec (.keyGen c ty attr gen) s = .next u ∧ u.regs = s.regs ∧
        u.out = s.out ∧ u.kvc.genWaits = s.kvc.genWaits ++ [{ c := c, type := ty, attr := attr, gen := gen, at' := s.tse.cyc }]) ∧
      (∀ key : List Byte, key.length = keyLen ty → s.admits 0x81 = true → s.rngOk = true →
        bitOf (s.get F.kvcImportOk_IMPORT) p = true → ∃ (u : State) (blob pub : List Byte),
          exec (.keyImport c ty attr gen key) s = .next (u.complete c 0x81 .ok (blob ++ pub)) ∧ u.regs = s.regs ∧
            answers blob pub key)) ∧
    (∀ slot < 256, s.resetting (s.vsPart slot) = false →
      (∀ (blob : List Byte) (kcv : Nat) (persist : Bool), s.admits 0x82 = true → p = s.vsPart slot →
        s.getB F.kvcBlobBase_EN = true → s.get F.vsCfg_STATE slot < 2 → s.getB F.vsCfg_BUSYOP slot = false →
        s.get F.vsGen_PREV_GEN slot = 0 → s.kvcOk = true → firstFail (s.loadChecks slot blob kcv) = none →
        ∃ u : State, exec (.keyLoad c slot blob kcv persist) s = .next ((
            let v := (u.refreshAll [38, 39]).tallyAes (s.vsPart slot) gcmBlocks
            if persist then v.persistPut { slot := slot, part := s.vsPart slot, blob := blob, lastGen := nn blob 4 4 }
            else v).complete c 0x82 .ok) ∧
          u.get F.vsCfg_STATE slot = 1 ∧ u.get F.vsCfg_TYPE slot = nb blob 1 ∧ u.get F.vsCfg_ATTR slot = nb blob 2 ∧
          u.get F.vsGen_CUR_GEN slot = nn blob 4 4 ∧ u.get F.vsCfg_LAST_GEN slot = nn blob 4 4 ∧
          u.get F.vsKcv_CUR_KCV slot = nn blob 8 3 ∧ u.getB F.vsCfg_PERSIST slot = persist ∧
          u.keyBytes slot (nn blob 4 4) = s.blobKey (s.vsPart slot) blob ∧
          (∃ k < 2, .dmaWrite (s.get F.kvcBlobBase_ADDR * 65536 + 192 * slot + 96 * k) 3 blob ∈ u.out) ∧
          ((s.vslot slot).cur.isSome = true → s.get F.vsPins_CUR_PINS slot ≠ 0 →
            u.get F.vsGen_PREV_GEN slot = s.get F.vsGen_CUR_GEN slot ∧
            u.get F.vsPins_PREV_PINS slot = s.get F.vsPins_CUR_PINS slot ∧ u.get F.vsPins_CUR_PINS slot = 0) ∧
          ((s.vslot slot).cur.isSome = true → s.get F.vsPins_CUR_PINS slot = 0 → u.get F.vsGen_PREV_GEN slot = 0)) ∧
      (s.admits 0x83 = true → p = s.vsPart slot ∨ s.cPt0 c = true → s.get F.vsCfg_STATE slot = 1 →
        ∃ u : State, exec (.keyErase c slot) s = .next (u.refreshAll [38, 39]) ∧ u.get F.vsCfg_STATE slot ≠ 1 ∧
          u.get F.vsCfg_LAST_GEN slot = s.get F.vsCfg_LAST_GEN slot ∧ u.vsPart slot = s.vsPart slot ∧
          (s.get F.vsPins_CUR_PINS slot = 0 → s.get F.vsPins_PREV_PINS slot = 0 → u.get F.vsCfg_STATE slot = 0 ∧
            u.get F.vsGen_CUR_GEN slot = 0 ∧ (u.vslot slot).cur = none ∧ (u.vslot slot).prev = none)) ∧
      (s.admits 0x84 = true → p = s.vsPart slot ∨ s.cPt0 c = true →
        exec (.keyInfo c slot) s = .next (s.complete c 0x84 .ok (s.keyInfo slot)) ∧
          (s.get F.vsCfg_STATE slot = 0 → s.keyInfo slot = [0]) ∧
          (s.get F.vsCfg_STATE slot ≠ 0 → (s.keyInfo slot).take 32 =
            [byte (s.get F.vsCfg_STATE slot), byte (s.vsPart slot), byte (s.get F.vsCfg_TYPE slot), byte (s.get F.vsCfg_ATTR slot)] ++
              ([s.get F.vsGen_CUR_GEN slot, s.get F.vsGen_PREV_GEN slot, s.get F.vsKcv_CUR_KCV slot, s.get F.vsKcv_PREV_KCV slot,
                s.get F.vsCfg_LAST_GEN slot, s.get F.vsPins_CUR_PINS slot, s.get F.vsPins_PREV_PINS slot].map (beBytes 4)).flatten)) ∧
      (∀ digest : List Byte, s.admits 0x85 = true → p = s.vsPart slot → s.keyUsable slot p attrAtt = true →
        isEcdsa (s.get F.vsCfg_TYPE slot) = true → s.kvcOk = true → s.rngOk = true →
        digest.length = keyLen (s.get F.vsCfg_TYPE slot) → s.get F.vsGen_CUR_GEN slot ≠ 0 →
        let gen := s.get F.vsGen_CUR_GEN slot
        let n := keyLen (s.get F.vsCfg_TYPE slot)
        (s.keyResident slot gen = true → ∃ (u : State) (r : Nat), exec (.kvcSign c slot digest) s =
            .next (u.complete c 0x85 .ok (beBytes (2 * n) (Config.ecdsa n (beNat (s.keyBytes slot gen)) (beNat digest) r).toNat)) ∧
          (s.get F.vsPins_CUR_PINS slot < 2 ^ 20 - 1 → u.get F.vsPins_CUR_PINS slot = s.get F.vsPins_CUR_PINS slot)) ∧
        (s.keyResident slot gen = false → ∃ u : State, exec (.kvcSign c slot digest) s = .next u ∧ u.out = s.out ∧
          u.kvc.waits = s.kvc.waits ++ [{ slot := slot, gen := gen, op := .sign c digest }] ∧
          u.get F.vsPins_CUR_PINS slot = min (2 ^ 20 - 1) (s.get F.vsPins_CUR_PINS slot + 1))) ∧
      (∀ part < 8, s.admitsOwner c 0x86 = true → s.get F.vsCfg_STATE slot = 0 → s.get F.vsPins_CUR_PINS slot = 0 →
        s.get F.vsPins_PREV_PINS slot = 0 →
        exec (.slotAssign c slot part) s = .next (((s.put F.vsCfg_PART part slot).refreshAll [38, 39]).complete c 0x86 .ok))) ∧
    (∀ (modes filt en : Nat) (lo hi : Int), s.admitsOwner c 0x87 = true → modes < 256 → 1 ≤ filt → filt ≤ 15 → en < 8 →
      -(2 ^ 15) ≤ lo → lo < 2 ^ 15 → -(2 ^ 15) ≤ hi → hi < 2 ^ 15 →
      s.cpx.owner.lock = false ∨ s.tamperLoosens modes en lo hi = false →
      ∃ u : State, exec (.tamperCfg c modes filt en lo hi) s = .next ((u.refresh 63).complete c 0x87 .ok) ∧
        u.get F.kvcTamperCfg_TMP_MODE = modes ∧ u.get F.kvcTamperCfg_FILT = filt ∧ u.getB F.kvcTamperCfg_TEMP_EN = bitOf en 0 ∧
        u.getB F.kvcTamperCfg_VGLITCH_EN = bitOf en 1 ∧ u.getB F.kvcTamperCfg_CLKGLITCH_EN = bitOf en 2 ∧
        u.getI F.kvcTempLim_TEMP_LO = lo ∧ u.getI F.kvcTempLim_TEMP_HI = hi) ∧
    (∀ pass : Bool, s.admitsOwner c 0x88 = true → ∃ u : State, exec (.kvcSelftest c pass) s =
      .next ((u.refresh 42).complete c 0x88 (if pass then .ok else .verifyFail)) ∧ u.getB F.kvcStat_KAT_OK = pass) ∧
    (s.admitsOwner c 0x89 = true → ∃ u : State, exec (.kvcZeroise c) s =
      .next ((u.refreshAll [38, 39, 60, 61]).complete c 0x89 .ok) ∧ u.kvc.root = 0 ∧ u.kvc.epoch = 0 ∧ u.kvc.derived = .none ∧
      u.getB F.kvcStat_ROOT_VALID = false ∧ u.getB F.kvcStat_ZEROISED = true ∧ u.kvc.waits = [] ∧ u.kvc.genWaits = [] ∧
      u.get F.kvcTamperCause_COUNT = min 255 (s.get F.kvcTamperCause_COUNT + 1) ∧ (u.rd .kvcTamperCause).getLsbD 8 = true ∧
      (∀ v < 256, u.get F.vsCfg_STATE v = 0 ∧ u.get F.vsCfg_LAST_GEN v = 0) ∧
      ∀ (i : Nat) (x : Xc), u.xc i = some x → x.pin = none) ∧
    (∀ token : List Byte, s.admitsOwner c 0x8a = true → s.kvc.tripped = 0 → s.rngOk = true → s.kvc.vbatLow = false →
      s.tokenOk token 4 (if s.cpx.owner.set then s.cpx.owner.key else Config.provKey) = true →
      ∃ u : State, exec (.vaultProvision c token) s = .next (u.complete c 0x8a .ok u.idPub) ∧ u.kvc.derived = .idk ∧
        u.kvc.epoch = (s.kvc.epoch + 1) % 2 ^ 32 ∧ u.kvc.crcOk = true ∧ u.getB F.kvcStat_PROV_PEND = true ∧
        u.getB F.kvcStat_ZEROISED = false ∧ u.getB F.kvcStat_ROOT_VALID = s.getB F.kvcStat_ROOT_VALID ∧
        u.get F.kvcTamperCause_COUNT = s.get F.kvcTamperCause_COUNT ∧ (∀ b ≤ 8, (u.rd .kvcTamperCause).getLsbD b = false) ∧
        u.cpx.owner.seq = s.cpx.owner.seq + 1)

/-- What happens to KVC (R37–R39, R529–R533, R535, R548, R551, R554–R557, R562): tamper, the limit of an erase, cache misses and
errors, the delivery of an exported key and its release, the generator's tests, VBAT.
It rests on readings of the model: log entries 11, 54 and 78. -/
def Obligations.VaultEventsComplete : Prop :=
  ∀ s : State,
    (∀ (powered : Bool) (n : Nat), 1000 ≤ n → exec (.tamperTrip 6 ⟨powered, some n⟩) s = .next s) ∧
    (∀ (source : Nat) (fell : Option Nat), source < 8 → s.tamperOn source = true → (source = 6 → ∀ n ∈ fell, n < 1000) →
      let wiped (u : State) : Prop := u.kvc.root = 0 ∧ u.kvc.epoch = 0 ∧ u.getB F.kvcStat_ZEROISED = true ∧
        u.get F.kvcTamperCause_COUNT = min 255 (s.get F.kvcTamperCause_COUNT + 1) ∧
        (u.rd .kvcTamperCause).getLsbD source = true ∧ bitOf u.kvc.tripped source = true
      (∃ u : State, exec (.tamperTrip source ⟨true, fell⟩) s = .next (u.refreshAll [38, 39, 60, 61]) ∧ wiped u ∧
        u.getB F.kvcStat_ROOT_VALID = false ∧ u.kvc.waits = [] ∧ (∀ v < 256, u.get F.vsCfg_STATE v = 0)) ∧
      (source < 6 → ∃ u : State, exec (.tamperTrip source ⟨false, fell⟩) s = .next u ∧ wiped u ∧
        u.get F.kvcTamperCause_SEC = 0 ∧ u.out = s.out)) ∧
    (∀ source < 8, ∃ u : State, exec (.tamperSourceRelease source) s = .next (u.refresh 60) ∧ bitOf u.kvc.tripped source = false ∧
      u.regs = s.regs) ∧
    (∀ slot < 256, s.get F.vsCfg_STATE slot = 2 → (s.vslot slot).eraseAt + 1250000 ≤ s.tse.cyc → ∃ u : State, exec (.eraseForceTimeout slot) s = .next (u.refreshAll [38, 39]) ∧
      u.get F.vsCfg_STATE slot = 0 ∧ u.get F.vsGen_CUR_GEN slot = 0 ∧ (u.vslot slot).cur = none ∧ (u.vslot slot).prev = none ∧
      u.get F.vsCfg_LAST_GEN slot = s.get F.vsCfg_LAST_GEN slot ∧
      u.get F.vsPins_FORCED slot =
        min 15 (s.get F.vsPins_FORCED slot + s.get F.vsPins_CUR_PINS slot + s.get F.vsPins_PREV_PINS slot)) ∧
    (∀ (slot gen : Nat) (blob : List Byte) (m : KeyMat), slot < 256 → s.keyMat slot gen = some m → m.resident = false →
      s.get F.vsCfg_STATE slot = 1 →
      let fails := firstFail (s.blobChecks (s.vsPart slot) blob (nn blob 4 4 != gen, .verifyFail) (s.keyKcv slot gen))
      let idle (u : State) : Prop := ∀ w ∈ u.kvc.waits, w.slot = slot → w.gen ≠ gen
      (fails = none → s.cacheUsed + keyEntries (s.get F.vsCfg_TYPE slot) ≤ 4096 → s.get F.vsGen_CUR_GEN slot = gen →
        ∃ u : State, exec (.keyCacheMissDone slot gen blob) s = .next u ∧ u.keyResident slot gen = true ∧
          u.keyBytes slot gen = s.blobKey (s.vsPart slot) blob ∧ idle u) ∧
      (fails ≠ none → ∃ u : State, exec (.keyCacheMissDone slot gen blob) s = .next u ∧ idle u ∧ u.get F.vsCfg_STATE slot = 1 ∧
        ∀ (i : Nat) (x : Xc), u.xc i = some x → x.pin = some (slot, gen) → x.stage ≠ .key)) ∧
    (∀ slot gen : Nat, (slot, gen) ∈ s.kvc.exports → exec (.cpExportRelease ⟨[], slot⟩ gen) s =
      .next ((s.setKvc { s.kvc with exports := s.kvc.exports.erase (slot, gen),
                                    copies := s.kvc.copies.filter fun e => e.1 != (slot, gen) }).unpin slot gen)) ∧
    (∀ v slot gen : Nat,
      let g := s.get F.vsGen_CUR_GEN v
      (s.keyUsable v (s.vsPart v) attrCpExport = true → s.kvcOk = true → s.keyResident v g = true → (v, g) ∉ s.kvc.exports →
        (slot, gen) ∉ (v, g) :: s.kvc.exports → ∃ u : State, exec (.cpExportRelease ⟨[v], slot⟩ gen) s = .next u ∧
          u.kvc.exports = (v, g) :: s.kvc.exports ∧ u.kvc.copies = ((v, g), s.keyBytes v g) :: s.kvc.copies ∧
          u.get F.vsPins_CUR_PINS v = min (2 ^ 20 - 1) (s.get F.vsPins_CUR_PINS v + 1)) ∧
      (s.keyUsable v (s.vsPart v) attrCpExport = false → exec (.cpExportRelease ⟨[v], slot⟩ gen) s =
        exec (.cpExportRelease ⟨[], slot⟩ gen) s)) ∧
    exec (.cacheEccError none 0) s = .next (s.pulse 43 0 0xff) ∧
    (∀ (slot gen : Nat) (m : KeyMat), s.keyMat slot gen = some m → ∃ u : State,
      exec (.cacheEccError (some slot) gen) s = .next (u.pulse 43 (s.vsPart slot) slot) ∧ u.keyResident slot gen = false ∧
      u.keyBytes slot gen = m.key ∧ u.regs = s.regs) ∧
    (∃ u : State, exec .drbgReseed s = .next u ∧ u.kvc.drbg = 0 ∧ { u with kvc := s.kvc } = s) ∧
    (∃ u : State, exec .rngHealthFail s = .next (u.refresh 41) ∧ u.rngOk = false ∧ u.kvc.rngFail = true) ∧
    (∃ u : State, exec .rngHealthPass s = .next (s.kvc.genWaits.foldl State.genRun (u.refresh 41)) ∧ u.rngOk = true ∧
      u.kvc.rngFail = false ∧ u.kvc.genWaits = []) ∧
    (∀ (w : GenWait) (l : List GenWait), s.kvc.genWaits = w :: l → w.at' + 12500000 ≤ s.tse.cyc → ∃ u : State,
      exec .keyGenTimeout s = .next (u.complete w.c 0x80 .timeout) ∧ u.kvc.genWaits = l ∧ u.regs = s.regs) ∧
    (∀ mv < 2 ^ 16, ∃ u : State, exec (.vbatWarn mv) s = .next (u.refresh 62) ∧ u.get F.kvcVbat_VBAT_MV = mv ∧
      u.getB F.kvcStat_VBAT_WARN = decide (mv < s.get F.kvcVbat_WARN_MV))

/-- The HRL commands complete with OK, and lanes, silence, promotion and self-tests have their effect (R602, R604, R606, R610–R614,
R617, R618, R620, R621).
It rests on readings of the model: log entries 33 and 55. -/
def Obligations.RingCommandsComplete : Prop :=
  ∀ (s : State) (c : Caller),
    (s.admitsOwner c 0x90 = true →
      (s.hState = 0 → ∃ u : State, exec (.hrlEnable c 1) s = .next ((u.hrlFaults).complete c 0x90 .ok) ∧
        u.getB F.hrlCfg_EN = true ∧ u.hState ≠ 0) ∧
      (s.hState ≠ 0 → ∃ u : State, exec (.hrlEnable c 0) s = .next ((u.hrlFaults).complete c 0x90 .ok) ∧
        u.getB F.hrlCfg_EN = false ∧ u.hState = 0 ∧ u.hIndex = 0x1f ∧ u.hRole = 3 ∧ u.members = [] ∧ u.hLink 0 = false ∧
        u.hLink 1 = false ∧ u.get F.hrlKey_SEND_GEN = 0)) ∧
    (∀ payload : List Byte, s.admitsOwner c 0x91 = true → payload.length % 8 = 0 → 8 ≤ payload.length → payload.length ≤ 1024 →
      cpMarked payload = false →
      (let seq := s.get F.hrlTx_NEXT_SEQ
       s.hrl.own.length < 64 → ∃ u : State, exec (.hrlSend c false payload) s = .next (u.complete c 0x91 .ok (beBytes 4 seq)) ∧
        u.hrl.own = s.hrl.own ++ [{ seq := seq, payload := payload }] ∧ u.get F.hrlTx_NEXT_SEQ = (seq + 1) % 2 ^ 32) ∧
      (s.hrl.gms.length < 64 → s.hRole = 1 → ∃ u : State,
        exec (.hrlSend c true payload) s = .next (u.complete c 0x91 .ok (beBytes 4 s.hrl.gmNext)) ∧ u.regs = s.regs ∧
        u.hrl.gms = s.hrl.gms ++ [{ seq := s.hrl.gmNext, payload := payload }] ∧ u.hrl.gmNext = (s.hrl.gmNext + 1) % 2 ^ 32)) ∧
    (s.admitsOwner c 0x92 = true → s.hRole = 1 → s.get F.hrlStat_GMB ≠ 0x1f → s.get F.nodeStat_MODE (s.get F.hrlStat_GMB) = 8 →
      ∃ u : State, exec (.hrlHandover c) s = .next (u.complete c 0x92 .ok) ∧ u.hrl.handover = true ∧ u.regs = s.regs) ∧
    (s.admitsOwner c 0x93 = true → s.isSteward = true → s.getB F.hrlMisc_QUIET_PEND = false → s.hrl.voteAsk = false →
      s.getB F.hrlStat_QUIET = false → ∃ u : State, exec (.hrlQuiet c) s = .next (u.complete c 0x93 .ok) ∧
        u.getB F.hrlMisc_QUIET_PEND = true ∧ u.hrl.voteAsk = true ∧ u.hrl.wakeSeen = false) ∧
    (s.admitsOwner c 0x94 = true → s.getB F.hrlStat_QUIET = false → ∃ u : State,
      exec (.hrlWake c) s = .next (u.complete c 0x94 .ok) ∧ u.hrl.wakeSeen = true ∧ u.hrl.quietAt = none ∧
      u.out = (s.setHrl { s.hrl with wakeSeq := (s.hrl.wakeSeq + 1) % 2 ^ 32 }).ringOut 8 31 s.hrl.wakeSeq false
        (fun _ => List.replicate 8 0#8) ++ s.out) ∧
    (∀ turn < 2 ^ 32, s.admitsOwner c 0x95 = true → s.getB F.hrlCfg_AUTH = true → s.ringKeyOk = true →
      laterSerial 32 turn s.turn = true → ∃ u : State, exec (.hrlKeySwitch c turn) s = .next (u.complete c 0x95 .ok) ∧
        u.get F.hrlKey_SWITCH_TURN = turn ∧ u.getB F.hrlMisc_KEY_PEND = true) ∧
    (∀ (e : Nat) (up : Bool) (rx tx : Int), e < 2 → s.hState ≠ 0 → s.hLink e ≠ up →
      ∃ u : State, exec (.hingeLinkChange e up rx tx) s = .next u.hrlFaults ∧ u.hLink e = up ∧
        u.getB F.hLaneStat_PCS_LOCK e = up ∧ u.getB F.hLaneStat_DLM_VALID e = up ∧ (u.hlane e).rxCal = rx ∧
        (u.hlane e).txCal = tx ∧ u.getB F.hLaneStat_HOP_VALID e = false ∧
        (up = false → u.getB F.hLaneStat_DOWN_SEEN e = true ∧ u.get F.hLaneNbr_NODE_ID e = 0 ∧ .lane e 3 ∈ u.sup.bumps)) ∧
    (s.hState = 3 → 100 ≤ s.hrl.silent ∨ 100 ≤ s.hrl.stewSilent → ∃ u : State, exec .ringSilenceTimeout s = .next u ∧
      u.hState = 2 ∧ u.hIndex = 0x1f ∧ u.get F.hrlStat_STEWARD = 0x1f ∧ u.get F.hrlStat_GMA = 0x1f ∧ u.get F.hrlStat_GMB = 0x1f ∧
      u.hRole = 3 ∧ u.members = []) ∧
    (let a := s.get F.hrlStat_GMA
     s.hState = 3 → s.hIndex < 16 → s.hRole = 2 → s.hrl.turnCyc = s.tse.cyc → a ≠ 0x1f → 3 ≤ (s.hnode a).miss ∨ s.get F.nodeStat_MODE a ∈ [9, 10, 11] ∨
        (s.hnode a).handover = true →
      ∃ u : State, exec .gmbPromote s = .next u.hrlFaults.quietEnd ∧ u.hRole = 1 ∧ u.get F.hrlStat_GMA = s.hIndex ∧
        u.get F.hrlStat_GMB = 0x1f ∧ u.get F.hrlMisc_ROLE_EPOCH = (s.get F.hrlMisc_ROLE_EPOCH + 1) % 65536) ∧
    (∀ kat loop : Bool, s.hRole = 2 → ∃ u : State, exec (.gmbSelftest kat loop) s = .next u.hrlFaults ∧
      u.getB F.kvcStat_KAT_OK = kat ∧ u.hrl.loopOk = loop) ∧
    (s.hState = 2 → s.getB F.hrlCfg_GM_CAPABLE = true → s.hrl.ringHeard = false → s.hrl.claimed.length ≤ 15 →
      (∀ x ∈ s.hrl.claimed, x.2.1 = true → ownId ≤ x.1) → s.hrl.aloneAt + 45000000 ≤ s.tse.cyc →
      ∃ (u : State) (p : List Byte), exec .stewardElect s = .next (u.hSend 7 17 0 false fun _ => p) ∧ u.isSteward = true ∧
        u.turn = 0 ∧ u.hrl.coin = some {} ∧ u.hIndex = (s.hrl.claimed.filter fun x => decide (x.1 < ownId)).length) ∧
    (∀ k < 16, s.isSteward = true → k ≠ s.hIndex → s.getB F.nodeStat_VALID k = true → s.hrl.rosterNext = none →
      3 ≤ (s.hnode k).miss ∨ s.repeatsOnly k = true →
      ∃ (u : State) (p : List Byte), exec (.memberRemove k) s = .next u ∧ u.hrl.rosterNext = some p ∧
        ∀ x ∈ rosterEntries p, x.2.1 ≠ k) ∧
    (let old := s.get F.hrlStat_STEWARD
     s.isMember = true → s.hrl.turnCyc = s.tse.cyc → old < 16 → old ≠ s.hIndex → 3 ≤ (s.hnode old).miss → s.heir = some s.hIndex →
      ∃ (u : State) (p : List Byte), exec .stewardTakeover s = .next u ∧ u.get F.hrlStat_STEWARD = s.hIndex ∧
        u.hrl.rosterNext = some p ∧ ∀ x ∈ rosterEntries p, x.2.1 ≠ old)

/-- Frames that arrive on a Hinge lane (R578–R580, R586, R589, R592, R595, R597–R599, R602–R605, R614–R617): what is repeated, and what a
delivered frame of each type leaves.
It rests on readings of the model: log entries 28, 47 and 55. -/
def Obligations.RingFramesAreTaken : Prop :=
  ∀ (s : State) (e delta : Nat) (f : List Byte),
    let p := hPay f
    (s.hState = 2 ∨ s.hState = 3 ∨ s.hState = 4 → e < 2 → s.hLink e = true → hType f = 2 →
      exec (.coinRx e f false) s = .next ((s.laneTally e 0).pulse 47 0 0xff false e) ∧
      (16 ≤ f.length → fnum f 14 2 = s.get F.hrlCfg_RING_ID → hAuth f = s.getB F.hrlCfg_AUTH → hAuth f = true →
        s.tagOk f = false → s.isOwnFrame f = false → hHops f < 15 →
        ∃ u : State, exec (.coinRx e f true) s = .next ((u.laneTally e 1).pulse 47 0 0xff false e) ∧ u.regs = s.regs ∧
          tabGet [] u.hrl.repeats (1 - e) =
            tabGet [] s.hrl.repeats (1 - e) ++ [(s.tse.cyc + 750, patch f 2 [byte ((hHops f + 1) * 16 + hOrigin f)])])) ∧
    (s.hTakes e f →
      (hType f = 2 → s.hState = 3 → s.isTwin f = false → s.get F.hrlStat_STEWARD ≠ 0x1f →
        s.nodeIdOf (s.get F.hrlStat_STEWARD) = fnum p 12 8 → s.isSteward = false →
        ∃ u : State, exec (.coinRx e f true) s = .next u ∧ u.hrl.coinSeen = true ∧ u.hrl.lastHolder = fb p 4 ∧
          u.hrl.coinNext = if fb p 5 = s.hIndex then
            some { seq := hSeq f, rotation := fnum p 0 4, vote := fb p 6 / 64, yes := fnum p 8 2, visited := fnum p 10 2 }
            else s.hrl.coinNext) ∧
      (hType f = 3 → s.hState = 3 → cpMarked p = false →
        let last := tabGet 0 s.hrl.lastAcc (hStream f)
        let item := BitVec.ofNat 64 (hSeq f * 2 ^ 32 + hStream f * 2 ^ 27 + hOrigin f * 2 ^ 23 + hLen f / 8) :: payWords (hLen f / 8) p
        (laterSerial 32 (hSeq f) last = true → hSeq f = (last + 1) % 2 ^ 32 → s.bulkRoom (hLen f / 8 + 1) = true →
          ∃ u : State, exec (.bulkRx e f true) s = .next u ∧ tabGet 0 u.hrl.lastAcc (hStream f) = hSeq f ∧
            u.hrl.rxf = s.hrl.rxf.add item) ∧
        (laterSerial 32 (hSeq f) last = true → hSeq f ≠ (last + 1) % 2 ^ 32 → ∃ u : State, exec (.bulkRx e f true) s = .next u ∧
          u.hrl.lastAcc = s.hrl.lastAcc ∧ u.hrl.rxf = s.hrl.rxf ∧ .node (hOrigin f) 2 ∈ u.sup.bumps) ∧
        (laterSerial 32 (hSeq f) last = false → ∃ u : State, exec (.bulkRx e f true) s = .next u ∧
          u.hrl.lastAcc = s.hrl.lastAcc ∧ u.hrl.rxf = s.hrl.rxf ∧ (hRep f = true → .node (hOrigin f) 1 ∈ u.sup.bumps))) ∧
      (hType f = 4 → s.hState = 3 → s.isTwin f = false → ∃ u : State, exec (.ackRx e f true) s = .next u ∧
        (u.hnode (hOrigin f)).acks = (List.range 17).map (fun j => fnum p (4 * j) 4) ∧
        ∀ x ∈ u.hrl.own, x.sent.isSome = true → ∃ k ∈ u.ackers, u.acked k u.hIndex x.seq = false) ∧
      (∀ k : Nat, hType f = 5 → s.hState = 3 → s.isTwin f = false → s.indexOf (fnum p 0 8) = some k → hHops f ≠ 0 →
        ∃ u : State, exec (.healthRx e delta f true) s = .next u.hrlFaults ∧ u.get F.nodeStat_MODE k = fb p 8 / 16 ∧
          u.get F.nodeStat_ROLE k = fb p 8 / 4 % 4 ∧ u.get F.nodeStat_PRIO k = fb p 9 % 16 ∧
          u.getB F.nodeStat_OK k = decide (128 ≤ fb p 10) ∧ u.get F.nodeStat_BOUND k = fnum p 12 2 ∧
          (u.hnode k).heard = true ∧ (u.hnode k).miss = 0 ∧ (u.hnode k).east = fnum p 16 8) ∧
      (hType f = 6 → s.isTwin f = false →
        let x := (fnum p 0 8, fb p 8 / 128 == 1, fb p 9 % 16)
        (s.hState = 2 → ∃ u : State, exec (.claimRx e f true) s = .next u ∧
          u.hrl.claimed = x :: s.hrl.claimed.filter fun y => y.1 != x.1) ∧
        (s.isSteward = true → fb p 8 / 64 % 2 = 1 → s.indexOf x.1 = none → ∃ u : State, exec (.claimRx e f true) s = .next u ∧
          u.hrl.joining = (s.hrl.joining.filter fun y => y.1 != x.1) ++ [x])) ∧
      (∀ (j : Nat) (x : Nat × Nat × Bool × Bool × Nat), hType f = 7 → s.hState = 2 → s.isTwin f = false →
        (rosterEntries p).find? (fun x => x.1 == ownId) = some x → x.2.1 = j →
        (laterSerial 32 (fnum p 8 4) (hTurn f) = false → ∃ u : State, exec (.rosterRx e f true) s = .next u.hrlFaults ∧
          u.hState = 3 ∧ u.hIndex = j ∧ u.get F.hrlStat_STEWARD = fb p 1 % 16 ∧ u.turn = fnum p 8 4 ∧
          u.get F.hrlMisc_ROLE_EPOCH = fnum p 2 2) ∧
        (laterSerial 32 (fnum p 8 4) (hTurn f) = true → ∃ u : State, exec (.rosterRx e f true) s = .next u ∧
          u.hrl.rosterNext = some p ∧ u.hState = 2)) ∧
      (hType f = 8 → s.hState = 3 → s.isTwin f = false → ∃ u : State, exec (.wakeRx e f true) s = .next u ∧
        u.hrl.wakeSeen = true ∧ u.getB F.hrlStat_QUIET = false) ∧
      (hType f = 9 → s.hState = 3 → s.isTwin f = false → ∃ u : State, exec (.quietRx e f true) s = .next u ∧
        u.get F.hrlMisc_QUIET_TURN = fnum p 0 4 ∧
        (if laterSerial 32 (fnum p 0 4) s.turn then u.hrl.quietAt = some (fnum p 0 4) else u.getB F.hrlStat_QUIET = true)) ∧
      (∀ h d a : Nat, ∀ ok : Bool, hType f = 1 → s.hState = 3 → s.paces = false →
        s.pathFrom (hDir f) 17 (hOrigin f) = some (h, d, a, ok) →
        (hHops f + 1 ≠ h → ∃ u : State, exec (.timeMarkRx e delta f true) s = .next ((u.laneTally e 2).pulse 47 0 0xff false e) ∧ u.regs = s.regs) ∧
        (hHops f + 1 = h → laterSerial 32 (hSeq f) s.turn = true → (s.markRoles f).markValid f = true →
          fb p 1 / 64 = 1 ∨ fb p 1 / 64 = 2 →
          ∃ u : State, exec (.timeMarkRx e delta f true) s = .next u.hrlFaults ∧ u.turn = hSeq f ∧ u.hrl.markHeard = true ∧
            u.hrl.markMiss = 0))) ∧
    (∀ (m h d a : Nat) (at' : List (Nat × Int)) (x : HEntry) (inst : Int), s.ringDoms = [0] → s.sampleFrom f = true → 1 ≤ h →
      s.pathFrom (hDir f) 17 (hOrigin f) = some (h, d, a, true) → (m + 1) % 2 ^ 32 = hSeq f → s.hrl.sampled ≠ some (hSeq f) →
      fb p 12 % 2 = 0 → s.getB F.hLaneStat_DLM_VALID e = true → (markRead p).head? = some x → x.dom = 0 → x.traced = true →
      at'.find? (fun y => y.1 == 0) = some (0, inst) →
      let q := ticksOfTv x.time + (d + (h - 1) * 157286400) - inst
      ∃ u : State, s.markSample e f (some (m, at')) = u.offerSample cRing
        { inst := inst, p := q, src := boundSum [ecodeBound x.bound, a], ref := 78644, steer := s.steerTicks,
          rate := trendRate ((hSeq f, inst, q) :: s.hrl.trend.filter fun y => decide ((hSeq f + 2 ^ 32 - y.1) % 2 ^ 32 ≤ 100)) } ∧
        u.regs = s.regs ∧ u.hrl.sampled = some (hSeq f))

/-- Turns, and the frames that a node originates in them (R570, R575, R585–R588, R595–R597, R599, R600, R603, R609): every frame carries the
header of R575, and each row sends what its node may send.
It rests on readings of the model: log entry 55. -/
def Obligations.RingTurnsRun : Prop :=
  (∀ (s : State) (e ty stream seq : Nat) (rep : Bool) (pay : List Byte), e < 2 → 1 ≤ ty → ty ≤ 9 → stream < 32 → seq < 2 ^ 32 →
    pay.length % 8 = 0 → pay.length ≤ 1024 →
    let f := s.hFrame e ty stream seq rep pay
    hForm f = true ∧ hType f = ty ∧ hDir f = e ∧ hRep f = rep ∧ hStream f = stream ∧ hSeq f = seq ∧
      hTurn f = s.turn ∧ hPay f = pay ∧ fnum f 14 2 = s.get F.hrlCfg_RING_ID ∧ hAuth f = (s.getB F.hrlCfg_AUTH && s.canTag) ∧
      (s.hIndex < 16 → hOrigin f = s.hIndex ∧ hHops f = 0) ∧ (hAuth f = true → s.tagOk f = true)) ∧
  (∀ s : State,
    (s.paces = true → s.hrl.turnCyc + s.turnLen ≤ s.tse.cyc → ∃ u : State, exec .turnStart s = .next u.hrlFaults ∧ u.turn = (s.turn + 1) % 2 ^ 32) ∧
    (s.paces = false → exec .turnStart s = .next s) ∧
    (s.hState = 3 ∨ s.hState = 4 → s.paces = false → s.hrl.turnCyc + s.turnLen + 64 ≤ s.tse.cyc → ∃ u : State,
      exec .turnTimeout s = .next u.hrlFaults ∧ u.turn = (s.turn + 1) % 2 ^ 32) ∧
    (∀ e : Nat, ∃ u : State, exec (.frameRepeat e) s = .next u ∧
      tabGet [] u.hrl.repeats e = (tabGet [] s.hrl.repeats e).filter (fun x => decide (s.tse.cyc < x.1)) ∧
      (∀ f : List Byte, (tabGet [] s.hrl.repeats e).find? (fun x => x.1 == s.tse.cyc) = some (s.tse.cyc, f) → s.hLink e = true →
        u.out = .hinge e f :: s.out) ∧
      ((∀ x ∈ tabGet [] s.hrl.repeats e, x.1 ≠ s.tse.cyc) ∨ s.hLink e = false → u.out = s.out)) ∧
    (∀ (dE dW role : Nat), s.marks = some role → s.turnDue 1 0 = true → ∃ u : State, exec (.timeMarkSend dE dW) s = .next u ∧
      u.out = s.ringOut 1 16 s.turn false (s.markPay role) ++ s.out) ∧
    (∀ dE dW : Nat, s.marks = none → ∃ u : State, exec (.timeMarkSend dE dW) s = .next u ∧ u.out = s.out ∧ u.hrl.departed = []) ∧
    (∀ dE dW : Nat, s.hState = 3 → s.hIndex ≠ 0x1f → s.turnDue 5 500 = true →
      ∃ u : State, exec (.healthSend dE dW) s = .next u.hrlFaults ∧
        u.out = s.ringOut 5 s.hIndex s.turn false ((s.showHop 0).showHop 1).healthPay ++ s.out) ∧
    (∀ dE dW : Nat, s.hState = 4 → s.turnDue 5 500 = true → ∃ (u : State) (x : Nat), exec (.healthSend dE dW) s = .next u ∧
      u.out = s.ringOut 5 x s.turn false ((s.showHop 0).showHop 1).healthPay ++ s.out) ∧
    (s.hState = 3 → s.turnDue 4 750 = true → ∃ u : State, exec .ackSend s = .next u ∧ u.out = s.ringOut 4 s.hIndex s.turn false (fun _ =>
      ((List.range 17).map fun k => beBytes 4 (tabGet 0 s.hrl.lastAcc k)).flatten ++ List.replicate 4 0#8) ++ s.out) ∧
    (s.hState = 2 → (∀ t ∈ s.hrl.claimAt, t + 1250000 ≤ s.tse.cyc) → ∃ u : State, exec .claimSend s = .next u ∧ u.hrl.claimSeq = (s.hrl.claimSeq + 1) % 2 ^ 32 ∧
      u.out = (s.setHrl { s.hrl with claimSeq := (s.hrl.claimSeq + 1) % 2 ^ 32 }).ringOut 6 31 s.hrl.claimSeq false (fun _ =>
        beBytes 8 ownId ++ [byte ((if s.getB F.hrlCfg_GM_CAPABLE then 128 else 0) + if s.hrl.ringHeard then 64 else 0),
          byte (s.get F.hrlCfg_PRIO)] ++ List.replicate 6 0#8) ++ s.out) ∧
    (s.hState = 3 → s.hrl.coin.isSome = true → s.getB F.hrlStat_QUIET = false → s.get F.hrlStat_STEWARD ≠ 0x1f →
      s.hrl.turnCyc + 1250 ≤ s.tse.cyc → s.tse.cyc ≤ s.hrl.turnCyc + 10750 →
      (let l := (s.hrl.own.filter fun x => x.sent.isNone).take (16 - s.hrl.sentOwn)
       ∃ u : State, exec .bulkSend s = .next u ∧ u.hrl.sentOwn = s.hrl.sentOwn + l.length ∧
        ∀ x ∈ l, ∃ y ∈ u.hrl.own, y.seq = x.seq ∧ y.payload = x.payload ∧ y.sent = some s.turn) ∧
      (let l := (s.stale s.hrl.own).take (16 - s.hrl.sentOwn)
       ∃ u : State, exec (.bulkRetransmit false) s = .next u ∧ u.hrl.sentOwn = s.hrl.sentOwn + l.length ∧
        ∀ x ∈ l, ∃ y ∈ u.hrl.own, y.seq = x.seq ∧ y.payload = x.payload ∧ y.sent = some s.turn)) ∧
    (s.hRole = 1 → s.getB F.hrlStat_QUIET = false → s.hrl.turnCyc + 1250 ≤ s.tse.cyc →
      (let l := (s.hrl.gms.filter fun x => x.sent.isNone).take (4 - s.hrl.sentGm)
       ∃ u : State, exec .gmStreamSend s = .next u ∧ u.hrl.sentGm = s.hrl.sentGm + l.length ∧
        ∀ x ∈ l, ∃ y ∈ u.hrl.gms, y.seq = x.seq ∧ y.payload = x.payload ∧ y.sent = some s.turn) ∧
      (let l := (s.stale s.hrl.gms).take (4 - s.hrl.sentGm)
       s.hState = 3 → ∃ u : State, exec (.bulkRetransmit true) s = .next u ∧ u.hrl.sentGm = s.hrl.sentGm + l.length ∧
        ∀ x ∈ l, ∃ y ∈ u.hrl.gms, y.seq = x.seq ∧ y.payload = x.payload ∧ y.sent = some s.turn)) ∧
    (s.hRole = 2 → s.mode = .standby → s.getB F.hrlStat_QUIET = false → s.hrl.turnCyc + 1250 ≤ s.tse.cyc → ∃ u : State, exec .gmStreamSend s = .next u ∧
      u.hrl.copies = s.hrl.copies.drop (4 - s.hrl.sentGm) ∧ u.hrl.gms = s.hrl.gms) ∧
    (∀ (x : Coin) (j : Nat), s.hrl.coin = some x → s.isMember = true → s.nextEast 17 s.hIndex = some j → x.vote = 0 →
      s.hrl.voteAsk = false ∨ s.isSteward = false → s.get F.hrlStat_STEWARD ≠ 0x1f → s.hrl.turnCyc + 11250 ≤ s.tse.cyc →
      let home : Bool := decide (j = s.hIndex) && s.isSteward
      let rot := if home then (x.rotation + 1) % 2 ^ 32 else x.rotation
      ∃ u : State, exec .coinSend s = .next u ∧ u.hrl.coin = none ∧ u.hrl.coinSeen = true ∧ u.hrl.lastHolder = s.hIndex ∧
        u.hrl.lastRotation = rot ∧ (j ≠ s.hIndex → u.hrl.coinNext = s.hrl.coinNext) ∧
        (j = s.hIndex → u.hrl.coinNext = some { x with seq := (x.seq + 1) % 2 ^ 32, rotation := rot })) ∧
    (∀ j : Nat, s.isSteward = true → 4 ≤ s.hrl.coinMiss → s.hrl.coin = none → s.hrl.coinNext = none →
      s.nextEast 17 s.hrl.lastHolder = some j → ∃ u : State, exec .coinRemint s = .next u ∧ u.hrl.coinMiss = 0 ∧
        u.hrl.lastRotation = (s.hrl.lastRotation + if j = s.hIndex then 2 else 1) % 2 ^ 32))

/-- A read of a register answers its word and clears the RC fields that lie wholly within the half addressed, and nothing else (R13,
R815), XC_PEAK of TSV_STAT then showing the XCs in use; a capture and a FIFO behave as their own rules say (R70, R72, R73, R186, R367,
R368, R816). -/
def Obligations.RegisterReadsAnswer : Prop :=
  (∀ (f : Fifo) (k : Nat) (w : Word) (l : List Word) (r : List (List Word)),
    (f.cur = w :: l → f.read k .full = some (w, { f with cur := l, lastEnd := l.isEmpty })) ∧
    (f.cur = [] → f.items = (w :: l) :: r → f.read k .full = some (w, { f with items := r, cur := l, lastEnd := l.isEmpty })) ∧
    (f.cur = [] → f.items = [] → f.read k .full = none ∧ f.read k .low = none) ∧
    (∀ g : Fifo, f.read k .full = some (w, g) → ∃ x : Fifo, f.read k .low = some (w &&& 0xffffffff, x) ∧
      x.read k .high = some (w >>> 32, x) ∧ x.cur = g.cur ∧ x.items = g.items ∧ x.lastEnd = g.lastEnd)) ∧
  ∀ (s : State) (m : Master) (h : Half),
    let acc (r : RegId) (i j : Nat) : Access := { m := m, write := false, addr := regAddr r i j, h := h }
    let stalled (r : RegId) (i j : Nat) : State :=
      s.setPar { s.par with stalls := tabSet none s.par.stalls (portCode m) (some (acc r i j)) }
    (∀ (r : RegId) (i j : Nat), i < (regInfo r).ni → j < (regInfo r).nj →
      let u := s.answered m r i j h
      ((∀ t : Nat, m ≠ .thread t) → u.out = .readData m (halfOf h (s.view m r i j)) :: s.out) ∧
      (∀ f ∈ (regInfo r).fields, bitsOf (u.rd r i j) f.1 f.2.1 =
        if f.2.2 = .rc ∧ (h = .full ∨ h = .low ∧ f.1 < 32 ∨ h = .high ∧ 32 ≤ f.2.1)
        then (if r = .tsvStat then s.get F.tsvStat_XC_BUSY else 0)
        else bitsOf (s.rd r i j) f.1 f.2.1) ∧
      ∀ (r' : RegId) (i' j' : Nat), i' < (regInfo r').ni → j' < (regInfo r').nj → (r', i', j') ≠ (r, i, j) →
        u.rd r' i' j' = s.rd r' i' j') ∧
    (∀ a b : Nat, ∀ x ∈ ([(.emuStatReadClear m a h, .emuStat, a, 0), (.gnbTstatReadClear m h, .gnbTstat, 0, 0),
        (.gnbNavStatReadClear m h, .gnbNavStat, 0, 0), (.synStatReadClear m a h, .synStat, a, 0),
        (.evoStatReadClear m a h, .evoStat, a, 0), (.dsqStatReadClear m h, .dsqStat, 0, 0),
        (.queueStatReadClear m a h, .qStat, a, 0), (.tsvStatReadClear m h, .tsvStat, 0, 0),
        (.tsvDropReadClear m a h, .tsvDrop, a, 0), (.tsvErrReadClear m a h, .tsvErr, a, 0),
        (.kvcCacheStatReadClear m h, .kvcCacheStat, 0, 0), (.vsPinsReadClear m a h, .vsPins, a, 0),
        (.hrlLtallyReadClear m h, .hrlLtally, 0, 0), (.nodeTallyReadClear m a h, .nodeTally, a, 0),
        (.parStatReadClear m h, .parStat, 0, 0), (.parFnStatReadClear m a h, .parFnStat, a, 0),
        (.parBusCntReadClear m h, .parBusCnt, 0, 0), (.ledgerStatReadClear m h, .supLedgerStat, 0, 0),
        (.fcntReadClear m a h, .supFcnt, a, 0), (.tbStatReadClear m a h, .tbStat, a, 0),
        (.tbPeakReadClear m a b h, .tbPeak, a, b), (.expStatReadClear m h, .npaExpStat, 0, 0),
        (.slgStatReadClear m a h, .slgPStat, a, 0), (.pwrClkCntReadClear m h, .pwrClkCnt, 0, 0),
        (.pwrDvfsReadClear m h, .pwrDvfs, 0, 0), (.pwrTempReadClear m h, .pwrTemp, 0, 0)] :
          List (Instr × RegId × Nat × Nat)),
      s.serves m x.2.1 x.2.2.1 x.2.2.2 = true → exec x.1 s = .next (s.answered m x.2.1 x.2.2.1 x.2.2.2 h)) ∧
    (∀ n : Nat, s.serves m .domTimeSec n 0 = true →
      (h ≠ .high → ∃ u : State, exec (.domainTimeCapture m n h) s = .next (u.busAnswer (acc .domTimeSec n 0) (halfOf h (u.cap m n).sec)) ∧
        (u.cap m n).bound.toNat = (s.dom n).bound % 2 ^ 64 ∧
        (u.cap m n).state.toNat = s.domStateWord n % 2 ^ 64 ∧ (u.cap m n).prov.toNat = provWord (s.dom n).prov % 2 ^ 64 ∧
        (0 ≤ s.startTicks n → s.startTicks n < timeSpan →
          (u.cap m n).sec.toNat = (s.startTicks n).toNat / Config.secTicks ∧
          bitsOf (u.cap m n).sub 47 18 = (s.startTicks n).toNat % Config.secTicks / 262144 ∧
          bitsOf (u.cap m n).sub 17 0 = (s.startTicks n).toNat % 262144) ∧
        (n = 0 → (u.cap m n).utc.toNat = codeOf 48 s.utcSec) ∧ u.regs = s.regs ∧
        ∀ (m' : Master) (k : Nat), k < 32 → (reqCode m', k) ≠ (reqCode m, n) → u.cap m' k = s.cap m' k) ∧
      (h = .high → exec (.domainTimeCapture m n h) s = .next (s.busAnswer (acc .domTimeSec n 0) ((s.cap m n).sec >>> 32)))) ∧
    (s.serves m .gnbTmsg 0 0 = true → h ≠ .high → ∃ u : State,
      exec (.gnbTmsgCapture m h) s = .next (u.busAnswer (acc .gnbTmsg 0 0) (halfOf h (s.rd .gnbTmsg 0))) ∧
      (∀ i < 4, u.tmsgCap m i = s.rd .gnbTmsg i) ∧ u.regs = s.regs) ∧
    (∀ a : Nat, s.serves m .emuFifo a 0 = true →
      (∀ (w : Word) (f : Fifo), (tabGet {} s.rim.emus a).fifo.read (halfKey m) h = some (w, f) → ∃ u : State,
        exec (.emuFifoRead m a h) s = .next (u.busAnswer (acc .emuFifo a 0) w) ∧ (tabGet {} u.rim.emus a).fifo = f ∧ u.regs = s.regs) ∧
      ((tabGet {} s.rim.emus a).fifo.read (halfKey m) h = none → exec (.emuFifoRead m a h) s = .next (stalled .emuFifo a 0))) ∧
    (s.serves m .gnbTapf 0 0 = true →
      (∀ (w : Word) (f : Fifo), s.gnb.tapf.read (halfKey m) h = some (w, f) → ∃ u : State,
        exec (.gnbTapfRead m h) s = .next (u.busAnswer (acc .gnbTapf 0 0) w) ∧ u.gnb.tapf = f ∧ u.regs = s.regs) ∧
      (s.gnb.tapf.read (halfKey m) h = none → exec (.gnbTapfRead m h) s = .next (stalled .gnbTapf 0 0))) ∧
    (∀ a : Nat, s.serves m .txtsFifo a 0 = true →
      (∀ (w : Word) (f : Fifo), (s.nport a).txts.read (halfKey m) h = some (w, f) → ∃ u : State,
        exec (.txtsFifoRead m a h) s = .next (u.busAnswer (acc .txtsFifo a 0) w) ∧ (u.nport a).txts = f ∧ u.regs = s.regs) ∧
      ((s.nport a).txts.read (halfKey m) h = none → exec (.txtsFifoRead m a h) s = .next (stalled .txtsFifo a 0))) ∧
    (s.serves m .hrlRxf 0 0 = true →
      (∀ (w : Word) (f : Fifo), s.hrl.rxf.read (halfKey m) h = some (w, f) → ∃ u : State,
        exec (.hrlRxfRead m h) s = .next (u.busAnswer (acc .hrlRxf 0 0) w) ∧ u.hrl.rxf = f ∧ u.regs = s.regs) ∧
      (s.hrl.rxf.read (halfKey m) h = none → exec (.hrlRxfRead m h) s = .next (stalled .hrlRxf 0 0))) ∧
    (s.serves m .supLedger 0 0 = true →
      (∀ (w : Word) (f : Fifo), s.sup.ledger.read (halfKey m) h = some (w, f) → ∃ u : State,
        exec (.supLedgerRead m h) s = .next (u.busAnswer (acc .supLedger 0 0) w) ∧ u.sup.ledger = f ∧ u.regs = s.regs) ∧
      (s.sup.ledger.read (halfKey m) h = none → exec (.supLedgerRead m h) s = .next (stalled .supLedger 0 0))) ∧
    (∀ q : Nat, s.serves m .qData q 0 = true → h ≠ .high →
      let a := s.qAssign q
      ((s.queue q).waiters = [] → a = s) ∧
      (a.qCanGet q m = true → ∃ u : State,
        exec (.queueDataRead m q h) s = .next (u.busAnswer (acc .qData q 0) (halfOf h (a.qHead q).1)) ∧
        (u.queue q).words = (a.queue q).words.drop 1 ∧ (u.queue q).lastEnd = (a.qHead q).2 ∧
        (u.queue q).claim = (if (a.qHead q).2 then none else some m) ∧ (u.queue q).rd = a.qStep q (a.queue q).rd 1 ∧
        (∀ k : Nat, k ≠ q → u.queue k = a.queue k) ∧ u.regs = a.regs) ∧
      (a.qCanGet q m = false → exec (.queueDataRead m q h) s = .next (stalled .qData q 0)))

/-- A write of a register takes effect after the commits of its cycle (R34): RW and RWE fields take the bits written, W1C bits
written as 1 clear, every other field and the other half stay (R13, R815); and each register's own rule follows (R42, R110, R363,
R365, R467, R476, R625, R645, R663, R668, R763, R764, R766, R820).
It rests on readings of the model: log entries 37 and 51. -/
def Obligations.RegisterWritesTakeEffect : Prop :=
  (∀ (r : RegId) (old data : Word) (h : Half), ∀ f ∈ (regInfo r).fields, ∀ b : Nat, f.2.1 ≤ b → b ≤ f.1 →
    let within := h = .full ∨ h = .low ∧ b < 32 ∨ h = .high ∧ 32 ≤ b
    let sent := (halfData h data).getLsbD b
    let now := (mergeWord false old (halfData h data) (halfMask h) (regInfo r).fields).getLsbD b
    (within → f.2.2 = .rw ∨ f.2.2 = .rwe → now = sent) ∧ (within → f.2.2 = .w1c → now = (old.getLsbD b && !sent)) ∧
      (¬ within ∨ f.2.2 = .rc ∨ f.2.2 = .wo → now = old.getLsbD b)) ∧
  (∀ (s : State) (m : Master) (h : Half) (data : Word) (r : RegId) (i j : Nat), r ≠ .supFstat0 → r ≠ .supPfstat → r ≠ .supHb →
    r ≠ .qPush → r ≠ .qPushEnd →
    let u := s.drainDue
    let new := u.fixed (u.whoOf m) r i (u.cell r i j) (mergeWord false (u.cell r i j) (halfData h data) (halfMask h) (regInfo r).fields)
    (u.mayWrite (u.whoOf m) r i = false ∨ u.refuses r i j (u.cell r i j) new = true → s.stored m r i j h data = u) ∧
    (u.mayWrite (u.whoOf m) r i = true → u.refuses r i j (u.cell r i j) new = false →
      s.stored m r i j h data =
        ((u.store r i j new).written r i j (u.cell r i j) (halfData h data &&& halfMask h)).noteDirect r i j (halfMask h))) ∧
  ∀ (s : State) (m : Master) (h : Half) (data : Word) (a b : Nat),
    (∀ (r : RegId) (i j : Nat), s.serves m r i j = true →
      exec (.registerWrite m .map (regAddr r i j) h data) s = .next (s.stored m r i j h data)) ∧
    (∀ x ∈ ([(.inputCfgWrite m a false h data, .inCfg, a, 0), (.inputCfgWrite m a true h data, .inNom, a, 0),
        (.gspCfgWrite m a false h data, .gspCfg, a, 0), (.gspCfgWrite m a true h data, .gspLo, a, 0),
        (.queuePush m a h data, .qPush, a, 0), (.queuePushEnd m a h data, .qPushEnd, a, 0),
        (.queueCfgWrite m a h data, .qCfg, a, 0), (.slgRingEnable m a false h data, .slgPringCfg, a, 0),
        (.slgRingEnable m a true h data, .slgCringCfg, a, 0), (.tsvTableEnable m false h data, .tsvAssoc, 0, 0),
        (.tsvTableEnable m true h data, .tsvPolice, 0, 0), (.partitionEnableWrite m a h data, .parPtCfg, a, 0),
        (.ringDoorbell m a b h data, .ringSqIdx, a, b), (.ringEnable m a b h data, .ringCfg, a, b),
        (.faultDeviceClear m h data, .supFstat0, 0, 0), (.faultPartitionClear m a h data, .supPfstat, a, 0),
        (.heartbeatWrite m h data, .supHb, 0, 0), (.peripheralEnableWrite m h data, .pwrEn, 0, 0),
        (.fmcStart m h data, .pwrFmcCtl, 0, 0), (.dvfsTargetWrite m h data, .pwrDvfs, 0, 0)] :
          List (Instr × RegId × Nat × Nat)),
      s.serves m x.2.1 x.2.2.1 x.2.2.2 = true → exec x.1 s = .next (s.stored m x.2.1 x.2.2.1 x.2.2.2 h data)) ∧
    (let w := s.drainDue
     let who := w.whoOf m
     let got (r : RegId) (i j : Nat) : State := s.stored m r i j .full data
     (∀ q : Nat, who.pt0 = true ∨ who.part = w.get F.qCfg_PART q → (w.queue q).waiters = [] →
       (w.qCanPut q m = true → (w.queue q).held = none →
         ((got .qPush q 0).queue q).words = (w.queue q).words ++ [(data, false)] ∧
         ((got .qPushEnd q 0).queue q).words = (w.queue q).words ++ [(data, true)] ∧
         ((got .qPushEnd q 0).queue q).opn = none) ∧
       (w.qCanPut q m = false →
         got .qPush q 0 = (w.bump F.qStat_DROPPED 1 q).pulse 26 (w.get F.qCfg_PART q) (match m with | .thread t => t | _ => 0xff) ∧ got .qPushEnd q 0 = got .qPush q 0)) ∧
     (∀ q < 256, who.pt0 = true → w.qCfgRefused q data = false → ((got .qCfg q 0).queue q) = {} ∧
       (got .qCfg q 0).getB F.qCfg_EN q = data.getLsbD 31 ∧ (got .qCfg q 0).get F.qCfg_PART q = bitsOf data 26 24 ∧
       (got .qCfg q 0).get F.qCfg_DEPTH q = bitsOf data 23 20 ∧ (got .qCfg q 0).get F.qCfg_BASE q = bitsOf data 14 0) ∧
     (∀ p < 8, who.pt0 = true ∨ who.part = p → data.getLsbD 0 = true →
       (w.getB F.slgPringCfg_EN p = false → 4 ≤ bitsOf data 5 1 → bitsOf data 5 1 ≤ 20 →
         (got .slgPringCfg p 0).getB F.slgPringCfg_EN p = true ∧ (got .slgPringCfg p 0).rd .slgPringIdx p = 0) ∧
       (w.getB F.slgCringCfg_EN p = false → 2 ≤ bitsOf data 5 1 → bitsOf data 5 1 ≤ 10 →
         (got .slgCringCfg p 0).getB F.slgCringCfg_EN p = true ∧ (got .slgCringCfg p 0).rd .slgCringIdx p = 0)) ∧
     (who.pt0 = true → data.getLsbD 7 = true →
       (w.getB F.tsvAssoc_EN = false → (got .tsvAssoc 0 0).tsv.assocs = [] ∧ (got .tsvAssoc 0 0).getB F.tsvAssoc_EN = true) ∧
       (w.getB F.tsvPolice_EN = false → (got .tsvPolice 0 0).tsv.police = [] ∧ (got .tsvPolice 0 0).getB F.tsvPolice_EN = true)) ∧
     (∀ p : Nat, 1 ≤ p → p < 8 → who.pt0 = true → w.resetting p = false →
       (data.getLsbD 0 = true → w.enabled p = false → (got .parPtCfg p 0).enabled p = true) ∧
       (data.getLsbD 0 = false → w.getB F.parPtCfg_EN p = true → w.enabled p = true →
         (got .parPtCfg p 0).resetting p = true ∧ (got .parPtCfg p 0).enabled p = false)) ∧
     (∀ f r : Nat, f < 9 → r < 4 → who.pt0 = true ∨ who.fn = some f →
       (let n := (bitsOf data 31 0 + 2 ^ 32 - w.get F.ringSqIdx_SQ_CONS f r) % 2 ^ 32
        let t := got .ringSqIdx f r
        t.get F.ringSqIdx_SQ_PROD f r = bitsOf data 31 0 ∧ t.get F.ringSqIdx_SQ_CONS f r = w.get F.ringSqIdx_SQ_CONS f r ∧
        (w.getB F.ringCfg_EN f r = true → w.getB F.ringCfg_HALT f r = false → 2 ^ w.get F.ringCfg_SIZE f r < n →
          t.getB F.ringCfg_ERR f r = true ∧ t.getB F.ringCfg_HALT f r = true)) ∧
       (data.getLsbD 0 = true → w.getB F.ringCfg_EN f r = false → 4 ≤ bitsOf data 11 8 → bitsOf data 11 8 ≤ 12 →
         let t := got .ringCfg f r
         t.getB F.ringCfg_EN f r = true ∧ t.rd .ringSqIdx f r = 0 ∧ t.rd .ringCqIdx f r = 0 ∧ t.getB F.ringCfg_ERR f r = false ∧
         t.getB F.ringCfg_HALT f r = (w.resetting (partOfFn f) && decide (f ≠ 0)) ∧ t.get F.ringCfg_SIZE f r = bitsOf data 11 8)) ∧
     (∀ n < 64, n ≠ 26 → who.pt0 = true →
       (got .supFstat0 0 0).dSticky n = (w.dSticky n && !(data.getLsbD n && w.liveOf n == 0))) ∧
     (∀ p < 8, ∀ n < 64, n ≠ 26 → who.pt0 = true ∨ who.part = p →
       (got .supPfstat p 0).pSticky n p = (w.pSticky n p && !(data.getLsbD n && !w.fLive n p))) ∧
     (∀ k : Nat, m = .cp k → (got .supHb 0 0).sup.hbExpired = false) ∧
     (who.pt0 = true →
       let enables := [0, 1, 2, 3, 4, 5, 6, 7, 8, 9, 10, 11, 12, 13, 14, 15, 20, 21, 23, 24, 25, 26, 27]
       let ends (n : Nat) : Prop := (w.rd .pwrEn).getLsbD n = true ∧ data.getLsbD n = false
       ((∀ n ∈ enables, ends n → w.enInUse n = false) → ∀ n ∈ enables,
         ((got .pwrEn 0 0).rd .pwrEn).getLsbD n = data.getLsbD n) ∧
       (∀ n ∈ enables, ends n → w.enInUse n = true → got .pwrEn 0 0 = w) ∧
       (data.getLsbD 63 = true → w.get F.pwrFmcCtl_STATE ≠ 1 → (got .pwrFmcCtl 0 0).get F.pwrFmcCtl_STATE = 1) ∧
       (got .pwrDvfs 0 0).get F.pwrDvfs_TARGET = bitsOf data 1 0 ∧ (got .pwrDvfs 0 0).get F.pwrDvfs_THERM_CAP = bitsOf data 13 12))

/-- Partitions, resets of functions, command rings, interrupts and the bus watchdog (R625, R626, R631, R633–R636, R641–R647, R651, R656,
R671, R699): each command and event has the effect of its rule.
It rests on readings of the model: log entries 42, 43 and 50. -/
def Obligations.PartitionAndHostEventsComplete : Prop :=
  ∀ s : State,
    (∀ (c : Caller) (p : Nat), 1 ≤ p → p < 8 → s.admitsOwner c 0xa0 = true → s.enabled p = true → s.resetting p = false →
      ∃ u : State, exec (.partReset c p) s = .next u ∧ u.resetting p = true ∧ u.enabled p = false ∧
        (∀ r < 4, u.getB F.ringCfg_HALT (fnOfPart p) r = true) ∧ (∀ t < 128, s.thrPart t = p → u.thrState t = 0) ∧
        tabGet none u.par.jobs p = some { callers := [c] } ∧ u.tse.doms = s.tse.doms ∧ u.dsq.images = s.dsq.images) ∧
    (∀ p < 8, s.resetting p = true → s.drains p = false → ∃ u : State,
      exec (.partitionResetComplete p) s = .next
        (((((tabGet none s.par.jobs p).getD {}).callers.foldl (fun v c => v.complete c 0xa0 .ok) u)).refresh 1) ∧
      u.resetting p = false ∧ (s.getB F.parPtCfg_EN p = true → u.enabled p = true) ∧
      (s.getB F.parPtCfg_EN p = false → u.enabled p = s.enabled p) ∧ tabGet none u.par.jobs p = none ∧
      (∀ r < 4, u.getB F.ringCfg_EN (fnOfPart p) r = false) ∧ tabGet [] u.par.hist (fnOfPart p) = [] ∧
      (∀ q < 256, s.get F.qCfg_PART q = p → (u.queue q).words = [] ∧ u.rd .qCfg q = s.rd .qCfg q) ∧
      (∀ k < 4, u.get F.escStat_STATE (4 * p + k) = 0) ∧ u.tse.doms = s.tse.doms ∧ u.dsq.images = s.dsq.images) ∧
    (s.deaf = false → s.par.perstLow = false →
      let cleared (u : State) (f : Nat) : Prop := (∀ r < 4, u.rd .ringCfg f r = 0 ∧ u.rd .ringSqBase f r = 0 ∧
        u.rd .ringCqBase f r = 0 ∧ u.rd .ringSqIdx f r = 0 ∧ u.rd .ringCqIdx f r = 0) ∧ tabGet [] u.par.hist f = [] ∧
        tabGet {} u.par.msixCtl f = {} ∧ ∀ v < 2048, u.msixEntry f v = {}
      (∃ u : State, exec (.functionLevelReset 0) s = .next (u.refresh 1) ∧ (∀ f < 9, cleared u f) ∧ u.tse = s.tse ∧ u.dsq = s.dsq) ∧
      (∃ u : State, exec (.functionLevelReset 1) s = .next (u.refresh 1) ∧ cleared u 1 ∧ u.tse = s.tse ∧ u.dsq = s.dsq ∧
        ∀ f < 9, f ≠ 1 → ∀ r < 4, u.rd .ringCfg f r = s.rd .ringCfg f r ∧ tabGet [] u.par.hist f = tabGet [] s.par.hist f) ∧
      (∀ f : Nat, 2 ≤ f → f ≤ 8 → tabGet none s.par.jobs (f - 1) = none → s.enabled (f - 1) = true →
        ∃ u : State, exec (.functionLevelReset f) s = .next u ∧ u.resetting (f - 1) = true ∧ u.enabled (f - 1) = false ∧
          (∀ t < 128, s.thrPart t = f - 1 → u.thrState t = 0) ∧ u.tse.doms = s.tse.doms) ∧
      exec .perstAssert s = .next (s.setPar { s.par with perstLow := true }) ∧ exec .perstRelease s = .next s) ∧
    (s.par.perstLow = true → ∃ u : State, exec .perstRelease s = .next (u.refresh 1) ∧ u.par.perstLow = false ∧ u.tse = s.tse ∧
      u.syn = s.syn ∧ u.dsq = s.dsq ∧ ∀ f < 9, tabGet [] u.par.hist f = [] ∧ ∀ r < 4, u.rd .ringCfg f r = 0 ∧ u.rd .ringSqIdx f r = 0) ∧
    (∀ (f r : Nat) (e ext : List Byte), s.ringReady f r = true →
      let st : Started := { cmdId := entryId e, opcode := entryOp e, indirect := entryIndirect e, bufLen := entryBufLen e,
                            buf := entryBuf e, sqIndex := s.get F.ringSqIdx_SQ_CONS f r, hash := s.entryHash e ext }
      let seen := (tabGet [] s.par.hist f).find? fun h => entryId e != 0 && h.cmdId == entryId e
      let ends (st' ost len : Nat) (res : List Byte) : Prop := ∃ u : State, exec (.commandStart f r e ext) s = .next u ∧
        .completion f r st.cmdId st' st.opcode 0 ost len st.sqIndex (if !st.indirect && decide (res.length ≤ 48) then res else []) ∈ u.out ∧
        u.started f r = none ∧ u.get F.ringSqIdx_SQ_CONS f r = (st.sqIndex + 1) % 2 ^ 32 ∧
        u.get F.ringCqIdx_CQ_PROD f r = (s.get F.ringCqIdx_CQ_PROD f r + 1) % 2 ^ 32
      (e.length ≠ 128 → ∃ u : State, exec (.commandStart f r e ext) s = .next u ∧ u.getB F.ringCfg_ERR f r = true ∧
        u.getB F.ringCfg_HALT f r = true ∧ u.started f r = none) ∧
      (e.length = 128 → s.idBusy f (entryId e) = true → exec (.commandStart f r e ext) s = .next s) ∧
      (e.length = 128 → s.idBusy f (entryId e) = false → s.mode ≠ .boot → s.entryOk e = true → seen = none →
        ∃ u : State, exec (.commandStart f r e ext) s = .next u ∧ u.started f r = some st ∧ u.out = s.out ∧
          u.get F.ringSqIdx_SQ_CONS f r = (st.sqIndex + 1) % 2 ^ 32) ∧
      (s.resetting (partOfFn f) = false → e.length = 128 → s.idBusy f (entryId e) = false →
        (s.mode = .boot → ends 3 0 0 []) ∧
        (s.mode ≠ .boot → s.entryOk e = false → ends 2 0 0 []) ∧
        (s.mode ≠ .boot → s.entryOk e = true → ∀ h : Hist, seen = some h →
          (h.hash = st.hash → ends 9 0 (if h.resultLen ≤ 256 then h.resultLen else 0) h.result) ∧
          (h.hash ≠ st.hash → ends 2 0 0 [])))) ∧
    (∀ f ≤ 8, s.par.perstLow = false → s.deaf = false → (tabGet {} s.par.msixCtl f).en = true →
      (∀ v < 2048, (tabGet {} s.par.msixCtl f).fmask = false →
        ∃ u : State, exec (.msixUnmask f (some v)) s = .next u ∧ u.regs = s.regs ∧ (u.msixEntry f v).masked = false ∧
          (u.msixEntry f v).pend = false ∧
          u.out = if (s.msixEntry f v).pend then .msix f v (s.msixEntry f v).addr (s.msixEntry f v).data :: s.out else s.out) ∧
      (∃ u : State, exec (.msixUnmask f none) s = .next u ∧ (tabGet {} u.par.msixCtl f).fmask = false ∧ u.regs = s.regs ∧
        ∀ v < 2048, (s.msixEntry f v).pend = true → (s.msixEntry f v).masked = false → (u.msixEntry f v).pend = false ∧
          .msix f v (s.msixEntry f v).addr (s.msixEntry f v).data ∈ u.out)) ∧
    (∀ (f addr : Nat) (write : Bool), f ≤ 8 → s.par.perstLow = false → s.deaf = false → s.fnReaches f addr = false →
      ∃ u : State, exec (.windowDeny f addr write) s = .next u ∧ u.get F.parFnStat_DENY f = min (2 ^ 32 - 1) (s.get F.parFnStat_DENY f + 1) ∧
        u.out = (if write then s.out else .unsupported (.fn f) :: s.out) ∧ { u with out := s.out, regs := s.regs } = s ∧
        (write = true → ∀ (h : Half) (data : Word), exec (.registerWrite (.fn f) .map addr h data) s = .next u)) ∧
    (∀ (code addr : Nat) (job : DmaJob) (a : Access), code < 10 → s.cpx.inReset = false → tabGet none s.par.stalls code = some a →
      ∃ u : State, exec (.busWatchdogExpire code job addr) s = .next (u.replay code) ∧ tabGet none u.par.stalls code = none ∧
        u.get F.parBusHung_MASTER = code ∧ u.getB F.parBusHung_WRITE = a.write ∧ u.get F.parBusHung_ADDR = a.addr % 2 ^ 48 ∧
        u.get F.parBusCnt_HUNG = min (2 ^ 32 - 1) (s.get F.parBusCnt_HUNG + 1) ∧ u.dSticky 56 = true ∧
        (∀ k : Nat, a.m = .cp k → a.write = false → .nmi 1 a.addr ∈ u.out) ∧
        (∀ f : Nat, a.m = .fn f → a.write = false → .unsupported (.fn f) ∈ u.out) ∧
        (∀ t : Nat, a.m = .thread t → t < 128 → s.isStarted t = true → u.thrState t = 7 ∧
          u.rd .thrExcData t = BitVec.ofNat 64 a.addr ∧ bitsOf (u.rd .thrExc t) 63 56 = 5)) ∧
    (∀ addr f r : Nat, f < 9 → r < 4 → s.cpx.inReset = false →
      (∃ u : State, exec (.busWatchdogExpire 10 (.fetch f r) addr) s = .next u ∧ u.getB F.ringCfg_ERR f r = true ∧
        u.getB F.ringCfg_HALT f r = true ∧ u.dSticky 56 = true) ∧
      (∀ x : Started, s.started f r = some x →
        (∃ u : State, exec (.busWatchdogExpire 10 (.payload f r) addr) s = .next (u.completeRing f r x.opcode .timeout []) ∧
          u.dSticky 56 = true ∧ u.started f r = some x) ∧
        (∃ u : State, exec (.busWatchdogExpire 10 (.result f r) addr) s = .next u ∧ u.dSticky 56 = true ∧
          u.started f r = some { x with lost := true }))) ∧
    (∀ live : Bool, ∃ u : State, exec (.pcieErr live) s = .next (u.refresh 2) ∧ u.sup.pcieErr = live ∧ u.regs = s.regs)

/-- A condition that is live for the partitions of a mask sets its live, partition and device sticky bits and no other source's; a
cycle with a further rise is counted once; each onset is entered with the time and bound of its cycle, DEVICE on the entry that carries
the rise of D, that of the lowest partition whose S rises in the cycle;
and the configured reactions follow (R659–R662, R664, R667, R674, R675).
It rests on readings of the model: log entry 6. -/
def Obligations.FaultsAreCollected : Prop :=
  ∀ (s : State) (n mask : Nat) (inst : Nat → Nat), n < 64 → mask < 256 →
    let u := s.level n mask inst
    let ps := maskList 8 mask |>.filter fun p => !s.pSticky n p && !s.pWas n p
    let dRise := mask ≠ 0 ∧ s.dSticky n = false ∧ s.dWas n = false
    let entries (kept : List LEntry) (dev : Prop) : Prop := ∃ l : List LEntry, u.sup.staged = kept ++ l ∧
      (∀ e ∈ l, e.onset = some n ∧ e.code = 0x0a01 ∧ e.stamp = s.startTicks 0 ∧ e.bound = s.d0Ecode ∧ nb e.data 0 = n ∧
        e.src = faultBlock n * 256 + inst e.part) ∧
      l.map (·.part) = (if ps = [] ∧ dRise then [0xff] else ps) ∧
      (∀ e ∈ l.drop 1, bitOf (nb e.data 4) 1 = false) ∧ (∀ e ∈ l.take 1, bitOf (nb e.data 4) 1 = true ↔ dev)
    (∀ p < 8, u.fLive n p = bitOf mask p ∧ u.pSticky n p = (s.pSticky n p || bitOf mask p)) ∧
    (u.dSticky n = (s.dSticky n || decide (mask ≠ 0))) ∧
    (∀ k < 64, k ≠ n → u.dSticky k = s.dSticky k ∧ ∀ p < 8, u.pSticky k p = s.pSticky k p ∧ u.fLive k p = s.fLive k p) ∧
    (u.get F.supFcnt_PULSES n = if s.dWas n = true ∧ n ∉ s.sup.counted ∧ ∃ p < 8, bitOf mask p = true ∧ s.fLive n p = false then
      min 65535 (s.get F.supFcnt_PULSES n + 1) else s.get F.supFcnt_PULSES n) ∧
    (dRise ∨ s.dWas n = true ∨ (∀ e ∈ s.sup.staged, e.onset ≠ some n) → entries s.sup.staged dRise) ∧
    (¬ dRise → ∀ e : LEntry, s.deviceEntry n = some e → ∀ p ∈ ps.head?,
      (e.part ≤ p → entries s.sup.staged False) ∧
      (p < e.part → entries (s.sup.staged.filterMap fun x => if x = e then withoutDevice x else some x) True)) ∧
    (s.getB F.supCtl_COLL_PAR = false →
      (s.getB F.supReact_INT n = true → ∀ p ∈ ps, let f := fnOfPart p
        let v := s.get F.parFnCfg_FAULT_VEC f % 2048
        (tabGet {} s.par.msixCtl f).en = true → (tabGet {} s.par.msixCtl f).fmask = false →
          (tabGet {} s.par.msix (f * 2048 + v)).masked = false →
          .msix f v (tabGet {} s.par.msix (f * 2048 + v)).addr (tabGet {} s.par.msix (f * 2048 + v)).data ∈ u.out) ∧
      (dRise → s.getB F.supReact_NMI n = true → .nmi 0 n ∈ u.out) ∧
      (dRise → s.getB F.supReact_SAFE n = true → u.cpx.safe = true) ∧
      (dRise → s.getB F.supReact_BLOCK_RESET n = true → s.getB F.supReact_BLK_OK n = true →
        u.sup.blockPend = s.sup.blockPend ++ [(n, mask, 0xff)]) ∧
      (dRise → s.getB F.supReact_CHIP_RESET n = true →
        u.sup.chipPend = some (n, decide (3 ≤ s.get F.supAon_RST_CNT) && n != 51) ∧
        (3 ≤ s.get F.supAon_RST_CNT → n ≠ 51 → u.cpx.safe = true))) ∧
    (s.getB F.supCtl_COLL_PAR = true → u.sup.blockPend = s.sup.blockPend ∧ u.sup.chipPend = s.sup.chipPend ∧ u.out = s.out)

/-- What happens to SUP, and its commands (R663–R671, R672–R677, R679, R685, R693, R694, R820).
It rests on readings of the model: log entries 6, 31 and 62. -/
def Obligations.SupCommandsAndEventsComplete : Prop :=
  ∀ s : State,
    (∃ u : State, exec .collectorParity s = .next u ∧ u.getB F.supCtl_COLL_PAR = true ∧ u.cpx.safe = true ∧
      (s.mode ≠ .reset → u.nFault = true)) ∧
    (s.sup.staged = [] → exec .ledgerEntryWrite s = .next s) ∧
    (s.sup.wrote = true → exec .ledgerEntryWrite s = .next s) ∧
    (s.sup.staged ≠ [] → s.sup.wrote = false → ∃ (e : LEntry) (u : State), e ∈ s.sup.staged ∧ (∀ f ∈ s.sup.staged, entryBefore f e = false) ∧
      exec .ledgerEntryWrite s = .next u ∧ u.sup.wrote = true ∧
      (0 ≤ e.stamp → e.stamp < timeSpan → u.sup.ledger.cur = s.sup.ledger.cur ∧
        (let held := s.sup.ledger.items.length + (if s.sup.ledger.cur = [] then 0 else 1)
         (held < 8192 → u.sup.ledger.items = s.sup.ledger.items ++ [entryWords 0 e]) ∧
         (held = 8192 → u.sup.ledger.items = markHead (s.sup.ledger.items.drop 1 ++ [entryWords 0 e]) ∧
           u.get F.supLedgerStat_LEDGER_LOST = min (2 ^ 32 - 1) (s.get F.supLedgerStat_LEDGER_LOST + 1))) ∧
        (8 ≤ e.part ∨ s.getB F.supLq_EN e.part = false → u.sup.staged.Perm (s.sup.staged.erase e) ∧ u.out = s.out) ∧
        (e.part < 8 → s.getB F.supLq_EN e.part = true → let q := s.get F.supLq_QUEUE e.part
          (s.queue q).opn = none → (s.queue q).words.length + 4 ≤ s.qDepth q →
            (u.queue q).words = (s.queue q).words ++ itemOf (entryWords 0 e)))) ∧
    (s.getB F.supCtl_HB_EN = true → s.sup.hbCyc + s.get F.supCtl_HB_MS * 1250000 ≤ s.tse.cyc → ∃ u : State, exec .heartbeatExpire s = .next (u.refresh 0) ∧ u.sup.hbExpired = true ∧ u.regs = s.regs) ∧
    (s.getB F.supCtl_HB_EN = false ∨ s.tse.cyc < s.sup.hbCyc + s.get F.supCtl_HB_MS * 1250000 → exec .heartbeatExpire s = .next s) ∧
    exec .resetCountClear s = .next (s.put F.supAon_RST_CNT 0) ∧
    (∀ errors : Nat, ∃ u : State, exec (.checkbitRateWindow errors) s = .next (u.refresh 59) ∧ u.regs = s.regs ∧
      u.sup.cbRate = decide (s.get F.supCtl_CB_LIMIT < errors)) ∧
    (∀ (c : Caller) (n p : Nat), s.admitsOwner c 0xa8 = true → n < 64 → p < 8 → n ∉ [51, 55, 60, 61] →
      ∃ u : State, exec (.faultInject c n p) s = .next (u.complete c 0xa8 .ok) ∧ u.dSticky n = true ∧ u.pSticky n p = true ∧
        (∀ k < 64, ∀ q < 8, u.fLive k q = (s.fLive k q || decide (k = n ∧ q = p))) ∧ (n, p) ∈ u.sup.pulsed ∧
        (s.pSticky n p = false → s.pWas n p = false → (∀ e ∈ s.sup.staged, e.onset ≠ some n) → ∃ e : LEntry, u.sup.staged = s.sup.staged ++ [e] ∧ e.onset = some n ∧ e.part = p ∧
          bitOf (nb e.data 4) 0 = true ∧ bitOf (nb e.data 4) 1 = (!s.dSticky n && !s.dWas n))) ∧
    (∀ (c : Caller) (sev : Nat) (data : List Byte), s.admits 0xa9 = true → sev ≤ 2 → data.length = 12 →
      ∃ u : State, exec (.ledgerMark c sev data) s = .next (u.complete c 0xa9 .ok) ∧
        ((s.sup.staged.filter fun e => e.onset.isNone).length < 256 → u.sup.staged = s.sup.staged ++
          [{ stamp := s.startTicks 0, bound := s.d0Ecode, src := 0x0aff, code := 0x0a04, part := s.cPart c, sev := sev, data := data }]) ∧
        (256 ≤ (s.sup.staged.filter fun e => e.onset.isNone).length → u.sup.staged = s.sup.staged ∧
          u.get F.supLedgerStat_LEDGER_DROP = min (2 ^ 32 - 1) (s.get F.supLedgerStat_LEDGER_DROP + 1))) ∧
    (∀ kat : Bool, s.sup.blockPend = [] → exec (.blockResetReaction kat) s = .next s) ∧
    (∀ (kat : Bool) (n mask inst : Nat) (l : List (Nat × Nat × Nat)), s.sup.blockPend = (n, mask, inst) :: l → ∃ u : State,
      exec (.blockResetReaction kat) s = .next u ∧ (∃ more : List (Nat × Nat × Nat), u.sup.blockPend = l ++ more) ∧
      (n < 44 → u.tse.doms = s.tse.doms) ∧
      (n = 8 → ∀ t < 64, s.get F.tdcStat_STATE t = 0 → u.get F.tdcStat_STATE t = 1) ∧
      (n = 12 ∨ n = 13 → (∀ c < 192, s.chState c ≠ 0 → u.chState c = 5) ∧ u.gnb.acq = none ∧ u.gnb.coldStart = false) ∧
      (n = 20 ∨ n = 21 → ∀ k : Nat, 2 ≤ k → k < 8 → s.synState k = 7 →
        u.synState k = 2 ∧ ∀ e < 16, u.rd .synMemKey k e = 0 ∧ u.rd .synMemVal k e = 0) ∧
      (n = 28 → ∀ p < 64, s.leads p = true → bitOf mask (s.get F.portCfg_PART p) = true → s.getB F.portStat_LINK p = false →
        u.getB F.portStat_STAMP_OK p = false ∧ ∀ k ∈ s.portLanes p, u.getB F.laneStat_DLM_VALID k = false) ∧
      (n = 41 ∨ n = 42 → u.kvc.drbg = 0 ∧ u.getB F.kvcStat_KAT_OK = kat) ∧
      (n = 47 → inst < 2 → s.hState ≠ 0 → u.hLink inst = false)) ∧
    (s.sup.chipPend = none → exec .chipResetReaction s = .next s) ∧
    (∀ n : Nat, s.sup.chipPend = some (n, true) → ∃ u : State, exec .chipResetReaction s = .next u ∧ u.sup.chipPend = none ∧
      u.getB F.supAon_ESCALATED = true ∧ u.get F.supAon_RST_CNT = s.get F.supAon_RST_CNT ∧
      u.get F.supAon_LAST_FS = s.get F.supAon_LAST_FS ∧ u.mode = s.mode) ∧
    (∀ n < 64, s.sup.chipPend = some (n, false) → ∃ u : State, exec .chipResetReaction s = .next u ∧ u.mode = .reset ∧
      u.get F.supAon_RST_CNT = min 255 (s.get F.supAon_RST_CNT + 1) ∧ u.get F.supAon_LAST_FS = n ∧
      u.get F.cpxBoot_WARM_CAUSE = 1 ∧ u.rd .supFstat0 = s.rd .supFstat0 ∧ u.sup.ledger = s.sup.ledger ∧ u.tse = State.reset.tse) ∧
    (∃ u : State, exec .tallyWindowEnd s = .next u ∧ u.out = s.out ∧ ∀ b < 64, ∀ i < 8,
      (s.tbOn b i = true → s.get F.tbCtl_MODE b i = 1 → (s.rd .gnbRxc).toNat % 2 ^ s.get F.tbCtl_WIN_LOG b i = 0 →
        tabGet 0 u.sup.winSum (b * 8 + i) = 0 ∧
        u.get F.tbPeak_COUNT b i = max (s.get F.tbPeak_COUNT b i) (min (tabGet 0 s.sup.winSum (b * 8 + i)) (2 ^ 48 - 1))) ∧
      (s.tbOn b i = false ∨ s.get F.tbCtl_MODE b i ≠ 1 ∨ (s.rd .gnbRxc).toNat % 2 ^ s.get F.tbCtl_WIN_LOG b i ≠ 0 →
        u.rd .tbPeak b i = s.rd .tbPeak b i ∧ tabGet 0 u.sup.winSum (b * 8 + i) = tabGet 0 s.sup.winSum (b * 8 + i)))

/-- Chip resets, boot, the modes that commands enter and leave, the firmware update, the owner and attestation (R666–R668, R697, R698,
R705–R707, R717–R724, R730–R745): each has the effect of its rule.
It rests on readings of the model: log entries 17, 34, 35 and 48. -/
def Obligations.BootAndFirmwareCommandsComplete : Prop :=
  ∀ s : State,
    (let kept (u : State) : Prop := u.mode = .reset ∧ u.cpx.inReset = true ∧ u.cpx.flash = s.cpx.flash ∧ u.cpx.owner = s.cpx.owner ∧
       u.kvc.root = s.kvc.root ∧ u.kvc.epoch = s.kvc.epoch ∧ u.tse = State.reset.tse ∧ u.rim = State.reset.rim ∧
       u.gnb = State.reset.gnb ∧ u.rsh = State.reset.rsh ∧ u.syn = State.reset.syn ∧ u.dsq = State.reset.dsq ∧
       u.npa = State.reset.npa ∧ u.slg = State.reset.slg ∧ u.tsv = State.reset.tsv ∧ u.hrl = State.reset.hrl ∧
       (∀ (r : RegId) (i j : Nat), i < (regInfo r).ni → j < (regInfo r).nj →
         r ∉ [.kvcTamperCfg, .kvcTempLim, .kvcTamperCause, .kvcStat, .supFstat0, .supAon, .supLedgerStat, .cpxBoot] →
         u.rd r i j = regRst r i)
     (∃ u : State, exec .coldReset s = .next u ∧ kept u ∧ u.sup = State.reset.sup ∧ u.par.msix = [] ∧ u.rd .supFstat0 = 0 ∧
       u.rd .supAon = 0) ∧
     (∀ c < 256, s.cpx.warmPend = some c → ∃ u : State, exec .warmReset s = .next u ∧ kept u ∧ u.sup.ledger = s.sup.ledger ∧
       u.sup.staged = s.sup.staged ∧ u.rd .supFstat0 = s.rd .supFstat0 ∧ u.rd .supAon = s.rd .supAon ∧
       u.get F.cpxBoot_WARM_CAUSE = c ∧ u.getB F.cpxBoot_RESET_KIND = true ∧ u.par.msix = s.par.msix ∧ u.par.cur = [] ∧
       u.par.hist = [] ∧ (∀ a ∈ s.hostReads, .unsupported a.m ∈ u.out)) ∧
     (s.cpx.warmPend = none → exec .warmReset s = .next s)) ∧
    (∀ flash : Option Flash, let v := match flash with | some f => s.setCpx { s.cpx with flash := f } | none => s
      (s.cpx.inReset = true → s.pwr.irc.proven = true →
        (∀ (b : Bcb) (k : Nat), v.bootChoice = some (b, k) → k < 2 → ∃ u : State, exec (.bootRomStart flash) s = .next u ∧
          u.mode = .boot ∧ u.cpx.inReset = false ∧ u.running = k ∧ u.synState 0 = 2 ∧
          tries u.bcb k = tries b k + 1 ∧ u.getB F.kvcStat_ROOT_VALID = s.kvc.crcOk ∧
          ∃ l : List MLog, u.cpx.mlog = s.cpx.mlog ++ l ∧ l.map (·.mreg) = [0, 1, 3, 2, 4, 5]) ∧
        (v.bootChoice = none → ∃ u : State, exec (.bootRomStart flash) s = .next u ∧ u.mode = .halted ∧ u.nFault = true)) ∧
      (s.cpx.inReset = false ∨ s.pwr.irc.proven = false → exec (.bootRomStart flash) s = .next s)) ∧
    (∀ rngOk kat : Bool,
      (s.mode = .boot → s.synState 0 = 4 → ∃ u : State, exec (.bootComplete rngOk kat) s = .next u ∧ u.cpx.booted = true ∧
        u.getB F.kvcStat_KAT_OK = kat ∧ u.mode = .boot) ∧
      (s.mode ≠ .boot ∨ s.synState 0 ≠ 4 → exec (.bootComplete rngOk kat) s = .next s)) ∧
    (∀ c : Caller,
      (s.admitsOwner c 0xb0 = true → ∃ u : State, exec (.devReset c) s = .next (u.complete c 0xb0 .ok) ∧
        u.cpx.warmPend = some 2 ∧ { u with cpx := s.cpx } = s) ∧
      (s.admitsOwner c 0xb1 = true → ∃ u : State, exec (.serviceEnter c) s = .next (u.complete c 0xb1 .ok) ∧
        u.cpx.service = true ∧ u.cpx.cmdCause = 0x04b1 ∧ { u with cpx := s.cpx } = s) ∧
      (s.admitsOwner c 0xb2 = true → ∃ u : State, exec (.serviceExit c) s = .next (u.complete c 0xb2 .ok) ∧
        u.cpx.service = false ∧ u.cpx.cmdCause = 0x04b2 ∧ (u.dom 0).acc = (s.dom 0).acc) ∧
      (s.admitsOwner c 0xb3 = true → s.safeHold = false → s.getB F.supCtl_COLL_PAR = false → s.getB F.supAon_ESCALATED = false →
        ∃ u : State, exec (.safeExit c) s = .next (u.complete c 0xb3 .ok) ∧ u.cpx.safe = false ∧ u.cpx.cmdCause = 0x04b3 ∧
          { u with cpx := s.cpx } = s) ∧
      (s.admitsOwner c 0xb3 = true → s.safeHold = true ∨ s.getB F.supCtl_COLL_PAR = true ∨ s.getB F.supAon_ESCALATED = true →
        exec (.safeExit c) s = .next (s.complete c 0xb3 .busy)) ∧
      (s.cpx.owner.lock = false → s.kvc.vbatLow = false → s.mustHandOver = false → let k := s.other
        (∀ len ≤ 16777216, s.admitsOwner c 0xb4 = true → s.unconfirmed = false → ∃ u : State,
          exec (.fwBegin c len) s = .next (u.complete c 0xb4 .ok) ∧ u.get F.cpxUpd_STATE = 1 ∧ u.get F.cpxUpd_WRITTEN = 0 ∧
          u.cpx.updLen = len ∧ u.slotImg k = [] ∧ u.slotImg s.running = s.slotImg s.running ∧ tries u.bcb k = 0) ∧
        (∀ (offset : Nat) (data : List Byte), s.admitsOwner c 0xb5 = true → s.inlineEntry c = false → s.get F.cpxUpd_STATE = 1 →
          offset = s.get F.cpxUpd_WRITTEN → data.length ≤ 4194304 → offset + data.length ≤ s.cpx.updLen → s.cpx.updLen < 2 ^ 32 →
          ∃ u : State, exec (.fwWrite c offset data) s = .next (u.complete c 0xb5 .ok) ∧ u.slotImg k = s.slotImg k ++ data ∧
            u.get F.cpxUpd_WRITTEN = offset + data.length) ∧
        (∀ (offset : Nat) (data : List Byte), s.admitsOwner c 0xb5 = true → s.inlineEntry c = true →
          exec (.fwWrite c offset data) s = .next (s.complete c 0xb5 .badArg)) ∧
        (s.admitsOwner c 0xb6 = true → s.get F.cpxUpd_STATE = 1 ∨ s.get F.cpxUpd_STATE = 2 →
          (s.imgVerifies (s.slotImg k) = true → s.settingsFor (s.slotImg k) = true → ∃ u : State,
            exec (.fwVerify c) s = .next (u.complete c 0xb6 .ok) ∧ u.get F.cpxUpd_STATE = 2 ∧ u.cpx = s.cpx) ∧
          (s.imgVerifies (s.slotImg k) = false → ∃ u : State, exec (.fwVerify c) s = .next (u.complete c 0xb6 .verifyFail) ∧
            u.cpx = s.cpx)) ∧
        (s.admitsOwner c 0xb7 = true → s.get F.cpxUpd_STATE = 2 → ∃ u : State,
          exec (.fwActivate c) s = .next (u.complete c 0xb7 .ok) ∧ u.bcb.pending = some k ∧ u.get F.cpxUpd_STATE = 3 ∧
          u.cpx.warmPend = some 3)) ∧
      (∀ force : Bool, s.admitsOwner c 0xb8 = true → s.unconfirmed = true → force = true ∨ s.cpx.proved = true → ∃ u : State,
        exec (.fwConfirm c force) s = .next (u.complete c 0xb8 .ok) ∧ u.bcb.active = s.running ∧ u.bcb.pending = none ∧
        u.bcb.confirmed = true ∧ u.bcb.fallback = false ∧ tries u.bcb s.running = 0 ∧
        u.cpx.svnBurnt = (if bitOf (nb (s.slotImg s.running) 17) 0 then max s.cpx.svnBurnt (nb (s.slotImg s.running) 16)
                          else s.cpx.svnBurnt)) ∧
      (∀ nonce : List Byte, s.admits 0xb9 = true → nonce.length = 32 → s.quoteBusy = false → s.keysHeld = true → s.rngOk = true →
        ∃ (u : State) (r : Nat), exec (.attestQuote c nonce 0) s = .next (u.complete c 0xb9 .ok
          (s.quoteBody s.draw.1 nonce false ++ beBytes 96 (Config.ecdsa 48 s.idk
            (beNat (beBytes 48 (Config.sha384 (s.quoteBody s.draw.1 nonce false)).toNat)) r).toNat)) ∧
          u.regs = s.regs ∧ u.quotesNow = s.quotesNow + 1) ∧
      (∀ (nonce : List Byte) (k : Nat), s.admits 0xb9 = true → nonce.length = 32 → k < 16 → k ≠ s.hIndex → s.isMember = true →
        s.getB F.nodeStat_VALID k = true → s.hrl.own.length < 64 → (∀ q ∈ s.cpx.quotes, q.2.1 ≠ k) → ∃ u : State,
          exec (.attestQuote c nonce (k + 1)) s = .next u ∧ u.cpx.quotes = s.cpx.quotes ++ [(c, k, [], s.tse.cyc)] ∧ u.out = s.out ∧
          (u.hrl.own.getLast?.map (·.payload)) = some (cpWord 0 k 0 0 ++ nonce)) ∧
      (∀ (q : Caller × Nat × List Byte × Nat) (l : List (Caller × Nat × List Byte × Nat)), s.cpx.quotes = q :: l →
        (q.2.2.2 + 62500000 ≤ s.tse.cyc →
          exec .attestHingeTimeout s = .next ((s.setCpx { s.cpx with quotes := l }).complete q.1 0xb9 .timeout)) ∧
        (s.tse.cyc < q.2.2.2 + 62500000 → exec .attestHingeTimeout s = .next s)) ∧
      (s.cpx.quotes = [] → exec .attestHingeTimeout s = .next s) ∧
      (s.admits 0xba = true → exec (.attestLog c) s = .next (s.complete c 0xba .ok
        (s.cpx.mlog.flatMap fun e => byte e.mreg :: beBytes 48 e.meas.toNat ++ beBytes 16 e.label))) ∧
      (∀ data : List Byte, s.admitsOwner c 0xbb = true → data.length = 48 → ∃ (u : State) (e : MLog),
        exec (.mregExtend c data) s = .next (u.complete c 0xbb .ok) ∧
        u.mreg 15 = beBytes 48 (Config.sha384 (s.mreg 15 ++ data)).toNat ∧ (∀ i < 15, u.mreg i = s.mreg i) ∧
        u.cpx.mlog = s.cpx.mlog ++ [e] ∧ e.mreg = 15 ∧ beBytes 48 e.meas.toNat = data) ∧
      (∀ token : List Byte, let o := s.cpx.owner
        (s.admitsOwner c 0xbc = true → s.tokenOk token 1 (if o.set then o.key else tokenArg token) = true → ∃ u : State,
          exec (.ownerClaim c token) s = .next (u.complete c 0xbc .ok) ∧
          u.cpx.owner = { o with set := true, key := tokenArg token, seq := o.seq + 1 }) ∧
        (s.admitsOwner c 0xbd = true →
          (∃ u : State, exec (.ownerLock c 1 token) s = .next (u.complete c 0xbd .ok) ∧ u.cpx.owner = { o with lock := true } ∧
            u.getB F.kvcStat_OWNER_LOCK = true) ∧
          (s.tokenOk token 2 o.key = true → ∃ u : State, exec (.ownerLock c 0 token) s = .next (u.complete c 0xbd .ok) ∧
            u.cpx.owner = { o with lock := false, seq := o.seq + 1 }) ∧
          (s.tokenOk token 2 o.key = false → exec (.ownerLock c 0 token) s = .next (s.complete c 0xbd .verifyFail)) ∧
          (s.tokenOk token 5 o.key = true → nb token 32 ≤ 1 → ∃ u : State,
            exec (.ownerLock c 2 token) s = .next (u.complete c 0xbd .ok) ∧
            u.cpx.owner = { o with csig := nb token 32 == 1, seq := o.seq + 1 })) ∧
        (s.admitsOwner c 0xbf = true → o.lock = false →
          (∀ part key : Nat, 1 ≤ part → part < 8 → key < 2 ^ 768 → (∀ x ∈ s.dsq.images, x.part ≠ part) → ∃ u : State,
            exec (.imgKeySet c part key token) s = .next (u.complete c 0xbf .ok) ∧ u.imgKey part = key) ∧
          (∀ key < 2 ^ 768, (∀ x ∈ s.dsq.images, x.part ≠ 0) → s.tokenOk token 3 o.key = true → ∃ u : State,
            exec (.imgKeySet c 0 key token) s = .next (u.complete c 0xbf .ok) ∧ u.imgKey 0 = tokenArg token ∧
            u.cpx.owner.seq = o.seq + 1))) ∧
      (∀ chain : List Byte, s.admitsOwner c 0xbe = true → chain.length ≤ 2048 → s.kvc.derived ≠ .none →
        BitVec.ofNat 768 (Config.certKey chain) = Config.ecdsaPub 48 s.idk → Config.certsOk chain = true → ∃ u : State,
          exec (.certInstall c chain) s = .next (u.complete c 0xbe .ok) ∧ u.settings.chain = chain ∧ u.chainStale = false))

/-- The clocks, the power levels, temperature and wear (R749–R751, R754, R755, R758–R761, R764, R766–R770, R775–R777): each event
has the effect of its rule.
It rests on readings of the model: log entry 21. -/
def Obligations.ClockAndPowerEventsComplete : Prop :=
  ∀ s : State,
    (∀ k n : Nat, k < 3 → (k = 2 → s.pwr.irc.run = true) →
      let o : Osc := { s.osc k with run := true }
      let inWindow := oscLow k ≤ n ∧ n ≤ oscHigh k
      let v := s.putB F.pwrClkStat_AON_FAIL false
      (o.edge = false → exec (.oscStabilityCompare k n) s = .next (v.setOsc k { o with edge := true, cnt := o.cnt + n })) ∧
      (o.edge = true → ¬ inWindow → o.proven = false →
        exec (.oscStabilityCompare k n) s = .next (v.setOsc k { o with cnt := 0, passed := false })) ∧
      (o.edge = true → ¬ inWindow → o.proven = true → o.bad = 0 →
        exec (.oscStabilityCompare k n) s = .next (v.setOsc k { o with bad := 1, cnt := 0 })) ∧
      (o.edge = true → ¬ inWindow → o.proven = true → 1 ≤ o.bad →
        exec (.oscStabilityCompare k n) s = .next (v.oscTrip k false)) ∧
      (o.edge = true → inWindow → o.proven = false → oscProof k ≤ o.cnt + n →
        exec (.oscStabilityCompare k n) s =
          .next ((v.setOsc k { o with cnt := o.cnt + n, passed := true, bad := 0, proven := true }).oscProven k)) ∧
      (o.edge = true → inWindow → o.proven = true ∨ o.cnt + n < oscProof k →
        exec (.oscStabilityCompare k n) s = .next (v.setOsc k { o with cnt := o.cnt + n, passed := true, bad := 0 }))) ∧
    (∀ k < 3, ((s.osc k).proven = true → exec (.oscEdgeTimeout k) s = .next (s.oscTrip k true)) ∧
      ((s.osc k).proven = false → exec (.oscEdgeTimeout k) s = .next s) ∧
      ∀ stopped : Bool, let u := s.oscTrip k stopped
        (u.osc k).proven = false ∧ (u.osc k).cnt = 0 ∧
        (k = 0 → u.getB F.pwrClkStat_REF_SYS = true ∧
          u.get F.pwrClkCnt_SYSXO_TRIPS = min 65535 (s.get F.pwrClkCnt_SYSXO_TRIPS + 1) ∧
          (s.getB F.pwrClkStat_REF_SYS = false → u.get F.pwrClkCnt_SWITCHES = min 65535 (s.get F.pwrClkCnt_SWITCHES + 1))) ∧
        (k = 2 → u.get F.pwrClkCnt_IRC_TRIPS = min 65535 (s.get F.pwrClkCnt_IRC_TRIPS + 1))) ∧
    (exec .aonFail s = .next
      (if s.pwr.sysxo.proven ∨ s.pwr.aoi.proven ∨ s.pwr.irc.proven then s.putB F.pwrClkStat_AON_FAIL true else s)) ∧
    (let pll (v : State) (k : Nat) : Pll := if k = 0 then v.pwr.cpllA else if k = 1 then v.pwr.cpllB else v.pwr.dpll
     ∀ k < 3, (pll s k).locking = true →
      (if (pll s k).onIrc then s.pwr.irc.proven else s.pwr.sysxo.proven) = true →
      ∃ u : State, exec (.pllProofTimer k) s = .next u ∧ (pll u k).proven = true ∧ (pll u k).locking = false ∧
        (pll u k).level = (pll s k).level ∧ (k = 2 → u.pwr.ddr.goal = some .dpll) ∧ u.regs = s.regs ∧
        (k < 2 → s.pwr.core.src = .irc → s.pwr.core.goal = none → u.pwr.core.goal = some (if k = 0 then .cpllA else .cpllB))) ∧
    (s.getB F.pwrClkCfg_RETURN_AUTO = true → s.getB F.pwrClkStat_REF_SYS = true → s.pwr.sysxo.proven = true → ∃ u : State,
      exec .refSysReturn s = .next u ∧ u.getB F.pwrClkStat_REF_SYS = false ∧
      u.get F.pwrClkCnt_SWITCHES = min 65535 (s.get F.pwrClkCnt_SWITCHES + 1)) ∧
    (∀ (heldNs : Nat) (src : ClkSrc),
      (s.pwr.core.goal = some src → ∃ u : State, exec (.clockSourceRelease 0 heldNs) s = .next u ∧ u.pwr.core.src = src) ∧
      (s.pwr.sup.goal = some src → ∃ u : State, exec (.clockSourceRelease 1 heldNs) s = .next u ∧ u.pwr.sup = { src := src, goal := none }) ∧
      (s.pwr.ddr.goal = some src → ∃ u : State, exec (.clockSourceRelease 2 heldNs) s = .next u ∧ u.pwr.ddr = { src := src, goal := none } ∧
        u.get F.pwrClkCnt_LATE_REF = if s.pwr.ddrHeld = true ∧ 31200 < heldNs then min 65535 (s.get F.pwrClkCnt_LATE_REF + 1)
                                     else s.get F.pwrClkCnt_LATE_REF)) ∧
    (s.pwr.irc.proven = true → exec .ircFallbackTimeout s = .next s) ∧
    (s.pwr.irc.proven = false → s.cpx.inReset = true → ∃ u : State, exec .ircFallbackTimeout s = .next u ∧
      u.pwr.noFallback = true ∧ (s.mode = .reset → u.nFault = true) ∧ u.regs = s.regs) ∧
    (s.pwr.irc.proven = false → s.cpx.inReset = false → s.pwr.ircWait = true → ∃ u : State, exec .ircFallbackTimeout s = .next u ∧
      u.mode = .reset ∧ u.nFault = true ∧ u.getB F.supAon_CLK_NO_FALLBACK = true ∧ u.get F.cpxBoot_WARM_CAUSE = 4 ∧
      u.sup.ledger = s.sup.ledger) ∧
    (s.cpx.inReset = true → s.pwr.irc.proven = false →
      exec .ircRestartTimer s = .next (s.setPwr { s.pwr with irc := { run := true } })) ∧
    (s.mode = .boot → s.pwr.sysxo.proven = false → ∃ u : State, exec .sysxoBootWaitEnd s = .next u ∧
      u.getB F.pwrClkStat_REF_SYS = true) ∧
    (∀ count < 2 ^ 15 + 1000000, s.getB F.pwrIrc_TRIM_HOLD = false → s.pwr.irc.run = true → ∃ u : State,
      exec (.ircTrim count) s = .next u ∧ u.get F.pwrIrc_TRIM_SRC = s.trimSrc ∧
      (s.trimSrc = 0 → u.get F.pwrIrc_TRIM = s.get F.pwrIrc_TRIM) ∧
      (s.trimSrc ≠ 0 → u.getI F.pwrIrc_ERR_PPM = max (-(2 ^ 15)) ((count : ℤ) - 1000000) ∧
        u.get F.pwrIrc_TRIM = if 1000500 < count then s.get F.pwrIrc_TRIM - 1
                              else if count < 999500 then min 1023 (s.get F.pwrIrc_TRIM + 1) else s.get F.pwrIrc_TRIM)) ∧
    (∀ count < 2 ^ 64, s.get F.pwrFmcCtl_STATE = 1 →
      (∃ u : State, exec (.fmcDone count) s = .next u ∧ u.get F.pwrFmcCtl_STATE = 2 ∧ u.get F.pwrFmcRes_COUNT = count) ∧
      (∃ u : State, exec .fmcStall s = .next u ∧ u.get F.pwrFmcCtl_STATE = 3)) ∧
    (∀ (ok : Bool) (value : Nat), let v := s.vcode s.pwr.dvfsTo
      let near := ok = true ∧ |(value : ℚ) - v| ≤ v / 50
      (s.pwr.dvfs = .upVout ∨ s.pwr.dvfs = .downVout → ∃ u : State, exec (.pmbusTransactionDone ok value) s = .next u ∧
        (ok = true → u.pwr.dvfs = (if s.pwr.dvfs = .upVout then .upSettle else .downSettle) ∧ u.out = s.out) ∧
        (ok = false → u.pwr.dvfs = s.pwr.dvfs ∧ u.out = .pmbus 0x21 v :: s.out)) ∧
      (s.pwr.dvfs = .upRead ∨ s.pwr.dvfs = .downRead → ¬ near →
        exec (.pmbusTransactionDone ok value) s = .next (s.emit (.pmbus 0x8b 0))) ∧
      (s.pwr.dvfs = .upRead → near → ∃ u : State, exec (.pmbusTransactionDone ok value) s = .next u ∧ u.pwr.dvfs = .upSwitch ∧
        u.pwr.vLevel = s.pwr.dvfsTo ∧ u.get F.pwrDvfs_CUR = s.get F.pwrDvfs_CUR) ∧
      (s.pwr.dvfs = .downRead → near → ∃ u : State, exec (.pmbusTransactionDone ok value) s = .next (u.refresh 52) ∧
        u.pwr.vLevel = s.pwr.dvfsTo ∧ u.get F.pwrDvfs_CHANGES = min 65535 (s.get F.pwrDvfs_CHANGES + 1) ∧
        u.get F.pwrDvfs_STATE ≠ 4)) ∧
    (s.pwr.dvfs = .upSettle ∨ s.pwr.dvfs = .downSettle → ∃ u : State, exec .dvfsSettleExpire s = .next u ∧
      u.pwr.dvfs = (if s.pwr.dvfs = .upSettle then .upRead else .downRead) ∧ u.out = .pmbus 0x8b 0 :: s.out) ∧
    (s.pwr.dvfs ≠ .none → ∃ u : State, exec .dvfsStepTimeout s = .next (u.refresh 52) ∧ u.get F.pwrDvfs_STATE = 4 ∧
      u.get F.pwrDvfs_CUR = s.get F.pwrDvfs_CUR ∧ u.pwr.vLevel = s.pwr.vLevel) ∧
    (s.pwr.dvfs = .none → exec .dvfsStepTimeout s = .next s) ∧
    (∀ (l : List Int) (k : Nat), l.length = 8 → (∀ x ∈ l, -(2 ^ 15) ≤ x ∧ x < 2 ^ 15) → k < 8 →
      (∀ j < 8, l.getD j 0 ≤ l.getD k 0) → (∀ j < k, l.getD j 0 < l.getD k 0) →
      let t := l.getD k 0
      let warn : ℤ := s.get F.pwrTherm_TJ_WARN
      let crit := s.get F.pwrTherm_TJ_CRIT
      ∃ u : State, exec (.tempRead l) s = .next u ∧ u.getI F.pwrTemp_TJ_MAX = t ∧
        u.get F.pwrTemp_HOT = k ∧ u.getI F.pwrTemp_TJ_PEAK = max (s.getI F.pwrTemp_TJ_PEAK) t ∧
        (u.pwr.tjWarn = true ↔ warn ≤ t ∨ s.pwr.tjWarn = true ∧ warn - s.get F.pwrTherm_HYST ≤ t) ∧
        (1680 ≤ crit → crit ≤ 2000 → (u.pwr.tjCrit = true ↔ (crit : ℤ) ≤ t)) ∧ u.pwr.stressN = s.pwr.stressN + 1) ∧
    (∀ d : List Nat, d.length = 17 → s.pwr.hours < 2 ^ 32 → ∃ u : State, exec (.wearMeasure d) s = .next u ∧
      u.pwr.hourN = s.pwr.hourN + 1 ∧ (∀ w < 17, tabGet 0 u.pwr.hourSum w = tabGet 0 s.pwr.hourSum w + d.getD w 0) ∧
      u.get F.pwrStress_POWER_HOURS = min (2 ^ 32 - 1) (s.pwr.hours + 1)) ∧
    (s.pwr.hourN ≠ 0 → ∃ u : State, exec .wearDailyFit s = .next (u.refresh 54) ∧ u.pwr.hourN = 0 ∧ u.pwr.hourSum = [] ∧
      ∀ w < 17, let l := (tabGet 0 s.pwr.hourSum w / s.pwr.hourN :: tabGet [] s.pwr.means w).take 365
        tabGet [] u.pwr.means w = l ∧ u.get F.pwrWear_VALUE w = tabGet 0 s.pwr.hourSum w / s.pwr.hourN % 2 ^ 32 ∧
        (l.length < 30 → u.get F.pwrEol_MONTHS w = 0xffff ∧ u.get F.pwrEol_LOW_MONTHS w = 0xffff))

/-- A step takes the command at the front of the queue and executes it with the rest of the queue; with an empty queue the block
idles (log entry 1: the model's choice). -/
def Obligations.StepTakesTheFrontCommand : Prop :=
  ∀ s : State, (∀ (c : Instr) (l : List Instr), s.pending = c :: l → step s = exec c { s with pending := l }) ∧
    (s.pending = [] → step s = .next s)

/-- What reset leaves (R33, R62, R644, R698): mode RESET, the reset word in every register, every domain OFF but for D0, which is the
reference domain, no alarm armed, no command waiting; memory is in canonical form and no DERIVED domain has a parent that is not
lower. Where no table gives a register a reset value, its reset word is the model's choice (log entry 3). -/
def Obligations.ResetLeavesTheBlockAtRest : Prop :=
  State.reset.mode = .reset ∧ State.reset.pending = [] ∧ State.reset.memWf = true ∧ State.reset.parentsLower ∧
    (∀ (r : RegId) (i j : Nat), State.reset.rd r i j = regRst r i) ∧
    (State.reset.dom 0).kind = .ref ∧ (State.reset.dom 0).st = .stopped ∧
    (∀ d : Nat, 1 ≤ d → (State.reset.dom d).kind = .off ∧ (State.reset.dom d).st = .off) ∧
    (∀ k : Nat, (State.reset.alarm k).st = .free) ∧ State.reset.out = []

/-- Every command is judged by the mode before its caller and its operands: not served in RESET, refused with REFUSED_MODE and
entered in the event ledger where the opcode is not legal (R19, R646, R712). -/
def Obligations.CommandsAreJudgedByMode : Prop :=
  ∀ c : Caller,
    (∀ (dom kind parent owner : Nat), ModeFirst (.domConfig c dom kind parent owner) c 0x10) ∧
    (∀ (dom : Nat) (t : TimeVal) (bound : Nat), ModeFirst (.domSeed c dom t bound) c 0x11) ∧
    (∀ (dom : Nat), ModeFirst (.domStart c dom) c 0x12) ∧ (∀ (dom : Nat), ModeFirst (.domStop c dom) c 0x13) ∧
    (∀ (dom : Nat) (ticks : Int), ModeFirst (.domStep c dom ticks) c 0x14) ∧
    (∀ (dom : Nat) (ticks : Int) (unc slewMax : Nat), ModeFirst (.domSlew c dom ticks unc slewMax) c 0x15) ∧
    (∀ (type leapAt : Nat), ModeFirst (.leapSet c type leapAt) c 0x16) ∧
    (∀ (slot dom : Nat) (t : TimeVal) (kind target period policy : Nat),
        ModeFirst (.almArm c slot dom t kind target period policy) c 0x18) ∧
    (∀ (slot : Nat), ModeFirst (.almCancel c slot) c 0x19) ∧
    (∀ (m mode startSrc stopSrc dom : Nat) (t0 : TimeVal) (per w dests queue emptyReport lateOk : Nat),
        ModeFirst (.emuArm c m mode startSrc stopSrc dom t0 per w dests queue emptyReport lateOk) c 0x20) ∧
    (∀ (m : Nat), ModeFirst (.emuDisarm c m) c 0x21) ∧ (∀ (mask : Nat), ModeFirst (.tdcCal c mask) c 0x22) ∧
    (∀ (mask : Nat), ModeFirst (.monRestart c mask) c 0x23) ∧
    (∀ (sigEn tsys elev cn0 span per : Nat), ModeFirst (.gnssCfg c sigEn tsys elev cn0 span per) c 0x30) ∧
    (∀ (kind : Nat), ModeFirst (.gnssRestart c kind) c 0x31) ∧
    (∀ (min target max : Nat), ModeFirst (.gnssSurvey c min target max) c 0x32) ∧
    (∀ (cand : Nat) (x y z : Int) (unc : Nat), ModeFirst (.gnssPosSet c cand x y z unc) c 0x33) ∧
    ModeFirst (.gnssPosClear c) c 0x34 ∧ (∀ (on : Nat), ModeFirst (.gnssTap c on) c 0x35) ∧
    (∀ (cand : Nat), ModeFirst (.refForce c cand) c 0x40) ∧ (∀ (cand on : Nat), ModeFirst (.refLockout c cand on) c 0x41) ∧
    ModeFirst (.rshOpen c) c 0x42 ∧ ModeFirst (.rshClose c) c 0x43 ∧ (∀ (foff : Int), ModeFirst (.steerFreq c foff) c 0x44) ∧
    (∀ (ticks : Int) (unc slewMax : Nat), ModeFirst (.steerPhase c ticks unc slewMax) c 0x45) ∧
    (∀ (t : TimeVal) (bound : Nat), ModeFirst (.rshD0Seed c t bound) c 0x46) ∧
    (∀ (on : Nat), ModeFirst (.aoiSteer c on) c 0x47) ∧ (∀ (code : Nat), ModeFirst (.aoiCfdSet c code) c 0x48) ∧
    (∀ (step : Int), ModeFirst (.cfdGainCal c step) c 0x49) ∧
    (∀ (n tf mode refin bw lockWait fl : Nat), ModeFirst (.synCfg c n tf mode refin bw lockWait fl) c 0x50) ∧
    (∀ (n : Nat) (ticks : Int), ModeFirst (.synPstep c n ticks) c 0x51) ∧
    (∀ (n method : Nat), ModeFirst (.synAlign c n method) c 0x52) ∧ (∀ (n : Nat), ModeFirst (.synMemClear c n) c 0x53) ∧
    (∀ (n : Nat), ModeFirst (.synOff c n) c 0x54) ∧
    (∀ (v dom : Nat) (e0 : TimeVal) (per width pol lateOk : Nat), ModeFirst (.synEvoArm c v dom e0 per width pol lateOk) c 0x55) ∧
    (∀ (v : Nat), ModeFirst (.synEvoDisarm c v) c 0x56) ∧ (∀ (image : List Byte), ModeFirst (.drvLoad c image) c 0x60) ∧
    (∀ (part codeBase : Nat), ModeFirst (.drvUnload c part codeBase) c 0x61) ∧
    (∀ (t off : Nat), ModeFirst (.thrStart c t off) c 0x62) ∧ (∀ (t : Nat), ModeFirst (.thrStop c t) c 0x63) ∧
    (∀ (t pc : Nat), ModeFirst (.thrResume c t pc) c 0x64) ∧ ModeFirst (.escBegin c) c 0x66 ∧
    (∀ (e addr : Nat) (w : Word), ModeFirst (.escWrite c e addr w) c 0x67) ∧
    (∀ (e : Nat) (at' : Option (Nat × TimeVal)) (lateOk : Bool), ModeFirst (.escCommit c e at' lateOk) c 0x68) ∧
    (∀ (e : Nat), ModeFirst (.escAbort c e) c 0x69) ∧
    (∀ (a part port transport addr : Nat) (tags : List Nat) (ttl : Nat) (ptp ntp nts : Bool) (profile domNum : Nat) (mcast auth twoStep : Bool),
        ModeFirst (.svcSet c a part port transport addr tags ttl ptp ntp nts profile domNum mcast auth twoStep) c 0x70) ∧
    (∀ (a : Nat), ModeFirst (.svcClear c a) c 0x71) ∧
    (∀ (a slot : Nat) (prevClear : Bool), ModeFirst (.ntsKeyRoll c a slot prevClear) c 0x72) ∧
    (∀ (a : Option Nat), ModeFirst (.assocFlush c a) c 0x73) ∧
    (∀ (a slot cert port : Nat) (records : List Byte), ModeFirst (.ntskeCfg c a slot cert port records) c 0x74) ∧
    (∀ (ty attr gen : Nat), ModeFirst (.keyGen c ty attr gen) c 0x80) ∧
    (∀ (ty attr gen : Nat) (material : List Byte), ModeFirst (.keyImport c ty attr gen material) c 0x81) ∧
    (∀ (slot : Nat) (blob : List Byte) (kcv : Nat) (persist : Bool),
        ModeFirst (.keyLoad c slot blob kcv persist) c 0x82) ∧
    (∀ (slot : Nat), ModeFirst (.keyErase c slot) c 0x83) ∧ (∀ (slot : Nat), ModeFirst (.keyInfo c slot) c 0x84) ∧
    (∀ (slot : Nat) (digest : List Byte), ModeFirst (.kvcSign c slot digest) c 0x85) ∧
    (∀ (slot part : Nat), ModeFirst (.slotAssign c slot part) c 0x86) ∧
    (∀ (modes filt en : Nat) (lo hi : Int), ModeFirst (.tamperCfg c modes filt en lo hi) c 0x87) ∧
    (∀ (pass : Bool), ModeFirst (.kvcSelftest c pass) c 0x88) ∧ ModeFirst (.kvcZeroise c) c 0x89 ∧
    (∀ (token : List Byte), ModeFirst (.vaultProvision c token) c 0x8a) ∧ (∀ (on : Nat), ModeFirst (.hrlEnable c on) c 0x90) ∧
    (∀ (gm : Bool) (payload : List Byte), ModeFirst (.hrlSend c gm payload) c 0x91) ∧ ModeFirst (.hrlHandover c) c 0x92 ∧
    ModeFirst (.hrlQuiet c) c 0x93 ∧ ModeFirst (.hrlWake c) c 0x94 ∧ (∀ (turn : Nat), ModeFirst (.hrlKeySwitch c turn) c 0x95) ∧
    (∀ (p : Nat), ModeFirst (.partReset c p) c 0xa0) ∧ (∀ (n p : Nat), ModeFirst (.faultInject c n p) c 0xa8) ∧
    (∀ (sev : Nat) (data : List Byte), ModeFirst (.ledgerMark c sev data) c 0xa9) ∧ ModeFirst (.devReset c) c 0xb0 ∧
    ModeFirst (.serviceEnter c) c 0xb1 ∧ ModeFirst (.serviceExit c) c 0xb2 ∧ ModeFirst (.safeExit c) c 0xb3 ∧
    (∀ (len : Nat), ModeFirst (.fwBegin c len) c 0xb4) ∧
    (∀ (offset : Nat) (data : List Byte), ModeFirst (.fwWrite c offset data) c 0xb5) ∧ ModeFirst (.fwVerify c) c 0xb6 ∧
    ModeFirst (.fwActivate c) c 0xb7 ∧ (∀ (force : Bool), ModeFirst (.fwConfirm c force) c 0xb8) ∧
    (∀ (nonce : List Byte) (target : Nat), ModeFirst (.attestQuote c nonce target) c 0xb9) ∧ ModeFirst (.attestLog c) c 0xba ∧
    (∀ (data : List Byte), ModeFirst (.mregExtend c data) c 0xbb) ∧
    (∀ (token : List Byte), ModeFirst (.ownerClaim c token) c 0xbc) ∧
    (∀ (act : Nat) (token : List Byte), ModeFirst (.ownerLock c act token) c 0xbd) ∧
    (∀ (chain : List Byte), ModeFirst (.certInstall c chain) c 0xbe) ∧
    (∀ (part key : Nat) (token : List Byte), ModeFirst (.imgKeySet c part key token) c 0xbf) ∧
    (∀ (oct : Nat) (lmodes fecs : List Nat), ModeFirst (.octCfg c oct lmodes fecs) c 0xd0) ∧
    (∀ (a b dom trailer skipLl xport : Nat), ModeFirst (.pairSet c a b dom trailer skipLl xport) c 0xd1) ∧
    (∀ (port : Nat), ModeFirst (.pairClear c port) c 0xd2) ∧
    (∀ (port dst etype flush : Nat), ModeFirst (.exportSet c port dst etype flush) c 0xd3) ∧
    (∀ (port queue : Nat) (frame : List Byte) (tsReq : Option Nat) (insert timeOfs corrOfs csumOfs : Nat) (launch : Option TimeVal) (opp : Nat),
        ModeFirst (.portSend c port queue frame tsReq insert timeOfs corrOfs csumOfs launch opp) c 0xd4) ∧
    (∀ (port slot hdrLen winUs : Nat), ModeFirst (.slgEnable c port slot hdrLen winUs) c 0xd8) ∧
    (∀ (port : Nat), ModeFirst (.slgDisable c port) c 0xd9) ∧ (∀ (page : List Byte), ModeFirst (.slgPageCheck c page) c 0xda) 

/-- A command that only PT0 may send is refused with PARTITION_DENIED to every other caller in a mode in which it is legal, whatever
its operands (R624). That the caller is judged before the operands is the model's choice (log entry 45). -/
def Obligations.OwnerCommandsAreDenied : Prop :=
  ∀ c : Caller,
    (∀ (dom kind parent owner : Nat), OwnerOnly (.domConfig c dom kind parent owner) c 0x10) ∧
    (∀ (dom : Nat) (t : TimeVal) (bound : Nat), OwnerOnly (.domSeed c dom t bound) c 0x11) ∧
    (∀ (dom : Nat), OwnerOnly (.domStart c dom) c 0x12) ∧ (∀ (dom : Nat), OwnerOnly (.domStop c dom) c 0x13) ∧
    (∀ (type leapAt : Nat), OwnerOnly (.leapSet c type leapAt) c 0x16) ∧
    (∀ (m mode startSrc stopSrc dom : Nat) (t0 : TimeVal) (per w dests queue emptyReport lateOk : Nat),
        OwnerOnly (.emuArm c m mode startSrc stopSrc dom t0 per w dests queue emptyReport lateOk) c 0x20) ∧
    (∀ (m : Nat), OwnerOnly (.emuDisarm c m) c 0x21) ∧ (∀ (mask : Nat), OwnerOnly (.tdcCal c mask) c 0x22) ∧
    (∀ (mask : Nat), OwnerOnly (.monRestart c mask) c 0x23) ∧
    (∀ (sigEn tsys elev cn0 span per : Nat), OwnerOnly (.gnssCfg c sigEn tsys elev cn0 span per) c 0x30) ∧
    (∀ (kind : Nat), OwnerOnly (.gnssRestart c kind) c 0x31) ∧
    (∀ (min target max : Nat), OwnerOnly (.gnssSurvey c min target max) c 0x32) ∧
    (∀ (cand : Nat) (x y z : Int) (unc : Nat), OwnerOnly (.gnssPosSet c cand x y z unc) c 0x33) ∧
    OwnerOnly (.gnssPosClear c) c 0x34 ∧ (∀ (on : Nat), OwnerOnly (.gnssTap c on) c 0x35) ∧
    (∀ (cand : Nat), OwnerOnly (.refForce c cand) c 0x40) ∧ (∀ (cand on : Nat), OwnerOnly (.refLockout c cand on) c 0x41) ∧
    (∀ (t : TimeVal) (bound : Nat), OwnerOnly (.rshD0Seed c t bound) c 0x46) ∧
    (∀ (code : Nat), OwnerOnly (.aoiCfdSet c code) c 0x48) ∧ (∀ (step : Int), OwnerOnly (.cfdGainCal c step) c 0x49) ∧
    (∀ (n tf mode refin bw lockWait fl : Nat), OwnerOnly (.synCfg c n tf mode refin bw lockWait fl) c 0x50) ∧
    (∀ (n : Nat) (ticks : Int), OwnerOnly (.synPstep c n ticks) c 0x51) ∧
    (∀ (n method : Nat), OwnerOnly (.synAlign c n method) c 0x52) ∧ (∀ (n : Nat), OwnerOnly (.synMemClear c n) c 0x53) ∧
    (∀ (n : Nat), OwnerOnly (.synOff c n) c 0x54) ∧
    (∀ (v dom : Nat) (e0 : TimeVal) (per width pol lateOk : Nat), OwnerOnly (.synEvoArm c v dom e0 per width pol lateOk) c 0x55) ∧
    (∀ (v : Nat), OwnerOnly (.synEvoDisarm c v) c 0x56) ∧
    (∀ (a part port transport addr : Nat) (tags : List Nat) (ttl : Nat) (ptp ntp nts : Bool) (profile domNum : Nat) (mcast auth twoStep : Bool),
        OwnerOnly (.svcSet c a part port transport addr tags ttl ptp ntp nts profile domNum mcast auth twoStep) c 0x70) ∧
    (∀ (a : Nat), OwnerOnly (.svcClear c a) c 0x71) ∧
    (∀ (a slot cert port : Nat) (records : List Byte), OwnerOnly (.ntskeCfg c a slot cert port records) c 0x74) ∧
    (∀ (slot part : Nat), OwnerOnly (.slotAssign c slot part) c 0x86) ∧
    (∀ (modes filt en : Nat) (lo hi : Int), OwnerOnly (.tamperCfg c modes filt en lo hi) c 0x87) ∧
    (∀ (pass : Bool), OwnerOnly (.kvcSelftest c pass) c 0x88) ∧ OwnerOnly (.kvcZeroise c) c 0x89 ∧
    (∀ (token : List Byte), OwnerOnly (.vaultProvision c token) c 0x8a) ∧ (∀ (on : Nat), OwnerOnly (.hrlEnable c on) c 0x90) ∧
    (∀ (gm : Bool) (payload : List Byte), OwnerOnly (.hrlSend c gm payload) c 0x91) ∧ OwnerOnly (.hrlHandover c) c 0x92 ∧
    OwnerOnly (.hrlQuiet c) c 0x93 ∧ OwnerOnly (.hrlWake c) c 0x94 ∧ (∀ (turn : Nat), OwnerOnly (.hrlKeySwitch c turn) c 0x95) ∧
    (∀ (p : Nat), OwnerOnly (.partReset c p) c 0xa0) ∧ (∀ (n p : Nat), OwnerOnly (.faultInject c n p) c 0xa8) ∧
    OwnerOnly (.devReset c) c 0xb0 ∧ OwnerOnly (.serviceEnter c) c 0xb1 ∧ OwnerOnly (.serviceExit c) c 0xb2 ∧
    OwnerOnly (.safeExit c) c 0xb3 ∧ (∀ (force : Bool), OwnerOnly (.fwConfirm c force) c 0xb8) ∧
    (∀ (data : List Byte), OwnerOnly (.mregExtend c data) c 0xbb) ∧
    (∀ (token : List Byte), OwnerOnly (.ownerClaim c token) c 0xbc) ∧
    (∀ (act : Nat) (token : List Byte), OwnerOnly (.ownerLock c act token) c 0xbd) ∧
    (∀ (chain : List Byte), OwnerOnly (.certInstall c chain) c 0xbe) ∧
    (∀ (part key : Nat) (token : List Byte), OwnerOnly (.imgKeySet c part key token) c 0xbf) ∧
    (∀ (oct : Nat) (lmodes fecs : List Nat), OwnerOnly (.octCfg c oct lmodes fecs) c 0xd0) ∧
    (∀ (a b dom trailer skipLl xport : Nat), OwnerOnly (.pairSet c a b dom trailer skipLl xport) c 0xd1) ∧
    (∀ (port : Nat), OwnerOnly (.pairClear c port) c 0xd2) ∧
    (∀ (port dst etype flush : Nat), OwnerOnly (.exportSet c port dst etype flush) c 0xd3) 

/-- Every step keeps every memory in its canonical form, the register file with them, and takes exactly one command from the queue:
no command puts another one in or takes one out. -/
def Obligations.StepsKeepMemoryAndQueue : Prop :=
  ∀ s t : State, s.memWf = true → step s = .next t → t.memWf = true ∧ t.pending = s.pending.tail

/-- Every step leaves D0 the reference domain and every DERIVED domain with a parent of a lower number (R54, R55). -/
def Obligations.StepsKeepTheDomainTree : Prop :=
  ∀ s t : State, (s.dom 0).kind = .ref → s.parentsLower → step s = .next t → (t.dom 0).kind = .ref ∧ t.parentsLower
end

