-- ==== Sys2Proof/Laws/Bits.lean ====
section
/-! SUPPORT. Bit fields: what a field reads as after a field was written. -/
namespace Sys2Proof.Machine

theorem getLsbD_fieldMask (hi lo k : Nat) (h : hi < 64) (hl : lo ≤ hi) :
    (fieldMask hi lo).getLsbD k = (decide (lo ≤ k) && decide (k ≤ hi)) := by
  simp only [fieldMask, BitVec.getLsbD_shiftLeft, BitVec.getLsbD_ushiftRight, BitVec.getLsbD_allOnes]
  by_cases h1 : lo ≤ k <;> by_cases h2 : k ≤ hi <;> simp [h1, h2] <;> omega

theorem bitsOf_setBits_same (w : Word) (hi lo v : Nat) (h : hi < 64) (hl : lo ≤ hi) :
    bitsOf (setBits w hi lo v) hi lo = v % 2 ^ (hi - lo + 1) := by
  have key : ((setBits w hi lo v &&& fieldMask hi lo) >>> lo) = BitVec.ofNat 64 (v % 2 ^ (hi - lo + 1)) := by
    apply BitVec.eq_of_getLsbD_eq
    intro k hk
    simp only [setBits, BitVec.getLsbD_ushiftRight, BitVec.getLsbD_and, BitVec.getLsbD_or, BitVec.getLsbD_not,
      getLsbD_fieldMask _ _ _ h hl, BitVec.getLsbD_shiftLeft, BitVec.getLsbD_ofNat, Nat.testBit_mod_two_pow]
    by_cases h2 : lo + k ≤ hi
    · have : k < hi - lo + 1 := by omega
      have h3 : lo + k < 64 := by omega
      simp [h2, this, h3, hk]
    · have : ¬ k < hi - lo + 1 := by omega
      simp [h2, this]
  have hlt : v % 2 ^ (hi - lo + 1) < 2 ^ 64 :=
    lt_of_lt_of_le (Nat.mod_lt _ (by positivity)) (Nat.pow_le_pow_right (by decide) (by omega))
  rw [bitsOf, key, BitVec.toNat_ofNat, Nat.mod_eq_of_lt hlt]

theorem bitsOf_setBits_ne (w : Word) (hi lo v hi' lo' : Nat) (h : hi < 64) (h' : hi' < 64) (hl : lo ≤ hi) (hl' : lo' ≤ hi')
    (hd : hi' < lo ∨ hi < lo') : bitsOf (setBits w hi lo v) hi' lo' = bitsOf w hi' lo' := by
  unfold bitsOf
  congr 1
  apply BitVec.eq_of_getLsbD_eq
  intro k hk
  simp only [setBits, BitVec.getLsbD_ushiftRight, BitVec.getLsbD_and, BitVec.getLsbD_or, BitVec.getLsbD_not,
    getLsbD_fieldMask _ _ _ h hl, getLsbD_fieldMask _ _ _ h' hl']
  by_cases h2 : lo' + k ≤ hi'
  · have h3 : (decide (lo ≤ lo' + k) && decide (lo' + k ≤ hi)) = false := by
      rcases hd with hd | hd
      · simp; omega
      · simp; omega
    have h4 : lo' + k < 64 := by omega
    simp [h2, h3, h4]
  · simp [h2]

end Sys2Proof.Machine
end

