-- ==== Sys2Proof/Laws/Bytes.lean ====
section
/-! SUPPORT. Bytes: the number that big-endian bytes hold, and that AES-SIV opens what it has sealed. -/
namespace Sys2Proof.Machine
theorem length_beBytes (n v : Nat) : (beBytes n v).length = n := by simp [beBytes]

theorem beBytes_succ (n v : Nat) : beBytes (n + 1) v = BitVec.ofNat 8 (v / 2 ^ (8 * n)) :: beBytes n v := by
  simp only [beBytes, List.range_succ_eq_map, List.map_cons, List.map_map, List.cons.injEq]
  refine ⟨by simp, List.map_congr_left fun i _ => ?_⟩
  simp only [Function.comp]
  rw [show n + 1 - 1 - i.succ = n - 1 - i by omega]

theorem foldl_beNat (l : List Byte) (a : Nat) :
    l.foldl (fun a b => a * 256 + b.toNat) a = a * 256 ^ l.length + beNat l := by
  induction l generalizing a with
  | nil => simp [beNat]
  | cons b l ih =>
    simp only [List.foldl_cons, List.length_cons, beNat]
    rw [ih, ih (0 * 256 + b.toNat), Nat.pow_succ, Nat.add_mul, Nat.mul_assoc, Nat.mul_comm 256, Nat.zero_mul, Nat.zero_add,
      Nat.add_assoc]

/-- Big-endian bytes hold the number that they were made from (R12). -/
theorem beNat_beBytes (n v : Nat) : beNat (beBytes n v) = v % 256 ^ n := by
  induction n with
  | zero => simp [beBytes, beNat, Nat.mod_one]
  | succ n ih =>
    rw [beBytes_succ]
    simp only [beNat, List.foldl_cons]
    rw [foldl_beNat, length_beBytes, ih]
    simp only [BitVec.toNat_ofNat, Nat.zero_mul, Nat.zero_add]
    rw [show 2 ^ (8 * n) = 256 ^ n by rw [Nat.pow_mul]]
    rw [Nat.pow_succ 256 n, Nat.mod_mul, Nat.mul_comm, Nat.add_comm]

theorem length_sivXor (k : List Byte) (t : BitVec 128) (l : List Byte) : (sivXor k t l).length = l.length := by simp [sivXor]

theorem sivXor_sivXor (k : List Byte) (t : BitVec 128) (l : List Byte) : sivXor k t (sivXor k t l) = l := by
  apply List.ext_getElem
  · simp [sivXor]
  · intro i h1 h2
    simp [sivXor, BitVec.xor_assoc]

/-- What AES-SIV seals it opens (R489). -/
theorem sivOpen_sivSeal (k : List Byte) (ad : List (List Byte)) (pt : List Byte) : sivOpen k ad (sivSeal k ad pt) = some pt := by
  have h1 : (sivSeal k ad pt).take 16 = beBytes 16 (Config.sivTag k ad pt).toNat := by
    simp only [sivSeal]; rw [List.take_left' (length_beBytes _ _)]
  have h2 : (sivSeal k ad pt).drop 16 = sivXor k (Config.sivTag k ad pt) pt := by
    simp only [sivSeal]; rw [List.drop_left' (length_beBytes _ _)]
  have h3 : 16 ≤ (sivSeal k ad pt).length := by simp only [sivSeal, List.length_append, length_beBytes]; omega
  have h4 : BitVec.ofNat 128 (beNat (beBytes 16 (Config.sivTag k ad pt).toNat)) = Config.sivTag k ad pt := by
    rw [beNat_beBytes, Nat.mod_eq_of_lt (Nat.lt_of_lt_of_le (Config.sivTag k ad pt).isLt (by decide))]
    exact BitVec.ofNat_toNat _ _ |>.trans (by simp)
  simp only [sivOpen, h1, h2, h4, sivXor_sivXor, h3, true_and, if_true]
end Sys2Proof.Machine
end

