-- ==== Sys2Proof/Laws/Blob.lean ====
section
/-! SUPPORT. Blobs: what a blob is made from is what KVC's checks read from it, and they pass. -/
namespace Sys2Proof.Machine

/-- The bytes between what stands before and after them. -/
theorem take_drop_mid {a b c : List Byte} {n m : Nat} (ha : a.length = n) (hb : b.length = m) :
    ((a ++ b ++ c).drop n).take m = b := by
  rw [List.append_assoc, List.drop_left' ha, List.take_left' hb]

theorem getD_mid {a c : List Byte} {x d : Byte} {n : Nat} (ha : a.length = n) : (a ++ [x] ++ c).getD n d = x := by
  subst ha; simp [List.getD]

theorem beNat_beBytes_lt {n v : Nat} (h : v < 256 ^ n) : beNat (beBytes n v) = v := by
  rw [beNat_beBytes, Nat.mod_eq_of_lt h]

/-- A list of bytes is the big-endian bytes of its number (R12). -/
theorem beBytes_beNat (l : List Byte) : beBytes l.length (beNat l) = l := by
  induction l with
  | nil => rfl
  | cons b l ih =>
    have hl : beNat l < 256 ^ l.length := by
      rw [← ih, beNat_beBytes, length_beBytes]; exact Nat.mod_lt _ (Nat.pow_pos (by decide))
    have e : beNat (b :: l) = b.toNat * 256 ^ l.length + beNat l := by
      simp only [beNat, List.foldl_cons, Nat.zero_mul, Nat.zero_add]; rw [foldl_beNat]; rfl
    rw [List.length_cons, beBytes_succ, e, show 2 ^ (8 * l.length) = 256 ^ l.length by rw [Nat.pow_mul]]
    congr 1
    · rw [Nat.mul_comm, Nat.mul_add_div (Nat.pow_pos (by decide)), Nat.div_eq_of_lt hl, Nat.add_zero]
      simp
    · conv => rhs; rw [← ih]
      simp only [beBytes]
      apply List.map_congr_left
      intro i hi
      have hi' := List.mem_range.mp hi
      apply BitVec.eq_of_toNat_eq
      simp only [BitVec.toNat_ofNat]
      rw [show 256 ^ l.length = 2 ^ (8 * (l.length - 1 - i)) * (256 * 2 ^ (8 * i)) by
        rw [show (256:Nat) = 2 ^ 8 by rfl, ← Nat.pow_mul, ← Nat.pow_add, ← Nat.pow_add]; congr 1; omega]
      rw [← Nat.mul_assoc, Nat.mul_comm b.toNat, Nat.mul_assoc, Nat.mul_add_div (Nat.pow_pos (by decide)),
        show b.toNat * (256 * 2 ^ (8 * i)) = 2 ^ 8 * (b.toNat * 2 ^ (8 * i)) from Nat.mul_left_comm _ _ _,
        Nat.mul_add_mod]

theorem kcvOf_lt (ty : Nat) (key : List Byte) : kcvOf ty key < 2 ^ 24 := by
  simp only [kcvOf]
  split
  · exact Nat.div_lt_of_lt_mul (Nat.lt_of_lt_of_le (BitVec.isLt _) (by decide))
  · split <;> exact Nat.div_lt_of_lt_mul (Nat.lt_of_lt_of_le (BitVec.isLt _) (by decide))

theorem byte_toNat {n : Nat} (h : n < 256) : (byte n).toNat = n := by simp [byte, Nat.mod_eq_of_lt h]

/-- What KVC's checks read from a blob is what the blob was made from (R542, R545). -/
theorem blobOf_passes (s : State) {p ty attr gen iv : Nat} {key : List Byte} (hp : p < 256) (ha : attrOk ty attr = true)
    (hk : key.length = keyLen ty) (hg : gen < 2 ^ 32) (he : s.kvc.epoch < 2 ^ 32) (st : Status) :
    let b := s.blobOf p ty attr gen iv key
    nb b 1 = ty ∧ nb b 2 = attr ∧ nn b 4 4 = gen ∧ nn b 8 3 = kcvOf ty key ∧ s.blobKey p b = key ∧
      firstFail (s.blobChecks p b (false, st) (kcvOf ty key)) = none := by
  have hty : ty < 256 ∧ attr < 256 ∧ keyLen ty ≤ 48 := by
    match ty with
    | 0 => simp [attrOk, typeInfo] at ha
    | 1 | 2 | 3 | 4 | 5 | 6 | 7 => simp [attrOk, typeInfo] at ha; exact ⟨by decide, ha.1.2, by decide⟩
    | n + 8 => simp [attrOk, typeInfo] at ha
  obtain ⟨ht, hat, hl⟩ := hty
  intro b
  -- the parts
  generalize hG : beBytes 4 gen = G
  generalize hC : beBytes 3 (kcvOf ty key) = C
  generalize hE : beBytes 4 s.kvc.epoch = E
  generalize hI : beBytes 12 iv = I
  have lG : G.length = 4 := by rw [← hG, length_beBytes]
  have lC : C.length = 3 := by rw [← hC, length_beBytes]
  have lE : E.length = 4 := by rw [← hE, length_beBytes]
  have lI : I.length = 12 := by rw [← hI, length_beBytes]
  let H : List Byte := [byte 1, byte ty, byte attr, byte p] ++ G ++ C ++ [byte key.length] ++ E ++ beBytes 4 0
  have lH : H.length = 20 := by simp [H, lG, lC, lE, length_beBytes]
  let P : List Byte := (key ++ List.replicate 48 0#8).take 48
  have lP : P.length = 48 := by simp [P]
  let T : List Byte := beBytes 48 ((BitVec.ofNat 384 (beNat P)) ^^^ Config.gcmStream (s.kek p) I).toNat
  have lT : T.length = 48 := length_beBytes _ _
  let A : List Byte := beBytes 16 (Config.gcmTag (s.kek p) I H T).toNat
  have lA : A.length = 16 := length_beBytes _ _
  have hb : b = H ++ I ++ T ++ A := by
    simp only [b, State.blobOf, hG, hC, hE, hI, H, T, A, P]
  have c0 : nb b 0 = 1 := by rw [hb]; simp only [nb, H]; rfl
  have c1 : nb b 1 = ty := by rw [hb]; simp only [nb, H]; exact byte_toNat ht
  have c2 : nb b 2 = attr := by rw [hb]; simp only [nb, H]; exact byte_toNat hat
  have c3 : nb b 3 = p := by rw [hb]; simp only [nb, H]; exact byte_toNat hp
  have c4 : nn b 4 4 = gen := by
    rw [nn, hb, show H ++ I ++ T ++ A = [byte 1, byte ty, byte attr, byte p] ++ G ++
      (C ++ [byte key.length] ++ E ++ beBytes 4 0 ++ I ++ T ++ A) by simp only [H, List.append_assoc],
      take_drop_mid (by rfl) lG, ← hG, beNat_beBytes_lt (by omega)]
  have c8 : nn b 8 3 = kcvOf ty key := by
    rw [nn, hb, show H ++ I ++ T ++ A = ([byte 1, byte ty, byte attr, byte p] ++ G) ++ C ++
      ([byte key.length] ++ E ++ beBytes 4 0 ++ I ++ T ++ A) by simp only [H, List.append_assoc],
      take_drop_mid (by simp [lG]) lC, ← hC, beNat_beBytes_lt (by have := kcvOf_lt ty key; omega)]
  have c11 : nb b 11 = keyLen ty := by
    rw [nb, hb, show H ++ I ++ T ++ A = ([byte 1, byte ty, byte attr, byte p] ++ G ++ C) ++ [byte key.length] ++
      (E ++ beBytes 4 0 ++ I ++ T ++ A) by simp only [H, List.append_assoc],
      getD_mid (by simp [lG, lC]), hk, byte_toNat (by omega)]
  have c12 : nn b 12 4 = s.kvc.epoch := by
    rw [nn, hb, show H ++ I ++ T ++ A = ([byte 1, byte ty, byte attr, byte p] ++ G ++ C ++ [byte key.length]) ++ E ++
      (beBytes 4 0 ++ I ++ T ++ A) by simp only [H, List.append_assoc],
      take_drop_mid (by simp [lG, lC]) lE, ← hE, beNat_beBytes_lt (by omega)]
  have c16 : nn b 16 4 = 0 := by
    rw [nn, hb, show H ++ I ++ T ++ A = ([byte 1, byte ty, byte attr, byte p] ++ G ++ C ++ [byte key.length] ++ E) ++
      beBytes 4 0 ++ (I ++ T ++ A) by simp only [H, List.append_assoc],
      take_drop_mid (by simp [lG, lC, lE]) (length_beBytes _ _), beNat_beBytes_lt (by decide)]
  have cI : (b.drop 20).take 12 = I := by
    rw [hb, show H ++ I ++ T ++ A = H ++ I ++ (T ++ A) by simp only [List.append_assoc], take_drop_mid lH lI]
  have cT : (b.drop 32).take 48 = T := by
    rw [hb, take_drop_mid (by simp [lH, lI]) lT]
  have cH : b.take 20 = H := by
    rw [hb, List.append_assoc, List.append_assoc, List.take_left' lH]
  have cA : nn b 80 16 = beNat A := by
    have : (b.drop 80).take 16 = A := by
      rw [hb, show H ++ I ++ T ++ A = (H ++ I ++ T) ++ A ++ [] by simp, take_drop_mid (by simp [lH, lI, lT]) lA]
    rw [nn, this]
  have lb : b.length = 96 := by rw [hb]; simp [lH, lI, lT, lA]
  have cU : s.unwrap p b = P := by
    have hT : beNat T = ((BitVec.ofNat 384 (beNat P)) ^^^ Config.gcmStream (s.kek p) I).toNat :=
      beNat_beBytes_lt (Nat.lt_of_lt_of_le (BitVec.isLt _) (by decide))
    rw [State.unwrap, nn, cT, cI, hT, BitVec.ofNat_toNat, BitVec.setWidth_eq, BitVec.xor_assoc, BitVec.xor_self, BitVec.xor_zero,
      BitVec.toNat_ofNat, Nat.mod_eq_of_lt]
    · rw [← lP, beBytes_beNat]
    · have := beNat_beBytes P.length (beNat P)
      rw [beBytes_beNat] at this
      rw [this, lP]
      exact Nat.lt_of_lt_of_le (Nat.mod_lt _ (Nat.pow_pos (by decide))) (by decide)
  have hP : P = key ++ List.replicate (48 - keyLen ty) 0#8 := by
    simp only [P]
    rw [List.take_append, List.take_of_length_le (by omega), List.take_replicate, hk, Nat.min_eq_left (by omega)]
  have cK : s.blobKey p b = key := by rw [State.blobKey, cU, c11, hP, List.take_left' hk]
  have cZ : (s.unwrap p b).drop (nb b 11) = List.replicate (48 - nb b 11) 0#8 := by rw [cU, c11, hP, List.drop_left' hk]
  refine ⟨c1, c2, c4, c8, cK, ?_⟩
  have h1 : (b.length != 96 || nb b 0 != 1 || !attrOk (nb b 1) (nb b 2) || nb b 11 != keyLen (nb b 1) || nn b 16 4 != 0) = false := by
    rw [lb, c0, c1, c2, ha, c11, c16]; simp
  have h2 : (nb b 3 != p) = false := by rw [c3]; simp
  have h3 : (nn b 12 4 != s.kvc.epoch) = false := by rw [c12]; simp
  have h4 : (beNat (beBytes 16 (Config.gcmTag (s.kek p) ((b.drop 20).take 12) (b.take 20) ((b.drop 32).take 48)).toNat) !=
      nn b 80 16) = false := by rw [cI, cT, cH, cA]; simp only [A, bne_self_eq_false] 
  have h5 : ((s.unwrap p b).drop (nb b 11) != List.replicate (48 - nb b 11) 0#8) = false := by rw [cZ]; simp only [bne_self_eq_false]
  have h6 : (kcvOf (nb b 1) (s.blobKey p b) != nn b 8 3 || kcvOf (nb b 1) (s.blobKey p b) != kcvOf ty key) = false := by
    rw [c1, cK, c8]; simp
  simp only [State.blobChecks, h1, h2, h3, h4, h5, h6, firstFail, Bool.false_eq_true, if_false]

/-- The checks of a load are those of the blob where its generation is higher than any before and its type that of the slot (R545). -/
theorem loadChecks_of (s : State) {v kcv : Nat} {b : List Byte} (hg : s.get F.vsCfg_LAST_GEN v < nn b 4 4)
    (ht : s.get F.vsCfg_STATE v = vsActive → nb b 1 = s.get F.vsCfg_TYPE v) :
    s.loadChecks v b kcv = s.blobChecks (s.vsPart v) b (false, .badArg) kcv := by
  unfold State.loadChecks
  have h : (decide (nn b 4 4 ≤ s.get F.vsCfg_LAST_GEN v) || nn b 4 4 == 0 ||
      (s.get F.vsCfg_STATE v == vsActive && nb b 1 != s.get F.vsCfg_TYPE v)) = false := by
    have h0 : nn b 4 4 ≠ 0 := by omega
    simp only [Bool.or_eq_false_iff, decide_eq_false_iff_not, Nat.not_le, beq_eq_false_iff_ne, Bool.and_eq_false_imp, beq_iff_eq,
      bne_eq_false_iff_eq]
    exact ⟨⟨hg, h0⟩, ht⟩
  rw [h]
end Sys2Proof.Machine
end

