-- ==== Sys2Proof/Laws/Exec.lean ====
section
/-! SUPPORT. Each command runs its own meaning. -/
namespace Sys2Proof.Machine

@[simp] theorem exec_registerWrite {m sp addr h data s} : exec (.registerWrite m sp addr h data) s = execRegisterWrite m sp addr h data s := rfl
@[simp] theorem exec_clkTseCycle {core s} : exec (.clkTseCycle core) s = execClkTseCycle core s := rfl
@[simp] theorem exec_boundUpdate {s} : exec .boundUpdate s = execBoundUpdate s := rfl
@[simp] theorem exec_domainTimeCapture {m dom h s} : exec (.domainTimeCapture m dom h) s = execDomainTimeCapture m dom h s := rfl
@[simp] theorem exec_domConfig {c dom kind parent owner s} : exec (.domConfig c dom kind parent owner) s = execDomConfig c dom kind parent owner s := rfl
@[simp] theorem exec_domSeed {c dom t bound s} : exec (.domSeed c dom t bound) s = execDomSeed c dom t bound s := rfl
@[simp] theorem exec_domStart {c dom s} : exec (.domStart c dom) s = execDomStart c dom s := rfl
@[simp] theorem exec_domStop {c dom s} : exec (.domStop c dom) s = execDomStop c dom s := rfl
@[simp] theorem exec_domStep {c dom ticks s} : exec (.domStep c dom ticks) s = execDomStep c dom ticks s := rfl
@[simp] theorem exec_domSlew {c dom ticks unc slewMax s} : exec (.domSlew c dom ticks unc slewMax) s = execDomSlew c dom ticks unc slewMax s := rfl
@[simp] theorem exec_leapSet {c type leapAt s} : exec (.leapSet c type leapAt) s = execLeapSet c type leapAt s := rfl
@[simp] theorem exec_almArm {c slot dom t kind target period policy s} : exec (.almArm c slot dom t kind target period policy) s = execAlmArm c slot dom t kind target period policy s := rfl
@[simp] theorem exec_almCancel {c slot s} : exec (.almCancel c slot) s = execAlmCancel c slot s := rfl
@[simp] theorem exec_leapFire {s} : exec .leapFire s = execLeapFire s := rfl
@[simp] theorem exec_evoEdgeFire {s} : exec .evoEdgeFire s = execEvoEdgeFire s := rfl
@[simp] theorem exec_emuOpenFire {s} : exec .emuOpenFire s = execEmuOpenFire s := rfl
@[simp] theorem exec_emuCloseFire {s} : exec .emuCloseFire s = execEmuCloseFire s := rfl
@[simp] theorem exec_tsvEmitFire {s} : exec .tsvEmitFire s = execTsvEmitFire s := rfl
@[simp] theorem exec_escrowCommitFire {s} : exec .escrowCommitFire s = execEscrowCommitFire s := rfl
@[simp] theorem exec_tallySnapFire {s} : exec .tallySnapFire s = execTallySnapFire s := rfl
@[simp] theorem exec_dsqWakeFire {s} : exec .dsqWakeFire s = execDsqWakeFire s := rfl
@[simp] theorem exec_slwCloseFire {s} : exec .slwCloseFire s = execSlwCloseFire s := rfl
@[simp] theorem exec_hostIntFire {s} : exec .hostIntFire s = execHostIntFire s := rfl
@[simp] theorem exec_qputFire {s} : exec .qputFire s = execQputFire s := rfl
@[simp] theorem exec_rshServoClose {s} : exec .rshServoClose s = execRshServoClose s := rfl
@[simp] theorem exec_hrlServoClose {s} : exec .hrlServoClose s = execHrlServoClose s := rfl
@[simp] theorem exec_holdoverSecondTick {s} : exec .holdoverSecondTick s = execHoldoverSecondTick s := rfl
@[simp] theorem exec_crossCheckAnchor {s} : exec .crossCheckAnchor s = execCrossCheckAnchor s := rfl
@[simp] theorem exec_gnssPairTimeout {s} : exec .gnssPairTimeout s = execGnssPairTimeout s := rfl
@[simp] theorem exec_inputCfgWrite {m n nom h data s} : exec (.inputCfgWrite m n nom h data) s = execInputCfgWrite m n nom h data s := rfl
@[simp] theorem exec_refinEdge {src edge tdc s} : exec (.refinEdge src edge tdc) s = execRefinEdge src edge tdc s := rfl
@[simp] theorem exec_actGapTimeout {n s} : exec (.actGapTimeout n) s = execActGapTimeout n s := rfl
@[simp] theorem exec_actAcceptTimeout {n s} : exec (.actAcceptTimeout n) s = execActAcceptTimeout n s := rfl
@[simp] theorem exec_fmFastGateEnd {n fe ft le lt s} : exec (.fmFastGateEnd n fe ft le lt) s = execFmFastGateEnd n fe ft le lt s := rfl
@[simp] theorem exec_emuFifoRead {m emu h s} : exec (.emuFifoRead m emu h) s = execEmuFifoRead m emu h s := rfl
@[simp] theorem exec_tdcCalCollectDone {t hp hb s} : exec (.tdcCalCollectDone t hp hb) s = execTdcCalCollectDone t hp hb s := rfl
@[simp] theorem exec_tdcCalTimeout {t s} : exec (.tdcCalTimeout t) s = execTdcCalTimeout t s := rfl
@[simp] theorem exec_tdcCalWaitEnd {t s} : exec (.tdcCalWaitEnd t) s = execTdcCalWaitEnd t s := rfl
@[simp] theorem exec_tdcTableInstall {t s} : exec (.tdcTableInstall t) s = execTdcTableInstall t s := rfl
@[simp] theorem exec_tdcTempTrigger {temp s} : exec (.tdcTempTrigger temp) s = execTdcTempTrigger temp s := rfl
@[simp] theorem exec_emuArm {c m mode startSrc stopSrc dom t0 per w dests queue emptyReport lateOk s} : exec (.emuArm c m mode startSrc stopSrc dom t0 per w dests queue emptyReport lateOk) s = execEmuArm c m mode startSrc stopSrc dom t0 per w dests queue emptyReport lateOk s := rfl
@[simp] theorem exec_emuDisarm {c m s} : exec (.emuDisarm c m) s = execEmuDisarm c m s := rfl
@[simp] theorem exec_tdcCal {c mask s} : exec (.tdcCal c mask) s = execTdcCal c mask s := rfl
@[simp] theorem exec_monRestart {c mask s} : exec (.monRestart c mask) s = execMonRestart c mask s := rfl
@[simp] theorem exec_cohGateEnd {smp0 smp1 rms s} : exec (.cohGateEnd smp0 smp1 rms) s = execCohGateEnd smp0 smp1 rms s := rfl
@[simp] theorem exec_gspCfgWrite {m n lo h data s} : exec (.gspCfgWrite m n lo h data) s = execGspCfgWrite m n lo h data s := rfl
@[simp] theorem exec_acquisitionSearchDone {signal sv found phase doppler s} : exec (.acquisitionSearchDone signal sv found phase doppler) s = execAcquisitionSearchDone signal sv found phase doppler s := rfl
@[simp] theorem exec_channelAssign {ch signal sv phase doppler s} : exec (.channelAssign ch signal sv phase doppler) s = execChannelAssign ch signal sv phase doppler s := rfl
@[simp] theorem exec_channelLock {ch s} : exec (.channelLock ch) s = execChannelLock ch s := rfl
@[simp] theorem exec_pullInTimeout {ch s} : exec (.pullInTimeout ch) s = execPullInTimeout ch s := rfl
@[simp] theorem exec_bitSyncFound {ch s} : exec (.bitSyncFound ch) s = execBitSyncFound ch s := rfl
@[simp] theorem exec_frameSyncFound {sync s} : exec (.frameSyncFound sync) s = execFrameSyncFound sync s := rfl
@[simp] theorem exec_cn0Loss {ch s} : exec (.cn0Loss ch) s = execCn0Loss ch s := rfl
@[simp] theorem exec_channelRelease {ch s} : exec (.channelRelease ch) s = execChannelRelease ch s := rfl
@[simp] theorem exec_measEpoch {meas s} : exec (.measEpoch meas) s = execMeasEpoch meas s := rfl
@[simp] theorem exec_navUnitComplete {ch fmt inverted fail rxc received taken s} : exec (.navUnitComplete ch fmt inverted fail rxc received taken) s = execNavUnitComplete ch fmt inverted fail rxc received taken s := rfl
@[simp] theorem exec_gnbTapfRead {m h s} : exec (.gnbTapfRead m h) s = execGnbTapfRead m h s := rfl
@[simp] theorem exec_gppsScheduleWrite {sysSec est sigma mode flags used s} : exec (.gppsScheduleWrite sysSec est sigma mode flags used) s = execGppsScheduleWrite sysSec est sigma mode flags used s := rfl
@[simp] theorem exec_gppsEdge {tdc s} : exec (.gppsEdge tdc) s = execGppsEdge tdc s := rfl
@[simp] theorem exec_gnbTmsgCapture {m h s} : exec (.gnbTmsgCapture m h) s = execGnbTmsgCapture m h s := rfl
@[simp] theorem exec_solutionLostTimeout {s} : exec .solutionLostTimeout s = execSolutionLostTimeout s := rfl
@[simp] theorem exec_surveyDone {elapsed x y z unc s} : exec (.surveyDone elapsed x y z unc) s = execSurveyDone elapsed x y z unc s := rfl
@[simp] theorem exec_surveyFailed {elapsed unc s} : exec (.surveyFailed elapsed unc) s = execSurveyFailed elapsed unc s := rfl
@[simp] theorem exec_holdSuspect {s} : exec .holdSuspect s = execHoldSuspect s := rfl
@[simp] theorem exec_gnssCfg {c sigEn tsys elev cn0 span per s} : exec (.gnssCfg c sigEn tsys elev cn0 span per) s = execGnssCfg c sigEn tsys elev cn0 span per s := rfl
@[simp] theorem exec_gnssRestart {c kind s} : exec (.gnssRestart c kind) s = execGnssRestart c kind s := rfl
@[simp] theorem exec_gnssSurvey {c min target max s} : exec (.gnssSurvey c min target max) s = execGnssSurvey c min target max s := rfl
@[simp] theorem exec_gnssPosSet {c cand x y z unc s} : exec (.gnssPosSet c cand x y z unc) s = execGnssPosSet c cand x y z unc s := rfl
@[simp] theorem exec_gnssPosClear {c s} : exec (.gnssPosClear c) s = execGnssPosClear c s := rfl
@[simp] theorem exec_gnssTap {c on s} : exec (.gnssTap c on) s = execGnssTap c on s := rfl
@[simp] theorem exec_cfdComplianceSample {vloop vcfd imeas s} : exec (.cfdComplianceSample vloop vcfd imeas) s = execCfdComplianceSample vloop vcfd imeas s := rfl
@[simp] theorem exec_aoiOffloadStep {s} : exec .aoiOffloadStep s = execAoiOffloadStep s := rfl
@[simp] theorem exec_aoiMonMean {codes s} : exec (.aoiMonMean codes) s = execAoiMonMean codes s := rfl
@[simp] theorem exec_aoiEolFit {s} : exec .aoiEolFit s = execAoiEolFit s := rfl
@[simp] theorem exec_gainCalPhaseEnd {s} : exec .gainCalPhaseEnd s = execGainCalPhaseEnd s := rfl
@[simp] theorem exec_refForce {c cand s} : exec (.refForce c cand) s = execRefForce c cand s := rfl
@[simp] theorem exec_refLockout {c cand on s} : exec (.refLockout c cand on) s = execRefLockout c cand on s := rfl
@[simp] theorem exec_rshOpen {c s} : exec (.rshOpen c) s = execRshOpen c s := rfl
@[simp] theorem exec_rshClose {c s} : exec (.rshClose c) s = execRshClose c s := rfl
@[simp] theorem exec_steerFreq {c foff s} : exec (.steerFreq c foff) s = execSteerFreq c foff s := rfl
@[simp] theorem exec_steerPhase {c ticks unc slewMax s} : exec (.steerPhase c ticks unc slewMax) s = execSteerPhase c ticks unc slewMax s := rfl
@[simp] theorem exec_rshD0Seed {c t bound s} : exec (.rshD0Seed c t bound) s = execRshD0Seed c t bound s := rfl
@[simp] theorem exec_aoiSteer {c on s} : exec (.aoiSteer c on) s = execAoiSteer c on s := rfl
@[simp] theorem exec_aoiCfdSet {c code s} : exec (.aoiCfdSet c code) s = execAoiCfdSet c code s := rfl
@[simp] theorem exec_cfdGainCal {c step s} : exec (.cfdGainCal c step) s = execCfdGainCal c step s := rfl
@[simp] theorem exec_bandSearchStepEnd {n count s} : exec (.bandSearchStepEnd n count) s = execBandSearchStepEnd n count s := rfl
@[simp] theorem exec_bandVerifyEnd {n count s} : exec (.bandVerifyEnd n count) s = execBandVerifyEnd n count s := rfl
@[simp] theorem exec_lockWaitExpire {n s} : exec (.lockWaitExpire n) s = execLockWaitExpire n s := rfl
@[simp] theorem exec_phaseMonitorCompare {n count s} : exec (.phaseMonitorCompare n count) s = execPhaseMonitorCompare n count s := rfl
@[simp] theorem exec_alignErrCompute {n s} : exec (.alignErrCompute n) s = execAlignErrCompute n s := rfl
@[simp] theorem exec_clkoutSettingApply {o s} : exec (.clkoutSettingApply o) s = execClkoutSettingApply o s := rfl
@[simp] theorem exec_synCfg {c n tf mode refin bw lockWait fl s} : exec (.synCfg c n tf mode refin bw lockWait fl) s = execSynCfg c n tf mode refin bw lockWait fl s := rfl
@[simp] theorem exec_synPstep {c n ticks s} : exec (.synPstep c n ticks) s = execSynPstep c n ticks s := rfl
@[simp] theorem exec_synAlign {c n method s} : exec (.synAlign c n method) s = execSynAlign c n method s := rfl
@[simp] theorem exec_synMemClear {c n s} : exec (.synMemClear c n) s = execSynMemClear c n s := rfl
@[simp] theorem exec_synOff {c n s} : exec (.synOff c n) s = execSynOff c n s := rfl
@[simp] theorem exec_synEvoArm {c v dom e0 per width pol lateOk s} : exec (.synEvoArm c v dom e0 per width pol lateOk) s = execSynEvoArm c v dom e0 per width pol lateOk s := rfl
@[simp] theorem exec_synEvoDisarm {c v s} : exec (.synEvoDisarm c v) s = execSynEvoDisarm c v s := rfl
@[simp] theorem exec_engineIssueCycle {e s} : exec (.engineIssueCycle e) s = execEngineIssueCycle e s := rfl
@[simp] theorem exec_add {t rd ra rb s} : exec (.add t rd ra rb) s = execAdd t rd ra rb s := rfl
@[simp] theorem exec_sub {t rd ra rb s} : exec (.sub t rd ra rb) s = execSub t rd ra rb s := rfl
@[simp] theorem exec_and {t rd ra rb s} : exec (.and t rd ra rb) s = execAnd t rd ra rb s := rfl
@[simp] theorem exec_or {t rd ra rb s} : exec (.or t rd ra rb) s = execOr t rd ra rb s := rfl
@[simp] theorem exec_xor {t rd ra rb s} : exec (.xor t rd ra rb) s = execXor t rd ra rb s := rfl
@[simp] theorem exec_shl {t rd ra rb s} : exec (.shl t rd ra rb) s = execShl t rd ra rb s := rfl
@[simp] theorem exec_shr {t rd ra rb s} : exec (.shr t rd ra rb) s = execShr t rd ra rb s := rfl
@[simp] theorem exec_sra {t rd ra rb s} : exec (.sra t rd ra rb) s = execSra t rd ra rb s := rfl
@[simp] theorem exec_mul {t rd ra rb s} : exec (.mul t rd ra rb) s = execMul t rd ra rb s := rfl
@[simp] theorem exec_mulhu {t rd ra rb s} : exec (.mulhu t rd ra rb) s = execMulhu t rd ra rb s := rfl
@[simp] theorem exec_mulhs {t rd ra rb s} : exec (.mulhs t rd ra rb) s = execMulhs t rd ra rb s := rfl
@[simp] theorem exec_cmp {t ra rb s} : exec (.cmp t ra rb) s = execCmp t ra rb s := rfl
@[simp] theorem exec_min {t rd ra rb s} : exec (.min t rd ra rb) s = execMin t rd ra rb s := rfl
@[simp] theorem exec_max {t rd ra rb s} : exec (.max t rd ra rb) s = execMax t rd ra rb s := rfl
@[simp] theorem exec_adds {t rd ra rb s} : exec (.adds t rd ra rb) s = execAdds t rd ra rb s := rfl
@[simp] theorem exec_subs {t rd ra rb s} : exec (.subs t rd ra rb) s = execSubs t rd ra rb s := rfl
@[simp] theorem exec_addi {t rd ra e imm s} : exec (.addi t rd ra e imm) s = execAddi t rd ra e imm s := rfl
@[simp] theorem exec_andi {t rd ra e imm s} : exec (.andi t rd ra e imm) s = execAndi t rd ra e imm s := rfl
@[simp] theorem exec_ori {t rd ra e imm s} : exec (.ori t rd ra e imm) s = execOri t rd ra e imm s := rfl
@[simp] theorem exec_xori {t rd ra e imm s} : exec (.xori t rd ra e imm) s = execXori t rd ra e imm s := rfl
@[simp] theorem exec_shi {t rd ra ty amount s} : exec (.shi t rd ra ty amount) s = execShi t rd ra ty amount s := rfl
@[simp] theorem exec_cmpi {t ra e imm s} : exec (.cmpi t ra e imm) s = execCmpi t ra e imm s := rfl
@[simp] theorem exec_li {t rd e imm s} : exec (.li t rd e imm) s = execLi t rd e imm s := rfl
@[simp] theorem exec_liu {t rd e imm s} : exec (.liu t rd e imm) s = execLiu t rd e imm s := rfl
@[simp] theorem exec_fmul {t rd ra rb rm s} : exec (.fmul t rd ra rb rm) s = execFmul t rd ra rb rm s := rfl
@[simp] theorem exec_fmac {t rd ra rb rm s} : exec (.fmac t rd ra rb rm) s = execFmac t rd ra rb rm s := rfl
@[simp] theorem exec_sat {t rd ra rb s} : exec (.sat t rd ra rb) s = execSat t rd ra rb s := rfl
@[simp] theorem exec_itof {t rd ra s} : exec (.itof t rd ra) s = execItof t rd ra s := rfl
@[simp] theorem exec_ftoi {t rd ra rm s} : exec (.ftoi t rd ra rm) s = execFtoi t rd ra rm s := rfl
@[simp] theorem exec_ld {t rd ra e imm s} : exec (.ld t rd ra e imm) s = execLd t rd ra e imm s := rfl
@[simp] theorem exec_ldw {t rd ra e imm s} : exec (.ldw t rd ra e imm) s = execLdw t rd ra e imm s := rfl
@[simp] theorem exec_st {t rs ra e imm s} : exec (.st t rs ra e imm) s = execSt t rs ra e imm s := rfl
@[simp] theorem exec_stw {t rs ra e imm s} : exec (.stw t rs ra e imm) s = execStw t rs ra e imm s := rfl
@[simp] theorem exec_tread {t tn dom s} : exec (.tread t tn dom) s = execTread t tn dom s := rfl
@[simp] theorem exec_tsnap {t tn count gs s} : exec (.tsnap t tn count gs) s = execTsnap t tn count gs s := rfl
@[simp] theorem exec_tadd {t tn ta gs ns s} : exec (.tadd t tn ta gs ns) s = execTadd t tn ta gs ns s := rfl
@[simp] theorem exec_tsub {t gd ta tb wb s} : exec (.tsub t gd ta tb wb) s = execTsub t gd ta tb wb s := rfl
@[simp] theorem exec_tcmp {t ta tb bnd s} : exec (.tcmp t ta tb bnd) s = execTcmp t ta tb bnd s := rfl
@[simp] theorem exec_twait {t tn gd s} : exec (.twait t tn gd) s = execTwait t tn gd s := rfl
@[simp] theorem exec_temit {t tn gd gs s} : exec (.temit t tn gd gs) s = execTemit t tn gd gs s := rfl
@[simp] theorem exec_tget {t gd tn field s} : exec (.tget t gd tn field) s = execTget t gd tn field s := rfl
@[simp] theorem exec_tset {t tn gs field s} : exec (.tset t tn gs field) s = execTset t tn gs field s := rfl
@[simp] theorem exec_qput {t gs q fin nb s} : exec (.qput t gs q fin nb) s = execQput t gs q fin nb s := rfl
@[simp] theorem exec_qget {t gd q nb s} : exec (.qget t gd q nb) s = execQget t gd q nb s := rfl
@[simp] theorem exec_qcnt {t gd q s} : exec (.qcnt t gd q) s = execQcnt t gd q s := rfl
@[simp] theorem exec_ebegin {t gd s} : exec (.ebegin t gd) s = execEbegin t gd s := rfl
@[simp] theorem exec_ewr {t gd ga gs e s} : exec (.ewr t gd ga gs e) s = execEwr t gd ga gs e s := rfl
@[simp] theorem exec_ecommit {t gd e at' late s} : exec (.ecommit t gd e at' late) s = execEcommit t gd e at' late s := rfl
@[simp] theorem exec_eabort {t gd e s} : exec (.eabort t gd e) s = execEabort t gd e s := rfl
@[simp] theorem exec_pcmd {t gd ga cmd s} : exec (.pcmd t gd ga cmd) s = execPcmd t gd ga cmd s := rfl
@[simp] theorem exec_kmac {t gd ga gb s} : exec (.kmac t gd ga gb) s = execKmac t gd ga gb s := rfl
@[simp] theorem exec_br {t e off s} : exec (.br t e off) s = execBr t e off s := rfl
@[simp] theorem exec_bcc {t cond e off s} : exec (.bcc t cond e off) s = execBcc t cond e off s := rfl
@[simp] theorem exec_call {t gl e off s} : exec (.call t gl e off) s = execCall t gl e off s := rfl
@[simp] theorem exec_ret {t ga s} : exec (.ret t ga) s = execRet t ga s := rfl
@[simp] theorem exec_yield {t s} : exec (.yield t) s = execYield t s := rfl
@[simp] theorem exec_halt {t s} : exec (.halt t) s = execHalt t s := rfl
@[simp] theorem exec_trap {t code s} : exec (.trap t code) s = execTrap t code s := rfl
@[simp] theorem exec_illegalInstruction {t s} : exec (.illegalInstruction t) s = execIllegalInstruction t s := rfl
@[simp] theorem exec_threadReplyArrive {t s} : exec (.threadReplyArrive t) s = execThreadReplyArrive t s := rfl
@[simp] theorem exec_queueWaitWake {q s} : exec (.queueWaitWake q) s = execQueueWaitWake q s := rfl
@[simp] theorem exec_yieldRelease {t s} : exec (.yieldRelease t) s = execYieldRelease t s := rfl
@[simp] theorem exec_escrowImmediateCommit {s} : exec .escrowImmediateCommit s = execEscrowImmediateCommit s := rfl
@[simp] theorem exec_dsqSampleCapture {t s} : exec (.dsqSampleCapture t) s = execDsqSampleCapture t s := rfl
@[simp] theorem exec_drvLoad {c image s} : exec (.drvLoad c image) s = execDrvLoad c image s := rfl
@[simp] theorem exec_drvUnload {c part codeBase s} : exec (.drvUnload c part codeBase) s = execDrvUnload c part codeBase s := rfl
@[simp] theorem exec_thrStart {c t off s} : exec (.thrStart c t off) s = execThrStart c t off s := rfl
@[simp] theorem exec_thrStop {c t s} : exec (.thrStop c t) s = execThrStop c t s := rfl
@[simp] theorem exec_thrResume {c t pc s} : exec (.thrResume c t pc) s = execThrResume c t pc s := rfl
@[simp] theorem exec_escBegin {c s} : exec (.escBegin c) s = execEscBegin c s := rfl
@[simp] theorem exec_escWrite {c e addr w s} : exec (.escWrite c e addr w) s = execEscWrite c e addr w s := rfl
@[simp] theorem exec_escCommit {c e at' lateOk s} : exec (.escCommit c e at' lateOk) s = execEscCommit c e at' lateOk s := rfl
@[simp] theorem exec_escAbort {c e s} : exec (.escAbort c e) s = execEscAbort c e s := rfl
@[simp] theorem exec_queuePush {m q h data s} : exec (.queuePush m q h data) s = execQueuePush m q h data s := rfl
@[simp] theorem exec_queuePushEnd {m q h data s} : exec (.queuePushEnd m q h data) s = execQueuePushEnd m q h data s := rfl
@[simp] theorem exec_queueDataRead {m q h s} : exec (.queueDataRead m q h) s = execQueueDataRead m q h s := rfl
@[simp] theorem exec_queueCfgWrite {m q h data s} : exec (.queueCfgWrite m q h data) s = execQueueCfgWrite m q h data s := rfl
@[simp] theorem exec_octCfg {c oct lmodes fecs s} : exec (.octCfg c oct lmodes fecs) s = execOctCfg c oct lmodes fecs s := rfl
@[simp] theorem exec_pairSet {c a b dom trailer skipLl xport s} : exec (.pairSet c a b dom trailer skipLl xport) s = execPairSet c a b dom trailer skipLl xport s := rfl
@[simp] theorem exec_pairClear {c port s} : exec (.pairClear c port) s = execPairClear c port s := rfl
@[simp] theorem exec_exportSet {c port dst etype flush s} : exec (.exportSet c port dst etype flush) s = execExportSet c port dst etype flush s := rfl
@[simp] theorem exec_portSend {c port queue frame tsReq insert timeOfs corrOfs csumOfs launch opp s} : exec (.portSend c port queue frame tsReq insert timeOfs corrOfs csumOfs launch opp) s = execPortSend c port queue frame tsReq insert timeOfs corrOfs csumOfs launch opp s := rfl
@[simp] theorem exec_serviceFrameRx {port delta frame bad s} : exec (.serviceFrameRx port delta frame bad) s = execServiceFrameRx port delta frame bad s := rfl
@[simp] theorem exec_passFrameRx {port delta frame bad gap s} : exec (.passFrameRx port delta frame bad gap) s = execPassFrameRx port delta frame bad gap s := rfl
@[simp] theorem exec_passFrameForward {port s} : exec (.passFrameForward port) s = execPassFrameForward port s := rfl
@[simp] theorem exec_frameTx {port delta s} : exec (.frameTx port delta) s = execFrameTx port delta s := rfl
@[simp] theorem exec_launchOpportunity {port delta s} : exec (.launchOpportunity port delta) s = execLaunchOpportunity port delta s := rfl
@[simp] theorem exec_dlmMeasure {lane done rx tx s} : exec (.dlmMeasure lane done rx tx) s = execDlmMeasure lane done rx tx s := rfl
@[simp] theorem exec_portLinkUp {lane s} : exec (.portLinkUp lane) s = execPortLinkUp lane s := rfl
@[simp] theorem exec_portLinkDown {lane s} : exec (.portLinkDown lane) s = execPortLinkDown lane s := rfl
@[simp] theorem exec_txtsFifoRead {m port h s} : exec (.txtsFifoRead m port h) s = execTxtsFifoRead m port h s := rfl
@[simp] theorem exec_exportFlush {s} : exec .exportFlush s = execExportFlush s := rfl
@[simp] theorem exec_slgEnable {c port slot hdrLen winUs s} : exec (.slgEnable c port slot hdrLen winUs) s = execSlgEnable c port slot hdrLen winUs s := rfl
@[simp] theorem exec_slgDisable {c port s} : exec (.slgDisable c port) s = execSlgDisable c port s := rfl
@[simp] theorem exec_slgPageCheck {c page s} : exec (.slgPageCheck c page) s = execSlgPageCheck c page s := rfl
@[simp] theorem exec_pageSeal {port s} : exec (.pageSeal port) s = execPageSeal port s := rfl
@[simp] theorem exec_checkpointBuild {part s} : exec (.checkpointBuild part) s = execCheckpointBuild part s := rfl
@[simp] theorem exec_slgRingEnable {m p ckpt h data s} : exec (.slgRingEnable m p ckpt h data) s = execSlgRingEnable m p ckpt h data s := rfl
@[simp] theorem exec_svcSet {c a part port transport addr tags ttl ptp ntp nts profile domNum mcast auth twoStep s} : exec (.svcSet c a part port transport addr tags ttl ptp ntp nts profile domNum mcast auth twoStep) s = execSvcSet c a part port transport addr tags ttl ptp ntp nts profile domNum mcast auth twoStep s := rfl
@[simp] theorem exec_svcClear {c a s} : exec (.svcClear c a) s = execSvcClear c a s := rfl
@[simp] theorem exec_ntsKeyRoll {c a slot prevClear s} : exec (.ntsKeyRoll c a slot prevClear) s = execNtsKeyRoll c a slot prevClear s := rfl
@[simp] theorem exec_assocFlush {c a s} : exec (.assocFlush c a) s = execAssocFlush c a s := rfl
@[simp] theorem exec_ntskeCfg {c a slot cert port records s} : exec (.ntskeCfg c a slot cert port records) s = execNtskeCfg c a slot cert port records s := rfl
@[simp] theorem exec_xcAdmit {s} : exec .xcAdmit s = execXcAdmit s := rfl
@[simp] theorem exec_xcParseDone {x s} : exec (.xcParseDone x) s = execXcParseDone x s := rfl
@[simp] theorem exec_xcKeyDone {x s} : exec (.xcKeyDone x) s = execXcKeyDone x s := rfl
@[simp] theorem exec_xcVerifyDone {x opp s} : exec (.xcVerifyDone x opp) s = execXcVerifyDone x opp s := rfl
@[simp] theorem exec_xcBuildDone {x s} : exec (.xcBuildDone x) s = execXcBuildDone x s := rfl
@[simp] theorem exec_xcTimeout {x s} : exec (.xcTimeout x) s = execXcTimeout x s := rfl
@[simp] theorem exec_policeDecaySweep {s} : exec .policeDecaySweep s = execPoliceDecaySweep s := rfl
@[simp] theorem exec_assocExpire {x s} : exec (.assocExpire x) s = execAssocExpire x s := rfl
@[simp] theorem exec_ntskeHandshake {a c2s s2c s} : exec (.ntskeHandshake a c2s s2c) s = execNtskeHandshake a c2s s2c s := rfl
@[simp] theorem exec_tsvTableEnable {m police h data s} : exec (.tsvTableEnable m police h data) s = execTsvTableEnable m police h data s := rfl
@[simp] theorem exec_keyGen {c ty attr gen s} : exec (.keyGen c ty attr gen) s = execKeyGen c ty attr gen s := rfl
@[simp] theorem exec_keyImport {c ty attr gen material s} : exec (.keyImport c ty attr gen material) s = execKeyImport c ty attr gen material s := rfl
@[simp] theorem exec_keyLoad {c slot blob kcv persist s} : exec (.keyLoad c slot blob kcv persist) s = execKeyLoad c slot blob kcv persist s := rfl
@[simp] theorem exec_keyErase {c slot s} : exec (.keyErase c slot) s = execKeyErase c slot s := rfl
@[simp] theorem exec_keyInfo {c slot s} : exec (.keyInfo c slot) s = execKeyInfo c slot s := rfl
@[simp] theorem exec_kvcSign {c slot digest s} : exec (.kvcSign c slot digest) s = execKvcSign c slot digest s := rfl
@[simp] theorem exec_slotAssign {c slot part s} : exec (.slotAssign c slot part) s = execSlotAssign c slot part s := rfl
@[simp] theorem exec_tamperCfg {c modes filt en lo hi s} : exec (.tamperCfg c modes filt en lo hi) s = execTamperCfg c modes filt en lo hi s := rfl
@[simp] theorem exec_kvcSelftest {c pass s} : exec (.kvcSelftest c pass) s = execKvcSelftest c pass s := rfl
@[simp] theorem exec_kvcZeroise {c s} : exec (.kvcZeroise c) s = execKvcZeroise c s := rfl
@[simp] theorem exec_vaultProvision {c token s} : exec (.vaultProvision c token) s = execVaultProvision c token s := rfl
@[simp] theorem exec_tamperTrip {source supply s} : exec (.tamperTrip source supply) s = execTamperTrip source supply s := rfl
@[simp] theorem exec_eraseForceTimeout {slot s} : exec (.eraseForceTimeout slot) s = execEraseForceTimeout slot s := rfl
@[simp] theorem exec_keyCacheMissDone {slot gen blob s} : exec (.keyCacheMissDone slot gen blob) s = execKeyCacheMissDone slot gen blob s := rfl
@[simp] theorem exec_cpExportRelease {call gen s} : exec (.cpExportRelease call gen) s = execCpExportRelease call gen s := rfl
@[simp] theorem exec_cacheEccError {slot gen s} : exec (.cacheEccError slot gen) s = execCacheEccError slot gen s := rfl
@[simp] theorem exec_drbgReseed {s} : exec .drbgReseed s = execDrbgReseed s := rfl
@[simp] theorem exec_rngHealthFail {s} : exec .rngHealthFail s = execRngHealthFail s := rfl
@[simp] theorem exec_hrlEnable {c on s} : exec (.hrlEnable c on) s = execHrlEnable c on s := rfl
@[simp] theorem exec_hrlSend {c gm payload s} : exec (.hrlSend c gm payload) s = execHrlSend c gm payload s := rfl
@[simp] theorem exec_hrlHandover {c s} : exec (.hrlHandover c) s = execHrlHandover c s := rfl
@[simp] theorem exec_hrlQuiet {c s} : exec (.hrlQuiet c) s = execHrlQuiet c s := rfl
@[simp] theorem exec_hrlWake {c s} : exec (.hrlWake c) s = execHrlWake c s := rfl
@[simp] theorem exec_hrlKeySwitch {c turn s} : exec (.hrlKeySwitch c turn) s = execHrlKeySwitch c turn s := rfl
@[simp] theorem exec_hingeLinkChange {e up rx tx s} : exec (.hingeLinkChange e up rx tx) s = execHingeLinkChange e up rx tx s := rfl
@[simp] theorem exec_timeMarkRx {e delta frame crcOk s} : exec (.timeMarkRx e delta frame crcOk) s = execTimeMarkRx e delta frame crcOk s := rfl
@[simp] theorem exec_coinRx {e frame crcOk s} : exec (.coinRx e frame crcOk) s = execCoinRx e frame crcOk s := rfl
@[simp] theorem exec_bulkRx {e frame crcOk s} : exec (.bulkRx e frame crcOk) s = execBulkRx e frame crcOk s := rfl
@[simp] theorem exec_ackRx {e frame crcOk s} : exec (.ackRx e frame crcOk) s = execAckRx e frame crcOk s := rfl
@[simp] theorem exec_healthRx {e delta frame crcOk s} : exec (.healthRx e delta frame crcOk) s = execHealthRx e delta frame crcOk s := rfl
@[simp] theorem exec_claimRx {e frame crcOk s} : exec (.claimRx e frame crcOk) s = execClaimRx e frame crcOk s := rfl
@[simp] theorem exec_rosterRx {e frame crcOk s} : exec (.rosterRx e frame crcOk) s = execRosterRx e frame crcOk s := rfl
@[simp] theorem exec_wakeRx {e frame crcOk s} : exec (.wakeRx e frame crcOk) s = execWakeRx e frame crcOk s := rfl
@[simp] theorem exec_quietRx {e frame crcOk s} : exec (.quietRx e frame crcOk) s = execQuietRx e frame crcOk s := rfl
@[simp] theorem exec_frameRepeat {e s} : exec (.frameRepeat e) s = execFrameRepeat e s := rfl
@[simp] theorem exec_turnStart {s} : exec .turnStart s = execTurnStart s := rfl
@[simp] theorem exec_turnTimeout {s} : exec .turnTimeout s = execTurnTimeout s := rfl
@[simp] theorem exec_timeMarkSend {deltaE deltaW s} : exec (.timeMarkSend deltaE deltaW) s = execTimeMarkSend deltaE deltaW s := rfl
@[simp] theorem exec_healthSend {deltaE deltaW s} : exec (.healthSend deltaE deltaW) s = execHealthSend deltaE deltaW s := rfl
@[simp] theorem exec_ackSend {s} : exec .ackSend s = execAckSend s := rfl
@[simp] theorem exec_gmStreamSend {s} : exec .gmStreamSend s = execGmStreamSend s := rfl
@[simp] theorem exec_bulkSend {s} : exec .bulkSend s = execBulkSend s := rfl
@[simp] theorem exec_coinSend {s} : exec .coinSend s = execCoinSend s := rfl
@[simp] theorem exec_bulkRetransmit {gm s} : exec (.bulkRetransmit gm) s = execBulkRetransmit gm s := rfl
@[simp] theorem exec_claimSend {s} : exec .claimSend s = execClaimSend s := rfl
@[simp] theorem exec_stewardElect {s} : exec .stewardElect s = execStewardElect s := rfl
@[simp] theorem exec_coinRemint {s} : exec .coinRemint s = execCoinRemint s := rfl
@[simp] theorem exec_memberRemove {k s} : exec (.memberRemove k) s = execMemberRemove k s := rfl
@[simp] theorem exec_stewardTakeover {s} : exec .stewardTakeover s = execStewardTakeover s := rfl
@[simp] theorem exec_gmbPromote {s} : exec .gmbPromote s = execGmbPromote s := rfl
@[simp] theorem exec_ringSilenceTimeout {s} : exec .ringSilenceTimeout s = execRingSilenceTimeout s := rfl
@[simp] theorem exec_gmbSelftest {kat loop s} : exec (.gmbSelftest kat loop) s = execGmbSelftest kat loop s := rfl
@[simp] theorem exec_hrlRxfRead {m h s} : exec (.hrlRxfRead m h) s = execHrlRxfRead m h s := rfl
@[simp] theorem exec_partReset {c p s} : exec (.partReset c p) s = execPartReset c p s := rfl
@[simp] theorem exec_partitionEnableWrite {m p h data s} : exec (.partitionEnableWrite m p h data) s = execPartitionEnableWrite m p h data s := rfl
@[simp] theorem exec_functionLevelReset {f s} : exec (.functionLevelReset f) s = execFunctionLevelReset f s := rfl
@[simp] theorem exec_perstAssert {s} : exec .perstAssert s = execPerstAssert s := rfl
@[simp] theorem exec_perstRelease {s} : exec .perstRelease s = execPerstRelease s := rfl
@[simp] theorem exec_ringDoorbell {m f r h data s} : exec (.ringDoorbell m f r h data) s = execRingDoorbell m f r h data s := rfl
@[simp] theorem exec_commandStart {f r entry ext s} : exec (.commandStart f r entry ext) s = execCommandStart f r entry ext s := rfl
@[simp] theorem exec_ringEnable {m f r h data s} : exec (.ringEnable m f r h data) s = execRingEnable m f r h data s := rfl
@[simp] theorem exec_msixUnmask {f v s} : exec (.msixUnmask f v) s = execMsixUnmask f v s := rfl
@[simp] theorem exec_busWatchdogExpire {code job addr s} : exec (.busWatchdogExpire code job addr) s = execBusWatchdogExpire code job addr s := rfl
@[simp] theorem exec_blockResetReaction {kat s} : exec (.blockResetReaction kat) s = execBlockResetReaction kat s := rfl
@[simp] theorem exec_chipResetReaction {s} : exec .chipResetReaction s = execChipResetReaction s := rfl
@[simp] theorem exec_faultDeviceClear {m h data s} : exec (.faultDeviceClear m h data) s = execFaultDeviceClear m h data s := rfl
@[simp] theorem exec_faultPartitionClear {m p h data s} : exec (.faultPartitionClear m p h data) s = execFaultPartitionClear m p h data s := rfl
@[simp] theorem exec_collectorParity {s} : exec .collectorParity s = execCollectorParity s := rfl
@[simp] theorem exec_ledgerEntryWrite {s} : exec .ledgerEntryWrite s = execLedgerEntryWrite s := rfl
@[simp] theorem exec_supLedgerRead {m h s} : exec (.supLedgerRead m h) s = execSupLedgerRead m h s := rfl
@[simp] theorem exec_heartbeatWrite {m h data s} : exec (.heartbeatWrite m h data) s = execHeartbeatWrite m h data s := rfl
@[simp] theorem exec_heartbeatExpire {s} : exec .heartbeatExpire s = execHeartbeatExpire s := rfl
@[simp] theorem exec_resetCountClear {s} : exec .resetCountClear s = execResetCountClear s := rfl
@[simp] theorem exec_tallyWindowEnd {s} : exec .tallyWindowEnd s = execTallyWindowEnd s := rfl
@[simp] theorem exec_faultInject {c n p s} : exec (.faultInject c n p) s = execFaultInject c n p s := rfl
@[simp] theorem exec_ledgerMark {c sev data s} : exec (.ledgerMark c sev data) s = execLedgerMark c sev data s := rfl
@[simp] theorem exec_coldReset {s} : exec .coldReset s = execColdReset s := rfl
@[simp] theorem exec_warmReset {s} : exec .warmReset s = execWarmReset s := rfl
@[simp] theorem exec_bootRomStart {flash s} : exec (.bootRomStart flash) s = execBootRomStart flash s := rfl
@[simp] theorem exec_bootComplete {rngOk kat s} : exec (.bootComplete rngOk kat) s = execBootComplete rngOk kat s := rfl
@[simp] theorem exec_devReset {c s} : exec (.devReset c) s = execDevReset c s := rfl
@[simp] theorem exec_serviceEnter {c s} : exec (.serviceEnter c) s = execServiceEnter c s := rfl
@[simp] theorem exec_serviceExit {c s} : exec (.serviceExit c) s = execServiceExit c s := rfl
@[simp] theorem exec_safeExit {c s} : exec (.safeExit c) s = execSafeExit c s := rfl
@[simp] theorem exec_fwBegin {c len s} : exec (.fwBegin c len) s = execFwBegin c len s := rfl
@[simp] theorem exec_fwWrite {c offset data s} : exec (.fwWrite c offset data) s = execFwWrite c offset data s := rfl
@[simp] theorem exec_fwVerify {c s} : exec (.fwVerify c) s = execFwVerify c s := rfl
@[simp] theorem exec_fwActivate {c s} : exec (.fwActivate c) s = execFwActivate c s := rfl
@[simp] theorem exec_fwConfirm {c force s} : exec (.fwConfirm c force) s = execFwConfirm c force s := rfl
@[simp] theorem exec_attestQuote {c nonce target s} : exec (.attestQuote c nonce target) s = execAttestQuote c nonce target s := rfl
@[simp] theorem exec_attestHingeTimeout {s} : exec .attestHingeTimeout s = execAttestHingeTimeout s := rfl
@[simp] theorem exec_attestLog {c s} : exec (.attestLog c) s = execAttestLog c s := rfl
@[simp] theorem exec_mregExtend {c data s} : exec (.mregExtend c data) s = execMregExtend c data s := rfl
@[simp] theorem exec_ownerClaim {c token s} : exec (.ownerClaim c token) s = execOwnerClaim c token s := rfl
@[simp] theorem exec_ownerLock {c act token s} : exec (.ownerLock c act token) s = execOwnerLock c act token s := rfl
@[simp] theorem exec_certInstall {c chain s} : exec (.certInstall c chain) s = execCertInstall c chain s := rfl
@[simp] theorem exec_imgKeySet {c part key token s} : exec (.imgKeySet c part key token) s = execImgKeySet c part key token s := rfl
@[simp] theorem exec_oscStabilityCompare {k n s} : exec (.oscStabilityCompare k n) s = execOscStabilityCompare k n s := rfl
@[simp] theorem exec_oscEdgeTimeout {k s} : exec (.oscEdgeTimeout k) s = execOscEdgeTimeout k s := rfl
@[simp] theorem exec_pllProofTimer {k s} : exec (.pllProofTimer k) s = execPllProofTimer k s := rfl
@[simp] theorem exec_refSysReturn {s} : exec .refSysReturn s = execRefSysReturn s := rfl
@[simp] theorem exec_clockSourceRelease {d heldNs s} : exec (.clockSourceRelease d heldNs) s = execClockSourceRelease d heldNs s := rfl
@[simp] theorem exec_ircFallbackTimeout {s} : exec .ircFallbackTimeout s = execIrcFallbackTimeout s := rfl
@[simp] theorem exec_ircRestartTimer {s} : exec .ircRestartTimer s = execIrcRestartTimer s := rfl
@[simp] theorem exec_sysxoBootWaitEnd {s} : exec .sysxoBootWaitEnd s = execSysxoBootWaitEnd s := rfl
@[simp] theorem exec_ircTrim {count s} : exec (.ircTrim count) s = execIrcTrim count s := rfl
@[simp] theorem exec_peripheralEnableWrite {m h data s} : exec (.peripheralEnableWrite m h data) s = execPeripheralEnableWrite m h data s := rfl
@[simp] theorem exec_fmcStart {m h data s} : exec (.fmcStart m h data) s = execFmcStart m h data s := rfl
@[simp] theorem exec_fmcDone {count s} : exec (.fmcDone count) s = execFmcDone count s := rfl
@[simp] theorem exec_fmcStall {s} : exec .fmcStall s = execFmcStall s := rfl
@[simp] theorem exec_dvfsTargetWrite {m h data s} : exec (.dvfsTargetWrite m h data) s = execDvfsTargetWrite m h data s := rfl
@[simp] theorem exec_pmbusTransactionDone {ok value s} : exec (.pmbusTransactionDone ok value) s = execPmbusTransactionDone ok value s := rfl
@[simp] theorem exec_dvfsSettleExpire {s} : exec .dvfsSettleExpire s = execDvfsSettleExpire s := rfl
@[simp] theorem exec_dvfsStepTimeout {s} : exec .dvfsStepTimeout s = execDvfsStepTimeout s := rfl
@[simp] theorem exec_tempRead {readings s} : exec (.tempRead readings) s = execTempRead readings s := rfl
@[simp] theorem exec_wearMeasure {d s} : exec (.wearMeasure d) s = execWearMeasure d s := rfl
@[simp] theorem exec_wearDailyFit {s} : exec .wearDailyFit s = execWearDailyFit s := rfl
@[simp] theorem exec_emuStatReadClear {m emu h s} : exec (.emuStatReadClear m emu h) s = execEmuStatReadClear m emu h s := rfl
@[simp] theorem exec_gnbTstatReadClear {m h s} : exec (.gnbTstatReadClear m h) s = execGnbTstatReadClear m h s := rfl
@[simp] theorem exec_gnbNavStatReadClear {m h s} : exec (.gnbNavStatReadClear m h) s = execGnbNavStatReadClear m h s := rfl
@[simp] theorem exec_synStatReadClear {m n h s} : exec (.synStatReadClear m n h) s = execSynStatReadClear m n h s := rfl
@[simp] theorem exec_evoStatReadClear {m v h s} : exec (.evoStatReadClear m v h) s = execEvoStatReadClear m v h s := rfl
@[simp] theorem exec_dsqStatReadClear {m h s} : exec (.dsqStatReadClear m h) s = execDsqStatReadClear m h s := rfl
@[simp] theorem exec_queueStatReadClear {m q h s} : exec (.queueStatReadClear m q h) s = execQueueStatReadClear m q h s := rfl
@[simp] theorem exec_tsvStatReadClear {m h s} : exec (.tsvStatReadClear m h) s = execTsvStatReadClear m h s := rfl
@[simp] theorem exec_tsvDropReadClear {m p h s} : exec (.tsvDropReadClear m p h) s = execTsvDropReadClear m p h s := rfl
@[simp] theorem exec_tsvErrReadClear {m p h s} : exec (.tsvErrReadClear m p h) s = execTsvErrReadClear m p h s := rfl
@[simp] theorem exec_kvcCacheStatReadClear {m h s} : exec (.kvcCacheStatReadClear m h) s = execKvcCacheStatReadClear m h s := rfl
@[simp] theorem exec_vsPinsReadClear {m v h s} : exec (.vsPinsReadClear m v h) s = execVsPinsReadClear m v h s := rfl
@[simp] theorem exec_hrlLtallyReadClear {m h s} : exec (.hrlLtallyReadClear m h) s = execHrlLtallyReadClear m h s := rfl
@[simp] theorem exec_nodeTallyReadClear {m k h s} : exec (.nodeTallyReadClear m k h) s = execNodeTallyReadClear m k h s := rfl
@[simp] theorem exec_parStatReadClear {m h s} : exec (.parStatReadClear m h) s = execParStatReadClear m h s := rfl
@[simp] theorem exec_parFnStatReadClear {m f h s} : exec (.parFnStatReadClear m f h) s = execParFnStatReadClear m f h s := rfl
@[simp] theorem exec_parBusCntReadClear {m h s} : exec (.parBusCntReadClear m h) s = execParBusCntReadClear m h s := rfl
@[simp] theorem exec_ledgerStatReadClear {m h s} : exec (.ledgerStatReadClear m h) s = execLedgerStatReadClear m h s := rfl
@[simp] theorem exec_fcntReadClear {m n h s} : exec (.fcntReadClear m n h) s = execFcntReadClear m n h s := rfl
@[simp] theorem exec_tbStatReadClear {m b h s} : exec (.tbStatReadClear m b h) s = execTbStatReadClear m b h s := rfl
@[simp] theorem exec_tbPeakReadClear {m b k h s} : exec (.tbPeakReadClear m b k h) s = execTbPeakReadClear m b k h s := rfl
@[simp] theorem exec_expStatReadClear {m h s} : exec (.expStatReadClear m h) s = execExpStatReadClear m h s := rfl
@[simp] theorem exec_slgStatReadClear {m p h s} : exec (.slgStatReadClear m p h) s = execSlgStatReadClear m p h s := rfl
@[simp] theorem exec_pwrClkCntReadClear {m h s} : exec (.pwrClkCntReadClear m h) s = execPwrClkCntReadClear m h s := rfl
@[simp] theorem exec_pwrDvfsReadClear {m h s} : exec (.pwrDvfsReadClear m h) s = execPwrDvfsReadClear m h s := rfl
@[simp] theorem exec_pwrTempReadClear {m h s} : exec (.pwrTempReadClear m h) s = execPwrTempReadClear m h s := rfl
@[simp] theorem exec_rngHealthPass {s} : exec .rngHealthPass s = execRngHealthPass s := rfl
@[simp] theorem exec_keyGenTimeout {s} : exec .keyGenTimeout s = execKeyGenTimeout s := rfl
@[simp] theorem exec_vbatWarn {mv s} : exec (.vbatWarn mv) s = execVbatWarn mv s := rfl
@[simp] theorem exec_tamperSourceRelease {source s} : exec (.tamperSourceRelease source) s = execTamperSourceRelease source s := rfl
@[simp] theorem exec_aonFail {s} : exec .aonFail s = execAonFail s := rfl
@[simp] theorem exec_pcieErr {live s} : exec (.pcieErr live) s = execPcieErr live s := rfl
@[simp] theorem exec_fecUncorr {lane s} : exec (.fecUncorr lane) s = execFecUncorr lane s := rfl
@[simp] theorem exec_windowDeny {f addr write s} : exec (.windowDeny f addr write) s = execWindowDeny f addr write s := rfl
@[simp] theorem exec_partitionResetComplete {p s} : exec (.partitionResetComplete p) s = execPartitionResetComplete p s := rfl
@[simp] theorem exec_checkbitRateWindow {errors s} : exec (.checkbitRateWindow errors) s = execCheckbitRateWindow errors s := rfl

end Sys2Proof.Machine
end

