-- ==== Sys2Proof/Laws/Map.lean ====
section
/-! SUPPORT. The register map: every register stands at its own address. -/
namespace Sys2Proof.Machine

/-- The reach of a family past its base. -/
def RegInfo.span (x : RegInfo) : Nat := x.si * (x.ni - 1) + x.sj * (x.nj - 1)

/-- The addresses of a family, modulo S, lie in an interval that does not wrap: its first and last. -/
def RegInfo.residues (x : RegInfo) (S : Nat) : Option (Nat × Nat) :=
  let w := (if x.si % S = 0 then 0 else x.si * (x.ni - 1)) + (if x.sj % S = 0 then 0 else x.sj * (x.nj - 1))
  if x.base % S + w < S then some (x.base % S, x.base % S + w) else none

/-- Two families are apart modulo S. -/
def RegInfo.apartMod (x y : RegInfo) (S : Nat) : Bool :=
  match x.residues S, y.residues S with
  | some (l, h), some (l', h') => decide (h < l') || decide (h' < l)
  | _, _ => false

/-- Two families are apart: as a whole, or modulo one of their strides. -/
def RegInfo.apart (x y : RegInfo) : Bool :=
  Nat.blt (x.base + x.span) y.base || Nat.blt (y.base + y.span) x.base || x.apartMod y x.si || x.apartMod y x.sj ||
    x.apartMod y y.si || x.apartMod y y.sj

/-- The strides of a family tell its members apart. -/
def RegInfo.ok (x : RegInfo) : Bool :=
  (decide (x.si = 0) && decide (x.ni ≤ 1) || decide (0 < x.si) && decide (x.sj * (x.nj - 1) < x.si)) &&
    (decide (x.sj = 0) && decide (x.nj ≤ 1) || decide (0 < x.sj))

/-- Every later family of a list is apart from an earlier one. -/
def allApart : List RegId → Bool
  | [] => true
  | r :: l => (regInfo r).ok && l.all (fun q => (regInfo r).apart (regInfo q)) && allApart l

theorem regIds_apart : allApart regIds = true := by decide +kernel

theorem regIds_all (r : RegId) : r ∈ regIds :=
  List.mem_of_getElem? (i := r.ctorIdx) (by cases r <;> rfl)

/-- Every address of a family lies in its residues. -/
theorem mod_in_residues (x : RegInfo) (i j S l h : Nat) (hi : i < x.ni) (hj : j < x.nj) (hr : x.residues S = some (l, h)) :
    l ≤ (x.base + x.si * i + x.sj * j) % S ∧ (x.base + x.si * i + x.sj * j) % S ≤ h := by
  have mi : x.si * i ≤ x.si * (x.ni - 1) := Nat.mul_le_mul_left _ (by omega)
  have mj : x.sj * j ≤ x.sj * (x.nj - 1) := Nat.mul_le_mul_left _ (by omega)
  have zi : x.si % S = 0 → x.si * i % S = 0 := fun z => by rw [Nat.mul_mod, z]; simp
  have zj : x.sj % S = 0 → x.sj * j % S = 0 := fun z => by rw [Nat.mul_mod, z]; simp
  simp only [RegInfo.residues, Option.ite_none_right_eq_some, Option.some.injEq, Prod.mk.injEq] at hr
  obtain ⟨hw, rfl, rfl⟩ := hr
  have e : ∀ a b c : Nat, a % S + b + c < S → (a + b + c) % S = a % S + b + c := fun a b c hs => by
    rw [Nat.add_assoc, Nat.add_mod, Nat.mod_eq_of_lt (a := b + c) (by omega), Nat.mod_eq_of_lt (by omega)]; omega
  have d : ∀ a b : Nat, b % S = 0 → (a + b) % S = a % S := fun a b hb => by rw [Nat.add_mod, hb]; simp
  by_cases h1 : x.si % S = 0 <;> by_cases h2 : x.sj % S = 0 <;> simp only [h1, h2, if_true, if_false] at hw ⊢
  · rw [d _ _ (zj h2), d _ _ (zi h1)]; omega
  · have e1 := e (x.base + x.si * i) (x.sj * j) 0 (by rw [d _ _ (zi h1)]; omega)
    rw [Nat.add_zero, d _ _ (zi h1)] at e1; rw [e1]; omega
  · rw [d _ _ (zj h2)]
    have e1 := e x.base (x.si * i) 0 (by omega)
    rw [Nat.add_zero] at e1; rw [e1]; omega
  · have e1 := e x.base (x.si * i) (x.sj * j) (by omega)
    rw [e1]; omega

/-- Families that are apart share no address. -/
theorem apart_ne (x y : RegInfo) (h : x.apart y = true) (i j i' j' : Nat) (hi : i < x.ni) (hj : j < x.nj) (hi' : i' < y.ni)
    (hj' : j' < y.nj) : x.base + x.si * i + x.sj * j ≠ y.base + y.si * i' + y.sj * j' := by
  have mi : x.si * i ≤ x.si * (x.ni - 1) := Nat.mul_le_mul_left _ (by omega)
  have mj : x.sj * j ≤ x.sj * (x.nj - 1) := Nat.mul_le_mul_left _ (by omega)
  have mi' : y.si * i' ≤ y.si * (y.ni - 1) := Nat.mul_le_mul_left _ (by omega)
  have mj' : y.sj * j' ≤ y.sj * (y.nj - 1) := Nat.mul_le_mul_left _ (by omega)
  have m : ∀ S, x.apartMod y S = true → x.base + x.si * i + x.sj * j ≠ y.base + y.si * i' + y.sj * j' := fun S hS he => by
    unfold RegInfo.apartMod at hS
    split at hS
    · rename_i l u l' u' hx hy
      have a := mod_in_residues x i j S l u hi hj hx
      have b := mod_in_residues y i' j' S l' u' hi' hj' hy
      rw [he] at a
      simp only [Bool.or_eq_true, decide_eq_true_eq] at hS
      omega
    · cases hS
  simp only [RegInfo.apart, Bool.or_eq_true] at h
  rcases h with ((((h | h) | h) | h) | h) | h
  · have := Nat.blt_eq.mp h; simp only [RegInfo.span] at this; omega
  · have := Nat.blt_eq.mp h; simp only [RegInfo.span] at this; omega
  · exact m _ h
  · exact m _ h
  · exact m _ h
  · exact m _ h

/-- The indexes of a register's own address are its own. -/
theorem regIndex_regAddr (r : RegId) (hok : (regInfo r).ok = true) (i j : Nat) (hi : i < (regInfo r).ni) (hj : j < (regInfo r).nj) :
    regIndex r (regAddr r i j) = some (i, j) := by
  simp only [RegInfo.ok, Bool.and_eq_true, Bool.or_eq_true, decide_eq_true_eq] at hok
  have mj : (regInfo r).sj * j ≤ (regInfo r).sj * ((regInfo r).nj - 1) := Nat.mul_le_mul_left _ (by omega)
  have hd : (regInfo r).base + (regInfo r).si * i + (regInfo r).sj * j - (regInfo r).base =
      (regInfo r).sj * j + (regInfo r).si * i := by omega
  simp only [regIndex, regAddr, hd, if_neg (show ¬ (regInfo r).base + (regInfo r).si * i + (regInfo r).sj * j < (regInfo r).base by omega)]
  obtain ⟨⟨h1, h2⟩ | ⟨h1, h2⟩, ⟨h3, h4⟩ | h3⟩ := hok
  · obtain rfl : i = 0 := by omega
    obtain rfl : j = 0 := by omega
    simp [h1, h3, hi, hj]
  · obtain rfl : i = 0 := by omega
    simp [h1, Nat.ne_of_gt h3, hi, hj, Nat.mul_div_cancel_left _ h3]
  · obtain rfl : j = 0 := by omega
    simp [h3, Nat.ne_of_gt h1, hi, hj, Nat.mul_div_cancel_left _ h1]
  · have q : ((regInfo r).sj * j + (regInfo r).si * i) / (regInfo r).si = i := by
      rw [Nat.add_mul_div_left _ _ h1, Nat.div_eq_of_lt (by omega)]; omega
    have m : ((regInfo r).sj * j + (regInfo r).si * i) % (regInfo r).si = (regInfo r).sj * j := by
      rw [Nat.add_mul_mod_self_left, Nat.mod_eq_of_lt (by omega)]
    simp [Nat.ne_of_gt h1, Nat.ne_of_gt h3, q, m, hi, hj, Nat.mul_div_cancel_left _ h3]

/-- What stands at indexes of a family lies at its address. -/
theorem regIndex_some (r : RegId) (a i j : Nat) (h : regIndex r a = some (i, j)) :
    i < (regInfo r).ni ∧ j < (regInfo r).nj ∧ a = regAddr r i j := by
  simp only [regIndex] at h
  by_cases hb : a < (regInfo r).base
  · simp [hb] at h
  · simp only [if_neg hb, Option.ite_none_right_eq_some, Option.some.injEq, Prod.mk.injEq] at h
    obtain ⟨⟨hz, hi, hj⟩, h1, h2⟩ := h
    rw [h1] at hi; rw [h2] at hj
    refine ⟨hi, hj, ?_⟩
    have dm := Nat.div_add_mod (a - (regInfo r).base) (regInfo r).si
    simp only [regAddr]
    by_cases s0 : (regInfo r).si = 0 <;> by_cases t0 : (regInfo r).sj = 0 <;>
      simp only [s0, t0, if_true, if_false] at hz h1 h2 ⊢
    · omega
    · have := Nat.div_add_mod (a - (regInfo r).base) (regInfo r).sj
      rw [h2] at this; omega
    · rw [h1] at dm; omega
    · have := Nat.div_add_mod ((a - (regInfo r).base) % (regInfo r).si) (regInfo r).sj
      rw [h2] at this; rw [h1] at dm; omega

theorem regIn_regAddr (r : RegId) (i j : Nat) (hi : i < (regInfo r).ni) (hj : j < (regInfo r).nj) :
    ∀ l : List RegId, allApart l = true → r ∈ l → regIn (regAddr r i j) l = some (r, i, j)
  | q :: l, h, hm => by
    simp only [allApart, Bool.and_eq_true, List.all_eq_true] at h
    obtain ⟨⟨hq, ha⟩, hl⟩ := h
    rcases List.mem_cons.mp hm with rfl | hm
    · simp only [regIn, regIndex_regAddr r hq i j hi hj]
    · have hn : regIndex q (regAddr r i j) = none := by
        cases he : regIndex q (regAddr r i j) with
        | none => rfl
        | some p =>
          obtain ⟨k, n⟩ := p
          obtain ⟨h1, h2, h3⟩ := regIndex_some q _ _ _ he
          exact absurd h3.symm (apart_ne _ _ (ha r hm) k n i j h1 h2 hi hj)
      simp only [regIn, hn]
      exact regIn_regAddr r i j hi hj l hl hm

/-- Every register of the map is found at its own address. -/
theorem regAt_regAddr (r : RegId) (i j : Nat) (hi : i < (regInfo r).ni) (hj : j < (regInfo r).nj) :
    regAt (regAddr r i j) = some (r, i, j) := regIn_regAddr r i j hi hj regIds regIds_apart (regIds_all r)

/-- Two registers at one address are one. -/
theorem regAddr_inj (r r' : RegId) (i j i' j' : Nat) (hi : i < (regInfo r).ni) (hj : j < (regInfo r).nj)
    (hi' : i' < (regInfo r').ni) (hj' : j' < (regInfo r').nj) (h : regAddr r i j = regAddr r' i' j') :
    r = r' ∧ i = i' ∧ j = j' := by
  have a := regAt_regAddr r i j hi hj
  rw [h, regAt_regAddr r' i' j' hi' hj'] at a
  simpa [eq_comm] using a

end Sys2Proof.Machine
end

