-- ==== Sys2Proof/Laws/Table.lean ====
section
/-! SUPPORT. The laws of the sparse stores: a read after a write, and that every operation keeps the canonical form. -/
namespace Sys2Proof.Machine

variable {α : Type}

theorem tabGet_tabPut_same (d : α) (t : Tab α) (k : Nat) (v : α) : tabGet d (tabPut t k v) k = v := by
  induction t with
  | nil => simp [tabPut, tabGet]
  | cons e t ih =>
    obtain ⟨j, w⟩ := e
    simp only [tabPut]
    split
    · simp [tabGet]
    · split
      · simp [tabGet]
      · rename_i h; simp [tabGet, h, ih]

theorem tabGet_tabPut_ne (d : α) (t : Tab α) {k k' : Nat} (v : α) (h : k' ≠ k) : tabGet d (tabPut t k v) k' = tabGet d t k' := by
  induction t with
  | nil => simp [tabPut, tabGet, h]
  | cons e t ih =>
    obtain ⟨j, w⟩ := e
    simp only [tabPut]
    split
    · simp [tabGet, h]
    · split
      · subst_vars; simp [tabGet, h]
      · simp only [tabGet, ih]

theorem tabRising_of_some (lo : Nat) (t : Tab α) (h : tabRising (some lo) t = true) : tabRising none t = true := by
  cases t with
  | nil => rfl
  | cons e t => simp_all [tabRising]

theorem tabRising_weaken (lo lo' : Nat) (t : Tab α) (h : tabRising (some lo) t = true) (hl : lo' ≤ lo) :
    tabRising (some lo') t = true := by
  cases t with
  | nil => rfl
  | cons e t =>
    simp only [tabRising, Bool.and_eq_true, decide_eq_true_eq] at h ⊢
    exact ⟨by omega, h.2⟩

theorem tabGet_tabDel_same (d : α) (t : Tab α) (k : Nat) : tabGet d (tabDel t k) k = d := by
  induction t with
  | nil => rfl
  | cons e t ih =>
    obtain ⟨j, v⟩ := e
    simp only [tabDel]
    split
    · exact ih
    · rename_i h; simp [tabGet, h, ih]

theorem tabGet_tabDel_ne (d : α) (t : Tab α) {k k' : Nat} (h : k' ≠ k) : tabGet d (tabDel t k) k' = tabGet d t k' := by
  induction t with
  | nil => rfl
  | cons e t ih =>
    obtain ⟨j, w⟩ := e
    simp only [tabDel]
    split
    · subst_vars; simp [tabGet, h, ih]
    · simp only [tabGet, ih]

/-- A read of another key is not changed by a write. -/
theorem tabGet_tabSet_ne [DecidableEq α] (d : α) (t : Tab α) {k k' : Nat} (v : α) (h : k' ≠ k) :
    tabGet d (tabSet d t k v) k' = tabGet d t k' := by
  unfold tabSet; split
  · exact tabGet_tabDel_ne d t h
  · exact tabGet_tabPut_ne d t v h

/-- A read after a write of the same key gives the value written. -/
theorem tabGet_tabSet_same [DecidableEq α] (d : α) (t : Tab α) (k : Nat) (v : α) :
    tabGet d (tabSet d t k v) k = v := by
  unfold tabSet; split
  · rename_i hv; rw [hv]; exact tabGet_tabDel_same d t k
  · exact tabGet_tabPut_same d t k v

theorem tabRising_tabPut (lo : Nat) : ∀ (t : Tab α) (k : Nat) (v : α), tabRising (some lo) t = true → lo < k →
    tabRising (some lo) (tabPut t k v) = true
  | [], k, v, _, hk => by simp [tabPut, tabRising, hk]
  | (j, w) :: t, k, v, h, hk => by
    simp only [tabRising, Bool.and_eq_true, decide_eq_true_eq] at h
    simp only [tabPut]
    split
    · simp only [tabRising, Bool.and_eq_true, decide_eq_true_eq]; exact ⟨hk, ‹_›, h.2⟩
    · split
      · subst_vars; simp only [tabRising, Bool.and_eq_true, decide_eq_true_eq]; exact h
      · simp only [tabRising, Bool.and_eq_true, decide_eq_true_eq]
        exact ⟨h.1, tabRising_tabPut j t k v h.2 (by omega)⟩

theorem tabRising_none_tabPut : ∀ (t : Tab α) (k : Nat) (v : α), tabRising none t = true → tabRising none (tabPut t k v) = true
  | [], k, v, _ => rfl
  | (j, w) :: t, k, v, h => by
    simp only [tabRising] at h
    simp only [tabPut]
    split
    · simp only [tabRising, Bool.and_eq_true, decide_eq_true_eq]; exact ⟨‹_›, h⟩
    · split
      · subst_vars; simpa only [tabRising] using h
      · simp only [tabRising]; exact tabRising_tabPut j t k v h (by omega)

theorem tabRising_tabDel (lo : Nat) : ∀ (t : Tab α) (k : Nat), tabRising (some lo) t = true →
    tabRising (some lo) (tabDel t k) = true
  | [], _, _ => rfl
  | (j, w) :: t, k, h => by
    simp only [tabRising, Bool.and_eq_true, decide_eq_true_eq] at h
    simp only [tabDel]
    split
    · exact tabRising_weaken j lo _ (tabRising_tabDel j t k h.2) (by omega)
    · simp only [tabRising, Bool.and_eq_true, decide_eq_true_eq]; exact ⟨h.1, tabRising_tabDel j t k h.2⟩

theorem tabRising_none_tabDel : ∀ (t : Tab α) (k : Nat), tabRising none t = true → tabRising none (tabDel t k) = true
  | [], _, _ => rfl
  | (j, w) :: t, k, h => by
    simp only [tabRising] at h
    simp only [tabDel]
    split
    · exact tabRising_of_some j _ (tabRising_tabDel j t k h)
    · simp only [tabRising]; exact tabRising_tabDel j t k h

theorem tabNoDefault_tabDel [DecidableEq α] (d : α) (t : Tab α) (k : Nat) (h : tabNoDefault d t = true) :
    tabNoDefault d (tabDel t k) = true := by
  induction t with
  | nil => rfl
  | cons e t ih =>
    obtain ⟨j, w⟩ := e
    simp only [tabNoDefault, List.all_cons, Bool.and_eq_true] at h ih ⊢
    simp only [tabDel]
    split
    · exact ih h.2
    · simp only [List.all_cons, Bool.and_eq_true]; exact ⟨h.1, ih h.2⟩

theorem tabNoDefault_tabPut [DecidableEq α] (d : α) (t : Tab α) (k : Nat) (v : α) (hv : v ≠ d) (h : tabNoDefault d t = true) :
    tabNoDefault d (tabPut t k v) = true := by
  induction t with
  | nil => simp [tabPut, tabNoDefault, hv]
  | cons e t ih =>
    obtain ⟨j, w⟩ := e
    simp only [tabNoDefault, List.all_cons, Bool.and_eq_true] at h ih ⊢
    simp only [tabPut]
    split
    · simp only [List.all_cons, Bool.and_eq_true]; exact ⟨by simp [hv], h⟩
    · split
      · simp only [List.all_cons, Bool.and_eq_true]; exact ⟨by simp [hv], h.2⟩
      · simp only [List.all_cons, Bool.and_eq_true]; exact ⟨h.1, ih h.2⟩

/-- A write keeps the canonical form. -/
theorem tabWf_tabSet [DecidableEq α] (d : α) (t : Tab α) (k : Nat) (v : α) (h : tabWf d t = true) :
    tabWf d (tabSet d t k v) = true := by
  simp only [tabWf, Bool.and_eq_true] at h ⊢
  unfold tabSet; split
  · exact ⟨tabRising_none_tabDel t k h.1, tabNoDefault_tabDel d t k h.2⟩
  · exact ⟨tabRising_none_tabPut t k v h.1, tabNoDefault_tabPut d t k v ‹_› h.2⟩

theorem tabWf_nil [DecidableEq α] (d : α) : tabWf d ([] : Tab α) = true := rfl

end Sys2Proof.Machine
end

