-- ==== Sys2Proof/Laws/State.lean ====
section
/-! SUPPORT. What each write of one part of the state leaves alone: one lemma per field and write. -/
namespace Sys2Proof.Machine

@[simp] theorem State.setStaged_regs (s : State) (k : Nat) (l : List (Nat × Word × Bool)) : (s.setStaged k l).regs = s.regs := rfl
@[simp] theorem State.setStaged_tse (s : State) (k : Nat) (l : List (Nat × Word × Bool)) : (s.setStaged k l).tse = s.tse := rfl
@[simp] theorem State.setStaged_rim (s : State) (k : Nat) (l : List (Nat × Word × Bool)) : (s.setStaged k l).rim = s.rim := rfl
@[simp] theorem State.setStaged_gnb (s : State) (k : Nat) (l : List (Nat × Word × Bool)) : (s.setStaged k l).gnb = s.gnb := rfl
@[simp] theorem State.setStaged_rsh (s : State) (k : Nat) (l : List (Nat × Word × Bool)) : (s.setStaged k l).rsh = s.rsh := rfl
@[simp] theorem State.setStaged_syn (s : State) (k : Nat) (l : List (Nat × Word × Bool)) : (s.setStaged k l).syn = s.syn := rfl
@[simp] theorem State.setStaged_npa (s : State) (k : Nat) (l : List (Nat × Word × Bool)) : (s.setStaged k l).npa = s.npa := rfl
@[simp] theorem State.setStaged_slg (s : State) (k : Nat) (l : List (Nat × Word × Bool)) : (s.setStaged k l).slg = s.slg := rfl
@[simp] theorem State.setStaged_tsv (s : State) (k : Nat) (l : List (Nat × Word × Bool)) : (s.setStaged k l).tsv = s.tsv := rfl
@[simp] theorem State.setStaged_kvc (s : State) (k : Nat) (l : List (Nat × Word × Bool)) : (s.setStaged k l).kvc = s.kvc := rfl
@[simp] theorem State.setStaged_hrl (s : State) (k : Nat) (l : List (Nat × Word × Bool)) : (s.setStaged k l).hrl = s.hrl := rfl
@[simp] theorem State.setStaged_sup (s : State) (k : Nat) (l : List (Nat × Word × Bool)) : (s.setStaged k l).sup = s.sup := rfl
@[simp] theorem State.setStaged_par (s : State) (k : Nat) (l : List (Nat × Word × Bool)) : (s.setStaged k l).par = s.par := rfl
@[simp] theorem State.setStaged_cpx (s : State) (k : Nat) (l : List (Nat × Word × Bool)) : (s.setStaged k l).cpx = s.cpx := rfl
@[simp] theorem State.setStaged_pwr (s : State) (k : Nat) (l : List (Nat × Word × Bool)) : (s.setStaged k l).pwr = s.pwr := rfl
@[simp] theorem State.setStaged_jtag (s : State) (k : Nat) (l : List (Nat × Word × Bool)) : (s.setStaged k l).jtag = s.jtag := rfl
@[simp] theorem State.setStaged_out (s : State) (k : Nat) (l : List (Nat × Word × Bool)) : (s.setStaged k l).out = s.out := rfl
@[simp] theorem State.setStaged_freeCtr (s : State) (k : Nat) (l : List (Nat × Word × Bool)) : (s.setStaged k l).freeCtr = s.freeCtr := rfl
@[simp] theorem State.setStaged_pending (s : State) (k : Nat) (l : List (Nat × Word × Bool)) : (s.setStaged k l).pending = s.pending := rfl
@[simp] theorem State.faultCycle_regs (s : State) : (s.faultCycle).regs = s.regs := rfl
@[simp] theorem State.faultCycle_tse (s : State) : (s.faultCycle).tse = s.tse := rfl
@[simp] theorem State.faultCycle_rim (s : State) : (s.faultCycle).rim = s.rim := rfl
@[simp] theorem State.faultCycle_gnb (s : State) : (s.faultCycle).gnb = s.gnb := rfl
@[simp] theorem State.faultCycle_rsh (s : State) : (s.faultCycle).rsh = s.rsh := rfl
@[simp] theorem State.faultCycle_syn (s : State) : (s.faultCycle).syn = s.syn := rfl
@[simp] theorem State.faultCycle_dsq (s : State) : (s.faultCycle).dsq = s.dsq := rfl
@[simp] theorem State.faultCycle_npa (s : State) : (s.faultCycle).npa = s.npa := rfl
@[simp] theorem State.faultCycle_slg (s : State) : (s.faultCycle).slg = s.slg := rfl
@[simp] theorem State.faultCycle_tsv (s : State) : (s.faultCycle).tsv = s.tsv := rfl
@[simp] theorem State.faultCycle_kvc (s : State) : (s.faultCycle).kvc = s.kvc := rfl
@[simp] theorem State.faultCycle_hrl (s : State) : (s.faultCycle).hrl = s.hrl := rfl
@[simp] theorem State.faultCycle_par (s : State) : (s.faultCycle).par = s.par := rfl
@[simp] theorem State.faultCycle_cpx (s : State) : (s.faultCycle).cpx = s.cpx := rfl
@[simp] theorem State.faultCycle_pwr (s : State) : (s.faultCycle).pwr = s.pwr := rfl
@[simp] theorem State.faultCycle_jtag (s : State) : (s.faultCycle).jtag = s.jtag := rfl
@[simp] theorem State.faultCycle_out (s : State) : (s.faultCycle).out = s.out := rfl
@[simp] theorem State.faultCycle_freeCtr (s : State) : (s.faultCycle).freeCtr = s.freeCtr := rfl
@[simp] theorem State.faultCycle_pending (s : State) : (s.faultCycle).pending = s.pending := rfl
@[simp] theorem State.setAdpll_regs (s : State) (n : Nat) (a : Adpll) : (s.setAdpll n a).regs = s.regs := rfl
@[simp] theorem State.setAdpll_tse (s : State) (n : Nat) (a : Adpll) : (s.setAdpll n a).tse = s.tse := rfl
@[simp] theorem State.setAdpll_rim (s : State) (n : Nat) (a : Adpll) : (s.setAdpll n a).rim = s.rim := rfl
@[simp] theorem State.setAdpll_gnb (s : State) (n : Nat) (a : Adpll) : (s.setAdpll n a).gnb = s.gnb := rfl
@[simp] theorem State.setAdpll_rsh (s : State) (n : Nat) (a : Adpll) : (s.setAdpll n a).rsh = s.rsh := rfl
@[simp] theorem State.setAdpll_dsq (s : State) (n : Nat) (a : Adpll) : (s.setAdpll n a).dsq = s.dsq := rfl
@[simp] theorem State.setAdpll_npa (s : State) (n : Nat) (a : Adpll) : (s.setAdpll n a).npa = s.npa := rfl
@[simp] theorem State.setAdpll_slg (s : State) (n : Nat) (a : Adpll) : (s.setAdpll n a).slg = s.slg := rfl
@[simp] theorem State.setAdpll_tsv (s : State) (n : Nat) (a : Adpll) : (s.setAdpll n a).tsv = s.tsv := rfl
@[simp] theorem State.setAdpll_kvc (s : State) (n : Nat) (a : Adpll) : (s.setAdpll n a).kvc = s.kvc := rfl
@[simp] theorem State.setAdpll_hrl (s : State) (n : Nat) (a : Adpll) : (s.setAdpll n a).hrl = s.hrl := rfl
@[simp] theorem State.setAdpll_sup (s : State) (n : Nat) (a : Adpll) : (s.setAdpll n a).sup = s.sup := rfl
@[simp] theorem State.setAdpll_par (s : State) (n : Nat) (a : Adpll) : (s.setAdpll n a).par = s.par := rfl
@[simp] theorem State.setAdpll_cpx (s : State) (n : Nat) (a : Adpll) : (s.setAdpll n a).cpx = s.cpx := rfl
@[simp] theorem State.setAdpll_pwr (s : State) (n : Nat) (a : Adpll) : (s.setAdpll n a).pwr = s.pwr := rfl
@[simp] theorem State.setAdpll_jtag (s : State) (n : Nat) (a : Adpll) : (s.setAdpll n a).jtag = s.jtag := rfl
@[simp] theorem State.setAdpll_out (s : State) (n : Nat) (a : Adpll) : (s.setAdpll n a).out = s.out := rfl
@[simp] theorem State.setAdpll_freeCtr (s : State) (n : Nat) (a : Adpll) : (s.setAdpll n a).freeCtr = s.freeCtr := rfl
@[simp] theorem State.setAdpll_pending (s : State) (n : Nat) (a : Adpll) : (s.setAdpll n a).pending = s.pending := rfl
@[simp] theorem State.setPwr_regs (s : State) (p : Pwr) : (s.setPwr p).regs = s.regs := rfl
@[simp] theorem State.setPwr_tse (s : State) (p : Pwr) : (s.setPwr p).tse = s.tse := rfl
@[simp] theorem State.setPwr_rim (s : State) (p : Pwr) : (s.setPwr p).rim = s.rim := rfl
@[simp] theorem State.setPwr_gnb (s : State) (p : Pwr) : (s.setPwr p).gnb = s.gnb := rfl
@[simp] theorem State.setPwr_rsh (s : State) (p : Pwr) : (s.setPwr p).rsh = s.rsh := rfl
@[simp] theorem State.setPwr_syn (s : State) (p : Pwr) : (s.setPwr p).syn = s.syn := rfl
@[simp] theorem State.setPwr_dsq (s : State) (p : Pwr) : (s.setPwr p).dsq = s.dsq := rfl
@[simp] theorem State.setPwr_npa (s : State) (p : Pwr) : (s.setPwr p).npa = s.npa := rfl
@[simp] theorem State.setPwr_slg (s : State) (p : Pwr) : (s.setPwr p).slg = s.slg := rfl
@[simp] theorem State.setPwr_tsv (s : State) (p : Pwr) : (s.setPwr p).tsv = s.tsv := rfl
@[simp] theorem State.setPwr_kvc (s : State) (p : Pwr) : (s.setPwr p).kvc = s.kvc := rfl
@[simp] theorem State.setPwr_hrl (s : State) (p : Pwr) : (s.setPwr p).hrl = s.hrl := rfl
@[simp] theorem State.setPwr_sup (s : State) (p : Pwr) : (s.setPwr p).sup = s.sup := rfl
@[simp] theorem State.setPwr_par (s : State) (p : Pwr) : (s.setPwr p).par = s.par := rfl
@[simp] theorem State.setPwr_cpx (s : State) (p : Pwr) : (s.setPwr p).cpx = s.cpx := rfl
@[simp] theorem State.setPwr_jtag (s : State) (p : Pwr) : (s.setPwr p).jtag = s.jtag := rfl
@[simp] theorem State.setPwr_out (s : State) (p : Pwr) : (s.setPwr p).out = s.out := rfl
@[simp] theorem State.setPwr_freeCtr (s : State) (p : Pwr) : (s.setPwr p).freeCtr = s.freeCtr := rfl
@[simp] theorem State.setPwr_pending (s : State) (p : Pwr) : (s.setPwr p).pending = s.pending := rfl
@[simp] theorem State.setKvc_regs (s : State) (k : Kvc) : (s.setKvc k).regs = s.regs := rfl
@[simp] theorem State.setKvc_tse (s : State) (k : Kvc) : (s.setKvc k).tse = s.tse := rfl
@[simp] theorem State.setKvc_rim (s : State) (k : Kvc) : (s.setKvc k).rim = s.rim := rfl
@[simp] theorem State.setKvc_gnb (s : State) (k : Kvc) : (s.setKvc k).gnb = s.gnb := rfl
@[simp] theorem State.setKvc_rsh (s : State) (k : Kvc) : (s.setKvc k).rsh = s.rsh := rfl
@[simp] theorem State.setKvc_syn (s : State) (k : Kvc) : (s.setKvc k).syn = s.syn := rfl
@[simp] theorem State.setKvc_dsq (s : State) (k : Kvc) : (s.setKvc k).dsq = s.dsq := rfl
@[simp] theorem State.setKvc_npa (s : State) (k : Kvc) : (s.setKvc k).npa = s.npa := rfl
@[simp] theorem State.setKvc_slg (s : State) (k : Kvc) : (s.setKvc k).slg = s.slg := rfl
@[simp] theorem State.setKvc_tsv (s : State) (k : Kvc) : (s.setKvc k).tsv = s.tsv := rfl
@[simp] theorem State.setKvc_hrl (s : State) (k : Kvc) : (s.setKvc k).hrl = s.hrl := rfl
@[simp] theorem State.setKvc_sup (s : State) (k : Kvc) : (s.setKvc k).sup = s.sup := rfl
@[simp] theorem State.setKvc_par (s : State) (k : Kvc) : (s.setKvc k).par = s.par := rfl
@[simp] theorem State.setKvc_cpx (s : State) (k : Kvc) : (s.setKvc k).cpx = s.cpx := rfl
@[simp] theorem State.setKvc_pwr (s : State) (k : Kvc) : (s.setKvc k).pwr = s.pwr := rfl
@[simp] theorem State.setKvc_jtag (s : State) (k : Kvc) : (s.setKvc k).jtag = s.jtag := rfl
@[simp] theorem State.setKvc_out (s : State) (k : Kvc) : (s.setKvc k).out = s.out := rfl
@[simp] theorem State.setKvc_freeCtr (s : State) (k : Kvc) : (s.setKvc k).freeCtr = s.freeCtr := rfl
@[simp] theorem State.setKvc_pending (s : State) (k : Kvc) : (s.setKvc k).pending = s.pending := rfl
@[simp] theorem State.setOut_regs (s : State) (o : Nat) (c : ClkOut) : (s.setOut o c).regs = s.regs := rfl
@[simp] theorem State.setOut_tse (s : State) (o : Nat) (c : ClkOut) : (s.setOut o c).tse = s.tse := rfl
@[simp] theorem State.setOut_rim (s : State) (o : Nat) (c : ClkOut) : (s.setOut o c).rim = s.rim := rfl
@[simp] theorem State.setOut_gnb (s : State) (o : Nat) (c : ClkOut) : (s.setOut o c).gnb = s.gnb := rfl
@[simp] theorem State.setOut_rsh (s : State) (o : Nat) (c : ClkOut) : (s.setOut o c).rsh = s.rsh := rfl
@[simp] theorem State.setOut_dsq (s : State) (o : Nat) (c : ClkOut) : (s.setOut o c).dsq = s.dsq := rfl
@[simp] theorem State.setOut_npa (s : State) (o : Nat) (c : ClkOut) : (s.setOut o c).npa = s.npa := rfl
@[simp] theorem State.setOut_slg (s : State) (o : Nat) (c : ClkOut) : (s.setOut o c).slg = s.slg := rfl
@[simp] theorem State.setOut_tsv (s : State) (o : Nat) (c : ClkOut) : (s.setOut o c).tsv = s.tsv := rfl
@[simp] theorem State.setOut_kvc (s : State) (o : Nat) (c : ClkOut) : (s.setOut o c).kvc = s.kvc := rfl
@[simp] theorem State.setOut_hrl (s : State) (o : Nat) (c : ClkOut) : (s.setOut o c).hrl = s.hrl := rfl
@[simp] theorem State.setOut_sup (s : State) (o : Nat) (c : ClkOut) : (s.setOut o c).sup = s.sup := rfl
@[simp] theorem State.setOut_par (s : State) (o : Nat) (c : ClkOut) : (s.setOut o c).par = s.par := rfl
@[simp] theorem State.setOut_cpx (s : State) (o : Nat) (c : ClkOut) : (s.setOut o c).cpx = s.cpx := rfl
@[simp] theorem State.setOut_pwr (s : State) (o : Nat) (c : ClkOut) : (s.setOut o c).pwr = s.pwr := rfl
@[simp] theorem State.setOut_jtag (s : State) (o : Nat) (c : ClkOut) : (s.setOut o c).jtag = s.jtag := rfl
@[simp] theorem State.setOut_out (s : State) (o : Nat) (c : ClkOut) : (s.setOut o c).out = s.out := rfl
@[simp] theorem State.setOut_freeCtr (s : State) (o : Nat) (c : ClkOut) : (s.setOut o c).freeCtr = s.freeCtr := rfl
@[simp] theorem State.setOut_pending (s : State) (o : Nat) (c : ClkOut) : (s.setOut o c).pending = s.pending := rfl
@[simp] theorem State.wr_tse (s : State) (r : RegId) (w : Word) (i : Nat) (j : Nat) : (s.wr r w i j).tse = s.tse := rfl
@[simp] theorem State.wr_rim (s : State) (r : RegId) (w : Word) (i : Nat) (j : Nat) : (s.wr r w i j).rim = s.rim := rfl
@[simp] theorem State.wr_gnb (s : State) (r : RegId) (w : Word) (i : Nat) (j : Nat) : (s.wr r w i j).gnb = s.gnb := rfl
@[simp] theorem State.wr_rsh (s : State) (r : RegId) (w : Word) (i : Nat) (j : Nat) : (s.wr r w i j).rsh = s.rsh := rfl
@[simp] theorem State.wr_syn (s : State) (r : RegId) (w : Word) (i : Nat) (j : Nat) : (s.wr r w i j).syn = s.syn := rfl
@[simp] theorem State.wr_dsq (s : State) (r : RegId) (w : Word) (i : Nat) (j : Nat) : (s.wr r w i j).dsq = s.dsq := rfl
@[simp] theorem State.wr_npa (s : State) (r : RegId) (w : Word) (i : Nat) (j : Nat) : (s.wr r w i j).npa = s.npa := rfl
@[simp] theorem State.wr_slg (s : State) (r : RegId) (w : Word) (i : Nat) (j : Nat) : (s.wr r w i j).slg = s.slg := rfl
@[simp] theorem State.wr_tsv (s : State) (r : RegId) (w : Word) (i : Nat) (j : Nat) : (s.wr r w i j).tsv = s.tsv := rfl
@[simp] theorem State.wr_kvc (s : State) (r : RegId) (w : Word) (i : Nat) (j : Nat) : (s.wr r w i j).kvc = s.kvc := rfl
@[simp] theorem State.wr_hrl (s : State) (r : RegId) (w : Word) (i : Nat) (j : Nat) : (s.wr r w i j).hrl = s.hrl := rfl
@[simp] theorem State.wr_sup (s : State) (r : RegId) (w : Word) (i : Nat) (j : Nat) : (s.wr r w i j).sup = s.sup := rfl
@[simp] theorem State.wr_par (s : State) (r : RegId) (w : Word) (i : Nat) (j : Nat) : (s.wr r w i j).par = s.par := rfl
@[simp] theorem State.wr_cpx (s : State) (r : RegId) (w : Word) (i : Nat) (j : Nat) : (s.wr r w i j).cpx = s.cpx := rfl
@[simp] theorem State.wr_pwr (s : State) (r : RegId) (w : Word) (i : Nat) (j : Nat) : (s.wr r w i j).pwr = s.pwr := rfl
@[simp] theorem State.wr_jtag (s : State) (r : RegId) (w : Word) (i : Nat) (j : Nat) : (s.wr r w i j).jtag = s.jtag := rfl
@[simp] theorem State.wr_out (s : State) (r : RegId) (w : Word) (i : Nat) (j : Nat) : (s.wr r w i j).out = s.out := rfl
@[simp] theorem State.wr_freeCtr (s : State) (r : RegId) (w : Word) (i : Nat) (j : Nat) : (s.wr r w i j).freeCtr = s.freeCtr := rfl
@[simp] theorem State.wr_pending (s : State) (r : RegId) (w : Word) (i : Nat) (j : Nat) : (s.wr r w i j).pending = s.pending := rfl
@[simp] theorem State.emit_regs (s : State) (o : Out) : (s.emit o).regs = s.regs := rfl
@[simp] theorem State.emit_tse (s : State) (o : Out) : (s.emit o).tse = s.tse := rfl
@[simp] theorem State.emit_rim (s : State) (o : Out) : (s.emit o).rim = s.rim := rfl
@[simp] theorem State.emit_gnb (s : State) (o : Out) : (s.emit o).gnb = s.gnb := rfl
@[simp] theorem State.emit_rsh (s : State) (o : Out) : (s.emit o).rsh = s.rsh := rfl
@[simp] theorem State.emit_syn (s : State) (o : Out) : (s.emit o).syn = s.syn := rfl
@[simp] theorem State.emit_dsq (s : State) (o : Out) : (s.emit o).dsq = s.dsq := rfl
@[simp] theorem State.emit_npa (s : State) (o : Out) : (s.emit o).npa = s.npa := rfl
@[simp] theorem State.emit_slg (s : State) (o : Out) : (s.emit o).slg = s.slg := rfl
@[simp] theorem State.emit_tsv (s : State) (o : Out) : (s.emit o).tsv = s.tsv := rfl
@[simp] theorem State.emit_kvc (s : State) (o : Out) : (s.emit o).kvc = s.kvc := rfl
@[simp] theorem State.emit_hrl (s : State) (o : Out) : (s.emit o).hrl = s.hrl := rfl
@[simp] theorem State.emit_sup (s : State) (o : Out) : (s.emit o).sup = s.sup := rfl
@[simp] theorem State.emit_par (s : State) (o : Out) : (s.emit o).par = s.par := rfl
@[simp] theorem State.emit_cpx (s : State) (o : Out) : (s.emit o).cpx = s.cpx := rfl
@[simp] theorem State.emit_pwr (s : State) (o : Out) : (s.emit o).pwr = s.pwr := rfl
@[simp] theorem State.emit_jtag (s : State) (o : Out) : (s.emit o).jtag = s.jtag := rfl
@[simp] theorem State.emit_freeCtr (s : State) (o : Out) : (s.emit o).freeCtr = s.freeCtr := rfl
@[simp] theorem State.emit_pending (s : State) (o : Out) : (s.emit o).pending = s.pending := rfl
@[simp] theorem State.setDom_regs (s : State) (n : Nat) (d : Dom) : (s.setDom n d).regs = s.regs := rfl
@[simp] theorem State.setDom_rim (s : State) (n : Nat) (d : Dom) : (s.setDom n d).rim = s.rim := rfl
@[simp] theorem State.setDom_gnb (s : State) (n : Nat) (d : Dom) : (s.setDom n d).gnb = s.gnb := rfl
@[simp] theorem State.setDom_rsh (s : State) (n : Nat) (d : Dom) : (s.setDom n d).rsh = s.rsh := rfl
@[simp] theorem State.setDom_syn (s : State) (n : Nat) (d : Dom) : (s.setDom n d).syn = s.syn := rfl
@[simp] theorem State.setDom_dsq (s : State) (n : Nat) (d : Dom) : (s.setDom n d).dsq = s.dsq := rfl
@[simp] theorem State.setDom_npa (s : State) (n : Nat) (d : Dom) : (s.setDom n d).npa = s.npa := rfl
@[simp] theorem State.setDom_slg (s : State) (n : Nat) (d : Dom) : (s.setDom n d).slg = s.slg := rfl
@[simp] theorem State.setDom_tsv (s : State) (n : Nat) (d : Dom) : (s.setDom n d).tsv = s.tsv := rfl
@[simp] theorem State.setDom_kvc (s : State) (n : Nat) (d : Dom) : (s.setDom n d).kvc = s.kvc := rfl
@[simp] theorem State.setDom_hrl (s : State) (n : Nat) (d : Dom) : (s.setDom n d).hrl = s.hrl := rfl
@[simp] theorem State.setDom_sup (s : State) (n : Nat) (d : Dom) : (s.setDom n d).sup = s.sup := rfl
@[simp] theorem State.setDom_par (s : State) (n : Nat) (d : Dom) : (s.setDom n d).par = s.par := rfl
@[simp] theorem State.setDom_cpx (s : State) (n : Nat) (d : Dom) : (s.setDom n d).cpx = s.cpx := rfl
@[simp] theorem State.setDom_pwr (s : State) (n : Nat) (d : Dom) : (s.setDom n d).pwr = s.pwr := rfl
@[simp] theorem State.setDom_jtag (s : State) (n : Nat) (d : Dom) : (s.setDom n d).jtag = s.jtag := rfl
@[simp] theorem State.setDom_out (s : State) (n : Nat) (d : Dom) : (s.setDom n d).out = s.out := rfl
@[simp] theorem State.setDom_freeCtr (s : State) (n : Nat) (d : Dom) : (s.setDom n d).freeCtr = s.freeCtr := rfl
@[simp] theorem State.setDom_pending (s : State) (n : Nat) (d : Dom) : (s.setDom n d).pending = s.pending := rfl
@[simp] theorem State.setStarted_regs (s : State) (f r : Nat) (x : Option Started) : (s.setStarted f r x).regs = s.regs := rfl
@[simp] theorem State.setStarted_tse (s : State) (f r : Nat) (x : Option Started) : (s.setStarted f r x).tse = s.tse := rfl
@[simp] theorem State.setStarted_rim (s : State) (f r : Nat) (x : Option Started) : (s.setStarted f r x).rim = s.rim := rfl
@[simp] theorem State.setStarted_gnb (s : State) (f r : Nat) (x : Option Started) : (s.setStarted f r x).gnb = s.gnb := rfl
@[simp] theorem State.setStarted_rsh (s : State) (f r : Nat) (x : Option Started) : (s.setStarted f r x).rsh = s.rsh := rfl
@[simp] theorem State.setStarted_syn (s : State) (f r : Nat) (x : Option Started) : (s.setStarted f r x).syn = s.syn := rfl
@[simp] theorem State.setStarted_dsq (s : State) (f r : Nat) (x : Option Started) : (s.setStarted f r x).dsq = s.dsq := rfl
@[simp] theorem State.setStarted_npa (s : State) (f r : Nat) (x : Option Started) : (s.setStarted f r x).npa = s.npa := rfl
@[simp] theorem State.setStarted_slg (s : State) (f r : Nat) (x : Option Started) : (s.setStarted f r x).slg = s.slg := rfl
@[simp] theorem State.setStarted_tsv (s : State) (f r : Nat) (x : Option Started) : (s.setStarted f r x).tsv = s.tsv := rfl
@[simp] theorem State.setStarted_kvc (s : State) (f r : Nat) (x : Option Started) : (s.setStarted f r x).kvc = s.kvc := rfl
@[simp] theorem State.setStarted_hrl (s : State) (f r : Nat) (x : Option Started) : (s.setStarted f r x).hrl = s.hrl := rfl
@[simp] theorem State.setStarted_sup (s : State) (f r : Nat) (x : Option Started) : (s.setStarted f r x).sup = s.sup := rfl
@[simp] theorem State.setStarted_cpx (s : State) (f r : Nat) (x : Option Started) : (s.setStarted f r x).cpx = s.cpx := rfl
@[simp] theorem State.setStarted_pwr (s : State) (f r : Nat) (x : Option Started) : (s.setStarted f r x).pwr = s.pwr := rfl
@[simp] theorem State.setStarted_jtag (s : State) (f r : Nat) (x : Option Started) : (s.setStarted f r x).jtag = s.jtag := rfl
@[simp] theorem State.setStarted_out (s : State) (f r : Nat) (x : Option Started) : (s.setStarted f r x).out = s.out := rfl
@[simp] theorem State.setStarted_freeCtr (s : State) (f r : Nat) (x : Option Started) : (s.setStarted f r x).freeCtr = s.freeCtr := rfl
@[simp] theorem State.setStarted_pending (s : State) (f r : Nat) (x : Option Started) : (s.setStarted f r x).pending = s.pending := rfl
@[simp] theorem State.replyThread_regs (s : State) (t : Nat) (status : Status) (result : List Byte) : (s.replyThread t status result).regs = s.regs := rfl
@[simp] theorem State.replyThread_tse (s : State) (t : Nat) (status : Status) (result : List Byte) : (s.replyThread t status result).tse = s.tse := rfl
@[simp] theorem State.replyThread_rim (s : State) (t : Nat) (status : Status) (result : List Byte) : (s.replyThread t status result).rim = s.rim := rfl
@[simp] theorem State.replyThread_gnb (s : State) (t : Nat) (status : Status) (result : List Byte) : (s.replyThread t status result).gnb = s.gnb := rfl
@[simp] theorem State.replyThread_rsh (s : State) (t : Nat) (status : Status) (result : List Byte) : (s.replyThread t status result).rsh = s.rsh := rfl
@[simp] theorem State.replyThread_syn (s : State) (t : Nat) (status : Status) (result : List Byte) : (s.replyThread t status result).syn = s.syn := rfl
@[simp] theorem State.replyThread_npa (s : State) (t : Nat) (status : Status) (result : List Byte) : (s.replyThread t status result).npa = s.npa := rfl
@[simp] theorem State.replyThread_slg (s : State) (t : Nat) (status : Status) (result : List Byte) : (s.replyThread t status result).slg = s.slg := rfl
@[simp] theorem State.replyThread_tsv (s : State) (t : Nat) (status : Status) (result : List Byte) : (s.replyThread t status result).tsv = s.tsv := rfl
@[simp] theorem State.replyThread_kvc (s : State) (t : Nat) (status : Status) (result : List Byte) : (s.replyThread t status result).kvc = s.kvc := rfl
@[simp] theorem State.replyThread_hrl (s : State) (t : Nat) (status : Status) (result : List Byte) : (s.replyThread t status result).hrl = s.hrl := rfl
@[simp] theorem State.replyThread_sup (s : State) (t : Nat) (status : Status) (result : List Byte) : (s.replyThread t status result).sup = s.sup := rfl
@[simp] theorem State.replyThread_par (s : State) (t : Nat) (status : Status) (result : List Byte) : (s.replyThread t status result).par = s.par := rfl
@[simp] theorem State.replyThread_cpx (s : State) (t : Nat) (status : Status) (result : List Byte) : (s.replyThread t status result).cpx = s.cpx := rfl
@[simp] theorem State.replyThread_pwr (s : State) (t : Nat) (status : Status) (result : List Byte) : (s.replyThread t status result).pwr = s.pwr := rfl
@[simp] theorem State.replyThread_jtag (s : State) (t : Nat) (status : Status) (result : List Byte) : (s.replyThread t status result).jtag = s.jtag := rfl
@[simp] theorem State.replyThread_out (s : State) (t : Nat) (status : Status) (result : List Byte) : (s.replyThread t status result).out = s.out := rfl
@[simp] theorem State.replyThread_freeCtr (s : State) (t : Nat) (status : Status) (result : List Byte) : (s.replyThread t status result).freeCtr = s.freeCtr := rfl
@[simp] theorem State.replyThread_pending (s : State) (t : Nat) (status : Status) (result : List Byte) : (s.replyThread t status result).pending = s.pending := rfl
@[simp] theorem State.setPar_regs (s : State) (x : Par) : (s.setPar x).regs = s.regs := rfl
@[simp] theorem State.setPar_tse (s : State) (x : Par) : (s.setPar x).tse = s.tse := rfl
@[simp] theorem State.setPar_rim (s : State) (x : Par) : (s.setPar x).rim = s.rim := rfl
@[simp] theorem State.setPar_gnb (s : State) (x : Par) : (s.setPar x).gnb = s.gnb := rfl
@[simp] theorem State.setPar_rsh (s : State) (x : Par) : (s.setPar x).rsh = s.rsh := rfl
@[simp] theorem State.setPar_syn (s : State) (x : Par) : (s.setPar x).syn = s.syn := rfl
@[simp] theorem State.setPar_dsq (s : State) (x : Par) : (s.setPar x).dsq = s.dsq := rfl
@[simp] theorem State.setPar_npa (s : State) (x : Par) : (s.setPar x).npa = s.npa := rfl
@[simp] theorem State.setPar_slg (s : State) (x : Par) : (s.setPar x).slg = s.slg := rfl
@[simp] theorem State.setPar_tsv (s : State) (x : Par) : (s.setPar x).tsv = s.tsv := rfl
@[simp] theorem State.setPar_kvc (s : State) (x : Par) : (s.setPar x).kvc = s.kvc := rfl
@[simp] theorem State.setPar_hrl (s : State) (x : Par) : (s.setPar x).hrl = s.hrl := rfl
@[simp] theorem State.setPar_sup (s : State) (x : Par) : (s.setPar x).sup = s.sup := rfl
@[simp] theorem State.setPar_cpx (s : State) (x : Par) : (s.setPar x).cpx = s.cpx := rfl
@[simp] theorem State.setPar_pwr (s : State) (x : Par) : (s.setPar x).pwr = s.pwr := rfl
@[simp] theorem State.setPar_jtag (s : State) (x : Par) : (s.setPar x).jtag = s.jtag := rfl
@[simp] theorem State.setPar_out (s : State) (x : Par) : (s.setPar x).out = s.out := rfl
@[simp] theorem State.setPar_freeCtr (s : State) (x : Par) : (s.setPar x).freeCtr = s.freeCtr := rfl
@[simp] theorem State.setPar_pending (s : State) (x : Par) : (s.setPar x).pending = s.pending := rfl
@[simp] theorem State.setGnb_regs (s : State) (g : Gnb) : (s.setGnb g).regs = s.regs := rfl
@[simp] theorem State.setGnb_tse (s : State) (g : Gnb) : (s.setGnb g).tse = s.tse := rfl
@[simp] theorem State.setGnb_rim (s : State) (g : Gnb) : (s.setGnb g).rim = s.rim := rfl
@[simp] theorem State.setGnb_rsh (s : State) (g : Gnb) : (s.setGnb g).rsh = s.rsh := rfl
@[simp] theorem State.setGnb_syn (s : State) (g : Gnb) : (s.setGnb g).syn = s.syn := rfl
@[simp] theorem State.setGnb_dsq (s : State) (g : Gnb) : (s.setGnb g).dsq = s.dsq := rfl
@[simp] theorem State.setGnb_npa (s : State) (g : Gnb) : (s.setGnb g).npa = s.npa := rfl
@[simp] theorem State.setGnb_slg (s : State) (g : Gnb) : (s.setGnb g).slg = s.slg := rfl
@[simp] theorem State.setGnb_tsv (s : State) (g : Gnb) : (s.setGnb g).tsv = s.tsv := rfl
@[simp] theorem State.setGnb_kvc (s : State) (g : Gnb) : (s.setGnb g).kvc = s.kvc := rfl
@[simp] theorem State.setGnb_hrl (s : State) (g : Gnb) : (s.setGnb g).hrl = s.hrl := rfl
@[simp] theorem State.setGnb_sup (s : State) (g : Gnb) : (s.setGnb g).sup = s.sup := rfl
@[simp] theorem State.setGnb_par (s : State) (g : Gnb) : (s.setGnb g).par = s.par := rfl
@[simp] theorem State.setGnb_cpx (s : State) (g : Gnb) : (s.setGnb g).cpx = s.cpx := rfl
@[simp] theorem State.setGnb_pwr (s : State) (g : Gnb) : (s.setGnb g).pwr = s.pwr := rfl
@[simp] theorem State.setGnb_jtag (s : State) (g : Gnb) : (s.setGnb g).jtag = s.jtag := rfl
@[simp] theorem State.setGnb_out (s : State) (g : Gnb) : (s.setGnb g).out = s.out := rfl
@[simp] theorem State.setGnb_freeCtr (s : State) (g : Gnb) : (s.setGnb g).freeCtr = s.freeCtr := rfl
@[simp] theorem State.setGnb_pending (s : State) (g : Gnb) : (s.setGnb g).pending = s.pending := rfl
@[simp] theorem State.setNport_regs (s : State) (p : Nat) (x : NPort) : (s.setNport p x).regs = s.regs := rfl
@[simp] theorem State.setNport_tse (s : State) (p : Nat) (x : NPort) : (s.setNport p x).tse = s.tse := rfl
@[simp] theorem State.setNport_rim (s : State) (p : Nat) (x : NPort) : (s.setNport p x).rim = s.rim := rfl
@[simp] theorem State.setNport_gnb (s : State) (p : Nat) (x : NPort) : (s.setNport p x).gnb = s.gnb := rfl
@[simp] theorem State.setNport_rsh (s : State) (p : Nat) (x : NPort) : (s.setNport p x).rsh = s.rsh := rfl
@[simp] theorem State.setNport_syn (s : State) (p : Nat) (x : NPort) : (s.setNport p x).syn = s.syn := rfl
@[simp] theorem State.setNport_dsq (s : State) (p : Nat) (x : NPort) : (s.setNport p x).dsq = s.dsq := rfl
@[simp] theorem State.setNport_slg (s : State) (p : Nat) (x : NPort) : (s.setNport p x).slg = s.slg := rfl
@[simp] theorem State.setNport_tsv (s : State) (p : Nat) (x : NPort) : (s.setNport p x).tsv = s.tsv := rfl
@[simp] theorem State.setNport_kvc (s : State) (p : Nat) (x : NPort) : (s.setNport p x).kvc = s.kvc := rfl
@[simp] theorem State.setNport_hrl (s : State) (p : Nat) (x : NPort) : (s.setNport p x).hrl = s.hrl := rfl
@[simp] theorem State.setNport_sup (s : State) (p : Nat) (x : NPort) : (s.setNport p x).sup = s.sup := rfl
@[simp] theorem State.setNport_par (s : State) (p : Nat) (x : NPort) : (s.setNport p x).par = s.par := rfl
@[simp] theorem State.setNport_cpx (s : State) (p : Nat) (x : NPort) : (s.setNport p x).cpx = s.cpx := rfl
@[simp] theorem State.setNport_pwr (s : State) (p : Nat) (x : NPort) : (s.setNport p x).pwr = s.pwr := rfl
@[simp] theorem State.setNport_jtag (s : State) (p : Nat) (x : NPort) : (s.setNport p x).jtag = s.jtag := rfl
@[simp] theorem State.setNport_out (s : State) (p : Nat) (x : NPort) : (s.setNport p x).out = s.out := rfl
@[simp] theorem State.setNport_freeCtr (s : State) (p : Nat) (x : NPort) : (s.setNport p x).freeCtr = s.freeCtr := rfl
@[simp] theorem State.setNport_pending (s : State) (p : Nat) (x : NPort) : (s.setNport p x).pending = s.pending := rfl
@[simp] theorem State.setEng_regs (s : State) (e : Nat) (x : Engine) : (s.setEng e x).regs = s.regs := rfl
@[simp] theorem State.setEng_tse (s : State) (e : Nat) (x : Engine) : (s.setEng e x).tse = s.tse := rfl
@[simp] theorem State.setEng_rim (s : State) (e : Nat) (x : Engine) : (s.setEng e x).rim = s.rim := rfl
@[simp] theorem State.setEng_gnb (s : State) (e : Nat) (x : Engine) : (s.setEng e x).gnb = s.gnb := rfl
@[simp] theorem State.setEng_rsh (s : State) (e : Nat) (x : Engine) : (s.setEng e x).rsh = s.rsh := rfl
@[simp] theorem State.setEng_syn (s : State) (e : Nat) (x : Engine) : (s.setEng e x).syn = s.syn := rfl
@[simp] theorem State.setEng_npa (s : State) (e : Nat) (x : Engine) : (s.setEng e x).npa = s.npa := rfl
@[simp] theorem State.setEng_slg (s : State) (e : Nat) (x : Engine) : (s.setEng e x).slg = s.slg := rfl
@[simp] theorem State.setEng_tsv (s : State) (e : Nat) (x : Engine) : (s.setEng e x).tsv = s.tsv := rfl
@[simp] theorem State.setEng_kvc (s : State) (e : Nat) (x : Engine) : (s.setEng e x).kvc = s.kvc := rfl
@[simp] theorem State.setEng_hrl (s : State) (e : Nat) (x : Engine) : (s.setEng e x).hrl = s.hrl := rfl
@[simp] theorem State.setEng_sup (s : State) (e : Nat) (x : Engine) : (s.setEng e x).sup = s.sup := rfl
@[simp] theorem State.setEng_par (s : State) (e : Nat) (x : Engine) : (s.setEng e x).par = s.par := rfl
@[simp] theorem State.setEng_cpx (s : State) (e : Nat) (x : Engine) : (s.setEng e x).cpx = s.cpx := rfl
@[simp] theorem State.setEng_pwr (s : State) (e : Nat) (x : Engine) : (s.setEng e x).pwr = s.pwr := rfl
@[simp] theorem State.setEng_jtag (s : State) (e : Nat) (x : Engine) : (s.setEng e x).jtag = s.jtag := rfl
@[simp] theorem State.setEng_out (s : State) (e : Nat) (x : Engine) : (s.setEng e x).out = s.out := rfl
@[simp] theorem State.setEng_freeCtr (s : State) (e : Nat) (x : Engine) : (s.setEng e x).freeCtr = s.freeCtr := rfl
@[simp] theorem State.setEng_pending (s : State) (e : Nat) (x : Engine) : (s.setEng e x).pending = s.pending := rfl
@[simp] theorem State.setCpx_regs (s : State) (x : Cpx) : (s.setCpx x).regs = s.regs := rfl
@[simp] theorem State.setCpx_tse (s : State) (x : Cpx) : (s.setCpx x).tse = s.tse := rfl
@[simp] theorem State.setCpx_rim (s : State) (x : Cpx) : (s.setCpx x).rim = s.rim := rfl
@[simp] theorem State.setCpx_gnb (s : State) (x : Cpx) : (s.setCpx x).gnb = s.gnb := rfl
@[simp] theorem State.setCpx_rsh (s : State) (x : Cpx) : (s.setCpx x).rsh = s.rsh := rfl
@[simp] theorem State.setCpx_syn (s : State) (x : Cpx) : (s.setCpx x).syn = s.syn := rfl
@[simp] theorem State.setCpx_dsq (s : State) (x : Cpx) : (s.setCpx x).dsq = s.dsq := rfl
@[simp] theorem State.setCpx_npa (s : State) (x : Cpx) : (s.setCpx x).npa = s.npa := rfl
@[simp] theorem State.setCpx_slg (s : State) (x : Cpx) : (s.setCpx x).slg = s.slg := rfl
@[simp] theorem State.setCpx_tsv (s : State) (x : Cpx) : (s.setCpx x).tsv = s.tsv := rfl
@[simp] theorem State.setCpx_kvc (s : State) (x : Cpx) : (s.setCpx x).kvc = s.kvc := rfl
@[simp] theorem State.setCpx_hrl (s : State) (x : Cpx) : (s.setCpx x).hrl = s.hrl := rfl
@[simp] theorem State.setCpx_sup (s : State) (x : Cpx) : (s.setCpx x).sup = s.sup := rfl
@[simp] theorem State.setCpx_par (s : State) (x : Cpx) : (s.setCpx x).par = s.par := rfl
@[simp] theorem State.setCpx_pwr (s : State) (x : Cpx) : (s.setCpx x).pwr = s.pwr := rfl
@[simp] theorem State.setCpx_jtag (s : State) (x : Cpx) : (s.setCpx x).jtag = s.jtag := rfl
@[simp] theorem State.setCpx_out (s : State) (x : Cpx) : (s.setCpx x).out = s.out := rfl
@[simp] theorem State.setCpx_freeCtr (s : State) (x : Cpx) : (s.setCpx x).freeCtr = s.freeCtr := rfl
@[simp] theorem State.setCpx_pending (s : State) (x : Cpx) : (s.setCpx x).pending = s.pending := rfl
@[simp] theorem State.setNpa_regs (s : State) (n : Npa) : (s.setNpa n).regs = s.regs := rfl
@[simp] theorem State.setNpa_tse (s : State) (n : Npa) : (s.setNpa n).tse = s.tse := rfl
@[simp] theorem State.setNpa_rim (s : State) (n : Npa) : (s.setNpa n).rim = s.rim := rfl
@[simp] theorem State.setNpa_gnb (s : State) (n : Npa) : (s.setNpa n).gnb = s.gnb := rfl
@[simp] theorem State.setNpa_rsh (s : State) (n : Npa) : (s.setNpa n).rsh = s.rsh := rfl
@[simp] theorem State.setNpa_syn (s : State) (n : Npa) : (s.setNpa n).syn = s.syn := rfl
@[simp] theorem State.setNpa_dsq (s : State) (n : Npa) : (s.setNpa n).dsq = s.dsq := rfl
@[simp] theorem State.setNpa_slg (s : State) (n : Npa) : (s.setNpa n).slg = s.slg := rfl
@[simp] theorem State.setNpa_tsv (s : State) (n : Npa) : (s.setNpa n).tsv = s.tsv := rfl
@[simp] theorem State.setNpa_kvc (s : State) (n : Npa) : (s.setNpa n).kvc = s.kvc := rfl
@[simp] theorem State.setNpa_hrl (s : State) (n : Npa) : (s.setNpa n).hrl = s.hrl := rfl
@[simp] theorem State.setNpa_sup (s : State) (n : Npa) : (s.setNpa n).sup = s.sup := rfl
@[simp] theorem State.setNpa_par (s : State) (n : Npa) : (s.setNpa n).par = s.par := rfl
@[simp] theorem State.setNpa_cpx (s : State) (n : Npa) : (s.setNpa n).cpx = s.cpx := rfl
@[simp] theorem State.setNpa_pwr (s : State) (n : Npa) : (s.setNpa n).pwr = s.pwr := rfl
@[simp] theorem State.setNpa_jtag (s : State) (n : Npa) : (s.setNpa n).jtag = s.jtag := rfl
@[simp] theorem State.setNpa_out (s : State) (n : Npa) : (s.setNpa n).out = s.out := rfl
@[simp] theorem State.setNpa_freeCtr (s : State) (n : Npa) : (s.setNpa n).freeCtr = s.freeCtr := rfl
@[simp] theorem State.setNpa_pending (s : State) (n : Npa) : (s.setNpa n).pending = s.pending := rfl
@[simp] theorem State.setTsv_regs (s : State) (t : Tsv) : (s.setTsv t).regs = s.regs := rfl
@[simp] theorem State.setTsv_tse (s : State) (t : Tsv) : (s.setTsv t).tse = s.tse := rfl
@[simp] theorem State.setTsv_rim (s : State) (t : Tsv) : (s.setTsv t).rim = s.rim := rfl
@[simp] theorem State.setTsv_gnb (s : State) (t : Tsv) : (s.setTsv t).gnb = s.gnb := rfl
@[simp] theorem State.setTsv_rsh (s : State) (t : Tsv) : (s.setTsv t).rsh = s.rsh := rfl
@[simp] theorem State.setTsv_syn (s : State) (t : Tsv) : (s.setTsv t).syn = s.syn := rfl
@[simp] theorem State.setTsv_dsq (s : State) (t : Tsv) : (s.setTsv t).dsq = s.dsq := rfl
@[simp] theorem State.setTsv_npa (s : State) (t : Tsv) : (s.setTsv t).npa = s.npa := rfl
@[simp] theorem State.setTsv_slg (s : State) (t : Tsv) : (s.setTsv t).slg = s.slg := rfl
@[simp] theorem State.setTsv_kvc (s : State) (t : Tsv) : (s.setTsv t).kvc = s.kvc := rfl
@[simp] theorem State.setTsv_hrl (s : State) (t : Tsv) : (s.setTsv t).hrl = s.hrl := rfl
@[simp] theorem State.setTsv_sup (s : State) (t : Tsv) : (s.setTsv t).sup = s.sup := rfl
@[simp] theorem State.setTsv_par (s : State) (t : Tsv) : (s.setTsv t).par = s.par := rfl
@[simp] theorem State.setTsv_cpx (s : State) (t : Tsv) : (s.setTsv t).cpx = s.cpx := rfl
@[simp] theorem State.setTsv_pwr (s : State) (t : Tsv) : (s.setTsv t).pwr = s.pwr := rfl
@[simp] theorem State.setTsv_jtag (s : State) (t : Tsv) : (s.setTsv t).jtag = s.jtag := rfl
@[simp] theorem State.setTsv_out (s : State) (t : Tsv) : (s.setTsv t).out = s.out := rfl
@[simp] theorem State.setTsv_freeCtr (s : State) (t : Tsv) : (s.setTsv t).freeCtr = s.freeCtr := rfl
@[simp] theorem State.setTsv_pending (s : State) (t : Tsv) : (s.setTsv t).pending = s.pending := rfl
@[simp] theorem State.tally_regs (s : State) (b : Bump) : (s.tally b).regs = s.regs := rfl
@[simp] theorem State.tally_tse (s : State) (b : Bump) : (s.tally b).tse = s.tse := rfl
@[simp] theorem State.tally_rim (s : State) (b : Bump) : (s.tally b).rim = s.rim := rfl
@[simp] theorem State.tally_gnb (s : State) (b : Bump) : (s.tally b).gnb = s.gnb := rfl
@[simp] theorem State.tally_rsh (s : State) (b : Bump) : (s.tally b).rsh = s.rsh := rfl
@[simp] theorem State.tally_syn (s : State) (b : Bump) : (s.tally b).syn = s.syn := rfl
@[simp] theorem State.tally_dsq (s : State) (b : Bump) : (s.tally b).dsq = s.dsq := rfl
@[simp] theorem State.tally_npa (s : State) (b : Bump) : (s.tally b).npa = s.npa := rfl
@[simp] theorem State.tally_slg (s : State) (b : Bump) : (s.tally b).slg = s.slg := rfl
@[simp] theorem State.tally_tsv (s : State) (b : Bump) : (s.tally b).tsv = s.tsv := rfl
@[simp] theorem State.tally_kvc (s : State) (b : Bump) : (s.tally b).kvc = s.kvc := rfl
@[simp] theorem State.tally_hrl (s : State) (b : Bump) : (s.tally b).hrl = s.hrl := rfl
@[simp] theorem State.tally_par (s : State) (b : Bump) : (s.tally b).par = s.par := rfl
@[simp] theorem State.tally_cpx (s : State) (b : Bump) : (s.tally b).cpx = s.cpx := rfl
@[simp] theorem State.tally_pwr (s : State) (b : Bump) : (s.tally b).pwr = s.pwr := rfl
@[simp] theorem State.tally_jtag (s : State) (b : Bump) : (s.tally b).jtag = s.jtag := rfl
@[simp] theorem State.tally_out (s : State) (b : Bump) : (s.tally b).out = s.out := rfl
@[simp] theorem State.tally_freeCtr (s : State) (b : Bump) : (s.tally b).freeCtr = s.freeCtr := rfl
@[simp] theorem State.tally_pending (s : State) (b : Bump) : (s.tally b).pending = s.pending := rfl
@[simp] theorem State.setThr_regs (s : State) (t : Nat) (x : Thr) : (s.setThr t x).regs = s.regs := rfl
@[simp] theorem State.setThr_tse (s : State) (t : Nat) (x : Thr) : (s.setThr t x).tse = s.tse := rfl
@[simp] theorem State.setThr_rim (s : State) (t : Nat) (x : Thr) : (s.setThr t x).rim = s.rim := rfl
@[simp] theorem State.setThr_gnb (s : State) (t : Nat) (x : Thr) : (s.setThr t x).gnb = s.gnb := rfl
@[simp] theorem State.setThr_rsh (s : State) (t : Nat) (x : Thr) : (s.setThr t x).rsh = s.rsh := rfl
@[simp] theorem State.setThr_syn (s : State) (t : Nat) (x : Thr) : (s.setThr t x).syn = s.syn := rfl
@[simp] theorem State.setThr_npa (s : State) (t : Nat) (x : Thr) : (s.setThr t x).npa = s.npa := rfl
@[simp] theorem State.setThr_slg (s : State) (t : Nat) (x : Thr) : (s.setThr t x).slg = s.slg := rfl
@[simp] theorem State.setThr_tsv (s : State) (t : Nat) (x : Thr) : (s.setThr t x).tsv = s.tsv := rfl
@[simp] theorem State.setThr_kvc (s : State) (t : Nat) (x : Thr) : (s.setThr t x).kvc = s.kvc := rfl
@[simp] theorem State.setThr_hrl (s : State) (t : Nat) (x : Thr) : (s.setThr t x).hrl = s.hrl := rfl
@[simp] theorem State.setThr_sup (s : State) (t : Nat) (x : Thr) : (s.setThr t x).sup = s.sup := rfl
@[simp] theorem State.setThr_par (s : State) (t : Nat) (x : Thr) : (s.setThr t x).par = s.par := rfl
@[simp] theorem State.setThr_cpx (s : State) (t : Nat) (x : Thr) : (s.setThr t x).cpx = s.cpx := rfl
@[simp] theorem State.setThr_pwr (s : State) (t : Nat) (x : Thr) : (s.setThr t x).pwr = s.pwr := rfl
@[simp] theorem State.setThr_jtag (s : State) (t : Nat) (x : Thr) : (s.setThr t x).jtag = s.jtag := rfl
@[simp] theorem State.setThr_out (s : State) (t : Nat) (x : Thr) : (s.setThr t x).out = s.out := rfl
@[simp] theorem State.setThr_freeCtr (s : State) (t : Nat) (x : Thr) : (s.setThr t x).freeCtr = s.freeCtr := rfl
@[simp] theorem State.setThr_pending (s : State) (t : Nat) (x : Thr) : (s.setThr t x).pending = s.pending := rfl
@[simp] theorem State.setQueue_regs (s : State) (q : Nat) (x : Queue) : (s.setQueue q x).regs = s.regs := rfl
@[simp] theorem State.setQueue_tse (s : State) (q : Nat) (x : Queue) : (s.setQueue q x).tse = s.tse := rfl
@[simp] theorem State.setQueue_rim (s : State) (q : Nat) (x : Queue) : (s.setQueue q x).rim = s.rim := rfl
@[simp] theorem State.setQueue_gnb (s : State) (q : Nat) (x : Queue) : (s.setQueue q x).gnb = s.gnb := rfl
@[simp] theorem State.setQueue_rsh (s : State) (q : Nat) (x : Queue) : (s.setQueue q x).rsh = s.rsh := rfl
@[simp] theorem State.setQueue_syn (s : State) (q : Nat) (x : Queue) : (s.setQueue q x).syn = s.syn := rfl
@[simp] theorem State.setQueue_npa (s : State) (q : Nat) (x : Queue) : (s.setQueue q x).npa = s.npa := rfl
@[simp] theorem State.setQueue_slg (s : State) (q : Nat) (x : Queue) : (s.setQueue q x).slg = s.slg := rfl
@[simp] theorem State.setQueue_tsv (s : State) (q : Nat) (x : Queue) : (s.setQueue q x).tsv = s.tsv := rfl
@[simp] theorem State.setQueue_kvc (s : State) (q : Nat) (x : Queue) : (s.setQueue q x).kvc = s.kvc := rfl
@[simp] theorem State.setQueue_hrl (s : State) (q : Nat) (x : Queue) : (s.setQueue q x).hrl = s.hrl := rfl
@[simp] theorem State.setQueue_sup (s : State) (q : Nat) (x : Queue) : (s.setQueue q x).sup = s.sup := rfl
@[simp] theorem State.setQueue_par (s : State) (q : Nat) (x : Queue) : (s.setQueue q x).par = s.par := rfl
@[simp] theorem State.setQueue_cpx (s : State) (q : Nat) (x : Queue) : (s.setQueue q x).cpx = s.cpx := rfl
@[simp] theorem State.setQueue_pwr (s : State) (q : Nat) (x : Queue) : (s.setQueue q x).pwr = s.pwr := rfl
@[simp] theorem State.setQueue_jtag (s : State) (q : Nat) (x : Queue) : (s.setQueue q x).jtag = s.jtag := rfl
@[simp] theorem State.setQueue_out (s : State) (q : Nat) (x : Queue) : (s.setQueue q x).out = s.out := rfl
@[simp] theorem State.setQueue_freeCtr (s : State) (q : Nat) (x : Queue) : (s.setQueue q x).freeCtr = s.freeCtr := rfl
@[simp] theorem State.setQueue_pending (s : State) (q : Nat) (x : Queue) : (s.setQueue q x).pending = s.pending := rfl
@[simp] theorem State.setMon_regs (s : State) (n : Nat) (x : InMon) : (s.setMon n x).regs = s.regs := rfl
@[simp] theorem State.setMon_tse (s : State) (n : Nat) (x : InMon) : (s.setMon n x).tse = s.tse := rfl
@[simp] theorem State.setMon_gnb (s : State) (n : Nat) (x : InMon) : (s.setMon n x).gnb = s.gnb := rfl
@[simp] theorem State.setMon_rsh (s : State) (n : Nat) (x : InMon) : (s.setMon n x).rsh = s.rsh := rfl
@[simp] theorem State.setMon_syn (s : State) (n : Nat) (x : InMon) : (s.setMon n x).syn = s.syn := rfl
@[simp] theorem State.setMon_dsq (s : State) (n : Nat) (x : InMon) : (s.setMon n x).dsq = s.dsq := rfl
@[simp] theorem State.setMon_npa (s : State) (n : Nat) (x : InMon) : (s.setMon n x).npa = s.npa := rfl
@[simp] theorem State.setMon_slg (s : State) (n : Nat) (x : InMon) : (s.setMon n x).slg = s.slg := rfl
@[simp] theorem State.setMon_tsv (s : State) (n : Nat) (x : InMon) : (s.setMon n x).tsv = s.tsv := rfl
@[simp] theorem State.setMon_kvc (s : State) (n : Nat) (x : InMon) : (s.setMon n x).kvc = s.kvc := rfl
@[simp] theorem State.setMon_hrl (s : State) (n : Nat) (x : InMon) : (s.setMon n x).hrl = s.hrl := rfl
@[simp] theorem State.setMon_sup (s : State) (n : Nat) (x : InMon) : (s.setMon n x).sup = s.sup := rfl
@[simp] theorem State.setMon_par (s : State) (n : Nat) (x : InMon) : (s.setMon n x).par = s.par := rfl
@[simp] theorem State.setMon_cpx (s : State) (n : Nat) (x : InMon) : (s.setMon n x).cpx = s.cpx := rfl
@[simp] theorem State.setMon_pwr (s : State) (n : Nat) (x : InMon) : (s.setMon n x).pwr = s.pwr := rfl
@[simp] theorem State.setMon_jtag (s : State) (n : Nat) (x : InMon) : (s.setMon n x).jtag = s.jtag := rfl
@[simp] theorem State.setMon_out (s : State) (n : Nat) (x : InMon) : (s.setMon n x).out = s.out := rfl
@[simp] theorem State.setMon_freeCtr (s : State) (n : Nat) (x : InMon) : (s.setMon n x).freeCtr = s.freeCtr := rfl
@[simp] theorem State.setMon_pending (s : State) (n : Nat) (x : InMon) : (s.setMon n x).pending = s.pending := rfl
@[simp] theorem State.setTdc_regs (s : State) (t : Nat) (x : Tdc) : (s.setTdc t x).regs = s.regs := rfl
@[simp] theorem State.setTdc_tse (s : State) (t : Nat) (x : Tdc) : (s.setTdc t x).tse = s.tse := rfl
@[simp] theorem State.setTdc_gnb (s : State) (t : Nat) (x : Tdc) : (s.setTdc t x).gnb = s.gnb := rfl
@[simp] theorem State.setTdc_rsh (s : State) (t : Nat) (x : Tdc) : (s.setTdc t x).rsh = s.rsh := rfl
@[simp] theorem State.setTdc_syn (s : State) (t : Nat) (x : Tdc) : (s.setTdc t x).syn = s.syn := rfl
@[simp] theorem State.setTdc_dsq (s : State) (t : Nat) (x : Tdc) : (s.setTdc t x).dsq = s.dsq := rfl
@[simp] theorem State.setTdc_npa (s : State) (t : Nat) (x : Tdc) : (s.setTdc t x).npa = s.npa := rfl
@[simp] theorem State.setTdc_slg (s : State) (t : Nat) (x : Tdc) : (s.setTdc t x).slg = s.slg := rfl
@[simp] theorem State.setTdc_tsv (s : State) (t : Nat) (x : Tdc) : (s.setTdc t x).tsv = s.tsv := rfl
@[simp] theorem State.setTdc_kvc (s : State) (t : Nat) (x : Tdc) : (s.setTdc t x).kvc = s.kvc := rfl
@[simp] theorem State.setTdc_hrl (s : State) (t : Nat) (x : Tdc) : (s.setTdc t x).hrl = s.hrl := rfl
@[simp] theorem State.setTdc_sup (s : State) (t : Nat) (x : Tdc) : (s.setTdc t x).sup = s.sup := rfl
@[simp] theorem State.setTdc_par (s : State) (t : Nat) (x : Tdc) : (s.setTdc t x).par = s.par := rfl
@[simp] theorem State.setTdc_cpx (s : State) (t : Nat) (x : Tdc) : (s.setTdc t x).cpx = s.cpx := rfl
@[simp] theorem State.setTdc_pwr (s : State) (t : Nat) (x : Tdc) : (s.setTdc t x).pwr = s.pwr := rfl
@[simp] theorem State.setTdc_jtag (s : State) (t : Nat) (x : Tdc) : (s.setTdc t x).jtag = s.jtag := rfl
@[simp] theorem State.setTdc_out (s : State) (t : Nat) (x : Tdc) : (s.setTdc t x).out = s.out := rfl
@[simp] theorem State.setTdc_freeCtr (s : State) (t : Nat) (x : Tdc) : (s.setTdc t x).freeCtr = s.freeCtr := rfl
@[simp] theorem State.setTdc_pending (s : State) (t : Nat) (x : Tdc) : (s.setTdc t x).pending = s.pending := rfl
@[simp] theorem State.setEmu_regs (s : State) (m : Nat) (x : Emu) : (s.setEmu m x).regs = s.regs := rfl
@[simp] theorem State.setEmu_tse (s : State) (m : Nat) (x : Emu) : (s.setEmu m x).tse = s.tse := rfl
@[simp] theorem State.setEmu_gnb (s : State) (m : Nat) (x : Emu) : (s.setEmu m x).gnb = s.gnb := rfl
@[simp] theorem State.setEmu_rsh (s : State) (m : Nat) (x : Emu) : (s.setEmu m x).rsh = s.rsh := rfl
@[simp] theorem State.setEmu_syn (s : State) (m : Nat) (x : Emu) : (s.setEmu m x).syn = s.syn := rfl
@[simp] theorem State.setEmu_dsq (s : State) (m : Nat) (x : Emu) : (s.setEmu m x).dsq = s.dsq := rfl
@[simp] theorem State.setEmu_npa (s : State) (m : Nat) (x : Emu) : (s.setEmu m x).npa = s.npa := rfl
@[simp] theorem State.setEmu_slg (s : State) (m : Nat) (x : Emu) : (s.setEmu m x).slg = s.slg := rfl
@[simp] theorem State.setEmu_tsv (s : State) (m : Nat) (x : Emu) : (s.setEmu m x).tsv = s.tsv := rfl
@[simp] theorem State.setEmu_kvc (s : State) (m : Nat) (x : Emu) : (s.setEmu m x).kvc = s.kvc := rfl
@[simp] theorem State.setEmu_hrl (s : State) (m : Nat) (x : Emu) : (s.setEmu m x).hrl = s.hrl := rfl
@[simp] theorem State.setEmu_sup (s : State) (m : Nat) (x : Emu) : (s.setEmu m x).sup = s.sup := rfl
@[simp] theorem State.setEmu_par (s : State) (m : Nat) (x : Emu) : (s.setEmu m x).par = s.par := rfl
@[simp] theorem State.setEmu_cpx (s : State) (m : Nat) (x : Emu) : (s.setEmu m x).cpx = s.cpx := rfl
@[simp] theorem State.setEmu_pwr (s : State) (m : Nat) (x : Emu) : (s.setEmu m x).pwr = s.pwr := rfl
@[simp] theorem State.setEmu_jtag (s : State) (m : Nat) (x : Emu) : (s.setEmu m x).jtag = s.jtag := rfl
@[simp] theorem State.setEmu_out (s : State) (m : Nat) (x : Emu) : (s.setEmu m x).out = s.out := rfl
@[simp] theorem State.setEmu_freeCtr (s : State) (m : Nat) (x : Emu) : (s.setEmu m x).freeCtr = s.freeCtr := rfl
@[simp] theorem State.setEmu_pending (s : State) (m : Nat) (x : Emu) : (s.setEmu m x).pending = s.pending := rfl
@[simp] theorem State.setCand_regs (s : State) (c : Nat) (x : Cand) : (s.setCand c x).regs = s.regs := rfl
@[simp] theorem State.setCand_tse (s : State) (c : Nat) (x : Cand) : (s.setCand c x).tse = s.tse := rfl
@[simp] theorem State.setCand_rim (s : State) (c : Nat) (x : Cand) : (s.setCand c x).rim = s.rim := rfl
@[simp] theorem State.setCand_gnb (s : State) (c : Nat) (x : Cand) : (s.setCand c x).gnb = s.gnb := rfl
@[simp] theorem State.setCand_syn (s : State) (c : Nat) (x : Cand) : (s.setCand c x).syn = s.syn := rfl
@[simp] theorem State.setCand_dsq (s : State) (c : Nat) (x : Cand) : (s.setCand c x).dsq = s.dsq := rfl
@[simp] theorem State.setCand_npa (s : State) (c : Nat) (x : Cand) : (s.setCand c x).npa = s.npa := rfl
@[simp] theorem State.setCand_slg (s : State) (c : Nat) (x : Cand) : (s.setCand c x).slg = s.slg := rfl
@[simp] theorem State.setCand_tsv (s : State) (c : Nat) (x : Cand) : (s.setCand c x).tsv = s.tsv := rfl
@[simp] theorem State.setCand_kvc (s : State) (c : Nat) (x : Cand) : (s.setCand c x).kvc = s.kvc := rfl
@[simp] theorem State.setCand_hrl (s : State) (c : Nat) (x : Cand) : (s.setCand c x).hrl = s.hrl := rfl
@[simp] theorem State.setCand_sup (s : State) (c : Nat) (x : Cand) : (s.setCand c x).sup = s.sup := rfl
@[simp] theorem State.setCand_par (s : State) (c : Nat) (x : Cand) : (s.setCand c x).par = s.par := rfl
@[simp] theorem State.setCand_cpx (s : State) (c : Nat) (x : Cand) : (s.setCand c x).cpx = s.cpx := rfl
@[simp] theorem State.setCand_pwr (s : State) (c : Nat) (x : Cand) : (s.setCand c x).pwr = s.pwr := rfl
@[simp] theorem State.setCand_jtag (s : State) (c : Nat) (x : Cand) : (s.setCand c x).jtag = s.jtag := rfl
@[simp] theorem State.setCand_out (s : State) (c : Nat) (x : Cand) : (s.setCand c x).out = s.out := rfl
@[simp] theorem State.setCand_freeCtr (s : State) (c : Nat) (x : Cand) : (s.setCand c x).freeCtr = s.freeCtr := rfl
@[simp] theorem State.setCand_pending (s : State) (c : Nat) (x : Cand) : (s.setCand c x).pending = s.pending := rfl
@[simp] theorem State.setRsh_regs (s : State) (r : Rsh) : (s.setRsh r).regs = s.regs := rfl
@[simp] theorem State.setRsh_tse (s : State) (r : Rsh) : (s.setRsh r).tse = s.tse := rfl
@[simp] theorem State.setRsh_rim (s : State) (r : Rsh) : (s.setRsh r).rim = s.rim := rfl
@[simp] theorem State.setRsh_gnb (s : State) (r : Rsh) : (s.setRsh r).gnb = s.gnb := rfl
@[simp] theorem State.setRsh_syn (s : State) (r : Rsh) : (s.setRsh r).syn = s.syn := rfl
@[simp] theorem State.setRsh_dsq (s : State) (r : Rsh) : (s.setRsh r).dsq = s.dsq := rfl
@[simp] theorem State.setRsh_npa (s : State) (r : Rsh) : (s.setRsh r).npa = s.npa := rfl
@[simp] theorem State.setRsh_slg (s : State) (r : Rsh) : (s.setRsh r).slg = s.slg := rfl
@[simp] theorem State.setRsh_tsv (s : State) (r : Rsh) : (s.setRsh r).tsv = s.tsv := rfl
@[simp] theorem State.setRsh_kvc (s : State) (r : Rsh) : (s.setRsh r).kvc = s.kvc := rfl
@[simp] theorem State.setRsh_hrl (s : State) (r : Rsh) : (s.setRsh r).hrl = s.hrl := rfl
@[simp] theorem State.setRsh_sup (s : State) (r : Rsh) : (s.setRsh r).sup = s.sup := rfl
@[simp] theorem State.setRsh_par (s : State) (r : Rsh) : (s.setRsh r).par = s.par := rfl
@[simp] theorem State.setRsh_cpx (s : State) (r : Rsh) : (s.setRsh r).cpx = s.cpx := rfl
@[simp] theorem State.setRsh_pwr (s : State) (r : Rsh) : (s.setRsh r).pwr = s.pwr := rfl
@[simp] theorem State.setRsh_jtag (s : State) (r : Rsh) : (s.setRsh r).jtag = s.jtag := rfl
@[simp] theorem State.setRsh_out (s : State) (r : Rsh) : (s.setRsh r).out = s.out := rfl
@[simp] theorem State.setRsh_freeCtr (s : State) (r : Rsh) : (s.setRsh r).freeCtr = s.freeCtr := rfl
@[simp] theorem State.setRsh_pending (s : State) (r : Rsh) : (s.setRsh r).pending = s.pending := rfl
@[simp] theorem State.advanceAll_regs (s : State) : (s.advanceAll).regs = s.regs := rfl
@[simp] theorem State.advanceAll_rim (s : State) : (s.advanceAll).rim = s.rim := rfl
@[simp] theorem State.advanceAll_gnb (s : State) : (s.advanceAll).gnb = s.gnb := rfl
@[simp] theorem State.advanceAll_rsh (s : State) : (s.advanceAll).rsh = s.rsh := rfl
@[simp] theorem State.advanceAll_syn (s : State) : (s.advanceAll).syn = s.syn := rfl
@[simp] theorem State.advanceAll_dsq (s : State) : (s.advanceAll).dsq = s.dsq := rfl
@[simp] theorem State.advanceAll_npa (s : State) : (s.advanceAll).npa = s.npa := rfl
@[simp] theorem State.advanceAll_slg (s : State) : (s.advanceAll).slg = s.slg := rfl
@[simp] theorem State.advanceAll_tsv (s : State) : (s.advanceAll).tsv = s.tsv := rfl
@[simp] theorem State.advanceAll_kvc (s : State) : (s.advanceAll).kvc = s.kvc := rfl
@[simp] theorem State.advanceAll_hrl (s : State) : (s.advanceAll).hrl = s.hrl := rfl
@[simp] theorem State.advanceAll_sup (s : State) : (s.advanceAll).sup = s.sup := rfl
@[simp] theorem State.advanceAll_par (s : State) : (s.advanceAll).par = s.par := rfl
@[simp] theorem State.advanceAll_cpx (s : State) : (s.advanceAll).cpx = s.cpx := rfl
@[simp] theorem State.advanceAll_pwr (s : State) : (s.advanceAll).pwr = s.pwr := rfl
@[simp] theorem State.advanceAll_jtag (s : State) : (s.advanceAll).jtag = s.jtag := rfl
@[simp] theorem State.advanceAll_out (s : State) : (s.advanceAll).out = s.out := rfl
@[simp] theorem State.advanceAll_freeCtr (s : State) : (s.advanceAll).freeCtr = s.freeCtr := rfl
@[simp] theorem State.advanceAll_pending (s : State) : (s.advanceAll).pending = s.pending := rfl
@[simp] theorem State.setAlarm_regs (s : State) (k : Nat) (a : Alarm) : (s.setAlarm k a).regs = s.regs := rfl
@[simp] theorem State.setAlarm_rim (s : State) (k : Nat) (a : Alarm) : (s.setAlarm k a).rim = s.rim := rfl
@[simp] theorem State.setAlarm_gnb (s : State) (k : Nat) (a : Alarm) : (s.setAlarm k a).gnb = s.gnb := rfl
@[simp] theorem State.setAlarm_rsh (s : State) (k : Nat) (a : Alarm) : (s.setAlarm k a).rsh = s.rsh := rfl
@[simp] theorem State.setAlarm_syn (s : State) (k : Nat) (a : Alarm) : (s.setAlarm k a).syn = s.syn := rfl
@[simp] theorem State.setAlarm_dsq (s : State) (k : Nat) (a : Alarm) : (s.setAlarm k a).dsq = s.dsq := rfl
@[simp] theorem State.setAlarm_npa (s : State) (k : Nat) (a : Alarm) : (s.setAlarm k a).npa = s.npa := rfl
@[simp] theorem State.setAlarm_slg (s : State) (k : Nat) (a : Alarm) : (s.setAlarm k a).slg = s.slg := rfl
@[simp] theorem State.setAlarm_tsv (s : State) (k : Nat) (a : Alarm) : (s.setAlarm k a).tsv = s.tsv := rfl
@[simp] theorem State.setAlarm_kvc (s : State) (k : Nat) (a : Alarm) : (s.setAlarm k a).kvc = s.kvc := rfl
@[simp] theorem State.setAlarm_hrl (s : State) (k : Nat) (a : Alarm) : (s.setAlarm k a).hrl = s.hrl := rfl
@[simp] theorem State.setAlarm_sup (s : State) (k : Nat) (a : Alarm) : (s.setAlarm k a).sup = s.sup := rfl
@[simp] theorem State.setAlarm_par (s : State) (k : Nat) (a : Alarm) : (s.setAlarm k a).par = s.par := rfl
@[simp] theorem State.setAlarm_cpx (s : State) (k : Nat) (a : Alarm) : (s.setAlarm k a).cpx = s.cpx := rfl
@[simp] theorem State.setAlarm_pwr (s : State) (k : Nat) (a : Alarm) : (s.setAlarm k a).pwr = s.pwr := rfl
@[simp] theorem State.setAlarm_jtag (s : State) (k : Nat) (a : Alarm) : (s.setAlarm k a).jtag = s.jtag := rfl
@[simp] theorem State.setAlarm_out (s : State) (k : Nat) (a : Alarm) : (s.setAlarm k a).out = s.out := rfl
@[simp] theorem State.setAlarm_freeCtr (s : State) (k : Nat) (a : Alarm) : (s.setAlarm k a).freeCtr = s.freeCtr := rfl
@[simp] theorem State.setAlarm_pending (s : State) (k : Nat) (a : Alarm) : (s.setAlarm k a).pending = s.pending := rfl
@[simp] theorem State.setSlgPart_regs (s : State) (p : Nat) (x : SlgPart) : (s.setSlgPart p x).regs = s.regs := rfl
@[simp] theorem State.setSlgPart_tse (s : State) (p : Nat) (x : SlgPart) : (s.setSlgPart p x).tse = s.tse := rfl
@[simp] theorem State.setSlgPart_rim (s : State) (p : Nat) (x : SlgPart) : (s.setSlgPart p x).rim = s.rim := rfl
@[simp] theorem State.setSlgPart_gnb (s : State) (p : Nat) (x : SlgPart) : (s.setSlgPart p x).gnb = s.gnb := rfl
@[simp] theorem State.setSlgPart_rsh (s : State) (p : Nat) (x : SlgPart) : (s.setSlgPart p x).rsh = s.rsh := rfl
@[simp] theorem State.setSlgPart_syn (s : State) (p : Nat) (x : SlgPart) : (s.setSlgPart p x).syn = s.syn := rfl
@[simp] theorem State.setSlgPart_dsq (s : State) (p : Nat) (x : SlgPart) : (s.setSlgPart p x).dsq = s.dsq := rfl
@[simp] theorem State.setSlgPart_npa (s : State) (p : Nat) (x : SlgPart) : (s.setSlgPart p x).npa = s.npa := rfl
@[simp] theorem State.setSlgPart_tsv (s : State) (p : Nat) (x : SlgPart) : (s.setSlgPart p x).tsv = s.tsv := rfl
@[simp] theorem State.setSlgPart_kvc (s : State) (p : Nat) (x : SlgPart) : (s.setSlgPart p x).kvc = s.kvc := rfl
@[simp] theorem State.setSlgPart_hrl (s : State) (p : Nat) (x : SlgPart) : (s.setSlgPart p x).hrl = s.hrl := rfl
@[simp] theorem State.setSlgPart_sup (s : State) (p : Nat) (x : SlgPart) : (s.setSlgPart p x).sup = s.sup := rfl
@[simp] theorem State.setSlgPart_par (s : State) (p : Nat) (x : SlgPart) : (s.setSlgPart p x).par = s.par := rfl
@[simp] theorem State.setSlgPart_cpx (s : State) (p : Nat) (x : SlgPart) : (s.setSlgPart p x).cpx = s.cpx := rfl
@[simp] theorem State.setSlgPart_pwr (s : State) (p : Nat) (x : SlgPart) : (s.setSlgPart p x).pwr = s.pwr := rfl
@[simp] theorem State.setSlgPart_jtag (s : State) (p : Nat) (x : SlgPart) : (s.setSlgPart p x).jtag = s.jtag := rfl
@[simp] theorem State.setSlgPart_out (s : State) (p : Nat) (x : SlgPart) : (s.setSlgPart p x).out = s.out := rfl
@[simp] theorem State.setSlgPart_freeCtr (s : State) (p : Nat) (x : SlgPart) : (s.setSlgPart p x).freeCtr = s.freeCtr := rfl
@[simp] theorem State.setSlgPart_pending (s : State) (p : Nat) (x : SlgPart) : (s.setSlgPart p x).pending = s.pending := rfl
@[simp] theorem State.setHrl_regs (s : State) (h : Hrl) : (s.setHrl h).regs = s.regs := rfl
@[simp] theorem State.setHrl_tse (s : State) (h : Hrl) : (s.setHrl h).tse = s.tse := rfl
@[simp] theorem State.setHrl_rim (s : State) (h : Hrl) : (s.setHrl h).rim = s.rim := rfl
@[simp] theorem State.setHrl_gnb (s : State) (h : Hrl) : (s.setHrl h).gnb = s.gnb := rfl
@[simp] theorem State.setHrl_rsh (s : State) (h : Hrl) : (s.setHrl h).rsh = s.rsh := rfl
@[simp] theorem State.setHrl_syn (s : State) (h : Hrl) : (s.setHrl h).syn = s.syn := rfl
@[simp] theorem State.setHrl_dsq (s : State) (h : Hrl) : (s.setHrl h).dsq = s.dsq := rfl
@[simp] theorem State.setHrl_npa (s : State) (h : Hrl) : (s.setHrl h).npa = s.npa := rfl
@[simp] theorem State.setHrl_slg (s : State) (h : Hrl) : (s.setHrl h).slg = s.slg := rfl
@[simp] theorem State.setHrl_tsv (s : State) (h : Hrl) : (s.setHrl h).tsv = s.tsv := rfl
@[simp] theorem State.setHrl_kvc (s : State) (h : Hrl) : (s.setHrl h).kvc = s.kvc := rfl
@[simp] theorem State.setHrl_sup (s : State) (h : Hrl) : (s.setHrl h).sup = s.sup := rfl
@[simp] theorem State.setHrl_par (s : State) (h : Hrl) : (s.setHrl h).par = s.par := rfl
@[simp] theorem State.setHrl_cpx (s : State) (h : Hrl) : (s.setHrl h).cpx = s.cpx := rfl
@[simp] theorem State.setHrl_pwr (s : State) (h : Hrl) : (s.setHrl h).pwr = s.pwr := rfl
@[simp] theorem State.setHrl_jtag (s : State) (h : Hrl) : (s.setHrl h).jtag = s.jtag := rfl
@[simp] theorem State.setHrl_out (s : State) (h : Hrl) : (s.setHrl h).out = s.out := rfl
@[simp] theorem State.setHrl_freeCtr (s : State) (h : Hrl) : (s.setHrl h).freeCtr = s.freeCtr := rfl
@[simp] theorem State.setHrl_pending (s : State) (h : Hrl) : (s.setHrl h).pending = s.pending := rfl
@[simp] theorem State.put_tse (s : State) (f : Field) (v : Nat) (i j : Nat) : (s.put f v i j).tse = s.tse := rfl
@[simp] theorem State.put_rim (s : State) (f : Field) (v : Nat) (i j : Nat) : (s.put f v i j).rim = s.rim := rfl
@[simp] theorem State.put_gnb (s : State) (f : Field) (v : Nat) (i j : Nat) : (s.put f v i j).gnb = s.gnb := rfl
@[simp] theorem State.put_rsh (s : State) (f : Field) (v : Nat) (i j : Nat) : (s.put f v i j).rsh = s.rsh := rfl
@[simp] theorem State.put_syn (s : State) (f : Field) (v : Nat) (i j : Nat) : (s.put f v i j).syn = s.syn := rfl
@[simp] theorem State.put_dsq (s : State) (f : Field) (v : Nat) (i j : Nat) : (s.put f v i j).dsq = s.dsq := rfl
@[simp] theorem State.put_npa (s : State) (f : Field) (v : Nat) (i j : Nat) : (s.put f v i j).npa = s.npa := rfl
@[simp] theorem State.put_slg (s : State) (f : Field) (v : Nat) (i j : Nat) : (s.put f v i j).slg = s.slg := rfl
@[simp] theorem State.put_tsv (s : State) (f : Field) (v : Nat) (i j : Nat) : (s.put f v i j).tsv = s.tsv := rfl
@[simp] theorem State.put_kvc (s : State) (f : Field) (v : Nat) (i j : Nat) : (s.put f v i j).kvc = s.kvc := rfl
@[simp] theorem State.put_hrl (s : State) (f : Field) (v : Nat) (i j : Nat) : (s.put f v i j).hrl = s.hrl := rfl
@[simp] theorem State.put_sup (s : State) (f : Field) (v : Nat) (i j : Nat) : (s.put f v i j).sup = s.sup := rfl
@[simp] theorem State.put_par (s : State) (f : Field) (v : Nat) (i j : Nat) : (s.put f v i j).par = s.par := rfl
@[simp] theorem State.put_cpx (s : State) (f : Field) (v : Nat) (i j : Nat) : (s.put f v i j).cpx = s.cpx := rfl
@[simp] theorem State.put_pwr (s : State) (f : Field) (v : Nat) (i j : Nat) : (s.put f v i j).pwr = s.pwr := rfl
@[simp] theorem State.put_jtag (s : State) (f : Field) (v : Nat) (i j : Nat) : (s.put f v i j).jtag = s.jtag := rfl
@[simp] theorem State.put_out (s : State) (f : Field) (v : Nat) (i j : Nat) : (s.put f v i j).out = s.out := rfl
@[simp] theorem State.put_freeCtr (s : State) (f : Field) (v : Nat) (i j : Nat) : (s.put f v i j).freeCtr = s.freeCtr := rfl
@[simp] theorem State.put_pending (s : State) (f : Field) (v : Nat) (i j : Nat) : (s.put f v i j).pending = s.pending := rfl
@[simp] theorem State.putB_tse (s : State) (f : Field) (b : Bool) (i j : Nat) : (s.putB f b i j).tse = s.tse := rfl
@[simp] theorem State.putB_rim (s : State) (f : Field) (b : Bool) (i j : Nat) : (s.putB f b i j).rim = s.rim := rfl
@[simp] theorem State.putB_gnb (s : State) (f : Field) (b : Bool) (i j : Nat) : (s.putB f b i j).gnb = s.gnb := rfl
@[simp] theorem State.putB_rsh (s : State) (f : Field) (b : Bool) (i j : Nat) : (s.putB f b i j).rsh = s.rsh := rfl
@[simp] theorem State.putB_syn (s : State) (f : Field) (b : Bool) (i j : Nat) : (s.putB f b i j).syn = s.syn := rfl
@[simp] theorem State.putB_dsq (s : State) (f : Field) (b : Bool) (i j : Nat) : (s.putB f b i j).dsq = s.dsq := rfl
@[simp] theorem State.putB_npa (s : State) (f : Field) (b : Bool) (i j : Nat) : (s.putB f b i j).npa = s.npa := rfl
@[simp] theorem State.putB_slg (s : State) (f : Field) (b : Bool) (i j : Nat) : (s.putB f b i j).slg = s.slg := rfl
@[simp] theorem State.putB_tsv (s : State) (f : Field) (b : Bool) (i j : Nat) : (s.putB f b i j).tsv = s.tsv := rfl
@[simp] theorem State.putB_kvc (s : State) (f : Field) (b : Bool) (i j : Nat) : (s.putB f b i j).kvc = s.kvc := rfl
@[simp] theorem State.putB_hrl (s : State) (f : Field) (b : Bool) (i j : Nat) : (s.putB f b i j).hrl = s.hrl := rfl
@[simp] theorem State.putB_sup (s : State) (f : Field) (b : Bool) (i j : Nat) : (s.putB f b i j).sup = s.sup := rfl
@[simp] theorem State.putB_par (s : State) (f : Field) (b : Bool) (i j : Nat) : (s.putB f b i j).par = s.par := rfl
@[simp] theorem State.putB_cpx (s : State) (f : Field) (b : Bool) (i j : Nat) : (s.putB f b i j).cpx = s.cpx := rfl
@[simp] theorem State.putB_pwr (s : State) (f : Field) (b : Bool) (i j : Nat) : (s.putB f b i j).pwr = s.pwr := rfl
@[simp] theorem State.putB_jtag (s : State) (f : Field) (b : Bool) (i j : Nat) : (s.putB f b i j).jtag = s.jtag := rfl
@[simp] theorem State.putB_out (s : State) (f : Field) (b : Bool) (i j : Nat) : (s.putB f b i j).out = s.out := rfl
@[simp] theorem State.putB_freeCtr (s : State) (f : Field) (b : Bool) (i j : Nat) : (s.putB f b i j).freeCtr = s.freeCtr := rfl
@[simp] theorem State.putB_pending (s : State) (f : Field) (b : Bool) (i j : Nat) : (s.putB f b i j).pending = s.pending := rfl
@[simp] theorem State.putI_tse (s : State) (f : Field) (x : Int) (i j : Nat) : (s.putI f x i j).tse = s.tse := rfl
@[simp] theorem State.putI_rim (s : State) (f : Field) (x : Int) (i j : Nat) : (s.putI f x i j).rim = s.rim := rfl
@[simp] theorem State.putI_gnb (s : State) (f : Field) (x : Int) (i j : Nat) : (s.putI f x i j).gnb = s.gnb := rfl
@[simp] theorem State.putI_rsh (s : State) (f : Field) (x : Int) (i j : Nat) : (s.putI f x i j).rsh = s.rsh := rfl
@[simp] theorem State.putI_syn (s : State) (f : Field) (x : Int) (i j : Nat) : (s.putI f x i j).syn = s.syn := rfl
@[simp] theorem State.putI_dsq (s : State) (f : Field) (x : Int) (i j : Nat) : (s.putI f x i j).dsq = s.dsq := rfl
@[simp] theorem State.putI_npa (s : State) (f : Field) (x : Int) (i j : Nat) : (s.putI f x i j).npa = s.npa := rfl
@[simp] theorem State.putI_slg (s : State) (f : Field) (x : Int) (i j : Nat) : (s.putI f x i j).slg = s.slg := rfl
@[simp] theorem State.putI_tsv (s : State) (f : Field) (x : Int) (i j : Nat) : (s.putI f x i j).tsv = s.tsv := rfl
@[simp] theorem State.putI_kvc (s : State) (f : Field) (x : Int) (i j : Nat) : (s.putI f x i j).kvc = s.kvc := rfl
@[simp] theorem State.putI_hrl (s : State) (f : Field) (x : Int) (i j : Nat) : (s.putI f x i j).hrl = s.hrl := rfl
@[simp] theorem State.putI_sup (s : State) (f : Field) (x : Int) (i j : Nat) : (s.putI f x i j).sup = s.sup := rfl
@[simp] theorem State.putI_par (s : State) (f : Field) (x : Int) (i j : Nat) : (s.putI f x i j).par = s.par := rfl
@[simp] theorem State.putI_cpx (s : State) (f : Field) (x : Int) (i j : Nat) : (s.putI f x i j).cpx = s.cpx := rfl
@[simp] theorem State.putI_pwr (s : State) (f : Field) (x : Int) (i j : Nat) : (s.putI f x i j).pwr = s.pwr := rfl
@[simp] theorem State.putI_jtag (s : State) (f : Field) (x : Int) (i j : Nat) : (s.putI f x i j).jtag = s.jtag := rfl
@[simp] theorem State.putI_out (s : State) (f : Field) (x : Int) (i j : Nat) : (s.putI f x i j).out = s.out := rfl
@[simp] theorem State.putI_freeCtr (s : State) (f : Field) (x : Int) (i j : Nat) : (s.putI f x i j).freeCtr = s.freeCtr := rfl
@[simp] theorem State.putI_pending (s : State) (f : Field) (x : Int) (i j : Nat) : (s.putI f x i j).pending = s.pending := rfl
@[simp] theorem State.bump_tse (s : State) (f : Field) (n : Nat) (i j : Nat) : (s.bump f n i j).tse = s.tse := rfl
@[simp] theorem State.bump_rim (s : State) (f : Field) (n : Nat) (i j : Nat) : (s.bump f n i j).rim = s.rim := rfl
@[simp] theorem State.bump_gnb (s : State) (f : Field) (n : Nat) (i j : Nat) : (s.bump f n i j).gnb = s.gnb := rfl
@[simp] theorem State.bump_rsh (s : State) (f : Field) (n : Nat) (i j : Nat) : (s.bump f n i j).rsh = s.rsh := rfl
@[simp] theorem State.bump_syn (s : State) (f : Field) (n : Nat) (i j : Nat) : (s.bump f n i j).syn = s.syn := rfl
@[simp] theorem State.bump_dsq (s : State) (f : Field) (n : Nat) (i j : Nat) : (s.bump f n i j).dsq = s.dsq := rfl
@[simp] theorem State.bump_npa (s : State) (f : Field) (n : Nat) (i j : Nat) : (s.bump f n i j).npa = s.npa := rfl
@[simp] theorem State.bump_slg (s : State) (f : Field) (n : Nat) (i j : Nat) : (s.bump f n i j).slg = s.slg := rfl
@[simp] theorem State.bump_tsv (s : State) (f : Field) (n : Nat) (i j : Nat) : (s.bump f n i j).tsv = s.tsv := rfl
@[simp] theorem State.bump_kvc (s : State) (f : Field) (n : Nat) (i j : Nat) : (s.bump f n i j).kvc = s.kvc := rfl
@[simp] theorem State.bump_hrl (s : State) (f : Field) (n : Nat) (i j : Nat) : (s.bump f n i j).hrl = s.hrl := rfl
@[simp] theorem State.bump_sup (s : State) (f : Field) (n : Nat) (i j : Nat) : (s.bump f n i j).sup = s.sup := rfl
@[simp] theorem State.bump_par (s : State) (f : Field) (n : Nat) (i j : Nat) : (s.bump f n i j).par = s.par := rfl
@[simp] theorem State.bump_cpx (s : State) (f : Field) (n : Nat) (i j : Nat) : (s.bump f n i j).cpx = s.cpx := rfl
@[simp] theorem State.bump_pwr (s : State) (f : Field) (n : Nat) (i j : Nat) : (s.bump f n i j).pwr = s.pwr := rfl
@[simp] theorem State.bump_jtag (s : State) (f : Field) (n : Nat) (i j : Nat) : (s.bump f n i j).jtag = s.jtag := rfl
@[simp] theorem State.bump_out (s : State) (f : Field) (n : Nat) (i j : Nat) : (s.bump f n i j).out = s.out := rfl
@[simp] theorem State.bump_freeCtr (s : State) (f : Field) (n : Nat) (i j : Nat) : (s.bump f n i j).freeCtr = s.freeCtr := rfl
@[simp] theorem State.bump_pending (s : State) (f : Field) (n : Nat) (i j : Nat) : (s.bump f n i j).pending = s.pending := rfl
@[simp] theorem State.wrap_tse (s : State) (f : Field) (n : Nat) (i j : Nat) : (s.wrap f n i j).tse = s.tse := rfl
@[simp] theorem State.wrap_rim (s : State) (f : Field) (n : Nat) (i j : Nat) : (s.wrap f n i j).rim = s.rim := rfl
@[simp] theorem State.wrap_gnb (s : State) (f : Field) (n : Nat) (i j : Nat) : (s.wrap f n i j).gnb = s.gnb := rfl
@[simp] theorem State.wrap_rsh (s : State) (f : Field) (n : Nat) (i j : Nat) : (s.wrap f n i j).rsh = s.rsh := rfl
@[simp] theorem State.wrap_syn (s : State) (f : Field) (n : Nat) (i j : Nat) : (s.wrap f n i j).syn = s.syn := rfl
@[simp] theorem State.wrap_dsq (s : State) (f : Field) (n : Nat) (i j : Nat) : (s.wrap f n i j).dsq = s.dsq := rfl
@[simp] theorem State.wrap_npa (s : State) (f : Field) (n : Nat) (i j : Nat) : (s.wrap f n i j).npa = s.npa := rfl
@[simp] theorem State.wrap_slg (s : State) (f : Field) (n : Nat) (i j : Nat) : (s.wrap f n i j).slg = s.slg := rfl
@[simp] theorem State.wrap_tsv (s : State) (f : Field) (n : Nat) (i j : Nat) : (s.wrap f n i j).tsv = s.tsv := rfl
@[simp] theorem State.wrap_kvc (s : State) (f : Field) (n : Nat) (i j : Nat) : (s.wrap f n i j).kvc = s.kvc := rfl
@[simp] theorem State.wrap_hrl (s : State) (f : Field) (n : Nat) (i j : Nat) : (s.wrap f n i j).hrl = s.hrl := rfl
@[simp] theorem State.wrap_sup (s : State) (f : Field) (n : Nat) (i j : Nat) : (s.wrap f n i j).sup = s.sup := rfl
@[simp] theorem State.wrap_par (s : State) (f : Field) (n : Nat) (i j : Nat) : (s.wrap f n i j).par = s.par := rfl
@[simp] theorem State.wrap_cpx (s : State) (f : Field) (n : Nat) (i j : Nat) : (s.wrap f n i j).cpx = s.cpx := rfl
@[simp] theorem State.wrap_pwr (s : State) (f : Field) (n : Nat) (i j : Nat) : (s.wrap f n i j).pwr = s.pwr := rfl
@[simp] theorem State.wrap_jtag (s : State) (f : Field) (n : Nat) (i j : Nat) : (s.wrap f n i j).jtag = s.jtag := rfl
@[simp] theorem State.wrap_out (s : State) (f : Field) (n : Nat) (i j : Nat) : (s.wrap f n i j).out = s.out := rfl
@[simp] theorem State.wrap_freeCtr (s : State) (f : Field) (n : Nat) (i j : Nat) : (s.wrap f n i j).freeCtr = s.freeCtr := rfl
@[simp] theorem State.wrap_pending (s : State) (f : Field) (n : Nat) (i j : Nat) : (s.wrap f n i j).pending = s.pending := rfl
@[simp] theorem State.setDword_regs (s : State) (addr : Nat) (w : Word) : (s.setDword addr w).regs = s.regs := rfl
@[simp] theorem State.setDword_tse (s : State) (addr : Nat) (w : Word) : (s.setDword addr w).tse = s.tse := rfl
@[simp] theorem State.setDword_rim (s : State) (addr : Nat) (w : Word) : (s.setDword addr w).rim = s.rim := rfl
@[simp] theorem State.setDword_gnb (s : State) (addr : Nat) (w : Word) : (s.setDword addr w).gnb = s.gnb := rfl
@[simp] theorem State.setDword_rsh (s : State) (addr : Nat) (w : Word) : (s.setDword addr w).rsh = s.rsh := rfl
@[simp] theorem State.setDword_syn (s : State) (addr : Nat) (w : Word) : (s.setDword addr w).syn = s.syn := rfl
@[simp] theorem State.setDword_npa (s : State) (addr : Nat) (w : Word) : (s.setDword addr w).npa = s.npa := rfl
@[simp] theorem State.setDword_slg (s : State) (addr : Nat) (w : Word) : (s.setDword addr w).slg = s.slg := rfl
@[simp] theorem State.setDword_tsv (s : State) (addr : Nat) (w : Word) : (s.setDword addr w).tsv = s.tsv := rfl
@[simp] theorem State.setDword_kvc (s : State) (addr : Nat) (w : Word) : (s.setDword addr w).kvc = s.kvc := rfl
@[simp] theorem State.setDword_hrl (s : State) (addr : Nat) (w : Word) : (s.setDword addr w).hrl = s.hrl := rfl
@[simp] theorem State.setDword_sup (s : State) (addr : Nat) (w : Word) : (s.setDword addr w).sup = s.sup := rfl
@[simp] theorem State.setDword_par (s : State) (addr : Nat) (w : Word) : (s.setDword addr w).par = s.par := rfl
@[simp] theorem State.setDword_cpx (s : State) (addr : Nat) (w : Word) : (s.setDword addr w).cpx = s.cpx := rfl
@[simp] theorem State.setDword_pwr (s : State) (addr : Nat) (w : Word) : (s.setDword addr w).pwr = s.pwr := rfl
@[simp] theorem State.setDword_jtag (s : State) (addr : Nat) (w : Word) : (s.setDword addr w).jtag = s.jtag := rfl
@[simp] theorem State.setDword_out (s : State) (addr : Nat) (w : Word) : (s.setDword addr w).out = s.out := rfl
@[simp] theorem State.setDword_freeCtr (s : State) (addr : Nat) (w : Word) : (s.setDword addr w).freeCtr = s.freeCtr := rfl
@[simp] theorem State.setDword_pending (s : State) (addr : Nat) (w : Word) : (s.setDword addr w).pending = s.pending := rfl
@[simp] theorem State.outFollow_regs (s : State) (o : Nat) : (s.outFollow o).regs = s.regs := by unfold State.outFollow; dsimp only; split <;> rfl
@[simp] theorem State.outFollow_tse (s : State) (o : Nat) : (s.outFollow o).tse = s.tse := by unfold State.outFollow; dsimp only; split <;> rfl
@[simp] theorem State.outFollow_rim (s : State) (o : Nat) : (s.outFollow o).rim = s.rim := by unfold State.outFollow; dsimp only; split <;> rfl
@[simp] theorem State.outFollow_gnb (s : State) (o : Nat) : (s.outFollow o).gnb = s.gnb := by unfold State.outFollow; dsimp only; split <;> rfl
@[simp] theorem State.outFollow_rsh (s : State) (o : Nat) : (s.outFollow o).rsh = s.rsh := by unfold State.outFollow; dsimp only; split <;> rfl
@[simp] theorem State.outFollow_dsq (s : State) (o : Nat) : (s.outFollow o).dsq = s.dsq := by unfold State.outFollow; dsimp only; split <;> rfl
@[simp] theorem State.outFollow_npa (s : State) (o : Nat) : (s.outFollow o).npa = s.npa := by unfold State.outFollow; dsimp only; split <;> rfl
@[simp] theorem State.outFollow_slg (s : State) (o : Nat) : (s.outFollow o).slg = s.slg := by unfold State.outFollow; dsimp only; split <;> rfl
@[simp] theorem State.outFollow_tsv (s : State) (o : Nat) : (s.outFollow o).tsv = s.tsv := by unfold State.outFollow; dsimp only; split <;> rfl
@[simp] theorem State.outFollow_kvc (s : State) (o : Nat) : (s.outFollow o).kvc = s.kvc := by unfold State.outFollow; dsimp only; split <;> rfl
@[simp] theorem State.outFollow_hrl (s : State) (o : Nat) : (s.outFollow o).hrl = s.hrl := by unfold State.outFollow; dsimp only; split <;> rfl
@[simp] theorem State.outFollow_sup (s : State) (o : Nat) : (s.outFollow o).sup = s.sup := by unfold State.outFollow; dsimp only; split <;> rfl
@[simp] theorem State.outFollow_par (s : State) (o : Nat) : (s.outFollow o).par = s.par := by unfold State.outFollow; dsimp only; split <;> rfl
@[simp] theorem State.outFollow_cpx (s : State) (o : Nat) : (s.outFollow o).cpx = s.cpx := by unfold State.outFollow; dsimp only; split <;> rfl
@[simp] theorem State.outFollow_pwr (s : State) (o : Nat) : (s.outFollow o).pwr = s.pwr := by unfold State.outFollow; dsimp only; split <;> rfl
@[simp] theorem State.outFollow_jtag (s : State) (o : Nat) : (s.outFollow o).jtag = s.jtag := by unfold State.outFollow; dsimp only; split <;> rfl
@[simp] theorem State.outFollow_out (s : State) (o : Nat) : (s.outFollow o).out = s.out := by unfold State.outFollow; dsimp only; split <;> rfl
@[simp] theorem State.outFollow_freeCtr (s : State) (o : Nat) : (s.outFollow o).freeCtr = s.freeCtr := by unfold State.outFollow; dsimp only; split <;> rfl
@[simp] theorem State.outFollow_pending (s : State) (o : Nat) : (s.outFollow o).pending = s.pending := by unfold State.outFollow; dsimp only; split <;> rfl
@[simp] theorem State.takeOut_regs (s : State) (o : Nat) : (s.takeOut o).regs = s.regs := by simp [State.takeOut]
@[simp] theorem State.takeOut_tse (s : State) (o : Nat) : (s.takeOut o).tse = s.tse := by simp [State.takeOut]
@[simp] theorem State.takeOut_rim (s : State) (o : Nat) : (s.takeOut o).rim = s.rim := by simp [State.takeOut]
@[simp] theorem State.takeOut_gnb (s : State) (o : Nat) : (s.takeOut o).gnb = s.gnb := by simp [State.takeOut]
@[simp] theorem State.takeOut_rsh (s : State) (o : Nat) : (s.takeOut o).rsh = s.rsh := by simp [State.takeOut]
@[simp] theorem State.takeOut_dsq (s : State) (o : Nat) : (s.takeOut o).dsq = s.dsq := by simp [State.takeOut]
@[simp] theorem State.takeOut_npa (s : State) (o : Nat) : (s.takeOut o).npa = s.npa := by simp [State.takeOut]
@[simp] theorem State.takeOut_slg (s : State) (o : Nat) : (s.takeOut o).slg = s.slg := by simp [State.takeOut]
@[simp] theorem State.takeOut_tsv (s : State) (o : Nat) : (s.takeOut o).tsv = s.tsv := by simp [State.takeOut]
@[simp] theorem State.takeOut_kvc (s : State) (o : Nat) : (s.takeOut o).kvc = s.kvc := by simp [State.takeOut]
@[simp] theorem State.takeOut_hrl (s : State) (o : Nat) : (s.takeOut o).hrl = s.hrl := by simp [State.takeOut]
@[simp] theorem State.takeOut_sup (s : State) (o : Nat) : (s.takeOut o).sup = s.sup := by simp [State.takeOut]
@[simp] theorem State.takeOut_par (s : State) (o : Nat) : (s.takeOut o).par = s.par := by simp [State.takeOut]
@[simp] theorem State.takeOut_cpx (s : State) (o : Nat) : (s.takeOut o).cpx = s.cpx := by simp [State.takeOut]
@[simp] theorem State.takeOut_pwr (s : State) (o : Nat) : (s.takeOut o).pwr = s.pwr := by simp [State.takeOut]
@[simp] theorem State.takeOut_jtag (s : State) (o : Nat) : (s.takeOut o).jtag = s.jtag := by simp [State.takeOut]
@[simp] theorem State.takeOut_out (s : State) (o : Nat) : (s.takeOut o).out = s.out := by simp [State.takeOut]
@[simp] theorem State.takeOut_freeCtr (s : State) (o : Nat) : (s.takeOut o).freeCtr = s.freeCtr := by simp [State.takeOut]
@[simp] theorem State.takeOut_pending (s : State) (o : Nat) : (s.takeOut o).pending = s.pending := by simp [State.takeOut]

end Sys2Proof.Machine
end

