-- ==== Sys2Proof/Laws/Ops.lean ====
section
/-! SUPPORT. The shared operations: what a read of a register gives after a write, what each operation leaves alone, and how a
command is judged. -/
namespace Sys2Proof.Machine

/-! ### Registers -/

/-- A register read after it was written. -/
theorem State.rd_wr_same (s : State) (r : RegId) (w : Word) (i j : Nat) :
    (s.wr r w i j).rd r i j = w := by
  simp only [State.rd, State.wr, tabGet_tabSet_same, BitVec.xor_assoc, BitVec.xor_self, BitVec.xor_zero]

/-- A register at another address is not changed. -/
theorem State.rd_wr_ne (s : State) (r r' : RegId) (w : Word) (i j i' j' : Nat) (h : regAddr r' i' j' ≠ regAddr r i j) :
    (s.wr r w i j).rd r' i' j' = s.rd r' i' j' := by
  simp only [State.rd, State.wr, tabGet_tabSet_ne _ _ _ h]

/-- A field read after it was written. -/
theorem State.get_put_same (s : State) (f : Field) (v i j : Nat) (hf : f.hi < 64)
    (hl : f.lo ≤ f.hi) : (s.put f v i j).get f i j = v % 2 ^ (f.hi - f.lo + 1) := by
  simp only [State.get, State.put, State.rd_wr_same, bitsOf_setBits_same _ _ _ _ hf hl]

/-- A field of a register at another address is not changed. -/
theorem State.get_put_ne (s : State) (f g : Field) (v i j i' j' : Nat) (h : regAddr g.reg i' j' ≠ regAddr f.reg i j) :
    (s.put f v i j).get g i' j' = s.get g i' j' := by
  simp only [State.get, State.put, State.rd_wr_ne _ _ _ _ _ _ _ _ h]

/-- Another field of the same register is not changed. -/
theorem State.get_put_other (s : State) (f g : Field) (v i j : Nat) (hr : g.reg = f.reg)
    (hf : f.hi < 64) (hg : g.hi < 64) (hl : f.lo ≤ f.hi)
    (hm : g.lo ≤ g.hi) (hd : g.hi < f.lo ∨ f.hi < g.lo) :
    (s.put f v i j).get g i j = s.get g i j := by
  simp only [State.get, State.put, hr, State.rd_wr_same, bitsOf_setBits_ne _ _ _ _ _ _ hf hg hl hm hd]

/-- A flag read after it was written. -/
theorem State.getB_putB_same (s : State) (f : Field) (b : Bool) (i j : Nat) (hf : f.hi < 64)
    (hl : f.lo = f.hi) : (s.putB f b i j).getB f i j = b := by
  unfold State.putB State.getB
  rw [State.get_put_same _ _ _ _ _ hf (by omega), hl]; cases b <;> simp

/-- Another flag of the same register is not changed. -/
theorem State.getB_put_other (s : State) (f g : Field) (v i j : Nat) (hr : g.reg = f.reg)
    (hf : f.hi < 64) (hg : g.hi < 64) (hl : f.lo ≤ f.hi) (hm : g.lo ≤ g.hi) (hd : g.hi < f.lo ∨ f.hi < g.lo) :
    (s.put f v i j).getB g i j = s.getB g i j := by
  unfold State.getB
  rw [State.get_put_other _ _ _ _ _ _ hr hf hg hl hm hd]

theorem State.getB_putB_other (s : State) (f g : Field) (b : Bool) (i j : Nat)
    (hr : g.reg = f.reg) (hf : f.hi < 64) (hg : g.hi < 64) (hl : f.lo ≤ f.hi) (hm : g.lo ≤ g.hi)
    (hd : g.hi < f.lo ∨ f.hi < g.lo) : (s.putB f b i j).getB g i j = s.getB g i j :=
  State.getB_put_other _ _ _ _ _ _ hr hf hg hl hm hd

/-- A flag of a register at another address is not changed. -/
theorem State.getB_put_ne (s : State) (f g : Field) (v i j i' j' : Nat) (h : regAddr g.reg i' j' ≠ regAddr f.reg i j) :
    (s.put f v i j).getB g i' j' = s.getB g i' j' := by
  simp only [State.getB, State.get_put_ne _ _ _ _ _ _ _ _ h]

/-- What a register reads as depends on the register file alone. -/
theorem State.rd_congr {s t : State} (h : s.regs = t.regs) (r : RegId) (i j : Nat) : s.rd r i j = t.rd r i j := by
  simp only [State.rd, h]
theorem State.get_congr {s t : State} (h : s.regs = t.regs) (f : Field) (i j : Nat) : s.get f i j = t.get f i j := by
  simp only [State.get, State.rd_congr h]
theorem State.getB_congr {s t : State} (h : s.regs = t.regs) (f : Field) (i j : Nat) : s.getB f i j = t.getB f i j := by
  simp only [State.getB, State.get_congr h]

/-- A write of a register keeps the register file in canonical form. -/
theorem State.regsWf_wr (s : State) (r : RegId) (w : Word) (i j : Nat) (h : tabWf 0 s.regs = true) :
    tabWf 0 (s.wr r w i j).regs = true := tabWf_tabSet _ _ _ _ h

/-! ### What the shared operations leave alone -/

theorem State.regsWf_put (s : State) (f : Field) (v i j : Nat) (h : tabWf 0 s.regs = true) : tabWf 0 (s.put f v i j).regs = true := tabWf_tabSet _ _ _ _ h
theorem State.regsWf_putB (s : State) (f : Field) (b : Bool) (i j : Nat) (h : tabWf 0 s.regs = true) : tabWf 0 (s.putB f b i j).regs = true := tabWf_tabSet _ _ _ _ h
theorem State.regsWf_putI (s : State) (f : Field) (x : Int) (i j : Nat) (h : tabWf 0 s.regs = true) : tabWf 0 (s.putI f x i j).regs = true := tabWf_tabSet _ _ _ _ h
theorem State.regsWf_bump (s : State) (f : Field) (v i j : Nat) (h : tabWf 0 s.regs = true) : tabWf 0 (s.bump f v i j).regs = true := tabWf_tabSet _ _ _ _ h
theorem State.regsWf_wrap (s : State) (f : Field) (v i j : Nat) (h : tabWf 0 s.regs = true) : tabWf 0 (s.wrap f v i j).regs = true := tabWf_tabSet _ _ _ _ h


@[simp] theorem State.log_tse (s : State) (block inst code part sev : Nat) (data : List Byte) : (s.log block inst code part sev data).tse = s.tse := by unfold State.log; split <;> rfl
@[simp] theorem State.log_rim (s : State) (block inst code part sev : Nat) (data : List Byte) : (s.log block inst code part sev data).rim = s.rim := by unfold State.log; split <;> rfl
@[simp] theorem State.log_gnb (s : State) (block inst code part sev : Nat) (data : List Byte) : (s.log block inst code part sev data).gnb = s.gnb := by unfold State.log; split <;> rfl
@[simp] theorem State.log_rsh (s : State) (block inst code part sev : Nat) (data : List Byte) : (s.log block inst code part sev data).rsh = s.rsh := by unfold State.log; split <;> rfl
@[simp] theorem State.log_syn (s : State) (block inst code part sev : Nat) (data : List Byte) : (s.log block inst code part sev data).syn = s.syn := by unfold State.log; split <;> rfl
@[simp] theorem State.log_dsq (s : State) (block inst code part sev : Nat) (data : List Byte) : (s.log block inst code part sev data).dsq = s.dsq := by unfold State.log; split <;> rfl
@[simp] theorem State.log_npa (s : State) (block inst code part sev : Nat) (data : List Byte) : (s.log block inst code part sev data).npa = s.npa := by unfold State.log; split <;> rfl
@[simp] theorem State.log_slg (s : State) (block inst code part sev : Nat) (data : List Byte) : (s.log block inst code part sev data).slg = s.slg := by unfold State.log; split <;> rfl
@[simp] theorem State.log_tsv (s : State) (block inst code part sev : Nat) (data : List Byte) : (s.log block inst code part sev data).tsv = s.tsv := by unfold State.log; split <;> rfl
@[simp] theorem State.log_kvc (s : State) (block inst code part sev : Nat) (data : List Byte) : (s.log block inst code part sev data).kvc = s.kvc := by unfold State.log; split <;> rfl
@[simp] theorem State.log_hrl (s : State) (block inst code part sev : Nat) (data : List Byte) : (s.log block inst code part sev data).hrl = s.hrl := by unfold State.log; split <;> rfl
@[simp] theorem State.log_par (s : State) (block inst code part sev : Nat) (data : List Byte) : (s.log block inst code part sev data).par = s.par := by unfold State.log; split <;> rfl
@[simp] theorem State.log_cpx (s : State) (block inst code part sev : Nat) (data : List Byte) : (s.log block inst code part sev data).cpx = s.cpx := by unfold State.log; split <;> rfl
@[simp] theorem State.log_pwr (s : State) (block inst code part sev : Nat) (data : List Byte) : (s.log block inst code part sev data).pwr = s.pwr := by unfold State.log; split <;> rfl
@[simp] theorem State.log_jtag (s : State) (block inst code part sev : Nat) (data : List Byte) : (s.log block inst code part sev data).jtag = s.jtag := by unfold State.log; split <;> rfl
@[simp] theorem State.log_out (s : State) (block inst code part sev : Nat) (data : List Byte) : (s.log block inst code part sev data).out = s.out := by unfold State.log; split <;> rfl
@[simp] theorem State.log_freeCtr (s : State) (block inst code part sev : Nat) (data : List Byte) : (s.log block inst code part sev data).freeCtr = s.freeCtr := by unfold State.log; split <;> rfl
@[simp] theorem State.log_pending (s : State) (block inst code part sev : Nat) (data : List Byte) : (s.log block inst code part sev data).pending = s.pending := by unfold State.log; split <;> rfl

@[simp] theorem State.msix_regs (s : State) (f v : Nat) : (s.msix f v).regs = s.regs := by unfold State.msix; dsimp only; split <;> (try split) <;> rfl
@[simp] theorem State.msix_tse (s : State) (f v : Nat) : (s.msix f v).tse = s.tse := by unfold State.msix; dsimp only; split <;> (try split) <;> rfl
@[simp] theorem State.msix_rim (s : State) (f v : Nat) : (s.msix f v).rim = s.rim := by unfold State.msix; dsimp only; split <;> (try split) <;> rfl
@[simp] theorem State.msix_gnb (s : State) (f v : Nat) : (s.msix f v).gnb = s.gnb := by unfold State.msix; dsimp only; split <;> (try split) <;> rfl
@[simp] theorem State.msix_rsh (s : State) (f v : Nat) : (s.msix f v).rsh = s.rsh := by unfold State.msix; dsimp only; split <;> (try split) <;> rfl
@[simp] theorem State.msix_syn (s : State) (f v : Nat) : (s.msix f v).syn = s.syn := by unfold State.msix; dsimp only; split <;> (try split) <;> rfl
@[simp] theorem State.msix_dsq (s : State) (f v : Nat) : (s.msix f v).dsq = s.dsq := by unfold State.msix; dsimp only; split <;> (try split) <;> rfl
@[simp] theorem State.msix_npa (s : State) (f v : Nat) : (s.msix f v).npa = s.npa := by unfold State.msix; dsimp only; split <;> (try split) <;> rfl
@[simp] theorem State.msix_slg (s : State) (f v : Nat) : (s.msix f v).slg = s.slg := by unfold State.msix; dsimp only; split <;> (try split) <;> rfl
@[simp] theorem State.msix_tsv (s : State) (f v : Nat) : (s.msix f v).tsv = s.tsv := by unfold State.msix; dsimp only; split <;> (try split) <;> rfl
@[simp] theorem State.msix_kvc (s : State) (f v : Nat) : (s.msix f v).kvc = s.kvc := by unfold State.msix; dsimp only; split <;> (try split) <;> rfl
@[simp] theorem State.msix_hrl (s : State) (f v : Nat) : (s.msix f v).hrl = s.hrl := by unfold State.msix; dsimp only; split <;> (try split) <;> rfl
@[simp] theorem State.msix_sup (s : State) (f v : Nat) : (s.msix f v).sup = s.sup := by unfold State.msix; dsimp only; split <;> (try split) <;> rfl
@[simp] theorem State.msix_cpx (s : State) (f v : Nat) : (s.msix f v).cpx = s.cpx := by unfold State.msix; dsimp only; split <;> (try split) <;> rfl
@[simp] theorem State.msix_pwr (s : State) (f v : Nat) : (s.msix f v).pwr = s.pwr := by unfold State.msix; dsimp only; split <;> (try split) <;> rfl
@[simp] theorem State.msix_jtag (s : State) (f v : Nat) : (s.msix f v).jtag = s.jtag := by unfold State.msix; dsimp only; split <;> (try split) <;> rfl
@[simp] theorem State.msix_freeCtr (s : State) (f v : Nat) : (s.msix f v).freeCtr = s.freeCtr := by unfold State.msix; dsimp only; split <;> (try split) <;> rfl
@[simp] theorem State.msix_pending (s : State) (f v : Nat) : (s.msix f v).pending = s.pending := by unfold State.msix; dsimp only; split <;> (try split) <;> rfl

@[simp] theorem State.remember_regs (s : State) (f : Nat) (st : Started) (r : List Byte) : (s.remember f st r).regs = s.regs := by unfold State.remember; split <;> rfl
@[simp] theorem State.remember_tse (s : State) (f : Nat) (st : Started) (r : List Byte) : (s.remember f st r).tse = s.tse := by unfold State.remember; split <;> rfl
@[simp] theorem State.remember_rim (s : State) (f : Nat) (st : Started) (r : List Byte) : (s.remember f st r).rim = s.rim := by unfold State.remember; split <;> rfl
@[simp] theorem State.remember_gnb (s : State) (f : Nat) (st : Started) (r : List Byte) : (s.remember f st r).gnb = s.gnb := by unfold State.remember; split <;> rfl
@[simp] theorem State.remember_rsh (s : State) (f : Nat) (st : Started) (r : List Byte) : (s.remember f st r).rsh = s.rsh := by unfold State.remember; split <;> rfl
@[simp] theorem State.remember_syn (s : State) (f : Nat) (st : Started) (r : List Byte) : (s.remember f st r).syn = s.syn := by unfold State.remember; split <;> rfl
@[simp] theorem State.remember_dsq (s : State) (f : Nat) (st : Started) (r : List Byte) : (s.remember f st r).dsq = s.dsq := by unfold State.remember; split <;> rfl
@[simp] theorem State.remember_npa (s : State) (f : Nat) (st : Started) (r : List Byte) : (s.remember f st r).npa = s.npa := by unfold State.remember; split <;> rfl
@[simp] theorem State.remember_slg (s : State) (f : Nat) (st : Started) (r : List Byte) : (s.remember f st r).slg = s.slg := by unfold State.remember; split <;> rfl
@[simp] theorem State.remember_tsv (s : State) (f : Nat) (st : Started) (r : List Byte) : (s.remember f st r).tsv = s.tsv := by unfold State.remember; split <;> rfl
@[simp] theorem State.remember_kvc (s : State) (f : Nat) (st : Started) (r : List Byte) : (s.remember f st r).kvc = s.kvc := by unfold State.remember; split <;> rfl
@[simp] theorem State.remember_hrl (s : State) (f : Nat) (st : Started) (r : List Byte) : (s.remember f st r).hrl = s.hrl := by unfold State.remember; split <;> rfl
@[simp] theorem State.remember_sup (s : State) (f : Nat) (st : Started) (r : List Byte) : (s.remember f st r).sup = s.sup := by unfold State.remember; split <;> rfl
@[simp] theorem State.remember_cpx (s : State) (f : Nat) (st : Started) (r : List Byte) : (s.remember f st r).cpx = s.cpx := by unfold State.remember; split <;> rfl
@[simp] theorem State.remember_pwr (s : State) (f : Nat) (st : Started) (r : List Byte) : (s.remember f st r).pwr = s.pwr := by unfold State.remember; split <;> rfl
@[simp] theorem State.remember_jtag (s : State) (f : Nat) (st : Started) (r : List Byte) : (s.remember f st r).jtag = s.jtag := by unfold State.remember; split <;> rfl
@[simp] theorem State.remember_out (s : State) (f : Nat) (st : Started) (r : List Byte) : (s.remember f st r).out = s.out := by unfold State.remember; split <;> rfl
@[simp] theorem State.remember_freeCtr (s : State) (f : Nat) (st : Started) (r : List Byte) : (s.remember f st r).freeCtr = s.freeCtr := by unfold State.remember; split <;> rfl
@[simp] theorem State.remember_pending (s : State) (f : Nat) (st : Started) (r : List Byte) : (s.remember f st r).pending = s.pending := by unfold State.remember; split <;> rfl

@[simp] theorem State.post_tse (s : State) (f r : Nat) (st : Started) (a b : Status) (n : Nat) (l : List Byte) : (s.post f r st a b n l).tse = s.tse := by unfold State.post; simp only [State.msix_tse, State.wrap_tse, State.emit_tse]; split <;> rfl
@[simp] theorem State.post_rim (s : State) (f r : Nat) (st : Started) (a b : Status) (n : Nat) (l : List Byte) : (s.post f r st a b n l).rim = s.rim := by unfold State.post; simp only [State.msix_rim, State.wrap_rim, State.emit_rim]; split <;> rfl
@[simp] theorem State.post_gnb (s : State) (f r : Nat) (st : Started) (a b : Status) (n : Nat) (l : List Byte) : (s.post f r st a b n l).gnb = s.gnb := by unfold State.post; simp only [State.msix_gnb, State.wrap_gnb, State.emit_gnb]; split <;> rfl
@[simp] theorem State.post_rsh (s : State) (f r : Nat) (st : Started) (a b : Status) (n : Nat) (l : List Byte) : (s.post f r st a b n l).rsh = s.rsh := by unfold State.post; simp only [State.msix_rsh, State.wrap_rsh, State.emit_rsh]; split <;> rfl
@[simp] theorem State.post_syn (s : State) (f r : Nat) (st : Started) (a b : Status) (n : Nat) (l : List Byte) : (s.post f r st a b n l).syn = s.syn := by unfold State.post; simp only [State.msix_syn, State.wrap_syn, State.emit_syn]; split <;> rfl
@[simp] theorem State.post_dsq (s : State) (f r : Nat) (st : Started) (a b : Status) (n : Nat) (l : List Byte) : (s.post f r st a b n l).dsq = s.dsq := by unfold State.post; simp only [State.msix_dsq, State.wrap_dsq, State.emit_dsq]; split <;> rfl
@[simp] theorem State.post_npa (s : State) (f r : Nat) (st : Started) (a b : Status) (n : Nat) (l : List Byte) : (s.post f r st a b n l).npa = s.npa := by unfold State.post; simp only [State.msix_npa, State.wrap_npa, State.emit_npa]; split <;> rfl
@[simp] theorem State.post_slg (s : State) (f r : Nat) (st : Started) (a b : Status) (n : Nat) (l : List Byte) : (s.post f r st a b n l).slg = s.slg := by unfold State.post; simp only [State.msix_slg, State.wrap_slg, State.emit_slg]; split <;> rfl
@[simp] theorem State.post_tsv (s : State) (f r : Nat) (st : Started) (a b : Status) (n : Nat) (l : List Byte) : (s.post f r st a b n l).tsv = s.tsv := by unfold State.post; simp only [State.msix_tsv, State.wrap_tsv, State.emit_tsv]; split <;> rfl
@[simp] theorem State.post_kvc (s : State) (f r : Nat) (st : Started) (a b : Status) (n : Nat) (l : List Byte) : (s.post f r st a b n l).kvc = s.kvc := by unfold State.post; simp only [State.msix_kvc, State.wrap_kvc, State.emit_kvc]; split <;> rfl
@[simp] theorem State.post_hrl (s : State) (f r : Nat) (st : Started) (a b : Status) (n : Nat) (l : List Byte) : (s.post f r st a b n l).hrl = s.hrl := by unfold State.post; simp only [State.msix_hrl, State.wrap_hrl, State.emit_hrl]; split <;> rfl
@[simp] theorem State.post_sup (s : State) (f r : Nat) (st : Started) (a b : Status) (n : Nat) (l : List Byte) : (s.post f r st a b n l).sup = s.sup := by unfold State.post; simp only [State.msix_sup, State.wrap_sup, State.emit_sup]; split <;> rfl
@[simp] theorem State.post_cpx (s : State) (f r : Nat) (st : Started) (a b : Status) (n : Nat) (l : List Byte) : (s.post f r st a b n l).cpx = s.cpx := by unfold State.post; simp only [State.msix_cpx, State.wrap_cpx, State.emit_cpx]; split <;> rfl
@[simp] theorem State.post_pwr (s : State) (f r : Nat) (st : Started) (a b : Status) (n : Nat) (l : List Byte) : (s.post f r st a b n l).pwr = s.pwr := by unfold State.post; simp only [State.msix_pwr, State.wrap_pwr, State.emit_pwr]; split <;> rfl
@[simp] theorem State.post_jtag (s : State) (f r : Nat) (st : Started) (a b : Status) (n : Nat) (l : List Byte) : (s.post f r st a b n l).jtag = s.jtag := by unfold State.post; simp only [State.msix_jtag, State.wrap_jtag, State.emit_jtag]; split <;> rfl
@[simp] theorem State.post_freeCtr (s : State) (f r : Nat) (st : Started) (a b : Status) (n : Nat) (l : List Byte) : (s.post f r st a b n l).freeCtr = s.freeCtr := by unfold State.post; simp only [State.msix_freeCtr, State.wrap_freeCtr, State.emit_freeCtr]; split <;> rfl
@[simp] theorem State.post_pending (s : State) (f r : Nat) (st : Started) (a b : Status) (n : Nat) (l : List Byte) : (s.post f r st a b n l).pending = s.pending := by unfold State.post; simp only [State.msix_pending, State.wrap_pending, State.emit_pending]; split <;> rfl

@[simp] theorem State.completeRing_tse (s : State) (f r op : Nat) (st : Status) (l : List Byte) : (s.completeRing f r op st l).tse = s.tse := by unfold State.completeRing; dsimp only; split <;> (try split) <;> (try split) <;> simp
@[simp] theorem State.completeRing_rim (s : State) (f r op : Nat) (st : Status) (l : List Byte) : (s.completeRing f r op st l).rim = s.rim := by unfold State.completeRing; dsimp only; split <;> (try split) <;> (try split) <;> simp
@[simp] theorem State.completeRing_gnb (s : State) (f r op : Nat) (st : Status) (l : List Byte) : (s.completeRing f r op st l).gnb = s.gnb := by unfold State.completeRing; dsimp only; split <;> (try split) <;> (try split) <;> simp
@[simp] theorem State.completeRing_rsh (s : State) (f r op : Nat) (st : Status) (l : List Byte) : (s.completeRing f r op st l).rsh = s.rsh := by unfold State.completeRing; dsimp only; split <;> (try split) <;> (try split) <;> simp
@[simp] theorem State.completeRing_syn (s : State) (f r op : Nat) (st : Status) (l : List Byte) : (s.completeRing f r op st l).syn = s.syn := by unfold State.completeRing; dsimp only; split <;> (try split) <;> (try split) <;> simp
@[simp] theorem State.completeRing_dsq (s : State) (f r op : Nat) (st : Status) (l : List Byte) : (s.completeRing f r op st l).dsq = s.dsq := by unfold State.completeRing; dsimp only; split <;> (try split) <;> (try split) <;> simp
@[simp] theorem State.completeRing_npa (s : State) (f r op : Nat) (st : Status) (l : List Byte) : (s.completeRing f r op st l).npa = s.npa := by unfold State.completeRing; dsimp only; split <;> (try split) <;> (try split) <;> simp
@[simp] theorem State.completeRing_slg (s : State) (f r op : Nat) (st : Status) (l : List Byte) : (s.completeRing f r op st l).slg = s.slg := by unfold State.completeRing; dsimp only; split <;> (try split) <;> (try split) <;> simp
@[simp] theorem State.completeRing_tsv (s : State) (f r op : Nat) (st : Status) (l : List Byte) : (s.completeRing f r op st l).tsv = s.tsv := by unfold State.completeRing; dsimp only; split <;> (try split) <;> (try split) <;> simp
@[simp] theorem State.completeRing_kvc (s : State) (f r op : Nat) (st : Status) (l : List Byte) : (s.completeRing f r op st l).kvc = s.kvc := by unfold State.completeRing; dsimp only; split <;> (try split) <;> (try split) <;> simp
@[simp] theorem State.completeRing_hrl (s : State) (f r op : Nat) (st : Status) (l : List Byte) : (s.completeRing f r op st l).hrl = s.hrl := by unfold State.completeRing; dsimp only; split <;> (try split) <;> (try split) <;> simp
@[simp] theorem State.completeRing_sup (s : State) (f r op : Nat) (st : Status) (l : List Byte) : (s.completeRing f r op st l).sup = s.sup := by unfold State.completeRing; dsimp only; split <;> (try split) <;> (try split) <;> simp
@[simp] theorem State.completeRing_cpx (s : State) (f r op : Nat) (st : Status) (l : List Byte) : (s.completeRing f r op st l).cpx = s.cpx := by unfold State.completeRing; dsimp only; split <;> (try split) <;> (try split) <;> simp
@[simp] theorem State.completeRing_pwr (s : State) (f r op : Nat) (st : Status) (l : List Byte) : (s.completeRing f r op st l).pwr = s.pwr := by unfold State.completeRing; dsimp only; split <;> (try split) <;> (try split) <;> simp
@[simp] theorem State.completeRing_jtag (s : State) (f r op : Nat) (st : Status) (l : List Byte) : (s.completeRing f r op st l).jtag = s.jtag := by unfold State.completeRing; dsimp only; split <;> (try split) <;> (try split) <;> simp
@[simp] theorem State.completeRing_freeCtr (s : State) (f r op : Nat) (st : Status) (l : List Byte) : (s.completeRing f r op st l).freeCtr = s.freeCtr := by unfold State.completeRing; dsimp only; split <;> (try split) <;> (try split) <;> simp
@[simp] theorem State.completeRing_pending (s : State) (f r op : Nat) (st : Status) (l : List Byte) : (s.completeRing f r op st l).pending = s.pending := by unfold State.completeRing; dsimp only; split <;> (try split) <;> (try split) <;> simp

@[simp] theorem State.complete_tse (s : State) (c : Caller) (op : Nat) (st : Status) (l : List Byte) : (s.complete c op st l).tse = s.tse := by unfold State.complete; cases c <;> (try dsimp only) <;> (try split) <;> (try split) <;> simp
@[simp] theorem State.complete_rim (s : State) (c : Caller) (op : Nat) (st : Status) (l : List Byte) : (s.complete c op st l).rim = s.rim := by unfold State.complete; cases c <;> (try dsimp only) <;> (try split) <;> (try split) <;> simp
@[simp] theorem State.complete_gnb (s : State) (c : Caller) (op : Nat) (st : Status) (l : List Byte) : (s.complete c op st l).gnb = s.gnb := by unfold State.complete; cases c <;> (try dsimp only) <;> (try split) <;> (try split) <;> simp
@[simp] theorem State.complete_rsh (s : State) (c : Caller) (op : Nat) (st : Status) (l : List Byte) : (s.complete c op st l).rsh = s.rsh := by unfold State.complete; cases c <;> (try dsimp only) <;> (try split) <;> (try split) <;> simp
@[simp] theorem State.complete_syn (s : State) (c : Caller) (op : Nat) (st : Status) (l : List Byte) : (s.complete c op st l).syn = s.syn := by unfold State.complete; cases c <;> (try dsimp only) <;> (try split) <;> (try split) <;> simp
@[simp] theorem State.complete_npa (s : State) (c : Caller) (op : Nat) (st : Status) (l : List Byte) : (s.complete c op st l).npa = s.npa := by unfold State.complete; cases c <;> (try dsimp only) <;> (try split) <;> (try split) <;> simp
@[simp] theorem State.complete_slg (s : State) (c : Caller) (op : Nat) (st : Status) (l : List Byte) : (s.complete c op st l).slg = s.slg := by unfold State.complete; cases c <;> (try dsimp only) <;> (try split) <;> (try split) <;> simp
@[simp] theorem State.complete_tsv (s : State) (c : Caller) (op : Nat) (st : Status) (l : List Byte) : (s.complete c op st l).tsv = s.tsv := by unfold State.complete; cases c <;> (try dsimp only) <;> (try split) <;> (try split) <;> simp
@[simp] theorem State.complete_kvc (s : State) (c : Caller) (op : Nat) (st : Status) (l : List Byte) : (s.complete c op st l).kvc = s.kvc := by unfold State.complete; cases c <;> (try dsimp only) <;> (try split) <;> (try split) <;> simp
@[simp] theorem State.complete_hrl (s : State) (c : Caller) (op : Nat) (st : Status) (l : List Byte) : (s.complete c op st l).hrl = s.hrl := by unfold State.complete; cases c <;> (try dsimp only) <;> (try split) <;> (try split) <;> simp
@[simp] theorem State.complete_sup (s : State) (c : Caller) (op : Nat) (st : Status) (l : List Byte) : (s.complete c op st l).sup = s.sup := by unfold State.complete; cases c <;> (try dsimp only) <;> (try split) <;> (try split) <;> simp
@[simp] theorem State.complete_cpx (s : State) (c : Caller) (op : Nat) (st : Status) (l : List Byte) : (s.complete c op st l).cpx = s.cpx := by unfold State.complete; cases c <;> (try dsimp only) <;> (try split) <;> (try split) <;> simp
@[simp] theorem State.complete_pwr (s : State) (c : Caller) (op : Nat) (st : Status) (l : List Byte) : (s.complete c op st l).pwr = s.pwr := by unfold State.complete; cases c <;> (try dsimp only) <;> (try split) <;> (try split) <;> simp
@[simp] theorem State.complete_jtag (s : State) (c : Caller) (op : Nat) (st : Status) (l : List Byte) : (s.complete c op st l).jtag = s.jtag := by unfold State.complete; cases c <;> (try dsimp only) <;> (try split) <;> (try split) <;> simp
@[simp] theorem State.complete_freeCtr (s : State) (c : Caller) (op : Nat) (st : Status) (l : List Byte) : (s.complete c op st l).freeCtr = s.freeCtr := by unfold State.complete; cases c <;> (try dsimp only) <;> (try split) <;> (try split) <;> simp
@[simp] theorem State.complete_pending (s : State) (c : Caller) (op : Nat) (st : Status) (l : List Byte) : (s.complete c op st l).pending = s.pending := by unfold State.complete; cases c <;> (try dsimp only) <;> (try split) <;> (try split) <;> simp

@[simp] theorem State.logRefused_tse (s : State) (c : Caller) (op n : Nat) : (s.logRefused c op n).tse = s.tse := by unfold State.logRefused; simp
@[simp] theorem State.logRefused_rim (s : State) (c : Caller) (op n : Nat) : (s.logRefused c op n).rim = s.rim := by unfold State.logRefused; simp
@[simp] theorem State.logRefused_gnb (s : State) (c : Caller) (op n : Nat) : (s.logRefused c op n).gnb = s.gnb := by unfold State.logRefused; simp
@[simp] theorem State.logRefused_rsh (s : State) (c : Caller) (op n : Nat) : (s.logRefused c op n).rsh = s.rsh := by unfold State.logRefused; simp
@[simp] theorem State.logRefused_syn (s : State) (c : Caller) (op n : Nat) : (s.logRefused c op n).syn = s.syn := by unfold State.logRefused; simp
@[simp] theorem State.logRefused_dsq (s : State) (c : Caller) (op n : Nat) : (s.logRefused c op n).dsq = s.dsq := by unfold State.logRefused; simp
@[simp] theorem State.logRefused_npa (s : State) (c : Caller) (op n : Nat) : (s.logRefused c op n).npa = s.npa := by unfold State.logRefused; simp
@[simp] theorem State.logRefused_slg (s : State) (c : Caller) (op n : Nat) : (s.logRefused c op n).slg = s.slg := by unfold State.logRefused; simp
@[simp] theorem State.logRefused_tsv (s : State) (c : Caller) (op n : Nat) : (s.logRefused c op n).tsv = s.tsv := by unfold State.logRefused; simp
@[simp] theorem State.logRefused_kvc (s : State) (c : Caller) (op n : Nat) : (s.logRefused c op n).kvc = s.kvc := by unfold State.logRefused; simp
@[simp] theorem State.logRefused_hrl (s : State) (c : Caller) (op n : Nat) : (s.logRefused c op n).hrl = s.hrl := by unfold State.logRefused; simp
@[simp] theorem State.logRefused_par (s : State) (c : Caller) (op n : Nat) : (s.logRefused c op n).par = s.par := by unfold State.logRefused; simp
@[simp] theorem State.logRefused_cpx (s : State) (c : Caller) (op n : Nat) : (s.logRefused c op n).cpx = s.cpx := by unfold State.logRefused; simp
@[simp] theorem State.logRefused_pwr (s : State) (c : Caller) (op n : Nat) : (s.logRefused c op n).pwr = s.pwr := by unfold State.logRefused; simp
@[simp] theorem State.logRefused_jtag (s : State) (c : Caller) (op n : Nat) : (s.logRefused c op n).jtag = s.jtag := by unfold State.logRefused; simp
@[simp] theorem State.logRefused_out (s : State) (c : Caller) (op n : Nat) : (s.logRefused c op n).out = s.out := by unfold State.logRefused; simp
@[simp] theorem State.logRefused_freeCtr (s : State) (c : Caller) (op n : Nat) : (s.logRefused c op n).freeCtr = s.freeCtr := by unfold State.logRefused; simp
@[simp] theorem State.logRefused_pending (s : State) (c : Caller) (op n : Nat) : (s.logRefused c op n).pending = s.pending := by unfold State.logRefused; simp

@[simp] theorem State.latchSafe_regs (s : State) (n : Nat) : (s.latchSafe n).regs = s.regs := by unfold State.latchSafe; split <;> rfl
@[simp] theorem State.latchSafe_tse (s : State) (n : Nat) : (s.latchSafe n).tse = s.tse := by unfold State.latchSafe; split <;> rfl
@[simp] theorem State.latchSafe_rim (s : State) (n : Nat) : (s.latchSafe n).rim = s.rim := by unfold State.latchSafe; split <;> rfl
@[simp] theorem State.latchSafe_gnb (s : State) (n : Nat) : (s.latchSafe n).gnb = s.gnb := by unfold State.latchSafe; split <;> rfl
@[simp] theorem State.latchSafe_rsh (s : State) (n : Nat) : (s.latchSafe n).rsh = s.rsh := by unfold State.latchSafe; split <;> rfl
@[simp] theorem State.latchSafe_syn (s : State) (n : Nat) : (s.latchSafe n).syn = s.syn := by unfold State.latchSafe; split <;> rfl
@[simp] theorem State.latchSafe_dsq (s : State) (n : Nat) : (s.latchSafe n).dsq = s.dsq := by unfold State.latchSafe; split <;> rfl
@[simp] theorem State.latchSafe_npa (s : State) (n : Nat) : (s.latchSafe n).npa = s.npa := by unfold State.latchSafe; split <;> rfl
@[simp] theorem State.latchSafe_slg (s : State) (n : Nat) : (s.latchSafe n).slg = s.slg := by unfold State.latchSafe; split <;> rfl
@[simp] theorem State.latchSafe_tsv (s : State) (n : Nat) : (s.latchSafe n).tsv = s.tsv := by unfold State.latchSafe; split <;> rfl
@[simp] theorem State.latchSafe_kvc (s : State) (n : Nat) : (s.latchSafe n).kvc = s.kvc := by unfold State.latchSafe; split <;> rfl
@[simp] theorem State.latchSafe_hrl (s : State) (n : Nat) : (s.latchSafe n).hrl = s.hrl := by unfold State.latchSafe; split <;> rfl
@[simp] theorem State.latchSafe_sup (s : State) (n : Nat) : (s.latchSafe n).sup = s.sup := by unfold State.latchSafe; split <;> rfl
@[simp] theorem State.latchSafe_par (s : State) (n : Nat) : (s.latchSafe n).par = s.par := by unfold State.latchSafe; split <;> rfl
@[simp] theorem State.latchSafe_pwr (s : State) (n : Nat) : (s.latchSafe n).pwr = s.pwr := by unfold State.latchSafe; split <;> rfl
@[simp] theorem State.latchSafe_jtag (s : State) (n : Nat) : (s.latchSafe n).jtag = s.jtag := by unfold State.latchSafe; split <;> rfl
@[simp] theorem State.latchSafe_out (s : State) (n : Nat) : (s.latchSafe n).out = s.out := by unfold State.latchSafe; split <;> rfl
@[simp] theorem State.latchSafe_freeCtr (s : State) (n : Nat) : (s.latchSafe n).freeCtr = s.freeCtr := by unfold State.latchSafe; split <;> rfl
@[simp] theorem State.latchSafe_pending (s : State) (n : Nat) : (s.latchSafe n).pending = s.pending := by unfold State.latchSafe; split <;> rfl

@[simp] theorem State.stageOnset_regs (s : State) (a b c d : Nat) (x y : Bool) : (s.stageOnset a b c d x y).regs = s.regs := rfl
@[simp] theorem State.stageOnset_tse (s : State) (a b c d : Nat) (x y : Bool) : (s.stageOnset a b c d x y).tse = s.tse := rfl
@[simp] theorem State.stageOnset_rim (s : State) (a b c d : Nat) (x y : Bool) : (s.stageOnset a b c d x y).rim = s.rim := rfl
@[simp] theorem State.stageOnset_gnb (s : State) (a b c d : Nat) (x y : Bool) : (s.stageOnset a b c d x y).gnb = s.gnb := rfl
@[simp] theorem State.stageOnset_rsh (s : State) (a b c d : Nat) (x y : Bool) : (s.stageOnset a b c d x y).rsh = s.rsh := rfl
@[simp] theorem State.stageOnset_syn (s : State) (a b c d : Nat) (x y : Bool) : (s.stageOnset a b c d x y).syn = s.syn := rfl
@[simp] theorem State.stageOnset_dsq (s : State) (a b c d : Nat) (x y : Bool) : (s.stageOnset a b c d x y).dsq = s.dsq := rfl
@[simp] theorem State.stageOnset_npa (s : State) (a b c d : Nat) (x y : Bool) : (s.stageOnset a b c d x y).npa = s.npa := rfl
@[simp] theorem State.stageOnset_slg (s : State) (a b c d : Nat) (x y : Bool) : (s.stageOnset a b c d x y).slg = s.slg := rfl
@[simp] theorem State.stageOnset_tsv (s : State) (a b c d : Nat) (x y : Bool) : (s.stageOnset a b c d x y).tsv = s.tsv := rfl
@[simp] theorem State.stageOnset_kvc (s : State) (a b c d : Nat) (x y : Bool) : (s.stageOnset a b c d x y).kvc = s.kvc := rfl
@[simp] theorem State.stageOnset_hrl (s : State) (a b c d : Nat) (x y : Bool) : (s.stageOnset a b c d x y).hrl = s.hrl := rfl
@[simp] theorem State.stageOnset_par (s : State) (a b c d : Nat) (x y : Bool) : (s.stageOnset a b c d x y).par = s.par := rfl
@[simp] theorem State.stageOnset_cpx (s : State) (a b c d : Nat) (x y : Bool) : (s.stageOnset a b c d x y).cpx = s.cpx := rfl
@[simp] theorem State.stageOnset_pwr (s : State) (a b c d : Nat) (x y : Bool) : (s.stageOnset a b c d x y).pwr = s.pwr := rfl
@[simp] theorem State.stageOnset_jtag (s : State) (a b c d : Nat) (x y : Bool) : (s.stageOnset a b c d x y).jtag = s.jtag := rfl
@[simp] theorem State.stageOnset_out (s : State) (a b c d : Nat) (x y : Bool) : (s.stageOnset a b c d x y).out = s.out := rfl
@[simp] theorem State.stageOnset_freeCtr (s : State) (a b c d : Nat) (x y : Bool) : (s.stageOnset a b c d x y).freeCtr = s.freeCtr := rfl
@[simp] theorem State.stageOnset_pending (s : State) (a b c d : Nat) (x y : Bool) : (s.stageOnset a b c d x y).pending = s.pending := rfl

/-- A fold keeps what each of its steps keeps. -/
theorem foldl_keeps {σ α β : Type} (g : σ → β) (f : σ → α → σ) (h : ∀ s a, g (f s a) = g s) (l : List α) (s : σ) :
    g (l.foldl f s) = g s := by
  induction l generalizing s with
  | nil => rfl
  | cons a l ih => rw [List.foldl_cons, ih, h]

@[simp] theorem State.setLive_tse (s : State) (n m : Nat) : (s.setLive n m).tse = s.tse := foldl_keeps State.tse _ (fun s p => by simp) _ s
@[simp] theorem State.setLive_rim (s : State) (n m : Nat) : (s.setLive n m).rim = s.rim := foldl_keeps State.rim _ (fun s p => by simp) _ s
@[simp] theorem State.setLive_gnb (s : State) (n m : Nat) : (s.setLive n m).gnb = s.gnb := foldl_keeps State.gnb _ (fun s p => by simp) _ s
@[simp] theorem State.setLive_rsh (s : State) (n m : Nat) : (s.setLive n m).rsh = s.rsh := foldl_keeps State.rsh _ (fun s p => by simp) _ s
@[simp] theorem State.setLive_syn (s : State) (n m : Nat) : (s.setLive n m).syn = s.syn := foldl_keeps State.syn _ (fun s p => by simp) _ s
@[simp] theorem State.setLive_dsq (s : State) (n m : Nat) : (s.setLive n m).dsq = s.dsq := foldl_keeps State.dsq _ (fun s p => by simp) _ s
@[simp] theorem State.setLive_npa (s : State) (n m : Nat) : (s.setLive n m).npa = s.npa := foldl_keeps State.npa _ (fun s p => by simp) _ s
@[simp] theorem State.setLive_slg (s : State) (n m : Nat) : (s.setLive n m).slg = s.slg := foldl_keeps State.slg _ (fun s p => by simp) _ s
@[simp] theorem State.setLive_tsv (s : State) (n m : Nat) : (s.setLive n m).tsv = s.tsv := foldl_keeps State.tsv _ (fun s p => by simp) _ s
@[simp] theorem State.setLive_kvc (s : State) (n m : Nat) : (s.setLive n m).kvc = s.kvc := foldl_keeps State.kvc _ (fun s p => by simp) _ s
@[simp] theorem State.setLive_hrl (s : State) (n m : Nat) : (s.setLive n m).hrl = s.hrl := foldl_keeps State.hrl _ (fun s p => by simp) _ s
@[simp] theorem State.setLive_sup (s : State) (n m : Nat) : (s.setLive n m).sup = s.sup := foldl_keeps State.sup _ (fun s p => by simp) _ s
@[simp] theorem State.setLive_par (s : State) (n m : Nat) : (s.setLive n m).par = s.par := foldl_keeps State.par _ (fun s p => by simp) _ s
@[simp] theorem State.setLive_cpx (s : State) (n m : Nat) : (s.setLive n m).cpx = s.cpx := foldl_keeps State.cpx _ (fun s p => by simp) _ s
@[simp] theorem State.setLive_pwr (s : State) (n m : Nat) : (s.setLive n m).pwr = s.pwr := foldl_keeps State.pwr _ (fun s p => by simp) _ s
@[simp] theorem State.setLive_jtag (s : State) (n m : Nat) : (s.setLive n m).jtag = s.jtag := foldl_keeps State.jtag _ (fun s p => by simp) _ s
@[simp] theorem State.setLive_out (s : State) (n m : Nat) : (s.setLive n m).out = s.out := foldl_keeps State.out _ (fun s p => by simp) _ s
@[simp] theorem State.setLive_freeCtr (s : State) (n m : Nat) : (s.setLive n m).freeCtr = s.freeCtr := foldl_keeps State.freeCtr _ (fun s p => by simp) _ s
@[simp] theorem State.setLive_pending (s : State) (n m : Nat) : (s.setLive n m).pending = s.pending := foldl_keeps State.pending _ (fun s p => by simp) _ s

@[simp] theorem State.faultCount_tse (s : State) (n r : Nat) : (s.faultCount n r).tse = s.tse := by unfold State.faultCount; split <;> simp
@[simp] theorem State.faultCount_rim (s : State) (n r : Nat) : (s.faultCount n r).rim = s.rim := by unfold State.faultCount; split <;> simp
@[simp] theorem State.faultCount_gnb (s : State) (n r : Nat) : (s.faultCount n r).gnb = s.gnb := by unfold State.faultCount; split <;> simp
@[simp] theorem State.faultCount_rsh (s : State) (n r : Nat) : (s.faultCount n r).rsh = s.rsh := by unfold State.faultCount; split <;> simp
@[simp] theorem State.faultCount_syn (s : State) (n r : Nat) : (s.faultCount n r).syn = s.syn := by unfold State.faultCount; split <;> simp
@[simp] theorem State.faultCount_dsq (s : State) (n r : Nat) : (s.faultCount n r).dsq = s.dsq := by unfold State.faultCount; split <;> simp
@[simp] theorem State.faultCount_npa (s : State) (n r : Nat) : (s.faultCount n r).npa = s.npa := by unfold State.faultCount; split <;> simp
@[simp] theorem State.faultCount_slg (s : State) (n r : Nat) : (s.faultCount n r).slg = s.slg := by unfold State.faultCount; split <;> simp
@[simp] theorem State.faultCount_tsv (s : State) (n r : Nat) : (s.faultCount n r).tsv = s.tsv := by unfold State.faultCount; split <;> simp
@[simp] theorem State.faultCount_kvc (s : State) (n r : Nat) : (s.faultCount n r).kvc = s.kvc := by unfold State.faultCount; split <;> simp
@[simp] theorem State.faultCount_hrl (s : State) (n r : Nat) : (s.faultCount n r).hrl = s.hrl := by unfold State.faultCount; split <;> simp
@[simp] theorem State.faultCount_par (s : State) (n r : Nat) : (s.faultCount n r).par = s.par := by unfold State.faultCount; split <;> simp
@[simp] theorem State.faultCount_cpx (s : State) (n r : Nat) : (s.faultCount n r).cpx = s.cpx := by unfold State.faultCount; split <;> simp
@[simp] theorem State.faultCount_pwr (s : State) (n r : Nat) : (s.faultCount n r).pwr = s.pwr := by unfold State.faultCount; split <;> simp
@[simp] theorem State.faultCount_jtag (s : State) (n r : Nat) : (s.faultCount n r).jtag = s.jtag := by unfold State.faultCount; split <;> simp
@[simp] theorem State.faultCount_out (s : State) (n r : Nat) : (s.faultCount n r).out = s.out := by unfold State.faultCount; split <;> simp
@[simp] theorem State.faultCount_freeCtr (s : State) (n r : Nat) : (s.faultCount n r).freeCtr = s.freeCtr := by unfold State.faultCount; split <;> simp
@[simp] theorem State.faultCount_pending (s : State) (n r : Nat) : (s.faultCount n r).pending = s.pending := by unfold State.faultCount; split <;> simp

@[simp] theorem State.faultSticky_tse (s : State) (n m r : Nat) : (s.faultSticky n m r).tse = s.tse := by
  unfold State.faultSticky; dsimp only
  rw [foldl_keeps State.tse _ (fun s p => by simp)]; rw [State.put_tse, State.faultCount_tse]
@[simp] theorem State.faultSticky_rim (s : State) (n m r : Nat) : (s.faultSticky n m r).rim = s.rim := by
  unfold State.faultSticky; dsimp only
  rw [foldl_keeps State.rim _ (fun s p => by simp)]; rw [State.put_rim, State.faultCount_rim]
@[simp] theorem State.faultSticky_gnb (s : State) (n m r : Nat) : (s.faultSticky n m r).gnb = s.gnb := by
  unfold State.faultSticky; dsimp only
  rw [foldl_keeps State.gnb _ (fun s p => by simp)]; rw [State.put_gnb, State.faultCount_gnb]
@[simp] theorem State.faultSticky_rsh (s : State) (n m r : Nat) : (s.faultSticky n m r).rsh = s.rsh := by
  unfold State.faultSticky; dsimp only
  rw [foldl_keeps State.rsh _ (fun s p => by simp)]; rw [State.put_rsh, State.faultCount_rsh]
@[simp] theorem State.faultSticky_syn (s : State) (n m r : Nat) : (s.faultSticky n m r).syn = s.syn := by
  unfold State.faultSticky; dsimp only
  rw [foldl_keeps State.syn _ (fun s p => by simp)]; rw [State.put_syn, State.faultCount_syn]
@[simp] theorem State.faultSticky_dsq (s : State) (n m r : Nat) : (s.faultSticky n m r).dsq = s.dsq := by
  unfold State.faultSticky; dsimp only
  rw [foldl_keeps State.dsq _ (fun s p => by simp)]; rw [State.put_dsq, State.faultCount_dsq]
@[simp] theorem State.faultSticky_npa (s : State) (n m r : Nat) : (s.faultSticky n m r).npa = s.npa := by
  unfold State.faultSticky; dsimp only
  rw [foldl_keeps State.npa _ (fun s p => by simp)]; rw [State.put_npa, State.faultCount_npa]
@[simp] theorem State.faultSticky_slg (s : State) (n m r : Nat) : (s.faultSticky n m r).slg = s.slg := by
  unfold State.faultSticky; dsimp only
  rw [foldl_keeps State.slg _ (fun s p => by simp)]; rw [State.put_slg, State.faultCount_slg]
@[simp] theorem State.faultSticky_tsv (s : State) (n m r : Nat) : (s.faultSticky n m r).tsv = s.tsv := by
  unfold State.faultSticky; dsimp only
  rw [foldl_keeps State.tsv _ (fun s p => by simp)]; rw [State.put_tsv, State.faultCount_tsv]
@[simp] theorem State.faultSticky_kvc (s : State) (n m r : Nat) : (s.faultSticky n m r).kvc = s.kvc := by
  unfold State.faultSticky; dsimp only
  rw [foldl_keeps State.kvc _ (fun s p => by simp)]; rw [State.put_kvc, State.faultCount_kvc]
@[simp] theorem State.faultSticky_hrl (s : State) (n m r : Nat) : (s.faultSticky n m r).hrl = s.hrl := by
  unfold State.faultSticky; dsimp only
  rw [foldl_keeps State.hrl _ (fun s p => by simp)]; rw [State.put_hrl, State.faultCount_hrl]
@[simp] theorem State.faultSticky_par (s : State) (n m r : Nat) : (s.faultSticky n m r).par = s.par := by
  unfold State.faultSticky; dsimp only
  rw [foldl_keeps State.par _ (fun s p => by simp)]; rw [State.put_par, State.faultCount_par]
@[simp] theorem State.faultSticky_cpx (s : State) (n m r : Nat) : (s.faultSticky n m r).cpx = s.cpx := by
  unfold State.faultSticky; dsimp only
  rw [foldl_keeps State.cpx _ (fun s p => by simp)]; rw [State.put_cpx, State.faultCount_cpx]
@[simp] theorem State.faultSticky_pwr (s : State) (n m r : Nat) : (s.faultSticky n m r).pwr = s.pwr := by
  unfold State.faultSticky; dsimp only
  rw [foldl_keeps State.pwr _ (fun s p => by simp)]; rw [State.put_pwr, State.faultCount_pwr]
@[simp] theorem State.faultSticky_jtag (s : State) (n m r : Nat) : (s.faultSticky n m r).jtag = s.jtag := by
  unfold State.faultSticky; dsimp only
  rw [foldl_keeps State.jtag _ (fun s p => by simp)]; rw [State.put_jtag, State.faultCount_jtag]
@[simp] theorem State.faultSticky_out (s : State) (n m r : Nat) : (s.faultSticky n m r).out = s.out := by
  unfold State.faultSticky; dsimp only
  rw [foldl_keeps State.out _ (fun s p => by simp)]; rw [State.put_out, State.faultCount_out]
@[simp] theorem State.faultSticky_freeCtr (s : State) (n m r : Nat) : (s.faultSticky n m r).freeCtr = s.freeCtr := by
  unfold State.faultSticky; dsimp only
  rw [foldl_keeps State.freeCtr _ (fun s p => by simp)]; rw [State.put_freeCtr, State.faultCount_freeCtr]
@[simp] theorem State.faultSticky_pending (s : State) (n m r : Nat) : (s.faultSticky n m r).pending = s.pending := by
  unfold State.faultSticky; dsimp only
  rw [foldl_keeps State.pending _ (fun s p => by simp)]; rw [State.put_pending, State.faultCount_pending]

@[simp] theorem State.faultEntries_regs (s : State) (n : Nat) (i : Nat → Nat) (ps : List Nat) (d b : Bool) : (s.faultEntries n i ps d b).regs = s.regs := by
  unfold State.faultEntries; split
  · split <;> simp
  · dsimp only; rw [foldl_keeps State.regs _ (fun s p => by simp)]; simp only [State.stageOnset_regs]
    split
    · rfl
    · split
      · split <;> rfl
      · rfl
@[simp] theorem State.faultEntries_tse (s : State) (n : Nat) (i : Nat → Nat) (ps : List Nat) (d b : Bool) : (s.faultEntries n i ps d b).tse = s.tse := by
  unfold State.faultEntries; split
  · split <;> simp
  · dsimp only; rw [foldl_keeps State.tse _ (fun s p => by simp)]; simp only [State.stageOnset_tse]
    split
    · rfl
    · split
      · split <;> rfl
      · rfl
@[simp] theorem State.faultEntries_rim (s : State) (n : Nat) (i : Nat → Nat) (ps : List Nat) (d b : Bool) : (s.faultEntries n i ps d b).rim = s.rim := by
  unfold State.faultEntries; split
  · split <;> simp
  · dsimp only; rw [foldl_keeps State.rim _ (fun s p => by simp)]; simp only [State.stageOnset_rim]
    split
    · rfl
    · split
      · split <;> rfl
      · rfl
@[simp] theorem State.faultEntries_gnb (s : State) (n : Nat) (i : Nat → Nat) (ps : List Nat) (d b : Bool) : (s.faultEntries n i ps d b).gnb = s.gnb := by
  unfold State.faultEntries; split
  · split <;> simp
  · dsimp only; rw [foldl_keeps State.gnb _ (fun s p => by simp)]; simp only [State.stageOnset_gnb]
    split
    · rfl
    · split
      · split <;> rfl
      · rfl
@[simp] theorem State.faultEntries_rsh (s : State) (n : Nat) (i : Nat → Nat) (ps : List Nat) (d b : Bool) : (s.faultEntries n i ps d b).rsh = s.rsh := by
  unfold State.faultEntries; split
  · split <;> simp
  · dsimp only; rw [foldl_keeps State.rsh _ (fun s p => by simp)]; simp only [State.stageOnset_rsh]
    split
    · rfl
    · split
      · split <;> rfl
      · rfl
@[simp] theorem State.faultEntries_syn (s : State) (n : Nat) (i : Nat → Nat) (ps : List Nat) (d b : Bool) : (s.faultEntries n i ps d b).syn = s.syn := by
  unfold State.faultEntries; split
  · split <;> simp
  · dsimp only; rw [foldl_keeps State.syn _ (fun s p => by simp)]; simp only [State.stageOnset_syn]
    split
    · rfl
    · split
      · split <;> rfl
      · rfl
@[simp] theorem State.faultEntries_dsq (s : State) (n : Nat) (i : Nat → Nat) (ps : List Nat) (d b : Bool) : (s.faultEntries n i ps d b).dsq = s.dsq := by
  unfold State.faultEntries; split
  · split <;> simp
  · dsimp only; rw [foldl_keeps State.dsq _ (fun s p => by simp)]; simp only [State.stageOnset_dsq]
    split
    · rfl
    · split
      · split <;> rfl
      · rfl
@[simp] theorem State.faultEntries_npa (s : State) (n : Nat) (i : Nat → Nat) (ps : List Nat) (d b : Bool) : (s.faultEntries n i ps d b).npa = s.npa := by
  unfold State.faultEntries; split
  · split <;> simp
  · dsimp only; rw [foldl_keeps State.npa _ (fun s p => by simp)]; simp only [State.stageOnset_npa]
    split
    · rfl
    · split
      · split <;> rfl
      · rfl
@[simp] theorem State.faultEntries_slg (s : State) (n : Nat) (i : Nat → Nat) (ps : List Nat) (d b : Bool) : (s.faultEntries n i ps d b).slg = s.slg := by
  unfold State.faultEntries; split
  · split <;> simp
  · dsimp only; rw [foldl_keeps State.slg _ (fun s p => by simp)]; simp only [State.stageOnset_slg]
    split
    · rfl
    · split
      · split <;> rfl
      · rfl
@[simp] theorem State.faultEntries_tsv (s : State) (n : Nat) (i : Nat → Nat) (ps : List Nat) (d b : Bool) : (s.faultEntries n i ps d b).tsv = s.tsv := by
  unfold State.faultEntries; split
  · split <;> simp
  · dsimp only; rw [foldl_keeps State.tsv _ (fun s p => by simp)]; simp only [State.stageOnset_tsv]
    split
    · rfl
    · split
      · split <;> rfl
      · rfl
@[simp] theorem State.faultEntries_kvc (s : State) (n : Nat) (i : Nat → Nat) (ps : List Nat) (d b : Bool) : (s.faultEntries n i ps d b).kvc = s.kvc := by
  unfold State.faultEntries; split
  · split <;> simp
  · dsimp only; rw [foldl_keeps State.kvc _ (fun s p => by simp)]; simp only [State.stageOnset_kvc]
    split
    · rfl
    · split
      · split <;> rfl
      · rfl
@[simp] theorem State.faultEntries_hrl (s : State) (n : Nat) (i : Nat → Nat) (ps : List Nat) (d b : Bool) : (s.faultEntries n i ps d b).hrl = s.hrl := by
  unfold State.faultEntries; split
  · split <;> simp
  · dsimp only; rw [foldl_keeps State.hrl _ (fun s p => by simp)]; simp only [State.stageOnset_hrl]
    split
    · rfl
    · split
      · split <;> rfl
      · rfl
@[simp] theorem State.faultEntries_par (s : State) (n : Nat) (i : Nat → Nat) (ps : List Nat) (d b : Bool) : (s.faultEntries n i ps d b).par = s.par := by
  unfold State.faultEntries; split
  · split <;> simp
  · dsimp only; rw [foldl_keeps State.par _ (fun s p => by simp)]; simp only [State.stageOnset_par]
    split
    · rfl
    · split
      · split <;> rfl
      · rfl
@[simp] theorem State.faultEntries_cpx (s : State) (n : Nat) (i : Nat → Nat) (ps : List Nat) (d b : Bool) : (s.faultEntries n i ps d b).cpx = s.cpx := by
  unfold State.faultEntries; split
  · split <;> simp
  · dsimp only; rw [foldl_keeps State.cpx _ (fun s p => by simp)]; simp only [State.stageOnset_cpx]
    split
    · rfl
    · split
      · split <;> rfl
      · rfl
@[simp] theorem State.faultEntries_pwr (s : State) (n : Nat) (i : Nat → Nat) (ps : List Nat) (d b : Bool) : (s.faultEntries n i ps d b).pwr = s.pwr := by
  unfold State.faultEntries; split
  · split <;> simp
  · dsimp only; rw [foldl_keeps State.pwr _ (fun s p => by simp)]; simp only [State.stageOnset_pwr]
    split
    · rfl
    · split
      · split <;> rfl
      · rfl
@[simp] theorem State.faultEntries_jtag (s : State) (n : Nat) (i : Nat → Nat) (ps : List Nat) (d b : Bool) : (s.faultEntries n i ps d b).jtag = s.jtag := by
  unfold State.faultEntries; split
  · split <;> simp
  · dsimp only; rw [foldl_keeps State.jtag _ (fun s p => by simp)]; simp only [State.stageOnset_jtag]
    split
    · rfl
    · split
      · split <;> rfl
      · rfl
@[simp] theorem State.faultEntries_out (s : State) (n : Nat) (i : Nat → Nat) (ps : List Nat) (d b : Bool) : (s.faultEntries n i ps d b).out = s.out := by
  unfold State.faultEntries; split
  · split <;> simp
  · dsimp only; rw [foldl_keeps State.out _ (fun s p => by simp)]; simp only [State.stageOnset_out]
    split
    · rfl
    · split
      · split <;> rfl
      · rfl
@[simp] theorem State.faultEntries_freeCtr (s : State) (n : Nat) (i : Nat → Nat) (ps : List Nat) (d b : Bool) : (s.faultEntries n i ps d b).freeCtr = s.freeCtr := by
  unfold State.faultEntries; split
  · split <;> simp
  · dsimp only; rw [foldl_keeps State.freeCtr _ (fun s p => by simp)]; simp only [State.stageOnset_freeCtr]
    split
    · rfl
    · split
      · split <;> rfl
      · rfl
@[simp] theorem State.faultEntries_pending (s : State) (n : Nat) (i : Nat → Nat) (ps : List Nat) (d b : Bool) : (s.faultEntries n i ps d b).pending = s.pending := by
  unfold State.faultEntries; split
  · split <;> simp
  · dsimp only; rw [foldl_keeps State.pending _ (fun s p => by simp)]; simp only [State.stageOnset_pending]
    split
    · rfl
    · split
      · split <;> rfl
      · rfl

@[simp] theorem State.faultInts_regs (s : State) (n : Nat) (ps : List Nat) : (s.faultInts n ps).regs = s.regs := by
  unfold State.faultInts; split
  · rw [foldl_keeps State.regs _ (fun s p => by simp)]
  · rfl
@[simp] theorem State.faultInts_tse (s : State) (n : Nat) (ps : List Nat) : (s.faultInts n ps).tse = s.tse := by
  unfold State.faultInts; split
  · rw [foldl_keeps State.tse _ (fun s p => by simp)]
  · rfl
@[simp] theorem State.faultInts_rim (s : State) (n : Nat) (ps : List Nat) : (s.faultInts n ps).rim = s.rim := by
  unfold State.faultInts; split
  · rw [foldl_keeps State.rim _ (fun s p => by simp)]
  · rfl
@[simp] theorem State.faultInts_gnb (s : State) (n : Nat) (ps : List Nat) : (s.faultInts n ps).gnb = s.gnb := by
  unfold State.faultInts; split
  · rw [foldl_keeps State.gnb _ (fun s p => by simp)]
  · rfl
@[simp] theorem State.faultInts_rsh (s : State) (n : Nat) (ps : List Nat) : (s.faultInts n ps).rsh = s.rsh := by
  unfold State.faultInts; split
  · rw [foldl_keeps State.rsh _ (fun s p => by simp)]
  · rfl
@[simp] theorem State.faultInts_syn (s : State) (n : Nat) (ps : List Nat) : (s.faultInts n ps).syn = s.syn := by
  unfold State.faultInts; split
  · rw [foldl_keeps State.syn _ (fun s p => by simp)]
  · rfl
@[simp] theorem State.faultInts_dsq (s : State) (n : Nat) (ps : List Nat) : (s.faultInts n ps).dsq = s.dsq := by
  unfold State.faultInts; split
  · rw [foldl_keeps State.dsq _ (fun s p => by simp)]
  · rfl
@[simp] theorem State.faultInts_npa (s : State) (n : Nat) (ps : List Nat) : (s.faultInts n ps).npa = s.npa := by
  unfold State.faultInts; split
  · rw [foldl_keeps State.npa _ (fun s p => by simp)]
  · rfl
@[simp] theorem State.faultInts_slg (s : State) (n : Nat) (ps : List Nat) : (s.faultInts n ps).slg = s.slg := by
  unfold State.faultInts; split
  · rw [foldl_keeps State.slg _ (fun s p => by simp)]
  · rfl
@[simp] theorem State.faultInts_tsv (s : State) (n : Nat) (ps : List Nat) : (s.faultInts n ps).tsv = s.tsv := by
  unfold State.faultInts; split
  · rw [foldl_keeps State.tsv _ (fun s p => by simp)]
  · rfl
@[simp] theorem State.faultInts_kvc (s : State) (n : Nat) (ps : List Nat) : (s.faultInts n ps).kvc = s.kvc := by
  unfold State.faultInts; split
  · rw [foldl_keeps State.kvc _ (fun s p => by simp)]
  · rfl
@[simp] theorem State.faultInts_hrl (s : State) (n : Nat) (ps : List Nat) : (s.faultInts n ps).hrl = s.hrl := by
  unfold State.faultInts; split
  · rw [foldl_keeps State.hrl _ (fun s p => by simp)]
  · rfl
@[simp] theorem State.faultInts_sup (s : State) (n : Nat) (ps : List Nat) : (s.faultInts n ps).sup = s.sup := by
  unfold State.faultInts; split
  · rw [foldl_keeps State.sup _ (fun s p => by simp)]
  · rfl
@[simp] theorem State.faultInts_cpx (s : State) (n : Nat) (ps : List Nat) : (s.faultInts n ps).cpx = s.cpx := by
  unfold State.faultInts; split
  · rw [foldl_keeps State.cpx _ (fun s p => by simp)]
  · rfl
@[simp] theorem State.faultInts_pwr (s : State) (n : Nat) (ps : List Nat) : (s.faultInts n ps).pwr = s.pwr := by
  unfold State.faultInts; split
  · rw [foldl_keeps State.pwr _ (fun s p => by simp)]
  · rfl
@[simp] theorem State.faultInts_jtag (s : State) (n : Nat) (ps : List Nat) : (s.faultInts n ps).jtag = s.jtag := by
  unfold State.faultInts; split
  · rw [foldl_keeps State.jtag _ (fun s p => by simp)]
  · rfl
@[simp] theorem State.faultInts_freeCtr (s : State) (n : Nat) (ps : List Nat) : (s.faultInts n ps).freeCtr = s.freeCtr := by
  unfold State.faultInts; split
  · rw [foldl_keeps State.freeCtr _ (fun s p => by simp)]
  · rfl
@[simp] theorem State.faultInts_pending (s : State) (n : Nat) (ps : List Nat) : (s.faultInts n ps).pending = s.pending := by
  unfold State.faultInts; split
  · rw [foldl_keeps State.pending _ (fun s p => by simp)]
  · rfl

@[simp] theorem State.faultNmi_regs (s : State) (n r : Nat) : (s.faultNmi n r).regs = s.regs := by unfold State.faultNmi; split <;> rfl
@[simp] theorem State.faultNmi_tse (s : State) (n r : Nat) : (s.faultNmi n r).tse = s.tse := by unfold State.faultNmi; split <;> rfl
@[simp] theorem State.faultNmi_rim (s : State) (n r : Nat) : (s.faultNmi n r).rim = s.rim := by unfold State.faultNmi; split <;> rfl
@[simp] theorem State.faultNmi_gnb (s : State) (n r : Nat) : (s.faultNmi n r).gnb = s.gnb := by unfold State.faultNmi; split <;> rfl
@[simp] theorem State.faultNmi_rsh (s : State) (n r : Nat) : (s.faultNmi n r).rsh = s.rsh := by unfold State.faultNmi; split <;> rfl
@[simp] theorem State.faultNmi_syn (s : State) (n r : Nat) : (s.faultNmi n r).syn = s.syn := by unfold State.faultNmi; split <;> rfl
@[simp] theorem State.faultNmi_dsq (s : State) (n r : Nat) : (s.faultNmi n r).dsq = s.dsq := by unfold State.faultNmi; split <;> rfl
@[simp] theorem State.faultNmi_npa (s : State) (n r : Nat) : (s.faultNmi n r).npa = s.npa := by unfold State.faultNmi; split <;> rfl
@[simp] theorem State.faultNmi_slg (s : State) (n r : Nat) : (s.faultNmi n r).slg = s.slg := by unfold State.faultNmi; split <;> rfl
@[simp] theorem State.faultNmi_tsv (s : State) (n r : Nat) : (s.faultNmi n r).tsv = s.tsv := by unfold State.faultNmi; split <;> rfl
@[simp] theorem State.faultNmi_kvc (s : State) (n r : Nat) : (s.faultNmi n r).kvc = s.kvc := by unfold State.faultNmi; split <;> rfl
@[simp] theorem State.faultNmi_hrl (s : State) (n r : Nat) : (s.faultNmi n r).hrl = s.hrl := by unfold State.faultNmi; split <;> rfl
@[simp] theorem State.faultNmi_sup (s : State) (n r : Nat) : (s.faultNmi n r).sup = s.sup := by unfold State.faultNmi; split <;> rfl
@[simp] theorem State.faultNmi_par (s : State) (n r : Nat) : (s.faultNmi n r).par = s.par := by unfold State.faultNmi; split <;> rfl
@[simp] theorem State.faultNmi_pwr (s : State) (n r : Nat) : (s.faultNmi n r).pwr = s.pwr := by unfold State.faultNmi; split <;> rfl
@[simp] theorem State.faultNmi_jtag (s : State) (n r : Nat) : (s.faultNmi n r).jtag = s.jtag := by unfold State.faultNmi; split <;> rfl
@[simp] theorem State.faultNmi_freeCtr (s : State) (n r : Nat) : (s.faultNmi n r).freeCtr = s.freeCtr := by unfold State.faultNmi; split <;> rfl
@[simp] theorem State.faultNmi_pending (s : State) (n r : Nat) : (s.faultNmi n r).pending = s.pending := by unfold State.faultNmi; split <;> rfl

@[simp] theorem State.faultBlockReset_regs (s : State) (n m i r : Nat) : (s.faultBlockReset n m i r).regs = s.regs := by unfold State.faultBlockReset; split <;> rfl
@[simp] theorem State.faultBlockReset_tse (s : State) (n m i r : Nat) : (s.faultBlockReset n m i r).tse = s.tse := by unfold State.faultBlockReset; split <;> rfl
@[simp] theorem State.faultBlockReset_rim (s : State) (n m i r : Nat) : (s.faultBlockReset n m i r).rim = s.rim := by unfold State.faultBlockReset; split <;> rfl
@[simp] theorem State.faultBlockReset_gnb (s : State) (n m i r : Nat) : (s.faultBlockReset n m i r).gnb = s.gnb := by unfold State.faultBlockReset; split <;> rfl
@[simp] theorem State.faultBlockReset_rsh (s : State) (n m i r : Nat) : (s.faultBlockReset n m i r).rsh = s.rsh := by unfold State.faultBlockReset; split <;> rfl
@[simp] theorem State.faultBlockReset_syn (s : State) (n m i r : Nat) : (s.faultBlockReset n m i r).syn = s.syn := by unfold State.faultBlockReset; split <;> rfl
@[simp] theorem State.faultBlockReset_dsq (s : State) (n m i r : Nat) : (s.faultBlockReset n m i r).dsq = s.dsq := by unfold State.faultBlockReset; split <;> rfl
@[simp] theorem State.faultBlockReset_npa (s : State) (n m i r : Nat) : (s.faultBlockReset n m i r).npa = s.npa := by unfold State.faultBlockReset; split <;> rfl
@[simp] theorem State.faultBlockReset_slg (s : State) (n m i r : Nat) : (s.faultBlockReset n m i r).slg = s.slg := by unfold State.faultBlockReset; split <;> rfl
@[simp] theorem State.faultBlockReset_tsv (s : State) (n m i r : Nat) : (s.faultBlockReset n m i r).tsv = s.tsv := by unfold State.faultBlockReset; split <;> rfl
@[simp] theorem State.faultBlockReset_kvc (s : State) (n m i r : Nat) : (s.faultBlockReset n m i r).kvc = s.kvc := by unfold State.faultBlockReset; split <;> rfl
@[simp] theorem State.faultBlockReset_hrl (s : State) (n m i r : Nat) : (s.faultBlockReset n m i r).hrl = s.hrl := by unfold State.faultBlockReset; split <;> rfl
@[simp] theorem State.faultBlockReset_par (s : State) (n m i r : Nat) : (s.faultBlockReset n m i r).par = s.par := by unfold State.faultBlockReset; split <;> rfl
@[simp] theorem State.faultBlockReset_cpx (s : State) (n m i r : Nat) : (s.faultBlockReset n m i r).cpx = s.cpx := by unfold State.faultBlockReset; split <;> rfl
@[simp] theorem State.faultBlockReset_pwr (s : State) (n m i r : Nat) : (s.faultBlockReset n m i r).pwr = s.pwr := by unfold State.faultBlockReset; split <;> rfl
@[simp] theorem State.faultBlockReset_jtag (s : State) (n m i r : Nat) : (s.faultBlockReset n m i r).jtag = s.jtag := by unfold State.faultBlockReset; split <;> rfl
@[simp] theorem State.faultBlockReset_out (s : State) (n m i r : Nat) : (s.faultBlockReset n m i r).out = s.out := by unfold State.faultBlockReset; split <;> rfl
@[simp] theorem State.faultBlockReset_freeCtr (s : State) (n m i r : Nat) : (s.faultBlockReset n m i r).freeCtr = s.freeCtr := by unfold State.faultBlockReset; split <;> rfl
@[simp] theorem State.faultBlockReset_pending (s : State) (n m i r : Nat) : (s.faultBlockReset n m i r).pending = s.pending := by unfold State.faultBlockReset; split <;> rfl

@[simp] theorem State.faultChipReset_regs (s : State) (n r : Nat) (d : Bool) : (s.faultChipReset n r d).regs = s.regs := by unfold State.faultChipReset; split <;> rfl
@[simp] theorem State.faultChipReset_tse (s : State) (n r : Nat) (d : Bool) : (s.faultChipReset n r d).tse = s.tse := by unfold State.faultChipReset; split <;> rfl
@[simp] theorem State.faultChipReset_rim (s : State) (n r : Nat) (d : Bool) : (s.faultChipReset n r d).rim = s.rim := by unfold State.faultChipReset; split <;> rfl
@[simp] theorem State.faultChipReset_gnb (s : State) (n r : Nat) (d : Bool) : (s.faultChipReset n r d).gnb = s.gnb := by unfold State.faultChipReset; split <;> rfl
@[simp] theorem State.faultChipReset_rsh (s : State) (n r : Nat) (d : Bool) : (s.faultChipReset n r d).rsh = s.rsh := by unfold State.faultChipReset; split <;> rfl
@[simp] theorem State.faultChipReset_syn (s : State) (n r : Nat) (d : Bool) : (s.faultChipReset n r d).syn = s.syn := by unfold State.faultChipReset; split <;> rfl
@[simp] theorem State.faultChipReset_dsq (s : State) (n r : Nat) (d : Bool) : (s.faultChipReset n r d).dsq = s.dsq := by unfold State.faultChipReset; split <;> rfl
@[simp] theorem State.faultChipReset_npa (s : State) (n r : Nat) (d : Bool) : (s.faultChipReset n r d).npa = s.npa := by unfold State.faultChipReset; split <;> rfl
@[simp] theorem State.faultChipReset_slg (s : State) (n r : Nat) (d : Bool) : (s.faultChipReset n r d).slg = s.slg := by unfold State.faultChipReset; split <;> rfl
@[simp] theorem State.faultChipReset_tsv (s : State) (n r : Nat) (d : Bool) : (s.faultChipReset n r d).tsv = s.tsv := by unfold State.faultChipReset; split <;> rfl
@[simp] theorem State.faultChipReset_kvc (s : State) (n r : Nat) (d : Bool) : (s.faultChipReset n r d).kvc = s.kvc := by unfold State.faultChipReset; split <;> rfl
@[simp] theorem State.faultChipReset_hrl (s : State) (n r : Nat) (d : Bool) : (s.faultChipReset n r d).hrl = s.hrl := by unfold State.faultChipReset; split <;> rfl
@[simp] theorem State.faultChipReset_par (s : State) (n r : Nat) (d : Bool) : (s.faultChipReset n r d).par = s.par := by unfold State.faultChipReset; split <;> rfl
@[simp] theorem State.faultChipReset_cpx (s : State) (n r : Nat) (d : Bool) : (s.faultChipReset n r d).cpx = s.cpx := by unfold State.faultChipReset; split <;> rfl
@[simp] theorem State.faultChipReset_pwr (s : State) (n r : Nat) (d : Bool) : (s.faultChipReset n r d).pwr = s.pwr := by unfold State.faultChipReset; split <;> rfl
@[simp] theorem State.faultChipReset_jtag (s : State) (n r : Nat) (d : Bool) : (s.faultChipReset n r d).jtag = s.jtag := by unfold State.faultChipReset; split <;> rfl
@[simp] theorem State.faultChipReset_out (s : State) (n r : Nat) (d : Bool) : (s.faultChipReset n r d).out = s.out := by unfold State.faultChipReset; split <;> rfl
@[simp] theorem State.faultChipReset_freeCtr (s : State) (n r : Nat) (d : Bool) : (s.faultChipReset n r d).freeCtr = s.freeCtr := by unfold State.faultChipReset; split <;> rfl
@[simp] theorem State.faultChipReset_pending (s : State) (n r : Nat) (d : Bool) : (s.faultChipReset n r d).pending = s.pending := by unfold State.faultChipReset; split <;> rfl

@[simp] theorem State.faultSafe_regs (s : State) (n r : Nat) : (s.faultSafe n r).regs = s.regs := by unfold State.faultSafe; split <;> simp
@[simp] theorem State.faultSafe_tse (s : State) (n r : Nat) : (s.faultSafe n r).tse = s.tse := by unfold State.faultSafe; split <;> simp
@[simp] theorem State.faultSafe_rim (s : State) (n r : Nat) : (s.faultSafe n r).rim = s.rim := by unfold State.faultSafe; split <;> simp
@[simp] theorem State.faultSafe_gnb (s : State) (n r : Nat) : (s.faultSafe n r).gnb = s.gnb := by unfold State.faultSafe; split <;> simp
@[simp] theorem State.faultSafe_rsh (s : State) (n r : Nat) : (s.faultSafe n r).rsh = s.rsh := by unfold State.faultSafe; split <;> simp
@[simp] theorem State.faultSafe_syn (s : State) (n r : Nat) : (s.faultSafe n r).syn = s.syn := by unfold State.faultSafe; split <;> simp
@[simp] theorem State.faultSafe_dsq (s : State) (n r : Nat) : (s.faultSafe n r).dsq = s.dsq := by unfold State.faultSafe; split <;> simp
@[simp] theorem State.faultSafe_npa (s : State) (n r : Nat) : (s.faultSafe n r).npa = s.npa := by unfold State.faultSafe; split <;> simp
@[simp] theorem State.faultSafe_slg (s : State) (n r : Nat) : (s.faultSafe n r).slg = s.slg := by unfold State.faultSafe; split <;> simp
@[simp] theorem State.faultSafe_tsv (s : State) (n r : Nat) : (s.faultSafe n r).tsv = s.tsv := by unfold State.faultSafe; split <;> simp
@[simp] theorem State.faultSafe_kvc (s : State) (n r : Nat) : (s.faultSafe n r).kvc = s.kvc := by unfold State.faultSafe; split <;> simp
@[simp] theorem State.faultSafe_hrl (s : State) (n r : Nat) : (s.faultSafe n r).hrl = s.hrl := by unfold State.faultSafe; split <;> simp
@[simp] theorem State.faultSafe_sup (s : State) (n r : Nat) : (s.faultSafe n r).sup = s.sup := by unfold State.faultSafe; split <;> simp
@[simp] theorem State.faultSafe_par (s : State) (n r : Nat) : (s.faultSafe n r).par = s.par := by unfold State.faultSafe; split <;> simp
@[simp] theorem State.faultSafe_pwr (s : State) (n r : Nat) : (s.faultSafe n r).pwr = s.pwr := by unfold State.faultSafe; split <;> simp
@[simp] theorem State.faultSafe_jtag (s : State) (n r : Nat) : (s.faultSafe n r).jtag = s.jtag := by unfold State.faultSafe; split <;> simp
@[simp] theorem State.faultSafe_out (s : State) (n r : Nat) : (s.faultSafe n r).out = s.out := by unfold State.faultSafe; split <;> simp
@[simp] theorem State.faultSafe_freeCtr (s : State) (n r : Nat) : (s.faultSafe n r).freeCtr = s.freeCtr := by unfold State.faultSafe; split <;> simp
@[simp] theorem State.faultSafe_pending (s : State) (n r : Nat) : (s.faultSafe n r).pending = s.pending := by unfold State.faultSafe; split <;> simp

@[simp] theorem State.faultCore_tse (s : State) (n m r : Nat) (i : Nat → Nat) (b : Bool) (ln : Nat) : (s.faultCore n m r i b ln).tse = s.tse := by unfold State.faultCore; split <;> simp
@[simp] theorem State.faultCore_rim (s : State) (n m r : Nat) (i : Nat → Nat) (b : Bool) (ln : Nat) : (s.faultCore n m r i b ln).rim = s.rim := by unfold State.faultCore; split <;> simp
@[simp] theorem State.faultCore_gnb (s : State) (n m r : Nat) (i : Nat → Nat) (b : Bool) (ln : Nat) : (s.faultCore n m r i b ln).gnb = s.gnb := by unfold State.faultCore; split <;> simp
@[simp] theorem State.faultCore_rsh (s : State) (n m r : Nat) (i : Nat → Nat) (b : Bool) (ln : Nat) : (s.faultCore n m r i b ln).rsh = s.rsh := by unfold State.faultCore; split <;> simp
@[simp] theorem State.faultCore_syn (s : State) (n m r : Nat) (i : Nat → Nat) (b : Bool) (ln : Nat) : (s.faultCore n m r i b ln).syn = s.syn := by unfold State.faultCore; split <;> simp
@[simp] theorem State.faultCore_dsq (s : State) (n m r : Nat) (i : Nat → Nat) (b : Bool) (ln : Nat) : (s.faultCore n m r i b ln).dsq = s.dsq := by unfold State.faultCore; split <;> simp
@[simp] theorem State.faultCore_npa (s : State) (n m r : Nat) (i : Nat → Nat) (b : Bool) (ln : Nat) : (s.faultCore n m r i b ln).npa = s.npa := by unfold State.faultCore; split <;> simp
@[simp] theorem State.faultCore_slg (s : State) (n m r : Nat) (i : Nat → Nat) (b : Bool) (ln : Nat) : (s.faultCore n m r i b ln).slg = s.slg := by unfold State.faultCore; split <;> simp
@[simp] theorem State.faultCore_tsv (s : State) (n m r : Nat) (i : Nat → Nat) (b : Bool) (ln : Nat) : (s.faultCore n m r i b ln).tsv = s.tsv := by unfold State.faultCore; split <;> simp
@[simp] theorem State.faultCore_kvc (s : State) (n m r : Nat) (i : Nat → Nat) (b : Bool) (ln : Nat) : (s.faultCore n m r i b ln).kvc = s.kvc := by unfold State.faultCore; split <;> simp
@[simp] theorem State.faultCore_hrl (s : State) (n m r : Nat) (i : Nat → Nat) (b : Bool) (ln : Nat) : (s.faultCore n m r i b ln).hrl = s.hrl := by unfold State.faultCore; split <;> simp
@[simp] theorem State.faultCore_pwr (s : State) (n m r : Nat) (i : Nat → Nat) (b : Bool) (ln : Nat) : (s.faultCore n m r i b ln).pwr = s.pwr := by unfold State.faultCore; split <;> simp
@[simp] theorem State.faultCore_jtag (s : State) (n m r : Nat) (i : Nat → Nat) (b : Bool) (ln : Nat) : (s.faultCore n m r i b ln).jtag = s.jtag := by unfold State.faultCore; split <;> simp
@[simp] theorem State.faultCore_freeCtr (s : State) (n m r : Nat) (i : Nat → Nat) (b : Bool) (ln : Nat) : (s.faultCore n m r i b ln).freeCtr = s.freeCtr := by unfold State.faultCore; split <;> simp
@[simp] theorem State.faultCore_pending (s : State) (n m r : Nat) (i : Nat → Nat) (b : Bool) (ln : Nat) : (s.faultCore n m r i b ln).pending = s.pending := by unfold State.faultCore; split <;> simp

@[simp] theorem State.pulse_tse (s : State) (n p i : Nat) (b : Bool) (ln : Nat) : (s.pulse n p i b ln).tse = s.tse := by unfold State.pulse; simp
@[simp] theorem State.pulse_rim (s : State) (n p i : Nat) (b : Bool) (ln : Nat) : (s.pulse n p i b ln).rim = s.rim := by unfold State.pulse; simp
@[simp] theorem State.pulse_gnb (s : State) (n p i : Nat) (b : Bool) (ln : Nat) : (s.pulse n p i b ln).gnb = s.gnb := by unfold State.pulse; simp
@[simp] theorem State.pulse_rsh (s : State) (n p i : Nat) (b : Bool) (ln : Nat) : (s.pulse n p i b ln).rsh = s.rsh := by unfold State.pulse; simp
@[simp] theorem State.pulse_syn (s : State) (n p i : Nat) (b : Bool) (ln : Nat) : (s.pulse n p i b ln).syn = s.syn := by unfold State.pulse; simp
@[simp] theorem State.pulse_dsq (s : State) (n p i : Nat) (b : Bool) (ln : Nat) : (s.pulse n p i b ln).dsq = s.dsq := by unfold State.pulse; simp
@[simp] theorem State.pulse_npa (s : State) (n p i : Nat) (b : Bool) (ln : Nat) : (s.pulse n p i b ln).npa = s.npa := by unfold State.pulse; simp
@[simp] theorem State.pulse_slg (s : State) (n p i : Nat) (b : Bool) (ln : Nat) : (s.pulse n p i b ln).slg = s.slg := by unfold State.pulse; simp
@[simp] theorem State.pulse_tsv (s : State) (n p i : Nat) (b : Bool) (ln : Nat) : (s.pulse n p i b ln).tsv = s.tsv := by unfold State.pulse; simp
@[simp] theorem State.pulse_kvc (s : State) (n p i : Nat) (b : Bool) (ln : Nat) : (s.pulse n p i b ln).kvc = s.kvc := by unfold State.pulse; simp
@[simp] theorem State.pulse_hrl (s : State) (n p i : Nat) (b : Bool) (ln : Nat) : (s.pulse n p i b ln).hrl = s.hrl := by unfold State.pulse; simp
@[simp] theorem State.pulse_pwr (s : State) (n p i : Nat) (b : Bool) (ln : Nat) : (s.pulse n p i b ln).pwr = s.pwr := by unfold State.pulse; simp
@[simp] theorem State.pulse_jtag (s : State) (n p i : Nat) (b : Bool) (ln : Nat) : (s.pulse n p i b ln).jtag = s.jtag := by unfold State.pulse; simp
@[simp] theorem State.pulse_freeCtr (s : State) (n p i : Nat) (b : Bool) (ln : Nat) : (s.pulse n p i b ln).freeCtr = s.freeCtr := by unfold State.pulse; simp
@[simp] theorem State.pulse_pending (s : State) (n p i : Nat) (b : Bool) (ln : Nat) : (s.pulse n p i b ln).pending = s.pending := by unfold State.pulse; simp

@[simp] theorem State.level_tse (s : State) (n m : Nat) (i : Nat → Nat) : (s.level n m i).tse = s.tse := by unfold State.level; simp
@[simp] theorem State.level_rim (s : State) (n m : Nat) (i : Nat → Nat) : (s.level n m i).rim = s.rim := by unfold State.level; simp
@[simp] theorem State.level_gnb (s : State) (n m : Nat) (i : Nat → Nat) : (s.level n m i).gnb = s.gnb := by unfold State.level; simp
@[simp] theorem State.level_rsh (s : State) (n m : Nat) (i : Nat → Nat) : (s.level n m i).rsh = s.rsh := by unfold State.level; simp
@[simp] theorem State.level_syn (s : State) (n m : Nat) (i : Nat → Nat) : (s.level n m i).syn = s.syn := by unfold State.level; simp
@[simp] theorem State.level_dsq (s : State) (n m : Nat) (i : Nat → Nat) : (s.level n m i).dsq = s.dsq := by unfold State.level; simp
@[simp] theorem State.level_npa (s : State) (n m : Nat) (i : Nat → Nat) : (s.level n m i).npa = s.npa := by unfold State.level; simp
@[simp] theorem State.level_slg (s : State) (n m : Nat) (i : Nat → Nat) : (s.level n m i).slg = s.slg := by unfold State.level; simp
@[simp] theorem State.level_tsv (s : State) (n m : Nat) (i : Nat → Nat) : (s.level n m i).tsv = s.tsv := by unfold State.level; simp
@[simp] theorem State.level_kvc (s : State) (n m : Nat) (i : Nat → Nat) : (s.level n m i).kvc = s.kvc := by unfold State.level; simp
@[simp] theorem State.level_hrl (s : State) (n m : Nat) (i : Nat → Nat) : (s.level n m i).hrl = s.hrl := by unfold State.level; simp
@[simp] theorem State.level_pwr (s : State) (n m : Nat) (i : Nat → Nat) : (s.level n m i).pwr = s.pwr := by unfold State.level; simp
@[simp] theorem State.level_jtag (s : State) (n m : Nat) (i : Nat → Nat) : (s.level n m i).jtag = s.jtag := by unfold State.level; simp
@[simp] theorem State.level_freeCtr (s : State) (n m : Nat) (i : Nat → Nat) : (s.level n m i).freeCtr = s.freeCtr := by unfold State.level; simp
@[simp] theorem State.level_pending (s : State) (n m : Nat) (i : Nat → Nat) : (s.level n m i).pending = s.pending := by unfold State.level; simp

@[simp] theorem State.refresh_tse (s : State) (n : Nat) : (s.refresh n).tse = s.tse := by unfold State.refresh; dsimp only; split <;> simp
@[simp] theorem State.refresh_rim (s : State) (n : Nat) : (s.refresh n).rim = s.rim := by unfold State.refresh; dsimp only; split <;> simp
@[simp] theorem State.refresh_gnb (s : State) (n : Nat) : (s.refresh n).gnb = s.gnb := by unfold State.refresh; dsimp only; split <;> simp
@[simp] theorem State.refresh_rsh (s : State) (n : Nat) : (s.refresh n).rsh = s.rsh := by unfold State.refresh; dsimp only; split <;> simp
@[simp] theorem State.refresh_syn (s : State) (n : Nat) : (s.refresh n).syn = s.syn := by unfold State.refresh; dsimp only; split <;> simp
@[simp] theorem State.refresh_dsq (s : State) (n : Nat) : (s.refresh n).dsq = s.dsq := by unfold State.refresh; dsimp only; split <;> simp
@[simp] theorem State.refresh_npa (s : State) (n : Nat) : (s.refresh n).npa = s.npa := by unfold State.refresh; dsimp only; split <;> simp
@[simp] theorem State.refresh_slg (s : State) (n : Nat) : (s.refresh n).slg = s.slg := by unfold State.refresh; dsimp only; split <;> simp
@[simp] theorem State.refresh_tsv (s : State) (n : Nat) : (s.refresh n).tsv = s.tsv := by unfold State.refresh; dsimp only; split <;> simp
@[simp] theorem State.refresh_kvc (s : State) (n : Nat) : (s.refresh n).kvc = s.kvc := by unfold State.refresh; dsimp only; split <;> simp
@[simp] theorem State.refresh_hrl (s : State) (n : Nat) : (s.refresh n).hrl = s.hrl := by unfold State.refresh; dsimp only; split <;> simp
@[simp] theorem State.refresh_pwr (s : State) (n : Nat) : (s.refresh n).pwr = s.pwr := by unfold State.refresh; dsimp only; split <;> simp
@[simp] theorem State.refresh_jtag (s : State) (n : Nat) : (s.refresh n).jtag = s.jtag := by unfold State.refresh; dsimp only; split <;> simp
@[simp] theorem State.refresh_freeCtr (s : State) (n : Nat) : (s.refresh n).freeCtr = s.freeCtr := by unfold State.refresh; dsimp only; split <;> simp
@[simp] theorem State.refresh_pending (s : State) (n : Nat) : (s.refresh n).pending = s.pending := by unfold State.refresh; dsimp only; split <;> simp

@[simp] theorem State.refreshAll_tse (s : State) (l : List Nat) : (s.refreshAll l).tse = s.tse := foldl_keeps State.tse _ (fun s p => by simp) l s
@[simp] theorem State.refreshAll_rim (s : State) (l : List Nat) : (s.refreshAll l).rim = s.rim := foldl_keeps State.rim _ (fun s p => by simp) l s
@[simp] theorem State.refreshAll_gnb (s : State) (l : List Nat) : (s.refreshAll l).gnb = s.gnb := foldl_keeps State.gnb _ (fun s p => by simp) l s
@[simp] theorem State.refreshAll_rsh (s : State) (l : List Nat) : (s.refreshAll l).rsh = s.rsh := foldl_keeps State.rsh _ (fun s p => by simp) l s
@[simp] theorem State.refreshAll_syn (s : State) (l : List Nat) : (s.refreshAll l).syn = s.syn := foldl_keeps State.syn _ (fun s p => by simp) l s
@[simp] theorem State.refreshAll_dsq (s : State) (l : List Nat) : (s.refreshAll l).dsq = s.dsq := foldl_keeps State.dsq _ (fun s p => by simp) l s
@[simp] theorem State.refreshAll_npa (s : State) (l : List Nat) : (s.refreshAll l).npa = s.npa := foldl_keeps State.npa _ (fun s p => by simp) l s
@[simp] theorem State.refreshAll_slg (s : State) (l : List Nat) : (s.refreshAll l).slg = s.slg := foldl_keeps State.slg _ (fun s p => by simp) l s
@[simp] theorem State.refreshAll_tsv (s : State) (l : List Nat) : (s.refreshAll l).tsv = s.tsv := foldl_keeps State.tsv _ (fun s p => by simp) l s
@[simp] theorem State.refreshAll_kvc (s : State) (l : List Nat) : (s.refreshAll l).kvc = s.kvc := foldl_keeps State.kvc _ (fun s p => by simp) l s
@[simp] theorem State.refreshAll_hrl (s : State) (l : List Nat) : (s.refreshAll l).hrl = s.hrl := foldl_keeps State.hrl _ (fun s p => by simp) l s
@[simp] theorem State.refreshAll_pwr (s : State) (l : List Nat) : (s.refreshAll l).pwr = s.pwr := foldl_keeps State.pwr _ (fun s p => by simp) l s
@[simp] theorem State.refreshAll_jtag (s : State) (l : List Nat) : (s.refreshAll l).jtag = s.jtag := foldl_keeps State.jtag _ (fun s p => by simp) l s
@[simp] theorem State.refreshAll_freeCtr (s : State) (l : List Nat) : (s.refreshAll l).freeCtr = s.freeCtr := foldl_keeps State.freeCtr _ (fun s p => by simp) l s
@[simp] theorem State.refreshAll_pending (s : State) (l : List Nat) : (s.refreshAll l).pending = s.pending := foldl_keeps State.pending _ (fun s p => by simp) l s

/-! ### How a command is judged (R16, R19, R646, R712) -/

theorem State.runCmd_unserved (s eff : State) (c : Caller) (op : Nat) (l : List (Bool × Status)) (r : List Byte)
    (h : s.served = false) : s.runCmd c op l eff r = s := by simp [State.runCmd, h]

theorem State.runCmd_illegal (s eff : State) (c : Caller) (op : Nat) (l : List (Bool × Status)) (r : List Byte)
    (h : s.served = true) (hl : s.legal op = false) :
    s.runCmd c op l eff r = (s.logRefused c op (s.cCmdId c)).complete c op .refusedMode := by simp [State.runCmd, h, hl]

/-- A command whose checks all pass has its effect and completes with OK. -/
theorem State.runCmd_ok (s eff : State) (c : Caller) (op : Nat) (l : List (Bool × Status)) (r : List Byte)
    (h : s.served = true) (hl : s.legal op = true) (hf : firstFail l = none) :
    s.runCmd c op l eff r = eff.complete c op .ok r := by simp [State.runCmd, h, hl, hf]

/-- A command that fails a check completes with that check's status, and nothing else. -/
theorem State.runCmd_fail (s eff : State) (c : Caller) (op : Nat) (l : List (Bool × Status)) (r : List Byte) (st : Status)
    (h : s.served = true) (hl : s.legal op = true) (hf : firstFail l = some st) :
    s.runCmd c op l eff r = s.complete c op st := by simp [State.runCmd, h, hl, hf]

end Sys2Proof.Machine
end

