-- ==== Sys2Proof/Laws/Memory.lean ====
section
/-! SUPPORT. The addressed stores: every memory operation keeps the canonical form, and a read after a write. -/
namespace Sys2Proof.Machine

theorem State.memWf_iff (s : State) : s.memWf = true ↔
    tabWf 0 s.regs = true ∧ tabWf 0 s.dsq.isram = true ∧ tabWf 0 s.dsq.dsram = true ∧ tabWf 0 s.cpx.sram = true ∧
      tabWf 0 s.gnb.bank = true := by simp [State.memWf, and_assoc]

/-- The canonical form depends on the five stores alone. -/
theorem State.memWf_congr {s t : State} (hs : s.memWf = true) (hr : t.regs = s.regs) (hi : t.dsq.isram = s.dsq.isram)
    (hd : t.dsq.dsram = s.dsq.dsram) (hc : t.cpx.sram = s.cpx.sram) (hb : t.gnb.bank = s.gnb.bank) : t.memWf = true := by
  simp only [State.memWf, hr, hi, hd, hc, hb]; exact hs

/-- The reset memory is in canonical form. -/
theorem reset_memWf : State.reset.memWf = true := rfl

/-! ### Registers -/

theorem State.memWf_wr (s : State) (r : RegId) (w : Word) (i j : Nat) (h : s.memWf = true) : (s.wr r w i j).memWf = true := by
  rw [State.memWf_iff] at h ⊢
  exact ⟨tabWf_tabSet _ _ _ _ h.1, h.2⟩

theorem State.memWf_put (s : State) (f : Field) (v i j : Nat) (h : s.memWf = true) : (s.put f v i j).memWf = true :=
  State.memWf_wr _ _ _ _ _ h

theorem State.memWf_putB (s : State) (f : Field) (b : Bool) (i j : Nat) (h : s.memWf = true) : (s.putB f b i j).memWf = true :=
  State.memWf_wr _ _ _ _ _ h

theorem State.memWf_putI (s : State) (f : Field) (x : Int) (i j : Nat) (h : s.memWf = true) : (s.putI f x i j).memWf = true :=
  State.memWf_wr _ _ _ _ _ h

theorem State.memWf_bump (s : State) (f : Field) (v i j : Nat) (h : s.memWf = true) : (s.bump f v i j).memWf = true :=
  State.memWf_wr _ _ _ _ _ h

theorem State.memWf_wrap (s : State) (f : Field) (v i j : Nat) (h : s.memWf = true) : (s.wrap f v i j).memWf = true :=
  State.memWf_wr _ _ _ _ _ h

/-! ### The SRAMs of DSQ -/

theorem State.memWf_setDword (s : State) (a : Nat) (w : Word) (h : s.memWf = true) : (s.setDword a w).memWf = true := by
  rw [State.memWf_iff] at h ⊢
  exact ⟨h.1, h.2.1, tabWf_tabSet _ _ _ _ h.2.2.1, h.2.2.2⟩

/-- A location of data SRAM read after it was written. -/
theorem State.dword_setDword_same (s : State) (a : Nat) (w : Word) : (s.setDword a w).dword a = w := by
  simp only [State.dword, State.setDword, tabGet_tabSet_same]

/-- Another location of data SRAM is not changed. -/
theorem State.dword_setDword_ne (s : State) (a b : Nat) (w : Word) (h : (b - 0x2400000) / 8 ≠ (a - 0x2400000) / 8) :
    (s.setDword a w).dword b = s.dword b := by
  simp only [State.dword, State.setDword, tabGet_tabSet_ne _ _ _ h]

theorem tabWf_putCode : ∀ (f k : Nat) (l : List Byte) (t : Tab Nat), tabWf 0 t = true → tabWf 0 (putCode f k l t) = true
  | 0, _, _, _, h => h
  | f + 1, _, _, _, h => tabWf_putCode f _ _ _ (tabWf_tabSet _ _ _ _ h)

theorem tabWf_putData : ∀ (f k : Nat) (l : List Byte) (t : Tab Word), tabWf 0 t = true → tabWf 0 (putData f k l t) = true
  | 0, _, _, _, h => h
  | f + 1, _, _, _, h => tabWf_putData f _ _ _ (tabWf_tabSet _ _ _ _ h)

theorem State.memWf_drvInstall (s : State) (b : List Byte) (boot : Bool) (h : s.memWf = true) :
    (s.drvInstall b boot).memWf = true := by
  rw [State.memWf_iff] at h ⊢
  unfold State.drvInstall
  generalize (drvImage b boot).codeLen / 4 = n
  generalize (drvImage b boot).dataLen / 8 = m
  generalize ((drvImage b boot).dataBase - 0x2400000) / 8 = k
  exact ⟨h.1, tabWf_putCode _ _ _ _ h.2.1, tabWf_putData _ _ _ _ h.2.2.1, h.2.2.2⟩

/-! ### CP SRAM -/

theorem State.memWf_setIsram (s : State) (t : Tab Nat) (h : s.memWf = true) (ht : tabWf 0 t = true) :
    State.memWf { s with dsq := { s.dsq with isram := t } } = true := by
  rw [State.memWf_iff] at h ⊢
  exact ⟨h.1, ht, h.2.2⟩

theorem State.memWf_setCpSram (s : State) (t : Tab Word) (h : s.memWf = true) (ht : tabWf 0 t = true) :
    State.memWf { s with cpx := { s.cpx with sram := t } } = true := by
  rw [State.memWf_iff] at h ⊢
  exact ⟨h.1, h.2.1, h.2.2.1, ht, h.2.2.2.2⟩

/-- A write of a CP core, to CP SRAM or to the instruction SRAM. -/
theorem State.memWf_cpWrite (s : State) (a : Nat) (h : Half) (w : Word) (hs : s.memWf = true) : (s.cpWrite a h w).memWf = true := by
  have hc := (State.memWf_iff s).mp hs
  unfold State.cpWrite
  split
  · exact State.memWf_setCpSram _ _ hs (tabWf_tabSet _ _ _ _ hc.2.2.2.1)
  · split
    · exact State.memWf_setIsram _ _ hs (tabWf_tabSet _ _ _ _ (tabWf_tabSet _ _ _ _ hc.2.1))
    · exact hs

/-! ### The measurement banks of GNB -/

theorem tabWf_putWords (t : Tab Word) (off : Nat) (l : List Word) (h : tabWf 0 t = true) : tabWf 0 (putWords t off l) = true := by
  unfold putWords
  generalize l.zipIdx = z
  induction z generalizing t with
  | nil => exact h
  | cons e z ih => exact ih _ (tabWf_tabSet _ _ _ _ h)

/-! ### Resets -/

theorem State.memWf_chipReset (s : State) : s.chipReset.memWf = true := by
  unfold State.chipReset State.vbatRegs
  exact State.memWf_putB _ _ _ _ _ (State.memWf_wr _ _ _ _ _ (State.memWf_wr _ _ _ _ _ (State.memWf_wr _ _ _ _ _ rfl)))

theorem State.memWf_coldReset (s : State) : s.coldReset.memWf = true := s.memWf_chipReset

end Sys2Proof.Machine
end

