-- ==== Sys2Proof/Tests/Slice0.lean ====
section
/-! SUPPORT. Small tests: ill-formed operands are refused, single steps give what the spec gives, and for every statement with
hypotheses concrete states and operands that meet them (`wit_<statement>`; a clause each, at the edge of its range). -/
namespace Sys2Proof.Tests
set_option Elab.async false
open Sys2Proof Sys2Proof.Machine

/-! ### Small states -/

/-- The block in a mode, out of reset, CLK_TSE proven. -/
def up (m : Mode) : State := { cpx := { mode := m, inReset := false }, pwr := { tseProven := true } }

/-- In TRACK, domain 5 STEERED, RUNNING, seeded, of partition 0. -/
def steered : State := (up .track).setDom 5 { kind := .steered, st := .running, unseeded := false, lost := false }

def alarmIn (s : State) (k : Nat) (a : Alarm) : State := { s with tse := { s.tse with alarms := tabSet {} s.tse.alarms k a } }

/-- One due alarm of a kind. -/
def dueOf (k : AlarmKind) (target period : Nat) (step : Bool) : Due :=
  { slot := 9, al := { st := .armed, kind := k, target := target, period := period, inst := 1000 }, lat := 7, step := step }

/-- That alarm at the front of what is due. -/
def firing (k : AlarmKind) (target : Nat) : State := { up .track with tse := { due := [dueOf k target 0 false] } }

/-- That alarm in its slot, which the block has armed, or has released while it was due. -/
def slotIn (st : AlarmState) (k : AlarmKind) (target : Nat) : State :=
  { up .track with tse := { alarms := [(9, { (dueOf k target 0 false).al with st := st })] } }

/-- Input 23 set to SE at 10 MHz, its limits in order, PRESENT. -/
def liveIn : State :=
  (((((up .track).put F.inCfg_MODE 1 23).put F.inNom_NOM_FREQ (10000000 * 65536) 23).put F.inFmLim_REJ 2000 23).put
    F.inFmLim_ACC 1000 23).putB F.inStat_PRESENT true 23

/-- TDC 63 in a state of its calibration, in its n-th attempt. -/
def tdcIn (st n : Nat) : State :=
  let s := (up .track).put F.tdcStat_STATE st 63
  { s with rim := { tdcs := [(63, { attempt := n })] } }

/-- Histograms that pass R133. -/
def evenPhases : List Nat := List.replicate 8 2097152
def evenBins : List Nat := List.replicate 160 104857 ++ [96] ++ List.replicate 95 0

theorem reset_parentsLower : State.reset.parentsLower := by
  intro n h
  simp only [State.dom, State.reset, tabGet] at h
  split at h <;> cases h

/-- Domain 31 DERIVED from domain 30. -/
def derivedIn : State := State.reset.setDom 31 { kind := .derived, st := .running, parent := 30 }

theorem derivedIn_parentsLower : derivedIn.parentsLower := by
  intro n h
  by_cases e : n = 31
  · subst e; decide
  · exfalso
    have hn : derivedIn.dom n = State.reset.dom n := by
      simp only [derivedIn, State.dom, State.setDom, tabGet_tabSet_ne _ _ _ e]
    rw [hn] at h
    exact absurd (reset_parentsLower n h) (by simp only [State.dom, State.reset, tabGet] at h; split at h <;> cases h)

/-- The monitor of input 23: an edge before the early limit after another one, and one that is not (R821). -/
theorem wit_MonitorsJudgeInputs_early :
    let s := liveIn.setMon 23 { seen := true }
    s.inLive 23 = true ∧ s.tse.due = [] ∧ true ≠ s.getB F.inCfg_SLOPE 23 ∧ (s.mon 23).pre = 0 ∧ (s.mon 23).seen = true ∧
      ((((s.mon 23).gap + 1 : Nat) : Rat) / 1250000000 < (min 3 (s.get F.inAct_EARLY 23) : Rat) / 4 *
        (2 ^ s.get F.inCfg_PRESCALE 23 / (s.get F.inNom_NOM_FREQ 23 / 65536))) := by decide +kernel

theorem wit_MonitorsJudgeInputs_first : liveIn.inLive 23 = true ∧ liveIn.tse.due = [] ∧ true ≠ liveIn.getB F.inCfg_SLOPE 23 ∧
    (liveIn.mon 23).pre = 0 ∧ (liveIn.mon 23).seen = false := by decide +kernel

/-- A state with fields set: field, value, index. -/
def sets (s : State) (l : List (Field × Nat × Nat)) : State := l.foldl (fun s e => s.put e.1 e.2.1 e.2.2) s

/-- GPS L1 C/A on port 0 at its carrier, GNB running; channel 191 in a state. -/
def gnbIn (m : Mode) (ch : Nat) : State :=
  sets (up m) [(F.gspCfg_ENABLE, 1, 0), (F.gspLo_LO, 1575420000 * 65536, 0), (F.gnbCfg_SIG_EN, 1023, 0), (F.gnbCtl_RUN, 1, 0),
    (F.chStat_STATE, ch, 191), (F.chStat_SIGNAL, 1, 191)]

/-- RSH in a state, AOI present, D0 RUNNING. -/
def rshIn (m : Mode) (st : Nat) : State :=
  (sets (up m) [(F.rshStat_STATE, st, 0), (F.rimAoiIn_VALID, 1, 0)]).setDom 0 { kind := .ref, st := .running }

def holdIn : State := (rshIn .holdover 4).setDom 0 { kind := .ref, st := .running, hold := true, bound := 0 }

/-- ADPLL 7 in a state, with its target. -/
def synIn (st tf : Nat) (a : Adpll) : State :=
  { sets (up .track) [(F.synStat_STATE, st, 7), (F.synFreq_TARGET_F, tf, 7)] with syn := { adplls := [(7, a)] } }

def gateFree : Sched := { sec := 1, edge := 0, qerr := 0, sigma := 0, allow := 0, flags := 2 ^ 27 }

/-- Event output 7 enabled. -/
def evoIn : State := (up .track).putB F.evoCfg_EN true 7

def hz (f : Nat) : Nat := f * 16777216

/-- Thread 127 in a state at the start of an image of partition 0, with its data region and a slot left. -/
def thrIn (st : Nat) : State :=
  { (sets (steered) [(F.thrStat_STATE, st, 127), (F.thrStat_PC, 256, 127), (F.dsqDwin_SIZE, 256, 0), (F.tseAlmQuota_QUOTA, 4096, 0),
      (F.qCfg_EN, 1, 255), (F.qCfg_DEPTH, 1, 255), (F.dsqNotify_EXC_EN, 1, 0), (F.dsqNotify_EXC_Q, 255, 0),
      (F.dsqNotify_SMP_EN, 1, 0), (F.dsqNotify_SMP_Q, 255, 0)]) with
    dsq := { images := [{ part := 0, priv := false, codeBase := 256, codeLen := 8, dataBase := 0x2400000, dataLen := 4096, version := 1,
                          entries := [], boot := false }] } }

/-- G1 of that thread set. -/
def g1 (s : State) (w : Nat) : State := s.wr .thrG (BitVec.ofNat 64 w) 127 1

def withQ (s : State) (q : Queue) : State := { s with dsq := { s.dsq with queues := [(255, q)] } }

/-- Escrow 3 of partition 0 in a state. -/
def escIn (s : State) (st : Nat) : State := s.put F.escStat_STATE st 3

def withStaged (s : State) (l : List (Nat × Word × Bool)) : State := { s with dsq := { s.dsq with staged := [(3, l)] } }

def withT (s : State) (x : TReg) : State := s.setTreg 127 0 x

/-- Ports 62 and 63 on single lanes, enabled, with LINK and locked lanes; the vault's slot 255 a key of type `ty`; service address 63
an NTP server at 10.0.0.2 on port 63; random numbers, keys and rings present. -/
def portIn (ty : Nat) : State :=
  let s := sets steered [(F.octCfg_LMODE, 0x11000000, 7), (F.portCfg_EN, 1, 62), (F.portCfg_EN, 1, 63), (F.portStat_LINK, 1, 63),
    (F.laneStat_PCS_LOCK, 1, 63), (F.portCfg_MAX_FRAME, 1522, 63), (F.tseAlmQuota_QUOTA, 4096, 0),
    (F.slgPringCfg_EN, 1, 0), (F.slgCringCfg_EN, 1, 0), (F.vsCfg_STATE, 1, 255), (F.vsCfg_TYPE, ty, 255), (F.vsCfg_ATTR, 255, 255),
    (F.kvcStat_ROOT_VALID, 1, 0), (F.kvcStat_KAT_OK, 1, 0), (F.kvcStat_RNG_OK, 1, 0), (F.svcCfg_EN, 1, 63), (F.svcCfg_PORT, 63, 63),
    (F.svcCfg_TRANSPORT, 1, 63), (F.svcAddrLo_ADDR, 0x0a000002, 63), (F.svcCfg_NTP, 1, 63), (F.svcKeys_CUR_VALID, 1, 63),
    (F.svcKeys_NTS_CUR, 255, 63)]
  { s with kvc := { derived := .all } }

/-- The pair of ports 62 and 63. -/
def pairIn (ty : Nat) : State :=
  sets (portIn ty) [(F.portCfg_ROLE, 1, 62), (F.portCfg_ROLE, 1, 63), (F.pairCfg_ACTIVE, 1, 62), (F.pairCfg_ACTIVE, 1, 63),
    (F.pairCfg_PARTNER, 63, 62), (F.pairCfg_PARTNER, 62, 63)]

def withPort (s : State) (x : NPort) : State := { s with npa := { s.npa with ports := [(63, x)] } }

def frame60 : List Byte := List.replicate 60 0

/-- An IPv4 frame to 10.0.0.2, UDP port 123, without a UDP checksum. -/
def ntpFrame (pay : List Byte) : List Byte :=
  List.replicate 12 0 ++ [8, 0, 0x45, 0] ++ beBytes 2 (28 + pay.length) ++ [0, 0, 0, 0, 64, 17, 0, 0, 10, 0, 0, 1, 10, 0, 0, 2, 0, 123, 0, 123] ++
    beBytes 2 (8 + pay.length) ++ [0, 0] ++ pay

/-- An NTP client request. -/
def ntpReq : List Byte := ntpFrame (0x23 :: List.replicate 47 0)

/-- Exchange context 7 of service address 63. -/
def xcIn (s : State) (x : Xc) : State := { s with tsv := { s.tsv with xcs := [(7, some x)] } }

def xcOf (st : XStage) (m : XMsg) (f : List Byte) : Xc := { part := 0, svc := 63, msg := m, frame := f, rx := 0, stage := st }

def page0 : SlgPage := { flags := 0, pseq := 0, part := 0, body := List.replicate 126 0 }

/-- A full page but for its tag, of this device. -/
def pageHead : List Byte := [1, 0, 0, 0, 0, 0, 0, 0] ++ deviceId ++ List.replicate 128 0

def assocOf (exp : Nat) : Assoc := { addr := [], portId := [], svc := 63, h1 := 0, sync := { exp := exp } }

/-- An empty police table counts nothing for any client. -/
theorem police_empty (s : State) (h : s.tsv.police = []) (a : List Byte) : (s.policeOf a).1 = 0 := by
  simp only [State.policeOf, h, tabGet]
  cases e : List.find? (fun e : Nat × Nat => e.1 == _) (List.replicate 16 (0, 0)) with
  | none => rfl
  | some p =>
    have hp := List.mem_of_find?_eq_some e
    obtain ⟨-, rfl⟩ := List.mem_replicate.mp hp
    rfl


/-- Vault slot 255 with a current generation, blob memory enabled. -/
def vaultIn (ty gen : Nat) (x : VSlot) : State :=
  { sets (portIn ty) [(F.kvcBlobBase_EN, 1, 0), (F.vsGen_CUR_GEN, gen, 255), (F.vsPins_CUR_PINS, 2 ^ 20 - 1, 255)] with
    kvc := { derived := .all, slots := [(255, x)], lru := [255] } }

def matOf (res : Bool) : KeyMat := { key := List.replicate 32 7, pos := 0, resident := res }

/-- The blob of a key of 32 bytes for slot 255. -/
def blob255 (s : State) (gen : Nat) : List Byte := s.blobOf 0 6 8 gen 5 (List.replicate 32 7)

def inMode (s : State) (m : Mode) : State := { s with cpx := { s.cpx with mode := m } }

/-- A node of index `idx` in a ring with node 14, its steward, whose node ID is 5; the own index 15 has node ID 6 there. -/
def ringIn (st role idx : Nat) (h : Hrl) : State :=
  { sets (portIn 1) [(F.hrlStat_STATE, st, 0), (F.hrlStat_ROLE, role, 0), (F.hrlStat_INDEX, idx, 0), (F.hrlStat_STEWARD, 14, 0),
      (F.hrlStat_GMA, 31, 0), (F.hrlStat_GMB, 31, 0), (F.hLaneStat_LINK, 1, 0), (F.hLaneStat_LINK, 1, 1), (F.nodeStat_VALID, 1, 14),
      (F.nodeStat_VALID, 1, 15), (F.nodeId_NODE_ID, 5, 14), (F.nodeId_NODE_ID, 6, 15), (F.hLaneNbr_NODE_ID, 5, 0),
      (F.hLaneNbr_NODE_ID, 5, 1), (F.hrlCfg_RING_ID, 65535, 0), (F.hrlCfg_KEY_SLOT, 255, 0)] with hrl := h }

/-- A frame of origin 14, untagged. -/
def frm (ty flags hops stream seq : Nat) (pay : List Byte) : List Byte :=
  [byte (ty * 16 + 1), byte flags, byte (hops * 16 + 14), byte stream] ++ beBytes 4 seq ++ beBytes 4 0 ++ [0, byte (pay.length / 8)] ++
    [255, 255] ++ pay

def node14 (n : HNode) : Hrl := { nodes := [(14, n)] }

/-- A mark payload of one entry, domain 0, traceable, of GM-A. -/
def mark1 : List Byte := [1, 64] ++ List.replicate 14 0 ++ [128] ++ List.replicate 15 0

/-- With every peripheral and every partition enabled. -/
def busIn (s : State) : State :=
  sets (s.wr .pwrEn (BitVec.allOnes 64)) [(F.parStat_ENABLED, 255, 0)]

def fifo1 : Fifo := { items := [[1, 2]] }

/-- Ring 3 of function 8 with an entry waiting; SVC's partition 7 enabled. -/
def ringReadyIn : State :=
  (((busIn (portIn 5)).put F.ringCfg_EN 1 8 3).put F.ringCfg_SIZE 4 8 3).put F.ringSqIdx_SQ_PROD 1 8 3

/-- An inline command entry of an opcode, without payload. -/
def entryFor (id op : Nat) : List Byte := beBytes 4 id ++ [byte op] ++ List.replicate 123 0

def withPar (s : State) (p : Par) : State := { s with par := p }

/-- At a cycle of CLK_TSE. -/
def atCyc (s : State) (n : Nat) : State := { s with tse := { s.tse with cyc := n } }

def ringAt (st role idx n : Nat) : State := atCyc (ringIn st role idx {}) n

/-- In TRACK, domain 5 FREE, RUNNING, of partition 0. -/
def freeIn : State := (up .track).setDom 5 { kind := .free, st := .running }

/-- A survey that has run for its maximum. -/
def surveyIn (m : Mode) (sec : Nat) : State :=
  { sets (up m) [(F.gnbSurvey_STATE, 1, 0), (F.gnbRxc_RXC, sec * 1250000000, 0)] with
    gnb := { survMin := sec, survMax := sec, survTgt := 500 } }

/-- An entry at the onset of FS63, waiting to be written. -/
def onset63 (p : Nat) : LEntry :=
  { stamp := 0, bound := 0, src := 0, code := 0, part := p, sev := 0, data := [63, 0, 0, 0, 2, 0, 0, 0, 0, 0, 0, 0], onset := some 63 }

/-- The thread at an instruction whose word holds an error of two bits. -/
def eccIn : State :=
  let s := thrIn 1
  { s with dsq := { s.dsq with iecc := [(64, 2)] } }

/-- The thread at its image's last word. -/
def thrEnd : State := sets (thrIn 1) [(F.thrStat_PC, 260, 127)]
/-! ### Witnesses: time scale and reference inputs -/

theorem wit_DomainCommandsComplete_2 : ∃ (s : State) (c : Caller) (d : Nat) (t : TimeVal) (bound : Nat),
    1 ≤ d ∧ d < 32 ∧ tvOk t = true ∧ bound < 2 ^ 64 ∧ s.admitsOwner c 17 = true ∧ (s.dom d).st ≠ DomState.off ∧ s.resetting (s.dom d).owner = false :=
  ⟨steered, .firmware, 5, ⟨2 ^ 48 - 1, 999999999, 2 ^ 18 - 1⟩, 2 ^ 64 - 1, by decide +kernel⟩

theorem wit_DomainCommandsComplete_3 : ∃ (s : State) (c : Caller) (d : Nat),
    1 ≤ d ∧ d < 32 ∧ s.admitsOwner c 18 = true ∧ (s.dom d).st = DomState.stopped ∧ s.resetting (s.dom d).owner = false :=
  ⟨(up .track).setDom 1 { kind := .free, st := .stopped }, .firmware, 1, by decide +kernel⟩

theorem wit_DomainCommandsComplete_4 : ∃ (s : State) (c : Caller) (d : Nat),
    1 ≤ d ∧ d < 32 ∧ s.admitsOwner c 19 = true ∧ ((s.dom d).st = DomState.running ∨ (s.dom d).st = DomState.held) ∧ s.resetting (s.dom d).owner = false :=
  ⟨steered, .firmware, 5, by decide +kernel⟩

theorem wit_AlarmCommandsComplete_1 : ∃ (s : State) (c : Caller) (type : Nat) (leapAt : Nat),
    s.admitsOwner c 22 = true ∧ (type = 1 ∨ type = 2) ∧ 1 ≤ leapAt ∧ leapAt < 2 ^ 48 ∧ (Int.ofNat leapAt - s.newUtcOffset type) % 86400 = 0 ∧ s.leapLate = false :=
  ⟨up .track, .firmware, 1, 86401, by decide +kernel⟩

theorem wit_AlarmCommandsComplete_2 : ∃ (s : State) (c : Caller) (slot : Nat) (dom : Nat) (t : TimeVal) (kind : Nat) (target : Nat) (period : Nat) (policy : Nat) (k : AlarmKind),
    s.admits 24 = true ∧ s.kindRefused kind = false ∧ tvOk t = true ∧ armKind kind = some k ∧ dom < 32 ∧ period < 2 ^ 64 ∧ policy < 2 ∧ s.targetOk k target = true ∧ (period = 0 ∨ 26214400 ≤ period) ∧ (k = AlarmKind.evoEdge → evoLead ≤ tvTicks t) ∧ (s.dom dom).st ≠ DomState.off ∧ (dom = 0 ∨ (s.dom dom).owner = s.cPart c) ∧ s.targetDenied k target (s.cPart c) = false ∧ 8 ≤ slot ∧ slot < 4096 ∧ (if s.slotHeld slot = true then s.slotPart slot = s.cPart c else s.quotaLeft (s.cPart c) = true) ∧ (armFires k policy = true ∨ s.isPast dom (storedInst k (tvTicks t)) = false) :=
  ⟨steered.put F.tseAlmQuota_QUOTA 9 0, .firmware, 4095, 5, ⟨1, 0, 0⟩, 1, 7, 26214400, 0, .evoEdge, by decide +kernel⟩

theorem wit_AlarmFiringsComplete_1 : ∃ (s : State) (d : Due) (rest : List Due),
    s.tse.due = d :: rest ∧ d.al.kind = AlarmKind.leap :=
  ⟨firing .leap 1, dueOf .leap 1 0 false, [], by decide +kernel⟩

theorem wit_AlarmFiringsComplete_2 : ∃ (s : State) (d : Due) (rest : List Due),
    s.tse.due = d :: rest ∧ d.al.kind = AlarmKind.evoEdge :=
  ⟨firing .evoEdge 1, dueOf .evoEdge 1 0 false, [], by decide +kernel⟩

theorem wit_AlarmFiringsComplete_3 : ∃ (s : State) (d : Due) (rest : List Due),
    s.tse.due = d :: rest ∧ d.al.kind = AlarmKind.emuOpen :=
  ⟨firing .emuOpen 1, dueOf .emuOpen 1 0 false, [], by decide +kernel⟩

theorem wit_AlarmFiringsComplete_4 : ∃ (s : State) (d : Due) (rest : List Due),
    s.tse.due = d :: rest ∧ d.al.kind = AlarmKind.emuClose :=
  ⟨firing .emuClose 1, dueOf .emuClose 1 0 false, [], by decide +kernel⟩

theorem wit_AlarmFiringsComplete_5 : ∃ (s : State) (d : Due) (rest : List Due),
    s.tse.due = d :: rest ∧ d.al.kind = AlarmKind.tsvEmit :=
  ⟨firing .tsvEmit 1, dueOf .tsvEmit 1 0 false, [], by decide +kernel⟩

theorem wit_AlarmFiringsComplete_6 : ∃ (s : State) (d : Due) (rest : List Due),
    s.tse.due = d :: rest ∧ d.al.kind = AlarmKind.escrowCommit ∧ ((s.noteFired d).tallyFired d).escState ((d.al.target) % 32) = escArmed :=
  ⟨(firing .escrowCommit 1).put F.escStat_STATE 2 1, dueOf .escrowCommit 1 0 false, [], by decide +kernel⟩

theorem wit_AlarmFiringsComplete_7 : ∃ (s : State) (d : Due) (rest : List Due),
    s.tse.due = d :: rest ∧ d.al.kind = AlarmKind.tallySnap :=
  ⟨firing .tallySnap 1, dueOf .tallySnap 1 0 false, [], by decide +kernel⟩

theorem wit_AlarmFiringsComplete_8 : ∃ (s : State) (d : Due) (rest : List Due),
    s.tse.due = d :: rest ∧ d.al.kind = AlarmKind.dsqWake :=
  ⟨firing .dsqWake 1, dueOf .dsqWake 1 0 false, [], by decide +kernel⟩

theorem wit_AlarmFiringsComplete_9 : ∃ (s : State) (d : Due) (rest : List Due),
    s.tse.due = d :: rest ∧ d.al.kind = AlarmKind.slwClose :=
  ⟨firing .slwClose 1, dueOf .slwClose 1 0 false, [], by decide +kernel⟩

theorem wit_AlarmFiringsComplete_10 : ∃ (s : State) (d : Due) (rest : List Due),
    s.tse.due = d :: rest ∧ d.al.kind = AlarmKind.hostInt :=
  ⟨firing .hostInt 1, dueOf .hostInt 1 0 false, [], by decide +kernel⟩

theorem wit_AlarmFiringsComplete_11 : ∃ (s : State) (d : Due) (rest : List Due),
    s.tse.due = d :: rest ∧ d.al.kind = AlarmKind.qput :=
  ⟨firing .qput 1, dueOf .qput 1 0 false, [], by decide +kernel⟩

theorem wit_AlarmFiringsComplete_12 : ∃ (s : State) (d : Due) (rest : List Due),
    s.tse.due = d :: rest ∧ d.al.kind = AlarmKind.servoClose ∧ bitOf (d.al.target) 5 = false :=
  ⟨firing .servoClose 1, dueOf .servoClose 1 0 false, [], by decide +kernel⟩

theorem wit_AlarmFiringsComplete_13 : ∃ (s : State) (d : Due) (rest : List Due),
    s.tse.due = d :: rest ∧ d.al.kind = AlarmKind.servoClose ∧ bitOf (d.al.target) 5 = true :=
  ⟨firing .servoClose 33, dueOf .servoClose 33 0 false, [], by decide +kernel⟩

theorem wit_AlarmFiringsComplete_14 : ∃ (s : State) (d : Due),
    (s.alarm d.slot).seq = d.al.seq :=
  ⟨firing .leap 1, dueOf .leap 1 0 false, by decide +kernel⟩

theorem wit_AlarmFiringsComplete_15 : ∃ (s : State) (d : Due),
    (s.alarm d.slot).seq = d.al.seq ∧ d.al.period = 0 ∧ d.al.st = AlarmState.armed :=
  ⟨firing .leap 1, dueOf .leap 1 0 false, by decide +kernel⟩

theorem wit_AlarmFiringsComplete_16 : ∃ (s : State) (d : Due),
    (s.alarm d.slot).seq = d.al.seq ∧ 0 < d.al.period ∧ (s.alarm d.slot).st = AlarmState.cancelled :=
  ⟨slotIn .cancelled .leap 1, dueOf .leap 1 26214400 false, by decide +kernel⟩

theorem wit_AlarmFiringsComplete_17 : ∃ (s : State) (d : Due),
    (s.alarm d.slot).seq = d.al.seq ∧ 0 < d.al.period ∧ (s.alarm d.slot).st = AlarmState.armed ∧ d.al.st = AlarmState.armed ∧ d.step = false :=
  ⟨slotIn .armed .leap 1, dueOf .leap 1 26214400 false, by decide +kernel⟩

theorem wit_AlarmFiringsComplete_18 : ∃ (s : State) (d : Due),
    (s.alarm d.slot).seq = d.al.seq ∧ 0 < d.al.period ∧ (s.alarm d.slot).st = AlarmState.armed ∧ d.al.st = AlarmState.armed ∧ d.step = true :=
  ⟨slotIn .armed .leap 1, dueOf .leap 1 26214400 true, by decide +kernel⟩

theorem wit_CyclesAdvanceDomains_1 : ∃ (d : Dom),
    d.st = DomState.running ∧ d.kind ≠ DomKind.derived :=
  ⟨{ kind := .steered, st := .running, rem := -5, slewMax := 3 }, by decide +kernel⟩

theorem wit_CyclesAdvanceDomains_2 : ∃ (d : Dom),
    d.st = DomState.running :=
  ⟨{ kind := .derived, st := .running, rem := 5, slewMax := 5 }, by decide +kernel⟩

theorem wit_CyclesAdvanceDomains_3 : ∃ (d : Dom),
    d.st = DomState.running ∧ (advanceDom d).rem = 0 :=
  ⟨{ kind := .steered, st := .running, rem := 3, slewMax := 3 }, by decide +kernel⟩

theorem wit_CyclesAdvanceDomains_4 : ∃ (d : Dom),
    d.st ≠ DomState.running :=
  ⟨{ kind := .steered, st := .held }, by decide +kernel⟩

theorem wit_CyclesAdvanceDomains_5 : ∃ (s : State),
    s.pwr.tseProven = true :=
  ⟨up .track, by decide +kernel⟩

theorem wit_CyclesAdvanceDomains_6 : ∃ (s : State),
    s.pwr.tseProven = true ∧ s.tse.usPhase < Config.boundPeriod ∧ s.tse.due = [] ∧ s.tse.imm = [] :=
  ⟨{ up .track with tse := { usPhase := 1249 } }, by decide +kernel⟩

theorem wit_CyclesAdvanceDomains_7 : ∃ (s : State),
    s.pwr.tseProven = true ∧ Config.boundPeriod ≤ s.tse.usPhase :=
  ⟨{ up .track with tse := { usPhase := 1250 } }, by decide +kernel⟩

theorem wit_BoundFollowsItsTerms_1 : ∃ (d : Dom),
    (d.unseeded = true ∨ d.lost = true ∨ d.st ≠ DomState.running ∨ d.kind = DomKind.off ∨ d.kind = DomKind.free) :=
  ⟨{ kind := .ref, st := .running, unseeded := false, lost := true }, by decide +kernel⟩

theorem wit_BoundFollowsItsTerms_2 : ∃ (d : Dom),
    d.unseeded = false ∧ d.lost = false ∧ d.st = DomState.running ∧ (d.kind = DomKind.ref ∨ d.kind = DomKind.ring) ∧ d.hold = false :=
  ⟨{ kind := .ring, st := .running, unseeded := false, lost := false }, by decide +kernel⟩

theorem wit_BoundFollowsItsTerms_3 : ∃ (d : Dom),
    d.unseeded = false ∧ d.lost = false ∧ d.st = DomState.running ∧ (d.kind = DomKind.ref ∨ d.kind = DomKind.ring) ∧ d.hold = true :=
  ⟨{ kind := .ref, st := .running, unseeded := false, lost := false, hold := true }, by decide +kernel⟩

theorem wit_BoundFollowsItsTerms_4 : ∃ (d : Dom),
    d.unseeded = false ∧ d.lost = false ∧ d.st = DomState.running ∧ d.kind = DomKind.derived :=
  ⟨{ kind := .derived, st := .running, unseeded := false, lost := false }, by decide +kernel⟩

theorem wit_BoundFollowsItsTerms_5 : ∃ (l : List Nat),
    ((∃ x ∈ l, x = Config.unb) ∨ 2 ^ 64 - 2 < l.sum) :=
  ⟨[2 ^ 64 - 2, 1], by decide +kernel⟩

theorem wit_BoundFollowsItsTerms_6 : ∃ (l : List Nat),
    (∀ x ∈ l, x ≠ Config.unb) ∧ l.sum ≤ 2 ^ 64 - 2 :=
  ⟨[2 ^ 64 - 3, 1], by decide +kernel⟩

theorem wit_DerivedParentIsLower_1 : ∃ (s : State) (c : Caller) (d : Nat) (parent : Nat),
    s.admitsOwner c 16 = true ∧ d ≤ parent :=
  ⟨up .track, .firmware, 5, 5, by decide +kernel⟩

theorem wit_SlewRateIsLimited_1 : ∃ (s : State) (c : Caller) (d : Nat) (ticks : Int) (unc : Nat) (slewMax : Nat),
    1 ≤ d ∧ d < 32 ∧ fits64 ticks = true ∧ unc < 2 ^ 64 ∧ s.admits 21 = true ∧ s.cPart c = (s.dom d).owner ∧ s.resetting (s.dom d).owner = false ∧ (s.dom d).st ≠ DomState.off ∧ 2 ^ 47 - 1 < slewMax + (s.dom d).foff.natAbs :=
  ⟨steered, .firmware, 5, 1, 0, 2 ^ 47, by decide +kernel⟩

theorem wit_MonitorsJudgeInputs_1 : ∃ (s : State) (n : Nat),
    n < 24 ∧ s.inLive n = true :=
  ⟨liveIn, 23, by decide +kernel⟩

theorem wit_MonitorsJudgeInputs_2 : ∃ (s : State) (n : Nat),
    n < 24 ∧ s.inLive n = true ∧ s.getB F.inStat_PRESENT n = true :=
  ⟨liveIn, 23, by decide +kernel⟩

theorem wit_TdcCalibrationRows_5 : ∃ (s : State) (t : Nat),
    t < 64 ∧ s.get F.tdcStat_STATE t = 1 :=
  ⟨tdcIn 1 1, 63, by decide +kernel⟩

theorem wit_TdcCalibrationRows_6 : ∃ (s : State) (t : Nat),
    t < 64 ∧ s.get F.tdcStat_STATE t = 2 :=
  ⟨tdcIn 2 1, 63, by decide +kernel⟩

theorem wit_TdcCalibrationRows_7 : ∃ (s : State) (t : Nat) (hp : List Nat) (hb : List Nat),
    t < 64 ∧ s.get F.tdcStat_STATE t = 3 ∧ s.getB F.emuStat_OPEN (t / 2) = false ∧ hp.length = 8 ∧ hb.length = 256 ∧ (s.tdc t).table = some (hp, hb) :=
  ⟨{ tdcIn 3 1 with rim := { tdcs := [(63, { table := some (evenPhases, evenBins) })] } }, 63, evenPhases, evenBins, by decide +kernel⟩

theorem wit_TdcCalibrationRows_8 : ∃ (hp : List Nat) (hb : List Nat) (p : Nat),
    hp.length = 8 ∧ hb.length = 256 ∧ p < 8 :=
  ⟨evenPhases, evenBins, 7, by decide +kernel⟩

theorem wit_TdcCalibrationRows_9 : ∃ (hp : List Nat) (hb : List Nat) (b : Nat),
    hp.length = 8 ∧ hb.length = 256 ∧ b < 256 :=
  ⟨evenPhases, evenBins, 255, by decide +kernel⟩

theorem wit_TdcCalibrationRows_10 : ∃ (hp : List Nat) (hb : List Nat),
    hp.length = 8 ∧ hb.length = 256 :=
  ⟨evenPhases, evenBins, by decide +kernel⟩

theorem wit_EdgeTimesAreScaled_1 : ∃ (s : State) (dom : Nat) (p : Nat) (b : Nat),
    s.parentsLower ∧ dom < 32 ∧ p < 8 ∧ b < 256 :=
  ⟨State.reset, 31, 7, 255, ⟨reset_parentsLower, by decide⟩⟩

theorem wit_EdgeTimesAreScaled_2 : ∃ (s : State) (dom : Nat) (p : Nat) (b : Nat),
    s.parentsLower ∧ dom < 32 ∧ p < 8 ∧ b < 256 ∧ (s.dom dom).kind ≠ DomKind.derived :=
  ⟨State.reset, 0, 7, 255, ⟨reset_parentsLower, by decide⟩⟩

theorem wit_EdgeTimesAreScaled_3 : ∃ (s : State) (dom : Nat) (p : Nat) (b : Nat),
    s.parentsLower ∧ dom < 32 ∧ p < 8 ∧ b < 256 ∧ (s.dom dom).kind = DomKind.derived :=
  ⟨derivedIn, 31, 7, 255, ⟨derivedIn_parentsLower, by decide⟩⟩

theorem wit_MeasurementCommandsComplete_1 : ∃ (s : State) (c : Caller) (m : Nat) (mode : Nat) (startSrc : Nat) (stopSrc : Nat) (dom : Nat) (t0 : TimeVal) (per : Nat) (w : Nat) (dests : Nat) (queue : Nat) (emptyReport : Nat) (lateOk : Nat),
    s.admitsOwner c 32 = true ∧ m < 32 ∧ dom < 32 ∧ tvOk t0 = true ∧ dests < 8 ∧ queue < 256 ∧ emptyReport < 2 ∧ lateOk < 2 ∧ per < 2 ^ 64 ∧ (mode = 0 ∧ startSrc = 255 ∨ mode = 1 ∧ srcOk startSrc = true) ∧ srcOk stopSrc = true ∧ (per = 0 ∨ 262144000 ≤ per ∧ w * 10 + 4194304 ≤ per * 10) ∧ 4194304 ≤ w * 10 ∧ (s.dom dom).st ≠ DomState.off ∧ s.resetting (s.dom dom).owner = false ∧ s.getB F.emuCfg_ARMED m = false ∧ s.twoFree = true ∧ (lateOk = 1 ∨ s.ticks dom < ↑(tvTicks t0)) :=
  ⟨steered, .firmware, 31, 0, 255, 0, 5, ⟨1, 0, 0⟩, 262144000, 419431, 7, 255, 1, 0, by decide +kernel⟩

theorem wit_MeasurementCommandsComplete_2 : ∃ (s : State) (c : Caller) (m : Nat),
    s.admitsOwner c 33 = true ∧ m < 32 ∧ s.getB F.emuCfg_ARMED m = true ∧ s.getB F.emuStat_OPEN m = false :=
  ⟨sets (slotIn .armed .emuOpen 31) [(F.emuCfg_ARMED, 1, 31), (F.emuSlots_OPEN_SLOT, 9, 31)], .firmware, 31, by decide +kernel⟩

theorem wit_MeasurementCommandsComplete_3 : ∃ (s : State) (c : Caller) (mask : Nat),
    s.admitsOwner c 34 = true ∧ mask < 2 ^ 64 ∧ (∀ t < 64, bitOf mask t = true → s.get F.tdcStat_STATE t = 0) :=
  ⟨up .track, .firmware, 2 ^ 64 - 1, by decide +kernel⟩

theorem wit_MeasurementCommandsComplete_4 : ∃ (s : State) (c : Caller) (mask : Nat),
    s.admitsOwner c 35 = true ∧ mask < 2 ^ 24 :=
  ⟨up .track, .firmware, 2 ^ 24 - 1, by decide +kernel⟩

theorem wit_AlarmCommandsComplete_3 : ∃ (s : State) (c : Caller) (slot : Nat),
    s.admits 25 = true ∧ 8 ≤ slot ∧ slot < 4096 ∧ (s.alarm slot).st = AlarmState.armed ∧ (s.alarm slot).part = s.cPart c ∧ s.isDue slot = false ∧ s.cancelsLate (s.cPart c) slot = false :=
  ⟨alarmIn (up .track) 8 { st := .armed, inst := 5 }, .firmware, 8, by decide +kernel⟩

theorem wit_CyclesAdvanceDomains_8 : ∃ (s : State),
    s.pwr.tseProven = false :=
  ⟨{ up .track with pwr := {} }, by decide +kernel⟩

theorem wit_CyclesAdvanceDomains_9 : ∃ (s : State),
    s.tse.usPhase < Config.boundPeriod :=
  ⟨up .track, by decide +kernel⟩

theorem wit_CyclesAdvanceDomains_10 : ∃ (s : State) (n : Nat),
    n < 32 ∧ (s.dom n).st ≠ DomState.off ∧ ((s.dom n).kind = DomKind.derived → (s.dom n).parent < n) :=
  ⟨steered, 5, by decide +kernel⟩

theorem wit_DomainCommandsComplete_1 : ∃ (s : State) (c : Caller) (d : Nat) (kind : Nat) (parent : Nat) (owner : Nat) (k : DomKind),
    1 ≤ d ∧ d < 32 ∧ kindOfCode kind = some k ∧ k ≠ DomKind.off ∧ k ≠ DomKind.ref ∧ parent < 32 ∧ (k = DomKind.derived → parent < d) ∧ owner < 8 ∧ s.admitsOwner c 16 = true ∧ (s.dom d).st = DomState.off :=
  ⟨up .track, .firmware, 31, 3, 30, 7, .derived, by decide +kernel⟩

theorem wit_DomainCommandsComplete_5 : ∃ (s : State) (c : Caller) (d : Nat) (ticks : Int),
    1 ≤ d ∧ d < 32 ∧ fits64 ticks = true ∧ s.admits 20 = true ∧ s.cPart c = (s.dom d).owner ∧ s.resetting (s.dom d).owner = false ∧ (s.dom d).st ≠ DomState.off ∧ ((s.dom d).kind = DomKind.derived ∨ (s.dom d).kind = DomKind.steered) :=
  ⟨steered, .firmware, 5, -2 ^ 63, by decide +kernel⟩

theorem wit_DomainCommandsComplete_6 : ∃ (s : State) (c : Caller) (d : Nat) (ticks : Int),
    1 ≤ d ∧ d < 32 ∧ fits64 ticks = true ∧ s.admits 20 = true ∧ s.cPart c = (s.dom d).owner ∧ s.resetting (s.dom d).owner = false ∧ (s.dom d).st ≠ DomState.off ∧ (s.dom d).kind ≠ DomKind.derived ∧ (s.dom d).kind ≠ DomKind.steered :=
  ⟨freeIn, .firmware, 5, -2 ^ 63, by decide +kernel⟩

theorem wit_DomainCommandsComplete_7 : ∃ (s : State) (c : Caller) (d : Nat) (ticks : Int) (unc : Nat) (slewMax : Nat),
    1 ≤ d ∧ d < 32 ∧ fits64 ticks = true ∧ unc < 2 ^ 64 ∧ s.admits 21 = true ∧ s.cPart c = (s.dom d).owner ∧ s.resetting (s.dom d).owner = false ∧ (s.dom d).st ≠ DomState.off ∧ slewMax + (s.dom d).foff.natAbs ≤ 2 ^ 47 - 1 ∧ ((s.dom d).kind = DomKind.derived ∨ (s.dom d).kind = DomKind.steered) :=
  ⟨steered, .firmware, 5, -3, 2 ^ 64 - 1, 2 ^ 47 - 1, by decide +kernel⟩

theorem wit_DomainCommandsComplete_8 : ∃ (s : State) (c : Caller) (d : Nat) (ticks : Int) (unc : Nat) (slewMax : Nat),
    1 ≤ d ∧ d < 32 ∧ fits64 ticks = true ∧ unc < 2 ^ 64 ∧ s.admits 21 = true ∧ s.cPart c = (s.dom d).owner ∧ s.resetting (s.dom d).owner = false ∧ (s.dom d).st ≠ DomState.off ∧ slewMax + (s.dom d).foff.natAbs ≤ 2 ^ 47 - 1 ∧ (s.dom d).kind ≠ DomKind.derived ∧ (s.dom d).kind ≠ DomKind.steered :=
  ⟨freeIn, .firmware, 5, -3, 2 ^ 64 - 1, 2 ^ 47 - 1, by decide +kernel⟩

theorem wit_TdcCalibrationRows_1 : ∃ (s : State) (t : Nat) (hp : List Nat) (hb : List Nat),
    t < 64 ∧ s.get F.tdcStat_STATE t = 1 ∧ s.getB F.emuStat_OPEN (t / 2) = false ∧ hp.length = 8 ∧ hb.length = 256 ∧ hp.sum = 16777216 ∧ hb.sum = 16777216 ∧ tablesOk hp hb = true :=
  ⟨tdcIn 1 3, 63, evenPhases, evenBins, by decide +kernel⟩

theorem wit_TdcCalibrationRows_2 : ∃ (s : State) (t : Nat) (hp : List Nat) (hb : List Nat),
    t < 64 ∧ s.get F.tdcStat_STATE t = 1 ∧ s.getB F.emuStat_OPEN (t / 2) = false ∧ hp.length = 8 ∧ hb.length = 256 ∧ hp.sum = 16777216 ∧ hb.sum = 16777216 ∧ tablesOk hp hb = false ∧ (s.tdc t).attempt < 3 :=
  ⟨tdcIn 1 2, 63, evenPhases, List.replicate 255 0 ++ [16777216], by decide +kernel⟩

theorem wit_TdcCalibrationRows_3 : ∃ (s : State) (t : Nat) (hp : List Nat) (hb : List Nat),
    t < 64 ∧ s.get F.tdcStat_STATE t = 1 ∧ s.getB F.emuStat_OPEN (t / 2) = false ∧ hp.length = 8 ∧ hb.length = 256 ∧ hp.sum = 16777216 ∧ hb.sum = 16777216 ∧ tablesOk hp hb = false ∧ 3 ≤ (s.tdc t).attempt :=
  ⟨tdcIn 1 3, 63, evenPhases, List.replicate 255 0 ++ [16777216], by decide +kernel⟩

theorem wit_TdcCalibrationRows_4 : ∃ (s : State) (t : Nat) (hp : List Nat) (hb : List Nat),
    t < 64 ∧ (s.getB F.emuStat_OPEN (t / 2) = true ∨ hp.sum ≠ 16777216 ∨ hb.sum ≠ 16777216) :=
  ⟨tdcIn 1 3, 63, [], [], by decide +kernel⟩

theorem wit_MonitorsJudgeInputs_3 : ∃ (s : State) (n : Nat) (rise : Bool),
    n < 24 ∧ s.inLive n = true ∧ s.tse.due = [] ∧ rise = s.getB F.inCfg_SLOPE n :=
  ⟨liveIn, 23, false, by decide +kernel⟩

theorem wit_MonitorsJudgeInputs_4 : ∃ (s : State) (n : Nat) (rise : Bool),
    n < 24 ∧ s.inLive n = true ∧ s.tse.due = [] ∧ rise ≠ s.getB F.inCfg_SLOPE n ∧ (s.mon n).pre ≠ 0 :=
  ⟨liveIn.setMon 23 { pre := 1 }, 23, true, by decide +kernel⟩

theorem wit_MonitorsJudgeInputs_7 : ∃ (s : State) (n : Nat),
    n < 24 ∧ s.inLive n = true :=
  ⟨liveIn, 23, by decide +kernel⟩

theorem wit_FaultsAreCollected_5 : ∃ (s : State) (n : Nat) (mask : Nat),
    n < 64 ∧ mask < 256 ∧ ((mask ≠ 0 ∧ s.dSticky n = false ∧ s.dWas n = false) ∨ s.dWas n = true ∨ ∀ e ∈ s.sup.staged, e.onset ≠ some n) :=
  ⟨portIn 5, 63, 255, by decide +kernel⟩

theorem wit_FaultsAreCollected_6 : ∃ (s : State) (n : Nat) (mask : Nat) (e : LEntry) (p : Nat),
    n < 64 ∧ mask < 256 ∧ ¬(mask ≠ 0 ∧ s.dSticky n = false ∧ s.dWas n = false) ∧ s.deviceEntry n = some e ∧ p ∈ (List.filter (fun p => !s.pSticky n p && !s.pWas n p) (maskList 8 mask)).head? ∧ e.part ≤ p :=
  ⟨{ sets (portIn 5) [(F.supFstat0_D, 2 ^ 63, 0)] with sup := { staged := [onset63 1] } }, 63, 32, onset63 1, 5, by beta_reduce; decide +kernel⟩

theorem wit_FaultsAreCollected_7 : ∃ (s : State) (n : Nat) (mask : Nat) (e : LEntry) (p : Nat),
    n < 64 ∧ mask < 256 ∧ ¬(mask ≠ 0 ∧ s.dSticky n = false ∧ s.dWas n = false) ∧ s.deviceEntry n = some e ∧ p ∈ (List.filter (fun p => !s.pSticky n p && !s.pWas n p) (maskList 8 mask)).head? ∧ p < e.part :=
  ⟨{ sets (portIn 5) [(F.supFstat0_D, 2 ^ 63, 0)] with sup := { staged := [onset63 6] } }, 63, 32, onset63 6, 5, by beta_reduce; decide +kernel⟩

/-! ### Witnesses: GNSS, selection and holdover, synthesis -/

theorem wit_ChannelsMoveByTheirTable_3 : ∃ (s : State) (ch : Nat),
    ch < 192 ∧ s.chState ch = 1 :=
  ⟨gnbIn .track 1, 191, by decide +kernel⟩

theorem wit_ChannelsMoveByTheirTable_4 : ∃ (s : State) (ch : Nat),
    ch < 192 ∧ s.chState ch = 2 :=
  ⟨gnbIn .track 2, 191, by decide +kernel⟩

theorem wit_ChannelsMoveByTheirTable_5 : ∃ (s : State) (ch : Nat),
    ch < 192 ∧ s.chState ch = 3 :=
  ⟨gnbIn .track 3, 191, by decide +kernel⟩

theorem wit_ChannelsMoveByTheirTable_6 : ∃ (s : State) (ch : Nat),
    ch < 192 ∧ (s.chState ch = 2 ∨ s.chState ch = 3 ∨ s.chState ch = 4) :=
  ⟨gnbIn .track 4, 191, by decide +kernel⟩

theorem wit_ChannelsMoveByTheirTable_7 : ∃ (s : State) (ch : Nat),
    ch < 192 ∧ s.chState ch = 5 :=
  ⟨gnbIn .track 5, 191, by decide +kernel⟩

theorem wit_GnssRecordsComplete_5 : ∃ (s : State) (ch : Nat) (fmt : Nat) (nbits : Nat) (sigs : List Nat),
    ch < 192 ∧ s.chState ch = 4 ∧ navFormat fmt = some (nbits, sigs) ∧ sigs.contains (s.get F.chStat_SIGNAL ch) = true :=
  ⟨gnbIn .track 4, 191, 1, 32, [0x01, 0x31], by decide +kernel⟩

theorem wit_GnssCommandsComplete_4 : ∃ (s : State),
    s.get F.gnbSurvey_POS_MODE = 2 :=
  ⟨sets (up .track) [(F.gnbSurvey_POS_MODE, 2, 0)], by decide +kernel⟩

theorem wit_GnssCommandsComplete_5 : ∃ (x : Int) (y : Int) (z : Int) (unc : Nat),
    fits64 x = true ∧ fits64 y = true ∧ fits64 z = true ∧ unc < 2 ^ 32 :=
  ⟨2 ^ 63 - 1, -2 ^ 63, 0, 2 ^ 32 - 1, by decide +kernel⟩

theorem wit_GnssCommandsComplete_6 : ∃ (s : State) (c : Caller) (sigEn : Nat) (tsys : Nat) (elev : Nat) (cn0 : Nat) (span : Nat) (per : Nat),
    s.admitsOwner c 48 = true ∧ sigEn < 1024 ∧ tsys ≤ 2 ∧ elev ≤ 90 ∧ cn0 < 256 ∧ span ≤ 50000 ∧ 10 ≤ per ∧ per ≤ 1000 :=
  ⟨up .track, .firmware, 1023, 2, 90, 255, 50000, 1000, by decide +kernel⟩

theorem wit_GnssCommandsComplete_7 : ∃ (s : State) (c : Caller) (kind : Nat),
    s.admitsOwner c 49 = true ∧ kind < 2 :=
  ⟨up .acquire, .firmware, 1, by decide +kernel⟩

theorem wit_GnssCommandsComplete_8 : ∃ (s : State) (c : Caller) (min : Nat) (target : Nat) (max : Nat),
    s.admitsOwner c 50 = true ∧ min < 2 ^ 32 ∧ target < 2 ^ 32 ∧ max < 2 ^ 32 ∧ s.get F.gnbSurvey_STATE ≠ 1 :=
  ⟨up .track, .firmware, 0, 0, 2 ^ 32 - 1, by decide +kernel⟩

theorem wit_GnssCommandsComplete_9 : ∃ (s : State) (c : Caller) (x : Int) (y : Int) (z : Int) (unc : Nat),
    s.admitsOwner c 51 = true ∧ fits64 x = true ∧ fits64 y = true ∧ fits64 z = true ∧ unc < 2 ^ 32 :=
  ⟨up .acquire, .firmware, 2 ^ 63 - 1, -2 ^ 63, 0, 2 ^ 32 - 1, by decide +kernel⟩

theorem wit_GnssCommandsComplete_10 : ∃ (s : State) (c : Caller),
    s.admitsOwner c 51 = true ∧ s.getB F.gnbSurvey_CAND = true :=
  ⟨sets (up .acquire) [(F.gnbSurvey_CAND, 1, 0)], .firmware, by decide +kernel⟩

theorem wit_GnssCommandsComplete_11 : ∃ (s : State) (c : Caller),
    s.admitsOwner c 52 = true :=
  ⟨up .acquire, .firmware, by decide +kernel⟩

theorem wit_GnssCommandsComplete_12 : ∃ (s : State) (c : Caller) (on : Nat),
    s.admitsOwner c 53 = true ∧ on < 2 :=
  ⟨up .track, .firmware, 1, by decide +kernel⟩

theorem wit_RshCommandsComplete_1 : ∃ (s : State) (c : Caller) (k : Nat),
    s.admitsOwner c 64 = true ∧ (k = 31 ∨ k < 26 ∧ 2 ≤ s.refState k ∧ s.getB F.refStat_FREQ_ONLY k = false) :=
  ⟨sets (up .track) [(F.refStat_STATE, 2, 25)], .firmware, 25, by decide +kernel⟩

theorem wit_RshCommandsComplete_2 : ∃ (s : State) (c : Caller) (k : Nat) (on : Nat),
    s.admitsOwner c 65 = true ∧ k < 26 ∧ on < 2 :=
  ⟨up .track, .firmware, 25, 1, by decide +kernel⟩

theorem wit_RshCommandsComplete_3 : ∃ (s : State) (c : Caller),
    s.admitsOwner c 66 = true ∧ (s.mode ≠ Mode.steer ∨ s.rshState ≠ 6) :=
  ⟨rshIn .track 2, .firmware, by decide +kernel⟩

theorem wit_RshCommandsComplete_4 : ∃ (s : State) (c : Caller),
    s.admitsOwner c 67 = true ∧ s.rshState = 6 :=
  ⟨rshIn .steer 6, .firmware, by decide +kernel⟩

theorem wit_RshCommandsComplete_5 : ∃ (s : State) (c : Caller) (foff : Int),
    s.admitsOwner c 68 = true ∧ s.rshState = 6 ∧ foff.natAbs ≤ 2 ^ 47 - 1 :=
  ⟨rshIn .steer 6, .firmware, -(2 ^ 47 - 1), by decide +kernel⟩

theorem wit_RshCommandsComplete_6 : ∃ (s : State) (c : Caller) (ticks : Int) (unc : Nat) (slewMax : Nat),
    s.admitsOwner c 69 = true ∧ s.rshState = 6 ∧ fits64 ticks = true ∧ unc < 2 ^ 64 ∧ slewMax + (s.dom 0).foff.natAbs ≤ 2 ^ 47 - 1 :=
  ⟨rshIn .steer 6, .firmware, 5, 0, 2 ^ 47 - 1, by decide +kernel⟩

theorem wit_RshCommandsComplete_7 : ∃ (s : State) (c : Caller) (t : TimeVal) (bound : Nat),
    s.admitsOwner c 70 = true ∧ tvOk t = true ∧ bound < 2 ^ 64 ∧ (s.dom 0).kind = DomKind.ref :=
  ⟨rshIn .acquire 1, .firmware, ⟨1, 0, 0⟩, 2 ^ 64 - 1, by decide +kernel⟩

theorem wit_RshCommandsComplete_8 : ∃ (s : State) (c : Caller) (on : Nat),
    s.admitsOwner c 71 = true ∧ on < 2 ∧ s.aoiOn = true ∧ (on = 0 ∨ s.getB F.aoiCfdStat_CFD_SAT = false) :=
  ⟨rshIn .track 2, .firmware, 1, by decide +kernel⟩

theorem wit_RshCommandsComplete_9 : ∃ (s : State) (c : Caller) (code : Nat),
    s.admitsOwner c 72 = true ∧ code < 2 ^ 24 ∧ s.aoiOn = true ∧ s.getB F.aoiCfdCtl_STEER = false :=
  ⟨rshIn .acquire 1, .firmware, 2 ^ 24 - 1, by decide +kernel⟩

theorem wit_RshCommandsComplete_10 : ∃ (s : State) (c : Caller) (step : Int),
    s.admitsOwner c 73 = true ∧ step ≠ 0 ∧ 0 ≤ ↑(s.get F.aoiCfdCtl_CODE_CMD) + step ∧ ↑(s.get F.aoiCfdCtl_CODE_CMD) + step < 2 ^ 24 ∧ s.rsh.gain = none :=
  ⟨rshIn .track 2, .firmware, 1, by decide +kernel⟩

theorem wit_HoldoverRowsComplete_1 : ∃ (s : State),
    (s.dom 0).hold = true ∧ (s.get F.rshHoldCfg_HOLD_MAX_S ≤ s.rsh.holdS + 1 ∨ s.holdBroken = true ∨ ∃ c < 24, (s.setRsh (have __src := s.rsh; { cand := __src.cand, cur := __src.cur, bookPend := __src.bookPend, bookFrom := __src.bookFrom, iSat := __src.iSat, fSat := __src.fSat, closeAt := __src.closeAt, learnFoff := __src.learnFoff, learnCyc := __src.learnCyc, errs := __src.errs, seedN := __src.seedN, learn := __src.learn, holdS := s.rsh.holdS + 1, holdF := __src.holdF, holdA := __src.holdA, holdTh := __src.holdTh, chk := __src.chk, tmsg := __src.tmsg, consts := __src.consts, suspended := __src.suspended, gain := __src.gain, satClear := __src.satClear, monBad := __src.monBad, dayN := __src.dayN, daySum := __src.daySum, days := __src.days })).verifyFails c = true) :=
  ⟨sets holdIn [(F.rshHoldCfg_HOLD_MAX_S, 1, 0)], ⟨by decide +kernel, .inl (by decide +kernel)⟩⟩

theorem wit_HoldoverRowsComplete_2 : ∃ (s : State),
    (s.dom 0).hold = true ∧ ¬(s.get F.rshHoldCfg_HOLD_MAX_S ≤ s.rsh.holdS + 1 ∨ s.holdBroken = true ∨ ∃ c < 24, (s.setRsh (have __src := s.rsh; { cand := __src.cand, cur := __src.cur, bookPend := __src.bookPend, bookFrom := __src.bookFrom, iSat := __src.iSat, fSat := __src.fSat, closeAt := __src.closeAt, learnFoff := __src.learnFoff, learnCyc := __src.learnCyc, errs := __src.errs, seedN := __src.seedN, learn := __src.learn, holdS := s.rsh.holdS + 1, holdF := __src.holdF, holdA := __src.holdA, holdTh := __src.holdTh, chk := __src.chk, tmsg := __src.tmsg, consts := __src.consts, suspended := __src.suspended, gain := __src.gain, satClear := __src.satClear, monBad := __src.monBad, dayN := __src.dayN, daySum := __src.daySum, days := __src.days })).verifyFails c = true) ∧ (s.rsh.holdF + s.rsh.holdA * Int.ofNat (s.rsh.holdS + 1)).natAbs ≤ 2 ^ 47 - 1 :=
  ⟨sets holdIn [(F.rshHoldCfg_HOLD_MAX_S, 2, 0), (F.rshHoldLimit_LIMIT, 5, 0), (F.rshModelFtol_PARAM, 1, 1), (F.rshModelDfu_PARAM, 1, 1)], by decide +kernel⟩

theorem wit_HoldoverRowsComplete_3 : ∃ (s : State) (x : Sample),
    (s.cand s.sel).smp.getLast? = some x ∧ s.sel ≠ 31 ∧ s.getB F.rshStat_LEARNED = true :=
  ⟨{ sets (rshIn .track 2) [(F.rshStat_SEL, 3, 0), (F.rshStat_LEARNED, 1, 0)] with rsh := { cand := [(3, { smp := [⟨1, 2, 3, 4, 0, 0, false⟩] })] } }, ⟨1, 2, 3, 4, 0, 0, false⟩, by decide +kernel⟩

theorem wit_AoiRowsComplete_4 : ∃ (s : State),
    s.aoiOn = true ∧ s.getB F.aoiCfdCtl_STEER = true ∧ s.rshState = 2 ∧ 0 < Int.ofNat (s.get F.aoiOffload_TAU_S) * s.getI F.aoiCfdGain_GAIN :=
  ⟨sets (rshIn .track 2) [(F.aoiCfdCtl_STEER, 1, 0), (F.aoiOffload_TAU_S, 1, 0), (F.aoiCfdGain_GAIN, 1, 0)], by decide +kernel⟩

theorem wit_AoiRowsComplete_5 : ∃ (s : State) (codes : List Nat),
    s.aoiOn = true ∧ codes.length = 4 :=
  ⟨rshIn .track 2, [65535, 0, 1, 2], by decide +kernel⟩

theorem wit_AoiRowsComplete_6 : ∃ (s : State),
    s.aoiOn = true ∧ 0 < s.rsh.dayN :=
  ⟨{ rshIn .track 2 with rsh := { dayN := 1 } }, by decide +kernel⟩

theorem wit_RetuneRowsComplete_1 : ∃ (s : State) (n : Nat) (b : Nat),
    n < 8 ∧ s.synState n = 2 ∧ (s.adpll n).bit = b ∧ b ≤ 7 :=
  ⟨synIn 2 (hz 1250000000) { bit := 7 }, 7, 7, by decide +kernel⟩

theorem wit_RetuneRowsComplete_6 : ∃ (s : State) (n : Nat),
    n < 8 ∧ (s.synState n = 3 ∨ s.synState n = 6) :=
  ⟨synIn 6 (hz 1250000000) {}, 7, by decide +kernel⟩

theorem wit_RetuneRowsComplete_7 : ∃ (s : State) (n : Nat) (count : Nat),
    n < 8 ∧ s.synState n = 4 ∧ (↑count - s.pmonExpected n).natAbs ≤ max 2 (s.get F.synPmon_PMON_TOL n) :=
  ⟨synIn 4 (hz 1250000000) {}, 7, 2, by decide +kernel⟩

theorem wit_RetuneRowsComplete_8 : ∃ (s : State) (n : Nat) (count : Nat),
    n < 8 ∧ s.synState n = 4 ∧ max 2 (s.get F.synPmon_PMON_TOL n) < (↑count - s.pmonExpected n).natAbs :=
  ⟨synIn 4 (hz 1250000000) {}, 7, 100, by decide +kernel⟩

theorem wit_OutputRowsComplete_1 : ∃ (s : State) (n : Nat),
    n < 8 ∧ s.get F.synCfg_REF_MODE n = 1 ∧ 4 ≤ s.synState n ∧ s.synState n ≤ 6 ∧ 0 < s.get F.synAlignPer_ALIGN_PER n :=
  ⟨sets (synIn 4 (hz 1250000000) {}) [(F.synCfg_REF_MODE, 1, 7), (F.synAlignPer_ALIGN_PER, 1, 7)], 7, by decide +kernel⟩

theorem wit_OutputRowsComplete_2 : ∃ (s : State) (n : Nat),
    n < 8 ∧ s.get F.synCfg_REF_MODE n = 1 ∧ 4 ≤ s.synState n ∧ s.synState n ≤ 6 ∧ s.get F.synAlignPer_ALIGN_PER n = 0 :=
  ⟨sets (synIn 6 (hz 1250000000) {}) [(F.synCfg_REF_MODE, 1, 7), (F.synAlignPer_ALIGN_PER, 0, 7)], 7, by decide +kernel⟩

theorem wit_OutputRowsComplete_3 : ∃ (o : Nat),
    o < 24 :=
  ⟨23, by decide +kernel⟩

theorem wit_EvoEdgesArePlaced_2 : ∃ (s : State) (d : Due),
    s.evoEmits (d.al.target % 8) = false :=
  ⟨up .track, dueOf .evoEdge 263 0 false, by decide +kernel⟩

theorem wit_EvoEdgesArePlaced_3 : ∃ (s : State) (d : Due) (last : Bool),
    s.evoEmits (d.al.target % 8) = true ∧ last = false :=
  ⟨evoIn, dueOf .evoEdge 263 0 false, false, by decide +kernel⟩

theorem wit_EvoEdgesArePlaced_4 : ∃ (s : State) (d : Due) (last : Bool),
    s.evoEmits (d.al.target % 8) = true ∧ last = true ∧ d.lat < 209716 ∧ s.getB F.evoStat_LEVEL (d.al.target % 8) = (bitOf d.al.target 8) :=
  ⟨evoIn, dueOf .evoEdge 7 0 false, true, by decide +kernel⟩

theorem wit_EvoEdgesArePlaced_5 : ∃ (s : State) (d : Due) (last : Bool),
    s.evoEmits (d.al.target % 8) = true ∧ last = true ∧ d.lat < 209716 ∧ s.getB F.evoStat_LEVEL (d.al.target % 8) ≠ (bitOf d.al.target 8) ∧ (∀ (t0 : Int), tabGet none s.syn.evoLast (d.al.target % 8) = some t0 → t0 + 5120 ≤ (s.cycStep + s.evoPlace (d.al.target % 8) d.al.dom d.lat)) :=
  ⟨evoIn, dueOf .evoEdge 263 0 false, true, ⟨by decide +kernel, rfl, by decide, by decide +kernel, fun _ h => (by cases h)⟩⟩

theorem wit_EvoEdgesArePlaced_6 : ∃ (s : State) (d : Due) (last : Bool),
    s.evoEmits (d.al.target % 8) = true ∧ last = true ∧ 209716 ≤ d.lat ∧ s.getB F.evoStat_LEVEL (d.al.target % 8) ≠ (bitOf d.al.target 8) ∧ tabGet none s.syn.evoLast (d.al.target % 8) = none :=
  ⟨evoIn, { dueOf .evoEdge 263 0 false with lat := 209716 }, true, by decide +kernel⟩

theorem wit_SynCommandsComplete_1 : ∃ (s : State) (c : Caller) (n : Nat) (tf : Nat) (mode : Nat) (refin : Nat) (bw : Nat) (lockWait : Nat) (fl : Nat),
    s.admitsOwner c 80 = true ∧ s.synCfgBad n tf mode refin bw lockWait = false ∧ fl < 2 ^ 32 ∧ s.synState n ≠ 1 ∧ s.synState n ≠ 2 ∧ s.synState n ≠ 3 ∧ ((s.synState n ≠ 0 ∧ tf = s.synTarget n) ∧ mode = s.get F.synCfg_REF_MODE n) :=
  ⟨synIn 4 (hz 1250000000) {}, .firmware, 7, hz 1250000000, 0, 0, 4, 100000, 2 ^ 32 - 1, by decide +kernel⟩

theorem wit_SynCommandsComplete_2 : ∃ (s : State) (c : Caller) (n : Nat) (tf : Nat) (mode : Nat) (refin : Nat) (bw : Nat) (lockWait : Nat) (fl : Nat),
    s.admitsOwner c 80 = true ∧ s.synCfgBad n tf mode refin bw lockWait = false ∧ fl < 2 ^ 32 ∧ s.synState n ≠ 1 ∧ s.synState n ≠ 2 ∧ s.synState n ≠ 3 ∧ (s.synState n ≠ 0 ∧ tf = s.synTarget n) ∧ mode ≠ s.get F.synCfg_REF_MODE n ∧ mode ≤ 1 ∧ s.get F.synCfg_REF_MODE n ≤ 1 :=
  ⟨synIn 4 (hz 1250000000) {}, .firmware, 7, hz 1250000000, 1, 0, 4, 50, 0, by decide +kernel⟩

theorem wit_SynCommandsComplete_3 : ∃ (s : State) (c : Caller) (n : Nat) (tf : Nat) (mode : Nat) (refin : Nat) (bw : Nat) (lockWait : Nat) (fl : Nat),
    s.admitsOwner c 80 = true ∧ s.synCfgBad n tf mode refin bw lockWait = false ∧ fl < 2 ^ 32 ∧ s.synState n ≠ 1 ∧ s.synState n ≠ 2 ∧ s.synState n ≠ 3 ∧ (s.synState n = 0 ∨ tf ≠ s.synTarget n ∨ mode ≠ s.get F.synCfg_REF_MODE n ∧ (mode = 2 ∨ 1 < s.get F.synCfg_REF_MODE n)) :=
  ⟨synIn 0 (hz 1250000000) {}, .firmware, 7, hz 1250000000, 1, 0, 4, 50, 0, by decide +kernel⟩

theorem wit_SynCommandsComplete_4 : ∃ (s : State) (c : Caller) (n : Nat) (ticks : Int),
    s.admitsOwner c 81 = true ∧ 2 ≤ n ∧ n < 8 ∧ fits64 ticks = true ∧ s.synRuns n = true :=
  ⟨synIn 5 (hz 1250000000) {}, .firmware, 7, -2 ^ 63, by decide +kernel⟩

theorem wit_SynCommandsComplete_5 : ∃ (s : State) (c : Caller) (n : Nat),
    s.admitsOwner c 82 = true ∧ 2 ≤ n ∧ n < 8 ∧ s.get F.synCfg_REF_MODE n = 1 ∧ s.synRuns n = true :=
  ⟨sets (synIn 5 (hz 1250000000) {}) [(F.synCfg_REF_MODE, 1, 7)], .firmware, 7, by decide +kernel⟩

theorem wit_SynCommandsComplete_6 : ∃ (s : State) (c : Caller) (n : Nat),
    s.admitsOwner c 83 = true ∧ 1 ≤ n ∧ n < 8 :=
  ⟨up .track, .firmware, 1, by decide +kernel⟩

theorem wit_SynCommandsComplete_7 : ∃ (s : State) (c : Caller) (n : Nat),
    s.admitsOwner c 84 = true ∧ 2 ≤ n ∧ n < 8 :=
  ⟨up .track, .firmware, 2, by decide +kernel⟩

theorem wit_SynCommandsComplete_8 : ∃ (s : State) (c : Caller) (v : Nat) (dom : Nat) (e0 : TimeVal) (per : Nat) (width : Nat) (pol : Nat) (lateOk : Nat),
    s.admitsOwner c 85 = true ∧ v < 8 ∧ dom < 32 ∧ tvOk e0 = true ∧ per < 2 ^ 63 ∧ width < 2 ^ 63 ∧ pol < 2 ∧ lateOk < 2 ∧ (per = 0 ∨ 26214400 ≤ per ∧ width + 1048576 ≤ per) ∧ 1048576 ≤ width ∧ evoLead ≤ tvTicks e0 ∧ (s.dom dom).st ≠ DomState.off ∧ s.resetting (s.dom dom).owner = false ∧ s.evoArmed v = false ∧ s.twoSlots 0 ≠ none ∧ (lateOk = 1 ∨ s.ticks dom < ↑(tvTicks e0) - ↑evoLead) :=
  ⟨steered, .firmware, 7, 5, ⟨1, 0, 0⟩, 26214400, 25165824, 1, 0, by decide +kernel⟩

theorem wit_SynCommandsComplete_9 : ∃ (s : State) (c : Caller) (v : Nat),
    s.admitsOwner c 86 = true ∧ v < 8 ∧ s.evoArmed v = false :=
  ⟨up .track, .firmware, 7, by decide +kernel⟩

theorem wit_SynCommandsComplete_10 : ∃ (s : State) (c : Caller) (v : Nat),
    s.admitsOwner c 86 = true ∧ v < 8 ∧ s.evoArmed v = true :=
  ⟨sets (slotIn .armed .evoEdge 7) [(F.evoSlots_LEAD_SLOT, 9, 7)], .firmware, 7, by decide +kernel⟩

theorem wit_AoiRowsComplete_3 : ∃ (s : State) (vloop : Nat) (vcfd : Nat) (imeas : Nat),
    s.aoiOn = true ∧ vloop < 2 ^ 16 ∧ vcfd < 2 ^ 16 ∧ imeas < 2 ^ 16 ∧ s.getB F.aoiCfdCtl_CFD_EN = false :=
  ⟨rshIn .track 2, 65535, 65535, 65535, by decide +kernel⟩

theorem wit_AoiRowsComplete_7 : ∃ (s : State) (g : GainCal),
    s.aoiOn = true ∧ s.rsh.gain = some g ∧ s.getB F.aoiCfdStat_CFD_SAT = true :=
  ⟨{ sets (rshIn .track 2) [(F.aoiCfdStat_CFD_SAT, 1, 0)] with rsh := { gain := some ⟨1, false, 0, 0⟩ } }, ⟨1, false, 0, 0⟩, by decide +kernel⟩

theorem wit_AoiRowsComplete_8 : ∃ (s : State) (g : GainCal),
    s.aoiOn = true ∧ s.rsh.gain = some g ∧ s.getB F.aoiCfdStat_CFD_SAT = false ∧ g.second = false :=
  ⟨{ rshIn .track 2 with rsh := { gain := some ⟨1, false, 0, 0⟩ } }, ⟨1, false, 0, 0⟩, by decide +kernel⟩

theorem wit_AoiRowsComplete_9 : ∃ (s : State) (g : GainCal),
    s.aoiOn = true ∧ s.rsh.gain = some g ∧ s.getB F.aoiCfdStat_CFD_SAT = false ∧ g.second = true :=
  ⟨{ rshIn .track 2 with rsh := { gain := some ⟨1, true, 0, 0⟩ } }, ⟨1, true, 0, 0⟩, by decide +kernel⟩

theorem wit_ChannelsMoveByTheirTable_1 : ∃ (s : State) (ch : Nat) (signal : Nat) (sv : Nat),
    ch < 192 ∧ s.chState ch = 0 ∧ s.sigUsable signal = true ∧ 1 ≤ sv ∧ sv ≤ 63 ∧ s.handOver signal sv = true :=
  ⟨gnbIn .track 0, 191, 1, 63, by decide +kernel⟩

theorem wit_ChannelsMoveByTheirTable_2 : ∃ (s : State) (ch : Nat),
    ch < 192 ∧ (∀ k < 192, s.chState k = 0) :=
  ⟨gnbIn .track 0, 191, by decide +kernel⟩

theorem wit_GnssCommandsComplete_1 : ∃ (s : State) (x : Int) (y : Int) (z : Int) (unc : Nat),
    s.get F.gnbSurvey_STATE = 1 ∧ s.gnb.survMin ≤ s.survElapsed ∧ s.survElapsed ≤ s.gnb.survMax ∧ unc ≤ s.gnb.survTgt ∧ fits64 x = true ∧ fits64 y = true ∧ fits64 z = true ∧ unc < 2 ^ 32 ∧ (s.mode = Mode.track ∨ s.mode = Mode.standby) :=
  ⟨surveyIn .track 60, 2 ^ 63 - 1, -2 ^ 63, 0, 500, by decide +kernel⟩

theorem wit_GnssCommandsComplete_2 : ∃ (s : State) (x : Int) (y : Int) (z : Int) (unc : Nat),
    s.get F.gnbSurvey_STATE = 1 ∧ s.gnb.survMin ≤ s.survElapsed ∧ s.survElapsed ≤ s.gnb.survMax ∧ unc ≤ s.gnb.survTgt ∧ fits64 x = true ∧ fits64 y = true ∧ fits64 z = true ∧ unc < 2 ^ 32 ∧ s.mode ≠ Mode.track ∧ s.mode ≠ Mode.standby :=
  ⟨surveyIn .acquire 60, 2 ^ 63 - 1, -2 ^ 63, 0, 500, by decide +kernel⟩

theorem wit_GnssCommandsComplete_3 : ∃ (s : State),
    s.get F.gnbSurvey_STATE = 1 ∧ s.gnb.survMax ≤ s.survElapsed :=
  ⟨surveyIn .acquire 60, by decide +kernel⟩

theorem wit_GnssRecordsComplete_1 : ∃ (s : State),
    s.get F.gnbRxc_RXC % 1250000 = 0 ∧ s.gnb.gateAt ≠ some (s.get F.gnbRxc_RXC) :=
  ⟨gnbIn .track 0, by decide +kernel⟩

theorem wit_GnssRecordsComplete_2 : ∃ (s : State) (signal : Nat) (sv : Nat) (phase : Nat) (doppler : Int) (points : Nat) (bin : Nat),
    s.sigUsable signal = true ∧ 1 ≤ sv ∧ sv ≤ 63 ∧ searchGrid signal = some (points, bin) ∧ phase < points ∧ doppler.natAbs ≤ s.gnb.acqSpan ∧ doppler.natAbs % bin = 0 :=
  ⟨{ gnbIn .track 0 with gnb := { acqSpan := 6000 } }, 1, 63, 4095, -5500, 4096, 500, by decide +kernel⟩

theorem wit_GnssRecordsComplete_3 : ∃ (s : State) (signal : Nat) (sv : Nat) (doppler : Int),
    s.sigUsable signal = true ∧ 1 ≤ sv ∧ sv ≤ 63 ∧ (searchGrid signal = none ∨ s.gnb.acqSpan < doppler.natAbs) :=
  ⟨{ gnbIn .track 0 with gnb := { acqSpan := 6000 } }, 1, 63, -6001, by decide +kernel⟩

theorem wit_GnssRecordsComplete_4 : ∃ (s : State),
    s.getB F.gnbCtl_RUN = true ∧ s.get F.gnbRxc_RXC % (s.gnb.measPer * 1250000) = 0 ∧ s.gnb.epochAt ≠ some (s.get F.gnbRxc_RXC) :=
  ⟨{ gnbIn .track 0 with gnb := { measPer := 10 } }, by decide +kernel⟩

theorem wit_GppsFollowsItsSchedule_1 : ∃ (mode : Nat),
    mode % 16 ≠ 0 :=
  ⟨2, by decide +kernel⟩

theorem wit_GppsFollowsItsSchedule_2 : ∃ (s : State) (flags : Nat),
    s.pathAllow (bitOf flags 27) ≤ 4294967294 :=
  ⟨up .track, 2 ^ 27, by decide +kernel⟩

theorem wit_GppsFollowsItsSchedule_3 : ∃ (s : State) (flags : Nat),
    4294967294 < s.pathAllow (bitOf flags 27) :=
  ⟨sets (up .track) [(F.gspAllow_VALUE, 2 ^ 32 - 1, 0), (F.gspAllow_VALUE, 2 ^ 32 - 1, 1)], 2 ^ 27, by decide +kernel⟩

theorem wit_GppsFollowsItsSchedule_4 : ∃ (s : State) (sysSec : Nat) (est : Nat) (sigma : Nat) (mode : Nat) (flags : Nat) (used : Nat),
    s.earliestSec ≤ (s.schedOf sysSec est sigma mode flags used).sec ∧ ¬((s.schedOf sysSec est sigma mode flags used).edge < s.get F.gnbRxc_RXC + 1250) ∧ ¬(∃ e, s.gnb.prev = some e ∧ bitOf flags 24 = false ∧ ((s.schedOf sysSec est sigma mode flags used).edge < e + 1248750000 ∨ e + 1251250000 < (s.schedOf sysSec est sigma mode flags used).edge)) ∧ s.pwr.tseProven = true :=
  ⟨up .track, 1, 1250 * 2 ^ 32, 0, 0, 0, 0, ⟨by decide +kernel, by decide +kernel, (by rintro ⟨e, h, _⟩; cases h), by decide +kernel⟩⟩

theorem wit_GppsFollowsItsSchedule_5 : ∃ (s : State) (sysSec : Nat) (est : Nat) (sigma : Nat) (mode : Nat) (flags : Nat) (used : Nat),
    s.earliestSec ≤ (s.schedOf sysSec est sigma mode flags used).sec ∧ ¬((s.schedOf sysSec est sigma mode flags used).edge < s.get F.gnbRxc_RXC + 1250) ∧ ¬(∃ e, s.gnb.prev = some e ∧ bitOf flags 24 = false ∧ ((s.schedOf sysSec est sigma mode flags used).edge < e + 1248750000 ∨ e + 1251250000 < (s.schedOf sysSec est sigma mode flags used).edge)) ∧ s.pwr.tseProven = false :=
  ⟨{ up .track with pwr := {} }, 1, 1250 * 2 ^ 32, 0, 0, 0, 0, ⟨by decide +kernel, by decide +kernel, (by rintro ⟨e, h, _⟩; cases h), by decide +kernel⟩⟩

theorem wit_GppsFollowsItsSchedule_6 : ∃ (s : State) (sysSec : Nat) (est : Nat) (sigma : Nat) (mode : Nat) (flags : Nat) (used : Nat),
    s.earliestSec ≤ (s.schedOf sysSec est sigma mode flags used).sec ∧ (((s.schedOf sysSec est sigma mode flags used).edge < s.get F.gnbRxc_RXC + 1250) ∨ (∃ e, s.gnb.prev = some e ∧ bitOf flags 24 = false ∧ ((s.schedOf sysSec est sigma mode flags used).edge < e + 1248750000 ∨ e + 1251250000 < (s.schedOf sysSec est sigma mode flags used).edge))) :=
  ⟨up .track, 1, 1249 * 2 ^ 32, 0, 0, 0, 0, ⟨by decide +kernel, .inl (by decide +kernel)⟩⟩

theorem wit_GppsFollowsItsSchedule_7 : ∃ (s : State) (x : Sched),
    s.tse.due = [] ∧ s.gnb.sched = some x ∧ s.get F.gnbRxc_RXC ≠ x.edge :=
  ⟨{ up .track with gnb := { sched := some { gateFree with edge := 1 } } }, { gateFree with edge := 1 }, by decide +kernel⟩

theorem wit_GppsFollowsItsSchedule_8 : ∃ (s : State) (x : Sched),
    s.tse.due = [] ∧ s.gnb.sched = some x ∧ s.get F.gnbRxc_RXC = x.edge ∧ s.getB F.gspLevel_COH_OK = true ∧ (bitOf x.flags 27 = true → s.getB F.gspLevel_COH_OK 1 = true) :=
  ⟨{ sets (up .track) [(F.gspLevel_COH_OK, 1, 0), (F.gspLevel_COH_OK, 1, 1)] with gnb := { sched := some gateFree } }, gateFree, by decide +kernel⟩

theorem wit_GppsFollowsItsSchedule_9 : ∃ (s : State) (x : Sched),
    s.tse.due = [] ∧ s.gnb.sched = some x ∧ s.get F.gnbRxc_RXC = x.edge ∧ (s.getB F.gspLevel_COH_OK = false ∨ bitOf x.flags 27 = true ∧ s.getB F.gspLevel_COH_OK 1 = false) :=
  ⟨{ sets (up .track) [(F.gspLevel_COH_OK, 1, 0)] with gnb := { sched := some gateFree } }, gateFree, by decide +kernel⟩

/-! ### Witnesses: the sequencer -/

theorem wit_AluResultsAndFlags_1 : ∃ (s : State) (t : Nat),
    s.mayRun t 4 :=
  ⟨thrIn 1, 127, by unfold State.mayRun; decide +kernel⟩

theorem wit_ImmediatesAndFixedPoint_1 : ∃ (s : State) (t : Nat) (e : Bool),
    (s.mayRun t (if e = true then 8 else 4)) :=
  ⟨thrIn 1, 127, true, by unfold State.mayRun; decide +kernel⟩

theorem wit_ImmediatesAndFixedPoint_2 : ∃ (s : State) (t : Nat) (e : Bool) (ty : Nat) (n : Nat),
    (s.mayRun t (if e = true then 8 else 4)) ∧ e = false ∧ n < 64 ∧ ty = 0 :=
  ⟨thrIn 1, 127, false, 0, 63, by unfold State.mayRun; decide +kernel⟩

theorem wit_ImmediatesAndFixedPoint_3 : ∃ (s : State) (t : Nat) (e : Bool) (ty : Nat) (n : Nat),
    (s.mayRun t (if e = true then 8 else 4)) ∧ e = false ∧ n < 64 ∧ ty = 1 :=
  ⟨thrIn 1, 127, false, 1, 63, by unfold State.mayRun; decide +kernel⟩

theorem wit_ImmediatesAndFixedPoint_4 : ∃ (s : State) (t : Nat) (e : Bool) (ty : Nat) (n : Nat),
    (s.mayRun t (if e = true then 8 else 4)) ∧ e = false ∧ n < 64 ∧ ty = 2 :=
  ⟨thrIn 1, 127, false, 2, 63, by unfold State.mayRun; decide +kernel⟩

theorem wit_ImmediatesAndFixedPoint_5 : ∃ (s : State) (t : Nat) (e : Bool) (ty : Nat) (n : Nat),
    (s.mayRun t (if e = true then 8 else 4)) ∧ e = false ∧ n < 64 ∧ ty = 3 :=
  ⟨thrIn 1, 127, false, 3, 63, by unfold State.mayRun; decide +kernel⟩

theorem wit_ImmediatesAndFixedPoint_6 : ∃ (s : State) (t : Nat) (rm : Nat),
    rm < 4 ∧ s.mayRun t 4 :=
  ⟨thrIn 1, 127, 3, by unfold State.mayRun; decide +kernel⟩

theorem wit_TimeRegisterInstructions_1 : ∃ (s : State) (t : Nat) (ta : Nat) (gs : Nat) (ns : Bool),
    s.mayRun t 4 ∧ 0 ≤ (↑(s.treg t ta).t + BitVec.toInt (s.g t gs) * if ns = true then 2 ^ 18 else 1) ∧ (↑(s.treg t ta).t + BitVec.toInt (s.g t gs) * if ns = true then 2 ^ 18 else 1) < 2 ^ 48 * ↑Config.secTicks :=
  ⟨withT (g1 (thrIn 1) (2 ^ 64 - 1)) { t := 2 ^ 18 }, 127, 0, 1, true, by unfold State.mayRun; decide +kernel⟩

theorem wit_TimeRegisterInstructions_2 : ∃ (s : State) (t : Nat) (ta : Nat) (gs : Nat) (ns : Bool),
    s.mayRun t 4 ∧ ((↑(s.treg t ta).t + BitVec.toInt (s.g t gs) * if ns = true then 2 ^ 18 else 1) < 0 ∨ 2 ^ 48 * ↑Config.secTicks ≤ (↑(s.treg t ta).t + BitVec.toInt (s.g t gs) * if ns = true then 2 ^ 18 else 1)) :=
  ⟨withT (g1 (thrIn 1) (2 ^ 64 - 1)) { t := 2 ^ 18 - 1 }, 127, 0, 1, true, by unfold State.mayRun; decide +kernel⟩

theorem wit_TimeRegisterInstructions_3 : ∃ (s : State) (t : Nat),
    s.mayRun t 4 :=
  ⟨thrIn 1, 127, by unfold State.mayRun; decide +kernel⟩

theorem wit_TimeRegisterInstructions_4 : ∃ (s : State) (t : Nat),
    s.mayRun t 4 :=
  ⟨thrIn 1, 127, by unfold State.mayRun; decide +kernel⟩

theorem wit_TimeRegisterInstructions_5 : ∃ (s : State) (t : Nat),
    s.mayRun t 4 :=
  ⟨thrIn 1, 127, by unfold State.mayRun; decide +kernel⟩

theorem wit_TimeRegisterInstructions_6 : ∃ (s : State) (t : Nat) (field : Nat),
    s.mayRun t 4 ∧ field < 4 :=
  ⟨thrIn 1, 127, 3, by unfold State.mayRun; decide +kernel⟩

theorem wit_TimeRegisterInstructions_7 : ∃ (s : State) (t : Nat),
    s.mayRun t 4 :=
  ⟨thrIn 1, 127, by unfold State.mayRun; decide +kernel⟩

theorem wit_TimeInstructionsReadAndArm_1 : ∃ (s : State) (t : Nat) (dom : Nat),
    s.mayRun t 4 ∧ s.getB F.thrStat_STOP_PEND t = false ∧ dom < 32 ∧ (fun n => n = 0 ∨ (s.dom n).owner = (s.thrPart t)) dom ∧ (fun n => 0 ≤ s.startTicks n ∧ s.startTicks n < 2 ^ 48 * ↑Config.secTicks) dom :=
  ⟨thrIn 1, 127, 5, by unfold State.mayRun; beta_reduce; decide +kernel⟩

theorem wit_TimeInstructionsReadAndArm_2 : ∃ (s : State) (t : Nat) (dom : Nat),
    s.mayRun t 4 ∧ s.getB F.thrStat_STOP_PEND t = false ∧ dom < 32 ∧ ¬(fun n => n = 0 ∨ (s.dom n).owner = (s.thrPart t)) dom :=
  ⟨(thrIn 1).setDom 6 { owner := 1 }, 127, 6, by unfold State.mayRun; beta_reduce; decide +kernel⟩

theorem wit_TimeInstructionsReadAndArm_3 : ∃ (s : State) (t : Nat) (tn : Nat) (count : Nat),
    s.mayRun t 4 ∧ s.getB F.thrStat_STOP_PEND t = false ∧ 1 ≤ count ∧ 8 < tn + count :=
  ⟨thrIn 1, 127, 7, 2, by unfold State.mayRun; decide +kernel⟩

theorem wit_TimeInstructionsReadAndArm_4 : ∃ (s : State) (t : Nat) (tn : Nat) (count : Nat) (gs : Nat),
    s.mayRun t 4 ∧ s.getB F.thrStat_STOP_PEND t = false ∧ 1 ≤ count ∧ tn + count ≤ 8 ∧ (∃ k < count, ¬(fun n => n = 0 ∨ (s.dom n).owner = (s.thrPart t)) ((fun k => (BitVec.extractLsb' (8 * k) 5 (s.g t gs)).toNat) k)) :=
  ⟨(g1 (thrIn 1) 0x600).setDom 6 { owner := 1 }, 127, 6, 2, 1, by unfold State.mayRun; beta_reduce; decide +kernel⟩

theorem wit_TimeInstructionsReadAndArm_5 : ∃ (s : State) (t : Nat) (tn : Nat) (count : Nat) (gs : Nat),
    s.mayRun t 4 ∧ s.getB F.thrStat_STOP_PEND t = false ∧ 1 ≤ count ∧ tn + count ≤ 8 ∧ (∀ k < count, (fun n => n = 0 ∨ (s.dom n).owner = (s.thrPart t)) ((fun k => (BitVec.extractLsb' (8 * k) 5 (s.g t gs)).toNat) k) ∧ (fun n => 0 ≤ s.startTicks n ∧ s.startTicks n < 2 ^ 48 * ↑Config.secTicks) ((fun k => (BitVec.extractLsb' (8 * k) 5 (s.g t gs)).toNat) k)) :=
  ⟨g1 (thrIn 1) 0x500, 127, 6, 2, 1, by unfold State.mayRun; beta_reduce; decide +kernel⟩

theorem wit_TimeInstructionsReadAndArm_6 : ∃ (s : State) (t : Nat) (tn : Nat),
    s.mayRun t 4 ∧ s.getB F.thrStat_STOP_PEND t = false ∧ (fun n => n = 0 ∨ (s.dom n).owner = (s.thrPart t)) (s.treg t tn).dom ∧ (s.dom (s.treg t tn).dom).st ≠ DomState.off :=
  ⟨withT (thrIn 1) { dom := 5 }, 127, 0, by unfold State.mayRun; beta_reduce; decide +kernel⟩

theorem wit_TimeInstructionsReadAndArm_7 : ∃ (s : State) (t : Nat) (tn : Nat),
    s.mayRun t 4 ∧ s.getB F.thrStat_STOP_PEND t = false ∧ (fun n => n = 0 ∨ (s.dom n).owner = (s.thrPart t)) (s.treg t tn).dom ∧ (s.dom (s.treg t tn).dom).st = DomState.off :=
  ⟨withT (thrIn 1) { dom := 4 }, 127, 0, by unfold State.mayRun; beta_reduce; decide +kernel⟩

theorem wit_TimeInstructionsReadAndArm_8 : ∃ (s : State) (t : Nat) (tn : Nat),
    s.mayRun t 4 ∧ s.getB F.thrStat_STOP_PEND t = false ∧ ¬(fun n => n = 0 ∨ (s.dom n).owner = (s.thrPart t)) (s.treg t tn).dom :=
  ⟨(withT (thrIn 1) { dom := 6 }).setDom 6 { owner := 1 }, 127, 0, by unfold State.mayRun; beta_reduce; decide +kernel⟩

theorem wit_TimeInstructionsReadAndArm_9 : ∃ (s : State) (t : Nat) (tn : Nat) (gs : Nat) (k : AlarmKind) (slot : Nat),
    s.mayRun t 4 ∧ s.getB F.thrStat_STOP_PEND t = false ∧ gs ≠ 31 ∧ (fun n => n = 0 ∨ (s.dom n).owner = (s.thrPart t)) (s.treg t tn).dom ∧ s.legal 24 = true ∧ s.kindRefused ((BitVec.extractLsb' 0 8 (s.g t gs)).toNat) = false ∧ armKind ((BitVec.extractLsb' 0 8 (s.g t gs)).toNat) = some k ∧ s.targetOk k ((BitVec.extractLsb' 16 16 (s.g t gs)).toNat) = true ∧ ((BitVec.toNat (s.g t (gs + 1))) = 0 ∨ 26214400 ≤ (BitVec.toNat (s.g t (gs + 1)))) ∧ (k = AlarmKind.evoEdge → evoLead ≤ (s.treg t tn).t) ∧ (s.dom (s.treg t tn).dom).st ≠ DomState.off ∧ (s.treg t tn).dom < 32 ∧ s.targetDenied k ((BitVec.extractLsb' 16 16 (s.g t gs)).toNat) (s.thrPart t) = false ∧ (armFires k ((BitVec.extractLsb' 32 1 (s.g t gs)).toNat) = true ∨ (s.isPast (s.treg t tn).dom (storedInst k (s.treg t tn).t)) = false) ∧ (if BitVec.getLsbD (s.g t gs) 60 = true then s.freeSlot (s.thrPart t) = some slot else slot = (BitVec.extractLsb' 48 12 (s.g t gs)).toNat ∧ 8 ≤ slot ∧ if s.slotHeld slot = true then s.slotPart slot = (s.thrPart t) else s.quotaLeft (s.thrPart t) = true) :=
  ⟨withT (g1 (thrIn 1) 0x0fff00010007000a) { t := 1, dom := 5 }, 127, 0, 1, .hostInt, 4095, by unfold State.mayRun; beta_reduce; decide +kernel⟩

theorem wit_LoadsAndStoresReachDataSram_1 : ∃ (s : State) (t : Nat) (ra : Nat) (imm : Nat) (e : Bool),
    (s.mayRun t (if e = true then 8 else 4)) ∧ s.getB F.thrStat_STOP_PEND t = false ∧ tabGet none s.par.stalls (2 + t / 16) = none ∧ (s.thrReaches t (8 * ((BitVec.toNat (s.g t ra + immVal e imm)) / 8)) = true ∧ inDsram (8 * ((BitVec.toNat (s.g t ra + immVal e imm)) / 8)) = true) ∧ (BitVec.toNat (s.g t ra + immVal e imm)) % 8 = 0 :=
  ⟨g1 (thrIn 1) 0x24ffff9, 127, 1, 0x7fff, false, by unfold State.mayRun; decide +kernel⟩

theorem wit_LoadsAndStoresReachDataSram_2 : ∃ (s : State) (t : Nat) (ra : Nat) (imm : Nat) (e : Bool),
    (s.mayRun t (if e = true then 8 else 4)) ∧ s.getB F.thrStat_STOP_PEND t = false ∧ tabGet none s.par.stalls (2 + t / 16) = none ∧ (s.thrReaches t (8 * ((BitVec.toNat (s.g t ra + immVal e imm)) / 8)) = true ∧ inDsram (8 * ((BitVec.toNat (s.g t ra + immVal e imm)) / 8)) = true) ∧ (BitVec.toNat (s.g t ra + immVal e imm)) % 8 = 4 :=
  ⟨g1 (thrIn 1) 0x2400000, 127, 1, 4, true, by unfold State.mayRun; decide +kernel⟩

theorem wit_LoadsAndStoresReachDataSram_3 : ∃ (s : State) (t : Nat) (ra : Nat) (imm : Nat) (e : Bool),
    (s.mayRun t (if e = true then 8 else 4)) ∧ s.getB F.thrStat_STOP_PEND t = false ∧ tabGet none s.par.stalls (2 + t / 16) = none ∧ (BitVec.toNat (s.g t ra + immVal e imm)) % 8 ≠ 0 :=
  ⟨g1 (thrIn 1) 0x2400004, 127, 1, 0, false, by unfold State.mayRun; decide +kernel⟩

theorem wit_LoadsAndStoresReachDataSram_4 : ∃ (s : State) (t : Nat) (ra : Nat) (imm : Nat) (e : Bool),
    (s.mayRun t (if e = true then 8 else 4)) ∧ s.getB F.thrStat_STOP_PEND t = false ∧ tabGet none s.par.stalls (2 + t / 16) = none ∧ (BitVec.toNat (s.g t ra + immVal e imm)) % 4 ≠ 0 :=
  ⟨g1 (thrIn 1) 0x2400003, 127, 1, 0, false, by unfold State.mayRun; decide +kernel⟩

theorem wit_LoadsAndStoresReachDataSram_5 : ∃ (s : State) (t : Nat) (ra : Nat) (imm : Nat) (e : Bool),
    (s.mayRun t (if e = true then 8 else 4)) ∧ s.getB F.thrStat_STOP_PEND t = false ∧ tabGet none s.par.stalls (2 + t / 16) = none ∧ s.thrReaches t (8 * ((BitVec.toNat (s.g t ra + immVal e imm)) / 8)) = false ∧ (BitVec.toNat (s.g t ra + immVal e imm)) % 8 = 0 :=
  ⟨g1 (thrIn 1) 0x2500000, 127, 1, 0, false, by unfold State.mayRun; decide +kernel⟩

theorem wit_LoadsAndStoresReachDataSram_6 : ∃ (s : State) (t : Nat) (ra : Nat) (imm : Nat) (e : Bool),
    (s.mayRun t (if e = true then 8 else 4)) ∧ s.getB F.thrStat_STOP_PEND t = false ∧ tabGet none s.par.stalls (2 + t / 16) = none ∧ s.thrReaches t (8 * ((BitVec.toNat (s.g t ra + immVal e imm)) / 8)) = false ∧ (BitVec.toNat (s.g t ra + immVal e imm)) % 4 = 0 :=
  ⟨g1 (thrIn 1) 0x2500000, 127, 1, 0, false, by unfold State.mayRun; decide +kernel⟩

theorem wit_QueueInstructionsMoveWords_1 : ∃ (s : State) (t : Nat) (q : Nat),
    s.mayRun t 4 ∧ q < 256 ∧ (s.queue q).waiters = [] ∧ (s.queue q).held = none ∧ s.get F.qCfg_PART q ≠ s.thrPart t ∧ s.storesPend t = false :=
  ⟨sets (thrIn 1) [(F.qCfg_PART, 1, 255)], 127, 255, by unfold State.mayRun; decide +kernel⟩

theorem wit_QueueInstructionsMoveWords_2 : ∃ (s : State) (t : Nat) (q : Nat),
    s.mayRun t 4 ∧ q < 256 ∧ (s.queue q).waiters = [] ∧ (s.queue q).held = none ∧ s.get F.qCfg_PART q ≠ s.thrPart t :=
  ⟨sets (thrIn 1) [(F.qCfg_PART, 1, 255)], 127, 255, by unfold State.mayRun; decide +kernel⟩

theorem wit_QueueInstructionsMoveWords_3 : ∃ (s : State) (t : Nat) (q : Nat),
    s.mayRun t 4 ∧ q < 256 ∧ (s.queue q).waiters = [] ∧ (s.queue q).held = none ∧ s.get F.qCfg_PART q = s.thrPart t :=
  ⟨thrIn 1, 127, 255, by unfold State.mayRun; decide +kernel⟩

theorem wit_QueueInstructionsMoveWords_4 : ∃ (s : State) (t : Nat) (q : Nat),
    s.mayRun t 4 ∧ q < 256 ∧ (s.queue q).waiters = [] ∧ (s.queue q).held = none ∧ s.get F.qCfg_PART q = s.thrPart t ∧ s.storesPend t = false ∧ s.qCanPut q (Master.thread t) = true :=
  ⟨withQ (thrIn 1) { words := [(1, true)] }, 127, 255, by unfold State.mayRun; decide +kernel⟩

theorem wit_QueueInstructionsMoveWords_5 : ∃ (s : State) (t : Nat) (q : Nat),
    s.mayRun t 4 ∧ q < 256 ∧ (s.queue q).waiters = [] ∧ (s.queue q).held = none ∧ s.get F.qCfg_PART q = s.thrPart t ∧ s.storesPend t = false ∧ s.qCanPut q (Master.thread t) = false :=
  ⟨withQ (thrIn 1) { words := List.replicate 8 (1, true) }, 127, 255, by unfold State.mayRun; decide +kernel⟩

theorem wit_QueueInstructionsMoveWords_6 : ∃ (s : State) (t : Nat) (q : Nat) (y : Word) (last : Bool) (l : List (Word × Bool)),
    s.mayRun t 4 ∧ q < 256 ∧ (s.queue q).waiters = [] ∧ (s.queue q).held = none ∧ s.get F.qCfg_PART q = s.thrPart t ∧ s.qCanGet q (Master.thread t) = true ∧ (s.queue q).words = (y, last) :: l :=
  ⟨withQ (thrIn 1) { words := [(1, true)] }, 127, 255, 1, true, [], by unfold State.mayRun; decide +kernel⟩

theorem wit_QueueInstructionsMoveWords_7 : ∃ (s : State) (t : Nat) (q : Nat),
    s.mayRun t 4 ∧ q < 256 ∧ (s.queue q).waiters = [] ∧ (s.queue q).held = none ∧ s.get F.qCfg_PART q = s.thrPart t ∧ s.qCanGet q (Master.thread t) = false :=
  ⟨thrIn 1, 127, 255, by unfold State.mayRun; decide +kernel⟩

theorem wit_EscrowsStageJudgeAndCommit_1 : ∃ (s : State) (t : Nat) (e : Nat),
    s.mayRun t 4 ∧ s.getB F.thrStat_STOP_PEND t = false ∧ e < 4 ∧ s.legal 102 = true ∧ (s.escState (4 * (s.thrPart t) + e) = 0 ∨ s.escState (4 * (s.thrPart t) + e) = 3) ∧ (∀ j < e, s.escState (4 * (s.thrPart t) + j) = 1 ∨ s.escState (4 * (s.thrPart t) + j) = 2) :=
  ⟨sets (thrIn 1) [(F.escStat_STATE, 1, 0), (F.escStat_STATE, 2, 1), (F.escStat_STATE, 1, 2), (F.escStat_STATE, 3, 3)], 127, 3, by unfold State.mayRun; decide +kernel⟩

theorem wit_EscrowsStageJudgeAndCommit_2 : ∃ (s : State) (t : Nat) (e : Nat),
    s.mayRun t 4 ∧ s.getB F.thrStat_STOP_PEND t = false ∧ e < 4 ∧ s.legal 102 = true ∧ (∀ j < 4, s.escState (4 * (s.thrPart t) + j) = 1 ∨ s.escState (4 * (s.thrPart t) + j) = 2) :=
  ⟨sets (thrIn 1) [(F.escStat_STATE, 1, 0), (F.escStat_STATE, 2, 1), (F.escStat_STATE, 1, 2), (F.escStat_STATE, 2, 3)], 127, 0, by unfold State.mayRun; decide +kernel⟩

theorem wit_EscrowsStageJudgeAndCommit_5 : ∃ (s : State) (t : Nat) (e : Nat),
    s.mayRun t 4 ∧ s.getB F.thrStat_STOP_PEND t = false ∧ e < 4 ∧ s.legal 104 = true ∧ s.escIsOpen (4 * (s.thrPart t) + e) = true ∧ s.storesPend t = false :=
  ⟨escIn (thrIn 1) 1, 127, 3, by unfold State.mayRun; decide +kernel⟩

theorem wit_EscrowsStageJudgeAndCommit_6 : ∃ (s : State) (t : Nat) (e : Nat) (late : Bool) (tn : Nat) (slot : Nat),
    s.mayRun t 4 ∧ s.getB F.thrStat_STOP_PEND t = false ∧ e < 4 ∧ s.legal 104 = true ∧ s.escIsOpen (4 * (s.thrPart t) + e) = true ∧ s.storesPend t = false ∧ (s.treg t tn).dom < 32 ∧ ((s.treg t tn).dom = 0 ∨ (s.dom (s.treg t tn).dom).owner = (s.thrPart t)) ∧ (s.dom (s.treg t tn).dom).st ≠ DomState.off ∧ s.freeSlot (s.thrPart t) = some slot ∧ (late = true ∨ s.ticks (s.treg t tn).dom < ↑(s.treg t tn).t) :=
  ⟨withT (escIn (thrIn 1) 1) { t := 1, dom := 5 }, 127, 3, false, 0, 8, by unfold State.mayRun; decide +kernel⟩

theorem wit_EscrowsStageJudgeAndCommit_7 : ∃ (s : State) (t : Nat) (e : Nat) (late : Bool) (tn : Nat) (slot : Nat),
    s.mayRun t 4 ∧ s.getB F.thrStat_STOP_PEND t = false ∧ e < 4 ∧ s.legal 104 = true ∧ s.escIsOpen (4 * (s.thrPart t) + e) = true ∧ s.storesPend t = false ∧ (s.treg t tn).dom < 32 ∧ ((s.treg t tn).dom = 0 ∨ (s.dom (s.treg t tn).dom).owner = (s.thrPart t)) ∧ (s.dom (s.treg t tn).dom).st ≠ DomState.off ∧ s.freeSlot (s.thrPart t) = some slot ∧ late = false ∧ ↑(s.treg t tn).t ≤ s.ticks (s.treg t tn).dom :=
  ⟨withT (escIn (thrIn 1) 1) { t := 0, dom := 5 }, 127, 3, false, 0, 8, by unfold State.mayRun; decide +kernel⟩

theorem wit_EscrowsStageJudgeAndCommit_8 : ∃ (s : State) (t : Nat) (e : Nat),
    s.mayRun t 4 ∧ s.getB F.thrStat_STOP_PEND t = false ∧ e < 4 ∧ s.legal 105 = true ∧ s.escIsOpen (4 * (s.thrPart t) + e) = true :=
  ⟨escIn (thrIn 1) 1, 127, 3, by unfold State.mayRun; decide +kernel⟩

theorem wit_EscrowsStageJudgeAndCommit_9 : ∃ (s : State) (t : Nat) (e : Nat),
    s.mayRun t 4 ∧ s.getB F.thrStat_STOP_PEND t = false ∧ e < 4 ∧ s.legal 105 = true ∧ s.escState (4 * (s.thrPart t) + e) = 3 :=
  ⟨escIn (thrIn 1) 3, 127, 3, by unfold State.mayRun; decide +kernel⟩

theorem wit_EscrowsStageJudgeAndCommit_10 : ∃ (s : State) (c : Caller) (e : Nat),
    e < 4 ∧ s.resetting (s.cPart c) = false ∧ s.admits 102 = true ∧ (s.escState (4 * (s.cPart c) + e) = 0 ∨ s.escState (4 * (s.cPart c) + e) = 3) ∧ (∀ j < e, s.escState (4 * (s.cPart c) + j) = 1 ∨ s.escState (4 * (s.cPart c) + j) = 2) :=
  ⟨sets (up .track) [(F.escStat_STATE, 1, 0), (F.escStat_STATE, 2, 1), (F.escStat_STATE, 1, 2)], .firmware, 3, by decide +kernel⟩

theorem wit_EscrowsStageJudgeAndCommit_12 : ∃ (s : State) (c : Caller) (e : Nat),
    e < 4 ∧ s.resetting (s.cPart c) = false ∧ s.admits 104 = true ∧ s.escIsOpen (4 * (s.cPart c) + e) = true :=
  ⟨escIn (up .track) 1, .firmware, 3, by decide +kernel⟩

theorem wit_EscrowsStageJudgeAndCommit_13 : ∃ (s : State) (c : Caller) (e : Nat),
    e < 4 ∧ s.resetting (s.cPart c) = false ∧ s.admits 105 = true ∧ s.escIsOpen (4 * (s.cPart c) + e) = true :=
  ⟨escIn (up .track) 1, .firmware, 3, by decide +kernel⟩

theorem wit_EscrowsStageJudgeAndCommit_14 : ∃ (s : State) (k : Nat) (l : List Nat) (y : Nat × Word × Bool),
    s.tse.due = [] ∧ s.tse.imm = k :: l ∧ k < 32 ∧ s.escState k = 1 ∧ y ∈ (s.escStaged k) ∧ (fun y => BitVec.toNat (s.rd RegId.escSeq k) < tabGet 0 s.dsq.cseqOf y.1) y ∧ (∀ z ∈ (s.escStaged k), (fun y => BitVec.toNat (s.rd RegId.escSeq k) < tabGet 0 s.dsq.cseqOf y.1) z → y.1 ≤ z.1) :=
  ⟨{ withStaged (escIn (up .track) 1) [(16, 7, true), (8, 7, true)] with dsq := { staged := [(3, [(16, 7, true), (8, 7, true)])], cseqOf := [(8, 1), (16, 2)] }, tse := { imm := [3] } }, 3, [], (8, 7, true), by beta_reduce; decide +kernel⟩

theorem wit_EscrowsStageJudgeAndCommit_15 : ∃ (s : State) (k : Nat) (l : List Nat),
    s.tse.due = [] ∧ s.tse.imm = k :: l ∧ k < 32 ∧ s.escState k = 1 ∧ (s.escStaged k) = [] :=
  ⟨{ escIn (up .track) 1 with tse := { imm := [3] } }, 3, [], by decide +kernel⟩

theorem wit_ControlInstructionsMovePc_1 : ∃ (s : State) (t : Nat) (e : Bool),
    (s.mayRun t (if e = true then 8 else 4)) :=
  ⟨thrIn 1, 127, true, by unfold State.mayRun; decide +kernel⟩

theorem wit_ControlInstructionsMovePc_2 : ∃ (s : State) (t : Nat) (e : Bool) (cond : Nat),
    (s.mayRun t (if e = true then 8 else 4)) ∧ cond < 16 ∧ ([(s.flag t Flag.z), !(s.flag t Flag.z), (s.flag t Flag.n) != (s.flag t Flag.v), (s.flag t Flag.n) == (s.flag t Flag.v), !(s.flag t Flag.z) && (s.flag t Flag.n) == (s.flag t Flag.v), (s.flag t Flag.z) || (s.flag t Flag.n) != (s.flag t Flag.v), !(s.flag t Flag.c), (s.flag t Flag.c), (s.flag t Flag.n), !(s.flag t Flag.n), (s.flag t Flag.v), !(s.flag t Flag.v), s.flag t Flag.l, !s.flag t Flag.l, s.flag t Flag.s, !s.flag t Flag.s]).getD cond false = true :=
  ⟨thrIn 1, 127, false, 15, by unfold State.mayRun; decide +kernel⟩

theorem wit_ControlInstructionsMovePc_3 : ∃ (s : State) (t : Nat) (e : Bool) (cond : Nat),
    (s.mayRun t (if e = true then 8 else 4)) ∧ cond < 16 ∧ ([(s.flag t Flag.z), !(s.flag t Flag.z), (s.flag t Flag.n) != (s.flag t Flag.v), (s.flag t Flag.n) == (s.flag t Flag.v), !(s.flag t Flag.z) && (s.flag t Flag.n) == (s.flag t Flag.v), (s.flag t Flag.z) || (s.flag t Flag.n) != (s.flag t Flag.v), !(s.flag t Flag.c), (s.flag t Flag.c), (s.flag t Flag.n), !(s.flag t Flag.n), (s.flag t Flag.v), !(s.flag t Flag.v), s.flag t Flag.l, !s.flag t Flag.l, s.flag t Flag.s, !s.flag t Flag.s]).getD cond false = false :=
  ⟨thrIn 1, 127, true, 0, by unfold State.mayRun; decide +kernel⟩

theorem wit_ControlInstructionsMovePc_4 : ∃ (s : State) (t : Nat) (e : Bool),
    (s.mayRun t (if e = true then 8 else 4)) :=
  ⟨thrIn 1, 127, true, by unfold State.mayRun; decide +kernel⟩

theorem wit_ControlInstructionsMovePc_5 : ∃ (s : State) (t : Nat),
    s.mayRun t 4 :=
  ⟨thrIn 1, 127, by unfold State.mayRun; decide +kernel⟩

theorem wit_ControlInstructionsMovePc_6 : ∃ (s : State) (t : Nat),
    s.mayRun t 4 :=
  ⟨thrIn 1, 127, by unfold State.mayRun; decide +kernel⟩

theorem wit_ControlInstructionsMovePc_7 : ∃ (s : State) (t : Nat),
    s.mayRun t 4 :=
  ⟨thrIn 1, 127, by unfold State.mayRun; decide +kernel⟩

theorem wit_ControlInstructionsMovePc_9 : ∃ (s : State) (t : Nat),
    s.mayRun t 4 :=
  ⟨thrIn 1, 127, by unfold State.mayRun; decide +kernel⟩

theorem wit_ControlInstructionsMovePc_8 : ∃ (s : State) (t : Nat),
    s.mayRun t 4 :=
  ⟨thrIn 1, 127, by unfold State.mayRun; decide +kernel⟩

theorem wit_ExceptionsAreRecorded_1 : ∃ (t : Nat) (cause : Nat) (code : Nat) (pc : Nat),
    t < 128 ∧ cause < 256 ∧ code < 2 ^ 16 ∧ pc < 2 ^ 21 :=
  ⟨127, 255, 65535, 2097151, by decide +kernel⟩

theorem wit_ExceptionsAreRecorded_6 : ∃ (s : State) (t : Nat) (cause : Nat) (code : Nat) (pc : Nat) (data : Word) (k : Nat) (w : QWait),
    t < 128 ∧ cause < 256 ∧ code < 2 ^ 16 ∧ pc < 2 ^ 21 ∧ w ∈ ((s.faultThr t cause code pc data).queue k).waiters :=
  ⟨withQ (thrIn 1) { waiters := [{ thread := 3, put := none, since := 0 }] }, 127, 1, 65535, 2097151, 1, 255, { thread := 3, put := none, since := 0 }, by decide +kernel⟩

theorem wit_ExceptionsAreRecorded_7 : ∃ (s : State) (t : Nat) (cause : Nat) (code : Nat) (pc : Nat),
    t < 128 ∧ cause < 256 ∧ code < 2 ^ 16 ∧ pc < 2 ^ 21 ∧ s.getB F.dsqNotify_EXC_EN (s.thrPart t) = true ∧ s.getB F.qCfg_EN (s.get F.dsqNotify_EXC_Q (s.thrPart t)) = true ∧ (s.queue (s.get F.dsqNotify_EXC_Q (s.thrPart t))).opn = none ∧ (s.queue (s.get F.dsqNotify_EXC_Q (s.thrPart t))).held = none ∧ (s.queue (s.get F.dsqNotify_EXC_Q (s.thrPart t))).claim ≠ some (Master.thread t) ∧ (s.queue (s.get F.dsqNotify_EXC_Q (s.thrPart t))).words.length + 2 ≤ 2 ^ s.get F.qCfg_DEPTH (s.get F.dsqNotify_EXC_Q (s.thrPart t)) :=
  ⟨withQ (thrIn 1) { words := List.replicate 0 (1, true) }, 127, 1, 65535, 2097151, by decide +kernel⟩

theorem wit_EnginesIssueByShare_1 : ∃ (ready : Nat → Bool),
    (∀ p < 8, ready p = false) :=
  ⟨fun _ => false, by decide +kernel⟩

theorem wit_EnginesIssueByShare_2 : ∃ (a : Arb) (window : Nat) (min : Nat → Nat) (ready : Nat → Bool) (p : Nat),
    p < 8 ∧ (fun p => ready p = true ∧ List.count p (List.take window a.hist) < min p) p ∧ (∀ q < p, ¬(fun p => ready p = true ∧ List.count p (List.take window a.hist) < min p) q) :=
  ⟨{}, 256, fun _ => 1, fun p => p == 7, 7, by beta_reduce; decide +kernel⟩

theorem wit_EnginesIssueByShare_3 : ∃ (a : Arb) (window : Nat) (min : Nat → Nat) (ready : Nat → Bool) (p : Nat) (q : Nat),
    p < 8 ∧ (fun p => ready p = true ∧ List.count p (List.take window a.hist) < min p) p ∧ (∀ q < p, ¬(fun p => ready p = true ∧ List.count p (List.take window a.hist) < min p) q) ∧ q < 8 ∧ q ≠ p :=
  ⟨{}, 256, fun _ => 1, fun p => p == 7, 7, 0, by beta_reduce; decide +kernel⟩

theorem wit_EnginesIssueByShare_4 : ∃ (a : Arb) (window : Nat) (min : Nat → Nat) (weight : Nat → Nat) (ready : Nat → Bool) (p : Nat),
    (∀ q < 8, ¬(fun p => ready p = true ∧ List.count p (List.take window a.hist) < min p) q) ∧ p < 8 ∧ (fun p => ready p = true ∧ (0 < weight p ∨ ∀ q < 8, ready q = true → weight q = 0)) p ∧ (∀ q < 8, (fun p => ready p = true ∧ (0 < weight p ∨ ∀ q < 8, ready q = true → weight q = 0)) q → (fun p => if ready p = true then tabGet 0 a.credit p + ↑(weight p) else 0) q ≤ (fun p => if ready p = true then tabGet 0 a.credit p + ↑(weight p) else 0) p) ∧ (∀ q < p, (fun p => ready p = true ∧ (0 < weight p ∨ ∀ q < 8, ready q = true → weight q = 0)) q → (fun p => if ready p = true then tabGet 0 a.credit p + ↑(weight p) else 0) q < (fun p => if ready p = true then tabGet 0 a.credit p + ↑(weight p) else 0) p) :=
  ⟨{ credit := [(3, 5)] }, 256, fun _ => 0, fun _ => 0, fun p => p == 3 || p == 7, 3, by beta_reduce; decide +kernel⟩

theorem wit_EnginesIssueByShare_5 : ∃ (a : Arb) (window : Nat) (min : Nat → Nat) (weight : Nat → Nat) (ready : Nat → Bool) (p : Nat) (q : Nat),
    (∀ q < 8, ¬(fun p => ready p = true ∧ List.count p (List.take window a.hist) < min p) q) ∧ p < 8 ∧ (fun p => ready p = true ∧ (0 < weight p ∨ ∀ q < 8, ready q = true → weight q = 0)) p ∧ (∀ q < 8, (fun p => ready p = true ∧ (0 < weight p ∨ ∀ q < 8, ready q = true → weight q = 0)) q → (fun p => if ready p = true then tabGet 0 a.credit p + ↑(weight p) else 0) q ≤ (fun p => if ready p = true then tabGet 0 a.credit p + ↑(weight p) else 0) p) ∧ (∀ q < p, (fun p => ready p = true ∧ (0 < weight p ∨ ∀ q < 8, ready q = true → weight q = 0)) q → (fun p => if ready p = true then tabGet 0 a.credit p + ↑(weight p) else 0) q < (fun p => if ready p = true then tabGet 0 a.credit p + ↑(weight p) else 0) p) ∧ q < 8 ∧ q ≠ p :=
  ⟨{ credit := [(3, 5)] }, 256, fun _ => 0, fun _ => 1, fun p => p == 3 || p == 7, 3, 7, by beta_reduce; decide +kernel⟩

theorem wit_EnginesIssueByShare_6 : ∃ (s : State) (e : Nat),
    e < 8 ∧ s.cpx.inReset = false ∧ bitOf (BitVec.toNat (s.rd RegId.pwrEn)) e = true ∧ (((s.eng e).arb.pick 256 (fun p => s.get F.dsqShare_MIN p) (fun p => s.get F.dsqShare_WEIGHT p) fun p => ((List.foldl (fun s t => s.yieldRelease t) (s.setEng e (have __src := s.eng e; { cyc := (s.eng e).cyc + 1, arb := __src.arb, last := __src.last })) (List.map (fun x => 16 * e + x) (List.range 16))).nextThr e p).isSome).1) = none :=
  ⟨up .track, 7, by decide +kernel ⟩

theorem wit_EnginesIssueByShare_7 : ∃ (s : State) (e : Nat) (p : Nat),
    e < 8 ∧ s.cpx.inReset = false ∧ bitOf (BitVec.toNat (s.rd RegId.pwrEn)) e = true ∧ (((s.eng e).arb.pick 256 (fun p => s.get F.dsqShare_MIN p) (fun p => s.get F.dsqShare_WEIGHT p) fun p => ((List.foldl (fun s t => s.yieldRelease t) (s.setEng e (have __src := s.eng e; { cyc := (s.eng e).cyc + 1, arb := __src.arb, last := __src.last })) (List.map (fun x => 16 * e + x) (List.range 16))).nextThr e p).isSome).1) = some p :=
  ⟨thrIn 1, 7, 0, by decide +kernel ⟩

theorem wit_ThreadCommandsComplete_1 : ∃ (s : State) (c : Caller) (t : Nat) (off : Nat) (k : Nat),
    t < 128 ∧ ((s.cPt0 c = true ∨ s.cPart c = (s.thrPart t)) ∧ s.resetting (s.thrPart t) = false) ∧ s.admits 98 = true ∧ s.codeOk (s.thrPart t) off = true ∧ off < 2 ^ 21 ∧ s.isStarted t = false ∧ s.freeSlot (s.thrPart t) = some k :=
  ⟨thrIn 0, .firmware, 127, 260, 8, by decide +kernel⟩

theorem wit_ThreadCommandsComplete_2 : ∃ (s : State) (c : Caller) (t : Nat),
    t < 128 ∧ ((s.cPt0 c = true ∨ s.cPart c = (s.thrPart t)) ∧ s.resetting (s.thrPart t) = false) ∧ s.admits 99 = true ∧ (s.thrState t = 0 ∨ s.thrState t = 6 ∨ s.thrState t = 7) :=
  ⟨thrIn 7, .firmware, 127, by decide +kernel⟩

theorem wit_ThreadCommandsComplete_3 : ∃ (s : State) (c : Caller) (t : Nat),
    t < 128 ∧ ((s.cPt0 c = true ∨ s.cPart c = (s.thrPart t)) ∧ s.resetting (s.thrPart t) = false) ∧ s.admits 99 = true ∧ s.thrState t = 4 :=
  ⟨thrIn 4, .firmware, 127, by decide +kernel⟩

theorem wit_ThreadCommandsComplete_4 : ∃ (s : State) (c : Caller) (t : Nat),
    t < 128 ∧ ((s.cPt0 c = true ∨ s.cPart c = (s.thrPart t)) ∧ s.resetting (s.thrPart t) = false) ∧ s.admits 99 = true ∧ (s.thrState t = 1 ∨ s.thrState t = 2 ∨ s.thrState t = 3 ∨ s.thrState t = 5) :=
  ⟨thrIn 5, .firmware, 127, by decide +kernel⟩

theorem wit_ThreadCommandsComplete_5 : ∃ (s : State) (c : Caller) (t : Nat) (pc : Nat) (k : Nat),
    t < 128 ∧ ((s.cPt0 c = true ∨ s.cPart c = (s.thrPart t)) ∧ s.resetting (s.thrPart t) = false) ∧ s.admits 100 = true ∧ (s.thrState t = 6 ∨ s.thrState t = 7) ∧ s.freeSlot (s.thrPart t) = some k ∧ s.codeOk (s.thrPart t) (if pc = 4294967295 then s.pc t else pc) = true ∧ (if pc = 4294967295 then s.pc t else pc) < 2 ^ 21 :=
  ⟨thrIn 6, .firmware, 127, 0xffffffff, 8, by decide +kernel⟩

theorem wit_ThreadCommandsComplete_8 : ∃ (s : State) (t : Nat),
    t < 128 ∧ s.thrState t = 5 ∧ (s.thr t).yield = [] :=
  ⟨thrIn 5, 127, by decide +kernel⟩

theorem wit_ThreadCommandsComplete_9 : ∃ (s : State) (t : Nat) (g : List (Nat × Word)) (tr : List (Nat × TReg)) (fl : Nat),
    t < 128 ∧ s.thrState t = 4 ∧ (s.thr t).await = Await.result g tr fl :=
  ⟨(thrIn 4).setThr 127 { await := .result [(1, 2)] [] 0 }, 127, [(1, 2)], [], 0, by decide +kernel⟩

theorem wit_ThreadCommandsComplete_10 : ∃ (s : State) (t : Nat) (q : Nat) (y : Word) (l : List (Word × Bool)) (w : QWait),
    t < 128 ∧ q < 256 ∧ (s.queue q).waiters = [w] ∧ w.put = none ∧ w.thread = t ∧ (s.queue q).claim = none ∧ (s.queue q).words = (y, true) :: l ∧ (s.queue q).held = none :=
  ⟨withQ (thrIn 3) { words := [(1, true)], waiters := [{ thread := 127, put := none, since := 0 }] }, 127, 255, 1, [], { thread := 127, put := none, since := 0 }, by decide +kernel⟩

theorem wit_ThreadCommandsComplete_11 : ∃ (s : State) (t : Nat) (x : SampleReq),
    t < 128 ∧ (List.find? (fun x => x.thread == t) s.dsq.samples = some x) ∧ s.thrState t = 1 ∧ s.pc t < 2 ^ 21 ∧ x.bank < 256 ∧ s.getB F.dsqNotify_SMP_EN (s.thrPart t) = true ∧ s.getB F.qCfg_EN (s.get F.dsqNotify_SMP_Q (s.thrPart t)) = true ∧ (s.queue (s.get F.dsqNotify_SMP_Q (s.thrPart t))).opn = none ∧ (s.queue (s.get F.dsqNotify_SMP_Q (s.thrPart t))).held = none ∧ (s.queue (s.get F.dsqNotify_SMP_Q (s.thrPart t))).words.length + 2 ≤ 2 ^ s.get F.qCfg_DEPTH (s.get F.dsqNotify_SMP_Q (s.thrPart t)) :=
  ⟨{ thrIn 1 with dsq := { samples := [{ thread := 127, bank := 255, ticks := 5, issued := 0 }] } }, 127, { thread := 127, bank := 255, ticks := 5, issued := 0 }, by beta_reduce; decide +kernel⟩

theorem wit_PrivilegedInstructionsComplete_3 : ∃ (s : State) (t : Nat) (gd : Nat) (gb : Nat),
    s.mayRun t 4 ∧ s.getB F.thrStat_STOP_PEND t = false ∧ gd < 30 ∧ s.vsPart ((BitVec.extractLsb' 0 8 (s.g t gb)).toNat) ≠ (s.thrPart t) :=
  ⟨sets (thrIn 1) [(F.vsCfg_PART, 1, 0)], 127, 29, 2, by unfold State.mayRun; decide +kernel⟩

theorem wit_PrivilegedInstructionsComplete_4 : ∃ (s : State) (t : Nat) (gd : Nat) (gb : Nat),
    s.mayRun t 4 ∧ s.getB F.thrStat_STOP_PEND t = false ∧ gd < 30 ∧ s.vsPart ((BitVec.extractLsb' 0 8 (s.g t gb)).toNat) = (s.thrPart t) ∧ ¬(s.keyUsable ((BitVec.extractLsb' 0 8 (s.g t gb)).toNat) (s.thrPart t) attrDsq = true ∧ s.kvcOk = true) :=
  ⟨thrIn 1, 127, 29, 2, by unfold State.mayRun; decide +kernel⟩

theorem wit_PrivilegedInstructionsComplete_5 : ∃ (s : State) (t : Nat) (gd : Nat) (ga : Nat) (gb : Nat),
    s.mayRun t 4 ∧ s.getB F.thrStat_STOP_PEND t = false ∧ gd < 30 ∧ s.vsPart ((BitVec.extractLsb' 0 8 (s.g t gb)).toNat) = (s.thrPart t) ∧ (s.keyUsable ((BitVec.extractLsb' 0 8 (s.g t gb)).toNat) (s.thrPart t) attrDsq = true ∧ s.kvcOk = true) ∧ (¬(s.get F.vsCfg_TYPE ((BitVec.extractLsb' 0 8 (s.g t gb)).toNat) = tyAes128 ∨ s.get F.vsCfg_TYPE ((BitVec.extractLsb' 0 8 (s.g t gb)).toNat) = tyAes256) ∨ ((BitVec.extractLsb' 16 13 (s.g t gb)).toNat) = 0 ∨ 4096 < ((BitVec.extractLsb' 16 13 (s.g t gb)).toNat) ∨ (BitVec.toNat (s.g t ga)) < (37748736 + 4096 * s.get F.dsqDwin_BASE (s.thrPart t)) ∨ (37748736 + 4096 * s.get F.dsqDwin_BASE (s.thrPart t)) + (4096 * s.get F.dsqDwin_SIZE (s.thrPart t)) < (BitVec.toNat (s.g t ga)) + ((BitVec.extractLsb' 16 13 (s.g t gb)).toNat)) :=
  ⟨sets (thrIn 1) [(F.vsCfg_STATE, 1, 0), (F.vsCfg_ATTR, 255, 0), (F.kvcStat_ROOT_VALID, 1, 0), (F.kvcStat_KAT_OK, 1, 0)], 127, 29, 1, 2, by unfold State.mayRun; decide +kernel⟩

theorem wit_PrivilegedInstructionsComplete_6 : ∃ (s : State) (t : Nat) (gd : Nat) (ga : Nat) (gb : Nat),
    s.mayRun t 4 ∧ s.getB F.thrStat_STOP_PEND t = false ∧ gd < 30 ∧ s.vsPart ((BitVec.extractLsb' 0 8 (s.g t gb)).toNat) = (s.thrPart t) ∧ (s.keyUsable ((BitVec.extractLsb' 0 8 (s.g t gb)).toNat) (s.thrPart t) attrDsq = true ∧ s.kvcOk = true) ∧ (s.get F.vsCfg_TYPE ((BitVec.extractLsb' 0 8 (s.g t gb)).toNat) = tyAes128 ∨ s.get F.vsCfg_TYPE ((BitVec.extractLsb' 0 8 (s.g t gb)).toNat) = tyAes256) ∧ 1 ≤ ((BitVec.extractLsb' 16 13 (s.g t gb)).toNat) ∧ ((BitVec.extractLsb' 16 13 (s.g t gb)).toNat) ≤ 4096 ∧ (37748736 + 4096 * s.get F.dsqDwin_BASE (s.thrPart t)) ≤ (BitVec.toNat (s.g t ga)) ∧ (BitVec.toNat (s.g t ga)) + ((BitVec.extractLsb' 16 13 (s.g t gb)).toNat) ≤ (37748736 + 4096 * s.get F.dsqDwin_BASE (s.thrPart t)) + (4096 * s.get F.dsqDwin_SIZE (s.thrPart t)) :=
  ⟨sets ((g1 (thrIn 1) 0x24ff000).wr .thrG 0x10000000 127 2) [(F.vsCfg_STATE, 1, 0), (F.vsCfg_TYPE, 1, 0), (F.vsCfg_ATTR, 255, 0), (F.kvcStat_ROOT_VALID, 1, 0), (F.kvcStat_KAT_OK, 1, 0)], 127, 29, 1, 2, by unfold State.mayRun; decide +kernel⟩

theorem wit_PrivilegedInstructionsComplete_7 : ∃ (s : State) (t : Nat) (gd : Nat),
    s.mayRun t 4 ∧ s.getB F.thrStat_STOP_PEND t = false ∧ 29 < gd :=
  ⟨thrIn 1, 127, 30, by unfold State.mayRun; decide +kernel⟩

theorem wit_EscrowsStageJudgeAndCommit_3 : ∃ (s : State) (t : Nat) (e : Nat) (ga : Nat),
    s.mayRun t 4 ∧ s.getB F.thrStat_STOP_PEND t = false ∧ e < 4 ∧ s.legal 103 = true ∧ s.escIsOpen (4 * (s.thrPart t) + e) = true ∧ (BitVec.toNat (s.g t ga)) % 8 = 0 ∧ s.thrReaches t (BitVec.toNat (s.g t ga)) = true ∧ s.stageable (BitVec.toNat (s.g t ga)) = true ∧ (∃ y ∈ (s.escStaged (4 * (s.thrPart t) + e)), y.1 = (BitVec.toNat (s.g t ga))) ∧ (s.escStaged (4 * (s.thrPart t) + e)).length ≤ 1024 :=
  ⟨withStaged (escIn (g1 (thrIn 1) (regAddr .domFoff 5 0)) 1) (List.replicate 1024 (regAddr .domFoff 5 0, 7, true)), 127, 3, 1, by unfold State.mayRun; decide +kernel⟩

theorem wit_EscrowsStageJudgeAndCommit_4 : ∃ (s : State) (t : Nat) (e : Nat) (ga : Nat),
    s.mayRun t 4 ∧ s.getB F.thrStat_STOP_PEND t = false ∧ e < 4 ∧ s.legal 103 = true ∧ s.escIsOpen (4 * (s.thrPart t) + e) = true ∧ (BitVec.toNat (s.g t ga)) % 8 = 0 ∧ s.thrReaches t (BitVec.toNat (s.g t ga)) = true ∧ s.stageable (BitVec.toNat (s.g t ga)) = true ∧ (∀ y ∈ (s.escStaged (4 * (s.thrPart t) + e)), y.1 ≠ (BitVec.toNat (s.g t ga))) ∧ (s.escStaged (4 * (s.thrPart t) + e)).length < 1024 :=
  ⟨withStaged (escIn (g1 (thrIn 1) (regAddr .domFoff 5 0)) 1) (List.replicate 1023 (0, 7, true)), 127, 3, 1, by unfold State.mayRun; decide +kernel⟩

theorem wit_EscrowsStageJudgeAndCommit_11 : ∃ (s : State) (c : Caller) (e : Nat) (a : Nat),
    e < 4 ∧ s.resetting (s.cPart c) = false ∧ s.admits 103 = true ∧ s.escIsOpen (4 * (s.cPart c) + e) = true ∧ a % 8 = 0 ∧ s.callerReaches c a = true ∧ s.stageable a = true ∧ (∀ y ∈ s.escStaged (4 * (s.cPart c) + e), y.1 ≠ a) ∧ (s.escStaged (4 * (s.cPart c) + e)).length < 1024 :=
  ⟨withStaged (escIn (up .track) 1) (List.replicate 1023 (0, 7, true)), .firmware, 3, regAddr .domFoff 5 0, by decide +kernel⟩

theorem wit_ThreadCommandsComplete_7 : ∃ (s : State) (c : Caller) (t : Nat) (part : Nat) (base : Nat),
    t < 128 ∧ s.admits 97 = true ∧ part < 8 ∧ (s.cPt0 c = true ∨ s.cPart c = part) ∧ s.resetting part = false ∧ (∃ i ∈ s.dsq.images, i.part = part ∧ i.codeBase = base) ∧ (∀ i ∈ s.dsq.images, i.part = part → i.codeBase = base → s.imageBusy i = false) :=
  ⟨thrIn 0, .firmware, 127, 0, 256, by decide +kernel⟩

theorem wit_ExceptionsAreRecorded_8 : ∃ (s : State) (t : Nat) (cause : Nat) (code : Nat) (pc : Nat),
    t < 128 ∧ cause < 256 ∧ code < 2 ^ 16 ∧ pc < 2 ^ 21 ∧ s.thrState t = 1 ∧ s.fetchEcc t 4 = 2 :=
  ⟨eccIn, 127, 255, 65535, 2 ^ 21 - 1, by decide +kernel⟩

theorem wit_PrivilegedInstructionsComplete_1 : ∃ (s : State) (t : Nat) (ga : Nat) (cmd : Nat),
    s.mayRun t 4 ∧ s.getB F.thrStat_STOP_PEND t = false ∧ s.storesPend t = false ∧ pcmdAdmits cmd = true ∧ (37748736 + 4096 * s.get F.dsqDwin_BASE (s.thrPart t)) ≤ (BitVec.toNat (s.g t ga)) ∧ (BitVec.toNat (s.g t ga)) + pcmdLen cmd ≤ (37748736 + 4096 * s.get F.dsqDwin_BASE (s.thrPart t)) + (4096 * s.get F.dsqDwin_SIZE (s.thrPart t)) :=
  ⟨g1 (thrIn 1) (0x2500000 - pcmdLen 0x10), 127, 1, 0x10, by unfold State.mayRun; decide +kernel⟩

theorem wit_PrivilegedInstructionsComplete_2 : ∃ (s : State) (t : Nat) (ga : Nat) (cmd : Nat),
    s.mayRun t 4 ∧ s.getB F.thrStat_STOP_PEND t = false ∧ s.storesPend t = false ∧ (pcmdAdmits cmd = false ∨ (BitVec.toNat (s.g t ga)) < (37748736 + 4096 * s.get F.dsqDwin_BASE (s.thrPart t)) ∨ (37748736 + 4096 * s.get F.dsqDwin_BASE (s.thrPart t)) + (4096 * s.get F.dsqDwin_SIZE (s.thrPart t)) < (BitVec.toNat (s.g t ga)) + pcmdLen cmd) :=
  ⟨g1 (thrIn 1) (0x2500001 - pcmdLen 0x10), 127, 1, 0x10, by unfold State.mayRun; decide +kernel⟩

/-! ### Witnesses: ports, ledger, time service -/

theorem wit_PortCommandsComplete_1 : ∃ (s : State) (c : Caller) (oct : Nat) (lm : List Nat) (fec : List Nat),
    s.admitsOwner c 208 = true ∧ oct < 8 ∧ octOk lm fec = true ∧ (∀ k < 8, s.getB F.portCfg_EN (8 * oct + k) = false ∧ s.get F.portCfg_ROLE (8 * oct + k) = 0) :=
  ⟨up .track, .firmware, 7, [2, 15, 6, 7, 3, 15, 15, 15], [0, 0, 3, 2, 0, 0, 0, 0], by decide +kernel⟩

theorem wit_PortCommandsComplete_2 : ∃ (s : State) (c : Caller) (a : Nat) (b : Nat) (dom : Nat) (trailer : Nat) (skip : Nat) (xport : Nat),
    s.admitsOwner c 209 = true ∧ s.leads a = true ∧ s.leads b = true ∧ a ≠ b ∧ trailer < 2 ∧ skip < 2 ∧ xport < 2 ∧ s.laneMode a = s.laneMode b ∧ 1 ≤ s.laneMode a ∧ s.laneMode a ≤ 3 ∧ s.get F.portCfg_PART b = s.get F.portCfg_PART a ∧ s.resetting (s.get F.portCfg_PART a) = false ∧ s.get F.portCfg_ROLE a = 0 ∧ s.get F.portCfg_ROLE b = 0 ∧ (dom = 0 ∨ dom < 32 ∧ (s.dom dom).st ≠ DomState.off ∧ (s.dom dom).owner = s.get F.portCfg_PART a) ∧ (s.nport a).resv = [] ∧ (s.nport b).resv = [] :=
  ⟨portIn 5, .firmware, 62, 63, 5, 1, 1, 1, by decide +kernel⟩

theorem wit_PortCommandsComplete_3 : ∃ (s : State) (c : Caller) (a : Nat),
    s.admitsOwner c 210 = true ∧ s.leads a = true ∧ s.getB F.pairCfg_ACTIVE a = true ∧ s.resetting (s.get F.portCfg_PART a) = false :=
  ⟨pairIn 5, .firmware, 63, by decide +kernel⟩

theorem wit_PortCommandsComplete_4 : ∃ (s : State) (c : Caller) (dst : Nat) (etype : Nat) (flush : Nat),
    s.admitsOwner c 211 = true ∧ dst < 2 ^ 48 ∧ etype < 2 ^ 16 ∧ 10 ≤ flush ∧ flush ≤ 10000 ∧ (s.getB F.npaExpCfg_EN = false ∨ s.npa.recs = [] ∧ s.txq (s.get F.npaExpCfg_PORT) 2 = []) :=
  ⟨up .track, .firmware, 2 ^ 48 - 1, 2 ^ 16 - 1, 10000, by decide +kernel⟩

theorem wit_PortCommandsComplete_5 : ∃ (s : State) (c : Caller) (dst : Nat) (etype : Nat) (flush : Nat) (p : Nat),
    s.admitsOwner c 211 = true ∧ dst < 2 ^ 48 ∧ etype < 2 ^ 16 ∧ 10 ≤ flush ∧ flush ≤ 10000 ∧ (s.getB F.npaExpCfg_EN = false ∨ s.npa.recs = [] ∧ s.txq (s.get F.npaExpCfg_PORT) 2 = []) ∧ p < 64 ∧ 1 ≤ s.laneMode p ∧ s.laneMode p ≤ 3 ∧ s.get F.portCfg_ROLE p ≠ 1 ∧ s.resetting (s.get F.portCfg_PART p) = false :=
  ⟨portIn 5, .firmware, 0, 0, 10, 63, by decide +kernel⟩

theorem wit_PortCommandsComplete_6 : ∃ (s : State) (c : Caller) (p : Nat) (q : Nat) (frame : List Byte),
    s.admits 212 = true ∧ s.leads p = true ∧ s.cPart c = s.get F.portCfg_PART p ∧ s.resetting (s.get F.portCfg_PART p) = false ∧ s.get F.portCfg_ROLE p = 0 ∧ 60 ≤ frame.length ∧ frame.length ≤ 1514 ∧ (q = 0 ∨ q = 1 ∨ q = 3 ∨ q = 4) :=
  ⟨portIn 5, .firmware, 63, 4, List.replicate 1514 0, by decide +kernel⟩

theorem wit_PortCommandsComplete_7 : ∃ (s : State) (c : Caller) (p : Nat) (frame : List Byte) (t : TimeVal),
    s.admits 212 = true ∧ s.leads p = true ∧ s.cPart c = s.get F.portCfg_PART p ∧ s.resetting (s.get F.portCfg_PART p) = false ∧ s.get F.portCfg_ROLE p = 0 ∧ 60 ≤ frame.length ∧ frame.length ≤ 1514 ∧ tvOk t = true ∧ (s.ticks (s.get F.portCfg_DOMAIN p)) < ↑(tvTicks t) ∧ ↑(tvTicks t) ≤ (s.ticks (s.get F.portCfg_DOMAIN p)) + 10 ^ 6 * 2 ^ 18 ∧ (s.nport p).resv.length < 64 :=
  ⟨portIn 5, .firmware, 63, frame60, ⟨0, 1000000, 0⟩, by decide +kernel⟩

theorem wit_StampsAreCorrected_1 : ∃ (s : State) (p : Nat),
    ((s.dom (s.get F.portCfg_DOMAIN p)).bound = 2 ^ 64 - 1 ∨ s.get F.portAllow_ALLOW p = 2 ^ 64 - 1 ∨ 2 ^ 64 - 2 < ((s.dom (s.get F.portCfg_DOMAIN p)).bound + 78644 + s.get F.portAllow_ALLOW p) ∨ s.getB F.portStat_STAMP_OK p = false ∨ (s.get F.portCfg_DOMAIN p) ≠ 0 ∧ ((s.dom (s.get F.portCfg_DOMAIN p)).st = DomState.off ∨ (s.dom (s.get F.portCfg_DOMAIN p)).owner ≠ s.get F.portCfg_PART p)) :=
  ⟨sets (portIn 5) [(F.portStat_STAMP_OK, 1, 63), (F.portAllow_ALLOW, 2 ^ 64 - 1, 63)], 63, by decide +kernel⟩

theorem wit_StampsAreCorrected_2 : ∃ (s : State) (p : Nat),
    ¬((s.dom (s.get F.portCfg_DOMAIN p)).bound = 2 ^ 64 - 1 ∨ s.get F.portAllow_ALLOW p = 2 ^ 64 - 1 ∨ 2 ^ 64 - 2 < ((s.dom (s.get F.portCfg_DOMAIN p)).bound + 78644 + s.get F.portAllow_ALLOW p) ∨ s.getB F.portStat_STAMP_OK p = false ∨ (s.get F.portCfg_DOMAIN p) ≠ 0 ∧ ((s.dom (s.get F.portCfg_DOMAIN p)).st = DomState.off ∨ (s.dom (s.get F.portCfg_DOMAIN p)).owner ≠ s.get F.portCfg_PART p)) :=
  ⟨(sets (portIn 5) [(F.portStat_STAMP_OK, 1, 63), (F.portAllow_ALLOW, 7, 63)]).setDom 0 { kind := .ref, st := .running, bound := 2 ^ 64 - 78644 - 9 }, 63, by decide +kernel⟩

theorem wit_FramesAndLinksMove_1 : ∃ (s : State) (p : Nat) (delta : Nat),
    s.leads p = true ∧ s.portsRun = true ∧ s.getB F.pairCfg_ACTIVE p = true ∧ s.getB F.portStat_LINK p = true ∧ 0 ≤ s.rxStamp p delta ∧ s.rxStamp p delta < 2 ^ 48 * ↑Config.secTicks :=
  ⟨(pairIn 5).setDom 0 { kind := .ref, st := .running, acc := 2 ^ 70 }, 63, 0, by decide +kernel⟩

theorem wit_FramesAndLinksMove_2 : ∃ (s : State) (p : Nat) (f : List Byte) (bad : Bool) (l : List (List Byte × Bool)),
    (s.nport p).flight = (f, bad) :: l :=
  ⟨withPort (pairIn 5) { flight := [(frame60, true)] }, 63, frame60, true, [], by decide +kernel⟩

theorem wit_FramesAndLinksMove_3 : ∃ (s : State) (p : Nat) (delta : Nat) (q : Nat) (x : TxFrame) (l : List TxFrame),
    s.leads p = true ∧ s.portsRun = true ∧ s.getB F.portCfg_EN p = true ∧ s.getB F.portStat_LINK p = true ∧ s.get F.portCfg_ROLE p ≠ 1 ∧ q < 8 ∧ s.txq p q = x :: l ∧ (∀ k < 8, q < k → s.txq p k = []) ∧ x.insert = 0 ∧ x.tsReq = none ∧ x.xc = none ∧ (∀ r ∈ (s.nport p).resv.head?, s.txStamp p delta + ↑(s.frameTicks p x.bytes.length) ≤ r.tL) :=
  ⟨withPort (portIn 5) { q := [(7, [{ bytes := frame60 }])] }, 63, 0, 7, { bytes := frame60 }, [], by decide +kernel⟩

theorem wit_FramesAndLinksMove_4 : ∃ (s : State) (p : Nat) (delta : Nat) (r : Resv) (l : List Resv) (x : TxFrame),
    (s.nport p).resv = r :: l ∧ (fun x => s.getB F.portStat_LINK p = true ∧ s.getB F.portCfg_EN p = true ∧ s.portsRun = true ∧ ((s.txStamp p delta) - r.tL).natAbs ≤ 1 ∧ r.arrived + 125 ≤ s.tse.cyc ∧ r.frame = some x) x :=
  ⟨{ withPort (portIn 5) { resv := [{ tL := 14614528, hold := 5, frame := some { bytes := frame60 } }] } with tse := { cyc := 125 } }, 63, 1, { tL := 14614528, hold := 5, frame := some { bytes := frame60 } }, [], { bytes := frame60 }, by beta_reduce; decide +kernel⟩

theorem wit_FramesAndLinksMove_5 : ∃ (s : State) (p : Nat) (delta : Nat) (r : Resv) (l : List Resv),
    (s.nport p).resv = r :: l ∧ (∀ (x : TxFrame), ¬(fun x => s.getB F.portStat_LINK p = true ∧ s.getB F.portCfg_EN p = true ∧ s.portsRun = true ∧ ((s.txStamp p delta) - r.tL).natAbs ≤ 1 ∧ r.arrived + 125 ≤ s.tse.cyc ∧ r.frame = some x) x) :=
  ⟨{ withPort (portIn 5) { resv := [{ tL := 14614528, hold := 5, frame := some { bytes := frame60 } }] } with tse := { cyc := 124 } }, 63, 1, { tL := 14614528, hold := 5, frame := some { bytes := frame60 } }, [], ⟨by decide +kernel, fun _ h => absurd h.2.2.2.2.1 (by decide +kernel)⟩⟩

theorem wit_FramesAndLinksMove_6 : ∃ (s : State) (p : Nat) (lane : Nat),
    lane < 64 ∧ s.leadOf lane = some p ∧ s.mode.up = true :=
  ⟨portIn 5, 63, 63, by decide +kernel⟩

theorem wit_FramesAndLinksMove_7 : ∃ (s : State) (p : Nat) (lane : Nat),
    lane < 64 ∧ s.leadOf lane = some p :=
  ⟨portIn 5, 63, 63, by decide +kernel⟩

theorem wit_FramesAndLinksMove_8 : ∃ (s : State) (p : Nat) (lane : Nat) (done : Bool) (rx : Int) (tx : Int),
    lane < 64 ∧ s.leadOf lane = some p ∧ s.getB F.laneStat_PCS_LOCK lane = true ∧ done = true ∧ (∀ (r t : Int), tabGet none s.npa.dlm lane = some (r, t) → (rx - r).natAbs ≤ 52429 ∧ (tx - t).natAbs ≤ 52429) :=
  ⟨{ portIn 5 with npa := { dlm := [(63, some (0, 0))] } }, 63, 63, true, 52429, -52429, ⟨by decide +kernel, by decide +kernel, by decide +kernel, rfl, fun r t h => (by cases Option.some.inj (show some ((0 : Int), (0 : Int)) = some (r, t) from h); decide)⟩⟩

theorem wit_FramesAndLinksMove_9 : ∃ (s : State) (p : Nat) (lane : Nat) (done : Bool) (rx : Int) (tx : Int),
    lane < 64 ∧ s.leadOf lane = some p ∧ s.getB F.laneStat_PCS_LOCK lane = true ∧ (done = false ∨ ¬(∀ (r t : Int), tabGet none s.npa.dlm lane = some (r, t) → (rx - r).natAbs ≤ 52429 ∧ (tx - t).natAbs ≤ 52429)) :=
  ⟨{ portIn 5 with npa := { dlm := [(63, some (0, 0))] } }, 63, 63, true, 52430, 0, ⟨by decide +kernel, by decide +kernel, by decide +kernel, .inr fun h => absurd (h 0 0 rfl).1 (by decide)⟩⟩

theorem wit_LedgerPagesAreSealed_1 : ∃ (key : List Byte),
    key.length = 16 :=
  ⟨List.replicate 16 255, by decide +kernel⟩

theorem wit_LedgerPagesAreSealed_6 : ∃ (s : State) (p : Nat) (x : SlgPage) (l : List SlgPage),
    (s.chain p).closed = x :: l ∧ s.keysHeld = true :=
  ⟨{ pairIn 5 with slg := { chains := [(63, { closed := [page0] })] } }, 63, page0, [], by decide +kernel⟩

theorem wit_LedgerPagesAreSealed_7 : ∃ (s : State) (part : Nat) (due : SlgDue),
    (s.slgPart part).due = some due ∧ s.unsealedLeft part = false ∧ s.keysHeld = true ∧ s.mode ≠ Mode.sealed ∧ s.rngOk = true ∧ 0 ≤ due.at' ∧ due.at' < 2 ^ 48 * ↑Config.secTicks ∧ s.get F.slgCseq_CSEQ part < 2 ^ 64 - 1 :=
  ⟨{ pairIn 5 with slg := { parts := [(7, { due := some ⟨0, 0, false, true⟩ })] } }, 7, ⟨0, 0, false, true⟩, by decide +kernel⟩

theorem wit_LedgerPagesAreSealed_8 : ∃ (s : State) (part : Nat) (due : SlgDue),
    (s.slgPart part).due = some due ∧ s.unsealedLeft part = false ∧ (s.keysHeld = false ∨ s.mode = Mode.sealed) :=
  ⟨{ pairIn 5 with slg := { parts := [(7, { due := some ⟨0, 0, false, true⟩ })] }, kvc := {} }, 7, ⟨0, 0, false, true⟩, by decide +kernel⟩

theorem wit_TimeServiceCommandsComplete_1 : ∃ (s : State) (c : Caller) (a : Nat) (part : Nat) (port : Nat) (tr : Nat) (addr : Nat) (tags : List Nat) (ttl : Nat) (ptp : Bool) (profile : Nat) (dn : Nat) (mcast : Bool) (auth : Bool) (x : Nat) (y : Nat),
    a < 64 ∧ s.admitsOwner c 112 = true ∧ part < 8 ∧ s.leads port = true ∧ s.get F.portCfg_ROLE port = 0 ∧ s.get F.portCfg_PART port = part ∧ s.resetting part = false ∧ tr ≤ 2 ∧ addr < [2 ^ 48, 2 ^ 32, 2 ^ 128].getD tr 0 ∧ tags.length ≤ 2 ∧ (∀ t ∈ tags, t < 2 ^ 32) ∧ ttl < 256 ∧ (profile = 0 ∧ dn < 256 ∨ profile = 1 ∧ tr = 0 ∧ mcast = true ∧ 24 ≤ dn ∧ dn ≤ 43 ∨ profile = 2 ∧ tr ≠ 0 ∧ mcast = false ∧ 44 ≤ dn ∧ dn ≤ 63) ∧ (auth = true → ptp = true) ∧ s.getB F.svcCfg_EN a = false ∧ (∀ k < 64, ¬(s.getB F.svcCfg_EN k = true ∧ s.get F.svcCfg_PORT k = port ∧ s.get F.svcCfg_TRANSPORT k = tr ∧ s.get F.svcAddrHi_ADDR k * 2 ^ 64 + s.get F.svcAddrLo_ADDR k = addr ∧ s.svcTags k = (List.map (beBytes 4) tags).flatten)) ∧ (ptp = true → s.twoSlots part = some (x, y)) :=
  ⟨sets (portIn 3) [(F.svcCfg_EN, 0, 63)], .firmware, 63, 0, 63, 2, 2 ^ 128 - 1, [0, 2 ^ 32 - 1], 255, true, 2, 63, false, true, 8, 9, by decide +kernel⟩

theorem wit_TimeServiceCommandsComplete_2 : ∃ (s : State) (c : Caller) (a : Nat),
    a < 64 ∧ s.admitsOwner c 113 = true ∧ s.getB F.svcCfg_EN a = true ∧ s.resetting (s.svcPart a) = false :=
  ⟨portIn 3, .firmware, 63, by decide +kernel⟩

theorem wit_TimeServiceCommandsComplete_3 : ∃ (s : State) (c : Caller) (a : Nat) (slot : Nat),
    a < 64 ∧ s.admits 114 = true ∧ slot < 256 ∧ s.getB F.svcCfg_EN a = true ∧ s.resetting (s.svcPart a) = false ∧ s.cPart c = s.svcPart a ∧ s.keyUsable slot (s.svcPart a) attrTsv = true ∧ s.get F.vsCfg_TYPE slot = tySiv256 :=
  ⟨portIn 3, .firmware, 63, 255, by decide +kernel⟩

theorem wit_TimeServiceCommandsComplete_5 : ∃ (s : State) (a : Nat),
    a < 64 ∧ s.admits 115 = true :=
  ⟨portIn 3, 63, by decide +kernel⟩

theorem wit_TimeServiceCommandsComplete_6 : ∃ (s : State) (c : Caller) (a : Nat) (slot : Nat) (port : Nat),
    a < 64 ∧ s.admitsOwner c 116 = true ∧ slot < 256 ∧ 0 < port ∧ port < 65536 ∧ s.getB F.svcCfg_EN a = true ∧ s.resetting (s.svcPart a) = false ∧ s.keyUsable slot (s.svcPart a) attrAtt = true ∧ isEcdsa (s.get F.vsCfg_TYPE slot) = true :=
  ⟨portIn 7, .firmware, 63, 255, 65535, by decide +kernel⟩

theorem wit_TimeServiceCommandsComplete_7 : ∃ (s : State) (a : Nat) (c2s : List Byte) (s2c : List Byte),
    a < 64 ∧ c2s.length = 32 ∧ s2c.length = 32 ∧ s.getB F.svcCfg_EN a = true ∧ s.getB F.svcCfg_NTS a = true ∧ s.keServes a = true ∧ s.tsvServes = true ∧ s.rngOk = true ∧ s.kvcOk = true ∧ s.getB F.svcKeys_CUR_VALID a = true ∧ s.keyUsable (s.get F.svcKeys_NTS_CUR a) (s.svcPart a) attrTsv = true ∧ s.tsv.keSec < s.tse.cyc / 1250000000 :=
  ⟨{ sets (portIn 7) [(F.svcCfg_NTS, 1, 63)] with tsv := { svcs := [(63, { keSet := true, keSlot := 255 })] }, tse := { cyc := 1250000000 } }, 63, List.replicate 32 1, List.replicate 32 2, by decide +kernel⟩

theorem wit_TimeServiceCommandsComplete_8 : ∃ (s : State) (a : Nat),
    a < 64 ∧ s.getB F.tsvPolice_EN = true :=
  ⟨sets (portIn 7) [(F.tsvPolice_EN, 1, 0)], 63, by decide +kernel⟩

theorem wit_TimeServiceCommandsComplete_9 : ∃ (s : State) (a : Nat) (i : Nat) (r : Assoc),
    a < 64 ∧ s.assoc i = some r ∧ ((fun g => g.exp = 0 ∨ laterSerial 32 (g.exp + 60) s.sec32 = false) r.ann ∧ (fun g => g.exp = 0 ∨ laterSerial 32 (g.exp + 60) s.sec32 = false) r.sync ∧ (fun g => g.exp = 0 ∨ laterSerial 32 (g.exp + 60) s.sec32 = false) r.dresp) :=
  ⟨{ portIn 7 with tsv := { assocs := [(5, some (assocOf 0))] } }, 63, 5, assocOf 0, by beta_reduce; decide +kernel⟩

theorem wit_TimeServiceCommandsComplete_10 : ∃ (s : State) (a : Nat) (i : Nat) (r : Assoc),
    a < 64 ∧ s.assoc i = some r ∧ (¬((fun g => g.exp = 0 ∨ laterSerial 32 (g.exp + 60) s.sec32 = false) r.ann ∧ (fun g => g.exp = 0 ∨ laterSerial 32 (g.exp + 60) s.sec32 = false) r.sync ∧ (fun g => g.exp = 0 ∨ laterSerial 32 (g.exp + 60) s.sec32 = false) r.dresp)) :=
  ⟨{ portIn 7 with tsv := { assocs := [(5, some (assocOf 1))] } }, 63, 5, assocOf 1, by beta_reduce; decide +kernel⟩

theorem wit_ExchangesMoveThroughTheirStages_1 : ∃ (s : State) (port : Nat) (f : List Byte) (a : Nat),
    s.leads port = true ∧ s.portsRun = true ∧ s.getB F.portCfg_EN port = true ∧ s.getB F.portStat_LINK port = true ∧ s.get F.portCfg_ROLE port = 0 ∧ 60 ≤ f.length ∧ f.length + 4 ≤ s.get F.portCfg_MAX_FRAME port ∧ (etherType f ≠ s.get F.npaProbe_ETYPE ∨ (s.nport port).txts.full 64 = false) ∧ s.claimant port (readPkt f) = some a ∧ s.tsvServes = true ∧ s.resetting (s.svcPart a) = false :=
  ⟨portIn 3, 63, ntpReq, 63, by decide +kernel⟩

theorem wit_ExchangesMoveThroughTheirStages_2 : ∃ (s : State) (port : Nat) (f : List Byte),
    s.leads port = true ∧ s.portsRun = true ∧ s.getB F.portCfg_EN port = true ∧ s.getB F.portStat_LINK port = true ∧ s.get F.portCfg_ROLE port = 0 ∧ 60 ≤ f.length ∧ f.length + 4 ≤ s.get F.portCfg_MAX_FRAME port ∧ (etherType f ≠ s.get F.npaProbe_ETYPE ∨ (s.nport port).txts.full 64 = false) ∧ s.claimant port (readPkt f) = none :=
  ⟨sets (portIn 3) [(F.svcCfg_NTP, 0, 63)], 63, ntpReq, by decide +kernel⟩

theorem wit_ExchangesMoveThroughTheirStages_3 : ∃ (s : State) (p : Nat),
    p < 8 ∧ s.tsvServes = true ∧ s.resetting p = false ∧ tabGet [] s.tsv.wait p ≠ [] :=
  ⟨{ portIn 3 with tsv := { wait := [(7, [⟨63, .ntp, ntpReq, 0, {}⟩])] } }, 7, by decide +kernel⟩

theorem wit_ExchangesMoveThroughTheirStages_4 : ∃ (s : State) (i : Nat) (x : Xc) (m : XMsg),
    s.xc i = some x ∧ x.stage = XStage.parse ∧ x.msg = XMsg.request ∧ s.parseReq x.svc x.frame = some m :=
  ⟨xcIn (portIn 3) (xcOf .parse .request ntpReq), 7, xcOf .parse .request ntpReq, .ntp, by decide +kernel⟩

theorem wit_ExchangesMoveThroughTheirStages_5 : ∃ (s : State) (i : Nat) (x : Xc),
    s.xc i = some x ∧ x.stage = XStage.parse ∧ x.msg = XMsg.request ∧ s.parseReq x.svc x.frame = none :=
  ⟨xcIn (portIn 3) (xcOf .parse .request (ntpFrame [])), 7, xcOf .parse .request (ntpFrame []), by decide +kernel⟩

theorem wit_ExchangesMoveThroughTheirStages_6 : ∃ (s : State) (i : Nat) (x : Xc),
    s.xc i = some x ∧ x.stage = XStage.key ∧ (∀ (v g : Nat), x.pin = some (v, g) → s.keyResident v g = true) ∧ x.msg = XMsg.ntp ∧ s.isNts x.svc (readPkt x.frame).payload = false :=
  ⟨xcIn (portIn 3) (xcOf .key .ntp ntpReq), 7, xcOf .key .ntp ntpReq, ⟨rfl, rfl, fun _ _ h => (by cases h), rfl, by decide +kernel⟩⟩

theorem wit_ExchangesMoveThroughTheirStages_9 : ∃ (s : State) (i : Nat) (x : Xc),
    s.xc i = some x ∧ x.stage = XStage.key ∧ (∀ (v g : Nat), x.pin = some (v, g) → s.keyResident v g = true) ∧ (x.msg = XMsg.signal ∨ (∃ p, x.msg = XMsg.sync p) ∨ ∃ p, x.msg = XMsg.announce p) ∧ s.getB F.svcCfg_AUTH_REQ x.svc = true ∧ x.pin = none ∧ x.part < 8 :=
  ⟨xcIn (sets (portIn 3) [(F.svcCfg_AUTH_REQ, 1, 63)]) (xcOf .key (.sync none) []), 7, xcOf .key (.sync none) [], ⟨rfl, rfl, fun _ _ h => (by cases h), .inr (.inl ⟨none, rfl⟩), by decide +kernel⟩⟩

theorem wit_ExchangesMoveThroughTheirStages_10 : ∃ (s : State) (i : Nat) (x : Xc),
    s.xc i = some x ∧ x.stage = XStage.key ∧ (∀ (v g : Nat), x.pin = some (v, g) → s.keyResident v g = true) ∧ (x.msg = XMsg.signal ∨ (∃ p, x.msg = XMsg.sync p) ∨ ∃ p, x.msg = XMsg.announce p) ∧ s.getB F.svcCfg_AUTH_REQ x.svc = false :=
  ⟨xcIn (portIn 3) (xcOf .key .signal []), 7, xcOf .key .signal [], ⟨rfl, rfl, fun _ _ h => (by cases h), .inl rfl, by decide +kernel⟩⟩

theorem wit_ExchangesMoveThroughTheirStages_11 : ∃ (s : State) (i : Nat) (x : Xc),
    s.xc i = some x ∧ x.stage = XStage.verify ∧ (s.nport (s.get F.svcCfg_PORT x.svc)).resv.length < 64 ∧ x.msg = XMsg.ntp ∧ x.kiss = Kiss.ntsn :=
  ⟨xcIn (portIn 3) { xcOf .verify .ntp ntpReq with kiss := .ntsn }, 7, { xcOf .verify .ntp ntpReq with kiss := .ntsn }, by decide +kernel⟩

theorem wit_ExchangesMoveThroughTheirStages_12 : ∃ (s : State) (i : Nat) (x : Xc),
    s.xc i = some x ∧ x.stage = XStage.verify ∧ (s.nport (s.get F.svcCfg_PORT x.svc)).resv.length < 64 ∧ x.msg = XMsg.ntp ∧ x.kiss = Kiss.no ∧ s.isNts x.svc (readPkt x.frame).payload = false ∧ s.getB F.tsvPolice_EN = false :=
  ⟨xcIn (portIn 3) (xcOf .verify .ntp ntpReq), 7, xcOf .verify .ntp ntpReq, by decide +kernel⟩

theorem wit_ExchangesMoveThroughTheirStages_13 : ∃ (s : State) (i : Nat) (x : Xc),
    s.xc i = some x ∧ x.stage = XStage.verify ∧ (s.nport (s.get F.svcCfg_PORT x.svc)).resv.length < 64 ∧ x.msg = XMsg.ntp ∧ x.kiss = Kiss.no ∧ s.isNts x.svc (readPkt x.frame).payload = false ∧ s.getB F.tsvPolice_EN = true ∧ ((s.policeOf (clientAddr (readPkt x.frame))).1) < s.get F.svcNtp_DROP_LIMIT x.svc :=
  ⟨xcIn (sets (portIn 3) [(F.tsvPolice_EN, 1, 0), (F.svcNtp_DROP_LIMIT, 1, 63)]) (xcOf .verify .ntp ntpReq), 7, xcOf .verify .ntp ntpReq, ⟨rfl, rfl, by decide +kernel, rfl, rfl, by decide +kernel, by decide +kernel, by rw [police_empty _ rfl]; decide +kernel⟩⟩

theorem wit_ExchangesMoveThroughTheirStages_14 : ∃ (s : State) (i : Nat) (x : Xc),
    s.xc i = some x ∧ x.stage = XStage.verify ∧ (s.nport (s.get F.svcCfg_PORT x.svc)).resv.length < 64 ∧ x.msg = XMsg.ntp ∧ x.kiss = Kiss.no ∧ s.isNts x.svc (readPkt x.frame).payload = false ∧ s.getB F.tsvPolice_EN = true ∧ s.get F.svcNtp_DROP_LIMIT x.svc ≤ ((s.policeOf (clientAddr (readPkt x.frame))).1) :=
  ⟨xcIn (sets (portIn 3) [(F.tsvPolice_EN, 1, 0), (F.svcNtp_DROP_LIMIT, 0, 63)]) (xcOf .verify .ntp ntpReq), 7, xcOf .verify .ntp ntpReq, ⟨rfl, rfl, by decide +kernel, rfl, rfl, by decide +kernel, by decide +kernel, by rw [police_empty _ rfl]; decide +kernel⟩⟩

theorem wit_ExchangesMoveThroughTheirStages_15 : ∃ (s : State) (i : Nat) (x : Xc),
    s.xc i = some x ∧ x.stage = XStage.verify ∧ (s.nport (s.get F.svcCfg_PORT x.svc)).resv.length < 64 ∧ x.msg = XMsg.ntp ∧ x.kiss ≠ Kiss.ntsn ∧ s.isNts x.svc (readPkt x.frame).payload = true ∧ ntsVerify x.c2s (readPkt x.frame).payload = none :=
  ⟨xcIn (sets (portIn 3) [(F.svcCfg_NTS, 1, 63)]) (xcOf .verify .ntp (ntpFrame (List.replicate 49 0))), 7, xcOf .verify .ntp (ntpFrame (List.replicate 49 0)), by decide +kernel⟩

theorem wit_ExchangesMoveThroughTheirStages_16 : ∃ (s : State) (i : Nat) (x : Xc),
    s.xc i = some x ∧ x.stage = XStage.verify ∧ (s.nport (s.get F.svcCfg_PORT x.svc)).resv.length < 64 ∧ ((∃ p, x.msg = XMsg.sync p) ∨ ∃ p, x.msg = XMsg.announce p) :=
  ⟨xcIn (portIn 3) (xcOf .verify (.announce (some 5)) []), 7, xcOf .verify (.announce (some 5)) [], ⟨rfl, rfl, by decide +kernel, .inr ⟨some 5, rfl⟩⟩⟩

theorem wit_ExchangesMoveThroughTheirStages_17 : ∃ (s : State) (i : Nat) (x : Xc),
    s.xc i = some x ∧ x.stage = XStage.build ∧ (s.nonceCount x = 0 ∨ s.rngOk = true) :=
  ⟨xcIn (portIn 3) (xcOf .build .ntp ntpReq), 7, xcOf .build .ntp ntpReq, by decide +kernel⟩

theorem wit_ExchangesMoveThroughTheirStages_18 : ∃ (s : State) (i : Nat) (x : Xc),
    s.xc i = some x ∧ s.tse.cyc < x.born + 1250000 :=
  ⟨xcIn (portIn 3) (xcOf .stamp .ntp ntpReq), 7, xcOf .stamp .ntp ntpReq, by decide +kernel⟩

theorem wit_ExchangesMoveThroughTheirStages_19 : ∃ (s : State) (i : Nat) (x : Xc),
    s.xc i = some x ∧ x.part < 8 ∧ x.born + 1250000 ≤ s.tse.cyc :=
  ⟨atCyc (xcIn (portIn 3) (xcOf .stamp .ntp ntpReq)) 1250000, 7, xcOf .stamp .ntp ntpReq, by decide +kernel⟩

theorem wit_FramesAndLinksMove_10 : ∃ (s : State),
    s.tse.cyc < s.npa.recAt + 125 * s.get F.npaExpCfg_FLUSH :=
  ⟨{ sets (portIn 5) [(F.npaExpCfg_FLUSH, 1, 0)] with npa := { recAt := 1 } }, by decide +kernel⟩

theorem wit_FramesAndLinksMove_11 : ∃ (s : State),
    s.npa.recs ≠ [] ∧ s.npa.recAt + 125 * s.get F.npaExpCfg_FLUSH ≤ s.tse.cyc :=
  ⟨atCyc { sets (portIn 5) [(F.npaExpCfg_FLUSH, 1, 0)] with npa := { recs := [[]] } } 125, by decide +kernel⟩

theorem wit_LedgerPagesAreSealed_2 : ∃ (s : State) (c : Caller) (p : Nat) (slot : Nat) (hdr : Nat) (win : Nat) (k : Nat),
    s.admits 216 = true ∧ s.leads p = true ∧ s.cPart c = (s.get F.portCfg_PART p) ∧ s.resetting (s.get F.portCfg_PART p) = false ∧ s.getB F.pairCfg_ACTIVE p = true ∧ s.getB F.slgCfg_EN p = false ∧ hdr ≤ 64 ∧ 1000 ≤ win ∧ win ≤ 1000000 ∧ 1000000 % win = 0 ∧ (∀ l ∈ s.slgChains (s.get F.portCfg_PART p), s.get F.slgCfg_DOMAIN l = (s.get F.portCfg_DOMAIN p)) ∧ s.getB F.slgPringCfg_EN (s.get F.portCfg_PART p) = true ∧ s.getB F.slgCringCfg_EN (s.get F.portCfg_PART p) = true ∧ s.freeSlot (s.get F.portCfg_PART p) = some k ∧ s.keyUsable slot (s.get F.portCfg_PART p) attrSeal = true ∧ s.get F.vsCfg_TYPE slot = tyDigest ∧ slot < 256 ∧ 0 ≤ s.ticks (s.get F.portCfg_DOMAIN p) ∧ (s.dom (s.get F.portCfg_DOMAIN p)).st ≠ DomState.off :=
  ⟨pairIn 5, .firmware, 63, 255, 64, 1000000, 8, by decide +kernel⟩

theorem wit_LedgerPagesAreSealed_3 : ∃ (s : State) (c : Caller) (p : Nat),
    s.admits 217 = true ∧ s.leads p = true ∧ s.resetting (s.get F.portCfg_PART p) = false ∧ (s.cPart c = (s.get F.portCfg_PART p) ∨ s.cPt0 c = true) ∧ s.getB F.slgCfg_EN p = true :=
  ⟨sets (pairIn 5) [(F.slgCfg_EN, 1, 63)], .firmware, 63, by decide +kernel⟩

theorem wit_TimeServiceCommandsComplete_4 : ∃ (s : State) (c : Caller) (a : Nat),
    a < 64 ∧ s.admits 115 = true ∧ s.resetting (s.svcPart a) = false ∧ (s.cPart c = s.svcPart a ∨ s.cPt0 c = true) :=
  ⟨portIn 3, .firmware, 63, by decide +kernel⟩

/-! ### Witnesses: key vault -/

theorem wit_KeyCommandsComplete_1 : ∃ (s : State) (c : Caller) (ty : Nat) (attr : Nat) (gen : Nat),
    attrOk ty attr = true ∧ 1 ≤ gen ∧ gen < 2 ^ 32 ∧ s.kvcOk = true ∧ (s.cPart c) < 8 ∧ s.kvc.epoch < 2 ^ 32 ∧ s.admits 128 = true ∧ s.rngOk = true :=
  ⟨portIn 5, .firmware, 7, 8, 2 ^ 32 - 1, by decide +kernel⟩

theorem wit_KeyCommandsComplete_2 : ∃ (s : State) (c : Caller) (ty : Nat) (attr : Nat) (gen : Nat),
    attrOk ty attr = true ∧ 1 ≤ gen ∧ gen < 2 ^ 32 ∧ s.kvcOk = true ∧ (s.cPart c) < 8 ∧ s.kvc.epoch < 2 ^ 32 ∧ s.admits 128 = true ∧ s.rngOk = false :=
  ⟨sets (portIn 5) [(F.kvcStat_RNG_OK, 0, 0)], .firmware, 2, 0x34, 1, by decide +kernel⟩

theorem wit_KeyCommandsComplete_3 : ∃ (s : State) (c : Caller) (ty : Nat) (attr : Nat) (gen : Nat) (key : List Byte),
    attrOk ty attr = true ∧ 1 ≤ gen ∧ gen < 2 ^ 32 ∧ s.kvcOk = true ∧ (s.cPart c) < 8 ∧ s.kvc.epoch < 2 ^ 32 ∧ key.length = keyLen ty ∧ s.admits 129 = true ∧ s.rngOk = true ∧ bitOf (s.get F.kvcImportOk_IMPORT) (s.cPart c) = true :=
  ⟨sets (portIn 5) [(F.kvcImportOk_IMPORT, 1, 0)], .firmware, 7, 8, 1, List.replicate 48 255, by decide +kernel⟩

theorem wit_KeyCommandsComplete_9 : ∃ (s : State) (c : Caller) (slot : Nat) (digest : List Byte),
    slot < 256 ∧ s.resetting (s.vsPart slot) = false ∧ s.admits 133 = true ∧ (s.cPart c) = s.vsPart slot ∧ s.keyUsable slot (s.cPart c) attrAtt = true ∧ isEcdsa (s.get F.vsCfg_TYPE slot) = true ∧ s.kvcOk = true ∧ s.rngOk = true ∧ digest.length = keyLen (s.get F.vsCfg_TYPE slot) ∧ s.get F.vsGen_CUR_GEN slot ≠ 0 ∧ s.keyResident slot (s.get F.vsGen_CUR_GEN slot) = true :=
  ⟨vaultIn 6 1 { cur := some (matOf true) }, .firmware, 255, List.replicate 32 0, by decide +kernel⟩

theorem wit_KeyCommandsComplete_10 : ∃ (s : State) (c : Caller) (slot : Nat) (digest : List Byte),
    slot < 256 ∧ s.resetting (s.vsPart slot) = false ∧ s.admits 133 = true ∧ (s.cPart c) = s.vsPart slot ∧ s.keyUsable slot (s.cPart c) attrAtt = true ∧ isEcdsa (s.get F.vsCfg_TYPE slot) = true ∧ s.kvcOk = true ∧ s.rngOk = true ∧ digest.length = keyLen (s.get F.vsCfg_TYPE slot) ∧ s.get F.vsGen_CUR_GEN slot ≠ 0 ∧ s.keyResident slot (s.get F.vsGen_CUR_GEN slot) = false :=
  ⟨vaultIn 6 1 { cur := some (matOf false) }, .firmware, 255, List.replicate 32 0, by decide +kernel⟩

theorem wit_KeyCommandsComplete_11 : ∃ (s : State) (c : Caller) (slot : Nat) (part : Nat),
    slot < 256 ∧ s.resetting (s.vsPart slot) = false ∧ part < 8 ∧ s.admitsOwner c 134 = true ∧ s.get F.vsCfg_STATE slot = 0 ∧ s.get F.vsPins_CUR_PINS slot = 0 ∧ s.get F.vsPins_PREV_PINS slot = 0 :=
  ⟨portIn 5, .firmware, 254, 7, by decide +kernel⟩

theorem wit_KeyCommandsComplete_12 : ∃ (s : State) (c : Caller) (modes : Nat) (filt : Nat) (en : Nat) (lo : Int) (hi : Int),
    s.admitsOwner c 135 = true ∧ modes < 256 ∧ 1 ≤ filt ∧ filt ≤ 15 ∧ en < 8 ∧ -2 ^ 15 ≤ lo ∧ lo < 2 ^ 15 ∧ -2 ^ 15 ≤ hi ∧ hi < 2 ^ 15 ∧ (s.cpx.owner.lock = false ∨ s.tamperLoosens modes en lo hi = false) :=
  ⟨portIn 5, .firmware, 255, 15, 7, -2 ^ 15, 2 ^ 15 - 1, by decide +kernel⟩

theorem wit_KeyCommandsComplete_13 : ∃ (s : State) (c : Caller),
    s.admitsOwner c 136 = true :=
  ⟨portIn 5, .firmware, by decide +kernel⟩

theorem wit_KeyCommandsComplete_14 : ∃ (s : State) (c : Caller),
    s.admitsOwner c 137 = true :=
  ⟨portIn 5, .firmware, by decide +kernel⟩

theorem wit_VaultEventsComplete_4 : ∃ (source : Nat),
    source < 8 :=
  ⟨7, by decide +kernel⟩

theorem wit_VaultEventsComplete_7 : ∃ (s : State) (slot : Nat) (gen : Nat) (blob : List Byte) (m : KeyMat),
    slot < 256 ∧ s.keyMat slot gen = some m ∧ m.resident = false ∧ s.get F.vsCfg_STATE slot = 1 ∧ (firstFail (s.blobChecks (s.vsPart slot) blob (nn blob 4 4 != gen, Status.verifyFail) (s.keyKcv slot gen))) ≠ none :=
  ⟨vaultIn 6 1 { cur := some (matOf false) }, 255, 1, [], matOf false, by decide +kernel⟩

theorem wit_VaultEventsComplete_8 : ∃ (s : State) (slot : Nat) (gen : Nat),
    (slot, gen) ∈ s.kvc.exports :=
  ⟨{ portIn 5 with kvc := { exports := [(255, 1)] } }, 255, 1, by decide +kernel⟩

theorem wit_VaultEventsComplete_11 : ∃ (s : State) (slot : Nat) (gen : Nat) (m : KeyMat),
    s.keyMat slot gen = some m :=
  ⟨vaultIn 6 1 { cur := some (matOf true) }, 255, 1, matOf true, by decide +kernel⟩

theorem wit_VaultEventsComplete_13 : ∃ (mv : Nat),
    mv < 2 ^ 16 :=
  ⟨2 ^ 16 - 1, by decide +kernel⟩

theorem wit_KeyCommandsComplete_5 : ∃ (s : State) (c : Caller) (slot : Nat),
    slot < 256 ∧ s.resetting (s.vsPart slot) = false ∧ s.admits 131 = true ∧ ((s.cPart c) = s.vsPart slot ∨ s.cPt0 c = true) ∧ s.get F.vsCfg_STATE slot = 1 :=
  ⟨portIn 5, .firmware, 255, by decide +kernel⟩

theorem wit_KeyCommandsComplete_6 : ∃ (s : State) (c : Caller) (slot : Nat),
    slot < 256 ∧ s.resetting (s.vsPart slot) = false ∧ s.admits 132 = true ∧ ((s.cPart c) = s.vsPart slot ∨ s.cPt0 c = true) :=
  ⟨portIn 5, .firmware, 255, by decide +kernel⟩

theorem wit_KeyCommandsComplete_7 : ∃ (s : State) (c : Caller) (slot : Nat),
    slot < 256 ∧ s.resetting (s.vsPart slot) = false ∧ s.admits 132 = true ∧ ((s.cPart c) = s.vsPart slot ∨ s.cPt0 c = true) ∧ s.get F.vsCfg_STATE slot = 0 :=
  ⟨portIn 5, .firmware, 254, by decide +kernel⟩

theorem wit_KeyCommandsComplete_8 : ∃ (s : State) (c : Caller) (slot : Nat),
    slot < 256 ∧ s.resetting (s.vsPart slot) = false ∧ s.admits 132 = true ∧ ((s.cPart c) = s.vsPart slot ∨ s.cPt0 c = true) ∧ s.get F.vsCfg_STATE slot ≠ 0 :=
  ⟨portIn 5, .firmware, 255, by decide +kernel⟩

theorem wit_VaultEventsComplete_1 : ∃ (n : Nat),
    1000 ≤ n :=
  ⟨1000, by decide +kernel⟩

theorem wit_VaultEventsComplete_2 : ∃ (s : State) (source : Nat) (fell : Option Nat),
    source < 8 ∧ s.tamperOn source = true ∧ (source = 6 → ∀ n ∈ fell, n < 1000) :=
  ⟨sets (portIn 5) [(F.kvcTamperCfg_CLKGLITCH_EN, 1, 0)], 7, none, by decide +kernel⟩

theorem wit_VaultEventsComplete_3 : ∃ (s : State) (source : Nat) (fell : Option Nat),
    source < 8 ∧ s.tamperOn source = true ∧ (source = 6 → ∀ n ∈ fell, n < 1000) ∧ source < 6 :=
  ⟨sets (portIn 5) [(F.kvcTamperCfg_TEMP_EN, 1, 0)], 5, none, by decide +kernel⟩

theorem wit_VaultEventsComplete_5 : ∃ (s : State) (slot : Nat),
    slot < 256 ∧ s.get F.vsCfg_STATE slot = 2 ∧ (s.vslot slot).eraseAt + 1250000 ≤ s.tse.cyc :=
  ⟨atCyc (sets (portIn 5) [(F.vsCfg_STATE, 2, 255)]) 1250000, 255, by decide +kernel⟩

theorem wit_VaultEventsComplete_9 : ∃ (s : State) (v : Nat) (slot : Nat) (gen : Nat),
    s.keyUsable v (s.vsPart v) attrCpExport = true ∧ s.kvcOk = true ∧ s.keyResident v (s.get F.vsGen_CUR_GEN v) = true ∧ (v, (s.get F.vsGen_CUR_GEN v)) ∉ s.kvc.exports ∧ (slot, gen) ∉ (v, (s.get F.vsGen_CUR_GEN v)) :: s.kvc.exports :=
  ⟨vaultIn 6 1 { cur := some (matOf true) }, 255, 254, 1, by decide +kernel⟩

theorem wit_VaultEventsComplete_10 : ∃ (s : State) (v : Nat),
    s.keyUsable v (s.vsPart v) attrCpExport = false :=
  ⟨sets (portIn 5) [(F.vsCfg_ATTR, 0, 255)], 255, by decide +kernel⟩

theorem wit_VaultEventsComplete_12 : ∃ (s : State) (w : GenWait) (l : List GenWait),
    s.kvc.genWaits = w :: l ∧ w.at' + 12500000 ≤ s.tse.cyc :=
  ⟨atCyc { portIn 5 with kvc := { genWaits := [⟨.firmware, 6, 8, 1, 0⟩] } } 12500000, ⟨.firmware, 6, 8, 1, 0⟩, [], by decide +kernel⟩

/-! ### Witnesses: the Hinge ring -/

theorem wit_RingCommandsComplete_1 : ∃ (s : State) (c : Caller),
    s.admitsOwner c 144 = true ∧ s.hState = 0 :=
  ⟨portIn 5, .firmware, by decide +kernel⟩

theorem wit_RingCommandsComplete_2 : ∃ (s : State) (c : Caller),
    s.admitsOwner c 144 = true ∧ s.hState ≠ 0 :=
  ⟨ringIn 4 0 15 {}, .firmware, by decide +kernel⟩

theorem wit_RingCommandsComplete_3 : ∃ (s : State) (c : Caller) (payload : List Byte),
    s.admitsOwner c 145 = true ∧ payload.length % 8 = 0 ∧ 8 ≤ payload.length ∧ payload.length ≤ 1024 ∧ cpMarked payload = false ∧ s.hrl.own.length < 64 :=
  ⟨ringIn 3 0 15 { own := List.replicate 63 { seq := 0, payload := [] } }, .firmware, List.replicate 1024 0, by decide +kernel⟩

theorem wit_RingCommandsComplete_4 : ∃ (s : State) (c : Caller) (payload : List Byte),
    s.admitsOwner c 145 = true ∧ payload.length % 8 = 0 ∧ 8 ≤ payload.length ∧ payload.length ≤ 1024 ∧ cpMarked payload = false ∧ s.hrl.gms.length < 64 ∧ s.hRole = 1 :=
  ⟨ringIn 3 1 15 { gms := List.replicate 63 { seq := 0, payload := [] } }, .firmware, List.replicate 8 0, by decide +kernel⟩

theorem wit_RingCommandsComplete_5 : ∃ (s : State) (c : Caller),
    s.admitsOwner c 146 = true ∧ s.hRole = 1 ∧ s.get F.hrlStat_GMB ≠ 31 ∧ s.get F.nodeStat_MODE (s.get F.hrlStat_GMB) = 8 :=
  ⟨sets (ringIn 3 1 15 {}) [(F.hrlStat_GMB, 14, 0), (F.nodeStat_MODE, 8, 14)], .firmware, by decide +kernel⟩

theorem wit_RingCommandsComplete_6 : ∃ (s : State) (c : Caller),
    s.admitsOwner c 147 = true ∧ s.isSteward = true ∧ s.getB F.hrlMisc_QUIET_PEND = false ∧ s.hrl.voteAsk = false ∧ s.getB F.hrlStat_QUIET = false :=
  ⟨sets (ringIn 3 1 15 {}) [(F.hrlStat_STEWARD, 15, 0)], .firmware, by decide +kernel⟩

theorem wit_RingCommandsComplete_7 : ∃ (s : State) (c : Caller),
    s.admitsOwner c 148 = true ∧ s.getB F.hrlStat_QUIET = false :=
  ⟨ringIn 3 1 15 {}, .firmware, by decide +kernel⟩

theorem wit_RingCommandsComplete_8 : ∃ (s : State) (c : Caller) (turn : Nat),
    turn < 2 ^ 32 ∧ s.admitsOwner c 149 = true ∧ s.getB F.hrlCfg_AUTH = true ∧ s.ringKeyOk = true ∧ laterSerial 32 turn s.turn = true :=
  ⟨sets (ringIn 3 1 15 {}) [(F.hrlCfg_AUTH, 1, 0), (F.vsCfg_ATTR, 4, 255)], .firmware, 2 ^ 31 - 1, by decide +kernel⟩

theorem wit_RingCommandsComplete_9 : ∃ (s : State) (e : Nat) (up : Bool),
    e < 2 ∧ s.hState ≠ 0 ∧ s.hLink e ≠ up :=
  ⟨ringIn 3 1 15 {}, 1, false, by decide +kernel⟩

theorem wit_RingCommandsComplete_10 : ∃ (s : State),
    s.hState = 3 ∧ (100 ≤ s.hrl.silent ∨ 100 ≤ s.hrl.stewSilent) :=
  ⟨ringIn 3 1 15 { silent := 100 }, by decide +kernel⟩

theorem wit_RingCommandsComplete_12 : ∃ (s : State),
    s.hRole = 2 :=
  ⟨ringIn 3 2 15 {}, by decide +kernel⟩

theorem wit_RingCommandsComplete_14 : ∃ (s : State) (k : Nat),
    k < 16 ∧ s.isSteward = true ∧ k ≠ s.hIndex ∧ s.getB F.nodeStat_VALID k = true ∧ s.hrl.rosterNext = none ∧ (3 ≤ (s.hnode k).miss ∨ s.repeatsOnly k = true) :=
  ⟨sets (ringIn 3 0 15 (node14 { miss := 3 })) [(F.hrlStat_STEWARD, 15, 0)], 14, by decide +kernel⟩

theorem wit_RingFramesAreTaken_1 : ∃ (s : State) (e : Nat) (f : List Byte),
    (s.hState = 2 ∨ s.hState = 3 ∨ s.hState = 4) ∧ e < 2 ∧ s.hLink e = true ∧ hType f = 2 :=
  ⟨ringIn 2 3 31 {}, 1, frm 2 0 0 0 0 [], by decide +kernel⟩

theorem wit_RingFramesAreTaken_2 : ∃ (s : State) (e : Nat) (f : List Byte),
    (s.hState = 2 ∨ s.hState = 3 ∨ s.hState = 4) ∧ e < 2 ∧ s.hLink e = true ∧ hType f = 2 ∧ 16 ≤ f.length ∧ fnum f 14 2 = s.get F.hrlCfg_RING_ID ∧ hAuth f = s.getB F.hrlCfg_AUTH ∧ hAuth f = true ∧ s.tagOk f = false ∧ s.isOwnFrame f = false ∧ hHops f < 15 :=
  ⟨sets (ringIn 4 3 15 {}) [(F.hrlCfg_AUTH, 1, 0), (F.hrlCfg_KEY_SLOT, 0, 0)], 1, frm 2 128 14 0 0 (List.replicate 24 0), by decide +kernel⟩

theorem wit_RingFramesAreTaken_3 : ∃ (s : State) (e : Nat) (f : List Byte),
    s.hTakes e f ∧ hType f = 2 ∧ s.hState = 3 ∧ s.isTwin f = false ∧ s.get F.hrlStat_STEWARD ≠ 31 ∧ s.nodeIdOf (s.get F.hrlStat_STEWARD) = fnum (hPay f) 12 8 ∧ s.isSteward = false :=
  ⟨ringIn 3 0 15 {}, 1, frm 2 0 0 0 0 (List.replicate 12 0 ++ beBytes 8 5 ++ List.replicate 4 0), by unfold State.hTakes; decide +kernel⟩

theorem wit_RingFramesAreTaken_4 : ∃ (s : State) (e : Nat) (f : List Byte),
    s.hTakes e f ∧ hType f = 3 ∧ s.hState = 3 ∧ cpMarked (hPay f) = false ∧ laterSerial 32 (hSeq f) (tabGet 0 s.hrl.lastAcc (hStream f)) = true ∧ hSeq f = ((tabGet 0 s.hrl.lastAcc (hStream f)) + 1) % 2 ^ 32 ∧ s.bulkRoom (hLen f / 8 + 1) = true :=
  ⟨ringIn 3 0 15 { lastAcc := [(14, 2 ^ 32 - 1)] }, 1, frm 3 0 0 14 0 (List.replicate 1024 1), by unfold State.hTakes; decide +kernel⟩

theorem wit_RingFramesAreTaken_5 : ∃ (s : State) (e : Nat) (f : List Byte),
    s.hTakes e f ∧ hType f = 3 ∧ s.hState = 3 ∧ cpMarked (hPay f) = false ∧ laterSerial 32 (hSeq f) (tabGet 0 s.hrl.lastAcc (hStream f)) = true ∧ hSeq f ≠ ((tabGet 0 s.hrl.lastAcc (hStream f)) + 1) % 2 ^ 32 :=
  ⟨ringIn 3 0 15 { lastAcc := [(14, 2 ^ 32 - 1)] }, 1, frm 3 0 0 14 1 (List.replicate 8 1), by unfold State.hTakes; decide +kernel⟩

theorem wit_RingFramesAreTaken_6 : ∃ (s : State) (e : Nat) (f : List Byte),
    s.hTakes e f ∧ hType f = 3 ∧ s.hState = 3 ∧ cpMarked (hPay f) = false ∧ laterSerial 32 (hSeq f) (tabGet 0 s.hrl.lastAcc (hStream f)) = false :=
  ⟨ringIn 3 0 15 { lastAcc := [(14, 2 ^ 32 - 1)] }, 1, frm 3 0 0 14 (2 ^ 32 - 1) (List.replicate 8 1), by unfold State.hTakes; decide +kernel⟩

theorem wit_RingFramesAreTaken_7 : ∃ (s : State) (e : Nat) (f : List Byte),
    s.hTakes e f ∧ hType f = 4 ∧ s.hState = 3 ∧ s.isTwin f = false :=
  ⟨ringIn 3 0 15 {}, 0, frm 4 0 0 14 0 (List.replicate 24 0), by unfold State.hTakes; decide +kernel⟩

theorem wit_RingFramesAreTaken_8 : ∃ (s : State) (e : Nat) (f : List Byte) (k : Nat),
    s.hTakes e f ∧ hType f = 5 ∧ s.hState = 3 ∧ s.isTwin f = false ∧ s.indexOf (fnum (hPay f) 0 8) = some k ∧ hHops f ≠ 0 :=
  ⟨ringIn 3 0 15 {}, 0, frm 5 0 1 14 0 (beBytes 8 5 ++ List.replicate 64 0), 14, by unfold State.hTakes; decide +kernel⟩

theorem wit_RingFramesAreTaken_9 : ∃ (s : State) (e : Nat) (f : List Byte),
    s.hTakes e f ∧ hType f = 6 ∧ s.isTwin f = false ∧ s.hState = 2 :=
  ⟨ringIn 2 3 31 {}, 0, frm 6 0 0 14 0 (List.replicate 16 0), by unfold State.hTakes; decide +kernel⟩

theorem wit_RingFramesAreTaken_10 : ∃ (s : State) (e : Nat) (f : List Byte),
    s.hTakes e f ∧ hType f = 6 ∧ s.isTwin f = false ∧ s.isSteward = true ∧ fb (hPay f) 8 / 64 % 2 = 1 ∧ s.indexOf ((fnum (hPay f) 0 8, fb (hPay f) 8 / 128 == 1, fb (hPay f) 9 % 16)).1 = none :=
  ⟨sets (ringIn 3 0 15 {}) [(F.hrlStat_STEWARD, 15, 0)], 0, frm 6 0 0 14 0 (beBytes 8 9 ++ [64] ++ List.replicate 7 0), by unfold State.hTakes; decide +kernel⟩

theorem wit_RingFramesAreTaken_13 : ∃ (s : State) (e : Nat) (f : List Byte),
    s.hTakes e f ∧ hType f = 8 ∧ s.hState = 3 ∧ s.isTwin f = false :=
  ⟨ringIn 3 0 15 {}, 0, frm 8 0 0 14 0 (List.replicate 8 0), by unfold State.hTakes; decide +kernel⟩

theorem wit_RingFramesAreTaken_14 : ∃ (s : State) (e : Nat) (f : List Byte),
    s.hTakes e f ∧ hType f = 9 ∧ s.hState = 3 ∧ s.isTwin f = false :=
  ⟨ringIn 3 0 15 {}, 0, frm 9 0 0 14 0 (List.replicate 8 0), by unfold State.hTakes; decide +kernel⟩

theorem wit_RingFramesAreTaken_15 : ∃ (s : State) (e : Nat) (f : List Byte) (h : Nat) (d : Nat) (a : Nat) (ok : Bool),
    s.hTakes e f ∧ hType f = 1 ∧ s.hState = 3 ∧ s.paces = false ∧ s.pathFrom (hDir f) 17 (hOrigin f) = some (h, d, a, ok) ∧ hHops f + 1 ≠ h :=
  ⟨ringIn 3 0 15 (node14 { east := 6 }), 1, frm 1 0 1 14 1 mark1, 1, 0, 0, false, by unfold State.hTakes; decide +kernel⟩

theorem wit_RingFramesAreTaken_17 : ∃ (s : State) (e : Nat) (f : List Byte) (m : Nat) (h : Nat) (d : Nat) (a : Nat) (at' : List (Nat × Int)) (x : HEntry) (inst : Int),
    s.ringDoms = [0] ∧ s.sampleFrom f = true ∧ 1 ≤ h ∧ s.pathFrom (hDir f) 17 (hOrigin f) = some (h, d, a, true) ∧ (m + 1) % 2 ^ 32 = hSeq f ∧ s.hrl.sampled ≠ some (hSeq f) ∧ fb (hPay f) 12 % 2 = 0 ∧ s.getB F.hLaneStat_DLM_VALID e = true ∧ (markRead (hPay f)).head? = some x ∧ x.dom = 0 ∧ x.traced = true ∧ (List.find? (fun y => y.1 == 0) at' = some (0, inst)) :=
  ⟨sets (ringIn 3 0 15 (node14 { east := 6, delayE := 100, allowE := 5 })) [(F.hrlStat_GMA, 14, 0), (F.hLaneStat_DLM_VALID, 1, 1), (F.hLaneStat_HOP_VALID, 1, 1), (F.hLaneDelay_VALUE, 100, 1), (F.hLaneAllow_VALUE, 5, 1)], 1, frm 1 0 0 14 0 mark1, 2 ^ 32 - 1, 1, 100, 5, [(0, 77)], ⟨0, true, false, 0, 0⟩, 77, by beta_reduce; decide +kernel⟩

theorem wit_RingTurnsRun_1 : ∃ (e : Nat) (ty : Nat) (stream : Nat) (seq : Nat) (pay : List Byte),
    e < 2 ∧ 1 ≤ ty ∧ ty ≤ 9 ∧ stream < 32 ∧ seq < 2 ^ 32 ∧ pay.length % 8 = 0 ∧ pay.length ≤ 1024 :=
  ⟨1, 1, 31, 2 ^ 32 - 1, List.replicate 1024 0, by decide +kernel⟩

theorem wit_RingTurnsRun_2 : ∃ (s : State) (e : Nat) (ty : Nat) (stream : Nat) (seq : Nat) (pay : List Byte),
    e < 2 ∧ 1 ≤ ty ∧ ty ≤ 9 ∧ stream < 32 ∧ seq < 2 ^ 32 ∧ pay.length % 8 = 0 ∧ pay.length ≤ 1024 ∧ s.hIndex < 16 :=
  ⟨ringIn 3 0 15 {}, 1, 9, 31, 2 ^ 32 - 1, List.replicate 1024 0, by decide +kernel⟩

theorem wit_RingTurnsRun_3 : ∃ (s : State) (e : Nat) (ty : Nat) (stream : Nat) (seq : Nat) (rep : Bool) (pay : List Byte),
    e < 2 ∧ 1 ≤ ty ∧ ty ≤ 9 ∧ stream < 32 ∧ seq < 2 ^ 32 ∧ pay.length % 8 = 0 ∧ pay.length ≤ 1024 ∧ hAuth (s.hFrame e ty stream seq rep pay) = true :=
  ⟨sets (ringIn 3 0 15 {}) [(F.hrlCfg_AUTH, 1, 0), (F.hrlKey_SEND_GEN, 511, 0)], 1, 9, 31, 2 ^ 32 - 1, true, [], by decide +kernel⟩

theorem wit_RingTurnsRun_5 : ∃ (s : State),
    s.paces = false :=
  ⟨ringIn 3 0 15 {}, by decide +kernel⟩

theorem wit_RingTurnsRun_8 : ∃ (s : State),
    s.marks = none :=
  ⟨ringIn 3 0 15 {}, by decide +kernel⟩

theorem wit_RingTurnsRun_19 : ∃ (s : State) (j : Nat),
    s.isSteward = true ∧ 4 ≤ s.hrl.coinMiss ∧ s.hrl.coin = none ∧ s.hrl.coinNext = none ∧ s.nextEast 17 s.hrl.lastHolder = some j :=
  ⟨sets (ringIn 3 0 15 { coinMiss := 4, lastHolder := 15 }) [(F.hrlStat_STEWARD, 15, 0)], 14, by decide +kernel⟩

theorem wit_RingCommandsComplete_11 : ∃ (s : State),
    s.hState = 3 ∧ s.hIndex < 16 ∧ s.hRole = 2 ∧ s.hrl.turnCyc = s.tse.cyc ∧ (s.get F.hrlStat_GMA) ≠ 31 ∧ (3 ≤ (s.hnode (s.get F.hrlStat_GMA)).miss ∨ s.get F.nodeStat_MODE (s.get F.hrlStat_GMA) ∈ [9, 10, 11] ∨ (s.hnode (s.get F.hrlStat_GMA)).handover = true) :=
  ⟨sets (ringIn 3 2 15 (node14 { miss := 3 })) [(F.hrlStat_GMA, 14, 0)], by decide +kernel⟩

theorem wit_RingCommandsComplete_13 : ∃ (s : State),
    s.hState = 2 ∧ s.getB F.hrlCfg_GM_CAPABLE = true ∧ s.hrl.ringHeard = false ∧ s.hrl.claimed.length ≤ 15 ∧ (∀ x ∈ s.hrl.claimed, x.2.1 = true → ownId ≤ x.1) ∧ s.hrl.aloneAt + 45000000 ≤ s.tse.cyc :=
  ⟨atCyc (sets (ringIn 2 3 31 { claimed := [(5, false, 0)] }) [(F.hrlCfg_GM_CAPABLE, 1, 0)]) 45000000, by decide +kernel⟩

theorem wit_RingCommandsComplete_15 : ∃ (s : State),
    s.isMember = true ∧ s.hrl.turnCyc = s.tse.cyc ∧ (s.get F.hrlStat_STEWARD) < 16 ∧ (s.get F.hrlStat_STEWARD) ≠ s.hIndex ∧ 3 ≤ (s.hnode (s.get F.hrlStat_STEWARD)).miss ∧ s.heir = some s.hIndex :=
  ⟨sets (ringIn 3 0 15 (node14 { miss := 3 })) [(F.hrlCfg_GM_CAPABLE, 1, 0)], by decide +kernel⟩

theorem wit_RingFramesAreTaken_16 : ∃ (s : State) (e : Nat) (f : List Byte) (h : Nat) (d : Nat) (a : Nat) (ok : Bool),
    s.hTakes e f ∧ hType f = 1 ∧ s.hState = 3 ∧ s.paces = false ∧ s.pathFrom (hDir f) 17 (hOrigin f) = some (h, d, a, ok) ∧ hHops f + 1 = h ∧ laterSerial 32 (hSeq f) s.turn = true ∧ (s.markRoles f).markValid f = true ∧ (fb (hPay f) 1 / 64 = 1 ∨ fb (hPay f) 1 / 64 = 2) :=
  ⟨sets (ringIn 3 0 15 (node14 { east := 6 })) [(F.hrlStat_GMA, 14, 0)], 1, frm 1 0 0 14 1 mark1, 1, 0, 0, false, by unfold State.hTakes; decide +kernel⟩

theorem wit_RingTurnsRun_4 : ∃ (s : State),
    s.paces = true ∧ s.hrl.turnCyc + s.turnLen ≤ s.tse.cyc :=
  ⟨ringAt 3 1 15 1000000000, by decide +kernel⟩

theorem wit_RingTurnsRun_6 : ∃ (s : State),
    (s.hState = 3 ∨ s.hState = 4) ∧ s.paces = false ∧ s.hrl.turnCyc + s.turnLen + 64 ≤ s.tse.cyc :=
  ⟨ringAt 3 0 15 1000000000, by decide +kernel⟩

theorem wit_RingTurnsRun_7 : ∃ (s : State) (role : Nat),
    s.marks = some role ∧ s.turnDue 1 0 = true :=
  ⟨sets (ringIn 3 0 15 {}) [(F.hrlStat_STEWARD, 15, 0)], 3, by decide +kernel⟩

theorem wit_RingTurnsRun_9 : ∃ (s : State),
    s.hState = 3 ∧ s.hIndex ≠ 31 ∧ s.turnDue 5 500 = true :=
  ⟨ringAt 3 0 15 500, by decide +kernel⟩

theorem wit_RingTurnsRun_10 : ∃ (s : State),
    s.hState = 4 ∧ s.turnDue 5 500 = true :=
  ⟨ringAt 4 3 15 500, by decide +kernel⟩

theorem wit_RingTurnsRun_11 : ∃ (s : State),
    s.hState = 3 ∧ s.turnDue 4 750 = true :=
  ⟨ringAt 3 0 15 750, by decide +kernel⟩

theorem wit_RingTurnsRun_12 : ∃ (s : State),
    s.hState = 2 ∧ (∀ t ∈ s.hrl.claimAt, t + 1250000 ≤ s.tse.cyc) :=
  ⟨atCyc (ringIn 2 3 31 { claimAt := some 0 }) 1250000, by decide +kernel⟩

theorem wit_RingTurnsRun_13 : ∃ (s : State),
    s.hState = 3 ∧ s.hrl.coin.isSome = true ∧ s.getB F.hrlStat_QUIET = false ∧ s.get F.hrlStat_STEWARD ≠ 31 ∧ s.hrl.turnCyc + 1250 ≤ s.tse.cyc ∧ s.tse.cyc ≤ s.hrl.turnCyc + 10750 :=
  ⟨atCyc (ringIn 3 0 15 { coin := some {} }) 1250, by decide +kernel⟩

theorem wit_RingTurnsRun_14 : ∃ (s : State),
    s.hState = 3 ∧ s.hrl.coin.isSome = true ∧ s.getB F.hrlStat_QUIET = false ∧ s.get F.hrlStat_STEWARD ≠ 31 ∧ s.hrl.turnCyc + 1250 ≤ s.tse.cyc ∧ s.tse.cyc ≤ s.hrl.turnCyc + 10750 :=
  ⟨atCyc (ringIn 3 0 15 { coin := some {} }) 1250, by decide +kernel⟩

theorem wit_RingTurnsRun_15 : ∃ (s : State),
    s.hRole = 1 ∧ s.getB F.hrlStat_QUIET = false ∧ s.hrl.turnCyc + 1250 ≤ s.tse.cyc :=
  ⟨ringAt 3 1 15 1250, by decide +kernel⟩

theorem wit_RingTurnsRun_16 : ∃ (s : State),
    s.hRole = 1 ∧ s.getB F.hrlStat_QUIET = false ∧ s.hrl.turnCyc + 1250 ≤ s.tse.cyc ∧ s.hState = 3 :=
  ⟨ringAt 3 1 15 1250, by decide +kernel⟩

theorem wit_RingTurnsRun_17 : ∃ (s : State),
    s.hRole = 2 ∧ s.mode = Mode.standby ∧ s.getB F.hrlStat_QUIET = false ∧ s.hrl.turnCyc + 1250 ≤ s.tse.cyc :=
  ⟨inMode (ringAt 3 2 15 1250) .standby, by decide +kernel⟩

theorem wit_RingTurnsRun_18 : ∃ (s : State) (x : Coin) (j : Nat),
    s.hrl.coin = some x ∧ s.isMember = true ∧ s.nextEast 17 s.hIndex = some j ∧ x.vote = 0 ∧ (s.hrl.voteAsk = false ∨ s.isSteward = false) ∧ s.get F.hrlStat_STEWARD ≠ 31 ∧ s.hrl.turnCyc + 11250 ≤ s.tse.cyc :=
  ⟨atCyc (ringIn 3 0 15 { coin := some {} }) 11250, {}, 14, by decide +kernel⟩

/-! ### Witnesses: registers, partitions and functions, faults and the ledger -/

theorem wit_RegisterReadsAnswer_1 : ∃ (f : Fifo) (w : Word) (l : List Word),
    f.cur = w :: l :=
  ⟨{ items := [[5]], cur := [1, 2] }, 1, [2], by decide +kernel⟩

theorem wit_RegisterReadsAnswer_2 : ∃ (f : Fifo) (w : Word) (l : List Word) (r : List (List Word)),
    f.cur = [] ∧ f.items = (w :: l) :: r :=
  ⟨{ items := [[5]] }, 5, [], [], by decide +kernel⟩

theorem wit_RegisterReadsAnswer_3 : ∃ (f : Fifo),
    f.cur = [] ∧ f.items = [] :=
  ⟨{}, by decide +kernel⟩

theorem wit_RegisterReadsAnswer_4 : ∃ (f : Fifo) (k : Nat) (w : Word) (g : Fifo),
    f.read k Half.full = some (w, g) :=
  ⟨fifo1, 255, 1, { cur := [2] }, by decide +kernel⟩

theorem wit_RegisterReadsAnswer_5 : ∃ (m : Master) (r : RegId) (i : Nat) (j : Nat),
    i < (regInfo r).ni ∧ j < (regInfo r).nj ∧ (∀ (t : Nat), m ≠ Master.thread t) :=
  ⟨.cp 3, .evoCfg, 7, 0, ⟨by decide +kernel, by decide +kernel, fun t h => (by cases h)⟩⟩

theorem wit_RegisterReadsAnswer_6 : ∃ (r : RegId) (i : Nat) (j : Nat) (f : Nat × Nat × Acc),
    i < (regInfo r).ni ∧ j < (regInfo r).nj ∧ f ∈ (regInfo r).fields :=
  ⟨.parStat, 0, 0, (regInfo .parStat).fields.getD 0 (0, 0, .rc), by decide +kernel⟩

theorem wit_RegisterReadsAnswer_7 : ∃ (r : RegId) (i : Nat) (j : Nat) (r' : RegId) (i' : Nat) (j' : Nat),
    i < (regInfo r).ni ∧ j < (regInfo r).nj ∧ i' < (regInfo r').ni ∧ j' < (regInfo r').nj ∧ (r', i', j') ≠ (r, i, j) :=
  ⟨.vsCfg, 255, 0, .vsCfg, 254, 0, by decide +kernel⟩

theorem wit_RegisterReadsAnswer_8 : ∃ (s : State) (m : Master) (h : Half) (a : Nat) (b : Nat) (x : Instr × RegId × Nat × Nat),
    x ∈ [(Instr.emuStatReadClear m a h, RegId.emuStat, a, 0), (Instr.gnbTstatReadClear m h, RegId.gnbTstat, 0, 0), (Instr.gnbNavStatReadClear m h, RegId.gnbNavStat, 0, 0), (Instr.synStatReadClear m a h, RegId.synStat, a, 0), (Instr.evoStatReadClear m a h, RegId.evoStat, a, 0), (Instr.dsqStatReadClear m h, RegId.dsqStat, 0, 0), (Instr.queueStatReadClear m a h, RegId.qStat, a, 0), (Instr.tsvStatReadClear m h, RegId.tsvStat, 0, 0), (Instr.tsvDropReadClear m a h, RegId.tsvDrop, a, 0), (Instr.tsvErrReadClear m a h, RegId.tsvErr, a, 0), (Instr.kvcCacheStatReadClear m h, RegId.kvcCacheStat, 0, 0), (Instr.vsPinsReadClear m a h, RegId.vsPins, a, 0), (Instr.hrlLtallyReadClear m h, RegId.hrlLtally, 0, 0), (Instr.nodeTallyReadClear m a h, RegId.nodeTally, a, 0), (Instr.parStatReadClear m h, RegId.parStat, 0, 0), (Instr.parFnStatReadClear m a h, RegId.parFnStat, a, 0), (Instr.parBusCntReadClear m h, RegId.parBusCnt, 0, 0), (Instr.ledgerStatReadClear m h, RegId.supLedgerStat, 0, 0), (Instr.fcntReadClear m a h, RegId.supFcnt, a, 0), (Instr.tbStatReadClear m a h, RegId.tbStat, a, 0), (Instr.tbPeakReadClear m a b h, RegId.tbPeak, a, b), (Instr.expStatReadClear m h, RegId.npaExpStat, 0, 0), (Instr.slgStatReadClear m a h, RegId.slgPStat, a, 0), (Instr.pwrClkCntReadClear m h, RegId.pwrClkCnt, 0, 0), (Instr.pwrDvfsReadClear m h, RegId.pwrDvfs, 0, 0), (Instr.pwrTempReadClear m h, RegId.pwrTemp, 0, 0)] ∧ s.serves m x.2.1 x.2.2.1 x.2.2.2 = true :=
  ⟨busIn (portIn 5), .fn 0, .low, 7, 0, (Instr.evoStatReadClear (.fn 0) 7 .low, RegId.evoStat, 7, 0), by decide +kernel⟩

theorem wit_RegisterReadsAnswer_9 : ∃ (s : State) (m : Master) (h : Half) (n : Nat),
    s.serves m RegId.domTimeSec n 0 = true ∧ h ≠ Half.high :=
  ⟨busIn (portIn 5), .thread 127, .full, 31, by decide +kernel⟩

theorem wit_RegisterReadsAnswer_10 : ∃ (s : State) (m : Master) (h : Half) (n : Nat),
    s.serves m RegId.domTimeSec n 0 = true ∧ h = Half.high :=
  ⟨busIn (portIn 5), .fn 0, .high, 31, by decide +kernel⟩

theorem wit_RegisterReadsAnswer_11 : ∃ (s : State) (m : Master) (h : Half),
    s.serves m RegId.gnbTmsg 0 0 = true ∧ h ≠ Half.high :=
  ⟨busIn (portIn 5), .cp 0, .low, by decide +kernel⟩

theorem wit_RegisterReadsAnswer_12 : ∃ (s : State) (m : Master) (h : Half) (a : Nat) (w : Word) (f : Fifo),
    s.serves m RegId.emuFifo a 0 = true ∧ (tabGet { } s.rim.emus a).fifo.read (halfKey m) h = some (w, f) :=
  ⟨{ busIn (portIn 5) with rim := { emus := [(7, { fifo := fifo1 })] } }, .cp 0, .low, 7, 1, { cur := [2], half := [(0, 1)] }, by decide +kernel⟩

theorem wit_RegisterReadsAnswer_13 : ∃ (s : State) (m : Master) (h : Half) (a : Nat),
    s.serves m RegId.emuFifo a 0 = true ∧ (tabGet { } s.rim.emus a).fifo.read (halfKey m) h = none :=
  ⟨busIn (portIn 5), .cp 0, .full, 7, by decide +kernel⟩

theorem wit_RegisterReadsAnswer_14 : ∃ (s : State) (m : Master) (h : Half) (w : Word) (f : Fifo),
    s.serves m RegId.gnbTapf 0 0 = true ∧ s.gnb.tapf.read (halfKey m) h = some (w, f) :=
  ⟨{ busIn (portIn 5) with gnb := { tapf := fifo1 } }, .cp 0, .full, 1, { cur := [2] }, by decide +kernel⟩

theorem wit_RegisterReadsAnswer_15 : ∃ (s : State) (m : Master) (h : Half),
    s.serves m RegId.gnbTapf 0 0 = true ∧ s.gnb.tapf.read (halfKey m) h = none :=
  ⟨busIn (portIn 5), .cp 0, .low, by decide +kernel⟩

theorem wit_RegisterReadsAnswer_16 : ∃ (s : State) (m : Master) (h : Half) (a : Nat) (w : Word) (f : Fifo),
    s.serves m RegId.txtsFifo a 0 = true ∧ (s.nport a).txts.read (halfKey m) h = some (w, f) :=
  ⟨withPort (busIn (portIn 5)) { txts := fifo1 }, .cp 3, .high, 63, 0, fifo1, by decide +kernel⟩

theorem wit_RegisterReadsAnswer_17 : ∃ (s : State) (m : Master) (h : Half) (a : Nat),
    s.serves m RegId.txtsFifo a 0 = true ∧ (s.nport a).txts.read (halfKey m) h = none :=
  ⟨busIn (portIn 5), .cp 3, .low, 63, by decide +kernel⟩

theorem wit_RegisterReadsAnswer_18 : ∃ (s : State) (m : Master) (h : Half) (w : Word) (f : Fifo),
    s.serves m RegId.hrlRxf 0 0 = true ∧ s.hrl.rxf.read (halfKey m) h = some (w, f) :=
  ⟨{ busIn (portIn 5) with hrl := { rxf := fifo1 } }, .fn 0, .full, 1, { cur := [2] }, by decide +kernel⟩

theorem wit_RegisterReadsAnswer_19 : ∃ (s : State) (m : Master) (h : Half),
    s.serves m RegId.hrlRxf 0 0 = true ∧ s.hrl.rxf.read (halfKey m) h = none :=
  ⟨busIn (portIn 5), .fn 0, .full, by decide +kernel⟩

theorem wit_RegisterReadsAnswer_20 : ∃ (s : State) (m : Master) (h : Half) (w : Word) (f : Fifo),
    s.serves m RegId.supLedger 0 0 = true ∧ s.sup.ledger.read (halfKey m) h = some (w, f) :=
  ⟨{ busIn (portIn 5) with sup := { ledger := fifo1 } }, .fn 0, .full, 1, { cur := [2] }, by decide +kernel⟩

theorem wit_RegisterReadsAnswer_21 : ∃ (s : State) (m : Master) (h : Half),
    s.serves m RegId.supLedger 0 0 = true ∧ s.sup.ledger.read (halfKey m) h = none :=
  ⟨busIn (portIn 5), .fn 0, .full, by decide +kernel⟩

theorem wit_RegisterWritesTakeEffect_1 : ∃ (r : RegId) (h : Half) (f : Nat × Nat × Acc) (b : Nat),
    f ∈ (regInfo r).fields ∧ f.2.1 ≤ b ∧ b ≤ f.1 ∧ (h = Half.full ∨ h = Half.low ∧ b < 32 ∨ h = Half.high ∧ 32 ≤ b) ∧ (f.2.2 = Acc.rw ∨ f.2.2 = Acc.rwe) :=
  ⟨.evoCfg, .low, (9, 8, .rwe), 9, by decide +kernel⟩

theorem wit_RegisterWritesTakeEffect_2 : ∃ (r : RegId) (h : Half) (f : Nat × Nat × Acc) (b : Nat),
    f ∈ (regInfo r).fields ∧ f.2.1 ≤ b ∧ b ≤ f.1 ∧ (h = Half.full ∨ h = Half.low ∧ b < 32 ∨ h = Half.high ∧ 32 ≤ b) ∧ f.2.2 = Acc.w1c :=
  ⟨.supFstat0, .high, (63, 0, .w1c), 63, by decide +kernel⟩

theorem wit_RegisterWritesTakeEffect_3 : ∃ (r : RegId) (h : Half) (f : Nat × Nat × Acc) (b : Nat),
    f ∈ (regInfo r).fields ∧ f.2.1 ≤ b ∧ b ≤ f.1 ∧ (¬(h = Half.full ∨ h = Half.low ∧ b < 32 ∨ h = Half.high ∧ 32 ≤ b) ∨ f.2.2 = Acc.rc ∨ f.2.2 = Acc.wo) :=
  ⟨.vsPins, .full, (63, 60, .rc), 60, by decide +kernel⟩

theorem wit_RegisterWritesTakeEffect_4 : ∃ (s : State) (m : Master) (h : Half) (data : Word) (r : RegId) (i : Nat) (j : Nat),
    r ≠ RegId.supFstat0 ∧ r ≠ RegId.supPfstat ∧ r ≠ RegId.supHb ∧ r ≠ RegId.qPush ∧ r ≠ RegId.qPushEnd ∧ ((s.drainDue).mayWrite ((s.drainDue).whoOf m) r i = false ∨ (s.drainDue).refuses r i j ((s.drainDue).cell r i j) ((s.drainDue).fixed ((s.drainDue).whoOf m) r i ((s.drainDue).cell r i j) (mergeWord false ((s.drainDue).cell r i j) (halfData h data) (halfMask h) (regInfo r).fields)) = true) :=
  ⟨busIn (portIn 5), .fn 8, .full, 0, .pwrDvfs, 0, 0, by decide +kernel⟩

theorem wit_RegisterWritesTakeEffect_5 : ∃ (s : State) (m : Master) (h : Half) (data : Word) (r : RegId) (i : Nat) (j : Nat),
    r ≠ RegId.supFstat0 ∧ r ≠ RegId.supPfstat ∧ r ≠ RegId.supHb ∧ r ≠ RegId.qPush ∧ r ≠ RegId.qPushEnd ∧ (s.drainDue).mayWrite ((s.drainDue).whoOf m) r i = true ∧ (s.drainDue).refuses r i j ((s.drainDue).cell r i j) ((s.drainDue).fixed ((s.drainDue).whoOf m) r i ((s.drainDue).cell r i j) (mergeWord false ((s.drainDue).cell r i j) (halfData h data) (halfMask h) (regInfo r).fields)) = false :=
  ⟨busIn (portIn 5), .fn 0, .full, 0, .pwrDvfs, 0, 0, by decide +kernel⟩

theorem wit_RegisterWritesTakeEffect_6 : ∃ (s : State) (m : Master) (r : RegId) (i : Nat) (j : Nat),
    s.serves m r i j = true :=
  ⟨busIn (portIn 5), .fn 0, .inCfg, 23, 0, by decide +kernel⟩

theorem wit_RegisterWritesTakeEffect_7 : ∃ (s : State) (m : Master) (h : Half) (data : Word) (a : Nat) (b : Nat) (x : Instr × RegId × Nat × Nat),
    x ∈ [(Instr.inputCfgWrite m a false h data, RegId.inCfg, a, 0), (Instr.inputCfgWrite m a true h data, RegId.inNom, a, 0), (Instr.gspCfgWrite m a false h data, RegId.gspCfg, a, 0), (Instr.gspCfgWrite m a true h data, RegId.gspLo, a, 0), (Instr.queuePush m a h data, RegId.qPush, a, 0), (Instr.queuePushEnd m a h data, RegId.qPushEnd, a, 0), (Instr.queueCfgWrite m a h data, RegId.qCfg, a, 0), (Instr.slgRingEnable m a false h data, RegId.slgPringCfg, a, 0), (Instr.slgRingEnable m a true h data, RegId.slgCringCfg, a, 0), (Instr.tsvTableEnable m false h data, RegId.tsvAssoc, 0, 0), (Instr.tsvTableEnable m true h data, RegId.tsvPolice, 0, 0), (Instr.partitionEnableWrite m a h data, RegId.parPtCfg, a, 0), (Instr.ringDoorbell m a b h data, RegId.ringSqIdx, a, b), (Instr.ringEnable m a b h data, RegId.ringCfg, a, b), (Instr.faultDeviceClear m h data, RegId.supFstat0, 0, 0), (Instr.faultPartitionClear m a h data, RegId.supPfstat, a, 0), (Instr.heartbeatWrite m h data, RegId.supHb, 0, 0), (Instr.peripheralEnableWrite m h data, RegId.pwrEn, 0, 0), (Instr.fmcStart m h data, RegId.pwrFmcCtl, 0, 0), (Instr.dvfsTargetWrite m h data, RegId.pwrDvfs, 0, 0)] ∧ s.serves m x.2.1 x.2.2.1 x.2.2.2 = true :=
  ⟨busIn (portIn 5), .fn 0, .full, 0, 8, 3, (Instr.ringEnable (.fn 0) 8 3 .full 0, RegId.ringCfg, 8, 3), by decide +kernel⟩

theorem wit_RegisterWritesTakeEffect_10 : ∃ (s : State) (m : Master) (data : Word) (q : Nat),
    q < 256 ∧ ((s.drainDue).whoOf m).pt0 = true ∧ (s.drainDue).qCfgRefused q data = false :=
  ⟨busIn (portIn 5), .fn 0, 0, 255, by decide +kernel⟩

theorem wit_RegisterWritesTakeEffect_11 : ∃ (s : State) (m : Master) (data : Word) (p : Nat),
    p < 8 ∧ (((s.drainDue).whoOf m).pt0 = true ∨ ((s.drainDue).whoOf m).part = p) ∧ BitVec.getLsbD data 0 = true ∧ (s.drainDue).getB F.slgPringCfg_EN p = false ∧ 4 ≤ bitsOf data 5 1 ∧ bitsOf data 5 1 ≤ 20 :=
  ⟨busIn (portIn 5), .fn 0, BitVec.ofNat 64 (1 + 2 * 20), 7, by decide +kernel⟩

theorem wit_RegisterWritesTakeEffect_12 : ∃ (s : State) (m : Master) (data : Word) (p : Nat),
    p < 8 ∧ (((s.drainDue).whoOf m).pt0 = true ∨ ((s.drainDue).whoOf m).part = p) ∧ BitVec.getLsbD data 0 = true ∧ (s.drainDue).getB F.slgCringCfg_EN p = false ∧ 2 ≤ bitsOf data 5 1 ∧ bitsOf data 5 1 ≤ 10 :=
  ⟨busIn (portIn 5), .fn 0, BitVec.ofNat 64 (1 + 2 * 2), 7, by decide +kernel⟩

theorem wit_RegisterWritesTakeEffect_13 : ∃ (s : State) (m : Master) (data : Word),
    ((s.drainDue).whoOf m).pt0 = true ∧ BitVec.getLsbD data 7 = true ∧ (s.drainDue).getB F.tsvAssoc_EN = false :=
  ⟨busIn (portIn 5), .fn 0, 128, by decide +kernel⟩

theorem wit_RegisterWritesTakeEffect_14 : ∃ (s : State) (m : Master) (data : Word),
    ((s.drainDue).whoOf m).pt0 = true ∧ BitVec.getLsbD data 7 = true ∧ (s.drainDue).getB F.tsvPolice_EN = false :=
  ⟨busIn (portIn 5), .fn 0, 128, by decide +kernel⟩

theorem wit_RegisterWritesTakeEffect_15 : ∃ (s : State) (m : Master) (data : Word) (p : Nat),
    1 ≤ p ∧ p < 8 ∧ ((s.drainDue).whoOf m).pt0 = true ∧ (s.drainDue).resetting p = false ∧ BitVec.getLsbD data 0 = true ∧ (s.drainDue).enabled p = false :=
  ⟨portIn 5, .fn 0, 1, 7, by decide +kernel⟩

theorem wit_RegisterWritesTakeEffect_16 : ∃ (s : State) (m : Master) (data : Word) (p : Nat),
    1 ≤ p ∧ p < 8 ∧ ((s.drainDue).whoOf m).pt0 = true ∧ (s.drainDue).resetting p = false ∧ BitVec.getLsbD data 0 = false ∧ (s.drainDue).getB F.parPtCfg_EN p = true ∧ (s.drainDue).enabled p = true :=
  ⟨(busIn (portIn 5)).put F.parPtCfg_EN 1 7, .fn 0, 0, 7, by decide +kernel⟩

theorem wit_RegisterWritesTakeEffect_17 : ∃ (s : State) (m : Master) (f : Nat) (r : Nat),
    f < 9 ∧ r < 4 ∧ (((s.drainDue).whoOf m).pt0 = true ∨ ((s.drainDue).whoOf m).fn = some f) :=
  ⟨busIn (portIn 5), .fn 8, 8, 3, by decide +kernel⟩

theorem wit_RegisterWritesTakeEffect_18 : ∃ (s : State) (m : Master) (data : Word) (f : Nat) (r : Nat),
    f < 9 ∧ r < 4 ∧ (((s.drainDue).whoOf m).pt0 = true ∨ ((s.drainDue).whoOf m).fn = some f) ∧ (s.drainDue).getB F.ringCfg_EN f r = true ∧ (s.drainDue).getB F.ringCfg_HALT f r = false ∧ 2 ^ (s.drainDue).get F.ringCfg_SIZE f r < ((bitsOf data 31 0 + 2 ^ 32 - (s.drainDue).get F.ringSqIdx_SQ_CONS f r) % 2 ^ 32) :=
  ⟨ringReadyIn, .fn 8, BitVec.ofNat 64 (2 ^ 32 - 1), 8, 3, by decide +kernel⟩

theorem wit_RegisterWritesTakeEffect_19 : ∃ (s : State) (m : Master) (data : Word) (f : Nat) (r : Nat),
    f < 9 ∧ r < 4 ∧ (((s.drainDue).whoOf m).pt0 = true ∨ ((s.drainDue).whoOf m).fn = some f) ∧ BitVec.getLsbD data 0 = true ∧ (s.drainDue).getB F.ringCfg_EN f r = false ∧ 4 ≤ bitsOf data 11 8 ∧ bitsOf data 11 8 ≤ 12 :=
  ⟨busIn (portIn 5), .fn 8, BitVec.ofNat 64 (1 + 256 * 12), 8, 3, by decide +kernel⟩

theorem wit_RegisterWritesTakeEffect_20 : ∃ (s : State) (m : Master) (n : Nat),
    n < 64 ∧ n ≠ 26 ∧ ((s.drainDue).whoOf m).pt0 = true :=
  ⟨busIn (portIn 5), .fn 0, 63, by decide +kernel⟩

theorem wit_RegisterWritesTakeEffect_21 : ∃ (s : State) (m : Master) (p : Nat) (n : Nat),
    p < 8 ∧ n < 64 ∧ n ≠ 26 ∧ (((s.drainDue).whoOf m).pt0 = true ∨ ((s.drainDue).whoOf m).part = p) :=
  ⟨busIn (portIn 5), .fn 8, 7, 63, by decide +kernel⟩

theorem wit_RegisterWritesTakeEffect_22 : ∃ (m : Master) (k : Nat),
    m = Master.cp k :=
  ⟨.cp 3, 3, by decide +kernel⟩

theorem wit_RegisterWritesTakeEffect_23 : ∃ (s : State) (m : Master) (data : Word) (n : Nat),
    ((s.drainDue).whoOf m).pt0 = true ∧ (∀ n ∈ ([0, 1, 2, 3, 4, 5, 6, 7, 8, 9, 10, 11, 12, 13, 14, 15, 20, 21, 23, 24, 25, 26, 27]), (fun n => BitVec.getLsbD ((s.drainDue).rd RegId.pwrEn) n = true ∧ BitVec.getLsbD data n = false) n → (s.drainDue).enInUse n = false) ∧ n ∈ ([0, 1, 2, 3, 4, 5, 6, 7, 8, 9, 10, 11, 12, 13, 14, 15, 20, 21, 23, 24, 25, 26, 27]) :=
  ⟨busIn (portIn 5), .fn 0, BitVec.ofNat 64 (2 ^ 64 - 2), 0, by beta_reduce; decide +kernel⟩

theorem wit_RegisterWritesTakeEffect_24 : ∃ (s : State) (m : Master) (data : Word) (n : Nat),
    ((s.drainDue).whoOf m).pt0 = true ∧ n ∈ ([0, 1, 2, 3, 4, 5, 6, 7, 8, 9, 10, 11, 12, 13, 14, 15, 20, 21, 23, 24, 25, 26, 27]) ∧ (fun n => BitVec.getLsbD ((s.drainDue).rd RegId.pwrEn) n = true ∧ BitVec.getLsbD data n = false) n ∧ (s.drainDue).enInUse n = true :=
  ⟨busIn (portIn 5), .fn 0, 0, 27, by beta_reduce; decide +kernel⟩

theorem wit_RegisterWritesTakeEffect_25 : ∃ (s : State) (m : Master) (data : Word),
    ((s.drainDue).whoOf m).pt0 = true ∧ BitVec.getLsbD data 63 = true ∧ (s.drainDue).get F.pwrFmcCtl_STATE ≠ 1 :=
  ⟨busIn (portIn 5), .fn 0, BitVec.ofNat 64 (2 ^ 63), by decide +kernel⟩

theorem wit_RegisterWritesTakeEffect_26 : ∃ (s : State) (m : Master),
    ((s.drainDue).whoOf m).pt0 = true :=
  ⟨busIn (portIn 5), .fn 0, by decide +kernel⟩

theorem wit_PartitionAndHostEventsComplete_1 : ∃ (s : State) (c : Caller) (p : Nat),
    1 ≤ p ∧ p < 8 ∧ s.admitsOwner c 160 = true ∧ s.enabled p = true ∧ s.resetting p = false :=
  ⟨busIn (portIn 5), .firmware, 7, by decide +kernel⟩

theorem wit_PartitionAndHostEventsComplete_2 : ∃ (s : State) (p : Nat),
    p < 8 ∧ s.resetting p = true ∧ s.drains p = false :=
  ⟨(busIn (portIn 5)).put F.parStat_RESETTING 255, 7, by decide +kernel⟩

theorem wit_PartitionAndHostEventsComplete_5 : ∃ (s : State),
    s.par.perstLow = true :=
  ⟨withPar (portIn 5) { perstLow := true }, by decide +kernel⟩

theorem wit_PartitionAndHostEventsComplete_6 : ∃ (s : State) (f : Nat) (r : Nat) (e : List Byte),
    s.ringReady f r = true ∧ e.length ≠ 128 :=
  ⟨ringReadyIn, 8, 3, [], by decide +kernel⟩

theorem wit_PartitionAndHostEventsComplete_7 : ∃ (s : State) (f : Nat) (r : Nat) (e : List Byte),
    s.ringReady f r = true ∧ e.length = 128 ∧ s.idBusy f (entryId e) = true :=
  ⟨withPar ringReadyIn { cur := [(32, some { cmdId := 1, opcode := 0, indirect := false, bufLen := 0, buf := 0, sqIndex := 0, hash := 0 })] }, 8, 3, entryFor 1 136, by decide +kernel⟩

theorem wit_PartitionAndHostEventsComplete_8 : ∃ (s : State) (f : Nat) (r : Nat) (e : List Byte),
    s.ringReady f r = true ∧ e.length = 128 ∧ s.idBusy f (entryId e) = false ∧ s.mode ≠ Mode.boot ∧ s.entryOk e = true ∧ (List.find? (fun h => entryId e != 0 && h.cmdId == entryId e) (tabGet [] s.par.hist f)) = none :=
  ⟨ringReadyIn, 8, 3, entryFor 1 136, by beta_reduce; decide +kernel⟩

theorem wit_PartitionAndHostEventsComplete_9 : ∃ (s : State) (f : Nat) (r : Nat) (e : List Byte),
    s.ringReady f r = true ∧ s.resetting (partOfFn f) = false ∧ e.length = 128 ∧ s.idBusy f (entryId e) = false ∧ s.mode = Mode.boot :=
  ⟨inMode ringReadyIn .boot, 8, 3, entryFor 1 136, by decide +kernel⟩

theorem wit_PartitionAndHostEventsComplete_10 : ∃ (s : State) (f : Nat) (r : Nat) (e : List Byte),
    s.ringReady f r = true ∧ s.resetting (partOfFn f) = false ∧ e.length = 128 ∧ s.idBusy f (entryId e) = false ∧ s.mode ≠ Mode.boot ∧ s.entryOk e = false :=
  ⟨ringReadyIn, 8, 3, entryFor 1 255, by decide +kernel⟩

theorem wit_PartitionAndHostEventsComplete_16 : ∃ (s : State) (code : Nat) (a : Access),
    code < 10 ∧ s.cpx.inReset = false ∧ tabGet none s.par.stalls code = some a :=
  ⟨withPar (portIn 5) { stalls := [(9, some { m := .thread 127, write := false, addr := 8, h := .full })] }, 9, { m := .thread 127, write := false, addr := 8, h := .full }, by decide +kernel⟩

theorem wit_PartitionAndHostEventsComplete_17 : ∃ (s : State) (f : Nat) (r : Nat),
    f < 9 ∧ r < 4 ∧ s.cpx.inReset = false :=
  ⟨portIn 5, 8, 3, by decide +kernel⟩

theorem wit_PartitionAndHostEventsComplete_18 : ∃ (s : State) (f : Nat) (r : Nat) (x : Started),
    f < 9 ∧ r < 4 ∧ s.cpx.inReset = false ∧ s.started f r = some x :=
  ⟨withPar ringReadyIn { cur := [(35, some { cmdId := 1, opcode := 0, indirect := false, bufLen := 0, buf := 0, sqIndex := 0, hash := 0 })] }, 8, 3, { cmdId := 1, opcode := 0, indirect := false, bufLen := 0, buf := 0, sqIndex := 0, hash := 0 }, by decide +kernel⟩

theorem wit_FaultsAreCollected_1 : ∃ (n : Nat) (mask : Nat) (p : Nat),
    n < 64 ∧ mask < 256 ∧ p < 8 :=
  ⟨63, 128, 7, by decide +kernel⟩

theorem wit_FaultsAreCollected_2 : ∃ (n : Nat) (mask : Nat),
    n < 64 ∧ mask < 256 :=
  ⟨63, 255, by decide +kernel⟩

theorem wit_FaultsAreCollected_3 : ∃ (n : Nat) (mask : Nat) (k : Nat),
    n < 64 ∧ mask < 256 ∧ k < 64 ∧ k ≠ n :=
  ⟨62, 255, 63, by decide +kernel⟩

theorem wit_FaultsAreCollected_4 : ∃ (n : Nat) (mask : Nat) (k : Nat) (p : Nat),
    n < 64 ∧ mask < 256 ∧ k < 64 ∧ k ≠ n ∧ p < 8 :=
  ⟨62, 255, 63, 7, by decide +kernel⟩

theorem wit_FaultsAreCollected_8 : ∃ (s : State) (n : Nat) (mask : Nat) (p : Nat),
    n < 64 ∧ mask < 256 ∧ s.getB F.supCtl_COLL_PAR = false ∧ s.getB F.supReact_INT n = true ∧ p ∈ (List.filter (fun p => !s.pSticky n p && !s.pWas n p) (maskList 8 mask)) ∧ (tabGet { } s.par.msixCtl (fnOfPart p)).en = true ∧ (tabGet { } s.par.msixCtl (fnOfPart p)).fmask = false ∧ (tabGet { } s.par.msix ((fnOfPart p) * 2048 + (s.get F.parFnCfg_FAULT_VEC (fnOfPart p) % 2048))).masked = false :=
  ⟨withPar (sets (portIn 5) [(F.supReact_INT, 1, 63), (F.parFnCfg_FAULT_VEC, 2047, 8)]) { msixCtl := [(8, { en := true })], msix := [(18431, { masked := false })] }, 63, 255, 7, by beta_reduce; decide +kernel⟩

theorem wit_FaultsAreCollected_9 : ∃ (s : State) (n : Nat) (mask : Nat),
    n < 64 ∧ mask < 256 ∧ s.getB F.supCtl_COLL_PAR = false ∧ (mask ≠ 0 ∧ s.dSticky n = false ∧ s.dWas n = false) ∧ s.getB F.supReact_NMI n = true :=
  ⟨sets (portIn 5) [(F.supReact_NMI, 1, 63)], 63, 1, by decide +kernel⟩

theorem wit_FaultsAreCollected_10 : ∃ (s : State) (n : Nat) (mask : Nat),
    n < 64 ∧ mask < 256 ∧ s.getB F.supCtl_COLL_PAR = false ∧ (mask ≠ 0 ∧ s.dSticky n = false ∧ s.dWas n = false) ∧ s.getB F.supReact_SAFE n = true :=
  ⟨sets (portIn 5) [(F.supReact_SAFE, 1, 63)], 63, 1, by decide +kernel⟩

theorem wit_FaultsAreCollected_11 : ∃ (s : State) (n : Nat) (mask : Nat),
    n < 64 ∧ mask < 256 ∧ s.getB F.supCtl_COLL_PAR = false ∧ (mask ≠ 0 ∧ s.dSticky n = false ∧ s.dWas n = false) ∧ s.getB F.supReact_BLOCK_RESET n = true ∧ s.getB F.supReact_BLK_OK n = true :=
  ⟨sets (portIn 5) [(F.supReact_BLOCK_RESET, 1, 63), (F.supReact_BLK_OK, 1, 63)], 63, 255, by decide +kernel⟩

theorem wit_FaultsAreCollected_12 : ∃ (s : State) (n : Nat) (mask : Nat),
    n < 64 ∧ mask < 256 ∧ s.getB F.supCtl_COLL_PAR = false ∧ (mask ≠ 0 ∧ s.dSticky n = false ∧ s.dWas n = false) ∧ s.getB F.supReact_CHIP_RESET n = true :=
  ⟨sets (portIn 5) [(F.supReact_CHIP_RESET, 1, 63)], 63, 1, by decide +kernel⟩

theorem wit_FaultsAreCollected_13 : ∃ (s : State) (n : Nat) (mask : Nat),
    n < 64 ∧ mask < 256 ∧ s.getB F.supCtl_COLL_PAR = false ∧ (mask ≠ 0 ∧ s.dSticky n = false ∧ s.dWas n = false) ∧ s.getB F.supReact_CHIP_RESET n = true ∧ 3 ≤ s.get F.supAon_RST_CNT ∧ n ≠ 51 :=
  ⟨sets (portIn 5) [(F.supReact_CHIP_RESET, 1, 63), (F.supAon_RST_CNT, 3, 0)], 63, 1, by decide +kernel⟩

theorem wit_FaultsAreCollected_14 : ∃ (s : State) (n : Nat) (mask : Nat),
    n < 64 ∧ mask < 256 ∧ s.getB F.supCtl_COLL_PAR = true :=
  ⟨sets (portIn 5) [(F.supCtl_COLL_PAR, 1, 0)], 63, 255, by decide +kernel⟩

theorem wit_SupCommandsAndEventsComplete_1 : ∃ (s : State),
    s.sup.staged = [] :=
  ⟨portIn 5, by decide +kernel⟩

theorem wit_SupCommandsAndEventsComplete_6 : ∃ (s : State) (c : Caller) (n : Nat) (p : Nat),
    s.admitsOwner c 168 = true ∧ n < 64 ∧ p < 8 ∧ n ∉ [51, 55, 60, 61] :=
  ⟨portIn 5, .firmware, 63, 7, by decide +kernel⟩

theorem wit_SupCommandsAndEventsComplete_7 : ∃ (s : State) (sev : Nat) (data : List Byte),
    s.admits 169 = true ∧ sev ≤ 2 ∧ data.length = 12 :=
  ⟨portIn 5, 2, List.replicate 12 255, by decide +kernel⟩

theorem wit_SupCommandsAndEventsComplete_8 : ∃ (s : State),
    s.sup.blockPend = [] :=
  ⟨portIn 5, by decide +kernel⟩

theorem wit_SupCommandsAndEventsComplete_9 : ∃ (s : State) (n : Nat) (mask : Nat) (inst : Nat) (l : List (Nat × Nat × Nat)),
    s.sup.blockPend = (n, mask, inst) :: l :=
  ⟨{ portIn 5 with sup := { blockPend := [(63, 255, 255)] } }, 63, 255, 255, [], by decide +kernel⟩

theorem wit_SupCommandsAndEventsComplete_10 : ∃ (s : State),
    s.sup.chipPend = none :=
  ⟨portIn 5, by decide +kernel⟩

theorem wit_SupCommandsAndEventsComplete_11 : ∃ (s : State) (n : Nat),
    s.sup.chipPend = some (n, true) :=
  ⟨{ portIn 5 with sup := { chipPend := some (63, true) } }, 63, by decide +kernel⟩

theorem wit_SupCommandsAndEventsComplete_12 : ∃ (s : State) (n : Nat),
    n < 64 ∧ s.sup.chipPend = some (n, false) :=
  ⟨{ portIn 5 with sup := { chipPend := some (63, false) } }, 63, by decide +kernel⟩

theorem wit_RegisterReadsAnswer_22 : ∃ (s : State) (m : Master) (h : Half) (q : Nat),
    s.serves m RegId.qData q 0 = true ∧ h ≠ Half.high ∧ (s.queue q).waiters = [] :=
  ⟨withQ (busIn (portIn 5)) { words := [(7, true)] }, .fn 0, .full, 255, by decide +kernel⟩

theorem wit_RegisterReadsAnswer_23 : ∃ (s : State) (m : Master) (h : Half) (q : Nat),
    s.serves m RegId.qData q 0 = true ∧ h ≠ Half.high ∧ (s.qAssign q).qCanGet q m = true :=
  ⟨withQ (busIn (portIn 5)) { words := [(7, true)] }, .fn 0, .full, 255, by decide +kernel⟩

theorem wit_RegisterReadsAnswer_24 : ∃ (s : State) (m : Master) (h : Half) (q : Nat),
    s.serves m RegId.qData q 0 = true ∧ h ≠ Half.high ∧ (s.qAssign q).qCanGet q m = false :=
  ⟨busIn (portIn 5), .fn 0, .full, 255, by decide +kernel⟩

theorem wit_RegisterWritesTakeEffect_8 : ∃ (s : State) (m : Master) (q : Nat),
    (((s.drainDue).whoOf m).pt0 = true ∨ ((s.drainDue).whoOf m).part = (s.drainDue).get F.qCfg_PART q) ∧ ((s.drainDue).queue q).waiters = [] ∧ (s.drainDue).qCanPut q m = true ∧ ((s.drainDue).queue q).held = none :=
  ⟨sets (busIn (portIn 5)) [(F.qCfg_EN, 1, 255), (F.qCfg_DEPTH, 1, 255)], .fn 0, 255, by decide +kernel⟩

theorem wit_RegisterWritesTakeEffect_9 : ∃ (s : State) (m : Master) (q : Nat),
    (((s.drainDue).whoOf m).pt0 = true ∨ ((s.drainDue).whoOf m).part = (s.drainDue).get F.qCfg_PART q) ∧ ((s.drainDue).queue q).waiters = [] ∧ (s.drainDue).qCanPut q m = false :=
  ⟨busIn (portIn 5), .fn 0, 255, by decide +kernel⟩

theorem wit_PartitionAndHostEventsComplete_3 : ∃ (s : State),
    s.deaf = false ∧ s.par.perstLow = false :=
  ⟨busIn (portIn 5), by decide +kernel⟩

theorem wit_PartitionAndHostEventsComplete_4 : ∃ (s : State) (f : Nat),
    s.deaf = false ∧ s.par.perstLow = false ∧ 2 ≤ f ∧ f ≤ 8 ∧ tabGet none s.par.jobs (f - 1) = none ∧ s.enabled (f - 1) = true :=
  ⟨busIn (portIn 5), 8, by decide +kernel⟩

theorem wit_PartitionAndHostEventsComplete_13 : ∃ (s : State) (f : Nat) (v : Nat),
    f ≤ 8 ∧ s.par.perstLow = false ∧ s.deaf = false ∧ (tabGet { } s.par.msixCtl f).en = true ∧ v < 2048 ∧ (tabGet { } s.par.msixCtl f).fmask = false :=
  ⟨withPar (portIn 5) { msixCtl := [(8, { en := true, fmask := false })] }, 8, 2047, by decide +kernel⟩

theorem wit_PartitionAndHostEventsComplete_14 : ∃ (s : State) (f : Nat),
    f ≤ 8 ∧ s.par.perstLow = false ∧ s.deaf = false ∧ (tabGet { } s.par.msixCtl f).en = true :=
  ⟨withPar (portIn 5) { msixCtl := [(8, { en := true, fmask := false })] }, 8, by decide +kernel⟩

theorem wit_PartitionAndHostEventsComplete_15 : ∃ (s : State) (f : Nat) (addr : Nat),
    f ≤ 8 ∧ s.par.perstLow = false ∧ s.deaf = false ∧ s.fnReaches f addr = false :=
  ⟨portIn 5, 8, 0, by decide +kernel⟩

theorem wit_SupCommandsAndEventsComplete_2 : ∃ (s : State),
    s.sup.wrote = true :=
  ⟨{ portIn 5 with sup := { wrote := true } }, by decide +kernel⟩

theorem wit_SupCommandsAndEventsComplete_3 : ∃ (s : State),
    s.sup.staged ≠ [] ∧ s.sup.wrote = false :=
  ⟨{ portIn 5 with sup := { staged := [{ stamp := 0, bound := 0, src := 0, code := 0, part := 0, sev := 0, data := [] }] } }, by decide +kernel⟩

theorem wit_SupCommandsAndEventsComplete_4 : ∃ (s : State),
    s.getB F.supCtl_HB_EN = true ∧ s.sup.hbCyc + s.get F.supCtl_HB_MS * 1250000 ≤ s.tse.cyc :=
  ⟨atCyc (sets (portIn 5) [(F.supCtl_HB_EN, 1, 0)]) (2 ^ 60), by decide +kernel⟩

theorem wit_SupCommandsAndEventsComplete_5 : ∃ (s : State),
    (s.getB F.supCtl_HB_EN = false ∨ s.tse.cyc < s.sup.hbCyc + s.get F.supCtl_HB_MS * 1250000) :=
  ⟨portIn 5, by decide +kernel⟩

/-! ### Witnesses: boot, firmware, clocks and power -/

theorem wit_BootAndFirmwareCommandsComplete_1 : ∃ (s : State) (c : Nat),
    c < 256 ∧ s.cpx.warmPend = some c :=
  ⟨{ portIn 5 with cpx := { (portIn 5).cpx with warmPend := some 255 } }, 255, by decide +kernel⟩

theorem wit_BootAndFirmwareCommandsComplete_2 : ∃ (s : State),
    s.cpx.warmPend = none :=
  ⟨portIn 5, by decide +kernel⟩

theorem wit_BootAndFirmwareCommandsComplete_5 : ∃ (s : State),
    (s.cpx.inReset = false ∨ s.pwr.irc.proven = false) :=
  ⟨portIn 5, by decide +kernel⟩

theorem wit_BootAndFirmwareCommandsComplete_6 : ∃ (s : State),
    s.mode = Mode.boot ∧ s.synState 0 = 4 :=
  ⟨inMode (sets (portIn 5) [(F.synStat_STATE, 4, 0)]) .boot, by decide +kernel⟩

theorem wit_BootAndFirmwareCommandsComplete_7 : ∃ (s : State),
    (s.mode ≠ Mode.boot ∨ s.synState 0 ≠ 4) :=
  ⟨portIn 5, by decide +kernel⟩

theorem wit_BootAndFirmwareCommandsComplete_8 : ∃ (s : State) (c : Caller),
    s.admitsOwner c 176 = true :=
  ⟨portIn 5, .firmware, by decide +kernel⟩

theorem wit_BootAndFirmwareCommandsComplete_9 : ∃ (s : State) (c : Caller),
    s.admitsOwner c 177 = true :=
  ⟨portIn 5, .firmware, by decide +kernel⟩

theorem wit_BootAndFirmwareCommandsComplete_10 : ∃ (s : State) (c : Caller),
    s.admitsOwner c 178 = true :=
  ⟨inMode (portIn 5) .service, .firmware, by decide +kernel⟩

theorem wit_BootAndFirmwareCommandsComplete_11 : ∃ (s : State) (c : Caller),
    s.admitsOwner c 179 = true ∧ s.safeHold = false ∧ s.getB F.supCtl_COLL_PAR = false ∧ s.getB F.supAon_ESCALATED = false :=
  ⟨inMode (portIn 5) .safe, .firmware, by decide +kernel⟩

theorem wit_BootAndFirmwareCommandsComplete_12 : ∃ (s : State) (c : Caller),
    s.admitsOwner c 179 = true ∧ (s.safeHold = true ∨ s.getB F.supCtl_COLL_PAR = true ∨ s.getB F.supAon_ESCALATED = true) :=
  ⟨inMode (sets (portIn 5) [(F.supAon_ESCALATED, 1, 0)]) .safe, .firmware, by decide +kernel⟩

theorem wit_BootAndFirmwareCommandsComplete_13 : ∃ (s : State) (c : Caller) (len : Nat),
    s.cpx.owner.lock = false ∧ s.kvc.vbatLow = false ∧ s.mustHandOver = false ∧ len ≤ 16777216 ∧ s.admitsOwner c 180 = true ∧ s.unconfirmed = false :=
  ⟨portIn 5, .firmware, 16777216, by decide +kernel⟩

theorem wit_BootAndFirmwareCommandsComplete_17 : ∃ (s : State) (c : Caller),
    s.cpx.owner.lock = false ∧ s.kvc.vbatLow = false ∧ s.mustHandOver = false ∧ s.admitsOwner c 182 = true ∧ (s.get F.cpxUpd_STATE = 1 ∨ s.get F.cpxUpd_STATE = 2) ∧ s.imgVerifies (s.slotImg (s.other)) = false :=
  ⟨sets (portIn 5) [(F.cpxUpd_STATE, 2, 0)], .firmware, by decide +kernel⟩

theorem wit_BootAndFirmwareCommandsComplete_18 : ∃ (s : State) (c : Caller),
    s.cpx.owner.lock = false ∧ s.kvc.vbatLow = false ∧ s.mustHandOver = false ∧ s.admitsOwner c 183 = true ∧ s.get F.cpxUpd_STATE = 2 :=
  ⟨sets (portIn 5) [(F.cpxUpd_STATE, 2, 0)], .firmware, by decide +kernel⟩

theorem wit_BootAndFirmwareCommandsComplete_19 : ∃ (s : State) (c : Caller) (force : Bool),
    s.admitsOwner c 184 = true ∧ s.unconfirmed = true ∧ (force = true ∨ s.cpx.proved = true) :=
  ⟨sets (portIn 5) [(F.cpxBoot_FALLBACK, 1, 0)], .firmware, true, by decide +kernel⟩

theorem wit_BootAndFirmwareCommandsComplete_20 : ∃ (s : State) (nonce : List Byte),
    s.admits 185 = true ∧ nonce.length = 32 ∧ s.quoteBusy = false ∧ s.keysHeld = true ∧ s.rngOk = true :=
  ⟨portIn 5, List.replicate 32 0, by decide +kernel⟩

theorem wit_BootAndFirmwareCommandsComplete_21 : ∃ (s : State) (nonce : List Byte) (k : Nat),
    s.admits 185 = true ∧ nonce.length = 32 ∧ k < 16 ∧ k ≠ s.hIndex ∧ s.isMember = true ∧ s.getB F.nodeStat_VALID k = true ∧ s.hrl.own.length < 64 ∧ (∀ q ∈ s.cpx.quotes, q.2.1 ≠ k) :=
  ⟨sets (ringIn 3 0 14 {}) [], List.replicate 32 0, 15, by decide +kernel⟩

theorem wit_BootAndFirmwareCommandsComplete_24 : ∃ (s : State),
    s.cpx.quotes = [] :=
  ⟨portIn 5, by decide +kernel⟩

theorem wit_BootAndFirmwareCommandsComplete_25 : ∃ (s : State),
    s.admits 186 = true :=
  ⟨portIn 5, by decide +kernel⟩

theorem wit_BootAndFirmwareCommandsComplete_26 : ∃ (s : State) (c : Caller) (data : List Byte),
    s.admitsOwner c 187 = true ∧ data.length = 48 :=
  ⟨portIn 5, .firmware, List.replicate 48 255, by decide +kernel⟩

theorem wit_BootAndFirmwareCommandsComplete_28 : ∃ (s : State) (c : Caller),
    s.admitsOwner c 189 = true :=
  ⟨portIn 5, .firmware, by decide +kernel⟩

theorem wit_BootAndFirmwareCommandsComplete_30 : ∃ (s : State) (c : Caller) (token : List Byte),
    s.admitsOwner c 189 = true ∧ s.tokenOk token 2 (s.cpx.owner).key = false :=
  ⟨portIn 5, .firmware, [], by decide +kernel⟩

theorem wit_BootAndFirmwareCommandsComplete_32 : ∃ (s : State) (c : Caller) (part : Nat) (key : Nat),
    s.admitsOwner c 191 = true ∧ (s.cpx.owner).lock = false ∧ 1 ≤ part ∧ part < 8 ∧ key < 2 ^ 768 ∧ (∀ x ∈ s.dsq.images, x.part ≠ part) :=
  ⟨portIn 5, .firmware, 7, 2 ^ 768 - 1, by decide +kernel⟩

theorem wit_ClockAndPowerEventsComplete_7 : ∃ (s : State) (k : Nat),
    k < 3 ∧ (s.osc k).proven = true :=
  ⟨{ portIn 5 with pwr := { aoi := { run := true, proven := true } } }, 1, by decide +kernel⟩

theorem wit_ClockAndPowerEventsComplete_8 : ∃ (s : State) (k : Nat),
    k < 3 ∧ (s.osc k).proven = false :=
  ⟨portIn 5, 2, by decide +kernel⟩

theorem wit_ClockAndPowerEventsComplete_9 : ∃ (k : Nat),
    k < 3 :=
  ⟨2, by decide +kernel⟩

theorem wit_ClockAndPowerEventsComplete_10 : ∃ (k : Nat),
    k < 3 ∧ k = 0 :=
  ⟨0, by decide +kernel⟩

theorem wit_ClockAndPowerEventsComplete_11 : ∃ (s : State) (k : Nat),
    k < 3 ∧ k = 0 ∧ s.getB F.pwrClkStat_REF_SYS = false :=
  ⟨portIn 5, 0, by decide +kernel⟩

theorem wit_ClockAndPowerEventsComplete_12 : ∃ (k : Nat),
    k < 3 ∧ k = 2 :=
  ⟨2, by decide +kernel⟩

theorem wit_ClockAndPowerEventsComplete_14 : ∃ (s : State),
    s.getB F.pwrClkCfg_RETURN_AUTO = true ∧ s.getB F.pwrClkStat_REF_SYS = true ∧ s.pwr.sysxo.proven = true :=
  ⟨{ sets (portIn 5) [(F.pwrClkCfg_RETURN_AUTO, 1, 0), (F.pwrClkStat_REF_SYS, 1, 0)] with pwr := { sysxo := { run := true, proven := true } } }, by decide +kernel⟩

theorem wit_ClockAndPowerEventsComplete_15 : ∃ (s : State) (src : ClkSrc),
    s.pwr.core.goal = some src :=
  ⟨{ portIn 5 with pwr := { core := { goal := some .irc } } }, .irc, by decide +kernel⟩

theorem wit_ClockAndPowerEventsComplete_16 : ∃ (s : State) (src : ClkSrc),
    s.pwr.sup.goal = some src :=
  ⟨{ portIn 5 with pwr := { sup := { goal := some .irc } } }, .irc, by decide +kernel⟩

theorem wit_ClockAndPowerEventsComplete_17 : ∃ (s : State) (src : ClkSrc),
    s.pwr.ddr.goal = some src :=
  ⟨{ portIn 5 with pwr := { ddr := { goal := some .irc } } }, .irc, by decide +kernel⟩

theorem wit_ClockAndPowerEventsComplete_18 : ∃ (s : State),
    s.pwr.irc.proven = true :=
  ⟨{ portIn 5 with pwr := { irc := { proven := true } } }, by decide +kernel⟩

theorem wit_ClockAndPowerEventsComplete_19 : ∃ (s : State),
    s.pwr.irc.proven = false ∧ s.cpx.inReset = true :=
  ⟨.reset, by decide +kernel⟩

theorem wit_ClockAndPowerEventsComplete_20 : ∃ (s : State),
    s.pwr.irc.proven = false ∧ s.cpx.inReset = false ∧ s.pwr.ircWait = true :=
  ⟨{ portIn 5 with pwr := { irc := {}, ircWait := true } }, by decide +kernel⟩

theorem wit_ClockAndPowerEventsComplete_21 : ∃ (s : State),
    s.cpx.inReset = true ∧ s.pwr.irc.proven = false :=
  ⟨.reset, by decide +kernel⟩

theorem wit_ClockAndPowerEventsComplete_22 : ∃ (s : State),
    s.mode = Mode.boot ∧ s.pwr.sysxo.proven = false :=
  ⟨inMode (portIn 5) .boot, by decide +kernel⟩

theorem wit_ClockAndPowerEventsComplete_23 : ∃ (s : State) (count : Nat),
    count < 2 ^ 15 + 1000000 ∧ s.getB F.pwrIrc_TRIM_HOLD = false ∧ s.pwr.irc.run = true :=
  ⟨{ portIn 5 with pwr := { irc := { run := true } } }, 2 ^ 15 + 999999, by decide +kernel⟩

theorem wit_ClockAndPowerEventsComplete_24 : ∃ (s : State) (count : Nat),
    count < 2 ^ 64 ∧ s.get F.pwrFmcCtl_STATE = 1 :=
  ⟨sets (portIn 5) [(F.pwrFmcCtl_STATE, 1, 0)], 2 ^ 64 - 1, by decide +kernel⟩

theorem wit_ClockAndPowerEventsComplete_25 : ∃ (s : State),
    (s.pwr.dvfs = DvfsStep.upVout ∨ s.pwr.dvfs = DvfsStep.downVout) :=
  ⟨{ portIn 5 with pwr := { dvfs := .downVout } }, by decide +kernel⟩

theorem wit_ClockAndPowerEventsComplete_29 : ∃ (s : State),
    (s.pwr.dvfs = DvfsStep.upSettle ∨ s.pwr.dvfs = DvfsStep.downSettle) :=
  ⟨{ portIn 5 with pwr := { dvfs := .downSettle } }, by decide +kernel⟩

theorem wit_ClockAndPowerEventsComplete_30 : ∃ (s : State),
    s.pwr.dvfs ≠ DvfsStep.none :=
  ⟨{ portIn 5 with pwr := { dvfs := .downSettle } }, by decide +kernel⟩

theorem wit_ClockAndPowerEventsComplete_31 : ∃ (s : State),
    s.pwr.dvfs = DvfsStep.none :=
  ⟨portIn 5, by decide +kernel⟩

theorem wit_ClockAndPowerEventsComplete_32 : ∃ (l : List Int) (k : Nat),
    l.length = 8 ∧ (∀ x ∈ l, -2 ^ 15 ≤ x ∧ x < 2 ^ 15) ∧ k < 8 ∧ (∀ j < 8, l.getD j 0 ≤ l.getD k 0) ∧ (∀ j < k, l.getD j 0 < l.getD k 0) :=
  ⟨[0, 1, 2, 3, 2 ^ 15 - 1, -2 ^ 15, 5, 2 ^ 15 - 1], 4, by decide +kernel⟩

theorem wit_ClockAndPowerEventsComplete_33 : ∃ (s : State) (d : List Nat),
    d.length = 17 ∧ s.pwr.hours < 2 ^ 32 :=
  ⟨portIn 5, List.replicate 17 0, by decide +kernel⟩

theorem wit_ClockAndPowerEventsComplete_34 : ∃ (s : State),
    s.pwr.hourN ≠ 0 :=
  ⟨{ portIn 5 with pwr := { hourN := 1 } }, by decide +kernel⟩

theorem wit_BootAndFirmwareCommandsComplete_14 : ∃ (s : State) (c : Caller) (offset : Nat) (data : List Byte),
    s.cpx.owner.lock = false ∧ s.kvc.vbatLow = false ∧ s.mustHandOver = false ∧ s.admitsOwner c 181 = true ∧ s.inlineEntry c = false ∧ s.get F.cpxUpd_STATE = 1 ∧ offset = s.get F.cpxUpd_WRITTEN ∧ data.length ≤ 4194304 ∧ offset + data.length ≤ s.cpx.updLen ∧ s.cpx.updLen < 2 ^ 32 :=
  ⟨{ sets (portIn 5) [(F.cpxUpd_STATE, 1, 0), (F.cpxUpd_WRITTEN, 3, 0)] with cpx := { (portIn 5).cpx with updLen := 8 } }, .firmware, 3, [1, 2, 3, 4, 5], by decide +kernel⟩

theorem wit_BootAndFirmwareCommandsComplete_15 : ∃ (s : State) (c : Caller),
    s.cpx.owner.lock = false ∧ s.kvc.vbatLow = false ∧ s.mustHandOver = false ∧ s.admitsOwner c 181 = true ∧ s.inlineEntry c = true :=
  ⟨withPar (portIn 5) { cur := [(0, some { cmdId := 1, opcode := 0xb5, indirect := false, bufLen := 0, buf := 0, sqIndex := 0, hash := 0 })] }, .host 0 0, by decide +kernel⟩

theorem wit_BootAndFirmwareCommandsComplete_22 : ∃ (s : State) (q : Caller × Nat × List Byte × Nat) (l : List (Caller × Nat × List Byte × Nat)),
    s.cpx.quotes = q :: l ∧ q.2.2.2 + 62500000 ≤ s.tse.cyc :=
  ⟨atCyc { portIn 5 with cpx := { (portIn 5).cpx with quotes := [(.firmware, 3, [], 0)] } } 62500000, (.firmware, 3, [], 0), [], by decide +kernel⟩

theorem wit_BootAndFirmwareCommandsComplete_23 : ∃ (s : State) (q : Caller × Nat × List Byte × Nat) (l : List (Caller × Nat × List Byte × Nat)),
    s.cpx.quotes = q :: l ∧ s.tse.cyc < q.2.2.2 + 62500000 :=
  ⟨{ portIn 5 with cpx := { (portIn 5).cpx with quotes := [(.firmware, 3, [], 0)] } }, (.firmware, 3, [], 0), [], by decide +kernel⟩

/-! ### Witnesses with fractions -/

/-- The compliance monitor: no headroom limits the code, ample headroom does not; an ADPLL's count passes at the edge of 800 ppm and
fails beyond it. -/
theorem wit_AoiRowsComplete_limits :
    let s := sets (rshIn .track 2) [(F.aoiCfdCtl_CFD_EN, 1, 0), (F.aoiCfdCtl_CODE_CMD, 1, 0)]
    s.aoiOn = true ∧ s.getB F.aoiCfdCtl_CFD_EN = true ∧ (0 : Rat) < 1000 * 1000 / 1000 ∧
      0 - s.get F.aoiCfdLim_HR_MV < s.get F.aoiCfdCtl_CODE_CMD ∧ s.getB F.aoiCfdStat_CFD_SAT = false ∧
      s.get F.aoiCfdCtl_CODE_CMD ≤ 2000 - s.get F.aoiCfdLim_HR_MV := by decide +kernel

theorem wit_RetuneRowsComplete_pass : ((synIn 1 (hz 1250000000) { bit := 8, mem := some 15 }).adpll 7).mem = some 15 ∧
    ((synIn 1 (hz 1250000000) { bit := 8, mem := some 15 }).adpll 7).bit = 8 ∧
    (synIn 1 (hz 1250000000) { bit := 8, mem := some 15 }).synState 7 = 1 ∧
    (20016 * 62500 - (1250000000 : Rat)) ≤ 1250000000 * 800 / 10 ^ 6 := by decide +kernel

theorem wit_RetuneRowsComplete_fail : ((synIn 2 (hz 1250000000) { bit := 8 }).adpll 7).bit = 8 ∧
    (synIn 2 (hz 1250000000) { bit := 8 }).synState 7 = 2 ∧ (1250000000 : Rat) * 800 / 10 ^ 6 < 20017 * 62500 - 1250000000 ∧
    (1150000000 : Rat) ≤ (synIn 2 (hz 1250000000) { bit := 8 }).synTarget 7 / 2 ^ 24 := by decide +kernel

/-- The rate of D0 leaves the scale of an output's edge positive. -/
theorem wit_EvoEdgesArePlaced_rate : 0 < 2 ^ 56 + evoIn.domRate 0 := by decide +kernel

theorem wit_RetuneRowsComplete_search : ((synIn 2 (hz 1250000000) { bit := 8 }).adpll 7).bit = 8 ∧
    (synIn 2 (hz 1250000000) { bit := 8 }).synState 7 = 2 ∧ 20016 * 62500 - (1250000000 : Rat) ≤ 1250000000 * 800 / 10 ^ 6 ∧
    (1150000000 : Rat) ≤ (synIn 2 (hz 1250000000) { bit := 8 }).synTarget 7 / 2 ^ 24 ∧
    ((synIn 2 (hz 1250000000) { bit := 8 }).synTarget 7 : Rat) / 2 ^ 24 ≤ 1600000000 := by decide +kernel

/-- The last word of an image, with nothing behind it. -/
theorem wit_ExceptionsAreRecorded_end : (thrEnd.thrState 127 = 1 ∧ thrEnd.fetchEcc 127 8 = 0) ∧
    ∀ i, thrEnd.imageAt 0 (thrEnd.pc 127) = some i → i.codeBase + i.codeLen ≤ thrEnd.pc 127 + 4 := by
  refine ⟨by decide +kernel, fun i h => ?_⟩
  have e : thrEnd.imageAt 0 (thrEnd.pc 127) =
      some ⟨0, false, 256, 8, 0x2400000, 4096, 1, [], false⟩ := by decide +kernel
  rw [e] at h
  cases h
  decide +kernel

/-! ### Witnesses that rest on ciphers -/

/-- A cookie that the vault's slot 255 opens: its nonce is zero, it was issued at D0's second 0. -/
def cookiePlain : List Byte := [0, 15, 0, 0, 0, 0, 0, 0] ++ List.replicate 64 7
def cookie255 : List Byte := [255, 0, 0, 0] ++ List.replicate 16 0 ++ sivSeal (List.replicate 32 9) [List.replicate 16 0] cookiePlain

/-- An NTS request with a cookie. -/
def ntsReq (c : List Byte) : List Byte :=
  0x23 :: List.replicate 47 0 ++ extField efUid (List.replicate 32 1) ++ extField efCookie c ++ extField efAuth (List.replicate 24 0)

/-- Exchange context 7 in KEY with an NTS request and slot 255 pinned, its key resident. -/
def ntsIn (c : List Byte) : State :=
  let s := sets (portIn 3) [(F.svcCfg_NTS, 1, 63), (F.svcNtp_COOKIE_LIFE, 5, 63)]
  { xcIn s { xcOf .key .ntp (ntpFrame (ntsReq c)) with pin := some (255, 0) } with
    kvc := { slots := [(255, { cur := some { key := List.replicate 32 9, pos := 0 } })] } }

set_option maxRecDepth 8000 in
/-- An NTS request whose cookie opens, and one whose cookie does not. -/
theorem wit_ExchangesMoveThroughTheirStages_7 :
    (ntsIn cookie255).keyResident 255 0 = true ∧
      (ntsIn cookie255).isNts 63 (readPkt (ntpFrame (ntsReq cookie255))).payload = true ∧
      ntsForm (readPkt (ntpFrame (ntsReq cookie255))).payload = some (List.replicate 32 1, cookie255, 0, List.replicate 24 0) ∧
      (ntsIn cookie255).openCookie 63 255 0 cookie255 = some (List.replicate 32 7, List.replicate 32 7) := by
  refine ⟨by decide +kernel, by decide +kernel, by rfl, ?_⟩
  have h : cookie255.drop 20 = sivSeal (List.replicate 32 9) [List.replicate 16 0] cookiePlain := rfl
  have k : (ntsIn cookie255).keyBytes 255 0 = List.replicate 32 9 := by decide +kernel
  have a : (cookie255.drop 4).take 16 = List.replicate 16 0 := rfl
  rw [State.openCookie, h, k, a, sivOpen_sivSeal]
  decide +kernel

theorem wit_ExchangesMoveThroughTheirStages_8 :
    (ntsIn [255, 0, 0, 0]).isNts 63 (readPkt (ntpFrame (ntsReq (List.replicate 12 255)))).payload = true ∧
      ntsForm (readPkt (ntpFrame (ntsReq (List.replicate 12 255)))).payload =
        some (List.replicate 32 1, List.replicate 12 255, 0, List.replicate 24 0) ∧
      (ntsIn (List.replicate 12 255)).openCookie 63 255 0 (List.replicate 12 255) = none := by
  refine ⟨by decide +kernel, by decide +kernel, ?_⟩
  have h : ¬ 16 ≤ ((List.replicate 12 (255 : Byte)).drop 20).length := by decide
  simp only [State.openCookie, sivOpen, h, false_and, if_false]

/-- A page with a right tag, and one with a wrong tag. -/
theorem wit_LedgerPagesAreSealed_4 (tag : BitVec 128) :
    pageForm (pageHead ++ beBytes 16 tag.toNat) = true ∧ ((pageHead ++ beBytes 16 tag.toNat).drop 8).take 8 = deviceId ∧
      (pairIn 5).keysHeld = true ∧ (pairIn 5).admits 0xda = true ∧ nb (pageHead ++ beBytes 16 tag.toNat) 2 = 0 ∧
      (pageHead ++ beBytes 16 tag.toNat).take 144 = pageHead ∧ nn (pageHead ++ beBytes 16 tag.toNat) 144 16 = tag.toNat := by
  have hl : pageHead.length = 144 := rfl
  refine ⟨rfl, rfl, by decide +kernel, by decide +kernel, rfl, List.take_left' hl, ?_⟩
  unfold nn
  rw [List.drop_left' hl, List.take_of_length_le (by rw [length_beBytes]), beNat_beBytes]
  exact Nat.mod_eq_of_lt tag.isLt

/-! ### Witnesses with keys and signatures: what holds whatever the algorithms answer -/

/-- The blob of a key passes the checks of a load into an ACTIVE slot of its type, of a higher generation. -/
theorem wit_KeyCommandsComplete_load :
    let s := vaultIn 6 1 { cur := some (matOf true) }
    let b := blob255 s (2 ^ 32 - 1)
    (255 < 256 ∧ s.resetting (s.vsPart 255) = false ∧ s.admits 130 = true ∧ s.cPart .firmware = s.vsPart 255 ∧
      s.getB F.kvcBlobBase_EN = true ∧ s.get F.vsCfg_STATE 255 < 2 ∧ s.getB F.vsCfg_BUSYOP 255 = false ∧
      s.get F.vsGen_PREV_GEN 255 = 0 ∧ s.kvcOk = true) ∧
    firstFail (s.loadChecks 255 b (kcvOf 6 (List.replicate 32 7))) = none := by
  refine ⟨by decide +kernel, ?_⟩
  obtain ⟨h1, -, h2, -, -, h3⟩ := blobOf_passes (vaultIn 6 1 { cur := some (matOf true) }) (p := 0) (ty := 6) (attr := 8)
    (gen := 2 ^ 32 - 1) (iv := 5) (key := List.replicate 32 7) (by decide) (by decide) (by decide) (by decide) (by decide) .badArg
  rw [loadChecks_of _ (by rw [blob255, h2]; decide +kernel) (fun _ => by rw [blob255, h1]; decide +kernel),
    show (vaultIn 6 1 { cur := some (matOf true) }).vsPart 255 = 0 by decide +kernel]
  exact h3

/-- The blob that comes back for a generation that has left the cache passes, with its KCV in VSs_KCV. -/
theorem wit_VaultEventsComplete_miss :
    let s := (vaultIn 6 1 { cur := some (matOf false) }).put F.vsKcv_CUR_KCV (kcvOf 6 (List.replicate 32 7)) 255
    (s.keyMat 255 1 = some (matOf false) ∧ (matOf false).resident = false ∧ s.get F.vsCfg_STATE 255 = 1 ∧
      s.cacheUsed + keyEntries (s.get F.vsCfg_TYPE 255) ≤ 4096 ∧ s.get F.vsGen_CUR_GEN 255 = 1) ∧
    firstFail (s.blobChecks (s.vsPart 255) (blob255 s 1) (nn (blob255 s 1) 4 4 != 1, .verifyFail) (s.keyKcv 255 1)) = none := by
  have hk := (kcvOf_lt 6 (List.replicate 32 7))
  have hp : ∀ k, k < 2 ^ 24 → ((vaultIn 6 1 { cur := some (matOf false) }).put F.vsKcv_CUR_KCV k 255).get F.vsKcv_CUR_KCV 255 = k :=
    fun k h => by rw [State.get_put_same _ _ _ _ _ (by decide) (by decide)]; exact Nat.mod_eq_of_lt h
  have he : ∀ k (f : Field), regAddr f.reg 255 0 ≠ regAddr F.vsKcv_CUR_KCV.reg 255 0 →
      ((vaultIn 6 1 { cur := some (matOf false) }).put F.vsKcv_CUR_KCV k 255).get f 255 =
        (vaultIn 6 1 { cur := some (matOf false) }).get f 255 :=
    fun k f h => State.get_put_ne _ _ _ _ _ _ _ _ h
  have hg := he (kcvOf 6 (List.replicate 32 7)) F.vsGen_CUR_GEN (by decide)
  have ht := he (kcvOf 6 (List.replicate 32 7)) F.vsCfg_TYPE (by decide)
  have hx := he (kcvOf 6 (List.replicate 32 7)) F.vsCfg_STATE (by decide)
  have hq := he (kcvOf 6 (List.replicate 32 7)) F.vsCfg_PART (by decide)
  have hp' := hp _ hk
  generalize hs : (vaultIn 6 1 { cur := some (matOf false) }).put F.vsKcv_CUR_KCV (kcvOf 6 (List.replicate 32 7)) 255 = s at *
  have hc : s.kvc = (vaultIn 6 1 { cur := some (matOf false) }).kvc := by rw [← hs]; rfl
  have hg1 : s.get F.vsGen_CUR_GEN 255 = 1 := hg.trans (by decide +kernel)
  have ht1 : s.get F.vsCfg_TYPE 255 = 6 := ht.trans (by decide +kernel)
  obtain ⟨-, -, h2, -, -, h3⟩ := blobOf_passes s (p := 0) (ty := 6) (attr := 8) (gen := 1) (iv := 5)
    (key := List.replicate 32 7) (by decide) (by decide) (by decide) (by decide) (by rw [hc]; decide) .verifyFail
  refine ⟨⟨?_, rfl, hx.trans (by decide +kernel), ?_, hg1⟩, ?_⟩
  · unfold State.keyMat State.vslot; rw [if_pos hg1, hc]; rfl
  · rw [ht1]; unfold State.cacheUsed State.derivedEntries; rw [hc]
    exact (by decide : 146 + (0 + 0 + 0) + 1 ≤ 4096)
  · rw [State.keyKcv, if_pos hg1, hp', State.vsPart, hq.trans (show _ = 0 by decide +kernel), blob255, h2]
    exact h3

/-- A token for this device under a key, of a type, with a signature. -/
def tokenFor (s : State) (type arg sig : Nat) : List Byte :=
  beBytes 4 0x54444e54 ++ [byte type] ++ List.replicate 3 0 ++ beBytes 8 (Config.fuseNodeId % 2 ^ 64) ++
    beBytes 8 (s.rd .kvcNonce).toNat ++ beBytes 4 (s.cpx.owner.seq + 1) ++ beBytes 4 0 ++ beBytes 96 arg ++ beBytes 96 sig

/-- Where its signature verifies under the key, that token is accepted. -/
theorem token_passes (s : State) {type arg sig key : Nat} (ht : type < 256) (hs : sig < 2 ^ 768) (hk : key ≠ 0)
    (hq : s.cpx.owner.seq + 1 < 2 ^ 32)
    (hv : Config.ecdsaVerify key (Config.sha384 ((tokenFor s type arg sig).take 128)) sig = true) :
    s.tokenOk (tokenFor s type arg sig) type key = true := by
  generalize hN : beBytes 8 (Config.fuseNodeId % 2 ^ 64) = N
  generalize hC : beBytes 8 (s.rd .kvcNonce).toNat = C
  generalize hQ : beBytes 4 (s.cpx.owner.seq + 1) = Q
  generalize hA : beBytes 96 arg = A
  generalize hS : beBytes 96 sig = S
  have lN : N.length = 8 := by rw [← hN, length_beBytes]
  have lC : C.length = 8 := by rw [← hC, length_beBytes]
  have lQ : Q.length = 4 := by rw [← hQ, length_beBytes]
  have lA : A.length = 96 := by rw [← hA, length_beBytes]
  have lS : S.length = 96 := by rw [← hS, length_beBytes]
  let M : List Byte := beBytes 4 0x54444e54
  let Z : List Byte := List.replicate 3 0
  have e : tokenFor s type arg sig = M ++ [byte type] ++ Z ++ N ++ C ++ Q ++ beBytes 4 0 ++ A ++ S := by
    simp only [tokenFor, hN, hC, hQ, hA, hS, M, Z]
  have p0 : nn (tokenFor s type arg sig) 0 4 = 0x54444e54 := by
    rw [nn, e, show M ++ [byte type] ++ Z ++ N ++ C ++ Q ++ beBytes 4 0 ++ A ++ S =
      [] ++ M ++ ([byte type] ++ Z ++ N ++ C ++ Q ++ beBytes 4 0 ++ A ++ S) by simp,
      take_drop_mid (a := []) (n := 0) (show ([] : List Byte).length = 0 from rfl) (length_beBytes _ _)]
    decide
  have p4 : nb (tokenFor s type arg sig) 4 = type := by
    rw [nb, e, show M ++ [byte type] ++ Z ++ N ++ C ++ Q ++ beBytes 4 0 ++ A ++ S =
      M ++ [byte type] ++ (Z ++ N ++ C ++ Q ++ beBytes 4 0 ++ A ++ S) by simp, getD_mid (length_beBytes _ _), byte_toNat ht]
  have p8 : nn (tokenFor s type arg sig) 8 8 = Config.fuseNodeId % 2 ^ 64 := by
    rw [nn, e, show M ++ [byte type] ++ Z ++ N ++ C ++ Q ++ beBytes 4 0 ++ A ++ S =
      (M ++ [byte type] ++ Z) ++ N ++ (C ++ Q ++ beBytes 4 0 ++ A ++ S) by simp, take_drop_mid (by simp [M, Z, length_beBytes]) lN, ← hN,
      beNat_beBytes_lt (Nat.lt_of_lt_of_le (Nat.mod_lt _ (by decide)) (by decide))]
  have p16 : nn (tokenFor s type arg sig) 16 8 = (s.rd .kvcNonce).toNat := by
    rw [nn, e, show M ++ [byte type] ++ Z ++ N ++ C ++ Q ++ beBytes 4 0 ++ A ++ S =
      (M ++ [byte type] ++ Z ++ N) ++ C ++ (Q ++ beBytes 4 0 ++ A ++ S) by simp, take_drop_mid (by simp [M, Z, length_beBytes, lN]) lC,
      ← hC, beNat_beBytes_lt (Nat.lt_of_lt_of_le (BitVec.isLt _) (by decide))]
  have p24 : nn (tokenFor s type arg sig) 24 4 = s.cpx.owner.seq + 1 := by
    rw [nn, e, show M ++ [byte type] ++ Z ++ N ++ C ++ Q ++ beBytes 4 0 ++ A ++ S =
      (M ++ [byte type] ++ Z ++ N ++ C) ++ Q ++ (beBytes 4 0 ++ A ++ S) by simp,
      take_drop_mid (by simp [M, Z, length_beBytes, lN, lC]) lQ, ← hQ, beNat_beBytes_lt (by omega)]
  have p128 : nn (tokenFor s type arg sig) 128 96 = sig := by
    rw [nn, e, show M ++ [byte type] ++ Z ++ N ++ C ++ Q ++ beBytes 4 0 ++ A ++ S =
      (M ++ [byte type] ++ Z ++ N ++ C ++ Q ++ beBytes 4 0 ++ A) ++ S ++ [] by simp,
      take_drop_mid (by simp [M, Z, length_beBytes, lN, lC, lQ, lA]) lS, ← hS, beNat_beBytes_lt (Nat.lt_of_lt_of_le hs (by rw [show (256 : Nat) = 2 ^ 8 from rfl, ← Nat.pow_mul]))]
  have pl : (tokenFor s type arg sig).length = 224 := by rw [e]; simp [M, Z, length_beBytes, lN, lC, lQ, lA, lS]
  unfold State.tokenOk
  rw [pl, p0, p4, p8, p16, p24, p128, hv]
  simp [hk]

/-- An owner with key 7 is set. -/
def ownedIn (m : Mode) : State := { portIn 5 with cpx := { (portIn 5).cpx with mode := m, owner := { set := true, key := 7 } } }

/-- Whatever signature verifies, VAULT_PROVISION has a token that meets its conditions. -/
theorem wit_KeyCommandsComplete_provision (sig : Nat) (hs : sig < 2 ^ 768)
    (hv : Config.ecdsaVerify 7 (Config.sha384 ((tokenFor (ownedIn .sealed) 4 0 sig).take 128)) sig = true) :
    ((ownedIn .sealed).admitsOwner .firmware 138 = true ∧ (ownedIn .sealed).kvc.tripped = 0 ∧ (ownedIn .sealed).rngOk = true ∧ (ownedIn .sealed).kvc.vbatLow = false) ∧
      (ownedIn .sealed).tokenOk (tokenFor (ownedIn .sealed) 4 0 sig) 4 (if (ownedIn .sealed).cpx.owner.set = true then (ownedIn .sealed).cpx.owner.key else Config.provKey) =
        true :=
  ⟨by decide +kernel, token_passes _ (by decide) hs (by decide) (by decide) hv⟩
/-! ### Witnesses with the device's own node ID -/

/-- A roster of GM-less nodes that takes this node as index 15 from a turn on. -/
def rosterOf (from' : Nat) : List Byte :=
  [1, 14, 0, 0, 255, 255, 0, 0] ++ beBytes 4 from' ++ beBytes 4 0 ++ beBytes 8 ownId ++ [15, 0, 0, 0, 0, 0, 0, 0]

theorem rosterOf_entries (from' : Nat) : rosterEntries (rosterOf from') = [(ownId, 15, false, false, 0)] := by
  have h : fnum (rosterOf from') 16 8 = ownId := by
    rw [fnum, rosterOf, take_drop_mid (by simp [length_beBytes]) (length_beBytes _ _), beNat_beBytes_lt]
    exact Nat.lt_of_lt_of_le (Nat.mod_lt _ (by decide)) (by decide)
  have e : rosterEntries (rosterOf from') = [(fnum (rosterOf from') 16 8, 15, false, false, 0)] := by with_unfolding_all rfl
  rw [e, h]

theorem wit_RingFramesAreTaken_roster : ∀ t ∈ [(0, false), (1, true)],
    let s := ringIn 2 3 31 {}
    let f := frm 7 0 0 14 0 (rosterOf t.1)
    (s.hTakes 1 f ∧ hType f = 7 ∧ s.hState = 2 ∧ s.isTwin f = false ∧ laterSerial 32 (fnum (hPay f) 8 4) (hTurn f) = t.2) ∧
      List.find? (fun x => x.1 == ownId) (rosterEntries (hPay f)) = some (ownId, 15, false, false, 0) := by
  intro t ht
  have hp : ∀ n, hPay (frm 7 0 0 14 0 (rosterOf n)) = rosterOf n := fun n => by
    with_unfolding_all rfl
  simp only [List.mem_cons, List.not_mem_nil, or_false] at ht
  obtain rfl | rfl := ht <;>
  · refine ⟨?_, ?_⟩
    · unfold State.hTakes; decide +kernel
    · show List.find? _ (rosterEntries (hPay _)) = _
      rw [hp, rosterOf_entries]; simp
/-! ### Witnesses: firmware images, tokens and certificates, whatever the algorithms answer -/

/-- The header of a firmware image with two components of 128 zero bytes, of settings format 1, without an owner's signature. -/
def fwHdr : List Byte :=
  beBytes 4 0x54444e46 ++ [0, 1, 2, 0] ++ beBytes 4 7 ++ [0, 1, 0, 1, 255, 0, 0, 0] ++ beBytes 4 256 ++ List.replicate 8 0 ++
    ([1, 0, 0, 0] ++ beBytes 4 0 ++ beBytes 4 128 ++ beBytes 4 0) ++ ([2, 0, 0, 0] ++ beBytes 4 128 ++ beBytes 4 128 ++ beBytes 4 0) ++
    List.replicate 32 0 ++ beBytes 48 (Config.sha384 (List.replicate 256 0)).toNat ++ List.replicate 368 0

/-- The image with the vendor's signature. -/
def fwImg (sig : Nat) : List Byte := fwHdr ++ (List.replicate 256 0 ++ beBytes 96 sig ++ List.replicate 96 0)

theorem fwHdr_length : fwHdr.length = 512 := by decide +kernel

theorem nn_left {a c : List Byte} {i n : Nat} (h : i + n ≤ a.length) : nn (a ++ c) i n = nn a i n := by
  rw [nn, nn, List.drop_append_of_le_length (by omega), List.take_append_of_le_length (by rw [List.length_drop]; omega)]

theorem nb_left {a c : List Byte} {i : Nat} (h : i < a.length) : nb (a ++ c) i = nb a i := by
  rw [nb, nb, List.getD_append _ _ _ _ h]

theorem imgComp_fwImg (sig : Nat) {i : Nat} (h : i < 4) : imgComp (fwImg sig) i = imgComp fwHdr i := by
  have hl := fwHdr_length
  unfold imgComp fwImg
  rw [nb_left (by omega), nn_left (by omega), nn_left (by omega), nn_left (by omega), nn_left (by omega)]

theorem length_fwImg (sig : Nat) : (fwImg sig).length = 960 := by
  rw [fwImg, List.length_append, List.length_append, List.length_append, fwHdr_length, List.length_replicate, length_beBytes,
    List.length_replicate]

theorem imgForm_fwImg (sig : Nat) : imgForm (fwImg sig) = true := by
  have hl := fwHdr_length
  have ht : imgTotal (fwImg sig) = 256 := by
    rw [imgTotal, fwImg, nn_left (by omega)]; decide +kernel
  have hp : imgPresent (fwImg sig) = true := by
    rw [imgPresent, length_fwImg, fwImg, nn_left (by omega)]; decide +kernel
  have hz : ((fwImg sig).drop 160).take 352 = List.replicate 352 0 := by
    rw [fwImg, List.drop_append_of_le_length (by omega), List.take_append_of_le_length (by rw [List.length_drop]; omega)]; decide +kernel
  have hm : [0, 1, 2, 3].map (imgComp (fwImg sig)) = [0, 1, 2, 3].map (imgComp fwHdr) := by
    simp only [List.map_cons, List.map_nil]
    rw [imgComp_fwImg _ (by decide), imgComp_fwImg _ (by decide), imgComp_fwImg _ (by decide), imgComp_fwImg _ (by decide)]
  have hn : ∀ i n, i + n ≤ 512 → nn (fwImg sig) i n = nn fwHdr i n := fun i n h => nn_left (by omega)
  have hb : ∀ i, i < 512 → nb (fwImg sig) i = nb fwHdr i := fun i h => nb_left (by omega)
  unfold imgForm
  rw [ht, hp, hz, hm, length_fwImg, hn 4 2 (by decide), hn 6 2 (by decide), hn 14 2 (by decide), hn 12 2 (by decide),
    hn 18 2 (by decide), hb 17 (by decide)]
  decide +kernel

/-- Where its signature verifies under a vendor's key, the image verifies. -/
theorem fwImg_verifies (s : State) {k sig : Nat} (hs : sig < 2 ^ 768) (hc : s.cpx.owner.csig = false) (hm : s.cpx.svnBurnt < 256)
    (hk : Config.vendorKey 0 = some k) (hv : Config.ecdsaVerify k (Config.sha384 fwHdr) sig = true) :
    s.imgVerifies (fwImg sig) = true := by
  have hl := fwHdr_length
  have ht : imgTotal (fwImg sig) = 256 := by
    rw [imgTotal, fwImg, nn_left (by omega)]; decide +kernel
  have hn : ∀ i n, i + n ≤ 512 → nn (fwImg sig) i n = nn fwHdr i n := fun i n h => nn_left (by omega)
  have hh : (fwImg sig).take 512 = fwHdr := List.take_left' hl
  have hd : ((fwImg sig).drop 512).take 256 = List.replicate 256 0 := by
    rw [fwImg, List.drop_left' hl, List.append_assoc, List.take_left' List.length_replicate]
  have hg : nn (fwImg sig) (512 + 256) 96 = sig := by
    rw [nn, fwImg, show fwHdr ++ (List.replicate 256 0 ++ beBytes 96 sig ++ List.replicate 96 0) =
      (fwHdr ++ List.replicate 256 0) ++ beBytes 96 sig ++ List.replicate 96 0 by simp only [List.append_assoc],
      take_drop_mid (by rw [List.length_append, hl, List.length_replicate]) (length_beBytes _ _),
      beNat_beBytes_lt (Nat.lt_of_lt_of_le hs (by rw [show (256 : Nat) = 2 ^ 8 from rfl, ← Nat.pow_mul]))]
  have hq : nn fwHdr 96 48 = (Config.sha384 (List.replicate 256 0)).toNat := by
    have : (fwHdr.drop 96).take 48 = beBytes 48 (Config.sha384 (List.replicate 256 0)).toNat := by
      rw [fwHdr]
      exact take_drop_mid (by simp [length_beBytes]) (length_beBytes _ _)
    rw [nn, this, beNat_beBytes_lt (Nat.lt_of_lt_of_le (BitVec.isLt _) (by decide))]
  have hb : nb (fwImg sig) 16 = 255 := by rw [fwImg, nb_left (by omega)]; decide +kernel
  have hsvn : s.minSvn ≤ 255 := by
    unfold State.minSvn
    exact Nat.max_le.mpr ⟨by have := Nat.mod_lt Config.fuseMinSvn (show 0 < 256 by decide); omega, by omega⟩
  unfold State.imgVerifies
  dsimp only
  rw [imgForm_fwImg, ht, hn 144 8 (by decide), hn 152 8 (by decide), hn 96 48 (by decide), hh, hd, hg, hq, hb,
    show nn fwHdr 144 8 = 0 by decide +kernel, show nn fwHdr 152 8 = 0 by decide +kernel, hk]
  have hd2 : decide (s.minSvn ≤ 255) = true := decide_eq_true hsvn
  rw [if_pos rfl]
  dsimp only
  rw [hv, hc, hd2]
  exact beq_self_eq_true _

/-- Boot finds the image in slot A; none where both slots are empty. -/
theorem wit_BootAndFirmwareCommandsComplete_boots {k sig : Nat} (hs : sig < 2 ^ 768) (hk : Config.vendorKey 0 = some k)
    (hv : Config.ecdsaVerify k (Config.sha384 fwHdr) sig = true) :
    let s : State := { cpx := { flash := { slotA := fwImg sig } }, pwr := { irc := { proven := true } } }
    s.cpx.inReset = true ∧ s.pwr.irc.proven = true ∧ ∃ b, s.bootChoice = some (b, 0) := by
  intro s
  refine ⟨rfl, rfl, s.bcb, ?_⟩
  have h : s.imgVerifies (s.slotImg 0) = true := fwImg_verifies s hs rfl (show 0 < 256 by decide) hk hv
  unfold State.bootChoice
  simp only [show s.bcb.pending.getD s.bcb.active = 0 from rfl, h, show tries s.bcb 0 = 0 from rfl]
  rfl

theorem wit_BootAndFirmwareCommandsComplete_bootless :
    let s : State := { pwr := { irc := { proven := true } } }
    s.cpx.inReset = true ∧ s.pwr.irc.proven = true ∧ s.bootChoice = none := by decide +kernel

/-- The image in slot B while A runs, with settings of its format. -/
theorem wit_BootAndFirmwareCommandsComplete_verify {k sig : Nat} (hs : sig < 2 ^ 768) (hk : Config.vendorKey 0 = some k)
    (hv : Config.ecdsaVerify k (Config.sha384 fwHdr) sig = true) (x : SetCopy) (hx : x.sfmt = 1) :
    let t := sets (portIn 5) [(F.cpxUpd_STATE, 2, 0)]
    let s : State := { t with cpx := { t.cpx with flash := { slotB := fwImg sig, set1 := some x } } }
    (t.cpx.owner.lock = false ∧ t.kvc.vbatLow = false ∧ t.mustHandOver = false ∧ t.admitsOwner .firmware 182 = true ∧
      t.get F.cpxUpd_STATE = 2 ∧ t.other = 1) ∧ s.regs = t.regs ∧ s.mode = t.mode ∧ s.imgVerifies (s.slotImg 1) = true ∧
      s.settingsFor (s.slotImg 1) = true := by
  intro t s
  have e1 : s.regs = t.regs := by dsimp only [s]
  have e2 : s.mode = t.mode := by dsimp only [s, State.mode]
  refine ⟨by decide +kernel, e1, e2, fwImg_verifies s hs rfl (show 0 < 256 by decide) hk hv, ?_⟩
  have hl := fwHdr_length
  have h : nn (s.slotImg 1) 12 2 = 1 := by
    show nn (fwImg sig) 12 2 = 1
    rw [fwImg, nn_left (by omega)]; decide +kernel
  unfold State.settingsFor
  rw [h]
  simp [copyFor, s, hx]

/-- Whatever signature verifies, the token commands have tokens that meet their conditions. -/
theorem wit_BootAndFirmwareCommandsComplete_tokens (sig : Nat) (hs : sig < 2 ^ 768) (type : Nat) (ht : type < 256)
    (hv : Config.ecdsaVerify 7 (Config.sha384 ((tokenFor (ownedIn .track) type 0 sig).take 128)) sig = true) :
    let s := ownedIn .track
    (s.admitsOwner .firmware 188 = true ∧ s.admitsOwner .firmware 189 = true ∧ s.admitsOwner .firmware 191 = true ∧
      s.cpx.owner.lock = false ∧ (∀ x ∈ s.dsq.images, x.part ≠ 0)) ∧
      s.tokenOk (tokenFor s type 0 sig) type (if s.cpx.owner.set = true then s.cpx.owner.key else tokenArg (tokenFor s type 0 sig)) =
        true ∧ s.tokenOk (tokenFor s type 0 sig) type s.cpx.owner.key = true ∧ nb (tokenFor s type 0 sig) 32 ≤ 1 := by
  intro s
  refine ⟨by decide +kernel, token_passes _ ht hs (show 7 ≠ 0 by decide) (by decide +kernel) hv,
    token_passes _ ht hs (show 7 ≠ 0 by decide) (by decide +kernel) hv, ?_⟩
  have h : nb (tokenFor s type 0 sig) 32 = 0 := by
    unfold nb tokenFor
    simp [List.getD, beBytes]
  omega

/-- A chain whose key is the identity key's is all that CERT_INSTALL asks for. -/
theorem wit_BootAndFirmwareCommandsComplete_cert (chain : List Byte) (hl : chain.length ≤ 2048) (ho : Config.certsOk chain = true)
    (hk : BitVec.ofNat 768 (Config.certKey chain) = Config.ecdsaPub 48 (portIn 5).idk) :
    let s := portIn 5
    s.admitsOwner .firmware 190 = true ∧ chain.length ≤ 2048 ∧ s.kvc.derived ≠ Derived.none ∧
      BitVec.ofNat 768 (Config.certKey chain) = Config.ecdsaPub 48 s.idk ∧ Config.certsOk chain = true :=
  ⟨by decide +kernel, hl, by decide, hk, ho⟩

/-! ### Witnesses: stability counters and PLLs -/

def oscIn (o : Osc) : State := { up .track with pwr := { sysxo := { o with run := true }, irc := { o with run := true }, cpllA :=
  { locking := true, onIrc := true } } }

theorem wit_ClockAndPowerEventsComplete_osc :
    ((oscIn {}).osc 2).edge = false ∧ (oscIn {}).pwr.irc.run = true ∧
    (((oscIn { edge := true }).osc 0).edge = true ∧ ((oscIn { edge := true }).osc 0).proven = false ∧
      ¬(oscLow 0 ≤ 1249 ∧ 1249 ≤ oscHigh 0)) ∧
    (((oscIn { edge := true, proven := true }).osc 2).bad = 0 ∧ ¬(oscLow 2 ≤ 4401 ∧ 4401 ≤ oscHigh 2)) ∧
    (1 ≤ ((oscIn { edge := true, proven := true, bad := 1 }).osc 2).bad) ∧
    ((oscLow 2 ≤ 2200 ∧ 2200 ≤ oscHigh 2) ∧
      oscProof 2 ≤ ((oscIn { edge := true, cnt := 4096 - 2200 }).osc 2).cnt + 2200) ∧
    (((oscIn { edge := true, cnt := 4096 - 2201 }).osc 2).cnt + 2200 < oscProof 2) := by decide +kernel

theorem wit_ClockAndPowerEventsComplete_pll : (oscIn { proven := true }).pwr.cpllA.locking = true ∧
    (if (oscIn { proven := true }).pwr.cpllA.onIrc = true then (oscIn { proven := true }).pwr.irc.proven
      else (oscIn { proven := true }).pwr.sysxo.proven) = true := by decide +kernel

/-- At 2 % of the code the answer is near, beyond it is not. -/
theorem wit_ClockAndPowerEventsComplete_near :
    let s := sets (portIn 5) [(F.pwrPmbVcode_P1, 100, 0)]
    let v := s.vcode s.pwr.dvfsTo
    |((102 : Nat) : ℚ) - v| ≤ v / 50 ∧ |((98 : Nat) : ℚ) - v| ≤ v / 50 ∧ ¬ |((103 : Nat) : ℚ) - v| ≤ v / 50 := by
  have h : (sets (portIn 5) [(F.pwrPmbVcode_P1, 100, 0)]).vcode (sets (portIn 5) [(F.pwrPmbVcode_P1, 100, 0)]).pwr.dvfsTo = 100 := by
    decide +kernel
  simp only [h]
  norm_num [abs_le]
/-! ### Witnesses: a Dravik image, repeated commands, steps -/

def drvHdr : List Byte :=
  beBytes 4 0x4452564b ++ [0, 1, 1, 0] ++ List.replicate 8 0 ++ beBytes 4 1 ++ beBytes 4 4 ++ List.replicate 16 0 ++
    List.replicate 128 255 ++ beBytes 48 (Config.sha384 (List.replicate 4 0)).toNat ++ beBytes 8 (keyId 7) ++ List.replicate 32 0

/-- An image of partition 0 of one word, with its signature. -/
def drvImg (sig : Nat) : List Byte := drvHdr ++ (List.replicate 4 0 ++ beBytes 96 sig)

/-- Its key set, and room for it. -/
def drvIn : State :=
  let s := sets (portIn 5) [(F.dsqIwin_SIZE, 1, 0)]
  { s with cpx := { s.cpx with owner := { pt0Key := 7 } } }

theorem drvHdr_length : drvHdr.length = 256 := by decide +kernel

theorem wit_ThreadCommandsComplete_load (sig : Nat) (hs : sig < 2 ^ 768)
    (hv : Config.ecdsaVerify 7 (Config.sha384 drvHdr) sig = true) :
    (drvIn.admits 96 = true ∧ drvIn.cPt0 .firmware = true ∧ drvIn.resetting 0 = false) ∧ drvForm (drvImg sig) = true ∧
      drvPart (drvImg sig) = 0 ∧ firstFail (drvIn.drvChecks (drvImg sig)) = none := by
  have hl := drvHdr_length
  have hn : ∀ i n, i + n ≤ 256 → nn (drvImg sig) i n = nn drvHdr i n := fun i n h => nn_left (by omega)
  have hb : ∀ i, i < 256 → nb (drvImg sig) i = nb drvHdr i := fun i h => nb_left (by omega)
  have hlen : (drvImg sig).length = 356 := by
    rw [drvImg, List.length_append, List.length_append, hl, List.length_replicate, length_beBytes]
  have hp : drvPart (drvImg sig) = 0 := by rw [drvPart, hb 12 (by decide)]; decide +kernel
  have hc : drvCodeLen (drvImg sig) = 4 := by rw [drvCodeLen, hn 20 4 (by decide)]; decide +kernel
  have hd : drvDataLen (drvImg sig) = 0 := by rw [drvDataLen, hn 24 4 (by decide)]; decide +kernel
  have hz : drvBssLen (drvImg sig) = 0 := by rw [drvBssLen, hn 28 4 (by decide)]; decide +kernel
  have hk : drvCodeBase (drvImg sig) = 0 := by rw [drvCodeBase, hn 32 4 (by decide)]; decide +kernel
  have ha : drvDataBase (drvImg sig) = 0 := by rw [drvDataBase, hn 36 4 (by decide)]; decide +kernel
  have he : (List.range 16).all (drvEntryOk (drvImg sig)) = true := by
    rw [List.all_eq_true]
    intro k hk'
    have hk2 := List.mem_range.mp hk'
    rw [drvEntryOk]
    have : (drvEntry (drvImg sig) k).1 = nn drvHdr (40 + 8 * k) 4 := by rw [drvEntry, hn _ _ (by omega)]
    rw [this]
    have h2 : ∀ k < 16, nn drvHdr (40 + 8 * k) 4 = 0xffffffff := by decide +kernel
    rw [h2 k hk2]; rfl
  refine ⟨by decide +kernel, ?_, hp, ?_⟩
  · rw [drvForm, hlen, hn 0 4 (by decide), hn 4 2 (by decide), hn 6 2 (by decide), hn 8 4 (by decide), hp, hn 13 3 (by decide), hc, hd,
      hz, hk, ha, hn 224 32 (by decide), he]
    decide +kernel
  · have hbody : drvBody (drvImg sig) = List.replicate 4 0 := by
      rw [drvBody, hc, hd, drvImg, List.drop_left' hl, List.take_left' (by rw [List.length_replicate])]
    have hsig : nn (drvImg sig) (256 + 4 + 0) 96 = sig := by
      rw [nn, drvImg, show drvHdr ++ (List.replicate 4 0 ++ beBytes 96 sig) = (drvHdr ++ List.replicate 4 0) ++ beBytes 96 sig ++ [] by
        rw [List.append_nil, List.append_assoc], take_drop_mid (by rw [List.length_append, hl, List.length_replicate])
        (length_beBytes _ _), beNat_beBytes_lt (Nat.lt_of_lt_of_le hs (by rw [show (256 : Nat) = 2 ^ 8 from rfl, ← Nat.pow_mul]))]
    have hdig : nn (drvImg sig) 168 48 = (Config.sha384 (List.replicate 4 0)).toNat := by
      rw [hn 168 48 (by decide), nn, drvHdr]
      rw [show (beBytes 4 0x4452564b ++ [0, 1, 1, 0] ++ List.replicate 8 0 ++ beBytes 4 1 ++ beBytes 4 4 ++ List.replicate 16 0 ++
        List.replicate 128 255 ++ beBytes 48 (Config.sha384 (List.replicate 4 0)).toNat ++ beBytes 8 (keyId 7) ++ List.replicate 32 0 :
          List Byte) = (beBytes 4 0x4452564b ++ [0, 1, 1, 0] ++ List.replicate 8 0 ++ beBytes 4 1 ++ beBytes 4 4 ++
          List.replicate 16 0 ++ List.replicate 128 255) ++ beBytes 48 (Config.sha384 (List.replicate 4 0)).toNat ++
          (beBytes 8 (keyId 7) ++ List.replicate 32 0) by simp only [List.append_assoc],
        take_drop_mid (by decide +kernel) (length_beBytes _ _), beNat_beBytes_lt (Nat.lt_of_lt_of_le (BitVec.isLt _) (by decide))]
    have hkid : nn (drvImg sig) 216 8 = keyId 7 := by
      rw [hn 216 8 (by decide), nn, drvHdr]
      rw [take_drop_mid (by decide +kernel) (length_beBytes _ _), beNat_beBytes_lt]
      rw [keyId]
      exact Nat.div_lt_of_lt_mul (Nat.lt_of_lt_of_le (BitVec.isLt _) (by decide))
    have htake : (drvImg sig).take 256 = drvHdr := List.take_left' hl
    have hkey : drvIn.imgKey 0 = 7 := by decide +kernel
    have hfit : drvIn.drvFits (drvImg sig) = true := by
      rw [State.drvFits, hp, hk, hc, hd, hz, ha]; decide +kernel
    have himg : drvIn.dsq.images = [] := by decide +kernel
    unfold State.drvChecks
    dsimp only
    rw [hp, hkey, hkid, hc, hd, hsig, htake, hv, hdig, hbody, hfit, himg]
    simp [firstFail]

/-- A command of function 8 that repeats a CMD_ID of its history, with the same bytes and with others. -/
def heldHist (d : Word) : Hist :=
  { cmdId := 1, hash := Config.cmdHash 0 (byte 136 :: beBytes 4 0 ++ []) + d, opcode := 136, resultLen := 0, result := [] }
def histIn (d : Word) : State := withPar ringReadyIn { hist := [(8, [heldHist d])] }

theorem wit_PartitionAndHostEventsComplete_repeat : ∀ d ∈ [(0 : Word), 1],
    ((histIn d).ringReady 8 3 = true ∧ (histIn d).resetting 7 = false ∧ (entryFor 1 136).length = 128 ∧
      (histIn d).idBusy 8 1 = false ∧ (histIn d).mode ≠ .boot ∧ (histIn d).entryOk (entryFor 1 136) = true) ∧
    List.find? (fun h => entryId (entryFor 1 136) != 0 && h.cmdId == entryId (entryFor 1 136)) (tabGet [] (histIn d).par.hist 8) =
      some (heldHist d) ∧ ((heldHist d).hash = (histIn d).entryHash (entryFor 1 136) [] ↔ d = 0) := by
  intro d hd
  have hh : ∀ d, (histIn d).entryHash (entryFor 1 136) [] = Config.cmdHash 0 (byte 136 :: beBytes 4 0 ++ []) := by
    intro d
    unfold State.entryHash
    rw [show byte (entryOp (entryFor 1 136)) = byte 136 by decide +kernel, show entryLen (entryFor 1 136) = 0 by decide +kernel,
      show entryPayload (entryFor 1 136) [] = [] by decide +kernel]
    rfl
  have hi : entryId (entryFor 1 136) = 1 := by decide +kernel
  simp only [List.mem_cons, List.not_mem_nil, or_false] at hd
  obtain rfl | rfl := hd <;>
  · refine ⟨by decide +kernel, ?_, ?_⟩
    · rw [hi]; rfl
    · rw [hh, heldHist]; simp

/-- The state after a step that goes on. -/
def after (o : Host.Outcome State Fault Refusal) : State := match o with | .next t => t | _ => State.reset

theorem wit_StepTakesTheFrontCommand :
    ({ steered with pending := [.tamperSourceRelease 0, .drbgReseed] } : State).pending = .tamperSourceRelease 0 :: [.drbgReseed] ∧
      State.reset.pending = [] := ⟨rfl, rfl⟩

theorem wit_StepsKeepMemoryAndQueue :
    steered.memWf = true ∧ step { steered with pending := [.tamperSourceRelease 0, .drbgReseed] } =
      .next (after (step { steered with pending := [.tamperSourceRelease 0, .drbgReseed] })) :=
  ⟨by decide +kernel, rfl⟩

theorem wit_StepsKeepTheDomainTree : (derivedIn.dom 0).kind = .ref ∧ derivedIn.parentsLower ∧
    step { derivedIn with pending := [.tamperSourceRelease 0] } = .next (after (step { derivedIn with pending := [.tamperSourceRelease 0] })) :=
  ⟨by decide +kernel, derivedIn_parentsLower, rfl⟩

/-- Before service, in a mode that does not admit the opcode, and from a caller without owner rights. -/
theorem wit_CommandsAreJudgedByMode : State.reset.served = false ∧ (up .safe).served = true ∧ (up .safe).legal 0x10 = false ∧
    (up .track).admits 0x10 = true ∧ (up .track).cOwner (.host 1 0) = false := by decide +kernel
/-! ### Ill-formed commands: a sender that does not exist -/

theorem test_wf_function : (Instr.keyInfo (.host 9 0) 0).wf = false ∧ (Instr.keyInfo (.host 8 3) 0).wf = true := by decide
theorem test_wf_ring : (Instr.keyInfo (.host 8 4) 0).wf = false := by decide
theorem test_wf_thread : (Instr.keyInfo (.thread 128) 0).wf = false ∧ (Instr.keyInfo (.thread 127) 0).wf = true := by decide
theorem test_wf_core : (Instr.hrlRxfRead (.cp 4) .full).wf = false ∧ (Instr.hrlRxfRead (.cp 3) .full).wf = true := by decide
theorem test_wf_master_function : (Instr.hrlRxfRead (.fn 9) .full).wf = false := by decide
theorem test_wf_master_thread : (Instr.hrlRxfRead (.thread 128) .full).wf = false := by decide
theorem test_wf_job_ring : (Instr.busWatchdogExpire 10 (.payload 9 0) 0).wf = false := by decide
theorem test_wf_job_result : (Instr.busWatchdogExpire 10 (.result 8 4) 0).wf = false := by decide
theorem test_wf_job_fetch : (Instr.busWatchdogExpire 10 (.fetch 9 3) 0).wf = false := by decide
theorem test_wf_job_page : (Instr.busWatchdogExpire 10 (.page 64) 0).wf = false := by decide
theorem test_wf_job_checkpoint : (Instr.busWatchdogExpire 10 (.checkpoint 8) 0).wf = false := by decide
theorem test_wf_event : Instr.boundUpdate.wf = true := by decide

/-! ### The manual's examples -/

/-- The three encodings of 00_scope.md. -/
theorem test_ecode : ecode 78644 = 0x299a ∧ ecode 262144000 = 0x87a0 ∧ ecode 1311 = 0 ∧ ecodeBound 0x299a = 78656 := by decide +kernel

/-- END[2] of the example under R132. -/
theorem test_phaseEnds : (phaseEnds [2097152, 2097152, 2097408, 2097152, 2097152, 2097152, 2097152, 2096896]).getD 2 0 = 78646 := by
  decide +kernel

/-- The rounding of FMUL in 07_dravik_isa.md: RN, RU, RD, RZ. -/
theorem test_fxMul : [0, 1, 2, 3].map (fun rm => (fxMul rm 429497 0x180000000).1.toInt) = [644246, 644246, 644245, 644245] ∧
    [0, 1, 2, 3].map (fun rm => (fxMul rm 429497 (-0x180000000)).1.toInt) = [-644246, -644245, -644246, -644245] := by decide +kernel

/-- The probe program of 07_dravik_isa.md, word by word. -/
theorem test_decode_probe :
    decodeIns 0x0 0x60000000 0 = (.tread 0 0, 4) ∧ decodeIns 0x4 0x7c200000 0 = (.tget 1 0 0, 4) ∧
    decodeIns 0x8 0x08210001 0 = (.aluImm 0 1 1 1, 4) ∧ decodeIns 0xc 0x80840000 0 = (.tset 1 1 0, 4) ∧
    decodeIns 0x10 0x80810000 0 = (.tset 1 0 1, 4) ∧ decodeIns 0x14 0x80830000 0 = (.tset 1 0 3, 4) ∧
    decodeIns 0x18 0x74880000 0 = (.twait 1 2, 4) ∧ decodeIns 0x1c 0xa040b000 0 = (.qput 2 5 true false, 4) ∧
    decodeIns 0x20 0x20608000 0x3b9aca00 = (.li 3 1000000000, 8) ∧ decodeIns 0x28 0x6891c000 0 = (.tadd 1 1 3 true, 4) ∧
    decodeIns 0x2c 0xe1fffffb 0 = (.br 0x18, 4) := by decide +kernel

/-- The trailer of the worked example in 09_ports_stamping.md. -/
theorem test_trailer : trailerBytes 4 0x4e21 (1893456100 * 2 ^ 48 + 249999875 * 2 ^ 18 + 32035) 5046274 false false false true =
    [0x11, 0x04, 0x4e, 0x21, 0x70, 0xdb, 0xd8, 0xe4, 0x3b, 0x9a, 0xc8, 0x0c, 0x7d, 0x23, 0x59, 0xa1] := by decide +kernel

/-- The sum of R315's example. -/
theorem test_tadd :
    let s := (g1 (thrIn 1) 300).setTreg 127 0 { t := 1893456037 * Config.secTicks + 999999999 * 262144 + 262000 }
    ((after (exec (.tadd 127 1 0 1 false) s)).treg 127 1).t = 1893456038 * Config.secTicks + 156 := by decide +kernel

/-- P16 of PT3 loses its link: the entry of the worked example in 15_faults_ledger_tally.md. -/
theorem test_linkDown_entry :
    let s := (sets (up .track) [(F.portCfg_EN, 1, 16), (F.portStat_LINK, 1, 16), (F.portCfg_PART, 3, 16), (F.octCfg_LMODE, 1, 2)]).setDom 0
      { kind := .ref, st := .running, unseeded := false, lost := false, bound := 4967630,
        acc := (1893456100 * 1000000000 + 500000000) * 262144 * Config.uPerTick }
    (after (exec (.portLinkDown 16) s)).sup.staged.map (entryWords 0) =
      [[0x000070dbd8e47735, 0x94000000597a1010, 0x0a0103031c010000, 0x0200000000000000]] := by decide +kernel

end Sys2Proof.Tests
end

section
/-! Bit fields: a field as a number, and how the codes of a register's fields divide its word (R13, R815). -/
namespace Sys2Proof.Machine

/-- A field as a number. -/
theorem bitsOf_eq_div_mod (w : Word) (hi lo : Nat) (h : hi < 64) (hl : lo ≤ hi) :
    bitsOf w hi lo = w.toNat / 2 ^ lo % 2 ^ (hi - lo + 1) := by
  refine Nat.eq_of_testBit_eq fun k => ?_
  simp only [bitsOf, BitVec.testBit_toNat, BitVec.getLsbD_ushiftRight, BitVec.getLsbD_and, getLsbD_fieldMask _ _ _ h hl,
    Nat.testBit_mod_two_pow, Nat.testBit_div_two_pow]
  by_cases hk : lo + k ≤ hi
  · simp [hk, show k < hi - lo + 1 by omega, Nat.add_comm]
  · simp [hk, show ¬ k < hi - lo + 1 by omega]

theorem bitsOf_lt (w : Word) (hi lo : Nat) (h : hi < 64) (hl : lo ≤ hi) : bitsOf w hi lo < 2 ^ (hi - lo + 1) := by
  rw [bitsOf_eq_div_mod w hi lo h hl]
  exact Nat.mod_lt _ (Nat.two_pow_pos _)

/-- A field depends on its own bits alone. -/
theorem bitsOf_congr {w v : Word} {hi lo : Nat} (h : hi < 64) (hl : lo ≤ hi)
    (he : ∀ k, lo ≤ k → k ≤ hi → w.getLsbD k = v.getLsbD k) : bitsOf w hi lo = bitsOf v hi lo := by
  unfold bitsOf
  congr 2
  refine BitVec.eq_of_getLsbD_eq fun k _ => ?_
  simp only [BitVec.getLsbD_and, getLsbD_fieldMask _ _ _ h hl]
  by_cases hk : lo ≤ k ∧ k ≤ hi
  · rw [he k hk.1 hk.2]
  · rw [show (decide (lo ≤ k) && decide (k ≤ hi)) = false by simpa using hk, Bool.and_false, Bool.and_false]

theorem bitsOf_andNot_of_covered {w m : Word} {hi lo : Nat} (h : hi < 64) (hl : lo ≤ hi)
    (hm : ∀ k, lo ≤ k → k ≤ hi → m.getLsbD k = true) : bitsOf (w &&& ~~~m) hi lo = 0 := by
  rw [bitsOf_congr (v := 0#64) h hl fun k h1 h2 => by simp [hm k h1 h2]]
  simp [bitsOf]

theorem bitsOf_andNot_of_apart {w m : Word} {hi lo : Nat} (h : hi < 64) (hl : lo ≤ hi)
    (hm : ∀ k, lo ≤ k → k ≤ hi → m.getLsbD k = false) : bitsOf (w &&& ~~~m) hi lo = bitsOf w hi lo :=
  bitsOf_congr h hl fun k h1 h2 => by simp [hm k h1 h2]; omega

/-! ### The fields of a register -/

/-- Two fields of a register share no bit. -/
def fieldsApart (f g : Nat × Nat × Acc) : Bool := decide (f.1 < g.2.1) || decide (g.1 < f.2.1)

/-- The fields of a register table lie within its word, and no two share a bit. -/
def RegInfo.fieldsOk (x : RegInfo) : Bool :=
  x.fields.all fun f => decide (f.1 < 64) && decide (f.2.1 ≤ f.1) && x.fields.all fun g => decide (f = g) || fieldsApart f g

theorem regIds_fieldsOk : (regIds.all fun r => (regInfo r).fieldsOk) = true := by decide +kernel

theorem fields_within {r : RegId} {f : Nat × Nat × Acc} (hf : f ∈ (regInfo r).fields) : f.1 < 64 ∧ f.2.1 ≤ f.1 := by
  have h := List.all_eq_true.mp (List.all_eq_true.mp regIds_fieldsOk r (regIds_all r)) f hf
  simp only [Bool.and_eq_true, decide_eq_true_eq] at h
  exact h.1

theorem fields_apart {r : RegId} {f g : Nat × Nat × Acc} (hf : f ∈ (regInfo r).fields) (hg : g ∈ (regInfo r).fields) (hne : f ≠ g) :
    f.1 < g.2.1 ∨ g.1 < f.2.1 := by
  have h := List.all_eq_true.mp (List.all_eq_true.mp regIds_fieldsOk r (regIds_all r)) f hf
  simp only [Bool.and_eq_true, List.all_eq_true, fieldsApart, Bool.or_eq_true, decide_eq_true_eq] at h
  exact (h.2 g hg).resolve_left hne

/-- A field lies wholly within the half that an access addresses (R815). -/
def withinHalf (h : Half) (f : Nat × Nat × Acc) : Prop := h = .full ∨ h = .low ∧ f.1 < 32 ∨ h = .high ∧ 32 ≤ f.2.1

def withinHalfB : Half → Nat × Nat × Acc → Bool
  | .full, _ => true
  | .low, f => decide (f.1 < 32)
  | .high, f => decide (32 ≤ f.2.1)

theorem withinHalfB_iff (h : Half) (f : Nat × Nat × Acc) : withinHalfB h f = true ↔ withinHalf h f := by
  cases h <;> simp [withinHalfB, withinHalf]

/-- The bits to clear, with those of one more field. -/
def addRc (h : Half) (w : Word) (f : Nat × Nat × Acc) : Word :=
  if f.2.2 == .rc && withinHalfB h f then w ||| fieldMask f.1 f.2.1 else w

theorem rcMask_eq_foldl (h : Half) (l : List (Nat × Nat × Acc)) : rcMask h l = l.foldl (addRc h) 0 := by
  cases h <;> rfl

theorem getLsbD_addRc (h : Half) (w : Word) (f : Nat × Nat × Acc) (hf : f.1 < 64 ∧ f.2.1 ≤ f.1) (k : Nat) :
    (addRc h w f).getLsbD k = true ↔ w.getLsbD k = true ∨ f.2.2 = .rc ∧ withinHalf h f ∧ f.2.1 ≤ k ∧ k ≤ f.1 := by
  unfold addRc
  split
  case isTrue hc =>
    simp only [Bool.and_eq_true, beq_iff_eq, withinHalfB_iff] at hc
    simp [getLsbD_fieldMask _ _ _ hf.1 hf.2, hc]
  case isFalse hc =>
    simp only [Bool.and_eq_true, beq_iff_eq, withinHalfB_iff] at hc
    simp only [← and_assoc, hc, false_and, or_false]

/-- What a read of a half clears: the bits of the RC fields wholly within it. -/
theorem getLsbD_rcMask (h : Half) (l : List (Nat × Nat × Acc)) (hl : ∀ f ∈ l, f.1 < 64 ∧ f.2.1 ≤ f.1) (k : Nat) :
    (rcMask h l).getLsbD k = true ↔ ∃ f ∈ l, f.2.2 = .rc ∧ withinHalf h f ∧ f.2.1 ≤ k ∧ k ≤ f.1 := by
  have fold : ∀ w : Word, (l.foldl (addRc h) w).getLsbD k = true ↔
      w.getLsbD k = true ∨ ∃ f ∈ l, f.2.2 = .rc ∧ withinHalf h f ∧ f.2.1 ≤ k ∧ k ≤ f.1 := by
    induction l with
    | nil => simp
    | cons f l ih =>
      intro w
      obtain ⟨hf, hl⟩ := List.forall_mem_cons.mp hl
      rw [List.foldl_cons, ih hl, getLsbD_addRc h w f hf, List.exists_mem_cons_iff, or_assoc]
  rw [rcMask_eq_foldl, fold]
  simp

/-- A field of a register after its word was cleared by a read of a half: an RC field wholly within the half reads as zero, every
other field stays (R13, R815). -/
theorem bitsOf_clearedRc (r : RegId) (h : Half) (w : Word) {f : Nat × Nat × Acc} (hf : f ∈ (regInfo r).fields)
    [Decidable (withinHalf h f)] :
    bitsOf (w &&& ~~~rcMask h (regInfo r).fields) f.1 f.2.1 = if f.2.2 = .rc ∧ withinHalf h f then 0 else bitsOf w f.1 f.2.1 := by
  obtain ⟨hhi, hlo⟩ := fields_within hf
  have mask := getLsbD_rcMask h (regInfo r).fields fun g hg => fields_within hg
  split
  case isTrue hc => exact bitsOf_andNot_of_covered hhi hlo fun k h1 h2 => (mask k).mpr ⟨f, hf, hc.1, hc.2, h1, h2⟩
  case isFalse hc =>
    refine bitsOf_andNot_of_apart hhi hlo fun k h1 h2 => Bool.eq_false_iff.mpr fun hk => ?_
    obtain ⟨g, hg, hrc, hin, h3, h4⟩ := (mask k).mp hk
    have hne : f ≠ g := by rintro rfl; exact hc ⟨hrc, hin⟩
    have := fields_apart hf hg hne
    omega

end Sys2Proof.Machine
end

section
/-! What a read of an ordinary register leaves (R13, R815). -/
namespace Sys2Proof.Machine

theorem State.busAnswer_regs (s : State) (a : Access) (w : Word) : (s.busAnswer a w).regs = s.regs := by
  unfold State.busAnswer
  split
  · split <;> simp
  · simp

theorem State.busAnswer_out (s : State) {a : Access} (w : Word) (ha : ∀ t : Nat, a.m ≠ .thread t) :
    (s.busAnswer a w).out = .readData a.m w :: s.out := by
  unfold State.busAnswer
  split
  · exact absurd ‹_› (ha _)
  · rfl

/-- A read of another register than TSV_STAT leaves its word without the bits to clear. -/
theorem State.rd_clearRc (s : State) {r : RegId} (hr : r ≠ .tsvStat) (i j : Nat) (h : Half) :
    (s.clearRc r i j h).rd r i j = s.rd r i j &&& ~~~rcMask h (regInfo r).fields := by
  unfold State.clearRc
  dsimp only
  split
  case isTrue h0 => rw [h0, show (0 : Word) = 0#64 from rfl, BitVec.not_zero, BitVec.and_allOnes]
  case isFalse => rw [State.rd_wr_same]

theorem State.clearRc_out (s : State) (r : RegId) (i j : Nat) (h : Half) : (s.clearRc r i j h).out = s.out := by
  unfold State.clearRc
  dsimp only
  split
  · rfl
  · split <;> simp

theorem State.rd_clearRc_ne (s : State) {r r' : RegId} {i j i' j' : Nat} (h : Half) (hi : i < (regInfo r).ni) (hj : j < (regInfo r).nj)
    (hi' : i' < (regInfo r').ni) (hj' : j' < (regInfo r').nj) (hne : (r', i', j') ≠ (r, i, j)) :
    (s.clearRc r i j h).rd r' i' j' = s.rd r' i' j' := by
  have ha : regAddr r' i' j' ≠ regAddr r i j := fun he => hne (by
    obtain ⟨rfl, rfl, rfl⟩ := regAddr_inj r' r i' j' i j hi' hj' hi hj he; rfl)
  unfold State.clearRc
  dsimp only
  split
  · rfl
  · split
    case isTrue ht =>
      subst ht
      obtain rfl : i = 0 := Nat.lt_one_iff.mp hi
      obtain rfl : j = 0 := Nat.lt_one_iff.mp hj
      rw [State.put, State.rd_wr_ne _ _ _ _ _ _ _ _ ha, State.rd_wr_ne _ _ _ _ _ _ _ _ ha]
    case isFalse => rw [State.rd_wr_ne _ _ _ _ _ _ _ _ ha]

theorem rcMask_tsvStat (h : Half) : rcMask h (regInfo .tsvStat).fields = if h = .low then 0 else fieldMask 45 32 := by
  cases h <;> decide

/-- A read of the half of TSV_STAT with XC_PEAK leaves there the XCs in use. -/
theorem State.xcPeak_clearRc (s : State) (h : Half) :
    bitsOf ((s.clearRc .tsvStat 0 0 h).rd .tsvStat 0 0) 45 32 =
      if h = .low then s.get F.tsvStat_XC_PEAK else s.get F.tsvStat_XC_BUSY := by
  unfold State.clearRc
  rw [rcMask_tsvStat]
  by_cases hh : h = .low
  · simp only [hh, if_true]
    rfl
  · let v : State := s.wr .tsvStat (s.rd .tsvStat 0 0 &&& ~~~fieldMask 45 32) 0 0
    have hpeak : v.get F.tsvStat_XC_PEAK = 0 := by
      rw [State.get, State.rd_wr_same]
      exact bitsOf_andNot_of_covered (by decide) (by decide) fun k h1 h2 => by
        simp [getLsbD_fieldMask 45 32 k (by decide) (by decide), h1, h2]
    have hbusy : v.get F.tsvStat_XC_BUSY = s.get F.tsvStat_XC_BUSY := by
      rw [State.get, State.rd_wr_same]
      exact bitsOf_andNot_of_apart (by decide) (by decide) fun k _ h2 => by
        rw [getLsbD_fieldMask 45 32 k (by decide) (by decide), decide_eq_false (Nat.not_le.mpr (Nat.lt_of_le_of_lt h2 (by decide))),
          Bool.false_and]
    have hlt : s.get F.tsvStat_XC_BUSY < 2 ^ 14 := bitsOf_lt _ 13 0 (by decide) (by decide)
    have hm : ¬ fieldMask 45 32 = 0 := by decide
    rw [if_neg hh, if_neg hh, if_neg hm, if_pos rfl]
    calc (v.put F.tsvStat_XC_PEAK (max (v.get F.tsvStat_XC_PEAK) (v.get F.tsvStat_XC_BUSY))).get F.tsvStat_XC_PEAK
        = max (v.get F.tsvStat_XC_PEAK) (v.get F.tsvStat_XC_BUSY) % 2 ^ 14 := State.get_put_same _ _ _ _ _ (by decide) (by decide)
      _ = s.get F.tsvStat_XC_BUSY := by rw [hpeak, hbusy, Nat.zero_max, Nat.mod_eq_of_lt hlt]

theorem State.bitsOf_answered (s : State) (m : Master) {r : RegId} {i j : Nat} (h : Half) (hi : i < (regInfo r).ni)
    (hj : j < (regInfo r).nj) {f : Nat × Nat × Acc} (hf : f ∈ (regInfo r).fields) [Decidable (withinHalf h f)] :
    bitsOf ((s.answered m r i j h).rd r i j) f.1 f.2.1 =
      if f.2.2 = .rc ∧ withinHalf h f then (if r = .tsvStat then s.get F.tsvStat_XC_BUSY else 0)
      else bitsOf (s.rd r i j) f.1 f.2.1 := by
  rw [State.answered, State.rd_congr (State.busAnswer_regs _ _ _)]
  by_cases hr : r = .tsvStat
  · subst hr
    obtain rfl : i = 0 := Nat.lt_one_iff.mp hi
    obtain rfl : j = 0 := Nat.lt_one_iff.mp hj
    obtain rfl : f = (45, 32, .rc) := List.mem_singleton.mp hf
    rw [s.xcPeak_clearRc h]
    cases h <;> simp [withinHalf, State.get]
  · rw [s.rd_clearRc hr, bitsOf_clearedRc r h _ hf, if_neg hr]

end Sys2Proof.Machine
end

section
/-! An access that is served at once: from its master to its register and back (R325, R651, R656, R657). -/
namespace Sys2Proof.Machine

/-- Every register lies below the SRAMs. -/
theorem regIds_below : (regIds.all fun r => decide ((regInfo r).base + (regInfo r).span < 0x2000000)) = true := by decide +kernel

theorem regAddr_lt {r : RegId} {i j : Nat} (hi : i < (regInfo r).ni) (hj : j < (regInfo r).nj) : regAddr r i j < 0x2000000 := by
  have h := of_decide_eq_true (List.all_eq_true.mp regIds_below r (regIds_all r))
  have mi : (regInfo r).si * i ≤ (regInfo r).si * ((regInfo r).ni - 1) := Nat.mul_le_mul_left _ (by omega)
  have mj : (regInfo r).sj * j ≤ (regInfo r).sj * ((regInfo r).nj - 1) := Nat.mul_le_mul_left _ (by omega)
  simp only [RegInfo.span] at h
  simp only [regAddr]
  omega

theorem cpOnly_eq_false {m : Master} {a : Nat} (h : a < 0x2000000) : cpOnly m a = false := by
  unfold cpOnly
  split
  · simp only [inCpSram, inIsram, Bool.or_eq_false_iff, Bool.and_eq_false_iff, decide_eq_false_iff_not]
    omega
  · rfl

theorem inDsram_eq_false {a : Nat} (h : a < 0x2000000) : inDsram a = false := by
  simp only [inDsram, Bool.and_eq_false_iff, decide_eq_false_iff_not]
  omega

/-- What an access that is served at once meets on its way. -/
structure State.Reaches (s : State) (m : Master) (r : RegId) (i j : Nat) : Prop where
  hi : i < (regInfo r).ni
  hj : j < (regInfo r).nj
  free : tabGet none s.par.stalls (portCode m) = none
  ungated : s.gated (regAddr r i j) = false
  port : (portReg r && !s.leads i) = false
  bus : ∀ a : Access, a.m = m → a.addr = regAddr r i j → s.bus a = s.access a

theorem State.reaches_of_serves {s : State} {m : Master} {r : RegId} {i j : Nat} (hs : s.serves m r i j = true) : s.Reaches m r i j := by
  simp only [State.serves, Bool.and_eq_true, decide_eq_true_eq, Bool.not_eq_true', Option.isNone_iff_eq_none] at hs
  obtain ⟨⟨⟨⟨⟨⟨hi, hj⟩, hdeaf⟩, hfree⟩, hopen⟩, hport⟩, hm⟩ := hs
  refine ⟨hi, hj, hfree, hopen, ?_, fun a ham haddr => ?_⟩
  · cases hp : portReg r <;> simp_all
  · unfold State.bus
    subst ham
    rw [if_neg (by simp [hdeaf])]
    split at hm <;> simp_all

/-- The access of a read of a register. -/
abbrev readAccess (m : Master) (r : RegId) (i j : Nat) (h : Half) : Access := { m := m, write := false, addr := regAddr r i j, h := h }

/-- The state in which a read stands at its master's port. -/
abbrev State.stalledRead (s : State) (m : Master) (r : RegId) (i j : Nat) (h : Half) : State :=
  s.setPar { s.par with stalls := tabSet none s.par.stalls (portCode m) (some (readAccess m r i j h)) }

theorem State.serveRead_of_serves {s : State} {m : Master} {r : RegId} {i j : Nat} (h : Half) (hs : s.serves m r i j = true) :
    s.serveRead (readAccess m r i j h) = s.regRead m r i j h := by
  have hr := State.reaches_of_serves hs
  have ha := regAddr_lt hr.hi hr.hj
  unfold State.serveRead
  simp [hr.ungated, cpOnly_eq_false ha, inDsram_eq_false ha, regAt_regAddr r i j hr.hi hr.hj, hr.port]

/-- A read that is served at once answers what its register's read gives. -/
theorem State.readOf_of_regRead {s t : State} {m : Master} {r : RegId} {i j : Nat} {h : Half} {w : Word}
    (hs : s.serves m r i j = true) (hw : s.regRead m r i j h = some (w, t)) :
    s.readOf m r i j h = t.busAnswer (readAccess m r i j h) w := by
  have hr := State.reaches_of_serves hs
  rw [State.readOf, if_pos ⟨hr.hi, hr.hj⟩, hr.bus _ rfl rfl, State.access]
  simp only [hr.free, State.serve, Bool.false_eq_true, if_false, State.serveRead_of_serves h hs, hw]

/-- Where its register's read stalls, the access stands at its master's port (R656, R816). -/
theorem State.readOf_of_stall {s : State} {m : Master} {r : RegId} {i j : Nat} {h : Half}
    (hs : s.serves m r i j = true) (hw : s.regRead m r i j h = none) :
    s.readOf m r i j h = s.stalledRead m r i j h := by
  have hr := State.reaches_of_serves hs
  rw [State.readOf, if_pos ⟨hr.hi, hr.hj⟩, hr.bus _ rfl rfl, State.access]
  simp only [hr.free, State.serve, Bool.false_eq_true, if_false, State.serveRead_of_serves h hs, hw]

/-- A served read of a register without a rule of its own. -/
theorem State.readOf_ordinary {s : State} {m : Master} {r : RegId} {i j : Nat} {h : Half} (hs : s.serves m r i j = true)
    (hw : s.regRead m r i j h = some (halfOf h (s.view m r i j), s.clearRc r i j h)) :
    s.readOf m r i j h = s.answered m r i j h := State.readOf_of_regRead hs hw

end Sys2Proof.Machine
end

section
/-! FIFOs, captures and queues: what a read of their register does (R70-R73, R186, R367, R368, R816). -/
namespace Sys2Proof.Machine

/-! ### FIFOs (R816) -/

theorem Fifo.read_full_of_cur {f : Fifo} {w : Word} {l : List Word} (k : Nat) (hc : f.cur = w :: l) :
    f.read k .full = some (w, { f with cur := l, lastEnd := l.isEmpty }) := by
  simp [Fifo.read, hc, halfOf, Fifo.keep]

theorem Fifo.read_full_of_items {f : Fifo} {w : Word} {l : List Word} {r : List (List Word)} (k : Nat) (hc : f.cur = [])
    (hi : f.items = (w :: l) :: r) : f.read k .full = some (w, { f with items := r, cur := l, lastEnd := l.isEmpty }) := by
  simp [Fifo.read, hc, hi, halfOf, Fifo.keep]

theorem Fifo.read_empty {f : Fifo} (k : Nat) {h : Half} (hh : h ≠ .high) (hc : f.cur = []) (hi : f.items = []) : f.read k h = none := by
  simp [Fifo.read, hc, hi, hh]

/-- A read of the low half takes what a full read takes, and notes the word for the requester. -/
theorem Fifo.read_low_of_full {f g : Fifo} {k : Nat} {w : Word} (h : f.read k .full = some (w, g)) :
    f.read k .low = some (w &&& 0xffffffff, { g with half := tabSet 0 f.half k w }) := by
  rcases hc : f.cur with _ | ⟨v, l⟩
  · rcases hi : f.items with _ | ⟨_ | ⟨v, l⟩, r⟩
    · simp [Fifo.read, hc, hi] at h
    · simp [Fifo.read, hc, hi] at h
    · obtain ⟨rfl, rfl⟩ : v = w ∧ _ = g := by simpa using (Fifo.read_full_of_items k hc hi).symm.trans h
      simp [Fifo.read, hc, hi, halfOf, Fifo.keep]
  · obtain ⟨rfl, rfl⟩ : v = w ∧ _ = g := by simpa using (Fifo.read_full_of_cur k hc).symm.trans h
    simp [Fifo.read, hc, halfOf, Fifo.keep]

theorem Fifo.read_high (f : Fifo) (k : Nat) : f.read k .high = some (tabGet 0 f.half k >>> 32, f) := rfl

/-- The two halves of a word, one after the other. -/
theorem Fifo.read_halves {f g : Fifo} {k : Nat} {w : Word} (h : f.read k .full = some (w, g)) :
    ∃ x : Fifo, f.read k .low = some (w &&& 0xffffffff, x) ∧ x.read k .high = some (w >>> 32, x) ∧ x.cur = g.cur ∧
      x.items = g.items ∧ x.lastEnd = g.lastEnd :=
  ⟨_, Fifo.read_low_of_full h, by rw [Fifo.read_high, tabGet_tabSet_same], rfl, rfl, rfl⟩

/-! ### Captures (R70-R73, R186) -/

theorem find?_tabPut_same {α : Type} (t : Tab α) (k : Nat) (v : α) : (tabPut t k v).find? (fun e => e.1 == k) = some (k, v) := by
  induction t with
  | nil => simp [tabPut]
  | cons e t ih =>
    obtain ⟨j, w⟩ := e
    simp only [tabPut]
    split
    · simp
    · split
      · simp
      · rename_i h; simp [Ne.symm h, ih]

theorem find?_tabPut_ne {α : Type} (t : Tab α) {k k' : Nat} (v : α) (h : k' ≠ k) :
    (tabPut t k v).find? (fun e => e.1 == k') = t.find? (fun e => e.1 == k') := by
  induction t with
  | nil => simp [tabPut, Ne.symm h]
  | cons e t ih =>
    obtain ⟨j, w⟩ := e
    simp only [tabPut]
    split
    · simp [Ne.symm h]
    · split
      · subst_vars; simp [Ne.symm h]
      · simp only [List.find?_cons, ih]

theorem State.capture_regs (s : State) (m : Master) (n : Nat) : (s.capture m n).regs = s.regs := by
  unfold State.capture; dsimp only; split <;> rfl

/-- A capture: the time at the start of the cycle, with the bound, the state and the provenance at the capture (R70, R73). -/
theorem State.cap_capture_same (s : State) (m : Master) (n : Nat) : (s.capture m n).cap m n =
    { sec := secWord s.draw.1 (s.startTicks n), sub := subWord s.draw.1 (s.startTicks n), bound := BitVec.ofNat 64 (s.dom n).bound,
      state := BitVec.ofNat 64 (s.domStateWord n), prov := BitVec.ofNat 64 (provWord (s.dom n).prov),
      utc := if n = 0 then BitVec.ofNat 64 (codeOf 48 s.utcSec) else 0 } := by
  unfold State.capture State.cap
  dsimp only
  rw [find?_tabPut_same]
  split <;> rfl

/-- A capture leaves every other capture set alone (R72). -/
theorem State.cap_capture_ne (s : State) {m m' : Master} {n k : Nat} (hn : n < 32) (hk : k < 32)
    (hne : (reqCode m', k) ≠ (reqCode m, n)) : (s.capture m n).cap m' k = s.cap m' k := by
  have hkey : reqCode m' * 32 + k ≠ reqCode m * 32 + n := fun h => hne (by
    obtain ⟨h1, h2⟩ : reqCode m' = reqCode m ∧ k = n := by omega
    rw [h1, h2])
  unfold State.capture State.cap
  dsimp only
  rw [find?_tabPut_ne _ _ hkey]
  split <;> rfl

/-- The words of a time value within the format (R1, R3). -/
theorem timeVal_words {free : Nat} {t : Int} (h0 : 0 ≤ t) (h1 : t < timeSpan) :
    (secWord free t).toNat = t.toNat / Config.secTicks ∧
      (subWord free t).toNat = t.toNat % Config.secTicks / Config.nsTicks * 2 ^ 18 + t.toNat % Config.nsTicks := by
  obtain ⟨n, rfl⟩ := Int.eq_ofNat_of_zero_le h0
  have hn : n < 2 ^ 48 * Config.secTicks := Int.ofNat_lt.mp h1
  have hlow : n % Config.secTicks / Config.nsTicks * 2 ^ 18 + n % Config.nsTicks < 2 ^ 48 := by
    simp only [Config.secTicks, Config.nsTicks]; omega
  have hsec : n / Config.secTicks < 2 ^ 48 := Nat.div_lt_of_lt_mul (by rwa [Nat.mul_comm])
  have hv : timeVal free (n : Int) =
      n / Config.secTicks * 2 ^ 48 + (n % Config.secTicks / Config.nsTicks * 2 ^ 18 + n % Config.nsTicks) := by
    rw [timeVal, if_pos ⟨h0, h1⟩, Nat.add_assoc]; rfl
  simp only [secWord, subWord, hv, BitVec.toNat_ofNat, Int.toNat_natCast]
  constructor
  · rw [Nat.mul_comm, Nat.mul_add_div (by decide), Nat.div_eq_of_lt hlow, Nat.mod_eq_of_lt (by omega), Nat.add_zero]
  · rw [Nat.mul_comm (n / Config.secTicks), Nat.mul_add_mod, Nat.mod_eq_of_lt hlow, Nat.mod_eq_of_lt (by omega)]

/-- NS and FRAC of the captured time (R1). -/
theorem subWord_fields {free : Nat} {t : Int} (h0 : 0 ≤ t) (h1 : t < timeSpan) :
    bitsOf (subWord free t) 47 18 = t.toNat % Config.secTicks / 262144 ∧ bitsOf (subWord free t) 17 0 = t.toNat % 262144 := by
  rw [bitsOf_eq_div_mod _ 47 18 (by decide) (by decide), bitsOf_eq_div_mod _ 17 0 (by decide) (by decide), (timeVal_words h0 h1).2]
  simp only [Config.secTicks, Config.nsTicks]
  omega

theorem codeOf_lt (w : Nat) (x : Int) : codeOf w x < 2 ^ w := by
  have h : (0 : Int) < Int.ofNat (2 ^ w) := Int.ofNat_lt.mpr (Nat.two_pow_pos w)
  exact (Int.toNat_lt (Int.emod_nonneg x (ne_of_gt h))).mpr (Int.emod_lt_of_pos x h)

theorem find?_foldl_tabPut {α : Type} (g : Nat → α) (b : Nat) (t : Tab α) {n i : Nat} (hi : i < n) :
    ((List.range n).foldl (fun t i => tabPut t (b + i) (g i)) t).find? (fun e => e.1 == b + i) = some (b + i, g i) := by
  induction n with
  | zero => omega
  | succ n ih =>
    rw [List.range_succ, List.foldl_append, List.foldl_cons, List.foldl_nil]
    by_cases h : i = n
    · rw [h, find?_tabPut_same]
    · rw [find?_tabPut_ne _ _ (by omega), ih (by omega)]

/-- The four words of a message, captured together (R186). -/
theorem State.tmsgCap_captureTmsg (s : State) (m : Master) {i : Nat} (hi : i < 4) :
    (s.captureTmsg m).tmsgCap m i = s.rd .gnbTmsg i := by
  unfold State.captureTmsg State.tmsgCap
  rw [State.setGnb, find?_foldl_tabPut (fun i => s.rd .gnbTmsg i) _ _ hi]
  rfl

/-! ### Queues (R367, R368, R816) -/

/-- With no thread waiting there is nothing to assign (R368). -/
theorem State.qAssign_of_no_waiters {s : State} {q : Nat} (h : (s.queue q).waiters = []) : s.qAssign q = s := by
  simp [State.qAssign, qWake, h]

theorem State.queue_setQueue_same (s : State) (q : Nat) (x : Queue) : (s.setQueue q x).queue q = x := tabGet_tabSet_same _ _ _ _

theorem State.queue_setQueue_ne (s : State) {q k : Nat} (x : Queue) (h : k ≠ q) : (s.setQueue q x).queue k = s.queue k :=
  tabGet_tabSet_ne _ _ _ h

/-- What a read of a queue's data register takes: the first word; the claim ends with its item (R367). -/
structure State.TookWord (a u : State) (m : Master) (q : Nat) : Prop where
  words : (u.queue q).words = (a.queue q).words.drop 1
  lastEnd : (u.queue q).lastEnd = (a.qHead q).2
  claim : (u.queue q).claim = if (a.qHead q).2 then none else some m
  rd : (u.queue q).rd = a.qStep q (a.queue q).rd 1
  others : ∀ k : Nat, k ≠ q → u.queue k = a.queue k
  regs : u.regs = a.regs

theorem State.qTake_took (a : State) (m : Master) (q : Nat) : a.TookWord (a.qTake q m) m q := by
  unfold State.qTake
  refine ⟨?_, ?_, ?_, ?_, fun k hk => State.queue_setQueue_ne _ _ hk, rfl⟩ <;> rw [State.queue_setQueue_same]

/-- A word noted for the requester's read of the other half takes nothing more. -/
theorem State.TookWord.keep {a u : State} {m : Master} {q : Nat} (h : a.TookWord u m q) (t : Tab Word) :
    a.TookWord (u.setQueue q { u.queue q with half := t }) m q := by
  refine ⟨?_, ?_, ?_, ?_, fun k hk => (State.queue_setQueue_ne _ _ hk).trans (h.others k hk), h.regs⟩ <;>
    rw [State.queue_setQueue_same]
  exacts [h.words, h.lastEnd, h.claim, h.rd]

/-- A read of a queue's data register, where the reader finds a word (R367). -/
theorem State.queueRead_of_canGet {s : State} {m : Master} {q : Nat} {h : Half} (hh : h ≠ .high)
    (hg : (s.qAssign q).qCanGet q m = true) :
    ∃ u : State, s.queueRead m q h = some (halfOf h ((s.qAssign q).qHead q).1, u) ∧ (s.qAssign q).TookWord u m q := by
  have took := (s.qAssign q).qTake_took m q
  unfold State.queueRead
  simp only [if_neg hh, hg, Bool.not_true, Bool.false_eq_true, if_false]
  split
  · exact ⟨_, rfl, took.keep _⟩
  · exact ⟨_, rfl, took⟩

theorem State.queueRead_of_cannotGet {s : State} {m : Master} {q : Nat} {h : Half} (hh : h ≠ .high)
    (hg : (s.qAssign q).qCanGet q m = false) : s.queueRead m q h = none := by
  simp only [State.queueRead, if_neg hh, hg, Bool.not_false, if_true]

end Sys2Proof.Machine
end

section
/-! The rows that read registers, and the statement about them. -/
namespace Sys2Proof.Machine

/-- A served read of a FIFO's data register: `f₀` is the FIFO, `put` replaces it, `get` finds it again. -/
theorem readOf_fifo {s : State} {m : Master} {r : RegId} {i j : Nat} {h : Half} (f₀ : Fifo) (put : Fifo → State) (get : State → Fifo)
    (hr : s.regRead m r i j h = (f₀.read (halfKey m) h).map fun e => (e.1, put e.2)) (hget : ∀ f, get (put f) = f)
    (hregs : ∀ f, (put f).regs = s.regs) (hs : s.serves m r i j = true) :
    (∀ (w : Word) (f : Fifo), f₀.read (halfKey m) h = some (w, f) → ∃ u : State,
      (.next (s.readOf m r i j h) : Res) = .next (u.busAnswer (readAccess m r i j h) w) ∧ get u = f ∧ u.regs = s.regs) ∧
    (f₀.read (halfKey m) h = none → (.next (s.readOf m r i j h) : Res) = .next (s.stalledRead m r i j h)) := by
  refine ⟨fun w f hf => ⟨put f, ?_, hget f, hregs f⟩, fun hn => ?_⟩
  · rw [State.readOf_of_regRead hs (hr.trans (by rw [hf]; rfl))]
  · rw [State.readOf_of_stall hs (hr.trans (by rw [hn]; rfl))]

/-- What a read of a register leaves of every register, and what it answers (R13, R815). -/
theorem answered_registers (s : State) (m : Master) (h : Half) (r : RegId) (i j : Nat) (hi : i < (regInfo r).ni)
    (hj : j < (regInfo r).nj) :
    ((∀ t : Nat, m ≠ .thread t) → (s.answered m r i j h).out = .readData m (halfOf h (s.view m r i j)) :: s.out) ∧
    (∀ f ∈ (regInfo r).fields, bitsOf ((s.answered m r i j h).rd r i j) f.1 f.2.1 =
      if f.2.2 = .rc ∧ (h = .full ∨ h = .low ∧ f.1 < 32 ∨ h = .high ∧ 32 ≤ f.2.1)
      then (if r = .tsvStat then s.get F.tsvStat_XC_BUSY else 0)
      else bitsOf (s.rd r i j) f.1 f.2.1) ∧
    ∀ (r' : RegId) (i' j' : Nat), i' < (regInfo r').ni → j' < (regInfo r').nj → (r', i', j') ≠ (r, i, j) →
      (s.answered m r i j h).rd r' i' j' = s.rd r' i' j' := by
  refine ⟨fun hm => ?_, fun f hf => ?_, fun r' i' j' hi' hj' hne => ?_⟩
  · rw [State.answered, State.busAnswer_out _ _ hm, State.clearRc_out]
  · have : Decidable (withinHalf h f) := inferInstanceAs (Decidable (h = .full ∨ h = .low ∧ f.1 < 32 ∨ h = .high ∧ 32 ≤ f.2.1))
    exact (s.bitsOf_answered m h hi hj hf).trans (by congr)
  · rw [State.answered, State.rd_congr (State.busAnswer_regs _ _ _), s.rd_clearRc_ne h hi hj hi' hj' hne]

/-- DOMAIN_TIME_CAPTURE (R70-R73). -/
theorem domainTimeCapture_reads (s : State) (m : Master) (h : Half) (n : Nat) (hs : s.serves m .domTimeSec n 0 = true) :
    (h ≠ .high → ∃ u : State,
      exec (.domainTimeCapture m n h) s = .next (u.busAnswer (readAccess m .domTimeSec n 0 h) (halfOf h (u.cap m n).sec)) ∧
      (u.cap m n).bound.toNat = (s.dom n).bound % 2 ^ 64 ∧
      (u.cap m n).state.toNat = s.domStateWord n % 2 ^ 64 ∧ (u.cap m n).prov.toNat = provWord (s.dom n).prov % 2 ^ 64 ∧
      (0 ≤ s.startTicks n → s.startTicks n < timeSpan →
        (u.cap m n).sec.toNat = (s.startTicks n).toNat / Config.secTicks ∧
        bitsOf (u.cap m n).sub 47 18 = (s.startTicks n).toNat % Config.secTicks / 262144 ∧
        bitsOf (u.cap m n).sub 17 0 = (s.startTicks n).toNat % 262144) ∧
      (n = 0 → (u.cap m n).utc.toNat = codeOf 48 s.utcSec) ∧ u.regs = s.regs ∧
      ∀ (m' : Master) (k : Nat), k < 32 → (reqCode m', k) ≠ (reqCode m, n) → u.cap m' k = s.cap m' k) ∧
    (h = .high → exec (.domainTimeCapture m n h) s =
      .next (s.busAnswer (readAccess m .domTimeSec n 0 h) ((s.cap m n).sec >>> 32))) := by
  have hn : n < 32 := (State.reaches_of_serves hs).hi
  constructor
  · intro hh
    have hr : s.regRead m .domTimeSec n 0 h = some (halfOf h ((s.capture m n).cap m n).sec, s.capture m n) := by
      simp only [State.regRead, if_neg hh]
    refine ⟨s.capture m n, ?_, ?_, ?_, ?_, ?_, ?_, s.capture_regs m n, fun m' k hk hne => s.cap_capture_ne hn hk hne⟩
    · rw [exec_domainTimeCapture, execDomainTimeCapture, State.readOf_of_regRead hs hr]
    all_goals rw [s.cap_capture_same]
    · exact BitVec.toNat_ofNat _ _
    · exact BitVec.toNat_ofNat _ _
    · exact BitVec.toNat_ofNat _ _
    · exact fun h0 h1 => ⟨(timeVal_words h0 h1).1, subWord_fields h0 h1⟩
    · rintro rfl
      exact (BitVec.toNat_ofNat _ _).trans (Nat.mod_eq_of_lt (lt_trans (codeOf_lt 48 _) (by decide)))
  · rintro rfl
    rw [exec_domainTimeCapture, execDomainTimeCapture,
      State.readOf_of_regRead hs (show s.regRead m .domTimeSec n 0 .high = some ((s.cap m n).sec >>> 32, s) from rfl)]

/-- GNB_TMSG_CAPTURE (R186). -/
theorem gnbTmsgCapture_reads (s : State) (m : Master) (h : Half) (hs : s.serves m .gnbTmsg 0 0 = true) (hh : h ≠ .high) :
    ∃ u : State, exec (.gnbTmsgCapture m h) s = .next (u.busAnswer (readAccess m .gnbTmsg 0 0 h) (halfOf h (s.rd .gnbTmsg 0))) ∧
      (∀ i < 4, u.tmsgCap m i = s.rd .gnbTmsg i) ∧ u.regs = s.regs := by
  have hr : s.regRead m .gnbTmsg 0 0 h = some (halfOf h (s.rd .gnbTmsg 0), s.captureTmsg m) := by
    simp [State.regRead, hh, s.tmsgCap_captureTmsg m (show 0 < 4 by decide)]
  exact ⟨s.captureTmsg m, by rw [exec_gnbTmsgCapture, execGnbTmsgCapture, State.readOf_of_regRead hs hr],
    fun i hi => s.tmsgCap_captureTmsg m hi, rfl⟩

/-- QUEUE_DATA_READ (R367, R368, R816). -/
theorem queueDataRead_reads (s : State) (m : Master) (h : Half) (q : Nat) (hs : s.serves m .qData q 0 = true) (hh : h ≠ .high) :
    ((s.queue q).waiters = [] → s.qAssign q = s) ∧
    ((s.qAssign q).qCanGet q m = true → ∃ u : State,
      exec (.queueDataRead m q h) s =
        .next (u.busAnswer (readAccess m .qData q 0 h) (halfOf h ((s.qAssign q).qHead q).1)) ∧
      (s.qAssign q).TookWord u m q) ∧
    ((s.qAssign q).qCanGet q m = false → exec (.queueDataRead m q h) s = .next (s.stalledRead m .qData q 0 h)) := by
  refine ⟨State.qAssign_of_no_waiters, fun hg => ?_, fun hg => ?_⟩
  · obtain ⟨u, hr, took⟩ := State.queueRead_of_canGet hh hg
    exact ⟨u, by rw [exec_queueDataRead, execQueueDataRead, State.readOf_of_regRead hs hr], took⟩
  · rw [exec_queueDataRead, execQueueDataRead, State.readOf_of_stall hs (State.queueRead_of_cannotGet hh hg)]

/-- Settles O48: a served read runs its register's read (`readOf_of_regRead`); an ordinary one clears its RC fields (`bitsOf_answered`),
and captures, FIFOs and queues each by their own lemma. -/
theorem registerReadsAnswer : Obligations.RegisterReadsAnswer := by
  unfold Obligations.RegisterReadsAnswer
  refine ⟨fun f k w l r => ⟨Fifo.read_full_of_cur k, Fifo.read_full_of_items k,
    fun hc hi => ⟨Fifo.read_empty k (by decide) hc hi, Fifo.read_empty k (by decide) hc hi⟩, fun g => Fifo.read_halves⟩,
    fun s m h => ?_⟩
  intro acc stalled
  refine ⟨answered_registers s m h, fun a b x hx => ?ordinary, domainTimeCapture_reads s m h, gnbTmsgCapture_reads s m h,
    fun a => readOf_fifo _ (fun f => { s with rim := { s.rim with
      emus := tabSet {} s.rim.emus a { tabGet {} s.rim.emus a with fifo := f } } }) (fun u => (tabGet {} u.rim.emus a).fifo) rfl
      (fun f => ?emu) fun _ => rfl,
    readOf_fifo _ (fun f => s.setGnb { s.gnb with tapf := f }) (fun u => u.gnb.tapf) rfl (fun _ => rfl) fun _ => rfl,
    fun a => readOf_fifo _ (fun f => s.setNport a { s.nport a with txts := f }) (fun u => (u.nport a).txts) rfl (fun f => ?txts)
      fun _ => rfl,
    readOf_fifo _ (fun f => s.setHrl { s.hrl with rxf := f }) (fun u => u.hrl.rxf) rfl (fun _ => rfl) fun _ => rfl,
    readOf_fifo _ (fun f => { s with sup := { s.sup with ledger := f } }) (fun u => u.sup.ledger) rfl (fun _ => rfl) fun _ => rfl,
    fun q hs hh => ?queue⟩
  case emu => simp only [tabGet_tabSet_same]
  case txts => simp only [State.nport, State.setNport, tabGet_tabSet_same]
  case queue =>
    obtain ⟨hidle, hget, hnone⟩ := queueDataRead_reads s m h q hs hh
    refine ⟨hidle, fun hg => ?_, hnone⟩
    obtain ⟨u, hu, took⟩ := hget hg
    exact ⟨u, hu, took.words, took.lastEnd, took.claim, took.rd, took.others, took.regs⟩
  case ordinary =>
    simp only [List.mem_cons, List.not_mem_nil, or_false] at hx
    rcases hx with rfl | rfl | rfl | rfl | rfl | rfl | rfl | rfl | rfl | rfl | rfl | rfl | rfl | rfl | rfl | rfl | rfl | rfl | rfl |
      rfl | rfl | rfl | rfl | rfl | rfl | rfl <;>
    exact fun hs => congrArg Host.Outcome.next (State.readOf_ordinary hs rfl)

end Sys2Proof.Machine
end

section
/-! Register writes: a state that is not well formed, in which a partition reset does not show. -/
namespace Sys2Proof.Machine

/-- A state that is not well formed: a KMAC of a thread of PT2 waits on key slot 130944, where KVC has 256. The address that the stride
of VSs_CFG gives this slot is that of PAR_STAT. PT2 is ENABLED, beside PT0 and PT1. -/
def waitsOnStraySlot : State :=
  let s := ((State.reset.wr .parStat 7).wr .parPtCfg 1 2).put F.thrCfg_PART 2 0
  s.setKvc { s.kvc with waits := [{ slot := 130944, gen := 0, op := .kmac 0 0 [] }] }

/-- Clearing EN of PT2 resets it and ends the wait. The low bits of PAR_STAT read as the slot's state ERASING, so the slot is emptied, and
RESETTING of PT2 with it. -/
theorem stored_straySlot_resetting :
    (waitsOnStraySlot.stored (.fn 0) .parPtCfg 2 0 .full 0).resetting 2 = false := by decide +kernel

/-- Refutes O49, in its clause on PAR_PTp_CFG.EN (R625): a partition whose EN is cleared is not left RESETTING where an operation waits on
a key slot beyond the 256 of KVC, whose VSs_CFG would stand at the address of PAR_STAT. The statement takes such a state in. -/
theorem not_registerWritesTakeEffect : ¬ Obligations.RegisterWritesTakeEffect := by
  unfold Obligations.RegisterWritesTakeEffect
  intro h
  obtain ⟨-, -, h⟩ := h
  obtain ⟨-, -, -, -, -, -, hPart, -⟩ := h waitsOnStraySlot (.fn 0) .full 0 0 0
  obtain ⟨-, hReset⟩ := hPart 2 (by decide) (by decide) (by decide +kernel) (by decide +kernel)
  obtain ⟨hResetting, -⟩ := hReset (by decide) (by decide +kernel) (by decide +kernel)
  exact absurd hResetting (by rw [stored_straySlot_resetting]; decide)

end Sys2Proof.Machine
end

section
/-! Commands: the mode is judged before the caller and the operands (R19, R646, R712). -/
namespace Sys2Proof.Machine

/-- What a command of opcode `op` leaves where the mode decides: the state itself while nothing is served, the refusal and its ledger
entry where the opcode is not legal. -/
def State.JudgedByMode (s : State) (c : Caller) (op : Nat) (t : State) : Prop :=
  (s.served = false → t = s) ∧
    (s.served = true → s.legal op = false → t = (s.logRefused c op (s.cCmdId c)).complete c op .refusedMode)

theorem modeFirst_of_judged {i : Instr} {c : Caller} {op : Nat} (f : State → State) (he : ∀ s, exec i s = .next (f s))
    (hj : ∀ s : State, s.JudgedByMode c op (f s)) : ModeFirst i c op := fun s =>
  ⟨fun hs => by rw [he, (hj s).1 hs], fun hs hl => by rw [he, (hj s).2 hs hl]⟩

theorem State.runCmd_judged (s eff : State) (c : Caller) (op : Nat) (l : List (Bool × Status)) (r : List Byte) :
    s.JudgedByMode c op (s.runCmd c op l eff r) :=
  ⟨fun hs => s.runCmd_unserved eff c op l r hs, fun hs hl => s.runCmd_illegal eff c op l r hs hl⟩

theorem State.runDeferred_judged (s eff : State) (c : Caller) (op : Nat) (l : List (Bool × Status)) :
    s.JudgedByMode c op (s.runDeferred c op l eff) :=
  ⟨fun hs => by simp [State.runDeferred, hs], fun hs hl => by simp [State.runDeferred, hs, hl]⟩

/-- A branch that is taken only in a mode that admits the opcode leaves the mode's judgement as it was. -/
theorem State.JudgedByMode.ite_admits {s t u : State} {c : Caller} {op : Nat} {b : Bool} (hb : b = true → s.admits op = true)
    (hu : s.JudgedByMode c op u) : s.JudgedByMode c op (if b = true then t else u) := by
  by_cases h : b = true
  · have ha := hb h
    simp only [State.admits, Bool.and_eq_true] at ha
    obtain ⟨hs, hl⟩ := ha
    exact ⟨fun h' => by simp [hs] at h', fun _ h' => by simp [hl] at h'⟩
  · simpa only [if_neg h] using hu

theorem State.runRsh_judged (s eff : State) (c : Caller) (op : Nat) (b : Bool) (l : List (Bool × Status)) (r : List Byte) :
    s.JudgedByMode c op (s.runRsh c op b l eff r) :=
  .ite_admits (fun h => by simp_all [State.admits]) (s.runCmd_judged eff c op l r)

theorem State.runFw_judged (s eff : State) (c : Caller) (op : Nat) (l : List (Bool × Status)) :
    s.JudgedByMode c op (s.runFw c op l eff) :=
  .ite_admits (fun h => by simp_all [State.admits]) (s.runCmd_judged eff c op _ _)

theorem modeFirst_of_runCmd {i : Instr} {c : Caller} {op : Nat} {l : State → List (Bool × Status)} {eff : State → State}
    {r : State → List Byte} (he : ∀ s, exec i s = .next (s.runCmd c op (l s) (eff s) (r s))) : ModeFirst i c op :=
  modeFirst_of_judged _ he fun s => s.runCmd_judged _ c op _ _

theorem modeFirst_of_runDeferred {i : Instr} {c : Caller} {op : Nat} {l : State → List (Bool × Status)} {eff : State → State}
    (he : ∀ s, exec i s = .next (s.runDeferred c op (l s) (eff s))) : ModeFirst i c op :=
  modeFirst_of_judged _ he fun s => s.runDeferred_judged _ c op _

theorem modeFirst_of_runRsh {i : Instr} {c : Caller} {op : Nat} {b : State → Bool} {l : State → List (Bool × Status)}
    {eff : State → State} {r : State → List Byte} (he : ∀ s, exec i s = .next (s.runRsh c op (b s) (l s) (eff s) (r s))) :
    ModeFirst i c op :=
  modeFirst_of_judged _ he fun s => s.runRsh_judged _ c op _ _ _

theorem modeFirst_of_runFw {i : Instr} {c : Caller} {op : Nat} {l : State → List (Bool × Status)} {eff : State → State}
    (he : ∀ s, exec i s = .next (s.runFw c op (l s) (eff s))) : ModeFirst i c op :=
  modeFirst_of_judged _ he fun s => s.runFw_judged _ c op _

theorem almCancel_modeFirst {c : Caller} {slot : Nat} : ModeFirst (.almCancel c slot) c 0x19 :=
  modeFirst_of_judged _ (fun _ => rfl) fun s =>
    .ite_admits (fun h => by simp_all [State.admits]) (s.runCmd_judged _ c _ _ _)

theorem fwConfirm_modeFirst {c : Caller} {force : Bool} : ModeFirst (.fwConfirm c force) c 0xb8 :=
  modeFirst_of_judged _ (fun _ => rfl) fun s =>
    .ite_admits (fun h => by simp_all [State.admits]) (s.runCmd_judged _ c _ _ _)

theorem attestQuote_modeFirst {c : Caller} {nonce : List Byte} {target : Nat} : ModeFirst (.attestQuote c nonce target) c 0xb9 :=
  modeFirst_of_judged _ (fun _ => rfl) fun s => by
    dsimp only
    split
    · exact s.runDeferred_judged _ c _ _
    · exact s.runCmd_judged _ c _ _ _

theorem assocFlush_modeFirst {c : Caller} {a : Option Nat} : ModeFirst (.assocFlush c a) c 0x73 :=
  match a with
  | some _ => modeFirst_of_runCmd fun _ => rfl
  | none => modeFirst_of_runCmd fun _ => rfl

theorem portSend_modeFirst {c : Caller} {port queue : Nat} {frame : List Byte} {tsReq : Option Nat}
    {insert timeOfs corrOfs csumOfs : Nat} {launch : Option TimeVal} {opp : Nat} :
    ModeFirst (.portSend c port queue frame tsReq insert timeOfs corrOfs csumOfs launch opp) c 0xd4 :=
  match launch with
  | some _ => modeFirst_of_runDeferred fun _ => rfl
  | none => modeFirst_of_runCmd fun _ => rfl

/-- Settles O57: every row's meaning is one of the five ways in which a command is judged, each of which asks the mode first. -/
theorem commandsAreJudgedByMode : Obligations.CommandsAreJudgedByMode := fun _ =>
  ⟨fun _ _ _ _ => modeFirst_of_runCmd fun _ => rfl, fun _ _ _ => modeFirst_of_runCmd fun _ => rfl,
    fun _ => modeFirst_of_runCmd fun _ => rfl, fun _ => modeFirst_of_runCmd fun _ => rfl, fun _ _ => modeFirst_of_runCmd fun _ => rfl,
    fun _ _ _ _ => modeFirst_of_runCmd fun _ => rfl, fun _ _ => modeFirst_of_runCmd fun _ => rfl,
    fun _ _ _ _ _ _ _ => modeFirst_of_runRsh fun _ => rfl, fun _ => almCancel_modeFirst,
    fun _ _ _ _ _ _ _ _ _ _ _ _ => modeFirst_of_runCmd fun _ => rfl, fun _ => modeFirst_of_runCmd fun _ => rfl,
    fun _ => modeFirst_of_runCmd fun _ => rfl, fun _ => modeFirst_of_runCmd fun _ => rfl,
    fun _ _ _ _ _ _ => modeFirst_of_runCmd fun _ => rfl, fun _ => modeFirst_of_runCmd fun _ => rfl,
    fun _ _ _ => modeFirst_of_runCmd fun _ => rfl, fun _ _ _ _ _ => modeFirst_of_runCmd fun _ => rfl, modeFirst_of_runCmd fun _ => rfl,
    fun _ => modeFirst_of_runCmd fun _ => rfl, fun _ => modeFirst_of_runCmd fun _ => rfl, fun _ _ => modeFirst_of_runCmd fun _ => rfl,
   modeFirst_of_runRsh fun _ => rfl, modeFirst_of_runRsh fun _ => rfl, fun _ => modeFirst_of_runRsh fun _ => rfl,
    fun _ _ _ => modeFirst_of_runRsh fun _ => rfl, fun _ _ => modeFirst_of_runCmd fun _ => rfl,
    fun _ => modeFirst_of_runRsh fun _ => rfl, fun _ => modeFirst_of_runCmd fun _ => rfl, fun _ => modeFirst_of_runCmd fun _ => rfl,
    fun _ _ _ _ _ _ _ => modeFirst_of_runCmd fun _ => rfl, fun _ _ => modeFirst_of_runCmd fun _ => rfl,
    fun _ _ => modeFirst_of_runCmd fun _ => rfl, fun _ => modeFirst_of_runCmd fun _ => rfl, fun _ => modeFirst_of_runCmd fun _ => rfl,
    fun _ _ _ _ _ _ _ => modeFirst_of_runCmd fun _ => rfl, fun _ => modeFirst_of_runCmd fun _ => rfl,
    fun _ => modeFirst_of_runCmd fun _ => rfl, fun _ _ => modeFirst_of_runCmd fun _ => rfl, fun _ _ => modeFirst_of_runCmd fun _ => rfl,
    fun _ => modeFirst_of_runCmd fun _ => rfl, fun _ _ => modeFirst_of_runCmd fun _ => rfl, modeFirst_of_runCmd fun _ => rfl,
    fun _ _ _ => modeFirst_of_runCmd fun _ => rfl, fun _ _ _ => modeFirst_of_runCmd fun _ => rfl,
    fun _ => modeFirst_of_runCmd fun _ => rfl, fun _ _ _ _ _ _ _ _ _ _ _ _ _ _ _ => modeFirst_of_runCmd fun _ => rfl,
    fun _ => modeFirst_of_runCmd fun _ => rfl, fun _ _ _ => modeFirst_of_runCmd fun _ => rfl, fun _ => assocFlush_modeFirst,
    fun _ _ _ _ _ => modeFirst_of_runCmd fun _ => rfl, fun _ _ _ => modeFirst_of_runDeferred fun _ => rfl,
    fun _ _ _ _ => modeFirst_of_runCmd fun _ => rfl, fun _ _ _ _ => modeFirst_of_runCmd fun _ => rfl,
    fun _ => modeFirst_of_runDeferred fun _ => rfl, fun _ => modeFirst_of_runCmd fun _ => rfl,
    fun _ _ => modeFirst_of_runDeferred fun _ => rfl, fun _ _ => modeFirst_of_runCmd fun _ => rfl,
    fun _ _ _ _ _ => modeFirst_of_runCmd fun _ => rfl, fun _ => modeFirst_of_runDeferred fun _ => rfl, modeFirst_of_runCmd fun _ => rfl,
    fun _ => modeFirst_of_runCmd fun _ => rfl, fun _ => modeFirst_of_runCmd fun _ => rfl, fun _ _ => modeFirst_of_runCmd fun _ => rfl,
   modeFirst_of_runCmd fun _ => rfl, modeFirst_of_runCmd fun _ => rfl, modeFirst_of_runCmd fun _ => rfl,
    fun _ => modeFirst_of_runCmd fun _ => rfl, fun _ => modeFirst_of_runDeferred fun _ => rfl,
    fun _ _ => modeFirst_of_runCmd fun _ => rfl, fun _ _ => modeFirst_of_runCmd fun _ => rfl, modeFirst_of_runCmd fun _ => rfl,
   modeFirst_of_runCmd fun _ => rfl, modeFirst_of_runCmd fun _ => rfl, modeFirst_of_runCmd fun _ => rfl,
    fun _ => modeFirst_of_runFw fun _ => rfl, fun _ _ => modeFirst_of_runFw fun _ => rfl, modeFirst_of_runFw fun _ => rfl,
   modeFirst_of_runFw fun _ => rfl, fun _ => fwConfirm_modeFirst, fun _ _ => attestQuote_modeFirst, modeFirst_of_runCmd fun _ => rfl,
    fun _ => modeFirst_of_runCmd fun _ => rfl, fun _ => modeFirst_of_runCmd fun _ => rfl, fun _ _ => modeFirst_of_runCmd fun _ => rfl,
    fun _ => modeFirst_of_runCmd fun _ => rfl, fun _ _ _ => modeFirst_of_runCmd fun _ => rfl,
    fun _ _ _ => modeFirst_of_runCmd fun _ => rfl, fun _ _ _ _ _ _ => modeFirst_of_runCmd fun _ => rfl,
    fun _ => modeFirst_of_runCmd fun _ => rfl, fun _ _ _ _ => modeFirst_of_runCmd fun _ => rfl,
    fun _ _ _ _ _ _ _ _ _ _ => portSend_modeFirst, fun _ _ _ _ => modeFirst_of_runCmd fun _ => rfl,
    fun _ => modeFirst_of_runCmd fun _ => rfl, fun _ => modeFirst_of_runCmd fun _ => rfl⟩

end Sys2Proof.Machine
end

section
/-! What reset leaves (R33, R62, R644, R698). -/
namespace Sys2Proof.Machine

/-- With no register written, every register holds its reset word. -/
theorem State.rd_of_regs_nil {s : State} (h : s.regs = []) (r : RegId) (i j : Nat) : s.rd r i j = regRst r i := by
  simp only [State.rd, h, tabGet]
  exact BitVec.zero_xor

theorem reset_dom_zero : State.reset.dom 0 = { kind := .ref, st := .stopped } := rfl

/-- After reset only D0 is configured. -/
theorem reset_dom_of_pos {d : Nat} (h : 1 ≤ d) : State.reset.dom d = {} := by
  simp [State.dom, State.reset, tabGet, Nat.ne_of_gt h]

theorem reset_parentsLower : State.reset.parentsLower := by
  intro n hn
  rcases Nat.eq_zero_or_pos n with rfl | hpos
  · rw [reset_dom_zero] at hn
    cases hn
  · rw [reset_dom_of_pos hpos] at hn
    cases hn

/-- Settles O56: the stores are empty at reset, and the table of domains lists D0 alone. -/
theorem resetLeavesTheBlockAtRest : Obligations.ResetLeavesTheBlockAtRest := by
  refine ⟨rfl, rfl, reset_memWf, reset_parentsLower, State.rd_of_regs_nil rfl, rfl, rfl, fun d hd => ?_, fun _ => rfl, rfl⟩
  rw [reset_dom_of_pos hd]
  exact ⟨rfl, rfl⟩

end Sys2Proof.Machine
end

section
/-! Due alarms: what a firing leaves in its slot, and the action that follows (R32, R88, R89, R93, R95, R128). -/
namespace Sys2Proof.Machine

/-! ### The slot's record -/

theorem State.alarm_setAlarm_same (s : State) (k : Nat) (a : Alarm) : (s.setAlarm k a).alarm k = a := tabGet_tabSet_same _ _ _ _

/-- The slot of a firing alarm that no other alarm has replaced: the fired alarm's record, but FIRED at its own instant where the slot was
released while the alarm was due (R95, R128). -/
structure FiredSlot (a : Alarm) (d : Due) (released : Prop) [Decidable released] : Prop where
  lateness : a.lateness = (firedAlarm d).lateness
  sFlag : a.sFlag = (firedAlarm d).sFlag
  lFlag : a.lFlag = (firedAlarm d).lFlag
  missed : a.missed = (firedAlarm d).missed
  st : a.st = if released then .fired else (firedAlarm d).st
  inst : a.inst = if released then d.al.inst else (firedAlarm d).inst

theorem State.noteFired_firedSlot {s : State} {d : Due} (h : (s.alarm d.slot).seq = d.al.seq) :
    FiredSlot ((s.noteFired d).alarm d.slot) d ((s.alarm d.slot).st = .cancelled) := by
  have ha : (s.noteFired d).alarm d.slot = _ :=
    (congrArg (State.alarm · d.slot) (if_pos h)).trans (State.alarm_setAlarm_same _ _ _)
  have hs : ∀ l : List Due, ∀ f : List Nat, State.alarm { s with tse := { s.tse with due := l, firedNow := f } } d.slot = s.alarm d.slot :=
    fun _ _ => rfl
  rw [ha, hs]
  by_cases hc : (s.alarm d.slot).st = .cancelled
  · simp only [if_pos hc]
    exact ⟨rfl, rfl, rfl, rfl, (if_pos hc).symm, (if_pos hc).symm⟩
  · simp only [if_neg hc]
    exact ⟨rfl, rfl, rfl, rfl, (if_neg hc).symm, (if_neg hc).symm⟩

theorem firedAlarm_flags (d : Due) : (firedAlarm d).lateness = d.lat ∧ (firedAlarm d).sFlag = d.step ∧
    (firedAlarm d).lFlag = d.al.lateArm := by
  unfold firedAlarm
  dsimp only
  split
  · exact ⟨rfl, rfl, rfl⟩
  · split <;> exact ⟨rfl, rfl, rfl⟩

theorem firedAlarm_oneShot {d : Due} (h : d.al.period = 0) : (firedAlarm d).st = .fired ∧ (firedAlarm d).inst = d.al.inst := by
  simp [firedAlarm, h]

theorem firedAlarm_periodic {d : Due} (h : 0 < d.al.period) (hs : d.step = false) :
    (firedAlarm d).st = d.al.st ∧ (firedAlarm d).inst = d.al.inst + d.al.period := by
  simp [firedAlarm, hs, Nat.ne_of_gt h]

/-- A step takes a periodic alarm past the domain's value, on its grid (R93). -/
theorem firedAlarm_stepped {d : Due} (h : 0 < d.al.period) (hs : d.step = true) :
    (firedAlarm d).st = d.al.st ∧ (firedAlarm d).inst = d.al.inst + (d.lat / d.al.period + 1) * d.al.period ∧
      (firedAlarm d).missed = satNat 32 (d.lat / d.al.period) := by
  simp [firedAlarm, hs, Nat.ne_of_gt h]

/-- The next point of a grid of pitch p after a distance l. -/
theorem grid_next_bounds {l p : Nat} (hp : 0 < p) : l < (l / p + 1) * p ∧ (l / p + 1) * p ≤ l + p := by
  have hdm := Nat.div_add_mod l p
  have hlt := Nat.mod_lt l hp
  rw [Nat.add_mul, Nat.one_mul, Nat.mul_comm]
  omega

/-- The slot's record after a firing (R89, R93, R95, R128). -/
theorem noteFired_slot (s : State) (d : Due) (h : (s.alarm d.slot).seq = d.al.seq) :
    let a := (s.noteFired d).alarm d.slot
    a.lateness = d.lat ∧ a.sFlag = d.step ∧ a.lFlag = d.al.lateArm ∧
    (d.al.period = 0 → d.al.st = .armed → a.st = .fired ∧ a.inst = d.al.inst) ∧
    (0 < d.al.period → (s.alarm d.slot).st = .cancelled → a.st = .fired ∧ a.inst = d.al.inst) ∧
    (0 < d.al.period → (s.alarm d.slot).st = .armed → d.al.st = .armed → d.step = false →
      a.st = .armed ∧ a.inst = d.al.inst + d.al.period) ∧
    (0 < d.al.period → (s.alarm d.slot).st = .armed → d.al.st = .armed → d.step = true → a.st = .armed ∧
      (∃ k, a.inst = d.al.inst + k * d.al.period) ∧ d.al.inst + d.lat < a.inst ∧ a.inst ≤ d.al.inst + d.lat + d.al.period ∧
      a.missed = satNat 32 (d.lat / d.al.period)) := by
  obtain ⟨hlat, hstep, hlate⟩ := firedAlarm_flags d
  obtain ⟨elat, estep, elate, emissed, est, einst⟩ := State.noteFired_firedSlot h
  refine ⟨elat.trans hlat, estep.trans hstep, elate.trans hlate, fun hp _ => ?oneShot, fun _ hc => ?released,
    fun hp hc hd hs => ?periodic, fun hp hc hd hs => ?stepped⟩
  case oneShot =>
    obtain ⟨hst, hinst⟩ := firedAlarm_oneShot hp
    rw [est, einst, hst, hinst, ite_self, ite_self]
    exact ⟨rfl, rfl⟩
  case released =>
    rw [est, einst, if_pos hc, if_pos hc]
    exact ⟨rfl, rfl⟩
  case periodic =>
    obtain ⟨hst, hinst⟩ := firedAlarm_periodic hp hs
    rw [est, einst, hc, if_neg (by decide), if_neg (by decide), hst, hinst]
    exact ⟨hd, rfl⟩
  case stepped =>
    obtain ⟨hst, hinst, hmissed⟩ := firedAlarm_stepped hp hs
    obtain ⟨hlo, hhi⟩ := grid_next_bounds (l := d.lat) hp
    rw [est, einst, emissed, hc, if_neg (by decide), if_neg (by decide), hst, hinst, hmissed]
    exact ⟨hd, ⟨_, rfl⟩, by omega, by omega, rfl⟩

/-! ### The action -/

/-- A row fires the first due alarm where it is of the row's kind: its slot is written, then it acts (R32, R89). -/
theorem State.fireIf_of_head {s : State} {d : Due} {rest : List Due} {p : Due → Bool} (hd : s.tse.due = d :: rest) (hp : p d = true) :
    s.fireIf p = ((s.noteFired d).tallyFired d).act d rest := by
  simp only [State.fireIf, State.headIs, State.fireHead, hd, hp, if_true]

/-- Settles O3: each row fires the head of the due alarms (`fireIf_of_head`), whose action is that of its kind, and `noteFired_slot` gives
the slot's record. -/
theorem alarmFiringsComplete : Obligations.AlarmFiringsComplete := by
  refine ⟨fun s d rest hd => ?_, noteFired_slot⟩
  intro u t
  have fires : ∀ (p : Due → Bool) (v : State), p d = true → u.act d rest = v → (.next (s.fireIf p) : Res) = .next v :=
    fun p v hp hv => by rw [State.fireIf_of_head hd hp, hv]
  have isKind : ∀ k : AlarmKind, d.al.kind = k → d.isKind k = true := fun k h => beq_iff_eq.mpr h
  have act : ∀ k : AlarmKind, d.al.kind = k → u.act d rest = u.act { d with al := { d.al with kind := k } } rest :=
    fun k h => by subst h; rfl
  refine ⟨fun h => fires _ _ (isKind _ h) (act _ h), fun h => fires _ _ (isKind _ h) (act _ h),
    fun h => fires _ _ (isKind _ h) (act _ h), fun h => fires _ _ (isKind _ h) (act _ h), fun h => fires _ _ (isKind _ h) (act _ h),
    fun h hArmed => fires _ _ (isKind _ h) ((act _ h).trans (if_pos hArmed)), fun h => fires _ _ (isKind _ h) ?tally,
    fun h => fires _ _ (isKind _ h) (act _ h), fun h => fires _ _ (isKind _ h) (act _ h), fun h => fires _ _ (isKind _ h) (act _ h),
    fun h => fires _ _ (isKind _ h) ?qput,
    fun h hb => fires _ _ ?rsh ((act _ h).trans (if_neg (ne_true_of_eq_false hb))),
    fun h hb => fires _ _ ?ring ((act _ h).trans (if_pos hb))⟩
  case tally => simp only [State.act, h]; rfl
  case qput => simp only [State.act, h]; rfl
  case rsh => simp only [isKind _ h, show bitOf d.al.target 5 = false from hb, Bool.not_false, Bool.and_self]
  case ring => simp only [isKind _ h, show bitOf d.al.target 5 = true from hb, Bool.and_self]

end Sys2Proof.Machine
end

section
/-! Bound updates: a state that is not well formed, whose stopped domain of kind OFF the update leaves out. -/
namespace Sys2Proof.Machine

/-- A state that is not well formed: D1 is STOPPED with kind OFF, and bound 0. Kind and state are OFF together in a block that R57
governs. -/
def stoppedOffKind : State := State.reset.setDom 1 { st := .stopped, bound := 0 }

theorem State.dom_setDom_same (s : State) (n : Nat) (d : Dom) : (s.setDom n d).dom n = d := tabGet_tabSet_same _ _ _ _

theorem stoppedOffKind_dom : stoppedOffKind.dom 1 = { st := .stopped, bound := 0 } := State.dom_setDom_same _ _ _

/-- The update passes over a domain of kind OFF that is not traceable, so the bound stays. -/
theorem stoppedOffKind_updateBounds : (stoppedOffKind.updateBounds.dom 1).bound = 0 := by decide +kernel

/-- A domain that does not run is UNBOUNDED by its terms (R79). -/
theorem boundOf_of_not_running {d : Dom} (h : d.st ≠ .running) (parent : Nat) : boundOf d parent = Config.unb := by
  simp [boundOf, h]

/-- Refutes O4, in its last clause (R79): the update does not form the bound of a domain of kind OFF, so where such a domain is in a state
other than OFF its bound stays, and its terms make it UNBOUNDED. The statement takes such a state in. -/
theorem not_cyclesAdvanceDomains : ¬ Obligations.CyclesAdvanceDomains := by
  unfold Obligations.CyclesAdvanceDomains
  intro h
  obtain ⟨-, -, -, -, -, -, hBounds⟩ := h
  have hb := hBounds stoppedOffKind 1 (by decide) (by rw [stoppedOffKind_dom]; decide)
    (fun hk => by rw [stoppedOffKind_dom] at hk; cases hk)
  rw [stoppedOffKind_updateBounds, boundOf_of_not_running (by rw [stoppedOffKind_dom]; decide)] at hb
  exact absurd hb (by decide)

end Sys2Proof.Machine
end

section
/-! KVC's registers: what the operations of other blocks leave of them (R526-R567). -/
namespace Sys2Proof.Machine

/-- The words of KVC's registers, from KVC_STAT to the last VSs_PINS, by bus address. -/
def State.kvcWords (s : State) (a : Nat) : Word := if 0x800000 ≤ a ∧ a < 0x803000 then tabGet 0 s.regs a else 0

theorem State.kvcWords_congr {s t : State} (h : t.regs = s.regs) : t.kvcWords = s.kvcWords := by
  funext a
  simp only [State.kvcWords, h]

/-- A register outside KVC. -/
theorem State.kvcWords_wr (s : State) (r : RegId) (w : Word) (i j : Nat) (h : regAddr r i j < 0x800000 ∨ 0x803000 ≤ regAddr r i j) :
    (s.wr r w i j).kvcWords = s.kvcWords := by
  funext a
  simp only [State.kvcWords]
  split
  · exact tabGet_tabSet_ne _ _ _ (by omega)
  · rfl

theorem State.kvcWords_put (s : State) (f : Field) (v i j : Nat) (h : regAddr f.reg i j < 0x800000 ∨ 0x803000 ≤ regAddr f.reg i j) :
    (s.put f v i j).kvcWords = s.kvcWords := s.kvcWords_wr _ _ _ _ h

theorem State.rd_of_kvcWords {s t : State} (h : t.kvcWords = s.kvcWords) {r : RegId} {i j : Nat}
    (hr : 0x800000 ≤ regAddr r i j ∧ regAddr r i j < 0x803000) : t.rd r i j = s.rd r i j := by
  have ha := congrFun h (regAddr r i j)
  simp only [State.kvcWords, if_pos hr] at ha
  simp only [State.rd, ha]

theorem State.get_of_rd {s t : State} {f : Field} {i j : Nat} (h : t.rd f.reg i j = s.rd f.reg i j) : t.get f i j = s.get f i j := by
  simp only [State.get, h]

theorem State.getB_of_rd {s t : State} {f : Field} {i j : Nat} (h : t.rd f.reg i j = s.rd f.reg i j) : t.getB f i j = s.getB f i j := by
  simp only [State.getB, State.get_of_rd h]

theorem regAddr_base_le (r : RegId) (i j : Nat) : (regInfo r).base ≤ regAddr r i j := by
  unfold regAddr
  omega

/-- A register of a block above KVC, at whatever index. -/
theorem State.kvcWords_put_above (s : State) (f : Field) (v i j : Nat) (h : 0x803000 ≤ (regInfo f.reg).base) :
    (s.put f v i j).kvcWords = s.kvcWords := s.kvcWords_put _ _ _ _ (.inr (h.trans (regAddr_base_le _ _ _)))

theorem State.kvcWords_log (s : State) (block inst code part sev : Nat) (data : List Byte) :
    (s.log block inst code part sev data).kvcWords = s.kvcWords := by
  unfold State.log
  split
  · exact State.kvcWords_congr rfl
  · exact s.kvcWords_put_above _ _ _ _ (by decide)

/-! ### Completions -/

theorem State.kvcWords_post (s : State) (f r : Nat) (st : Started) (status orig : Status) (len : Nat) (result : List Byte) :
    (s.post f r st status orig len result).kvcWords = s.kvcWords := by
  unfold State.post
  rw [State.kvcWords_congr (State.msix_regs _ _ _)]
  refine (State.kvcWords_put_above _ _ _ _ _ (by decide)).trans (State.kvcWords_congr ?_)
  rw [State.emit_regs]
  split <;> rfl

theorem State.kvcWords_complete (s : State) (c : Caller) (op : Nat) (status : Status) (result : List Byte) :
    (s.complete c op status result).kvcWords = s.kvcWords := by
  unfold State.complete
  split
  · unfold State.completeRing
    dsimp only
    split
    · rfl
    · split
      · rfl
      · rw [State.kvcWords_post]
        exact State.kvcWords_congr (by split <;> simp)
  · split
    · split <;> rfl
    · rfl
  · rfl

/-! ### Faults -/

theorem State.kvcWords_faultSticky (s : State) (n mask rise : Nat) : (s.faultSticky n mask rise).kvcWords = s.kvcWords := by
  unfold State.faultSticky
  dsimp only
  rw [foldl_keeps State.kvcWords _ (fun s p => s.kvcWords_put_above _ _ _ _ (by decide)), State.kvcWords_put_above _ _ _ _ _ (by decide)]
  unfold State.faultCount
  split
  · exact (State.kvcWords_put_above _ _ _ _ _ (by decide)).trans (State.kvcWords_congr rfl)
  · rfl

theorem State.kvcWords_faultCore (s : State) (n mask rise : Nat) (inst : Nat → Nat) (inj : Bool) (lane : Nat) :
    (s.faultCore n mask rise inst inj lane).kvcWords = s.kvcWords := by
  unfold State.faultCore
  split
  · rfl
  · exact (State.kvcWords_congr (by simp)).trans (s.kvcWords_faultSticky n mask rise)

theorem State.kvcWords_pulse (s : State) (n p inst : Nat) (inj : Bool) (lane : Nat) :
    (s.pulse n p inst inj lane).kvcWords = s.kvcWords :=
  (State.kvcWords_faultCore _ _ _ _ _ _ _).trans ((State.kvcWords_put_above _ _ _ _ _ (by decide)).trans (State.kvcWords_congr rfl))

/-! ### The addresses of KVC -/

theorem regAddr_vsCfg (v : Nat) : regAddr .vsCfg v 0 = 0x801000 + 0x20 * v := rfl
theorem regAddr_vsGen (v : Nat) : regAddr .vsGen v 0 = 0x801008 + 0x20 * v := rfl
theorem regAddr_vsKcv (v : Nat) : regAddr .vsKcv v 0 = 0x801010 + 0x20 * v := rfl
theorem regAddr_vsPins (v : Nat) : regAddr .vsPins v 0 = 0x801018 + 0x20 * v := rfl
theorem regAddr_kvcStat : regAddr .kvcStat 0 0 = 0x800000 := rfl
theorem regAddr_kvcTamperCause : regAddr .kvcTamperCause 0 0 = 0x800020 := rfl

/-! ### Writes of KVC's own registers -/

/-- A field of a register is not changed by a write of other bits, be they of another register, of the same one, or of one whose address
an index beyond its family takes to the same word. -/
theorem State.get_put_disjoint (s : State) {f g : Field} (v : Nat) {i j i' j' : Nat} (h0 : regRst g.reg i' = regRst f.reg i)
    (hf : f.lo ≤ f.hi ∧ f.hi < 64) (hg : g.lo ≤ g.hi ∧ g.hi < 64) (hd : g.hi < f.lo ∨ f.hi < g.lo) :
    (s.put f v i j).get g i' j' = s.get g i' j' := by
  by_cases ha : regAddr g.reg i' j' = regAddr f.reg i j
  · have hr : ∀ t : State, t.rd g.reg i' j' = t.rd f.reg i j := fun t => by simp only [State.rd, ha, h0]
    simp only [State.get, hr, State.put, State.rd_wr_same, bitsOf_setBits_ne _ _ _ _ _ _ hf.2 hg.2 hf.1 hg.1 hd]
  · exact s.get_put_ne f g v i j i' j' ha

end Sys2Proof.Machine
end

section
/-! Pins: what the release of a pin, and all that ends with one, leaves of KVC (R547, R548, R551). -/
namespace Sys2Proof.Machine

/-! ### The relation -/

/-- Of a slot from s to t: its configuration and current generation stay; PREV may have been retired. -/
structure State.SlotKept (s t : State) (v : Nat) : Prop where
  cfg : t.rd .vsCfg v = s.rd .vsCfg v
  curGen : t.get F.vsGen_CUR_GEN v = s.get F.vsGen_CUR_GEN v
  forced : t.get F.vsPins_FORCED v = s.get F.vsPins_FORCED v
  cur : (t.vslot v).cur = (s.vslot v).cur
  prev : (s.vslot v).prev = none → (t.vslot v).prev = none

/-- A slot is EMPTY in t, with the generation last loaded and the pins forced as in s (R547, R551). -/
structure State.SlotEmptied (s t : State) (v : Nat) : Prop where
  state : t.get F.vsCfg_STATE v = 0
  lastGen : t.get F.vsCfg_LAST_GEN v = s.get F.vsCfg_LAST_GEN v
  curGen : t.get F.vsGen_CUR_GEN v = 0
  forced : t.get F.vsPins_FORCED v = s.get F.vsPins_FORCED v
  cur : (t.vslot v).cur = none
  prev : (t.vslot v).prev = none

/-- The registers of KVC's status and tamper record, and what KVC holds behind its registers beside slots, their order of use and the
generator's count, are the same in t as in s. -/
structure State.VaultKept (s t : State) : Prop where
  stat : t.rd .kvcStat = s.rd .kvcStat
  cause : t.rd .kvcTamperCause = s.rd .kvcTamperCause
  rest : { t.kvc with slots := s.kvc.slots, lru := s.kvc.lru, drbg := s.kvc.drbg } = s.kvc

/-- From s to t operations have ended and pins were released: a slot is as it was, or its erase is complete; XCs have only gone away. -/
structure State.Releases (s t : State) : Prop where
  vault : s.VaultKept t
  slot : ∀ v < 256, s.SlotKept t v ∨ s.get F.vsCfg_STATE v = 2 ∧ s.SlotEmptied t v
  xcs : ∀ (i : Nat) (x : Xc), t.xc i = some x → s.xc i = some x

theorem State.SlotKept.refl (s : State) (v : Nat) : s.SlotKept s v := ⟨rfl, rfl, rfl, rfl, id⟩

theorem State.SlotKept.get_cfg {s t : State} {v : Nat} (h : s.SlotKept t v) {f : Field} (hf : f.reg = .vsCfg) :
    t.get f v = s.get f v := by
  simp only [State.get, hf, h.cfg]

theorem State.SlotKept.trans {s t u : State} {v : Nat} (h : s.SlotKept t v) (k : t.SlotKept u v) : s.SlotKept u v :=
  ⟨k.cfg.trans h.cfg, k.curGen.trans h.curGen, k.forced.trans h.forced, k.cur.trans h.cur, fun hp => k.prev (h.prev hp)⟩

theorem State.SlotKept.trans_emptied {s t u : State} {v : Nat} (h : s.SlotKept t v) (k : t.SlotEmptied u v) : s.SlotEmptied u v :=
  ⟨k.state, k.lastGen.trans (h.get_cfg rfl), k.curGen, k.forced.trans h.forced, k.cur, k.prev⟩

theorem State.SlotEmptied.trans_kept {s t u : State} {v : Nat} (h : s.SlotEmptied t v) (k : t.SlotKept u v) : s.SlotEmptied u v :=
  ⟨(k.get_cfg rfl).trans h.state, (k.get_cfg rfl).trans h.lastGen, k.curGen.trans h.curGen, k.forced.trans h.forced, k.cur.trans h.cur,
    k.prev h.prev⟩

theorem State.VaultKept.refl (s : State) : s.VaultKept s := ⟨rfl, rfl, rfl⟩

theorem State.VaultKept.trans {s t u : State} (h : s.VaultKept t) (k : t.VaultKept u) : s.VaultKept u := by
  refine ⟨k.stat.trans h.stat, k.cause.trans h.cause, ?_⟩
  rw [← h.rest, ← k.rest]

theorem State.Releases.refl (s : State) : s.Releases s := ⟨.refl s, fun v _ => .inl (.refl s v), fun _ _ => id⟩

theorem State.Releases.trans {s t u : State} (h : s.Releases t) (k : t.Releases u) : s.Releases u := by
  refine ⟨h.vault.trans k.vault, fun v hv => ?_, fun i x hx => h.xcs i x (k.xcs i x hx)⟩
  rcases h.slot v hv with hs | ⟨he, hs⟩ <;> rcases k.slot v hv with ks | ⟨ke, ks⟩
  · exact .inl (hs.trans ks)
  · exact .inr ⟨(hs.get_cfg rfl).symm.trans ke, hs.trans_emptied ks⟩
  · exact .inr ⟨he, hs.trans_kept ks⟩
  · exact absurd (hs.state.symm.trans ke) (by decide)

theorem State.Releases.foldl {α : Type} {f : State → α → State} (h : ∀ (s : State) (a : α), s.Releases (f s a)) (l : List α) (s : State) :
    s.Releases (l.foldl f s) := by
  induction l generalizing s with
  | nil => exact .refl s
  | cons a l ih => exact (h s a).trans (ih _)

/-- An EMPTY slot stays EMPTY. -/
theorem State.Releases.empty {s t : State} (h : s.Releases t) {v : Nat} (hv : v < 256) (h0 : s.get F.vsCfg_STATE v = 0) :
    t.get F.vsCfg_STATE v = 0 := by
  rcases h.slot v hv with hs | ⟨-, hs⟩
  · exact (hs.get_cfg rfl).trans h0
  · exact hs.state

/-- An ACTIVE slot is not emptied. -/
theorem State.Releases.active {s t : State} (h : s.Releases t) {v : Nat} (hv : v < 256) (h1 : s.get F.vsCfg_STATE v = 1) :
    s.SlotKept t v := by
  rcases h.slot v hv with hs | ⟨h2, -⟩
  · exact hs
  · exact absurd (h1.symm.trans h2) (by decide)

/-! ### Operations of other blocks -/

/-- An operation that leaves KVC and its registers alone. -/
theorem State.Releases.of_kvcWords {s t : State} (hw : t.kvcWords = s.kvcWords) (hk : t.kvc = s.kvc)
    (hx : ∀ (i : Nat) (x : Xc), t.xc i = some x → s.xc i = some x) : s.Releases t := by
  have hv : ∀ v, t.vslot v = s.vslot v := fun v => by simp only [State.vslot, hk]
  refine ⟨⟨State.rd_of_kvcWords hw (by decide), State.rd_of_kvcWords hw (by decide), by rw [hk]⟩, fun v h => .inl ?_, hx⟩
  have rd : ∀ r : RegId, 0x801000 ≤ regAddr r v 0 → regAddr r v 0 < 0x803000 → t.rd r v = s.rd r v := fun r h1 h2 =>
    State.rd_of_kvcWords hw ⟨by omega, h2⟩
  have cfg := rd .vsCfg (by rw [regAddr_vsCfg]; omega) (by rw [regAddr_vsCfg]; omega)
  have gen := rd .vsGen (by rw [regAddr_vsGen]; omega) (by rw [regAddr_vsGen]; omega)
  have pins := rd .vsPins (by rw [regAddr_vsPins]; omega) (by rw [regAddr_vsPins]; omega)
  exact ⟨cfg, by simp only [State.get, gen], by simp only [State.get, pins], by rw [hv], fun h => by rw [hv, h]⟩

theorem State.Releases.of_tsv {s t : State} (hw : t.kvcWords = s.kvcWords) (hk : t.kvc = s.kvc) (hx : t.tsv = s.tsv) : s.Releases t :=
  .of_kvcWords hw hk fun i x h => by rwa [State.xc, hx] at h

theorem State.releases_complete (s : State) (c : Caller) (op : Nat) (st : Status) (r : List Byte) : s.Releases (s.complete c op st r) :=
  .of_tsv (s.kvcWords_complete c op st r) (by simp) (by simp)

theorem State.releases_of_regs {s t : State} (hr : t.regs = s.regs) (hk : t.kvc = s.kvc) (hx : t.tsv = s.tsv) : s.Releases t :=
  .of_tsv (State.kvcWords_congr hr) hk hx

theorem State.releases_put_above (s : State) (f : Field) (v i j : Nat) (h : 0x803000 ≤ (regInfo f.reg).base) :
    s.Releases (s.put f v i j) := .of_tsv (s.kvcWords_put_above f v i j h) rfl rfl

theorem State.releases_log (s : State) (b i c p sv : Nat) (d : List Byte) : s.Releases (s.log b i c p sv d) :=
  .of_tsv (s.kvcWords_log b i c p sv d) (by simp) (by simp)

theorem State.releases_pulse (s : State) (n p inst : Nat) (inj : Bool) (lane : Nat) : s.Releases (s.pulse n p inst inj lane) :=
  .of_tsv (s.kvcWords_pulse n p inst inj lane) (by simp) (by simp)

/-! ### Pins -/

/-- A write of one field that is no part of what a slot keeps. -/
theorem State.releases_put (s : State) (f : Field) (v i j : Nat) (hstat : regAddr .kvcStat 0 0 ≠ regAddr f.reg i j)
    (hcause : regAddr .kvcTamperCause 0 0 ≠ regAddr f.reg i j) (hcfg : ∀ w, regAddr .vsCfg w 0 ≠ regAddr f.reg i j)
    (hgen : ∀ w, (s.put f v i j).get F.vsGen_CUR_GEN w = s.get F.vsGen_CUR_GEN w)
    (hpins : ∀ w, (s.put f v i j).get F.vsPins_FORCED w = s.get F.vsPins_FORCED w) : s.Releases (s.put f v i j) :=
  ⟨⟨s.rd_wr_ne _ _ _ _ _ _ _ hstat, s.rd_wr_ne _ _ _ _ _ _ _ hcause, rfl⟩,
    fun w _ => .inl ⟨s.rd_wr_ne _ _ _ _ _ _ _ (hcfg w), hgen w, hpins w, rfl, id⟩, fun _ _ => id⟩

theorem State.releases_put_curPins (s : State) (n v : Nat) : s.Releases (s.put F.vsPins_CUR_PINS n v) := by
  refine s.releases_put _ _ _ _ ?_ ?_ (fun w => ?_) (fun w => s.get_put_ne _ _ _ _ _ _ _ ?_)
    (fun w => s.get_put_disjoint _ rfl (by decide) (by decide) (by decide))
  · rw [regAddr_vsPins, regAddr_kvcStat]; omega
  · rw [regAddr_vsPins, regAddr_kvcTamperCause]; omega
  · rw [regAddr_vsPins, regAddr_vsCfg]; omega
  · rw [regAddr_vsPins, regAddr_vsGen]; omega

theorem State.releases_put_prevPins (s : State) (n v : Nat) : s.Releases (s.put F.vsPins_PREV_PINS n v) := by
  refine s.releases_put _ _ _ _ ?_ ?_ (fun w => ?_) (fun w => s.get_put_ne _ _ _ _ _ _ _ ?_)
    (fun w => s.get_put_disjoint _ rfl (by decide) (by decide) (by decide))
  · rw [regAddr_vsPins, regAddr_kvcStat]; omega
  · rw [regAddr_vsPins, regAddr_kvcTamperCause]; omega
  · rw [regAddr_vsPins, regAddr_vsCfg]; omega
  · rw [regAddr_vsPins, regAddr_vsGen]; omega

theorem State.releases_put_prevGen (s : State) (n v : Nat) : s.Releases (s.put F.vsGen_PREV_GEN n v) := by
  refine s.releases_put _ _ _ _ ?_ ?_ (fun w => ?_) (fun w => s.get_put_disjoint _ rfl (by decide) (by decide) (by decide))
    (fun w => s.get_put_ne _ _ _ _ _ _ _ ?_)
  · rw [regAddr_vsGen, regAddr_kvcStat]; omega
  · rw [regAddr_vsGen, regAddr_kvcTamperCause]; omega
  · rw [regAddr_vsGen, regAddr_vsCfg]; omega
  · rw [regAddr_vsGen, regAddr_vsPins]; omega

theorem State.releases_put_prevKcv (s : State) (n v : Nat) : s.Releases (s.put F.vsKcv_PREV_KCV n v) := by
  refine s.releases_put _ _ _ _ ?_ ?_ (fun w => ?_) (fun w => s.get_put_ne _ _ _ _ _ _ _ ?_) (fun w => s.get_put_ne _ _ _ _ _ _ _ ?_)
  · rw [regAddr_vsKcv, regAddr_kvcStat]; omega
  · rw [regAddr_vsKcv, regAddr_kvcTamperCause]; omega
  · rw [regAddr_vsKcv, regAddr_vsCfg]; omega
  · rw [regAddr_vsKcv, regAddr_vsGen]; omega
  · rw [regAddr_vsKcv, regAddr_vsPins]; omega

theorem State.vslot_setVslot_same (s : State) (v : Nat) (x : VSlot) : (s.setVslot v x).vslot v = x := tabGet_tabSet_same _ _ _ _

theorem State.vslot_setVslot_ne (s : State) {v w : Nat} (x : VSlot) (h : w ≠ v) : (s.setVslot v x).vslot w = s.vslot w :=
  tabGet_tabSet_ne _ _ _ h

/-- A slot's record loses its PREV. -/
theorem State.releases_dropPrev (s : State) (v : Nat) : s.Releases (s.setVslot v { s.vslot v with prev := none }) := by
  refine ⟨⟨rfl, rfl, rfl⟩, fun w _ => .inl ⟨rfl, rfl, rfl, ?_, fun h => ?_⟩, fun _ _ => id⟩ <;> by_cases hw : w = v
  · rw [hw, State.vslot_setVslot_same]
  · rw [s.vslot_setVslot_ne _ hw]
  · rw [hw, State.vslot_setVslot_same]
  · rw [s.vslot_setVslot_ne _ hw, h]

theorem State.releases_retirePrev (s : State) (v : Nat) : s.Releases (s.retirePrev v) :=
  (((s.releases_put_prevGen 0 v).trans (State.releases_put_prevKcv _ 0 v)).trans (State.releases_put_prevPins _ 0 v)).trans
    (State.releases_dropPrev _ v)

/-! ### A slot that is emptied -/

/-- The registers of a slot that slotEmpty leaves. -/
def State.slotRegs (s : State) (v : Nat) : State :=
  let t := (((s.wr .vsCfg 0 v).wr .vsGen 0 v).wr .vsKcv 0 v).wr .vsPins 0 v
  ((t.put F.vsCfg_LAST_GEN (s.get F.vsCfg_LAST_GEN v) v).put F.vsCfg_PART (s.vsPart v) v).put F.vsPins_FORCED (s.get F.vsPins_FORCED v) v

/-- A register outside the slot. -/
theorem State.rd_slotRegs (s : State) {r : RegId} {i j v : Nat}
    (h : regAddr r i j < 0x801000 + 0x20 * v ∨ 0x801020 + 0x20 * v ≤ regAddr r i j) : (s.slotRegs v).rd r i j = s.rd r i j := by
  have hc : regAddr r i j ≠ regAddr .vsCfg v 0 := by rw [regAddr_vsCfg]; omega
  have hg : regAddr r i j ≠ regAddr .vsGen v 0 := by rw [regAddr_vsGen]; omega
  have hk : regAddr r i j ≠ regAddr .vsKcv v 0 := by rw [regAddr_vsKcv]; omega
  have hp : regAddr r i j ≠ regAddr .vsPins v 0 := by rw [regAddr_vsPins]; omega
  simp only [State.slotRegs, State.put, State.rd_wr_ne _ _ _ _ _ _ _ _ hc, State.rd_wr_ne _ _ _ _ _ _ _ _ hg,
    State.rd_wr_ne _ _ _ _ _ _ _ _ hk, State.rd_wr_ne _ _ _ _ _ _ _ _ hp]

theorem State.get_wr_zero (s : State) (f : Field) (i j : Nat) : (s.wr f.reg 0 i j).get f i j = 0 := by
  rw [State.get, State.rd_wr_same]
  simp [bitsOf]

/-- The slot's own registers: EMPTY, without generations, with the generation last loaded and the pins forced as before. -/
theorem State.get_slotRegs (s : State) (v : Nat) :
    (s.slotRegs v).get F.vsCfg_STATE v = 0 ∧ (s.slotRegs v).get F.vsCfg_LAST_GEN v = s.get F.vsCfg_LAST_GEN v ∧
      (s.slotRegs v).get F.vsGen_CUR_GEN v = 0 ∧ (s.slotRegs v).get F.vsPins_FORCED v = s.get F.vsPins_FORCED v := by
  have cg : regAddr .vsCfg v 0 ≠ regAddr .vsGen v 0 := by rw [regAddr_vsCfg, regAddr_vsGen]; omega
  have ck : regAddr .vsCfg v 0 ≠ regAddr .vsKcv v 0 := by rw [regAddr_vsCfg, regAddr_vsKcv]; omega
  have cp : regAddr .vsCfg v 0 ≠ regAddr .vsPins v 0 := by rw [regAddr_vsCfg, regAddr_vsPins]; omega
  have gk : regAddr .vsGen v 0 ≠ regAddr .vsKcv v 0 := by rw [regAddr_vsGen, regAddr_vsKcv]; omega
  have gp : regAddr .vsGen v 0 ≠ regAddr .vsPins v 0 := by rw [regAddr_vsGen, regAddr_vsPins]; omega
  refine ⟨?_, ?_, ?_, ?_⟩
  · rw [State.slotRegs, State.get_put_ne _ _ _ _ _ _ _ _ cp,
      State.get_put_disjoint (f := F.vsCfg_PART) (g := F.vsCfg_STATE) _ _ rfl (by decide) (by decide) (by decide),
      State.get_put_disjoint (f := F.vsCfg_LAST_GEN) (g := F.vsCfg_STATE) _ _ rfl (by decide) (by decide) (by decide),
      State.get, State.rd_wr_ne _ _ _ _ _ _ _ _ cp, State.rd_wr_ne _ _ _ _ _ _ _ _ ck, State.rd_wr_ne _ _ _ _ _ _ _ _ cg]
    exact s.get_wr_zero F.vsCfg_STATE v 0
  · rw [State.slotRegs, State.get_put_ne _ _ _ _ _ _ _ _ cp,
      State.get_put_disjoint (f := F.vsCfg_PART) (g := F.vsCfg_LAST_GEN) _ _ rfl (by decide) (by decide) (by decide),
      State.get_put_same _ _ _ _ _ (by decide) (by decide)]
    exact Nat.mod_eq_of_lt (bitsOf_lt _ _ _ (by decide) (by decide))
  · rw [State.slotRegs, State.get_put_ne _ _ _ _ _ _ _ _ gp, State.get_put_ne _ _ _ _ _ _ _ _ cg.symm,
      State.get_put_ne _ _ _ _ _ _ _ _ cg.symm, State.get, State.rd_wr_ne _ _ _ _ _ _ _ _ gp, State.rd_wr_ne _ _ _ _ _ _ _ _ gk]
    exact State.get_wr_zero _ F.vsGen_CUR_GEN v 0
  · rw [State.slotRegs, State.get_put_same _ _ _ _ _ (by decide) (by decide)]
    exact Nat.mod_eq_of_lt (bitsOf_lt _ _ _ (by decide) (by decide))

/-- The slot emptied, before its erase completes. -/
def State.slotCleared (s : State) (v : Nat) : State :=
  (s.slotRegs v).setKvc { ((s.slotRegs v).setVslot v {}).kvc with lru := s.kvc.lru.filter (· != v) }

theorem State.slotEmpty_eq (s : State) (v : Nat) :
    s.slotEmpty v = match (s.vslot v).eraser with
      | some c => (s.slotCleared v).complete c 0x83 .ok
      | none => s.slotCleared v := rfl

theorem State.slotCleared_releases_slotEmpty (s : State) (v : Nat) : (s.slotCleared v).Releases (s.slotEmpty v) := by
  rw [State.slotEmpty_eq]
  split
  · exact State.releases_complete _ _ _ _ _
  · exact .refl _

theorem State.vslot_slotCleared (s : State) (v w : Nat) : (s.slotCleared v).vslot w = if w = v then {} else s.vslot w := by
  change ((s.slotRegs v).setVslot v {}).vslot w = _
  split
  case isTrue h => rw [h, State.vslot_setVslot_same]
  case isFalse h => exact State.vslot_setVslot_ne _ _ h

theorem State.slotEmptied_slotCleared (s : State) (v : Nat) : s.SlotEmptied (s.slotCleared v) v := by
  obtain ⟨hstate, hlast, hgen, hforced⟩ := s.get_slotRegs v
  exact ⟨hstate, hlast, hgen, hforced, by rw [s.vslot_slotCleared, if_pos rfl], by rw [s.vslot_slotCleared, if_pos rfl]⟩

theorem State.slotKept_slotCleared (s : State) {v w : Nat} (h : w ≠ v) : s.SlotKept (s.slotCleared v) w := by
  have rd : ∀ r : RegId, 0x801000 + 0x20 * w ≤ regAddr r w 0 → regAddr r w 0 < 0x801020 + 0x20 * w →
      (s.slotCleared v).rd r w = s.rd r w := fun r h1 h2 => s.rd_slotRegs (by omega)
  have cfg := rd .vsCfg (by rw [regAddr_vsCfg]) (by rw [regAddr_vsCfg]; omega)
  have gen := rd .vsGen (by rw [regAddr_vsGen]; omega) (by rw [regAddr_vsGen]; omega)
  have pins := rd .vsPins (by rw [regAddr_vsPins]; omega) (by rw [regAddr_vsPins]; omega)
  have hs : (s.slotCleared v).vslot w = s.vslot w := by rw [s.vslot_slotCleared, if_neg h]
  exact ⟨cfg, by simp only [State.get, gen], by simp only [State.get, pins], by rw [hs], fun hp => by rw [hs, hp]⟩

theorem State.vaultKept_slotCleared (s : State) (v : Nat) : s.VaultKept (s.slotCleared v) :=
  ⟨s.rd_slotRegs (by rw [regAddr_kvcStat]; omega), s.rd_slotRegs (by rw [regAddr_kvcTamperCause]; omega), rfl⟩

theorem State.releases_slotEmpty {s : State} {v : Nat} (h : s.get F.vsCfg_STATE v = 2) : s.Releases (s.slotEmpty v) := by
  refine State.Releases.trans ⟨s.vaultKept_slotCleared v, fun w _ => ?_, fun _ _ => id⟩ (s.slotCleared_releases_slotEmpty v)
  by_cases hw : w = v
  · exact .inr ⟨by rw [hw, h], by rw [hw]; exact s.slotEmptied_slotCleared v⟩
  · exact .inl (s.slotKept_slotCleared hw)

theorem State.releases_pinsSettle (s : State) (v : Nat) : s.Releases (s.pinsSettle v) := by
  have retire : s.Releases (if s.get F.vsGen_PREV_GEN v ≠ 0 ∧ s.get F.vsPins_PREV_PINS v = 0 ∧ s.get F.vsCfg_STATE v = vsActive
      then s.retirePrev v else s) := by
    split
    · exact s.releases_retirePrev v
    · exact .refl s
  have empty : ∀ t : State, t.Releases (if t.get F.vsCfg_STATE v = vsErasing ∧ t.get F.vsPins_PREV_PINS v = 0 ∧
      t.get F.vsPins_CUR_PINS v = 0 then t.slotEmpty v else t) := fun t => by
    split
    case isTrue h => exact State.releases_slotEmpty h.1
    case isFalse => exact .refl t
  exact retire.trans (empty _)

theorem State.releases_unpin (s : State) (v gen : Nat) : s.Releases (s.unpin v gen) := by
  unfold State.unpin
  dsimp only
  refine State.Releases.trans ?_ (State.releases_pinsSettle _ v)
  split
  · exact .refl s
  · split
    · exact s.releases_put_curPins _ v
    · split
      · exact s.releases_put_prevPins _ v
      · exact .refl s

end Sys2Proof.Machine
end

section
/-! What ends an operation, an exchange, a chain or a ring key's send generation, as KVC sees it (R457, R475, R548, R554, R577). -/
namespace Sys2Proof.Machine

/-! ### Operations that use a generation -/

theorem State.releases_tally (s : State) (b : Bump) : s.Releases (s.tally b) := State.releases_of_regs rfl rfl rfl

theorem State.releases_draw (s : State) : s.Releases s.draw.2 := State.releases_of_regs rfl rfl rfl

theorem State.releases_rng (s : State) (n : Nat) : s.Releases (s.rng n).2 :=
  ⟨⟨rfl, rfl, rfl⟩, fun _ _ => .inl ⟨rfl, rfl, rfl, rfl, id⟩, fun _ _ => id⟩

theorem State.releases_kmacReply (s : State) (t gd : Nat) (st : Status) (tag : Nat) : s.Releases (s.kmacReply t gd st tag) :=
  State.releases_of_regs rfl rfl rfl

theorem State.releases_keyOpEnd (s : State) (w : KeyWait) (st : Status) : s.Releases (s.keyOpEnd w st) := by
  unfold State.keyOpEnd
  split
  · exact (s.releases_unpin _ _).trans (State.releases_complete _ _ _ _ _)
  · exact (s.releases_unpin _ _).trans (State.releases_kmacReply _ _ _ _ _)

theorem State.releases_keyOpRun (s : State) (w : KeyWait) : s.Releases (s.keyOpRun w) := by
  unfold State.keyOpRun
  dsimp only
  split
  · exact (((s.releases_rng 32).trans (State.releases_tally _ _)).trans (State.releases_unpin _ _ _)).trans
      (State.releases_complete _ _ _ _ _)
  · exact ((s.releases_tally _).trans (State.releases_unpin _ _ _)).trans (State.releases_kmacReply _ _ _ _ _)

/-- The operations for which `p` decides stop waiting. -/
def State.dropWaits (s : State) (p : KeyWait → Bool) : State := s.setKvc { s.kvc with waits := s.kvc.waits.filter fun w => !p w }

theorem State.dropWaits_releases_keyOps (s : State) (p : KeyWait → Bool) {f : State → KeyWait → State}
    (h : ∀ (s : State) (w : KeyWait), s.Releases (f s w)) : (s.dropWaits p).Releases (s.keyOps p f) :=
  State.Releases.foldl h _ _

/-- What an operation that releases pins leaves of KVC's own record. -/
theorem State.VaultKept.waits {s t : State} (h : s.VaultKept t) : t.kvc.waits = s.kvc.waits := by
  have := congrArg Kvc.waits h.rest
  exact this

/-! ### Exchanges (R475) -/

theorem State.xc_setXc_none (s : State) (i j : Nat) : (s.setXc i none).xc j = if j = i then none else s.xc j := by
  change tabGet none (tabSet none s.tsv.xcs i none) j = _
  split
  case isTrue h => rw [h, tabGet_tabSet_same]
  case isFalse h => exact tabGet_tabSet_ne _ _ _ h

theorem State.releases_setXc_none (s : State) (i : Nat) : s.Releases (s.setXc i none) := by
  refine .of_kvcWords (State.kvcWords_congr rfl) rfl fun j x hx => ?_
  rw [s.xc_setXc_none] at hx
  split at hx
  · cases hx
  · exact hx

theorem State.releases_showXcs (s : State) : s.Releases s.showXcs :=
  .of_tsv ((State.kvcWords_put _ _ _ _ _ (.inl (by decide))).trans (s.kvcWords_put _ _ _ _ (.inl (by decide)))) rfl rfl

theorem State.releases_xcFree (s : State) (i : Nat) : s.Releases (s.xcFree i) ∧ (s.xcFree i).xc i = none := by
  unfold State.xcFree
  split
  case h_1 h => exact ⟨.refl s, h⟩
  case h_2 x h =>
    dsimp only
    generalize hp : s.setNport _ _ = p
    have first : s.Releases p := by rw [← hp]; exact State.releases_of_regs rfl rfl rfl
    have gone : ∀ t : State, (p.setXc i none).Releases t → t.xc i = none := fun t ht => by
      cases hx : t.xc i with
      | none => rfl
      | some y =>
        have := ht.xcs i y hx
        rw [p.xc_setXc_none, if_pos rfl] at this
        cases this
    have last : ∀ t : State, (p.setXc i none).Releases t → s.Releases t.showXcs ∧ t.showXcs.xc i = none := fun t ht =>
      ⟨((first.trans (p.releases_setXc_none i)).trans ht).trans t.releases_showXcs, gone _ (ht.trans t.releases_showXcs)⟩
    split
    · exact last _ (State.releases_unpin _ _ _)
    · exact last _ (.refl _)

/-- A count of TSV by partition. The address of an index beyond the eight partitions may be that of a slot's KCV or pins, of which
the count takes low bits. -/
theorem State.releases_bump_tsvDrop (s : State) (n p : Nat) : s.Releases (s.bump F.tsvDrop_TIMEOUT n p) := by
  have ha : regAddr F.tsvDrop_TIMEOUT.reg p 0 = 0x700110 + 0x20 * p := rfl
  refine s.releases_put _ _ _ _ ?_ ?_ (fun w => ?_) (fun w => s.get_put_ne _ _ _ _ _ _ _ ?_) (fun w => s.get_put_ne _ _ _ _ _ _ _ ?_)
  · rw [ha, regAddr_kvcStat]; omega
  · rw [ha, regAddr_kvcTamperCause]; omega
  · rw [ha, regAddr_vsCfg]; omega
  · rw [ha, regAddr_vsGen]; omega
  · rw [ha, regAddr_vsPins]; omega

theorem State.releases_bump_tsvErr (s : State) (n p : Nat) : s.Releases (s.bump F.tsvErr_KEY_ABORT n p) := by
  have ha : regAddr F.tsvErr_KEY_ABORT.reg p 0 = 0x700118 + 0x20 * p := rfl
  refine s.releases_put _ _ _ _ ?_ ?_ (fun w => ?_) (fun w => s.get_put_ne _ _ _ _ _ _ _ ?_)
    (fun w => s.get_put_disjoint _ rfl (by decide) (by decide) (by decide))
  · rw [ha, regAddr_kvcStat]; omega
  · rw [ha, regAddr_kvcTamperCause]; omega
  · rw [ha, regAddr_vsCfg]; omega
  · rw [ha, regAddr_vsGen]; omega

theorem State.releases_xcTimeout (s : State) (i : Nat) : s.Releases (s.xcTimeout i) := by
  unfold State.xcTimeout
  split
  · exact .refl s
  · exact (s.releases_bump_tsvDrop _ _).trans (State.releases_xcFree _ i).1

theorem State.releases_xcAbort (s : State) (i : Nat) : s.Releases (s.xcAbort i) ∧ (s.xcAbort i).xc i = none := by
  unfold State.xcAbort
  split
  case h_1 h => exact ⟨.refl s, h⟩
  case h_2 x _ => exact ⟨(s.releases_bump_tsvErr 1 x.part).trans (State.releases_xcFree _ i).1, (State.releases_xcFree _ i).2⟩

theorem State.releases_xcEach (s : State) (p : Xc → Bool) {f : State → Nat → State} (h : ∀ (s : State) (i : Nat), s.Releases (f s i)) :
    s.Releases (s.xcEach p f) := State.Releases.foldl h _ _

theorem mem_tabKeys_of_tabGet {α : Type} {d : α} {q : Nat → α → Bool} {t : Tab α} {k : Nat} (hd : tabGet d t k ≠ d)
    (hq : q k (tabGet d t k) = true) : k ∈ tabKeys q t := by
  induction t with
  | nil => exact absurd rfl hd
  | cons e t ih =>
    obtain ⟨j, v⟩ := e
    simp only [tabKeys, tabGet, List.mem_map, List.mem_filter] at ih hd hq ⊢
    by_cases hk : k = j
    · rw [if_pos hk] at hq
      exact ⟨(j, v), ⟨List.mem_cons_self, hk ▸ hq⟩, hk.symm⟩
    · rw [if_neg hk] at hd hq
      obtain ⟨e, ⟨hm, he⟩, hek⟩ := ih hd hq
      exact ⟨e, ⟨List.mem_cons_of_mem _ hm, he⟩, hek⟩

/-- Every XC for which `p` holds has gone where each is freed. -/
theorem State.xcEach_gone (s : State) (p : Xc → Bool) {f : State → Nat → State}
    (h : ∀ (s : State) (i : Nat), s.Releases (f s i) ∧ (f s i).xc i = none) {i : Nat} {x : Xc} (hx : (s.xcEach p f).xc i = some x) :
    p x = false := by
  have gone : ∀ (l : List Nat) (t : State), i ∈ l → (l.foldl f t).xc i = none := fun l => by
    induction l with
    | nil => exact fun _ h => absurd h List.not_mem_nil
    | cons k l ih =>
      intro t hm
      rcases List.mem_cons.mp hm with rfl | hm
      · cases hy : (l.foldl f (f t i)).xc i with
        | none => exact hy
        | some y =>
          have := (State.Releases.foldl (fun s i => (h s i).1) l (f t i)).xcs i y hy
          rw [(h t i).2] at this
          cases this
      · exact ih _ hm
  have hs : tabGet none s.tsv.xcs i = some x := (s.releases_xcEach p fun s i => (h s i).1).xcs i x hx
  obtain ⟨q, hq, he⟩ : ∃ q : Nat → Option Xc → Bool, (∀ v, q i (some v) = p v) ∧ s.xcEach p f = (tabKeys q s.tsv.xcs).foldl f s :=
    ⟨_, fun _ => rfl, rfl⟩
  refine Bool.eq_false_iff.mpr fun hp => ?_
  have hk : i ∈ tabKeys q s.tsv.xcs := mem_tabKeys_of_tabGet (d := none) (by rw [hs]; exact Option.some_ne_none x) (by rw [hs, hq, hp])
  rw [he, gone _ s hk] at hx
  cases hx

/-! ### Chains of the stamp ledger and the ring key (R457, R577) -/

theorem State.releases_releaseOwn (s : State) (k : Nat) (kind : AlarmKind) (t : Nat) : s.Releases (s.releaseOwn k kind t) := by
  unfold State.releaseOwn
  split
  · unfold State.releaseSlot
    split
    · exact State.releases_of_regs rfl rfl rfl
    · exact .refl s
  · exact .refl s

theorem State.releases_setChain (s : State) (l : Nat) (c : SlgChain) : s.Releases (s.setChain l c) := State.releases_of_regs rfl rfl rfl

theorem State.releases_slgSettle (s : State) (l : Nat) : s.Releases (s.slgSettle l) := by
  unfold State.slgSettle
  dsimp only
  split
  · exact s.releases_setChain _ _
  · exact s.releases_setChain _ _

theorem State.releases_slgClose (s : State) (l : Nat) (t : Int) (step last short : Bool) : s.Releases (s.slgClose l t step last short) := by
  unfold State.slgClose
  split
  · exact s.releases_setChain _ _
  case h_2 w _ =>
    dsimp only
    refine State.Releases.trans (State.Releases.trans ?_ (State.releases_put_above _ F.slgStat_PSEQ _ l 0 (by decide)))
      (State.releases_unpin _ _ _)
    have flags : ∀ u : State, u.Releases (((u.putB F.slgStat_OPEN false l).putB F.slgStat_FIRST false l).putB F.slgStat_STEPPED false l) :=
      fun u => ((u.releases_put_above _ _ _ _ (by decide)).trans (State.releases_put_above _ _ _ _ _ (by decide))).trans
        (State.releases_put_above _ _ _ _ _ (by decide))
    have closed : ∀ c : SlgChain, s.Releases
        ((((s.setChain l c).putB F.slgStat_OPEN false l).putB F.slgStat_FIRST false l).putB F.slgStat_STEPPED false l) :=
      fun c => (s.releases_setChain l c).trans (flags _)
    split
    · exact closed _
    · exact (closed _).trans (State.releases_draw _)

theorem State.releases_slgEnd (s : State) (port : Nat) : s.Releases (s.slgEnd port) := by
  have lanes : ∀ (d : Nat) (l : List Nat) (u : State), u.Releases (l.foldl (fun u l =>
      ((((u.slgSettle l).slgClose l (u.startTicks d) false true true)).putB F.slgCfg_EN false l).putB F.slgStat_FIRST true l) u) :=
    fun d => State.Releases.foldl fun u l => (((u.releases_slgSettle l).trans (State.releases_slgClose _ _ _ _ _ _)).trans
      (State.releases_put_above _ F.slgCfg_EN _ l 0 (by decide))).trans (State.releases_put_above _ F.slgStat_FIRST _ l 0 (by decide))
  have want : ∀ (u : State) (p d : Nat) (t : Int), u.Releases (u.slgWant p d t false true) :=
    fun _ _ _ _ => State.releases_of_regs rfl rfl rfl
  unfold State.slgEnd
  split
  · exact .refl s
  · dsimp only
    split
    · exact ((s.releases_releaseOwn _ _ _).trans (lanes _ _ _)).trans (want _ _ _ _)
    · exact (s.releases_releaseOwn _ _ _).trans (lanes _ _ _)

theorem State.releases_slgKeyGone (s : State) (slot : Nat) : s.Releases (s.slgKeyGone slot) :=
  State.Releases.foldl (fun u l => by
    split
    · exact u.releases_slgEnd l
    · exact .refl u) _ _

theorem State.releases_ringKeyGone (s : State) (slot : Nat) : s.Releases (s.ringKeyGone slot) := by
  unfold State.ringKeyGone
  split
  · unfold State.ringUnpin
    dsimp only
    split
    · exact .refl s
    · exact (s.releases_put_above F.hrlKey_SEND_GEN 0 0 0 (by decide)).trans (State.releases_unpin _ _ _)
  · exact .refl s

end Sys2Proof.Machine
end

section
/-! Tamper and zeroisation (R529-R535, R547, R551). -/
namespace Sys2Proof.Machine

/-! ### Bits and saturation -/

theorem bitOf_withBit (v n : Nat) : bitOf (withBit v n) n = true := by
  unfold withBit
  split
  case isTrue h => exact h
  case isFalse h =>
    simp only [bitOf, beq_iff_eq] at h ⊢
    rw [Nat.add_div_right v (Nat.two_pow_pos n)]
    omega

theorem bitOf_withoutBit (v n : Nat) : bitOf (withoutBit v n) n = false := by
  unfold withoutBit
  split
  case isTrue h =>
    simp only [bitOf, beq_iff_eq, beq_eq_false_iff_ne] at h ⊢
    have := Nat.sub_mul_div v (2 ^ n) 1
    rw [Nat.mul_one] at this
    rw [this]
    omega
  case isFalse h => exact Bool.eq_false_iff.mpr h

theorem satNat_eq_min (w x : Nat) : satNat w x = min (2 ^ w - 1) x := by
  have := Nat.two_pow_pos w
  unfold satNat
  split <;> omega

/-- A saturating count read after it was taken. -/
theorem State.get_bump_same (s : State) (f : Field) (n i j : Nat) (hf : f.hi < 64) (hl : f.lo ≤ f.hi) :
    (s.bump f n i j).get f i j = min (2 ^ (f.hi - f.lo + 1) - 1) (s.get f i j + n) := by
  have := Nat.two_pow_pos (f.hi - f.lo + 1)
  rw [State.bump, State.get_put_same _ _ _ _ _ hf hl, satNat_eq_min, Nat.mod_eq_of_lt (by omega)]

/-! ### What zeroisation keeps up to its record -/

/-- From s to t KVC keeps its status and its record, the sources that are tripped, that nothing waits, and that a slot is EMPTY. -/
structure State.WipeKept (s t : State) : Prop where
  stat : t.rd .kvcStat = s.rd .kvcStat
  cause : t.rd .kvcTamperCause = s.rd .kvcTamperCause
  tripped : t.kvc.tripped = s.kvc.tripped
  waits : s.kvc.waits = [] → t.kvc.waits = []
  empty : ∀ v < 256, s.get F.vsCfg_STATE v = 0 → t.get F.vsCfg_STATE v = 0

theorem State.WipeKept.refl (s : State) : s.WipeKept s := ⟨rfl, rfl, rfl, id, fun _ _ => id⟩

theorem State.WipeKept.trans {s t u : State} (h : s.WipeKept t) (k : t.WipeKept u) : s.WipeKept u :=
  ⟨k.stat.trans h.stat, k.cause.trans h.cause, k.tripped.trans h.tripped, fun hw => k.waits (h.waits hw),
    fun v hv h0 => k.empty v hv (h.empty v hv h0)⟩

theorem State.WipeKept.foldl {α : Type} {f : State → α → State} (h : ∀ (s : State) (a : α), s.WipeKept (f s a)) (l : List α) (s : State) :
    s.WipeKept (l.foldl f s) := by
  induction l generalizing s with
  | nil => exact .refl s
  | cons a l ih => exact (h s a).trans (ih _)

theorem State.VaultKept.tripped {s t : State} (h : s.VaultKept t) : t.kvc.tripped = s.kvc.tripped := by
  have := congrArg Kvc.tripped h.rest
  exact this

theorem State.Releases.wipeKept {s t : State} (h : s.Releases t) : s.WipeKept t :=
  ⟨h.vault.stat, h.vault.cause, h.vault.tripped, fun hw => h.vault.waits.trans hw, fun _ hv h0 => h.empty hv h0⟩

/-- A change of what KVC holds behind its registers. -/
theorem State.wipeKept_setKvc (s : State) (k : Kvc) (ht : k.tripped = s.kvc.tripped) (hw : s.kvc.waits = [] → k.waits = []) :
    s.WipeKept (s.setKvc k) := ⟨rfl, rfl, ht, hw, fun _ _ => id⟩

theorem State.wipeKept_put_lastGen (s : State) (v : Nat) : s.WipeKept (s.put F.vsCfg_LAST_GEN 0 v) :=
  ⟨s.rd_wr_ne _ _ _ _ _ _ _ (by rw [regAddr_kvcStat, regAddr_vsCfg]; omega),
    s.rd_wr_ne _ _ _ _ _ _ _ (by rw [regAddr_kvcTamperCause, regAddr_vsCfg]; omega), rfl, id,
    fun w _ h => by
      have e : (s.put F.vsCfg_LAST_GEN 0 v).get F.vsCfg_STATE w = s.get F.vsCfg_STATE w :=
        s.get_put_disjoint _ rfl (by decide) (by decide) (by decide)
      rw [e, h]⟩

theorem State.wipeKept_slotCleared (s : State) (v : Nat) : s.WipeKept (s.slotCleared v) := by
  have h := s.vaultKept_slotCleared v
  refine ⟨h.stat, h.cause, h.tripped, fun hw => h.waits.trans hw, fun w hv h0 => ?_⟩
  by_cases hw : w = v
  · rw [hw]
    exact (s.slotEmptied_slotCleared v).state
  · exact ((s.slotKept_slotCleared hw).get_cfg rfl).trans h0

theorem State.wipeKept_slotWipe (s : State) (v : Nat) : s.WipeKept (s.slotWipe v) :=
  ((s.wipeKept_slotCleared v).trans (s.slotCleared_releases_slotEmpty v).wipeKept).trans (State.wipeKept_put_lastGen _ v)

theorem State.slotWipe_empty (s : State) {v : Nat} (hv : v < 256) : (s.slotWipe v).get F.vsCfg_STATE v = 0 :=
  ((s.slotCleared_releases_slotEmpty v).wipeKept.trans (State.wipeKept_put_lastGen _ v)).empty v hv (s.slotEmptied_slotCleared v).state

/-! ### The stages of a zeroisation -/

/-- Operations, waiting KEY_GENs, exchanges with a pin and frames that wait for a launch end (R531, R532). -/
def State.opsAborted (s : State) : State :=
  let s := s.keyOps (fun _ => true) fun s w => s.keyOpEnd w .keyGone
  let l := s.kvc.genWaits
  let s := l.foldl (fun s w => s.complete w.c 0x80 .keyGone) (s.setKvc { s.kvc with genWaits := [] })
  let s := s.xcEach (fun x => x.pin.isSome) State.xcAbort
  (tabKeys (fun i x => x.isSome && s.launchHeld i) s.tsv.xcs).foldl State.xcFree s

/-- One slot of a zeroisation: engines let go of it and it is wiped, where it is not EMPTY. -/
def State.slotGone (s : State) (v : Nat) : State :=
  if s.get F.vsCfg_STATE v = vsEmpty then s else ((s.slgKeyGone v).ringKeyGone v).slotWipe v

/-- Every slot is EMPTY with LAST_GEN 0, and no derived key is left. -/
def State.slotsGone (s : State) : State :=
  let s := (List.range 256).foldl State.slotGone s
  let s := (List.range 256).foldl (fun s v => s.put F.vsCfg_LAST_GEN 0 v) s
  s.setKvc { s.kvc with derived := .none, lru := [], exports := [], copies := [], drbg := 0 }

/-- The record of a zeroisation and its entry in the event ledger. -/
def State.recorded (s : State) (k sec : Nat) : State :=
  let s := ((s.tamperRecord k sec).putB F.kvcStat_ROOT_VALID false).put F.kvcStat_ROOT_EPOCH 0
  s.log 0x08 0xff 0x0801 0 4 (beBytes 2 (s.rd .kvcTamperCause).toNat)

/-- The D0 second that a zeroisation latches. -/
def State.tamperSec (s : State) : Nat :=
  if (s.dom 0).st = .running then (s.ticks 0 / Int.ofNat Config.secTicks).toNat % 2 ^ 32 else 0

theorem State.zeroise_eq (s : State) (k : Nat) :
    s.zeroise k = (s.opsAborted.slotsGone.recorded k s.tamperSec).refreshAll [38, 39, 60, 61] := rfl

theorem State.opsAborted_kept (s : State) : s.WipeKept s.opsAborted ∧ s.opsAborted.kvc.waits = [] := by
  unfold State.opsAborted
  dsimp only
  have ops := s.dropWaits_releases_keyOps (fun _ => true) (f := fun s w => s.keyOpEnd w .keyGone) fun s w => s.releases_keyOpEnd w _
  have idle : (s.dropWaits fun _ => true).kvc.waits = [] := by simp [State.dropWaits, State.setKvc]
  have drop : s.WipeKept (s.dropWaits fun _ => true) := s.wipeKept_setKvc _ rfl fun _ => idle
  generalize s.keyOps _ _ = a at ops ⊢
  have gens := State.WipeKept.foldl (fun (s : State) (w : GenWait) => (s.releases_complete w.c 0x80 .keyGone []).wipeKept)
    a.kvc.genWaits (a.setKvc { a.kvc with genWaits := [] })
  have freed : ∀ (l : List Nat) (t : State), t.WipeKept (l.foldl State.xcFree t) := fun l t =>
    (State.Releases.foldl (fun s i => (s.releases_xcFree i).1) l t).wipeKept
  have ended := ((ops.wipeKept.trans (a.wipeKept_setKvc { a.kvc with genWaits := [] } rfl id)).trans gens).trans
    (State.releases_xcEach _ (fun x => x.pin.isSome) fun s i => (s.releases_xcAbort i).1).wipeKept
  exact ⟨(drop.trans ended).trans (freed _ _), (ended.trans (freed _ _)).waits idle⟩

theorem State.slotGone_kept (s : State) (v : Nat) : s.WipeKept (s.slotGone v) := by
  unfold State.slotGone
  split
  · exact .refl s
  · exact ((s.releases_slgKeyGone v).trans (State.releases_ringKeyGone _ v)).wipeKept.trans (State.wipeKept_slotWipe _ v)

theorem State.slotGone_empty (s : State) {v : Nat} (hv : v < 256) : (s.slotGone v).get F.vsCfg_STATE v = 0 := by
  unfold State.slotGone
  split
  case isTrue h => exact h
  case isFalse => exact State.slotWipe_empty _ hv

theorem State.slotsGone_kept (s : State) : s.WipeKept s.slotsGone ∧ ∀ v < 256, s.slotsGone.get F.vsCfg_STATE v = 0 := by
  have gone : ∀ (l : List Nat) (s : State) (v : Nat), v < 256 → v ∈ l → (l.foldl State.slotGone s).get F.vsCfg_STATE v = 0 := fun l => by
    induction l with
    | nil => exact fun _ _ _ h => absurd h List.not_mem_nil
    | cons k l ih =>
      intro s v hv hm
      rcases List.mem_cons.mp hm with rfl | hm
      · exact (State.WipeKept.foldl State.slotGone_kept l _).empty v hv (s.slotGone_empty hv)
      · exact ih _ v hv hm
  have last : ∀ (l : List Nat) (t : State), t.WipeKept (l.foldl (fun s v => s.put F.vsCfg_LAST_GEN 0 v) t) :=
    State.WipeKept.foldl State.wipeKept_put_lastGen
  have all : ∀ v < 256, v ∈ List.range 256 := fun v hv => List.mem_range.mpr hv
  unfold State.slotsGone
  dsimp only
  generalize List.range 256 = l at all ⊢
  have cleared := (last l (l.foldl State.slotGone s)).trans (State.wipeKept_setKvc _ { (l.foldl (fun s v => s.put F.vsCfg_LAST_GEN 0 v)
    (l.foldl State.slotGone s)).kvc with derived := .none, lru := [], exports := [], copies := [], drbg := 0 } rfl id)
  exact ⟨(State.WipeKept.foldl State.slotGone_kept l s).trans cleared, fun v hv => cleared.empty v hv (gone l s v hv (all v hv))⟩

/-! ### The record -/

/-- The record of a source in VBAT: t has it, where s had none of this zeroisation. -/
structure State.TamperRecorded (s t : State) (k sec : Nat) : Prop where
  root : t.kvc.root = 0
  epoch : t.kvc.epoch = 0
  zeroised : t.getB F.kvcStat_ZEROISED = true
  count : t.get F.kvcTamperCause_COUNT = min 255 (s.get F.kvcTamperCause_COUNT + 1)
  sec : t.get F.kvcTamperCause_SEC = sec % 2 ^ 32
  bit : (t.rd .kvcTamperCause).getLsbD k = true
  tripped : t.kvc.tripped = s.kvc.tripped
  waits : t.kvc.waits = s.kvc.waits
  slots : ∀ v < 256, t.rd .vsCfg v = s.rd .vsCfg v
  out : t.out = s.out

theorem bitsOf_or_bit {w : Word} {k hi lo : Nat} (h : hi < 64) (hl : lo ≤ hi) (hk : k < lo) :
    bitsOf (w ||| BitVec.ofNat 64 (2 ^ k)) hi lo = bitsOf w hi lo :=
  bitsOf_congr h hl fun b hb _ => by
    have hkb : k ≠ b := by omega
    simp only [BitVec.getLsbD_or, BitVec.getLsbD_ofNat, Nat.testBit_two_pow, hkb, decide_false, Bool.and_false, Bool.or_false]

theorem State.tamperRecorded (s : State) {k : Nat} (hk : k < 24) (sec : Nat) : s.TamperRecorded (s.tamperRecord k sec) k sec := by
  let a : State := (s.bump F.kvcTamperCause_COUNT 1).put F.kvcTamperCause_SEC sec
  let b : State := a.wr .kvcTamperCause (a.rd .kvcTamperCause ||| BitVec.ofNat 64 (2 ^ k))
  have stat : (s.tamperRecord k sec).rd .kvcTamperCause = b.rd .kvcTamperCause := State.rd_wr_ne _ _ _ _ _ _ _ _ (by decide)
  have fields : ∀ f : Field, f.reg = .kvcTamperCause → f.hi < 64 → f.lo ≤ f.hi → k < f.lo → (s.tamperRecord k sec).get f = a.get f :=
    fun f hr h hl hf => by
      simp only [State.get, hr, stat, b, State.rd_wr_same, bitsOf_or_bit h hl hf]
  refine ⟨rfl, rfl, State.getB_putB_same _ _ _ _ _ (by decide) (by decide), ?_, ?_, ?_, rfl, rfl, fun v _ => ?_, rfl⟩
  · rw [fields _ rfl (by decide) (by decide) (Nat.lt_of_lt_of_le hk (by decide))]
    exact (State.get_put_disjoint (f := F.kvcTamperCause_SEC) (g := F.kvcTamperCause_COUNT) _ _ rfl (by decide) (by decide)
      (by decide)).trans (s.get_bump_same _ _ _ _ (by decide) (by decide))
  · rw [fields _ rfl (by decide) (by decide) (Nat.lt_of_lt_of_le hk (by decide))]
    exact State.get_put_same _ _ _ _ _ (by decide) (by decide)
  · rw [stat, State.rd_wr_same, BitVec.getLsbD_or, BitVec.getLsbD_ofNat, Nat.testBit_two_pow_self]
    simp only [show k < 64 by omega, decide_true, Bool.and_self, Bool.or_true]
  · have hs : regAddr .vsCfg v 0 ≠ regAddr .kvcStat 0 0 := by rw [regAddr_vsCfg, regAddr_kvcStat]; omega
    have hc : regAddr .vsCfg v 0 ≠ regAddr .kvcTamperCause 0 0 := by rw [regAddr_vsCfg, regAddr_kvcTamperCause]; omega
    exact (State.rd_wr_ne _ _ _ _ _ _ _ _ hs).trans ((State.rd_wr_ne _ _ _ _ _ _ _ _ hc).trans
      ((State.rd_wr_ne _ _ _ _ _ _ _ _ hc).trans (State.rd_wr_ne _ _ _ _ _ _ _ _ hc)))

end Sys2Proof.Machine
end

section
/-! The rows of tamper, VBAT and the generator (R529-R535, R551, R562). -/
namespace Sys2Proof.Machine

/-! ### Tamper -/

/-- A record stays where what it consists of does. -/
theorem State.TamperRecorded.keep {s t u : State} {k sec : Nat} (h : s.TamperRecorded t k sec) (kvc : u.kvc = t.kvc)
    (zeroised : u.getB F.kvcStat_ZEROISED = t.getB F.kvcStat_ZEROISED) (cause : u.rd .kvcTamperCause = t.rd .kvcTamperCause)
    (cfg : ∀ v < 256, u.rd .vsCfg v = t.rd .vsCfg v) (out : u.out = t.out) : s.TamperRecorded u k sec where
  root := by rw [kvc, h.root]
  epoch := by rw [kvc, h.epoch]
  zeroised := zeroised.trans h.zeroised
  count := by rw [← h.count, State.get, cause, State.get]
  sec := by rw [← h.sec, State.get, cause, State.get]
  bit := by rw [cause, h.bit]
  tripped := by rw [kvc, h.tripped]
  waits := by rw [kvc, h.waits]
  slots := fun v hv => (cfg v hv).trans (h.slots v hv)
  out := out.trans h.out

/-- A field of KVC_STAT beside ZEROISED is no part of the record. -/
theorem State.TamperRecorded.put_stat {s t : State} {k sec : Nat} (h : s.TamperRecorded t k sec) (f : Field) (n : Nat)
    (hr : f.reg = .kvcStat) (hf : f.hi < 64) (hl : f.lo ≤ f.hi) (h0 : 0 < f.lo) : s.TamperRecorded (t.put f n) k sec := by
  refine h.keep rfl ?_ (t.rd_wr_ne _ _ _ _ _ _ _ (by rw [hr]; decide)) (fun v _ => t.rd_wr_ne _ _ _ _ _ _ _ ?_) rfl
  · unfold State.getB
    rw [State.get_put_other _ _ _ _ _ _ (by rw [hr]) hf (by decide) hl (by decide) (.inl h0)]
  · rw [hr, regAddr_vsCfg, regAddr_kvcStat]
    omega

theorem State.TamperRecorded.log {s t : State} {k sec : Nat} (h : s.TamperRecorded t k sec) (b i c p sv : Nat) (d : List Byte) :
    s.TamperRecorded (t.log b i c p sv d) k sec := by
  have words := t.kvcWords_log b i c p sv d
  refine h.keep (by simp) (State.getB_of_rd (State.rd_of_kvcWords words (by decide))) (State.rd_of_kvcWords words (by decide))
    (fun v hv => State.rd_of_kvcWords words ?_) (by simp)
  rw [regAddr_vsCfg]
  omega

/-- The record of a zeroisation with main power: that of its source, and the root is no longer valid. -/
theorem State.tamperRecorded_recorded (s : State) {k : Nat} (hk : k < 24) (sec : Nat) :
    s.TamperRecorded (s.recorded k sec) k sec ∧ (s.recorded k sec).getB F.kvcStat_ROOT_VALID = false := by
  have hrec := (((s.tamperRecorded hk sec).put_stat F.kvcStat_ROOT_VALID 0 rfl (by decide) (by decide) (by decide)).put_stat
    F.kvcStat_ROOT_EPOCH 0 rfl (by decide) (by decide) (by decide)).log 0x08 0xff 0x0801 0 4
  refine ⟨hrec _, ?_⟩
  unfold State.recorded
  dsimp only
  rw [State.getB_of_rd (State.rd_of_kvcWords (State.kvcWords_log _ _ _ _ _ _ _) (by decide)),
    State.getB_put_other _ F.kvcStat_ROOT_EPOCH F.kvcStat_ROOT_VALID _ _ _ rfl (by decide) (by decide) (by decide) (by decide) (by decide),
    State.getB_putB_same _ _ _ _ _ (by decide) (by decide)]

/-- Of a zeroisation of s by source k, u is what it leaves before the level sources follow (R531). -/
structure State.ZeroisedTo (s u : State) (k : Nat) : Prop where
  root : u.kvc.root = 0
  epoch : u.kvc.epoch = 0
  zeroised : u.getB F.kvcStat_ZEROISED = true
  count : u.get F.kvcTamperCause_COUNT = min 255 (s.get F.kvcTamperCause_COUNT + 1)
  bit : (u.rd .kvcTamperCause).getLsbD k = true
  tripped : u.kvc.tripped = s.kvc.tripped
  rootValid : u.getB F.kvcStat_ROOT_VALID = false
  waits : u.kvc.waits = []
  empty : ∀ v < 256, u.get F.vsCfg_STATE v = 0

/-- A record, made where nothing waits any more and every slot is EMPTY. -/
theorem State.TamperRecorded.zeroisedTo {s t u : State} {k sec : Nat} (h : t.TamperRecorded u k sec) (all : s.WipeKept t)
    (idle : t.kvc.waits = []) (empty : ∀ v < 256, t.get F.vsCfg_STATE v = 0) (rootValid : u.getB F.kvcStat_ROOT_VALID = false) :
    s.ZeroisedTo u k := by
  have count : t.get F.kvcTamperCause_COUNT = s.get F.kvcTamperCause_COUNT := State.get_of_rd all.cause
  have states : ∀ v < 256, u.get F.vsCfg_STATE v = t.get F.vsCfg_STATE v := fun v hv => State.get_of_rd (h.slots v hv)
  exact ⟨h.root, h.epoch, h.zeroised, by rw [h.count, count], h.bit, h.tripped.trans all.tripped, rootValid, h.waits.trans idle,
    fun v hv => (states v hv).trans (empty v hv)⟩

theorem State.zeroise_to (s : State) {k : Nat} (hk : k < 24) :
    ∃ u : State, s.zeroise k = u.refreshAll [38, 39, 60, 61] ∧ s.ZeroisedTo u k := by
  obtain ⟨kept, idle⟩ := s.opsAborted_kept
  obtain ⟨gone, empty⟩ := s.opsAborted.slotsGone_kept
  obtain ⟨hrec, rootValid⟩ := s.opsAborted.slotsGone.tamperRecorded_recorded hk s.tamperSec
  exact ⟨_, s.zeroise_eq k, hrec.zeroisedTo (kept.trans gone) (gone.waits idle) empty rootValid⟩

theorem glitchExempt_eq_false {source : Nat} {fell : Option Nat} (h : source = 6 → ∀ n ∈ fell, n < 1000) :
    glitchExempt source fell = false := by
  unfold glitchExempt
  by_cases hs : source = 6
  · cases fell with
    | none => simp
    | some n => simpa [hs] using h hs n rfl
  · simp [hs]

theorem tamperTrip_exempt (s : State) (powered : Bool) (n : Nat) (h : 1000 ≤ n) :
    exec (.tamperTrip 6 ⟨powered, some n⟩) s = .next s := by
  have hg : glitchExempt 6 (some n) = true := by simp [glitchExempt, h]
  simp only [exec_tamperTrip, execTamperTrip, hg, or_true, if_true]

/-- The source has tripped. -/
def State.trip (s : State) (source : Nat) : State := s.setKvc { s.kvc with tripped := withBit s.kvc.tripped source }

/-- TAMPER_TRIP of a source that is enabled and not exempt. -/
theorem tamperTrip_runs {s : State} {source : Nat} (powered : Bool) {fell : Option Nat} (hs : source < 8)
    (hon : s.tamperOn source = true) (hf : source = 6 → ∀ n ∈ fell, n < 1000) :
    exec (.tamperTrip source ⟨powered, fell⟩) s = .next (if powered then (s.trip source).zeroise source
      else if source < 6 then (s.trip source).tamperRecord source 0 else s.trip source) := by
  have hno : ¬ (8 ≤ source ∨ (!s.tamperOn source) = true ∨ glitchExempt source fell = true) := by
    rw [hon, glitchExempt_eq_false hf]
    simp only [Bool.not_true, Bool.false_eq_true, or_false]
    omega
  rw [exec_tamperTrip, execTamperTrip, if_neg hno]
  rfl

/-- The clauses on TAMPER_TRIP (R529-R533). -/
theorem tamperTrip_wipes (s : State) (source : Nat) (fell : Option Nat) (hs : source < 8) (hon : s.tamperOn source = true)
    (hf : source = 6 → ∀ n ∈ fell, n < 1000) :
    let wiped (u : State) : Prop := u.kvc.root = 0 ∧ u.kvc.epoch = 0 ∧ u.getB F.kvcStat_ZEROISED = true ∧
      u.get F.kvcTamperCause_COUNT = min 255 (s.get F.kvcTamperCause_COUNT + 1) ∧
      (u.rd .kvcTamperCause).getLsbD source = true ∧ bitOf u.kvc.tripped source = true
    (∃ u : State, exec (.tamperTrip source ⟨true, fell⟩) s = .next (u.refreshAll [38, 39, 60, 61]) ∧ wiped u ∧
      u.getB F.kvcStat_ROOT_VALID = false ∧ u.kvc.waits = [] ∧ (∀ v < 256, u.get F.vsCfg_STATE v = 0)) ∧
    (source < 6 → ∃ u : State, exec (.tamperTrip source ⟨false, fell⟩) s = .next u ∧ wiped u ∧
      u.get F.kvcTamperCause_SEC = 0 ∧ u.out = s.out) := by
  have tripped : bitOf (s.trip source).kvc.tripped source = true := bitOf_withBit _ _
  refine ⟨?_, fun h6 => ?_⟩
  · obtain ⟨u, hu, h⟩ := (s.trip source).zeroise_to (k := source) (by omega)
    refine ⟨u, by rw [tamperTrip_runs true hs hon hf, if_pos rfl, hu], ⟨h.root, h.epoch, h.zeroised, h.count, h.bit, ?_⟩, h.rootValid,
      h.waits, h.empty⟩
    rw [h.tripped, tripped]
  · have h := (s.trip source).tamperRecorded (k := source) (by omega) 0
    refine ⟨_, by rw [tamperTrip_runs false hs hon hf, if_neg Bool.false_ne_true, if_pos h6],
      ⟨h.root, h.epoch, h.zeroised, h.count, h.bit, ?_⟩, h.sec, h.out⟩
    rw [h.tripped, tripped]

theorem tamperSourceRelease_clears (s : State) (source : Nat) (h : source < 8) :
    ∃ u : State, exec (.tamperSourceRelease source) s = .next (u.refresh 60) ∧ bitOf u.kvc.tripped source = false ∧ u.regs = s.regs := by
  refine ⟨s.setKvc { s.kvc with tripped := withoutBit s.kvc.tripped source }, ?_, bitOf_withoutBit _ _, rfl⟩
  rw [exec_tamperSourceRelease, execTamperSourceRelease, if_neg (by omega)]

/-! ### The generator and VBAT -/

theorem rngHealthFail_shows (s : State) :
    ∃ u : State, exec .rngHealthFail s = .next (u.refresh 41) ∧ u.rngOk = false ∧ u.kvc.rngFail = true :=
  ⟨_, rfl, State.getB_putB_same s F.kvcStat_RNG_OK false 0 0 (by decide) (by decide), rfl⟩

theorem rngHealthPass_serves (s : State) :
    ∃ u : State, exec .rngHealthPass s = .next (s.kvc.genWaits.foldl State.genRun (u.refresh 41)) ∧ u.rngOk = true ∧
      u.kvc.rngFail = false ∧ u.kvc.genWaits = [] :=
  ⟨_, rfl, State.getB_putB_same s F.kvcStat_RNG_OK true 0 0 (by decide) (by decide), rfl, rfl⟩

theorem keyGenTimeout_ends (s : State) (w : GenWait) (l : List GenWait) (hw : s.kvc.genWaits = w :: l)
    (ht : w.at' + 12500000 ≤ s.tse.cyc) :
    ∃ u : State, exec .keyGenTimeout s = .next (u.complete w.c 0x80 .timeout) ∧ u.kvc.genWaits = l ∧ u.regs = s.regs := by
  refine ⟨s.setKvc { s.kvc with genWaits := l }, ?_, rfl, rfl⟩
  rw [exec_keyGenTimeout, execKeyGenTimeout]
  simp only [hw, if_pos ht]

theorem vbatWarn_judges (s : State) (mv : Nat) (h : mv < 2 ^ 16) :
    ∃ u : State, exec (.vbatWarn mv) s = .next (u.refresh 62) ∧ u.get F.kvcVbat_VBAT_MV = mv ∧
      u.getB F.kvcStat_VBAT_WARN = decide (mv < s.get F.kvcVbat_WARN_MV) := by
  have hmv : (s.put F.kvcVbat_VBAT_MV mv).get F.kvcVbat_VBAT_MV = mv := by
    rw [State.get_put_same _ _ _ _ _ (by decide) (by decide)]
    exact Nat.mod_eq_of_lt h
  have hwarn : (s.put F.kvcVbat_VBAT_MV mv).get F.kvcVbat_WARN_MV = s.get F.kvcVbat_WARN_MV :=
    s.get_put_disjoint _ rfl (by decide) (by decide) (by decide)
  refine ⟨_, rfl, (State.get_put_ne _ _ _ _ _ _ _ _ (by decide)).trans hmv, ?_⟩
  refine (State.getB_putB_same _ _ _ _ _ (by decide) (by decide)).trans ?_
  rw [hmv, hwarn]

end Sys2Proof.Machine
end

section
/-! The limit of an erase, the key cache and copies of keys (R37-R39, R548, R551, R554-R557), and the rows of KVC together. -/
namespace Sys2Proof.Machine

/-! ### The limit of an erase -/

theorem State.slotEmptied_slotEmpty (s : State) {v : Nat} (hv : v < 256) : s.SlotEmptied (s.slotEmpty v) v := by
  have cleared := s.slotEmptied_slotCleared v
  rcases (s.slotCleared_releases_slotEmpty v).slot v hv with kept | ⟨h2, -⟩
  · exact cleared.trans_kept kept
  · exact absurd (cleared.state.symm.trans h2) (by decide)

/-- The pins that a forced erase finds, counted. -/
def State.pinsForced (s : State) (v : Nat) : State :=
  s.bump F.vsPins_FORCED (s.get F.vsPins_CUR_PINS v + s.get F.vsPins_PREV_PINS v) v

/-- Operations, exchanges and copies that hold a generation of the slot end. -/
def State.holdersEnded (s : State) (v : Nat) : State :=
  let s := s.keyOps (fun w => w.slot == v) fun s w => s.keyOpEnd w .noKey
  let s := s.xcEach (fun x => (x.pin.map (·.1)) == some v) State.xcTimeout
  s.setKvc { s.kvc with exports := s.kvc.exports.filter (fun e => e.1 != v), copies := s.kvc.copies.filter (fun e => e.1.1 != v) }

theorem State.holdersEnded_slot (s : State) {v : Nat} (hv : v < 256) :
    s.SlotKept (s.holdersEnded v) v ∨ s.SlotEmptied (s.holdersEnded v) v := by
  unfold State.holdersEnded
  dsimp only
  have ended := (s.dropWaits_releases_keyOps (fun w => w.slot == v) (f := fun s w => s.keyOpEnd w .noKey)
    fun s w => s.releases_keyOpEnd w _).trans
      (State.releases_xcEach _ (fun x => (x.pin.map (·.1)) == some v) State.releases_xcTimeout)
  generalize State.xcEach _ _ _ = t at ended ⊢
  have drop : s.SlotKept (s.dropWaits fun w => w.slot == v) v := ⟨rfl, rfl, rfl, rfl, id⟩
  have copies : ∀ k : Kvc, k.slots = t.kvc.slots → t.SlotKept (t.setKvc k) v := fun k hk => by
    have hs : (t.setKvc k).vslot v = t.vslot v := by simp only [State.vslot, State.setKvc, hk]
    exact ⟨rfl, rfl, rfl, by rw [hs], fun h => by rw [hs, h]⟩
  rcases ended.slot v hv with kept | ⟨-, emptied⟩
  · exact .inl ((drop.trans kept).trans (copies _ rfl))
  · exact .inr ((drop.trans_emptied emptied).trans_kept (copies _ rfl))

/-- The slot is EMPTY after the force: it became so when the last pin was released, or is emptied now. -/
theorem State.slotEmptied_forced (s : State) {v : Nat} (hv : v < 256) (h2 : s.get F.vsCfg_STATE v = 2) :
    s.SlotEmptied (if (s.holdersEnded v).get F.vsCfg_STATE v = vsErasing then (s.holdersEnded v).slotEmpty v else s.holdersEnded v) v := by
  rcases s.holdersEnded_slot hv with kept | emptied
  · rw [if_pos ((kept.get_cfg rfl).trans h2)]
    exact kept.trans_emptied (State.slotEmptied_slotEmpty _ hv)
  · rw [if_neg (by rw [emptied.state]; decide)]
    exact emptied

theorem eraseForceTimeout_empties (s : State) (slot : Nat) (hs : slot < 256) (h2 : s.get F.vsCfg_STATE slot = 2)
    (ht : (s.vslot slot).eraseAt + 1250000 ≤ s.tse.cyc) :
    ∃ u : State, exec (.eraseForceTimeout slot) s = .next (u.refreshAll [38, 39]) ∧
      u.get F.vsCfg_STATE slot = 0 ∧ u.get F.vsGen_CUR_GEN slot = 0 ∧ (u.vslot slot).cur = none ∧ (u.vslot slot).prev = none ∧
      u.get F.vsCfg_LAST_GEN slot = s.get F.vsCfg_LAST_GEN slot ∧
      u.get F.vsPins_FORCED slot =
        min 15 (s.get F.vsPins_FORCED slot + s.get F.vsPins_CUR_PINS slot + s.get F.vsPins_PREV_PINS slot) := by
  have hcfg : regAddr .vsCfg slot 0 ≠ regAddr .vsPins slot 0 := by rw [regAddr_vsCfg, regAddr_vsPins]; omega
  have cfg : ∀ f : Field, f.reg = .vsCfg → (s.pinsForced slot).get f slot = s.get f slot := fun f hf =>
    s.get_put_ne _ _ _ _ _ _ _ (by rw [hf]; exact hcfg)
  have count : (s.pinsForced slot).get F.vsPins_FORCED slot =
      min 15 (s.get F.vsPins_FORCED slot + (s.get F.vsPins_CUR_PINS slot + s.get F.vsPins_PREV_PINS slot)) :=
    s.get_bump_same _ _ _ _ (by decide) (by decide)
  have h := (s.pinsForced slot).slotEmptied_forced hs ((cfg _ rfl).trans h2)
  have due : ¬ (256 ≤ slot ∨ s.get F.vsCfg_STATE slot ≠ vsErasing ∨ s.tse.cyc < (s.vslot slot).eraseAt + 1250000) := by
    rintro (hge | hst | hlt)
    · omega
    · exact hst h2
    · omega
  refine ⟨_, ?_, h.state, h.curGen, h.cur, h.prev, h.lastGen.trans (cfg _ rfl), ?_⟩
  · rw [exec_eraseForceTimeout, execEraseForceTimeout, if_neg due]
    rfl
  · rw [h.forced, count, Nat.add_assoc]

/-! ### The key cache -/

/-- Nothing is evicted where the entries are free. -/
theorem State.makeRoom_eq (s : State) {n : Nat} (h : s.cacheUsed + n ≤ 4096) : s.makeRoom n = s := by
  have hn : ¬ 4096 < s.cacheUsed + n := by omega
  refine List.foldl_fixed' (fun v => ?_) _
  simp only [hn, decide_false, Bool.false_and, Bool.false_eq_true, if_false]
  split <;> rfl

theorem State.keyMat_cur {s : State} {v gen : Nat} (h : s.get F.vsGen_CUR_GEN v = gen) : s.keyMat v gen = (s.vslot v).cur := if_pos h

theorem State.SlotKept.keyMat_cur {s t : State} {v gen : Nat} (h : s.SlotKept t v) (hg : s.get F.vsGen_CUR_GEN v = gen) :
    t.keyMat v gen = (s.vslot v).cur := by
  rw [State.keyMat_cur (h.curGen.trans hg), h.cur]

theorem State.keyResident_of_keyMat {s : State} {v gen : Nat} {m : KeyMat} (h : s.keyMat v gen = some m) :
    s.keyResident v gen = m.resident := by
  simp only [State.keyResident, h, Option.map_some, Option.getD_some]

theorem State.keyBytes_of_keyMat {s : State} {v gen : Nat} {m : KeyMat} (h : s.keyMat v gen = some m) : s.keyBytes v gen = m.key := by
  simp only [State.keyBytes, h, Option.map_some, Option.getD_some]

/-- The operations that wait for a generation. -/
def KeyWait.waitsFor (slot gen : Nat) (w : KeyWait) : Bool := w.slot == slot && w.gen == gen

/-- No operation waits for a generation whose waiting operations have all been taken up. -/
theorem State.Releases.idle {s t : State} {slot gen : Nat} (h : (s.dropWaits (KeyWait.waitsFor slot gen)).Releases t) :
    ∀ w ∈ t.kvc.waits, w.slot = slot → w.gen ≠ gen := by
  intro w hw hslot hgen
  rw [h.vault.waits] at hw
  have := (List.mem_filter.mp hw).2
  simp [KeyWait.waitsFor, hslot, hgen] at this

/-- A miss whose blob fails a check. -/
def State.missFails (s : State) (slot gen : Nat) : State :=
  ((((s.tallyAes (s.vsPart slot) gcmBlocks).pulse 40 (s.vsPart slot) slot).keyOps (KeyWait.waitsFor slot gen)
    fun s w => s.keyOpEnd w .noKey).xcEach (fun x => x.pin == some (slot, gen) && x.stage == .key) State.xcAbort)

/-- A current generation back in the cache, before the operations that wait for it run. -/
def State.missFilled (s : State) (slot : Nat) (m : KeyMat) : State :=
  (((s.tallyAes (s.vsPart slot) gcmBlocks).setVslot slot { s.vslot slot with cur := some m }).bump F.kvcCacheStat_MISSES 1).touch slot

theorem keyCacheMissDone_fails {s : State} {slot gen : Nat} {blob : List Byte} {m : KeyMat} (hm : s.keyMat slot gen = some m)
    (hr : m.resident = false) (hf : firstFail (s.blobChecks (s.vsPart slot) blob (nn blob 4 4 != gen, .verifyFail) (s.keyKcv slot gen)) ≠ none) :
    exec (.keyCacheMissDone slot gen blob) s = .next (s.missFails slot gen) := by
  obtain ⟨st, hst⟩ := Option.ne_none_iff_exists'.mp hf
  have hst' : firstFail ((s.tallyAes (s.vsPart slot) gcmBlocks).blobChecks (s.vsPart slot) blob (nn blob 4 4 != gen, .verifyFail)
    ((s.tallyAes (s.vsPart slot) gcmBlocks).keyKcv slot gen)) = some st := hst
  simp only [exec_keyCacheMissDone, execKeyCacheMissDone, hm, hr, Bool.false_eq_true, if_false, hst']
  rfl

theorem keyCacheMissDone_fills {s : State} {slot gen : Nat} {blob : List Byte} {m : KeyMat} (hm : s.keyMat slot gen = some m)
    (hr : m.resident = false) (hf : firstFail (s.blobChecks (s.vsPart slot) blob (nn blob 4 4 != gen, .verifyFail) (s.keyKcv slot gen)) = none)
    (hn : s.cacheUsed + keyEntries (s.get F.vsCfg_TYPE slot) ≤ 4096) (hg : s.get F.vsGen_CUR_GEN slot = gen) :
    exec (.keyCacheMissDone slot gen blob) s = .next
      ((s.missFilled slot { m with resident := true, key := s.blobKey (s.vsPart slot) blob }).keyOps (KeyWait.waitsFor slot gen)
        State.keyOpRun) := by
  let t := s.tallyAes (s.vsPart slot) gcmBlocks
  have hf' : firstFail (t.blobChecks (s.vsPart slot) blob (nn blob 4 4 != gen, .verifyFail) (t.keyKcv slot gen)) = none := hf
  have room : t.makeRoom (keyEntries (t.get F.vsCfg_TYPE slot)) = t := t.makeRoom_eq hn
  have has : t.hasRoom (keyEntries (t.get F.vsCfg_TYPE slot)) = true := decide_eq_true hn
  have hg' : t.get F.vsGen_CUR_GEN slot = gen := hg
  simp only [exec_keyCacheMissDone, execKeyCacheMissDone, hm, hr, Bool.false_eq_true, if_false]
  simp only [t] at hf' room has hg'
  simp only [hf', room, has, hg', Bool.not_true, Bool.false_eq_true, if_false, if_true]
  rfl

/-- A slot as a miss that fills leaves it. -/
theorem State.missFilled_slot (s : State) (slot : Nat) (m : KeyMat) :
    (s.missFilled slot m).get F.vsCfg_STATE slot = s.get F.vsCfg_STATE slot ∧
      (s.missFilled slot m).get F.vsGen_CUR_GEN slot = s.get F.vsGen_CUR_GEN slot ∧ ((s.missFilled slot m).vslot slot).cur = some m := by
  have ha : regAddr F.kvcCacheStat_MISSES.reg 0 0 = 0x800038 := rfl
  refine ⟨State.get_put_ne _ _ _ _ _ _ _ _ ?_, State.get_put_ne _ _ _ _ _ _ _ _ ?_, ?_⟩
  · rw [ha, regAddr_vsCfg]; omega
  · rw [ha, regAddr_vsGen]; omega
  · change (((s.tallyAes (s.vsPart slot) gcmBlocks).setVslot slot { s.vslot slot with cur := some m }).vslot slot).cur = some m
    rw [State.vslot_setVslot_same]

/-- The clauses on KEY_CACHE_MISS_DONE (R554, R555). -/
theorem keyCacheMissDone_ends (s : State) (slot gen : Nat) (blob : List Byte) (m : KeyMat) (hs : slot < 256)
    (hm : s.keyMat slot gen = some m) (hr : m.resident = false) (h1 : s.get F.vsCfg_STATE slot = 1) :
    let fails := firstFail (s.blobChecks (s.vsPart slot) blob (nn blob 4 4 != gen, .verifyFail) (s.keyKcv slot gen))
    let idle (u : State) : Prop := ∀ w ∈ u.kvc.waits, w.slot = slot → w.gen ≠ gen
    (fails = none → s.cacheUsed + keyEntries (s.get F.vsCfg_TYPE slot) ≤ 4096 → s.get F.vsGen_CUR_GEN slot = gen →
      ∃ u : State, exec (.keyCacheMissDone slot gen blob) s = .next u ∧ u.keyResident slot gen = true ∧
        u.keyBytes slot gen = s.blobKey (s.vsPart slot) blob ∧ idle u) ∧
    (fails ≠ none → ∃ u : State, exec (.keyCacheMissDone slot gen blob) s = .next u ∧ idle u ∧ u.get F.vsCfg_STATE slot = 1 ∧
      ∀ (i : Nat) (x : Xc), u.xc i = some x → x.pin = some (slot, gen) → x.stage ≠ .key) := by
  refine ⟨fun hf hn hg => ?_, fun hf => ?_⟩
  · obtain ⟨state, curGen, cur⟩ := s.missFilled_slot slot { m with resident := true, key := s.blobKey (s.vsPart slot) blob }
    have ran := (s.missFilled slot { m with resident := true, key := s.blobKey (s.vsPart slot) blob }).dropWaits_releases_keyOps
      (KeyWait.waitsFor slot gen) State.releases_keyOpRun
    have kept := ran.active hs (state.trans h1)
    have mat := (kept.keyMat_cur (curGen.trans hg)).trans cur
    exact ⟨_, keyCacheMissDone_fills hm hr hf hn hg, State.keyResident_of_keyMat mat, State.keyBytes_of_keyMat mat, ran.idle⟩
  · let t := (s.tallyAes (s.vsPart slot) gcmBlocks).pulse 40 (s.vsPart slot) slot
    have pulsed : s.Releases t := (s.releases_tally _).trans (State.releases_pulse _ _ _ _ _ _)
    have ended := t.dropWaits_releases_keyOps (KeyWait.waitsFor slot gen) (f := fun s w => s.keyOpEnd w .noKey)
      fun s w => s.releases_keyOpEnd w _
    have all := ended.trans (State.releases_xcEach _ (fun x => x.pin == some (slot, gen) && x.stage == .key)
      fun s i => (s.releases_xcAbort i).1)
    have active : (t.dropWaits (KeyWait.waitsFor slot gen)).get F.vsCfg_STATE slot = 1 := ((pulsed.active hs h1).get_cfg rfl).trans h1
    refine ⟨_, keyCacheMissDone_fails hm hr hf, all.idle, ((all.active hs active).get_cfg rfl).trans active, fun i x hx hp hk => ?_⟩
    have := State.xcEach_gone _ _ State.releases_xcAbort hx
    simp [hp, hk] at this

theorem cacheEccError_some (s : State) (slot gen : Nat) (m : KeyMat) (hm : s.keyMat slot gen = some m) :
    ∃ u : State, exec (.cacheEccError (some slot) gen) s = .next (u.pulse 43 (s.vsPart slot) slot) ∧ u.keyResident slot gen = false ∧
      u.keyBytes slot gen = m.key ∧ u.regs = s.regs := by
  let bad : KeyMat := { m with resident := false }
  let x : VSlot := if s.get F.vsGen_CUR_GEN slot = gen then { s.vslot slot with cur := some bad } else { s.vslot slot with prev := some bad }
  have mat : (s.setVslot slot x).keyMat slot gen = some bad := by
    have hx : (s.setVslot slot x).keyMat slot gen = if s.get F.vsGen_CUR_GEN slot = gen then x.cur
        else if s.get F.vsGen_PREV_GEN slot = gen then x.prev else none := by
      unfold State.keyMat
      rw [State.vslot_setVslot_same]
      rfl
    unfold State.keyMat at hm
    rw [hx]
    by_cases hc : s.get F.vsGen_CUR_GEN slot = gen
    · rw [if_pos hc]
      simp only [x, if_pos hc]
    · rw [if_neg hc] at hm ⊢
      have hp : s.get F.vsGen_PREV_GEN slot = gen := by
        by_contra hp
        rw [if_neg hp] at hm
        cases hm
      rw [if_pos hp]
      simp only [x, if_neg hc]
  refine ⟨s.setVslot slot x, ?_, State.keyResident_of_keyMat mat, (State.keyBytes_of_keyMat mat).trans rfl, rfl⟩
  simp only [exec_cacheEccError, execCacheEccError, hm]
  rfl

/-! ### Copies for CP firmware -/

theorem State.cpRelease_of_mem {s : State} {slot gen : Nat} (h : (slot, gen) ∈ s.kvc.exports) :
    s.cpRelease slot gen = (s.setKvc { s.kvc with exports := s.kvc.exports.erase (slot, gen),
                                                  copies := s.kvc.copies.filter fun e => e.1 != (slot, gen) }).unpin slot gen :=
  if_pos (List.contains_iff_mem.mpr h)

theorem State.cpRelease_of_not_mem {s : State} {slot gen : Nat} (h : (slot, gen) ∉ s.kvc.exports) : s.cpRelease slot gen = s :=
  if_neg (by rwa [List.contains_iff_mem])

theorem State.cpExport_of_not_usable {s : State} {v : Nat} (h : s.keyUsable v (s.vsPart v) attrCpExport = false) : s.cpExport v = s := by
  simp only [State.cpExport, h, Bool.false_and, Bool.false_eq_true, if_false]

/-- A copy of a key that is usable, resident and has no copy yet, and its pin. -/
theorem State.cpExport_delivers {s : State} {v : Nat} (hu : s.keyUsable v (s.vsPart v) attrCpExport = true) (hk : s.kvcOk = true)
    (hr : s.keyResident v (s.get F.vsGen_CUR_GEN v) = true) (hm : (v, s.get F.vsGen_CUR_GEN v) ∉ s.kvc.exports) :
    let g := s.get F.vsGen_CUR_GEN v
    (s.cpExport v).kvc.exports = (v, g) :: s.kvc.exports ∧ (s.cpExport v).kvc.copies = ((v, g), s.keyBytes v g) :: s.kvc.copies ∧
      (s.cpExport v).get F.vsPins_CUR_PINS v = min (2 ^ 20 - 1) (s.get F.vsPins_CUR_PINS v + 1) := by
  intro g
  have he : s.cpExport v = ((s.setKvc { s.kvc with exports := (v, g) :: s.kvc.exports,
                                                   copies := ((v, g), s.keyBytes v g) :: s.kvc.copies }).pin v).2 := by
    refine if_pos ?_
    simp only [hu, hk, hr, List.contains_eq_mem, decide_eq_false hm, Bool.and_self, Bool.not_false]
  rw [he]
  exact ⟨rfl, rfl, State.get_bump_same _ _ _ _ _ (by decide) (by decide)⟩

theorem cpExportRelease_runs (s : State) (l : List Nat) (slot gen : Nat) :
    exec (.cpExportRelease ⟨l, slot⟩ gen) s = .next ((l.foldl State.cpExport s).cpRelease slot gen) := rfl

theorem cpExportRelease_delivers (s : State) (v slot gen : Nat) :
    let g := s.get F.vsGen_CUR_GEN v
    (s.keyUsable v (s.vsPart v) attrCpExport = true → s.kvcOk = true → s.keyResident v g = true → (v, g) ∉ s.kvc.exports →
      (slot, gen) ∉ (v, g) :: s.kvc.exports → ∃ u : State, exec (.cpExportRelease ⟨[v], slot⟩ gen) s = .next u ∧
        u.kvc.exports = (v, g) :: s.kvc.exports ∧ u.kvc.copies = ((v, g), s.keyBytes v g) :: s.kvc.copies ∧
        u.get F.vsPins_CUR_PINS v = min (2 ^ 20 - 1) (s.get F.vsPins_CUR_PINS v + 1)) ∧
    (s.keyUsable v (s.vsPart v) attrCpExport = false → exec (.cpExportRelease ⟨[v], slot⟩ gen) s =
      exec (.cpExportRelease ⟨[], slot⟩ gen) s) := by
  refine ⟨fun hu hk hr hm hrel => ?_, fun hu => ?_⟩
  · have delivered := State.cpExport_delivers hu hk hr hm
    refine ⟨s.cpExport v, ?_, delivered⟩
    rw [cpExportRelease_runs, List.foldl_cons, List.foldl_nil, State.cpRelease_of_not_mem (by rwa [delivered.1])]
  · rw [cpExportRelease_runs, cpExportRelease_runs, List.foldl_cons, State.cpExport_of_not_usable hu]

theorem cpExportRelease_releases (s : State) (slot gen : Nat) (h : (slot, gen) ∈ s.kvc.exports) :
    exec (.cpExportRelease ⟨[], slot⟩ gen) s =
      .next ((s.setKvc { s.kvc with exports := s.kvc.exports.erase (slot, gen),
                                    copies := s.kvc.copies.filter fun e => e.1 != (slot, gen) }).unpin slot gen) := by
  rw [cpExportRelease_runs, List.foldl_nil, State.cpRelease_of_mem h]

/-! ### The rows together -/

/-- Settles O44. Tamper wipes through `zeroise_to` and `tamperRecorded`; a forced erase, a miss and the exchanges that end with either
rest on `Releases`, what the release of pins leaves of KVC. -/
theorem vaultEventsComplete : Obligations.VaultEventsComplete := by
  unfold Obligations.VaultEventsComplete
  intro s
  exact ⟨tamperTrip_exempt s, tamperTrip_wipes s, tamperSourceRelease_clears s, eraseForceTimeout_empties s,
    keyCacheMissDone_ends s, cpExportRelease_releases s, cpExportRelease_delivers s, rfl, cacheEccError_some s,
    ⟨_, rfl, rfl, rfl⟩, rngHealthFail_shows s, rngHealthPass_serves s, keyGenTimeout_ends s, vbatWarn_judges s⟩

end Sys2Proof.Machine
end

section
/-! The tree of domains (R54, R55): what each operation leaves of TSE, or of the kinds and parents of its domains. One lemma per
operation of the model, in the order of its files; where an operation leaves TSE alone as a whole the lemma says that. -/
namespace Sys2Proof.Machine

/-- The kind and the parent of every domain that a table lists. -/
def domTree (t : Tab Dom) (n : Nat) : DomKind × Nat := ((tabGet {} t n).kind, (tabGet {} t n).parent)

/-- The tree of domains of a TSE (R54, R55). -/
def Tse.tree (x : Tse) : Nat → DomKind × Nat := domTree x.doms

/-- An answer keeps the tree of domains. -/
def KeepsTree (s : State) (r : Res) : Prop := ∀ t, r = .next t → t.tse.tree = s.tse.tree

@[simp] theorem keepsTree_next {s t : State} : KeepsTree s (.next t) ↔ t.tse.tree = s.tse.tree :=
  ⟨fun h => h t rfl, fun h u hu => by cases hu; exact h⟩

/-! ### The shapes of a state -/

@[simp] theorem Tse.tree_mk (doms alarms due imm snapped firedNow direct seq caps usPhase cyc steer d0Moved) :
    Tse.tree ⟨doms, alarms, due, imm, snapped, firedNow, direct, seq, caps, usPhase, cyc, steer, d0Moved⟩ = domTree doms := rfl

@[simp] theorem domTree_doms (x : Tse) : domTree x.doms = x.tree := rfl

@[simp] theorem State.tse_ite {c : Prop} [Decidable c] (s t : State) : (if c then s else t).tse = if c then s.tse else t.tse :=
  apply_ite State.tse c s t

@[simp] theorem Tse.tree_ite {c : Prop} [Decidable c] (x y : Tse) : (if c then x else y).tree = if c then x.tree else y.tree :=
  apply_ite Tse.tree c x y

theorem State.tse_of_ite {c : Prop} [Decidable c] {s t : State} {x : Tse} (hs : s.tse = x) (ht : t.tse = x) :
    (if c then s else t).tse = x := by
  rw [State.tse_ite, hs, ht, ite_self]

theorem State.tree_of_ite {c : Prop} [Decidable c] {s t : State} {f : Nat → DomKind × Nat} (hs : s.tse.tree = f)
    (ht : t.tse.tree = f) : (if c then s else t).tse.tree = f := by
  rw [State.tse_ite, Tse.tree_ite, hs, ht, ite_self]

theorem snd_tse_ite {α : Type} {c : Prop} [Decidable c] {x y : α × State} {z : Tse} (hx : x.2.tse = z) (hy : y.2.tse = z) :
    (if c then x else y).2.tse = z := by
  rw [apply_ite Prod.snd, State.tse_of_ite hx hy]

@[simp] theorem State.foldl_tse {α : Type} {f : State → α → State} (h : ∀ s a, (f s a).tse = s.tse) (l : List α) (s : State) :
    (l.foldl f s).tse = s.tse := foldl_keeps State.tse f h l s

@[simp] theorem State.foldl_tree {α : Type} {f : State → α → State} (h : ∀ s a, (f s a).tse.tree = s.tse.tree) (l : List α)
    (s : State) : (l.foldl f s).tse.tree = s.tse.tree := foldl_keeps (fun s => s.tse.tree) f h l s

theorem domTree_tabSet {t : Tab Dom} {n : Nat} {d : Dom} (h : (d.kind, d.parent) = domTree t n) :
    domTree (tabSet {} t n d) = domTree t := by
  funext k
  by_cases hk : k = n
  · subst hk
    simp only [domTree, tabGet_tabSet_same]
    exact h
  · simp only [domTree, tabGet_tabSet_ne _ _ _ hk]

@[simp] theorem State.kind_parent (s : State) (n : Nat) : ((s.dom n).kind, (s.dom n).parent) = s.tse.tree n := Prod.ext rfl rfl

@[simp] theorem State.setDom_tree {s : State} {n : Nat} {d : Dom} (h : (d.kind, d.parent) = s.tse.tree n) :
    (s.setDom n d).tse.tree = s.tse.tree := domTree_tabSet h

/-! ### Records of domains -/

@[simp] theorem pushLink_kind {d k i} : (pushLink d k i).kind = d.kind := rfl
@[simp] theorem pushLink_parent {d k i} : (pushLink d k i).parent = d.parent := rfl
@[simp] theorem bookSlew_kind {d t u m} : (bookSlew d t u m).kind = d.kind := rfl
@[simp] theorem bookSlew_parent {d t u m} : (bookSlew d t u m).parent = d.parent := rfl
@[simp] theorem tickTerms_kind {d} : (tickTerms d).kind = d.kind := rfl
@[simp] theorem tickTerms_parent {d} : (tickTerms d).parent = d.parent := rfl

/-- A register of a domain holds neither its kind nor its parent. -/
@[simp] theorem Dom.store_tree {d r w} : ((Dom.store d r w).kind, (Dom.store d r w).parent) = (d.kind, d.parent) := by
  unfold Dom.store
  dsimp only
  split
  · split <;> rfl
  all_goals rfl

@[simp] theorem advanceDom_tree {d} : ((advanceDom d).kind, (advanceDom d).parent) = (d.kind, d.parent) := by
  unfold advanceDom
  split <;> rfl

theorem tabGet_map {α : Type} {d : α} {f : α → α} (t : Tab α) (n : Nat) :
    tabGet (f d) (t.map fun e => (e.1, f e.2)) n = f (tabGet d t n) := by
  induction t with
  | nil => rfl
  | cons e t ih => simp only [List.map_cons, tabGet, ih]; split <;> rfl

@[simp] theorem State.advanceAll_tree {s : State} : s.advanceAll.tse.tree = s.tse.tree := by
  funext n
  have h : s.advanceAll.dom n = advanceDom (s.dom n) := tabGet_map (d := ({} : Dom)) (f := advanceDom) s.tse.doms n
  rw [← State.kind_parent, h, advanceDom_tree, State.kind_parent]


/-! ### Ops -/

@[simp] theorem State.draw_tse {s} : (State.draw s).2.tse = s.tse := rfl

@[simp] theorem State.runCmd_tree {s eff : State} {c op l r} (h : eff.tse.tree = s.tse.tree) :
    (s.runCmd c op l eff r).tse.tree = s.tse.tree := by
  unfold State.runCmd
  split
  · rfl
  · split
    · simp
    · split <;> simp [h]

@[simp] theorem State.runDeferred_tree {s eff : State} {c op l} (h : eff.tse.tree = s.tse.tree) :
    (s.runDeferred c op l eff).tse.tree = s.tse.tree := by
  unfold State.runDeferred
  split
  · rfl
  · split
    · simp
    · split <;> simp [h]

@[simp] theorem State.setSettings_tse {s x} : (State.setSettings s x).tse = s.tse := rfl

/-! ### Timescale -/

@[simp] theorem State.updateDom_tree {s n} : (State.updateDom s n).tse.tree = s.tse.tree := by simp [State.updateDom]
@[simp] theorem State.updateBounds_tree {s} : (State.updateBounds s).tse.tree = s.tse.tree := by simp [State.updateBounds]
@[simp] theorem State.setAlarm_tree {s k a} : (State.setAlarm s k a).tse.tree = s.tse.tree := by simp [State.setAlarm]
@[simp] theorem State.markDue_tree {s} : (State.markDue s).tse.tree = s.tse.tree := by simp [State.markDue]
@[simp] theorem State.markStepped_tree {s n} : (State.markStepped s n).tse.tree = s.tse.tree := by simp [State.markStepped]
@[simp] theorem State.noteFired_tree {s d} : (State.noteFired s d).tse.tree = s.tse.tree := by simp [State.noteFired]
@[simp] theorem State.cancelSlot_tree {s k} : (State.cancelSlot s k).tse.tree = s.tse.tree := by simp [State.cancelSlot]
@[simp] theorem State.releaseSlot_tree {s k} : (State.releaseSlot s k).tse.tree = s.tse.tree := by simp [State.releaseSlot]

@[simp] theorem State.releaseOwn_tree {s k kind target} : (State.releaseOwn s k kind target).tse.tree = s.tse.tree := by
  simp [State.releaseOwn]

@[simp] theorem State.reopenEscrow_tse {s a} : (State.reopenEscrow s a).tse = s.tse := by simp [State.reopenEscrow]
@[simp] theorem State.cancelDomain_tree {s n} : (State.cancelDomain s n).tse.tree = s.tse.tree := by simp [State.cancelDomain]

@[simp] theorem State.armSlot_tree {s k part dom inst kind target period fire late} :
    (State.armSlot s k part dom inst kind target period fire late).tse.tree = s.tse.tree := by
  simp [State.armSlot]

@[simp] theorem State.onWindows_tse {s n f} : (State.onWindows s n f).tse = s.tse :=
  State.foldl_tse (fun _ _ => by simp) _ _

@[simp] theorem State.stepWindows_tse {s n diff} : (State.stepWindows s n diff).tse = s.tse := by simp [State.stepWindows]
@[simp] theorem State.stepPages_tse {s n} : (State.stepPages s n).tse = s.tse := by simp [State.stepPages]
@[simp] theorem State.cutWindows_tse {s n} : (State.cutWindows s n).tse = s.tse := by simp [State.cutWindows]

@[simp] theorem State.afterMove_tree {s n diff code issuer} : (State.afterMove s n diff code issuer).tse.tree = s.tse.tree := by
  simp [State.afterMove]

@[simp] theorem State.stepDom_tree {s n ticks issuer} : (State.stepDom s n ticks issuer).tse.tree = s.tse.tree := by simp [State.stepDom]
@[simp] theorem State.setTime_tree {s n t issuer} : (State.setTime s n t issuer).tse.tree = s.tse.tree := by simp [State.setTime]
@[simp] theorem State.freezeDom_tree {s n st} : (State.freezeDom s n st).tse.tree = s.tse.tree := by simp [State.freezeDom]
@[simp] theorem State.resumeDom_tree {s n} : (State.resumeDom s n).tse.tree = s.tse.tree := by simp [State.resumeDom]
@[simp] theorem State.holdDomains_tree {s} : (State.holdDomains s).tse.tree = s.tse.tree := State.foldl_tree (fun _ _ => by simp) _ _
@[simp] theorem State.releaseDomains_tree {s} : (State.releaseDomains s).tse.tree = s.tse.tree := by simp [State.releaseDomains]
@[simp] theorem State.setHold_tree {s n b} : (State.setHold s n b).tse.tree = s.tse.tree := by simp [State.setHold]
@[simp] theorem State.domSeed_tree {s n t bound part} : (State.domSeed s n t bound part).tse.tree = s.tse.tree := by simp [State.domSeed]
@[simp] theorem State.leapClear_tree {s} : (State.leapClear s).tse.tree = s.tse.tree := by simp [State.leapClear]
@[simp] theorem State.leapArm_tree {s type leapAt} : (State.leapArm s type leapAt).tse.tree = s.tse.tree := by simp [State.leapArm]
@[simp] theorem execLeapSet_tree {c type leapAt s} : KeepsTree s (execLeapSet c type leapAt s) := by simp [execLeapSet]
@[simp] theorem State.leapFire_tse {s target} : (State.leapFire s target).tse = s.tse := by simp [State.leapFire]
@[simp] theorem State.capture_tree {s m n} : (State.capture s m n).tse.tree = s.tse.tree := by simp [State.capture]

/-! ### Queues -/

@[simp] theorem State.setG_tse {s t r w} : (State.setG s t r w).tse = s.tse := by simp [State.setG]
@[simp] theorem State.setTreg_tse {s t n x} : (State.setTreg s t n x).tse = s.tse := rfl
@[simp] theorem State.setFlags_tse {s t l} : (State.setFlags s t l).tse = s.tse := rfl
@[simp] theorem State.setThrState_tse {s t v} : (State.setThrState s t v).tse = s.tse := rfl
@[simp] theorem State.sampleLost_tse {s t} : (State.sampleLost s t).tse = s.tse := by simp [State.sampleLost]
@[simp] theorem State.qDrop_tse {s q src thread} : (State.qDrop s q src thread).tse = s.tse := by unfold State.qDrop; split <;> simp
@[simp] theorem State.qAppend_tse {s q l} : (State.qAppend s q l).tse = s.tse := rfl
@[simp] theorem State.qRelease_tse {s q} : (State.qRelease s q).tse = s.tse := by unfold State.qRelease; split <;> simp
@[simp] theorem State.qPostHw_tse {s q l src} : (State.qPostHw s q l src).tse = s.tse := by simp [State.qPostHw]
@[simp] theorem State.qPut_tse {s q m w fin} : (State.qPut s q m w fin).tse = s.tse := by simp [State.qPut]
@[simp] theorem State.qTake_tse {s q m} : (State.qTake s q m).tse = s.tse := rfl
@[simp] theorem State.qServe_tse {s q w} : (State.qServe s q w).tse = s.tse := by unfold State.qServe; split <;> simp

@[simp] theorem qWake_tse {n q s} : (qWake n q s).tse = s.tse := by
  induction n generalizing s with
  | zero => rfl
  | succ n ih => unfold qWake; split <;> simp [ih]

@[simp] theorem State.qAssign_tse {s q} : (State.qAssign s q).tse = s.tse := by simp [State.qAssign]

@[simp] theorem State.qAbandon1_tse {s m q} : (State.qAbandon1 s m q).tse = s.tse := by
  unfold State.qAbandon1
  dsimp only
  (repeat' split) <;> simp

@[simp] theorem State.qAbandon_tse {s m} : (State.qAbandon s m).tse = s.tse := by simp [State.qAbandon]
@[simp] theorem State.qClearPart_tse {s p} : (State.qClearPart s p).tse = s.tse := State.foldl_tse (fun _ _ => by simp) _ _
@[simp] theorem State.dropSlot_tree {s t} : (State.dropSlot s t).tse.tree = s.tse.tree := by simp [State.dropSlot]
@[simp] theorem State.takeSlot_tree {s t k} : (State.takeSlot s t k).tse.tree = s.tse.tree := by simp [State.takeSlot]
@[simp] theorem State.freshRegs_tse {s t pc} : (State.freshRegs s t pc).tse = s.tse := rfl
@[simp] theorem State.haltThr_tree {s t} : (State.haltThr s t).tse.tree = s.tse.tree := by simp [State.haltThr]
@[simp] theorem State.unyield_tse {s t} : (State.unyield s t).tse = s.tse := State.foldl_tse (fun _ _ => by simp) _ _
@[simp] theorem State.stopThr_tree {s t} : (State.stopThr s t).tse.tree = s.tse.tree := by unfold State.stopThr; split <;> simp

@[simp] theorem State.startThr_tree {s t off} : (State.startThr s t off).tse.tree = s.tse.tree := by
  unfold State.startThr
  (repeat' split) <;> simp -implicitDefEqProofs [-List.foldl_cons]

@[simp] theorem State.threadFault_tse {s t} : (State.threadFault s t).tse = s.tse := by simp [State.threadFault]

@[simp] theorem State.faultThr_tree {s t cause code pc data} : (State.faultThr s t cause code pc data).tse.tree = s.tse.tree := by
  simp -implicitDefEqProofs [State.faultThr, -List.foldl_cons]

@[simp] theorem State.idleThr_tree {s t} : (State.idleThr s t).tse.tree = s.tse.tree := by simp [State.idleThr]

@[simp] theorem State.autostart1_tree {s i e} : (State.autostart1 s i e).tse.tree = s.tse.tree := by
  unfold State.autostart1
  dsimp only
  split <;> simp

@[simp] theorem State.autostart_tree {s i} : (State.autostart s i).tse.tree = s.tse.tree := by simp [State.autostart]
@[simp] theorem State.autostartAll_tree {s sel} : (State.autostartAll s sel).tse.tree = s.tse.tree := by simp [State.autostartAll]
@[simp] theorem State.wakeThr_tse {s t lat l st} : (State.wakeThr s t lat l st).tse = s.tse := by simp [State.wakeThr]
@[simp] theorem execQueueWaitWake_tree {q s} : KeepsTree s (execQueueWaitWake q s) := by simp [execQueueWaitWake]
@[simp] theorem State.yieldRelease_tse {s t} : (State.yieldRelease s t).tse = s.tse := by simp [State.yieldRelease]
@[simp] theorem execYieldRelease_tree {t s} : KeepsTree s (execYieldRelease t s) := by simp [execYieldRelease]
@[simp] theorem execThrStart_tree {c t off s} : KeepsTree s (execThrStart c t off s) := by simp [execThrStart]
@[simp] theorem execThrStop_tree {c t s} : KeepsTree s (execThrStop c t s) := by simp [execThrStop]

@[simp] theorem State.resumeThr_tree {s t pc} : (State.resumeThr s t pc).tse.tree = s.tse.tree := by
  unfold State.resumeThr
  split <;> simp

@[simp] theorem execThrResume_tree {c t pc s} : KeepsTree s (execThrResume c t pc s) := by simp [execThrResume]

/-! ### KvcCore -/

@[simp] theorem State.setVslot_tse {s v x} : (State.setVslot s v x).tse = s.tse := rfl
@[simp] theorem State.rng_tse {s n} : (State.rng s n).2.tse = s.tse := rfl
@[simp] theorem State.touch_tse {s v} : (State.touch s v).tse = s.tse := rfl

@[simp] theorem State.makeRoom_tse {s n} : (State.makeRoom s n).tse = s.tse := by
  refine State.foldl_tse (fun s v => ?_) _ _
  split <;> simp

@[simp] theorem State.pin_tse {s v} : (State.pin s v).2.tse = s.tse := rfl
@[simp] theorem State.retirePrev_tse {s v} : (State.retirePrev s v).tse = s.tse := rfl
@[simp] theorem State.slotEmpty_tse {s v} : (State.slotEmpty s v).tse = s.tse := by unfold State.slotEmpty; dsimp only; split <;> simp
@[simp] theorem State.pinsSettle_tse {s v} : (State.pinsSettle s v).tse = s.tse := by simp [State.pinsSettle]
@[simp] theorem State.unpin_tse {s v gen} : (State.unpin s v gen).tse = s.tse := by simp [State.unpin]
@[simp] theorem State.tallyEcdsa_tse {s inst part} : (State.tallyEcdsa s inst part).tse = s.tse := rfl
@[simp] theorem State.tallyAes_tse {s part n} : (State.tallyAes s part n).tse = s.tse := rfl
@[simp] theorem State.signWith_tse {s n key digest} : (State.signWith s n key digest).2.tse = s.tse := rfl

/-! ### Live -/

@[simp] theorem State.endPulses_tse {s} : (State.endPulses s).tse = s.tse := by simp [State.endPulses]

/-! ### SynCore -/

@[simp] theorem State.synRef_tse {s n} : (State.synRef s n).tse = s.tse := by simp [State.synRef]
@[simp] theorem State.setIdlePll_tse {s p} : (State.setIdlePll s p).tse = s.tse := by simp [State.setIdlePll]
@[simp] theorem State.lockIdle_tse {s level} : (State.lockIdle s level).tse = s.tse := by simp [State.lockIdle]
@[simp] theorem State.startLocks_tse {s} : (State.startLocks s).tse = s.tse := by simp [State.startLocks]
@[simp] theorem State.toIrc_tse {s held d} : (State.toIrc s held d).2.tse = s.tse := by unfold State.toIrc; split <;> simp
@[simp] theorem State.coreToIrc_tse {s held} : (State.coreToIrc s held).tse = s.tse := by simp [State.coreToIrc]
@[simp] theorem State.supToIrc_tse {s held} : (State.supToIrc s held).tse = s.tse := by simp [State.supToIrc]
@[simp] theorem State.ircIdle_tse {s} : (State.ircIdle s).tse = s.tse := by simp [State.ircIdle]
@[simp] theorem State.rxcHold_tse {s} : (State.rxcHold s).tse = s.tse := rfl
@[simp] theorem State.tseLost_tree {s} : (State.tseLost s).tse.tree = s.tse.tree := by simp [State.tseLost]
@[simp] theorem State.tseBack_tree {s} : (State.tseBack s).tse.tree = s.tse.tree := by simp [State.tseBack]
@[simp] theorem State.clockUpdate_tree {s} : (State.clockUpdate s).tse.tree = s.tse.tree := by simp [State.clockUpdate]

/-! ### Select -/

@[simp] theorem State.setRshState_tse {s v} : (State.setRshState s v).tse = s.tse := rfl
@[simp] theorem State.disqualify_tse {s c} : (State.disqualify s c).tse = s.tse := by simp [State.disqualify]
@[simp] theorem State.showFreqOnly_tse {s c} : (State.showFreqOnly s c).tse = s.tse := by simp [State.showFreqOnly]
@[simp] theorem State.monToRsh_tse {s n ok} : (State.monToRsh s n ok).tse = s.tse := by simp [State.monToRsh]
@[simp] theorem State.offerSample_tse {s c x} : (State.offerSample s c x).tse = s.tse := rfl

@[simp] theorem State.emuToRsh_tse {s m src flags e unc} : (State.emuToRsh s m src flags e unc).tse = s.tse := by
  unfold State.emuToRsh
  dsimp only
  (repeat' split) <;> simp

@[simp] theorem State.tmsgToRsh_tse {s g} : (State.tmsgToRsh s g).tse = s.tse := by simp [State.tmsgToRsh]
@[simp] theorem execGnssPairTimeout_tree {s} : KeepsTree s (execGnssPairTimeout s) := by simp [execGnssPairTimeout]
@[simp] theorem State.learnShow_tse {s} : (State.learnShow s).tse = s.tse := rfl
@[simp] theorem State.learnCycle_tse {s} : (State.learnCycle s).tse = s.tse := by simp [State.learnCycle]
@[simp] theorem State.learnPeriod_tse {s} : (State.learnPeriod s).tse = s.tse := by simp [State.learnPeriod]
@[simp] theorem State.learnReset_tse {s} : (State.learnReset s).tse = s.tse := rfl
@[simp] theorem State.setFoff0_tree {s f} : (State.setFoff0 s f).tse.tree = s.tse.tree := by simp [State.setFoff0]
@[simp] theorem State.setTerms_tree {s src ref servo} : (State.setTerms s src ref servo).tse.tree = s.tse.tree := by simp [State.setTerms]
@[simp] theorem State.unboundSrc_tree {s} : (State.unboundSrc s).tse.tree = s.tse.tree := by simp [State.unboundSrc]
@[simp] theorem State.push0_tree {s kind id} : (State.push0 s kind id).tse.tree = s.tse.tree := by simp [State.push0]
@[simp] theorem State.provSel_tree {s c} : (State.provSel s c).tse.tree = s.tse.tree := by simp [State.provSel]
@[simp] theorem State.armServo_tree {s} : (State.armServo s).tse.tree = s.tse.tree := by simp [State.armServo]
@[simp] theorem State.servoFollow_tree {s} : (State.servoFollow s).tse.tree = s.tse.tree := by simp [State.servoFollow]
@[simp] theorem State.rebase_tse {s diff} : (State.rebase s diff).tse = s.tse := rfl
@[simp] theorem State.seed0_tree {s t issuer} : (State.seed0 s t issuer).tse.tree = s.tse.tree := by simp [State.seed0]
@[simp] theorem State.pushHold_tree {s} : (State.pushHold s).tse.tree = s.tse.tree := by simp [State.pushHold]
@[simp] theorem State.holdOn_tree {s} : (State.holdOn s).tse.tree = s.tse.tree := by simp [State.holdOn]
@[simp] theorem State.holdOff_tree {s} : (State.holdOff s).tse.tree = s.tse.tree := by simp [State.holdOff]
@[simp] theorem State.gainAbort_tse {s why} : (State.gainAbort s why).tse = s.tse := by unfold State.gainAbort; split <;> simp
@[simp] theorem State.deselect_tse {s} : (State.deselect s).tse = s.tse := by simp [State.deselect]

@[simp] theorem State.enterFreerun_tree {s} : (State.enterFreerun s).tse.tree = s.tse.tree := by
  unfold State.enterFreerun
  dsimp only
  split <;> simp

@[simp] theorem State.enterBridge_tree {s} : (State.enterBridge s).tse.tree = s.tse.tree := by simp [State.enterBridge]
@[simp] theorem State.enterHoldover_tree {s} : (State.enterHoldover s).tse.tree = s.tse.tree := by simp [State.enterHoldover]
@[simp] theorem State.rshSafe_tree {s} : (State.rshSafe s).tse.tree = s.tse.tree := by simp [State.rshSafe]
@[simp] theorem State.holdJudge_tree {s} : (State.holdJudge s).tse.tree = s.tse.tree := by simp [State.holdJudge]
@[simp] theorem execHoldoverSecondTick_tree {s} : KeepsTree s (execHoldoverSecondTick s) := by simp [execHoldoverSecondTick]

@[simp] theorem State.keepSamples_tse {s hi step} : (State.keepSamples s hi step).tse = s.tse := by
  simp -implicitDefEqProofs [State.keepSamples, -List.foldl_cons]

@[simp] theorem State.showQual_tse {s c} : (State.showQual s c).tse = s.tse := rfl
@[simp] theorem State.toQualifying_tse {s c} : (State.toQualifying s c).tse = s.tse := rfl

@[simp] theorem State.qualify_tse {s c ms x sel} : (State.qualify s c ms x sel).tse = s.tse := by
  unfold State.qualify
  extract_lets s1 st miss k1 s2 fresh s3 k3 s4 s5 k5 s6 k6 s7 s8 k8
  have h1 : s1.tse = s.tse := State.showFreqOnly_tse
  have h2 : s2.tse = s.tse := h1
  have h3 : s3.tse = s.tse := State.tse_of_ite (State.toQualifying_tse.trans h1) h1
  have h5 : s5.tse = s.tse := State.showQual_tse.trans h3
  have h6 : s6.tse = s.tse := State.tse_of_ite h5 ((State.pulse_tse ..).trans h5)
  have h7 : s7.tse = s.tse := h6
  have h8 : s8.tse = s.tse := by
    clear_value s5 s7
    simp only [s8]
    (repeat' split) <;> simp [h5, h7]
  (repeat' split) <;> simp [h1, h2, h8]

@[simp] theorem State.crossCheck_tse {s l ms} : (State.crossCheck s l ms).1.tse = s.tse := by
  unfold State.crossCheck
  (repeat' split) <;> simp

@[simp] theorem execCrossCheckAnchor_tree {s} : KeepsTree s (execCrossCheckAnchor s) := by unfold execCrossCheckAnchor; split <;> simp
@[simp] theorem State.select_tse {s} : (State.select s).tse = s.tse := by simp [State.select]
@[simp] theorem State.showSat_tse {s i f} : (State.showSat s i f).tse = s.tse := rfl
@[simp] theorem State.setServoI_tse {s i0} : (State.setServoI s i0).tse = s.tse := rfl
@[simp] theorem State.piFilter_tree {s e} : (State.piFilter s e).tse.tree = s.tse.tree := by simp [State.piFilter]
@[simp] theorem State.servoTerm_tse {s e} : (State.servoTerm s e).2.tse = s.tse := rfl
@[simp] theorem State.seedFrom_tree {s x y} : (State.seedFrom s x y).tse.tree = s.tse.tree := by simp [State.seedFrom]
@[simp] theorem State.book_tree {s prev c p ref} : (State.book s prev c p ref).tse.tree = s.tse.tree := by simp [State.book]

@[simp] theorem State.lockClose_tree {s c prev x book} : (State.lockClose s c prev x book).tse.tree = s.tse.tree := by
  unfold State.lockClose
  split <;> simp

@[simp] theorem State.steerClose_tree {s x} : (State.steerClose s x).tse.tree = s.tse.tree := by unfold State.steerClose; split <;> simp
@[simp] theorem State.closeStates_tree {s x} : (State.closeStates s x).tse.tree = s.tse.tree := by simp [State.closeStates]

@[simp] theorem State.servoClose_tree {s d} : (State.servoClose s d).tse.tree = s.tse.tree := by
  unfold State.servoClose
  extract_lets t ms hi lo per selP all s1
  have h1 : s1.tse = s.tse := State.keepSamples_tse
  clear_value selP s1
  split
  next s2 failed h2 =>
    have h2 : s2.tse = s.tse := by
      split at h2
      · split at h2
        · exact (congrArg (fun x : State × Bool => x.1.tse) h2).symm.trans (State.crossCheck_tse.trans h1)
        · cases h2
          exact h1
      · cases h2
        exact h1
    extract_lets c0 s3 s4 s5 x s6
    have h3 : s3.tse = s.tse := State.tse_of_ite (by simp [h2]) h2
    have h4 : s4.tse = s.tse := (State.foldl_tse (fun u e => State.tse_of_ite rfl State.qualify_tse) _ _).trans h3
    have h5 : s5.tse.tree = s.tse.tree := State.tree_of_ite (congrArg Tse.tree h4) (by simp [h4])
    have h6 : s6.tse.tree = s.tse.tree := by simp [s6, h5]
    exact State.tree_of_ite (by simp [h6]) h6

@[simp] theorem State.rshOpen_tree {s} : (State.rshOpen s).tse.tree = s.tse.tree := by simp [State.rshOpen]
@[simp] theorem State.closeLoop_tree {s} : (State.closeLoop s).tse.tree = s.tse.tree := by simp [State.closeLoop]
@[simp] theorem State.rshService_tree {s} : (State.rshService s).tse.tree = s.tse.tree := by simp [State.rshService]
@[simp] theorem State.rshServiceExit_tree {s} : (State.rshServiceExit s).tse.tree = s.tse.tree := by simp [State.rshServiceExit]
@[simp] theorem State.rshAcquire_tree {s} : (State.rshAcquire s).tse.tree = s.tse.tree := by simp [State.rshAcquire]

@[simp] theorem execRefForce_tree {c cand s} : KeepsTree s (execRefForce c cand s) := by
  simp -implicitDefEqProofs [execRefForce, -List.foldl_cons]

@[simp] theorem execRefLockout_tree {c cand on s} : KeepsTree s (execRefLockout c cand on s) := by simp [execRefLockout]

@[simp] theorem State.runRsh_tree {s eff : State} {c op b l r} (h : eff.tse.tree = s.tse.tree) :
    (s.runRsh c op b l eff r).tse.tree = s.tse.tree := by
  simp [State.runRsh, h]

@[simp] theorem execRshOpen_tree {c s} : KeepsTree s (execRshOpen c s) := by simp [execRshOpen]
@[simp] theorem execRshClose_tree {c s} : KeepsTree s (execRshClose c s) := by simp [execRshClose]
@[simp] theorem execSteerFreq_tree {c foff s} : KeepsTree s (execSteerFreq c foff s) := by simp [execSteerFreq]

@[simp] theorem execSteerPhase_tree {c ticks unc slewMax s} : KeepsTree s (execSteerPhase c ticks unc slewMax s) := by
  simp [execSteerPhase]

@[simp] theorem execRshD0Seed_tree {c t bound s} : KeepsTree s (execRshD0Seed c t bound s) := by simp [execRshD0Seed]
@[simp] theorem State.rshCfgWritten_tree {s} : (State.rshCfgWritten s).tse.tree = s.tse.tree := by simp [State.rshCfgWritten]
@[simp] theorem State.refCfgWritten_tse {s c} : (State.refCfgWritten s c).tse = s.tse := by simp [State.refCfgWritten]

/-! ### Synth -/

@[simp] theorem State.memTouch_tse {s n e} : (State.memTouch s n e).tse = s.tse := by simp [State.memTouch]
@[simp] theorem State.memStore_tse {s n} : (State.memStore s n).tse = s.tse := by simp [State.memStore]
@[simp] theorem State.memDrop_tse {s n} : (State.memDrop s n).tse = s.tse := by unfold State.memDrop; split <;> simp
@[simp] theorem State.outsFollow_tse {s} : (State.outsFollow s).tse = s.tse := by simp [State.outsFollow]
@[simp] theorem execClkoutSettingApply_tree {o s} : KeepsTree s (execClkoutSettingApply o s) := by simp [execClkoutSettingApply]
@[simp] theorem State.outWritten_tse {s o} : (State.outWritten s o).tse = s.tse := by simp [State.outWritten]
@[simp] theorem State.startSearch_tse {s n} : (State.startSearch s n).tse = s.tse := rfl
@[simp] theorem State.retune_tse {s n} : (State.retune s n).tse = s.tse := by unfold State.retune; split <;> simp
@[simp] theorem State.synChanged_tree {s} : (State.synChanged s).tse.tree = s.tse.tree := by simp [State.synChanged]
@[simp] theorem execBandSearchStepEnd_tree {n count s} : KeepsTree s (execBandSearchStepEnd n count s) := by simp [execBandSearchStepEnd]

@[simp] theorem execBandVerifyEnd_tree {n count s} : KeepsTree s (execBandVerifyEnd n count s) := by
  unfold execBandVerifyEnd
  dsimp only
  (repeat' split) <;> simp

@[simp] theorem execLockWaitExpire_tree {n s} : KeepsTree s (execLockWaitExpire n s) := by simp [execLockWaitExpire]

@[simp] theorem execPhaseMonitorCompare_tree {n count s} : KeepsTree s (execPhaseMonitorCompare n count s) := by
  simp [execPhaseMonitorCompare]

@[simp] theorem State.showRem_tse {s n} : (State.showRem s n).tse = s.tse := rfl
@[simp] theorem State.addRem_tse {s n x} : (State.addRem s n x).tse = s.tse := rfl
@[simp] theorem execAlignErrCompute_tree {n s} : KeepsTree s (execAlignErrCompute n s) := by simp [execAlignErrCompute]
@[simp] theorem State.synLimitsWritten_tse {s n} : (State.synLimitsWritten s n).tse = s.tse := rfl
@[simp] theorem State.synPmonWritten_tse {s n} : (State.synPmonWritten s n).tse = s.tse := rfl
@[simp] theorem State.evoDelayWritten_tse {s v} : (State.evoDelayWritten s v).tse = s.tse := rfl
@[simp] theorem State.evoDrive_tse {s v level t} : (State.evoDrive s v level t).tse = s.tse := by simp [State.evoDrive]
@[simp] theorem State.evoIdle_tse {s v} : (State.evoIdle s v).tse = s.tse := by simp [State.evoIdle]
@[simp] theorem State.evoCfgWritten_tse {s v} : (State.evoCfgWritten s v).tse = s.tse := by simp [State.evoCfgWritten]
@[simp] theorem State.evoAllIdle_tse {s} : (State.evoAllIdle s).tse = s.tse := by simp [State.evoAllIdle]

@[simp] theorem State.synCfg_tree {s n tf mode refin bw lockWait fl} :
    (State.synCfg s n tf mode refin bw lockWait fl).tse.tree = s.tse.tree := by
  simp [State.synCfg]

@[simp] theorem execSynCfg_tree {c n tf mode refin bw lockWait fl s} : KeepsTree s (execSynCfg c n tf mode refin bw lockWait fl s) := by
  simp [execSynCfg]

@[simp] theorem execSynPstep_tree {c n ticks s} : KeepsTree s (execSynPstep c n ticks s) := by
  simp -implicitDefEqProofs [execSynPstep, -List.foldl_cons]

@[simp] theorem State.synJump_tse {s n} : (State.synJump s n).tse = s.tse := by simp [State.synJump]
@[simp] theorem execSynAlign_tree {c n method s} : KeepsTree s (execSynAlign c n method s) := by simp [execSynAlign]

@[simp] theorem execSynMemClear_tree {c n s} : KeepsTree s (execSynMemClear c n s) := by
  simp -implicitDefEqProofs [execSynMemClear, -List.foldl_cons]

@[simp] theorem execSynOff_tree {c n s} : KeepsTree s (execSynOff c n s) := by simp [execSynOff]
@[simp] theorem State.evoRelease_tree {s v} : (State.evoRelease s v).tse.tree = s.tse.tree := by simp [State.evoRelease]

@[simp] theorem State.evoArm_tree {s v dom e0 per width pol lateOk slots} :
    (State.evoArm s v dom e0 per width pol lateOk slots).tse.tree = s.tse.tree := by
  simp [State.evoArm]

@[simp] theorem execSynEvoArm_tree {c v dom e0 per width pol lateOk s} : KeepsTree s (execSynEvoArm c v dom e0 per width pol lateOk s) := by
  simp [execSynEvoArm]

@[simp] theorem State.evoParkOrIdle_tse {s v} : (State.evoParkOrIdle s v).tse = s.tse := by simp [State.evoParkOrIdle]
@[simp] theorem execSynEvoDisarm_tree {c v s} : KeepsTree s (execSynEvoDisarm c v s) := by simp [execSynEvoDisarm]

@[simp] theorem State.evoFire_tse {s d last} : (State.evoFire s d last).tse = s.tse := by
  unfold State.evoFire
  dsimp only
  (repeat' split) <;> simp

@[simp] theorem State.evoParked_tse {s v last} : (State.evoParked s v last).tse = s.tse := by simp [State.evoParked]
@[simp] theorem State.synCycle_tse {s n} : (State.synCycle s n).tse = s.tse := by simp [State.synCycle]
@[simp] theorem State.synAllCycle_tse {s} : (State.synAllCycle s).tse = s.tse := by simp [State.synAllCycle]

/-! ### Alarms -/

@[simp] theorem State.armAlarm_tree {s slot p dom inst kind target period policy} :
    (State.armAlarm s slot p dom inst kind target period policy).tse.tree = s.tse.tree := by
  simp [State.armAlarm]

@[simp] theorem execAlmArm_tree {c slot dom t kind target period policy s} :
    KeepsTree s (execAlmArm c slot dom t kind target period policy s) := by
  simp [execAlmArm]

@[simp] theorem execAlmCancel_tree {c slot s} : KeepsTree s (execAlmCancel c slot s) := by simp [execAlmCancel]

/-! ### Clocks -/

@[simp] theorem State.setOsc_tse {s k o} : (State.setOsc s k o).tse = s.tse := by simp [State.setOsc]
@[simp] theorem State.refSysLost_tse {s} : (State.refSysLost s).tse = s.tse := by simp [State.refSysLost]
@[simp] theorem State.ircLost_tse {s} : (State.ircLost s).tse = s.tse := by simp [State.ircLost]
@[simp] theorem State.oscTrip_tree {s k stopped} : (State.oscTrip s k stopped).tse.tree = s.tse.tree := by simp [State.oscTrip]
@[simp] theorem State.ircProven_tse {s} : (State.ircProven s).tse = s.tse := by simp [State.ircProven]
@[simp] theorem State.oscProven_tree {s k} : (State.oscProven s k).tse.tree = s.tse.tree := by simp [State.oscProven]
@[simp] theorem execOscStabilityCompare_tree {k n s} : KeepsTree s (execOscStabilityCompare k n s) := by simp [execOscStabilityCompare]
@[simp] theorem execOscEdgeTimeout_tree {k s} : KeepsTree s (execOscEdgeTimeout k s) := by simp [execOscEdgeTimeout]
@[simp] theorem execAonFail_tree {s} : KeepsTree s (execAonFail s) := by simp [execAonFail]
@[simp] theorem State.dvfsShow_tse {s v} : (State.dvfsShow s v).tse = s.tse := by simp [State.dvfsShow]
@[simp] theorem State.setDvfs_tse {s d} : (State.setDvfs s d).tse = s.tse := rfl
@[simp] theorem State.dvfsVout_tse {s d} : (State.dvfsVout s d).tse = s.tse := by simp [State.dvfsVout]
@[simp] theorem State.dvfsSwitch_tse {s d} : (State.dvfsSwitch s d).tse = s.tse := by simp [State.dvfsSwitch]
@[simp] theorem State.dvfsPoll_tse {s} : (State.dvfsPoll s).tse = s.tse := by simp [State.dvfsPoll]
@[simp] theorem State.dvfsDone_tse {s} : (State.dvfsDone s).tse = s.tse := by simp [State.dvfsDone]
@[simp] theorem State.dvfsWritten_tse {s} : (State.dvfsWritten s).tse = s.tse := by simp [State.dvfsWritten]

@[simp] theorem execPmbusTransactionDone_tree {ok value s} : KeepsTree s (execPmbusTransactionDone ok value s) := by
  unfold execPmbusTransactionDone
  split <;> simp

@[simp] theorem execDvfsSettleExpire_tree {s} : KeepsTree s (execDvfsSettleExpire s) := by unfold execDvfsSettleExpire; split <;> simp
@[simp] theorem execDvfsStepTimeout_tree {s} : KeepsTree s (execDvfsStepTimeout s) := by simp [execDvfsStepTimeout]
@[simp] theorem execPllProofTimer_tree {k s} : KeepsTree s (execPllProofTimer k s) := by simp [execPllProofTimer]

@[simp] theorem State.coreReleased_tse {s src} : (State.coreReleased s src).tse = s.tse := by
  unfold State.coreReleased
  dsimp only
  (repeat' split) <;> simp

@[simp] theorem execClockSourceRelease_tree {d heldNs s} : KeepsTree s (execClockSourceRelease d heldNs s) := by
  unfold execClockSourceRelease
  dsimp only
  split <;> simp

@[simp] theorem execSysxoBootWaitEnd_tree {s} : KeepsTree s (execSysxoBootWaitEnd s) := by simp [execSysxoBootWaitEnd]
@[simp] theorem execRefSysReturn_tree {s} : KeepsTree s (execRefSysReturn s) := by simp [execRefSysReturn]
@[simp] theorem execIrcRestartTimer_tree {s} : KeepsTree s (execIrcRestartTimer s) := by simp [execIrcRestartTimer]
@[simp] theorem execIrcTrim_tree {count s} : KeepsTree s (execIrcTrim count s) := by simp [execIrcTrim]
@[simp] theorem State.fmcStart_tse {s old} : (State.fmcStart s old).tse = s.tse := by simp [State.fmcStart]
@[simp] theorem execFmcDone_tree {count s} : KeepsTree s (execFmcDone count s) := by simp [execFmcDone]
@[simp] theorem execFmcStall_tree {s} : KeepsTree s (execFmcStall s) := by simp [execFmcStall]
@[simp] theorem State.critJudge_tse {s} : (State.critJudge s).tse = s.tse := by simp [State.critJudge]
@[simp] theorem execTempRead_tree {readings s} : KeepsTree s (execTempRead readings s) := by simp [execTempRead]
@[simp] theorem execWearMeasure_tree {d s} : KeepsTree s (execWearMeasure d s) := by simp [execWearMeasure]
@[simp] theorem State.wearFit_tse {s w} : (State.wearFit s w).tse = s.tse := rfl

@[simp] theorem execWearDailyFit_tree {s} : KeepsTree s (execWearDailyFit s) := by
  simp -implicitDefEqProofs [execWearDailyFit, -List.foldl_cons]

/-! ### Aoi -/

@[simp] theorem State.setCodeOut_tree {s v} : (State.setCodeOut s v).tse.tree = s.tse.tree := by simp [State.setCodeOut]
@[simp] theorem State.cfdDeliver_tree {s} : (State.cfdDeliver s).tse.tree = s.tse.tree := by simp [State.cfdDeliver]
@[simp] theorem State.setCodeCmd_tree {s v} : (State.setCodeCmd s v).tse.tree = s.tse.tree := by simp [State.setCodeCmd]
@[simp] theorem State.raiseDfuSat_tree {s} : (State.raiseDfuSat s).tse.tree = s.tse.tree := by simp [State.raiseDfuSat]

@[simp] theorem execCfdComplianceSample_tree {vloop vcfd imeas s} : KeepsTree s (execCfdComplianceSample vloop vcfd imeas s) := by
  simp [execCfdComplianceSample]

@[simp] theorem execAoiOffloadStep_tree {s} : KeepsTree s (execAoiOffloadStep s) := by simp [execAoiOffloadStep]
@[simp] theorem State.aoiJudge_tree {s} : (State.aoiJudge s).tse.tree = s.tse.tree := by simp [State.aoiJudge]

@[simp] theorem execAoiMonMean_tree {codes s} : KeepsTree s (execAoiMonMean codes s) := by
  simp -implicitDefEqProofs [execAoiMonMean, -List.foldl_cons]

@[simp] theorem State.aoiEolFit_tse {s k} : (State.aoiEolFit s k).tse = s.tse := rfl
@[simp] theorem execAoiEolFit_tree {s} : KeepsTree s (execAoiEolFit s) := by simp [execAoiEolFit]

@[simp] theorem execAoiSteer_tree {c on s} : KeepsTree s (execAoiSteer c on s) := by
  simp -implicitDefEqProofs [execAoiSteer, -List.foldl_cons]

@[simp] theorem execAoiCfdSet_tree {c code s} : KeepsTree s (execAoiCfdSet c code s) := by simp [execAoiCfdSet]
@[simp] theorem execCfdGainCal_tree {c step s} : KeepsTree s (execCfdGainCal c step s) := by simp [execCfdGainCal]
@[simp] theorem execGainCalPhaseEnd_tree {s} : KeepsTree s (execGainCalPhaseEnd s) := by unfold execGainCalPhaseEnd; split <;> simp
@[simp] theorem State.monLimWritten_tree {s} : (State.monLimWritten s).tse.tree = s.tse.tree := by simp [State.monLimWritten]
@[simp] theorem State.cfdCtlWritten_tree {s} : (State.cfdCtlWritten s).tse.tree = s.tse.tree := by simp [State.cfdCtlWritten]

/-! ### Rim -/

@[simp] theorem State.monShow_tree {s n} : (State.monShow s n).tse.tree = s.tse.tree := by simp [State.monShow]
@[simp] theorem State.monRestart_tree {s n} : (State.monRestart s n).tse.tree = s.tse.tree := by simp [State.monRestart]
@[simp] theorem State.fmForce_tse {s n} : (State.fmForce s n).tse = s.tse := rfl
@[simp] theorem State.inShow_tse {s n} : (State.inShow s n).tse = s.tse := rfl
@[simp] theorem State.inLimWritten_tree {s n} : (State.inLimWritten s n).tse.tree = s.tse.tree := by simp [State.inLimWritten]

@[simp] theorem State.inWritten_tree {s n oldCfg oldNom} : (State.inWritten s n oldCfg oldNom).tse.tree = s.tse.tree := by
  simp [State.inWritten]

@[simp] theorem State.prescale_tse {s n rise gap} : (State.prescale s n rise gap).tse = s.tse := rfl
@[simp] theorem State.actEdge_tree {s n} : (State.actEdge s n).tse.tree = s.tse.tree := by simp [State.actEdge]
@[simp] theorem execActGapTimeout_tree {n s} : KeepsTree s (execActGapTimeout n s) := by simp [execActGapTimeout]
@[simp] theorem execActAcceptTimeout_tree {n s} : KeepsTree s (execActAcceptTimeout n s) := by simp [execActAcceptTimeout]

@[simp] theorem execFmFastGateEnd_tree {n x y z u s} : KeepsTree s (execFmFastGateEnd n x y z u s) := by
  unfold execFmFastGateEnd
  (repeat' split) <;> simp

@[simp] theorem execMonRestart_tree {c mask s} : KeepsTree s (execMonRestart c mask s) := by simp [execMonRestart]
@[simp] theorem State.calStart_tse {s t} : (State.calStart s t).tse = s.tse := by simp [State.calStart]
@[simp] theorem State.calAll_tse {s} : (State.calAll s).tse = s.tse := by simp [State.calAll]
@[simp] theorem execTdcCalCollectDone_tree {t hp hb s} : KeepsTree s (execTdcCalCollectDone t hp hb s) := by simp [execTdcCalCollectDone]
@[simp] theorem execTdcCalTimeout_tree {t s} : KeepsTree s (execTdcCalTimeout t s) := by simp [execTdcCalTimeout]
@[simp] theorem execTdcCalWaitEnd_tree {t s} : KeepsTree s (execTdcCalWaitEnd t s) := by simp [execTdcCalWaitEnd]

@[simp] theorem State.putTables_tse {s t hp hb} : (State.putTables s t hp hb).tse = s.tse := by
  simp -implicitDefEqProofs [State.putTables, -List.foldl_cons]

@[simp] theorem execTdcTableInstall_tree {t s} : KeepsTree s (execTdcTableInstall t s) := by
  unfold execTdcTableInstall
  (repeat' split) <;> simp

@[simp] theorem execTdcTempTrigger_tree {temp s} : KeepsTree s (execTdcTempTrigger temp s) := by simp [execTdcTempTrigger]
@[simp] theorem execTdcCal_tree {c mask s} : KeepsTree s (execTdcCal c mask s) := by simp [execTdcCal]
@[simp] theorem State.emuEdge_tse {s m src r} : (State.emuEdge s m src r).tse = s.tse := by simp [State.emuEdge]
@[simp] theorem State.edgeToEmus_tse {s src r} : (State.edgeToEmus s src r).tse = s.tse := by simp [State.edgeToEmus]
@[simp] theorem State.edgeToAdplls_tse {s src} : (State.edgeToAdplls s src).tse = s.tse := by simp [State.edgeToAdplls]

@[simp] theorem State.rimEdge_tree {s src rise gap tdc} : (State.rimEdge s src rise gap tdc).tse.tree = s.tse.tree := by
  simp [State.rimEdge]

@[simp] theorem State.emuOpenFire_tse {s m late stepped} : (State.emuOpenFire s m late stepped).tse = s.tse := by simp [State.emuOpenFire]
@[simp] theorem State.emuLost_tse {s m} : (State.emuLost s m).tse = s.tse := by simp [State.emuLost]
@[simp] theorem State.toEmuFifo_tse {s m words} : (State.toEmuFifo s m words).tse = s.tse := by simp [State.toEmuFifo]
@[simp] theorem State.toEmuQueue_tse {s m words} : (State.toEmuQueue s m words).tse = s.tse := by simp [State.toEmuQueue]

@[simp] theorem State.emuClose_tse {s m} : (State.emuClose s m).tse = s.tse := by
  simp -implicitDefEqProofs [State.emuClose, -List.foldl_cons]

@[simp] theorem State.emuCloseFire_tse {s m stepped period} : (State.emuCloseFire s m stepped period).tse = s.tse := by
  simp [State.emuCloseFire]

@[simp] theorem State.emuSetup_tse {s m mode startSrc stopSrc dom dests queue emptyReport} :
    (State.emuSetup s m mode startSrc stopSrc dom dests queue emptyReport).tse = s.tse :=
  rfl

@[simp] theorem State.emuArm_tree {s m dom t0 per w lateOk} : (State.emuArm s m dom t0 per w lateOk).tse.tree = s.tse.tree := by
  unfold State.emuArm
  dsimp only
  (repeat' split) <;> simp

@[simp] theorem execEmuArm_tree {c m mode startSrc stopSrc dom t0 per w dests queue emptyReport lateOk s} :
    KeepsTree s (execEmuArm c m mode startSrc stopSrc dom t0 per w dests queue emptyReport lateOk s) := by
  simp [execEmuArm]

@[simp] theorem State.emuDisarm_tree {s m} : (State.emuDisarm s m).tse.tree = s.tse.tree := by simp [State.emuDisarm]
@[simp] theorem execEmuDisarm_tree {c m s} : KeepsTree s (execEmuDisarm c m s) := by simp [execEmuDisarm]

/-! ### PortCore -/

@[simp] theorem State.setTxq_tse {s p q l} : (State.setTxq s p q l).tse = s.tse := rfl
@[simp] theorem State.enqueue_tse {s p q f} : (State.enqueue s p q f).tse = s.tse := rfl
@[simp] theorem State.laneReset_tse {s l} : (State.laneReset s l).tse = s.tse := rfl
@[simp] theorem State.showStampOk_tse {s p} : (State.showStampOk s p).tse = s.tse := rfl
@[simp] theorem State.portWritten_tse {s p old} : (State.portWritten s p old).tse = s.tse := by simp [State.portWritten]
@[simp] theorem State.cnt_tse {s p i n} : (State.cnt s p i n).tse = s.tse := by simp [State.cnt]
@[simp] theorem State.applyCnt_tse {s p i n} : (State.applyCnt s p i n).tse = s.tse := by simp [State.applyCnt]
@[simp] theorem State.cnts_tse {s p l} : (State.cnts s p l).tse = s.tse := by simp [State.cnts]

@[simp] theorem State.countRx_tse {s p f bad} : (State.countRx s p f bad).tse = s.tse := by
  unfold State.countRx
  dsimp only
  split <;> simp

@[simp] theorem State.countTx_tse {s p f bad} : (State.countTx s p f bad).tse = s.tse := by
  unfold State.countTx
  dsimp only
  split <;> simp

@[simp] theorem State.stampVal_tse {s t} : (State.stampVal s t).2.tse = s.tse := by simp [State.stampVal]

@[simp] theorem State.txtsPush_tse {s p ident t bound rx launch} : (State.txtsPush s p ident t bound rx launch).tse = s.tse := by
  simp [State.txtsPush]

@[simp] theorem State.reserve_tse {s p r} : (State.reserve s p r).tse = s.tse := rfl

/-! ### XcCore -/

@[simp] theorem State.setXc_tse {s i x} : (State.setXc s i x).tse = s.tse := rfl
@[simp] theorem State.svcCnt_tse {s a i} : (State.svcCnt s a i).tse = s.tse := rfl
@[simp] theorem State.showXcs_tse {s} : (State.showXcs s).tse = s.tse := rfl
@[simp] theorem State.xcFree_tse {s i} : (State.xcFree s i).tse = s.tse := by unfold State.xcFree; (repeat' split) <;> simp
@[simp] theorem State.xcSent_tse {s i} : (State.xcSent s i).tse = s.tse := by unfold State.xcSent; (repeat' split) <;> simp

theorem State.xcReserve_tse {s i p hold opp u} (h : State.xcReserve s i p hold opp = some u) : u.tse = s.tse := by
  unfold State.xcReserve at h
  split at h
  · cases h
  · split at h
    · cases h
    · cases h
      simp

@[simp] theorem State.xcTimeout_tse {s i} : (State.xcTimeout s i).tse = s.tse := by unfold State.xcTimeout; split <;> simp

@[simp] theorem State.xcMiss_tse {s p i hold} : (State.xcMiss s p i hold).tse = s.tse := by
  unfold State.xcMiss
  split
  · rfl
  · split
    · simp
    · split
      · next h => simp [State.xcReserve_tse h]
      · simp

@[simp] theorem State.xcAbort_tse {s i} : (State.xcAbort s i).tse = s.tse := by unfold State.xcAbort; split <;> simp

@[simp] theorem State.xcEach_tse {s p f} (h : ∀ s k, (f s k).tse = s.tse) : (State.xcEach s p f).tse = s.tse :=
  State.foldl_tse h _ _

/-! ### Ports -/

@[simp] theorem State.sendFrame_tse {s p x t launch} : (State.sendFrame s p x t launch).tse = s.tse := by
  unfold State.sendFrame
  dsimp only
  (repeat' split) <;> simp

@[simp] theorem execFrameTx_tree {port delta s} : KeepsTree s (execFrameTx port delta s) := by
  unfold execFrameTx
  (repeat' split) <;> simp

@[simp] theorem State.launchDone_tse {s p r ok} : (State.launchDone s p r ok).tse = s.tse := by
  unfold State.launchDone
  (repeat' split) <;> simp

@[simp] theorem State.launchMiss_tse {s p r} : (State.launchMiss s p r).tse = s.tse := by simp [State.launchMiss]

@[simp] theorem execLaunchOpportunity_tree {port delta s} : KeepsTree s (execLaunchOpportunity port delta s) := by
  unfold execLaunchOpportunity
  (repeat' split) <;> simp

@[simp] theorem execPortSend_tree {c port queue frame tsReq insert timeOfs corrOfs csumOfs launch opp s} :
    KeepsTree s (execPortSend c port queue frame tsReq insert timeOfs corrOfs csumOfs launch opp s) := by
  unfold execPortSend
  (repeat' split) <;> simp -implicitDefEqProofs [-List.foldl_cons]

@[simp] theorem State.slowPath_tse {s p} : (State.slowPath s p).tse = s.tse := by simp [State.slowPath]
@[simp] theorem State.showLink_tse {s p} : (State.showLink s p).tse = s.tse := by simp [State.showLink]
@[simp] theorem execPortLinkUp_tree {lane s} : KeepsTree s (execPortLinkUp lane s) := by unfold execPortLinkUp; split <;> simp
@[simp] theorem execPortLinkDown_tree {lane s} : KeepsTree s (execPortLinkDown lane s) := by unfold execPortLinkDown; split <;> simp

@[simp] theorem execDlmMeasure_tree {lane done rx tx s} : KeepsTree s (execDlmMeasure lane done rx tx s) := by
  unfold execDlmMeasure
  split <;> simp

@[simp] theorem execFecUncorr_tree {lane s} : KeepsTree s (execFecUncorr lane s) := by unfold execFecUncorr; split <;> simp
@[simp] theorem State.expCycle_tse {s} : (State.expCycle s).tse = s.tse := by simp [State.expCycle]
@[simp] theorem State.exportClose_tse {s} : (State.exportClose s).tse = s.tse := by simp [State.exportClose]
@[simp] theorem execExportFlush_tree {s} : KeepsTree s (execExportFlush s) := by simp [execExportFlush]

@[simp] theorem State.exportAdmit_tse {s p} : (State.exportAdmit s p).2.tse = s.tse := by
  unfold State.exportAdmit
  (repeat' split) <;> simp -implicitDefEqProofs [-List.foldl_cons]

@[simp] theorem State.exportRecord_tse {s r secHigh} : (State.exportRecord s r secHigh).tse = s.tse := by simp [State.exportRecord]

@[simp] theorem execExportSet_tree {c port dst etype flush s} : KeepsTree s (execExportSet c port dst etype flush s) := by
  simp [execExportSet]

@[simp] theorem execOctCfg_tree {c oct lmodes fecs s} : KeepsTree s (execOctCfg c oct lmodes fecs s) := by simp [execOctCfg]

@[simp] theorem State.pairSide_tse {s p partner dom trailer skipLl xport} :
    (State.pairSide s p partner dom trailer skipLl xport).tse = s.tse :=
  rfl

@[simp] theorem execPairSet_tree {c a b dom trailer skipLl xport s} : KeepsTree s (execPairSet c a b dom trailer skipLl xport s) := by
  simp [execPairSet]

@[simp] theorem execPassFrameForward_tree {port s} : KeepsTree s (execPassFrameForward port s) := by
  unfold execPassFrameForward
  split <;> simp

/-! ### Ledger -/

@[simp] theorem State.setChain_tse {s l c} : (State.setChain s l c).tse = s.tse := rfl

@[simp] theorem State.slgFrame_tse {s l v trailer inserted bad f} : (State.slgFrame s l v trailer inserted bad f).tse = s.tse := by
  simp [State.slgFrame]

@[simp] theorem State.slgSettle_tse {s l} : (State.slgSettle s l).tse = s.tse := by unfold State.slgSettle; dsimp only; split <;> simp
@[simp] theorem State.slgOpen_tse {s l t} : (State.slgOpen s l t).tse = s.tse := rfl

@[simp] theorem State.slgClose_tse {s l t step last short} : (State.slgClose s l t step last short).tse = s.tse := by
  unfold State.slgClose
  split <;> simp

@[simp] theorem State.slgCycle_tse {s} : (State.slgCycle s).tse = s.tse := State.foldl_tse (fun _ _ => by simp) _ _
@[simp] theorem State.slgEndCycle_tse {s} : (State.slgEndCycle s).tse = s.tse := by simp [State.slgEndCycle]
@[simp] theorem State.slgWant_tse {s part dom at' stepped final} : (State.slgWant s part dom at' stepped final).tse = s.tse := rfl
@[simp] theorem State.slwClose_tse {s port inst step} : (State.slwClose s port inst step).tse = s.tse := by simp [State.slwClose]

@[simp] theorem State.slgEnd_tree {s port} : (State.slgEnd s port).tse.tree = s.tse.tree := by
  unfold State.slgEnd
  dsimp only
  (repeat' split) <;> simp

@[simp] theorem State.slgKeyGone_tree {s slot} : (State.slgKeyGone s slot).tse.tree = s.tse.tree := by simp [State.slgKeyGone]
@[simp] theorem State.slgEndPart_tree {s part} : (State.slgEndPart s part).tse.tree = s.tse.tree := by simp [State.slgEndPart]
@[simp] theorem State.slgEndAll_tree {s} : (State.slgEndAll s).tse.tree = s.tse.tree := by simp [State.slgEndAll]
@[simp] theorem State.pageSeal_tse {s port hung} : (State.pageSeal s port hung).tse = s.tse := by unfold State.pageSeal; split <;> simp
@[simp] theorem execPageSeal_tree {port s} : KeepsTree s (execPageSeal port s) := by simp [execPageSeal]

@[simp] theorem State.checkpointBuild_tse {s part hung} : (State.checkpointBuild s part hung).tse = s.tse := by
  unfold State.checkpointBuild
  split <;> simp

@[simp] theorem execCheckpointBuild_tree {part s} : KeepsTree s (execCheckpointBuild part s) := by simp [execCheckpointBuild]
@[simp] theorem State.chainSet_tse {s l slot hdrLen winUs dom} : (State.chainSet s l slot hdrLen winUs dom).tse = s.tse := rfl

@[simp] theorem execSlgEnable_tree {c port slot hdrLen winUs s} : KeepsTree s (execSlgEnable c port slot hdrLen winUs s) := by
  simp [execSlgEnable]

@[simp] theorem execSlgDisable_tree {c port s} : KeepsTree s (execSlgDisable c port s) := by simp [execSlgDisable]

@[simp] theorem execSlgPageCheck_tree {c page s} : KeepsTree s (execSlgPageCheck c page s) := by
  simp -implicitDefEqProofs [execSlgPageCheck, -List.foldl_cons]

@[simp] theorem execPassFrameRx_tree {port delta frame bad gap s} : KeepsTree s (execPassFrameRx port delta frame bad gap s) := by
  simp [execPassFrameRx]

@[simp] theorem State.unpair_tse {s p} : (State.unpair s p).tse = s.tse := rfl
@[simp] theorem execPairClear_tree {c port s} : KeepsTree s (execPairClear c port s) := by simp [execPairClear]

/-! ### Gnss -/

@[simp] theorem State.setGsp_tse {s n x} : (State.setGsp s n x).tse = s.tse := rfl
@[simp] theorem State.showOob_tse {s} : (State.showOob s).tse = s.tse := rfl
@[simp] theorem State.chLose_tse {s c} : (State.chLose s c).tse = s.tse := by simp [State.chLose]
@[simp] theorem State.losePort_tse {s n} : (State.losePort s n).tse = s.tse := by simp [State.losePort]
@[simp] theorem State.gspJudge_tse {s n} : (State.gspJudge s n).tse = s.tse := by simp [State.gspJudge]
@[simp] theorem State.gspJudgeAll_tse {s} : (State.gspJudgeAll s).tse = s.tse := by simp [State.gspJudgeAll]
@[simp] theorem State.gspWritten_tse {s n oldCfg oldLo} : (State.gspWritten s n oldCfg oldLo).tse = s.tse := by simp [State.gspWritten]
@[simp] theorem State.gateEnd_tse {s n smp} : (State.gateEnd s n smp).tse = s.tse := by simp [State.gateEnd]
@[simp] theorem execCohGateEnd_tree {smp0 smp1 x s} : KeepsTree s (execCohGateEnd smp0 smp1 x s) := by simp [execCohGateEnd]

@[simp] theorem execAcquisitionSearchDone_tree {signal sv found phase doppler s} :
    KeepsTree s (execAcquisitionSearchDone signal sv found phase doppler s) := by
  simp [execAcquisitionSearchDone]

@[simp] theorem execChannelAssign_tree {ch signal sv phase doppler s} : KeepsTree s (execChannelAssign ch signal sv phase doppler s) := by
  simp [execChannelAssign]

@[simp] theorem State.chMove_tse {s ch src next} : (State.chMove s ch src next).tse = s.tse := by simp [State.chMove]
@[simp] theorem execChannelLock_tree {ch s} : KeepsTree s (execChannelLock ch s) := by simp [execChannelLock]
@[simp] theorem execPullInTimeout_tree {ch s} : KeepsTree s (execPullInTimeout ch s) := by simp [execPullInTimeout]
@[simp] theorem execBitSyncFound_tree {ch s} : KeepsTree s (execBitSyncFound ch s) := by simp [execBitSyncFound]
@[simp] theorem execFrameSyncFound_tree {sync s} : KeepsTree s (execFrameSyncFound sync s) := by simp [execFrameSyncFound]
@[simp] theorem execCn0Loss_tree {ch s} : KeepsTree s (execCn0Loss ch s) := by simp [execCn0Loss]
@[simp] theorem execChannelRelease_tree {ch s} : KeepsTree s (execChannelRelease ch s) := by simp [execChannelRelease]
@[simp] theorem execMeasEpoch_tree {meas s} : KeepsTree s (execMeasEpoch meas s) := by simp [execMeasEpoch]

@[simp] theorem execNavUnitComplete_tree {ch fmt inverted x rxc received taken s} :
    KeepsTree s (execNavUnitComplete ch fmt inverted x rxc received taken s) := by
  unfold execNavUnitComplete
  split <;> simp

@[simp] theorem execGppsScheduleWrite_tree {sysSec est sigma mode flags used s} :
    KeepsTree s (execGppsScheduleWrite sysSec est sigma mode flags used s) := by
  simp [execGppsScheduleWrite]

@[simp] theorem State.gppsEdge_tse {s tdc} : (State.gppsEdge s tdc).tse = s.tse := by unfold State.gppsEdge; split <;> simp
@[simp] theorem State.captureTmsg_tse {s m} : (State.captureTmsg s m).tse = s.tse := rfl
@[simp] theorem execSolutionLostTimeout_tree {s} : KeepsTree s (execSolutionLostTimeout s) := by simp [execSolutionLostTimeout]
@[simp] theorem State.putPos_tse {s base x y z} : (State.putPos s base x y z).tse = s.tse := rfl
@[simp] theorem State.holdAt_tse {s x y z unc} : (State.holdAt s x y z unc).tse = s.tse := by simp [State.holdAt]
@[simp] theorem State.holdPos_tse {s x y z unc} : (State.holdPos s x y z unc).tse = s.tse := by simp [State.holdPos]
@[simp] theorem State.adoptCand_tse {s} : (State.adoptCand s).tse = s.tse := by simp [State.adoptCand]
@[simp] theorem State.gnbAcquire_tse {s} : (State.gnbAcquire s).tse = s.tse := by simp [State.gnbAcquire]

@[simp] theorem execSurveyDone_tree {u x y z unc s} : KeepsTree s (execSurveyDone u x y z unc s) := by
  simp [execSurveyDone]

@[simp] theorem execSurveyFailed_tree {x unc s} : KeepsTree s (execSurveyFailed x unc s) := by simp [execSurveyFailed]
@[simp] theorem execHoldSuspect_tree {s} : KeepsTree s (execHoldSuspect s) := by simp [execHoldSuspect]

@[simp] theorem execGnssCfg_tree {c sigEn tsys elev cn0 span per s} : KeepsTree s (execGnssCfg c sigEn tsys elev cn0 span per s) := by
  simp -implicitDefEqProofs [execGnssCfg, -List.foldl_cons]

@[simp] theorem execGnssRestart_tree {c kind s} : KeepsTree s (execGnssRestart c kind s) := by
  simp -implicitDefEqProofs [execGnssRestart, -List.foldl_cons]

@[simp] theorem execGnssSurvey_tree {c min target max s} : KeepsTree s (execGnssSurvey c min target max s) := by
  simp -implicitDefEqProofs [execGnssSurvey, -List.foldl_cons]

@[simp] theorem execGnssPosSet_tree {c cand x y z unc s} : KeepsTree s (execGnssPosSet c cand x y z unc s) := by simp [execGnssPosSet]

@[simp] theorem execGnssPosClear_tree {c s} : KeepsTree s (execGnssPosClear c s) := by
  simp -implicitDefEqProofs [execGnssPosClear, -List.foldl_cons]

@[simp] theorem execGnssTap_tree {c on s} : KeepsTree s (execGnssTap c on s) := by
  simp -implicitDefEqProofs [execGnssTap, -List.foldl_cons]

/-! ### HingeCore -/

@[simp] theorem State.setHlane_tse {s e x} : (State.setHlane s e x).tse = s.tse := rfl
@[simp] theorem State.setHnode_tse {s k x} : (State.setHnode s k x).tse = s.tse := rfl
@[simp] theorem State.ringPin_tse {s} : (State.ringPin s).tse = s.tse := by simp [State.ringPin]
@[simp] theorem State.ringUnpin_tse {s slot} : (State.ringUnpin s slot).tse = s.tse := by simp [State.ringUnpin]
@[simp] theorem State.ringKeyGone_tse {s slot} : (State.ringKeyGone s slot).tse = s.tse := by simp [State.ringKeyGone]
@[simp] theorem State.hCharge_tse {s n} : (State.hCharge s n).tse = s.tse := by simp [State.hCharge]
@[simp] theorem State.hSend_tse {s ty stream seq rep pay} : (State.hSend s ty stream seq rep pay).tse = s.tse := by simp [State.hSend]
@[simp] theorem State.laneTally_tse {s e which} : (State.laneTally s e which).tse = s.tse := rfl
@[simp] theorem State.nodeTally_tse {s k which} : (State.nodeTally s k which).tse = s.tse := by simp [State.nodeTally]
@[simp] theorem State.linkErr_tse {s e which} : (State.linkErr s e which).tse = s.tse := by simp [State.linkErr]
@[simp] theorem State.passOn_tse {s e f} : (State.passOn s e f).tse = s.tse := by simp [State.passOn]

@[simp] theorem State.hReceive_tse {s e f crcOk} : (State.hReceive s e f crcOk).2.tse = s.tse := by
  unfold State.hReceive
  dsimp only
  (repeat' split) <;> simp

@[simp] theorem State.noteSeen_tse {s f} : (State.noteSeen s f).tse = s.tse := rfl
@[simp] theorem State.twinDrop_tse {s f} : (State.twinDrop s f).tse = s.tse := by simp [State.twinDrop]
@[simp] theorem State.showHop_tse {s e} : (State.showHop s e).tse = s.tse := rfl

@[simp] theorem State.hopMeasure_tse {s e t4 pay} : (State.hopMeasure s e t4 pay).tse = s.tse := by
  unfold State.hopMeasure
  dsimp only
  split <;> simp

@[simp] theorem State.showHops_tse {s} : (State.showHops s).tse = s.tse := State.foldl_tse (fun _ _ => by simp) _ _
@[simp] theorem State.hrlFaults_tse {s} : (State.hrlFaults s).tse = s.tse := by simp [State.hrlFaults]
@[simp] theorem State.logRole_tse {s idx old new} : (State.logRole s idx old new).tse = s.tse := by simp [State.logRole]
@[simp] theorem State.showBroken_tse {s} : (State.showBroken s).tse = s.tse := rfl
@[simp] theorem State.setRoles_tse {s a b epoch} : (State.setRoles s a b epoch).tse = s.tse := by simp [State.setRoles]

@[simp] theorem State.logRoster_tse {s members steward epoch from'} : (State.logRoster s members steward epoch from').tse = s.tse := by
  simp [State.logRoster]

@[simp] theorem State.hClaim_tse {s} : (State.hClaim s).tse = s.tse := by simp -implicitDefEqProofs [State.hClaim, -List.foldl_cons]
@[simp] theorem State.hrlTrained_tse {s} : (State.hrlTrained s).tse = s.tse := by simp [State.hrlTrained]
@[simp] theorem State.release_tse {s} : (State.release s).tse = s.tse := by unfold State.release; dsimp only; split <;> simp

@[simp] theorem State.applyRoster_tree {s p} : (State.applyRoster s p).tse.tree = s.tse.tree := by
  unfold State.applyRoster
  dsimp only
  split
  · split
    · simp
    · split <;> simp
  split
  · rfl
  · simp -implicitDefEqProofs [-List.foldl_cons]
    refine State.foldl_tree (fun s k => ?_) _ _
    split <;> simp -implicitDefEqProofs

@[simp] theorem State.sendRoster_tse {s p epoch} : (State.sendRoster s p epoch).tse = s.tse := by simp [State.sendRoster]
@[simp] theorem State.stewardWork_tse {s} : (State.stewardWork s).tse = s.tse := by simp [State.stewardWork]
@[simp] theorem State.keySwitch_tse {s} : (State.keySwitch s).tse = s.tse := by simp [State.keySwitch]
@[simp] theorem State.noteSent_tse {s ty} : (State.noteSent s ty).tse = s.tse := rfl
@[simp] theorem State.stewardLost_tse {s} : (State.stewardLost s).tse = s.tse := by simp [State.stewardLost]
@[simp] theorem State.healthTurn_tse {s} : (State.healthTurn s).tse = s.tse := by simp [State.healthTurn]

@[simp] theorem State.startTurn_tree {s t} : (State.startTurn s t).tse.tree = s.tse.tree := by
  unfold State.startTurn
  dsimp only
  (repeat' split) <;> simp

@[simp] theorem State.quietEnd_tse {s} : (State.quietEnd s).tse = s.tse := rfl

/-! ### HingeTime -/

@[simp] theorem State.markEntries_tse {s e delta} : (State.markEntries s e delta).2.tse = s.tse := rfl

@[simp] theorem execTimeMarkSend_tree {deltaE deltaW s} : KeepsTree s (execTimeMarkSend deltaE deltaW s) := by
  unfold execTimeMarkSend
  split <;> simp

@[simp] theorem State.ringSeed_tree {s d p src ref origin} : (State.ringSeed s d p src ref origin).tse.tree = s.tse.tree := by
  simp [State.ringSeed]

@[simp] theorem State.ringSample_tree {s d p src ref origin} : (State.ringSample s d p src ref origin).tse.tree = s.tse.tree := by
  simp [State.ringSample]

@[simp] theorem State.markTrace_tse {s f} : (State.markTrace s f).tse = s.tse := by
  unfold State.markTrace
  split
  · rfl
  · refine State.foldl_tse (fun s d => ?_) _ _
    split <;> simp

@[simp] theorem State.markSample_tree {s e f prev} : (State.markSample s e f prev).tse.tree = s.tse.tree := by
  unfold State.markSample
  split
  · dsimp only
    split
    · rfl
    · split
      · simp
      · refine (State.foldl_tree (fun s d => ?_) _ _).trans (by simp)
        split
        · split <;> simp
        · rfl
  · rfl

@[simp] theorem State.markRoles_tse {s f} : (State.markRoles s f).tse = s.tse := by simp [State.markRoles]
@[simp] theorem State.markStarts_tree {s f arr} : (State.markStarts s f arr).tse.tree = s.tse.tree := by simp [State.markStarts]

@[simp] theorem State.rxFrame_tree {s e ty f crcOk g} (h : ∀ s, (g s).tse.tree = s.tse.tree) :
    (State.rxFrame s e ty f crcOk g).tse.tree = s.tse.tree := by
  simp [State.rxFrame, h]

@[simp] theorem execTimeMarkRx_tree {e delta frame crcOk s} : KeepsTree s (execTimeMarkRx e delta frame crcOk s) := by
  simp [execTimeMarkRx]

@[simp] theorem State.noteHealth_tse {s k pay untagged} : (State.noteHealth s k pay untagged).tse = s.tse := by simp [State.noteHealth]

@[simp] theorem execHealthSend_tree {deltaE deltaW s} : KeepsTree s (execHealthSend deltaE deltaW s) := by
  unfold execHealthSend
  dsimp only
  (repeat' split) <;> simp -implicitDefEqProofs [-List.foldl_cons]

@[simp] theorem execHealthRx_tree {e delta frame crcOk s} : KeepsTree s (execHealthRx e delta frame crcOk s) := by
  refine keepsTree_next.mpr (State.rxFrame_tree fun s => ?_)
  extract_lets pay untagged t4 s1 l s3 s4
  have h3 : s3.tse = s.tse := State.tse_of_ite (by simp -implicitDefEqProofs [s1]) rfl
  have h4 : s4.tse = s.tse := State.noteSeen_tse.trans h3
  clear_value s3 s4
  dsimp only
  (repeat' split) <;> simp -implicitDefEqProofs [h3, h4]

@[simp] theorem State.ringClose_tree {s d} : (State.ringClose s d).tse.tree = s.tse.tree := by
  unfold State.ringClose
  dsimp only
  split <;> simp

@[simp] theorem State.hrlRdomWritten_tree {s d old} : (State.hrlRdomWritten s d old).tse.tree = s.tse.tree := by
  unfold State.hrlRdomWritten
  dsimp only
  (repeat' split) <;> simp

/-! ### Quote -/

@[simp] theorem State.persistDrop_tse {s v} : (State.persistDrop s v).tse = s.tse := by simp [State.persistDrop]
@[simp] theorem State.persistPut_tse {s k} : (State.persistPut s k).tse = s.tse := rfl
@[simp] theorem State.quote_tse {s nonce byHash} : (State.quote s nonce byHash).2.tse = s.tse := rfl

/-! ### Hinge -/

@[simp] theorem State.hrlOff_tse {s} : (State.hrlOff s).tse = s.tse := by simp [State.hrlOff]
@[simp] theorem State.hrlOn_tse {s} : (State.hrlOn s).tse = s.tse := by simp [State.hrlOn]
@[simp] theorem State.hrlMode_tse {s} : (State.hrlMode s).tse = s.tse := by simp [State.hrlMode]
@[simp] theorem execHrlEnable_tree {c on s} : KeepsTree s (execHrlEnable c on s) := by simp [execHrlEnable]

@[simp] theorem State.hLaneLink_tse {s e up rx tx} : (State.hLaneLink s e up rx tx).tse = s.tse := by
  simp -implicitDefEqProofs [State.hLaneLink, -List.foldl_cons]

@[simp] theorem execHingeLinkChange_tree {e up rx tx s} : KeepsTree s (execHingeLinkChange e up rx tx s) := by simp [execHingeLinkChange]
@[simp] theorem State.hLaneWritten_tse {s e old} : (State.hLaneWritten s e old).tse = s.tse := by simp [State.hLaneWritten]
@[simp] theorem State.hrlCfgWritten_tse {s old} : (State.hrlCfgWritten s old).tse = s.tse := by simp [State.hrlCfgWritten]
@[simp] theorem execFrameRepeat_tree {e s} : KeepsTree s (execFrameRepeat e s) := by unfold execFrameRepeat; dsimp only; split <;> simp
@[simp] theorem State.queueOwn_tse {s payload} : (State.queueOwn s payload).tse = s.tse := rfl
@[simp] theorem State.quoteAnswer_tse {s dest nonce} : (State.quoteAnswer s dest nonce).tse = s.tse := by simp [State.quoteAnswer]

@[simp] theorem State.quoteReply_tse {s k len part} : (State.quoteReply s k len part).tse = s.tse := by
  unfold State.quoteReply
  split <;> simp

@[simp] theorem State.cpBulk_tse {s k p} : (State.cpBulk s k p).tse = s.tse := by unfold State.cpBulk; split <;> simp
@[simp] theorem execHrlSend_tree {c gm payload s} : KeepsTree s (execHrlSend c gm payload s) := by simp [execHrlSend]
@[simp] theorem State.sendKept_tse {s stream rep l} : (State.sendKept s stream rep l).tse = s.tse := by simp [State.sendKept]
@[simp] theorem State.setAcc_tse {s stream seq} : (State.setAcc s stream seq).tse = s.tse := rfl
@[simp] theorem State.sendOwn_tse {s rep l} : (State.sendOwn s rep l).tse = s.tse := by unfold State.sendOwn; dsimp only; split <;> simp
@[simp] theorem State.sendGm_tse {s rep l} : (State.sendGm s rep l).tse = s.tse := by unfold State.sendGm; dsimp only; split <;> simp
@[simp] theorem execBulkSend_tree {s} : KeepsTree s (execBulkSend s) := by simp [execBulkSend]
@[simp] theorem execGmStreamSend_tree {s} : KeepsTree s (execGmStreamSend s) := by simp [execGmStreamSend]
@[simp] theorem execBulkRetransmit_tree {gm s} : KeepsTree s (execBulkRetransmit gm s) := by simp [execBulkRetransmit]
@[simp] theorem execAckSend_tree {s} : KeepsTree s (execAckSend s) := by simp [execAckSend]
@[simp] theorem State.adoptAcks_tse {s acks} : (State.adoptAcks s acks).tse = s.tse := by simp [State.adoptAcks]
@[simp] theorem execAckRx_tree {e frame crcOk s} : KeepsTree s (execAckRx e frame crcOk s) := by simp [execAckRx]
@[simp] theorem execBulkRx_tree {e frame crcOk s} : KeepsTree s (execBulkRx e frame crcOk s) := by simp [execBulkRx]
@[simp] theorem State.coinHome_tse {s x} : (State.coinHome s x).tse = s.tse := by simp [State.coinHome]
@[simp] theorem State.passCoin_tse {s x next} : (State.passCoin s x next).tse = s.tse := by simp [State.passCoin]
@[simp] theorem execCoinSend_tree {s} : KeepsTree s (execCoinSend s) := by unfold execCoinSend; (repeat' split) <;> simp

theorem State.otherSteward_tree {s id u} (h : State.otherSteward s id = some u) : u.tse.tree = s.tse.tree := by
  unfold State.otherSteward at h
  dsimp only at h
  split at h
  · cases h
  · split at h <;> cases h
    · exact congrArg Tse.tree (State.setHrl_tse _ _) |>.trans (by simp)
    · rfl

@[simp] theorem execCoinRx_tree {e frame crcOk s} : KeepsTree s (execCoinRx e frame crcOk s) := by
  refine keepsTree_next.mpr (State.rxFrame_tree fun s => ?_)
  refine State.tree_of_ite rfl ?_
  split
  · next h => exact State.otherSteward_tree h
  · simp -implicitDefEqProofs

@[simp] theorem execCoinRemint_tree {s} : KeepsTree s (execCoinRemint s) := by unfold execCoinRemint; (repeat' split) <;> simp
@[simp] theorem execTurnStart_tree {s} : KeepsTree s (execTurnStart s) := by simp [execTurnStart]
@[simp] theorem execTurnTimeout_tree {s} : KeepsTree s (execTurnTimeout s) := by simp [execTurnTimeout]
@[simp] theorem execClaimSend_tree {s} : KeepsTree s (execClaimSend s) := by simp [execClaimSend]
@[simp] theorem execClaimRx_tree {e frame crcOk s} : KeepsTree s (execClaimRx e frame crcOk s) := by simp [execClaimRx]
@[simp] theorem execStewardElect_tree {s} : KeepsTree s (execStewardElect s) := by simp [execStewardElect]

@[simp] theorem execRosterRx_tree {e frame crcOk s} : KeepsTree s (execRosterRx e frame crcOk s) := by
  refine keepsTree_next.mpr (State.rxFrame_tree fun s => ?_)
  extract_lets p lead s1 later take
  have h1 : s1.tse = s.tse := State.noteSeen_tse
  have ht : ∀ v : State, (take v).tse.tree = v.tse.tree := fun v => by simp -implicitDefEqProofs [take]
  clear_value take s1
  refine State.tree_of_ite (by simp) (State.tree_of_ite ?_ ?_)
  · split
    · next h =>
      cases hl : lead with
      | none => simp [hl] at h
      | some x => exact (State.otherSteward_tree (by simpa [hl] using h)).trans (congrArg Tse.tree h1)
    · rw [ht, h1]
  · (repeat' split) <;> simp [ht, h1]

@[simp] theorem State.dropMember_tse {s k} : (State.dropMember s k).tse = s.tse := by simp [State.dropMember]
@[simp] theorem execMemberRemove_tree {k s} : KeepsTree s (execMemberRemove k s) := by simp [execMemberRemove]
@[simp] theorem execStewardTakeover_tree {s} : KeepsTree s (execStewardTakeover s) := by simp [execStewardTakeover]
@[simp] theorem execGmbPromote_tree {s} : KeepsTree s (execGmbPromote s) := by simp [execGmbPromote]
@[simp] theorem execRingSilenceTimeout_tree {s} : KeepsTree s (execRingSilenceTimeout s) := by simp [execRingSilenceTimeout]
@[simp] theorem State.katResult_tse {s pass} : (State.katResult s pass).tse = s.tse := by simp [State.katResult]
@[simp] theorem execGmbSelftest_tree {kat loop s} : KeepsTree s (execGmbSelftest kat loop s) := by simp [execGmbSelftest]

@[simp] theorem execHrlHandover_tree {c s} : KeepsTree s (execHrlHandover c s) := by
  simp -implicitDefEqProofs [execHrlHandover, -List.foldl_cons]

@[simp] theorem execHrlQuiet_tree {c s} : KeepsTree s (execHrlQuiet c s) := by simp -implicitDefEqProofs [execHrlQuiet, -List.foldl_cons]
@[simp] theorem State.sendWake_tse {s} : (State.sendWake s).tse = s.tse := by simp [State.sendWake]
@[simp] theorem State.wakeHere_tree {s} : (State.wakeHere s).tse.tree = s.tse.tree := by simp [State.wakeHere]
@[simp] theorem execHrlWake_tree {c s} : KeepsTree s (execHrlWake c s) := by simp [execHrlWake]
@[simp] theorem execWakeRx_tree {e frame crcOk s} : KeepsTree s (execWakeRx e frame crcOk s) := by simp [execWakeRx]
@[simp] theorem execQuietRx_tree {e frame crcOk s} : KeepsTree s (execQuietRx e frame crcOk s) := by simp [execQuietRx]

@[simp] theorem execHrlKeySwitch_tree {c turn s} : KeepsTree s (execHrlKeySwitch c turn s) := by
  simp -implicitDefEqProofs [execHrlKeySwitch, -List.foldl_cons]

/-! ### TsvMsg -/

@[simp] theorem State.nonces_tse {s n} : (State.nonces s n).2.tse = s.tse := by
  induction n generalizing s with
  | zero => rfl
  | succ n ih => simp [State.nonces, ih]

/-! ### Tsv -/

@[simp] theorem State.setSvc_tse {s a x} : (State.setSvc s a x).tse = s.tse := rfl
@[simp] theorem State.setAssoc_tse {s i x} : (State.setAssoc s i x).tse = s.tse := rfl
@[simp] theorem State.xcQueue_tse {s part r} : (State.xcQueue s part r).tse = s.tse := rfl

@[simp] theorem execServiceFrameRx_tree {port delta frame bad s} : KeepsTree s (execServiceFrameRx port delta frame bad s) := by
  unfold execServiceFrameRx
  dsimp only
  (repeat' split) <;> simp

@[simp] theorem State.xcDrop_tse {s part a} : (State.xcDrop s part a).tse = s.tse := by simp [State.xcDrop]
@[simp] theorem execXcAdmit_tree {s} : KeepsTree s (execXcAdmit s) := by unfold execXcAdmit; dsimp only; (repeat' split) <;> simp
@[simp] theorem State.xcKey_tse {s i x} : (State.xcKey s i x).tse = s.tse := by unfold State.xcKey; split <;> simp
@[simp] theorem execXcParseDone_tree {i s} : KeepsTree s (execXcParseDone i s) := by unfold execXcParseDone; (repeat' split) <;> simp

@[simp] theorem State.xcBuild_tse {s i x opp} : (State.xcBuild s i x opp).tse = s.tse := by
  unfold State.xcBuild
  refine State.tse_of_ite ?_ rfl
  split
  · next h => simp [State.xcReserve_tse h]
  · rfl

@[simp] theorem State.xcNtsn_tse {s i x} : (State.xcNtsn s i x).tse = s.tse := rfl

@[simp] theorem execXcKeyDone_tree {i s} : KeepsTree s (execXcKeyDone i s) := by
  unfold execXcKeyDone
  dsimp only
  (repeat' split) <;> simp

@[simp] theorem State.policeSet_tse {s p line tag c} : (State.policeSet s p line tag c).tse = s.tse := rfl
@[simp] theorem State.policeFlush_tse {s p} : (State.policeFlush s p).tse = s.tse := rfl
@[simp] theorem execPoliceDecaySweep_tree {s} : KeepsTree s (execPoliceDecaySweep s) := by simp [execPoliceDecaySweep]

@[simp] theorem State.grantReq_tse {s x k portId b} : (State.grantReq s x k portId b).2.tse = s.tse := by
  unfold State.grantReq
  refine snd_tse_ite rfl ?_
  split
  · simp
  · exact snd_tse_ite rfl rfl

@[simp] theorem State.grantCancel_tse {s x k portId b} : (State.grantCancel s x k portId b).2.tse = s.tse := by
  unfold State.grantCancel
  dsimp only
  (repeat' split) <;> simp

@[simp] theorem State.negotiate_tse {s x k m} : (State.negotiate s x k m).2.tse = s.tse := by
  refine foldl_keeps (fun a : List Byte × State => a.2.tse) _ (fun a e => ?_) _ _
  dsimp only
  split <;> simp

@[simp] theorem State.ntpPolice_tse {s i x k opp} : (State.ntpPolice s i x k opp).tse = s.tse := by simp [State.ntpPolice]

@[simp] theorem State.quoteFor_tse {s x} : (State.quoteFor s x).2.tse = s.tse := by
  unfold State.quoteFor
  dsimp only
  (repeat' split) <;> simp

@[simp] theorem State.ptpFail_tse {s i x peer} : (State.ptpFail s i x peer).tse = s.tse := by
  unfold State.ptpFail
  (repeat' split) <;> simp

@[simp] theorem State.assocSeen_tse {s peer} : (State.assocSeen s peer).tse = s.tse := by unfold State.assocSeen; (repeat' split) <;> simp
@[simp] theorem State.ptpVerify_tse {s i x k opp} : (State.ptpVerify s i x k opp).tse = s.tse := by simp [State.ptpVerify]

@[simp] theorem execXcVerifyDone_tree {i opp s} : KeepsTree s (execXcVerifyDone i opp s) := by
  unfold execXcVerifyDone
  dsimp only
  (repeat' split) <;> simp

@[simp] theorem State.xcHand_tse {s i port f} : (State.xcHand s i port f).tse = s.tse := rfl

@[simp] theorem execXcBuildDone_tree {i s} : KeepsTree s (execXcBuildDone i s) := by
  unfold execXcBuildDone
  dsimp only
  (repeat' split) <;> simp

@[simp] theorem execXcTimeout_tree {i s} : KeepsTree s (execXcTimeout i s) := by unfold execXcTimeout; split <;> simp
@[simp] theorem State.emitMsg_tse {s a m e} : (State.emitMsg s a m e).tse = s.tse := rfl
@[simp] theorem State.emitGroup_tse {s a sync} : (State.emitGroup s a sync).tse = s.tse := by simp [State.emitGroup]

@[simp] theorem State.walk_tse {s i sync n missed step} : (State.walk s i sync n missed step).tse = s.tse := by
  unfold State.walk
  split <;> simp

@[simp] theorem State.tsvEmit_tse {s target inst missed step} : (State.tsvEmit s target inst missed step).tse = s.tse := by
  simp [State.tsvEmit]

@[simp] theorem execAssocExpire_tree {i s} : KeepsTree s (execAssocExpire i s) := by unfold execAssocExpire; split <;> simp
@[simp] theorem State.assocFlush_tse {s p} : (State.assocFlush s p).tse = s.tse := rfl
@[simp] theorem State.xcEnd_tse {s p} : (State.xcEnd s p).tse = s.tse := by simp [State.xcEnd]

@[simp] theorem State.emitArm_tree {s a part sSlot aSlot} : (State.emitArm s a part sSlot aSlot).tse.tree = s.tse.tree := by
  simp [State.emitArm]

@[simp] theorem execSvcSet_tree {c a part port transport addr tags ttl ptp ntp nts profile domNum mcast auth twoStep s} :
    KeepsTree s (execSvcSet c a part port transport addr tags ttl ptp ntp nts profile domNum mcast auth twoStep s) := by
  unfold execSvcSet
  extract_lets b cfg s1 s2 slots width same s3
  refine keepsTree_next.mpr (State.runCmd_tree ?_)
  rw [State.refreshAll_tse]
  have h2 : s2.tse = s.tse := by simp -implicitDefEqProofs only [s2, s1, State.wr_tse, State.put_tse]
  clear_value slots
  refine State.tree_of_ite ?_ (congrArg Tse.tree h2)
  split
  · rw [State.emitArm_tree, h2]
  · rw [h2]

@[simp] theorem State.svcStop_tree {s a} : (State.svcStop s a).tse.tree = s.tse.tree := by
  unfold State.svcStop
  dsimp only
  (repeat' split) <;> simp

@[simp] theorem execSvcClear_tree {c a s} : KeepsTree s (execSvcClear c a s) := by simp [execSvcClear]
@[simp] theorem execNtsKeyRoll_tree {c a slot prevClear s} : KeepsTree s (execNtsKeyRoll c a slot prevClear s) := by simp [execNtsKeyRoll]

@[simp] theorem execAssocFlush_tree {c a s} : KeepsTree s (execAssocFlush c a s) := by
  unfold execAssocFlush
  (repeat' split) <;> simp -implicitDefEqProofs [-List.foldl_cons]

@[simp] theorem execNtskeCfg_tree {c a slot cert port records s} : KeepsTree s (execNtskeCfg c a slot cert port records s) := by
  simp [execNtskeCfg]

@[simp] theorem execNtskeHandshake_tree {a c2s s2c s} : KeepsTree s (execNtskeHandshake a c2s s2c s) := by simp [execNtskeHandshake]

/-! ### Kvc -/

@[simp] theorem State.statusReply_tse {s t gd st result more} : (State.statusReply s t gd st result more).tse = s.tse := rfl
@[simp] theorem State.kmacReply_tse {s t gd st tag} : (State.kmacReply s t gd st tag).tse = s.tse := rfl
@[simp] theorem State.keyOpRun_tse {s w} : (State.keyOpRun s w).tse = s.tse := by unfold State.keyOpRun; split <;> simp
@[simp] theorem State.keyOpEnd_tse {s w st} : (State.keyOpEnd s w st).tse = s.tse := by unfold State.keyOpEnd; split <;> simp
@[simp] theorem State.keyOpStart_tse {s v op} : (State.keyOpStart s v op).tse = s.tse := by simp [State.keyOpStart]

@[simp] theorem State.keyOps_tse {s p f} (h : ∀ s w, (f s w).tse = s.tse) : (State.keyOps s p f).tse = s.tse :=
  State.foldl_tse h _ _

@[simp] theorem State.wrapped_tse {s part ty attr gen key} : (State.wrapped s part ty attr gen key).2.tse = s.tse := rfl
@[simp] theorem State.genRun_tse {s w} : (State.genRun s w).tse = s.tse := by simp [State.genRun]
@[simp] theorem execKeyGen_tree {c ty attr gen s} : KeepsTree s (execKeyGen c ty attr gen s) := by simp [execKeyGen]

@[simp] theorem execKeyImport_tree {c ty attr gen material s} : KeepsTree s (execKeyImport c ty attr gen material s) := by
  simp -implicitDefEqProofs [execKeyImport, -List.foldl_cons]

@[simp] theorem execKeyGenTimeout_tree {s} : KeepsTree s (execKeyGenTimeout s) := by unfold execKeyGenTimeout; split <;> simp
@[simp] theorem State.keyInstall_tse {s v blob persist} : (State.keyInstall s v blob persist).tse = s.tse := by simp [State.keyInstall]

@[simp] theorem execKeyLoad_tree {c slot blob kcv persist s} : KeepsTree s (execKeyLoad c slot blob kcv persist s) := by
  simp [execKeyLoad]

@[simp] theorem State.eraseStart_tree {s v c} : (State.eraseStart s v c).tse.tree = s.tse.tree := by simp [State.eraseStart]
@[simp] theorem execKeyErase_tree {c slot s} : KeepsTree s (execKeyErase c slot s) := by simp [execKeyErase]
@[simp] theorem execEraseForceTimeout_tree {slot s} : KeepsTree s (execEraseForceTimeout slot s) := by simp [execEraseForceTimeout]
@[simp] theorem execKeyInfo_tree {c slot s} : KeepsTree s (execKeyInfo c slot s) := by simp [execKeyInfo]
@[simp] theorem execKvcSign_tree {c slot digest s} : KeepsTree s (execKvcSign c slot digest s) := by simp [execKvcSign]
@[simp] theorem execSlotAssign_tree {c slot part s} : KeepsTree s (execSlotAssign c slot part s) := by simp [execSlotAssign]

@[simp] theorem execKeyCacheMissDone_tree {slot gen blob s} : KeepsTree s (execKeyCacheMissDone slot gen blob s) := by
  unfold execKeyCacheMissDone
  dsimp only
  (repeat' split) <;> simp

@[simp] theorem State.cpExport_tse {s slot} : (State.cpExport s slot).tse = s.tse := by simp [State.cpExport]
@[simp] theorem State.cpRelease_tse {s slot gen} : (State.cpRelease s slot gen).tse = s.tse := by simp [State.cpRelease]
@[simp] theorem execCpExportRelease_tree {call gen s} : KeepsTree s (execCpExportRelease call gen s) := by simp [execCpExportRelease]

@[simp] theorem execCacheEccError_tree {slot gen s} : KeepsTree s (execCacheEccError slot gen s) := by
  unfold execCacheEccError
  (repeat' split) <;> simp

@[simp] theorem execDrbgReseed_tree {s} : KeepsTree s (execDrbgReseed s) := by simp [execDrbgReseed]
@[simp] theorem execRngHealthFail_tree {s} : KeepsTree s (execRngHealthFail s) := by simp [execRngHealthFail]
@[simp] theorem execRngHealthPass_tree {s} : KeepsTree s (execRngHealthPass s) := by simp [execRngHealthPass]
@[simp] theorem execKvcSelftest_tree {c pass s} : KeepsTree s (execKvcSelftest c pass s) := by simp [execKvcSelftest]
@[simp] theorem State.tamperRecord_tse {s k sec} : (State.tamperRecord s k sec).tse = s.tse := rfl
@[simp] theorem State.slotWipe_tse {s v} : (State.slotWipe s v).tse = s.tse := by simp [State.slotWipe]

@[simp] theorem State.zeroise_tree {s k} : (State.zeroise s k).tse.tree = s.tse.tree := by
  simp -implicitDefEqProofs [State.zeroise, -List.foldl_cons]

@[simp] theorem execTamperTrip_tree {source supply s} : KeepsTree s (execTamperTrip source supply s) := by simp [execTamperTrip]

@[simp] theorem execTamperSourceRelease_tree {source s} : KeepsTree s (execTamperSourceRelease source s) := by
  simp [execTamperSourceRelease]

@[simp] theorem execKvcZeroise_tree {c s} : KeepsTree s (execKvcZeroise c s) := by simp [execKvcZeroise]

@[simp] theorem execTamperCfg_tree {c modes filt en lo hi s} : KeepsTree s (execTamperCfg c modes filt en lo hi s) := by
  simp [execTamperCfg]

@[simp] theorem State.vbatJudge_tse {s} : (State.vbatJudge s).tse = s.tse := by simp [State.vbatJudge]
@[simp] theorem execVbatWarn_tree {mv s} : KeepsTree s (execVbatWarn mv s) := by simp [execVbatWarn]

/-! ### Sup -/

@[simp] theorem State.ledgerAdd_tse {s w} : (State.ledgerAdd s w).tse = s.tse := by simp [State.ledgerAdd]
@[simp] theorem State.ledgerWrite_tse {s} : (State.ledgerWrite s).tse = s.tse := by unfold State.ledgerWrite; split <;> simp
@[simp] theorem execLedgerEntryWrite_tree {s} : KeepsTree s (execLedgerEntryWrite s) := by simp [execLedgerEntryWrite]

@[simp] theorem ledgerUntil_tse {p n s} : (ledgerUntil p n s).tse = s.tse := by
  induction n generalizing s with
  | zero => rfl
  | succ n ih => simp [ledgerUntil, ih]

@[simp] theorem State.awaitEntries_tse {s p} : (State.awaitEntries s p).tse = s.tse := by simp [State.awaitEntries]
@[simp] theorem State.clearD_tse {s mask} : (State.clearD s mask).tse = s.tse := by simp [State.clearD]
@[simp] theorem State.clearS_tse {s p mask} : (State.clearS s p mask).tse = s.tse := by simp [State.clearS]
@[simp] theorem execCollectorParity_tree {s} : KeepsTree s (execCollectorParity s) := by simp [execCollectorParity]
@[simp] theorem State.heartbeat_tse {s} : (State.heartbeat s).tse = s.tse := by simp [State.heartbeat]
@[simp] theorem execHeartbeatExpire_tree {s} : KeepsTree s (execHeartbeatExpire s) := by simp [execHeartbeatExpire]
@[simp] theorem State.supCtlWritten_tse {s old} : (State.supCtlWritten s old).tse = s.tse := by simp [State.supCtlWritten]
@[simp] theorem execResetCountClear_tree {s} : KeepsTree s (execResetCountClear s) := by simp [execResetCountClear]
@[simp] theorem execCheckbitRateWindow_tree {errors s} : KeepsTree s (execCheckbitRateWindow errors s) := by simp [execCheckbitRateWindow]
@[simp] theorem execPcieErr_tree {live s} : KeepsTree s (execPcieErr live s) := by simp [execPcieErr]
@[simp] theorem execFaultInject_tree {c n p s} : KeepsTree s (execFaultInject c n p s) := by simp [execFaultInject]
@[simp] theorem execLedgerMark_tree {c sev data s} : KeepsTree s (execLedgerMark c sev data s) := by simp [execLedgerMark]

@[simp] theorem State.synReset_tse {s n} : (State.synReset s n).tse = s.tse := by
  simp -implicitDefEqProofs [State.synReset, -List.foldl_cons]

@[simp] theorem State.portRetrain_tse {s l} : (State.portRetrain s l).tse = s.tse := by
  simp -implicitDefEqProofs [State.portRetrain, -List.foldl_cons]

@[simp] theorem State.blockReset_tse {s n mask inst kat} : (State.blockReset s n mask inst kat).tse = s.tse := by simp [State.blockReset]

@[simp] theorem execBlockResetReaction_tree {kat s} : KeepsTree s (execBlockResetReaction kat s) := by
  unfold execBlockResetReaction
  split <;> simp

@[simp] theorem State.samplePost_tse {s x} : (State.samplePost s x).tse = s.tse := by simp [State.samplePost]
@[simp] theorem State.sampleReq_tse {s b t rest} : (State.sampleReq s b t rest).tse = s.tse := by simp [State.sampleReq]

@[simp] theorem sampleEvents_tse {b i t rest n s} : (sampleEvents b i t rest n s).tse = s.tse := by
  induction n generalizing s with
  | zero => rfl
  | succ n ih => simp [sampleEvents, ih]

@[simp] theorem State.tbAdd_tse {s b i n} : (State.tbAdd s b i n).1.tse = s.tse := by simp [State.tbAdd]

@[simp] theorem State.tbCount_tse {s b i l carry} : (State.tbCount s b i l carry).1.tse = s.tse := by
  unfold State.tbCount
  (repeat' split) <;> simp

@[simp] theorem State.tbCycle_tse {s b l} : (State.tbCycle s b l).tse = s.tse :=
  foldl_keeps (fun x : State × Bool => x.1.tse) _ (fun _ _ => by simp) _ _

@[simp] theorem State.tally4_tse {s f lo i} : (State.tally4 s f lo i).tse = s.tse := rfl
@[simp] theorem State.applyBump_tse {s x} : (State.applyBump s x).tse = s.tse := by unfold State.applyBump; split <;> simp
@[simp] theorem State.applyBumps_tse {s core} : (State.applyBumps s core).tse = s.tse := by simp [State.applyBumps]
@[simp] theorem State.windowEnd_tse {s b i} : (State.windowEnd s b i).tse = s.tse := by simp [State.windowEnd]
@[simp] theorem execTallyWindowEnd_tree {s} : KeepsTree s (execTallyWindowEnd s) := by simp [execTallyWindowEnd]

@[simp] theorem State.bankCopy_tse {s b} : (State.bankCopy s b).tse = s.tse := by
  simp -implicitDefEqProofs [State.bankCopy, -List.foldl_cons]

@[simp] theorem State.tallySnap_tse {s d done} : (State.tallySnap s d done).tse = s.tse := by
  simp -implicitDefEqProofs [State.tallySnap, -List.foldl_cons]

/-! ### Firm -/

@[simp] theorem State.setSlotImg_tse {s k b} : (State.setSlotImg s k b).tse = s.tse := rfl
@[simp] theorem State.showImg_tse {s k ok} : (State.showImg s k ok).tse = s.tse := by simp [State.showImg]
@[simp] theorem State.putBcb_tse {s b} : (State.putBcb s b).tse = s.tse := rfl
@[simp] theorem State.showBoot_tse {s} : (State.showBoot s).tse = s.tse := by simp [State.showBoot]
@[simp] theorem State.extend_tse {s i m} : (State.extend s i m).tse = s.tse := rfl
@[simp] theorem State.showOwner_tse {s} : (State.showOwner s).tse = s.tse := rfl
@[simp] theorem State.setOwner_tse {s o} : (State.setOwner s o).tse = s.tse := rfl
@[simp] theorem State.newNonce_tse {s} : (State.newNonce s).tse = s.tse := rfl

@[simp] theorem execOwnerClaim_tree {c token s} : KeepsTree s (execOwnerClaim c token s) := by
  simp -implicitDefEqProofs [execOwnerClaim, -List.foldl_cons]

@[simp] theorem execOwnerLock_tree {c act token s} : KeepsTree s (execOwnerLock c act token s) := by
  simp -implicitDefEqProofs [execOwnerLock, -List.foldl_cons]

@[simp] theorem execCertInstall_tree {c chain s} : KeepsTree s (execCertInstall c chain s) := by simp [execCertInstall]
@[simp] theorem execImgKeySet_tree {c part key token s} : KeepsTree s (execImgKeySet c part key token s) := by simp [execImgKeySet]
@[simp] theorem State.provision_tse {s} : (State.provision s).tse = s.tse := rfl

@[simp] theorem execVaultProvision_tree {c token s} : KeepsTree s (execVaultProvision c token s) := by
  simp -implicitDefEqProofs [execVaultProvision, -List.foldl_cons]

@[simp] theorem State.freeOther_tse {s} : (State.freeOther s).tse = s.tse := rfl

@[simp] theorem State.runFw_tree {s eff : State} {c op l} (h : eff.tse.tree = s.tse.tree) :
    (s.runFw c op l eff).tse.tree = s.tse.tree := by
  simp [State.runFw, h]

@[simp] theorem execFwBegin_tree {c len s} : KeepsTree s (execFwBegin c len s) := by simp [execFwBegin]

@[simp] theorem execFwWrite_tree {c offset data s} : KeepsTree s (execFwWrite c offset data s) := by
  simp -implicitDefEqProofs [execFwWrite, -List.foldl_cons]

@[simp] theorem execFwVerify_tree {c s} : KeepsTree s (execFwVerify c s) := by simp [execFwVerify]
@[simp] theorem execFwActivate_tree {c s} : KeepsTree s (execFwActivate c s) := by simp [execFwActivate]
@[simp] theorem State.confirm_tse {s} : (State.confirm s).tse = s.tse := by simp [State.confirm]
@[simp] theorem execFwConfirm_tree {c force s} : KeepsTree s (execFwConfirm c force s) := by simp [execFwConfirm]

@[simp] theorem execAttestQuote_tree {c nonce target s} : KeepsTree s (execAttestQuote c nonce target s) := by
  simp -implicitDefEqProofs [execAttestQuote, -List.foldl_cons]

@[simp] theorem execAttestHingeTimeout_tree {s} : KeepsTree s (execAttestHingeTimeout s) := by
  unfold execAttestHingeTimeout
  split <;> simp

@[simp] theorem execAttestLog_tree {c s} : KeepsTree s (execAttestLog c s) := by simp [execAttestLog]

@[simp] theorem execMregExtend_tree {c data s} : KeepsTree s (execMregExtend c data s) := by
  simp -implicitDefEqProofs [execMregExtend, -List.foldl_cons]

@[simp] theorem State.cmdCause_tse {s op} : (State.cmdCause s op).tse = s.tse := rfl
@[simp] theorem execDevReset_tree {c s} : KeepsTree s (execDevReset c s) := by simp -implicitDefEqProofs [execDevReset, -List.foldl_cons]

@[simp] theorem execServiceEnter_tree {c s} : KeepsTree s (execServiceEnter c s) := by
  simp -implicitDefEqProofs [execServiceEnter, -List.foldl_cons]

@[simp] theorem execServiceExit_tree {c s} : KeepsTree s (execServiceExit c s) := by simp [execServiceExit]
@[simp] theorem execSafeExit_tree {c s} : KeepsTree s (execSafeExit c s) := by simp -implicitDefEqProofs [execSafeExit, -List.foldl_cons]

/-! ### Images -/

@[simp] theorem State.setDbytes_tse {s a l} : (State.setDbytes s a l).tse = s.tse := by
  induction l generalizing s a with
  | nil => rfl
  | cons b l ih => simp [State.setDbytes, ih]

@[simp] theorem State.drvInstall_tse {s b boot} : (State.drvInstall s b boot).tse = s.tse := rfl
@[simp] theorem State.drvMeasure_tse {s b} : (State.drvMeasure s b).tse = s.tse := rfl
@[simp] theorem execDrvLoad_tree {c image s} : KeepsTree s (execDrvLoad c image s) := by simp [execDrvLoad]
@[simp] theorem execDrvUnload_tree {c part codeBase s} : KeepsTree s (execDrvUnload c part codeBase s) := by simp [execDrvUnload]

/-! ### Partition -/

@[simp] theorem State.ringZero_tse {s f r} : (State.ringZero s f r).tse = s.tse := by unfold State.ringZero; dsimp only; split <;> simp
@[simp] theorem State.histZero_tse {s f} : (State.histZero s f).tse = s.tse := rfl
@[simp] theorem State.msixZero_tse {s f} : (State.msixZero s f).tse = s.tse := rfl
@[simp] theorem State.msixUnpend_tse {s f} : (State.msixUnpend s f).tse = s.tse := rfl
@[simp] theorem State.hostZero_tse {s f} : (State.hostZero s f).tse = s.tse := by simp [State.hostZero]
@[simp] theorem State.ringOff_tse {s f r} : (State.ringOff s f r).tse = s.tse := rfl

@[simp] theorem State.resetStart_tree {s p job} : (State.resetStart s p job).tse.tree = s.tse.tree := by
  simp -implicitDefEqProofs [State.resetStart, -List.foldl_cons]

@[simp] theorem State.escFree_tree {s k} : (State.escFree s k).tse.tree = s.tse.tree := by simp [State.escFree]
@[simp] theorem State.alarmsOff_tree {s p} : (State.alarmsOff s p).tse.tree = s.tse.tree := by simp [State.alarmsOff]

@[simp] theorem sealAll_tree {p n s} : (sealAll p n s).tse.tree = s.tse.tree := by
  induction n generalizing s with
  | zero => rfl
  | succ n ih =>
    unfold sealAll
    split
    · split
      · next h => exact ih.trans (execPageSeal_tree _ h)
      · rfl
    · rfl

@[simp] theorem State.slgFinal_tree {s p} : (State.slgFinal s p).tse.tree = s.tse.tree := by
  unfold State.slgFinal
  dsimp only
  split
  · next h => rw [execCheckpointBuild_tree _ h]; simp
  · simp

@[simp] theorem State.rearmEmission_tree {s a} : (State.rearmEmission s a).tse.tree = s.tse.tree := by
  unfold State.rearmEmission
  dsimp only
  (repeat' split) <;> simp

@[simp] theorem State.resetRest_tree {s p} : (State.resetRest s p).tse.tree = s.tse.tree := by
  simp -implicitDefEqProofs [State.resetRest, -List.foldl_cons]

@[simp] theorem execPartReset_tree {c p s} : KeepsTree s (execPartReset c p s) := by simp [execPartReset]

@[simp] theorem execPartitionResetComplete_tree {p s} : KeepsTree s (execPartitionResetComplete p s) := by
  simp [execPartitionResetComplete]

@[simp] theorem State.ptCfgWritten_tree {s p old} : (State.ptCfgWritten s p old).tse.tree = s.tse.tree := by simp [State.ptCfgWritten]

@[simp] theorem execFunctionLevelReset_tree {f s} : KeepsTree s (execFunctionLevelReset f s) := by
  unfold execFunctionLevelReset
  dsimp only
  (repeat' split) <;> simp

@[simp] theorem execPerstAssert_tree {s} : KeepsTree s (execPerstAssert s) := by simp [execPerstAssert]
@[simp] theorem execPerstRelease_tree {s} : KeepsTree s (execPerstRelease s) := by simp [execPerstRelease]

/-! ### RegWrite -/

@[simp] theorem State.store_tree {s r i j w} : (State.store s r i j w).tse.tree = s.tse.tree := by simp [State.store]
@[simp] theorem State.imagesRebased_tse {s p b} : (State.imagesRebased s p b).tse = s.tse := rfl
@[simp] theorem State.ringEnabled_tse {s f r} : (State.ringEnabled s f r).tse = s.tse := rfl
@[simp] theorem State.ringFail_tse {s f r} : (State.ringFail s f r).tse = s.tse := by simp [State.ringFail]
@[simp] theorem State.doorbell_tse {s f r} : (State.doorbell s f r).tse = s.tse := by simp [State.doorbell]

@[simp] theorem State.written_tree {s r i j old data} : (State.written s r i j old data).tse.tree = s.tse.tree := by
  unfold State.written
  split <;> simp

@[simp] theorem State.hostPush_tse {s m q w fin} : (State.hostPush s m q w fin).tse = s.tse := by simp [State.hostPush]

@[simp] theorem State.regWrite_tree {s who commit r i j data hm} : (State.regWrite s who commit r i j data hm).1.tse.tree = s.tse.tree := by
  unfold State.regWrite
  dsimp only
  (repeat' split) <;> simp

@[simp] theorem State.noteDirect_tree {s r i j hm} : (State.noteDirect s r i j hm).tse.tree = s.tse.tree := by simp [State.noteDirect]

@[simp] theorem State.plainWrite_tree {s who r i j data hm} : (State.plainWrite s who r i j data hm).tse.tree = s.tse.tree := by
  have h := State.regWrite_tree (s := s) (who := who) (commit := false) (r := r) (i := i) (j := j) (data := data) (hm := hm)
  unfold State.plainWrite
  split
  · next heq => simpa [heq] using h
  · next heq => simpa [heq] using h

@[simp] theorem State.directWrite_tree {s m r i j h data} : (State.directWrite s m r i j h data).tse.tree = s.tse.tree := by
  unfold State.directWrite
  split <;> simp

/-! ### Escrow -/

@[simp] theorem State.escBegin_tse {s p} : (State.escBegin s p).2.2.tse = s.tse := by
  unfold State.escBegin
  split <;> simp

@[simp] theorem State.escWrite_tse {s p e a w r o} : (State.escWrite s p e a w r o).2.2.tse = s.tse := by
  unfold State.escWrite
  dsimp only
  (repeat' split) <;> simp

@[simp] theorem State.escCommit_tree {s p e x l} : (State.escCommit s p e x l).2.2.tse.tree = s.tse.tree := by
  unfold State.escCommit
  dsimp only
  (repeat' split) <;> simp

@[simp] theorem State.escAbort_tree {s p e} : (State.escAbort s p e).2.2.tse.tree = s.tse.tree := by
  unfold State.escAbort
  dsimp only
  (repeat' split) <;> simp

@[simp] theorem State.escApply_tree {p a e} : (State.escApply p a e).1.tse.tree = a.1.tse.tree := by
  unfold State.escApply
  split
  · simp
  · dsimp only
    split <;> simp

@[simp] theorem State.escNote_tse {s k w} : (State.escNote s k w).tse = s.tse := by simp [State.escNote]

theorem escApplyAll_tree {p a l} : (List.foldl (State.escApply p) a l).1.tse.tree = a.1.tse.tree :=
  foldl_keeps (fun a => a.1.tse.tree) _ (fun _ _ => State.escApply_tree) l a

@[simp] theorem State.escJudge_tree {s k step} : (State.escJudge s k step).tse.tree = s.tse.tree := by
  unfold State.escJudge
  dsimp only
  split <;> simp [escApplyAll_tree]

@[simp] theorem State.escImmediate_tree {s} : (State.escImmediate s).tse.tree = s.tse.tree := by unfold State.escImmediate; split <;> simp

@[simp] theorem State.escCmd_tree {s c op x r} (h : x.2.2.tse.tree = s.tse.tree) : (State.escCmd s c op x r).tse.tree = s.tse.tree :=
  State.runCmd_tree h

@[simp] theorem execEscBegin_tree {c s} : KeepsTree s (execEscBegin c s) := by simp [execEscBegin]
@[simp] theorem execEscWrite_tree {c e addr w s} : KeepsTree s (execEscWrite c e addr w s) := by simp [execEscWrite]

@[simp] theorem execEscCommit_tree {c e at' lateOk s} : KeepsTree s (execEscCommit c e at' lateOk s) := by
  unfold execEscCommit
  dsimp only
  (repeat' split) <;> simp

@[simp] theorem execEscAbort_tree {c e s} : KeepsTree s (execEscAbort c e s) := by simp [execEscAbort]

/-! ### Fire -/

@[simp] theorem State.act_tree {s d rest} : (State.act s d rest).tse.tree = s.tse.tree := by unfold State.act; split <;> simp
@[simp] theorem State.tallyFired_tse {s d} : (State.tallyFired s d).tse = s.tse := by simp [State.tallyFired]
@[simp] theorem State.fireHead_tree {s} : (State.fireHead s).tse.tree = s.tse.tree := by unfold State.fireHead; split <;> simp

@[simp] theorem fireAll_tree {n s} : (fireAll n s).tse.tree = s.tse.tree := by
  induction n generalizing s with
  | zero => rfl
  | succ n ih => simp [fireAll, ih]

@[simp] theorem State.drainDue_tree {s} : (State.drainDue s).tse.tree = s.tse.tree := by simp [State.drainDue]

@[simp] theorem immAll_tree {n s} : (immAll n s).tse.tree = s.tse.tree := by
  induction n generalizing s with
  | zero => rfl
  | succ n ih => simp [immAll, ih]

@[simp] theorem State.drainImm_tree {s} : (State.drainImm s).tse.tree = s.tse.tree := by simp [State.drainImm]
@[simp] theorem State.fireIf_tree {s p} : (State.fireIf s p).tse.tree = s.tse.tree := by simp [State.fireIf]
@[simp] theorem execLeapFire_tree {s} : KeepsTree s (execLeapFire s) := by simp [execLeapFire]
@[simp] theorem execEvoEdgeFire_tree {s} : KeepsTree s (execEvoEdgeFire s) := by simp [execEvoEdgeFire]
@[simp] theorem execEmuOpenFire_tree {s} : KeepsTree s (execEmuOpenFire s) := by simp [execEmuOpenFire]
@[simp] theorem execEmuCloseFire_tree {s} : KeepsTree s (execEmuCloseFire s) := by simp [execEmuCloseFire]
@[simp] theorem execTsvEmitFire_tree {s} : KeepsTree s (execTsvEmitFire s) := by simp [execTsvEmitFire]
@[simp] theorem execEscrowCommitFire_tree {s} : KeepsTree s (execEscrowCommitFire s) := by simp [execEscrowCommitFire]
@[simp] theorem execTallySnapFire_tree {s} : KeepsTree s (execTallySnapFire s) := by simp [execTallySnapFire]
@[simp] theorem execDsqWakeFire_tree {s} : KeepsTree s (execDsqWakeFire s) := by simp [execDsqWakeFire]
@[simp] theorem execSlwCloseFire_tree {s} : KeepsTree s (execSlwCloseFire s) := by simp [execSlwCloseFire]
@[simp] theorem execHostIntFire_tree {s} : KeepsTree s (execHostIntFire s) := by simp [execHostIntFire]
@[simp] theorem execQputFire_tree {s} : KeepsTree s (execQputFire s) := by simp [execQputFire]
@[simp] theorem execRshServoClose_tree {s} : KeepsTree s (execRshServoClose s) := by simp [execRshServoClose]
@[simp] theorem execHrlServoClose_tree {s} : KeepsTree s (execHrlServoClose s) := by simp [execHrlServoClose]
@[simp] theorem execEscrowImmediateCommit_tree {s} : KeepsTree s (execEscrowImmediateCommit s) := by simp [execEscrowImmediateCommit]
@[simp] theorem execRefinEdge_tree {src edge tdc s} : KeepsTree s (execRefinEdge src edge tdc s) := by simp [execRefinEdge]
@[simp] theorem execGppsEdge_tree {tdc s} : KeepsTree s (execGppsEdge tdc s) := by simp [execGppsEdge]

/-! ### Modes -/

@[simp] theorem State.d0Runs_tree {s} : (State.d0Runs s).tse.tree = s.tse.tree := by simp [State.d0Runs]
@[simp] theorem State.enterCalibrate_tree {s} : (State.enterCalibrate s).tse.tree = s.tse.tree := by simp [State.enterCalibrate]
@[simp] theorem State.safeDomains_tree {s} : (State.safeDomains s).tse.tree = s.tse.tree := by simp [State.safeDomains]
@[simp] theorem State.enterSafe_tree {s} : (State.enterSafe s).tse.tree = s.tse.tree := by simp [State.enterSafe]
@[simp] theorem State.bootProved_tse {s} : (State.bootProved s).tse = s.tse := by simp [State.bootProved]
@[simp] theorem State.enterProved_tse {s} : (State.enterProved s).tse = s.tse := by simp [State.enterProved]

@[simp] theorem State.enterMode_tree {s old new} : (State.enterMode s old new).tse.tree = s.tse.tree := by
  unfold State.enterMode
  dsimp only
  split <;> simp

@[simp] theorem State.changeMode_tree {s new} : (State.changeMode s new).tse.tree = s.tse.tree := by simp [State.changeMode]
@[simp] theorem State.boundUpdate_tree {s} : (State.boundUpdate s).tse.tree = s.tse.tree := by simp [State.boundUpdate]
@[simp] theorem execBoundUpdate_tree {s} : KeepsTree s (execBoundUpdate s) := by simp [execBoundUpdate]
@[simp] theorem State.tseCycle_tree {s core} : (State.tseCycle s core).tse.tree = s.tse.tree := by simp [State.tseCycle]
@[simp] theorem execClkTseCycle_tree {core s} : KeepsTree s (execClkTseCycle core s) := by simp [execClkTseCycle]

/-! ### Bus -/

@[simp] theorem State.clearRc_tse {s r i j h} : (State.clearRc s r i j h).tse = s.tse := by simp [State.clearRc]

theorem State.queueRead_tse {s m q h x} (hx : State.queueRead s m q h = some x) : x.2.tse = s.tse := by
  unfold State.queueRead at hx
  dsimp only at hx
  split at hx
  · cases hx
    rfl
  · split at hx <;> cases hx
    simp

theorem State.regRead_tree {s m r i j h x} (hx : State.regRead s m r i j h = some x) : x.2.tse.tree = s.tse.tree := by
  unfold State.regRead at hx
  dsimp only at hx
  split at hx
  case h_8 => rw [State.queueRead_tse hx]
  all_goals
    simp only [Option.map_eq_some_iff, Option.some.injEq] at hx
  case h_1 | h_2 | h_9 => 
    subst hx
    simp
  all_goals
    obtain ⟨e, -, rfl⟩ := hx
    simp

@[simp] theorem State.cpRead_tse {s addr h} : (State.cpRead s addr h).2.tse = s.tse := by unfold State.cpRead; (repeat' split) <;> simp
@[simp] theorem State.cpWrite_tse {s addr h data} : (State.cpWrite s addr h data).tse = s.tse := by simp [State.cpWrite]

theorem State.serveRead_tree {s a x} (hx : State.serveRead s a = some x) : x.2.tse.tree = s.tse.tree := by
  unfold State.serveRead at hx
  split at hx
  · cases hx; simp
  split at hx
  · cases hx; simp
  split at hx
  · cases hx; simp
  split at hx
  · split at hx
    · cases hx; simp
    · exact State.regRead_tree hx
  · (repeat' split at hx) <;> cases hx <;> simp

theorem State.serveWrite_tree {s a u} (h : State.serveWrite s a = some u) : u.tse.tree = s.tse.tree := by
  unfold State.serveWrite at h
  (repeat' split at h) <;> cases h <;> simp -implicitDefEqProofs

@[simp] theorem State.busAnswer_tse {s a w} : (State.busAnswer s a w).tse = s.tse := by unfold State.busAnswer; split <;> simp

@[simp] theorem State.serve_tree {s a} : (State.serve s a).tse.tree = s.tse.tree := by
  unfold State.serve
  refine State.tree_of_ite ?_ ?_
  · cases h : s.serveWrite a with
    | none => rfl
    | some u => exact State.serveWrite_tree h
  · split
    · next h => exact (congrArg Tse.tree State.busAnswer_tse).trans (State.serveRead_tree h)
    · rfl

@[simp] theorem State.access_tree {s a} : (State.access s a).tse.tree = s.tse.tree := by unfold State.access; dsimp only; split <;> simp
@[simp] theorem State.deny_tse {s f write} : (State.deny s f write).tse = s.tse := by simp [State.deny]
@[simp] theorem State.bus_tree {s a} : (State.bus s a).tse.tree = s.tse.tree := by unfold State.bus; (repeat' split) <;> simp
@[simp] theorem State.readOf_tree {s m r i j h} : (State.readOf s m r i j h).tse.tree = s.tse.tree := by simp [State.readOf]
@[simp] theorem State.writeOf_tree {s m r i j h data} : (State.writeOf s m r i j h data).tse.tree = s.tse.tree := by simp [State.writeOf]
@[simp] theorem State.setMsix_tse {s f v e} : (State.setMsix s f v e).tse = s.tse := rfl
@[simp] theorem State.msixFlush1_tse {s f v} : (State.msixFlush1 s f v).tse = s.tse := by simp [State.msixFlush1]
@[simp] theorem State.msixFlush_tse {s f} : (State.msixFlush s f).tse = s.tse := by simp [State.msixFlush]
@[simp] theorem State.msixWrite_tse {s f addr h data} : (State.msixWrite s f addr h data).tse = s.tse := by simp [State.msixWrite]
@[simp] theorem State.msixControl_tse {s f data} : (State.msixControl s f data).tse = s.tse := by simp [State.msixControl]
@[simp] theorem execMsixUnmask_tree {f v s} : KeepsTree s (execMsixUnmask f v s) := by unfold execMsixUnmask; (repeat' split) <;> simp

@[simp] theorem execRegisterWrite_tree {m sp addr h data s} : KeepsTree s (execRegisterWrite m sp addr h data s) := by
  unfold execRegisterWrite
  split <;> simp

@[simp] theorem execInputCfgWrite_tree {m n nom h data s} : KeepsTree s (execInputCfgWrite m n nom h data s) := by
  simp [execInputCfgWrite]

@[simp] theorem execGspCfgWrite_tree {m n lo h data s} : KeepsTree s (execGspCfgWrite m n lo h data s) := by simp [execGspCfgWrite]
@[simp] theorem execQueuePush_tree {m q h data s} : KeepsTree s (execQueuePush m q h data s) := by simp [execQueuePush]
@[simp] theorem execQueuePushEnd_tree {m q h data s} : KeepsTree s (execQueuePushEnd m q h data s) := by simp [execQueuePushEnd]
@[simp] theorem execQueueCfgWrite_tree {m q h data s} : KeepsTree s (execQueueCfgWrite m q h data s) := by simp [execQueueCfgWrite]

@[simp] theorem execSlgRingEnable_tree {m p ckpt h data s} : KeepsTree s (execSlgRingEnable m p ckpt h data s) := by
  simp [execSlgRingEnable]

@[simp] theorem execTsvTableEnable_tree {m police h data s} : KeepsTree s (execTsvTableEnable m police h data s) := by
  simp [execTsvTableEnable]

@[simp] theorem execPartitionEnableWrite_tree {m p h data s} : KeepsTree s (execPartitionEnableWrite m p h data s) := by
  simp [execPartitionEnableWrite]

@[simp] theorem execRingDoorbell_tree {m f r h data s} : KeepsTree s (execRingDoorbell m f r h data s) := by simp [execRingDoorbell]
@[simp] theorem execRingEnable_tree {m f r h data s} : KeepsTree s (execRingEnable m f r h data s) := by simp [execRingEnable]
@[simp] theorem execFaultDeviceClear_tree {m h data s} : KeepsTree s (execFaultDeviceClear m h data s) := by simp [execFaultDeviceClear]

@[simp] theorem execFaultPartitionClear_tree {m p h data s} : KeepsTree s (execFaultPartitionClear m p h data s) := by
  simp [execFaultPartitionClear]

@[simp] theorem execHeartbeatWrite_tree {m h data s} : KeepsTree s (execHeartbeatWrite m h data s) := by simp [execHeartbeatWrite]

@[simp] theorem execPeripheralEnableWrite_tree {m h data s} : KeepsTree s (execPeripheralEnableWrite m h data s) := by
  simp [execPeripheralEnableWrite]

@[simp] theorem execFmcStart_tree {m h data s} : KeepsTree s (execFmcStart m h data s) := by simp [execFmcStart]
@[simp] theorem execDvfsTargetWrite_tree {m h data s} : KeepsTree s (execDvfsTargetWrite m h data s) := by simp [execDvfsTargetWrite]
@[simp] theorem execDomainTimeCapture_tree {m dom h s} : KeepsTree s (execDomainTimeCapture m dom h s) := by simp [execDomainTimeCapture]
@[simp] theorem execGnbTmsgCapture_tree {m h s} : KeepsTree s (execGnbTmsgCapture m h s) := by simp [execGnbTmsgCapture]
@[simp] theorem execEmuFifoRead_tree {m emu h s} : KeepsTree s (execEmuFifoRead m emu h s) := by simp [execEmuFifoRead]
@[simp] theorem execGnbTapfRead_tree {m h s} : KeepsTree s (execGnbTapfRead m h s) := by simp [execGnbTapfRead]
@[simp] theorem execTxtsFifoRead_tree {m port h s} : KeepsTree s (execTxtsFifoRead m port h s) := by simp [execTxtsFifoRead]
@[simp] theorem execHrlRxfRead_tree {m h s} : KeepsTree s (execHrlRxfRead m h s) := by simp [execHrlRxfRead]
@[simp] theorem execSupLedgerRead_tree {m h s} : KeepsTree s (execSupLedgerRead m h s) := by simp [execSupLedgerRead]
@[simp] theorem execQueueDataRead_tree {m q h s} : KeepsTree s (execQueueDataRead m q h s) := by simp [execQueueDataRead]
@[simp] theorem execEmuStatReadClear_tree {m emu h s} : KeepsTree s (execEmuStatReadClear m emu h s) := by simp [execEmuStatReadClear]
@[simp] theorem execGnbTstatReadClear_tree {m h s} : KeepsTree s (execGnbTstatReadClear m h s) := by simp [execGnbTstatReadClear]
@[simp] theorem execGnbNavStatReadClear_tree {m h s} : KeepsTree s (execGnbNavStatReadClear m h s) := by simp [execGnbNavStatReadClear]
@[simp] theorem execSynStatReadClear_tree {m n h s} : KeepsTree s (execSynStatReadClear m n h s) := by simp [execSynStatReadClear]
@[simp] theorem execEvoStatReadClear_tree {m v h s} : KeepsTree s (execEvoStatReadClear m v h s) := by simp [execEvoStatReadClear]
@[simp] theorem execDsqStatReadClear_tree {m h s} : KeepsTree s (execDsqStatReadClear m h s) := by simp [execDsqStatReadClear]
@[simp] theorem execQueueStatReadClear_tree {m q h s} : KeepsTree s (execQueueStatReadClear m q h s) := by simp [execQueueStatReadClear]
@[simp] theorem execTsvStatReadClear_tree {m h s} : KeepsTree s (execTsvStatReadClear m h s) := by simp [execTsvStatReadClear]
@[simp] theorem execTsvDropReadClear_tree {m p h s} : KeepsTree s (execTsvDropReadClear m p h s) := by simp [execTsvDropReadClear]
@[simp] theorem execTsvErrReadClear_tree {m p h s} : KeepsTree s (execTsvErrReadClear m p h s) := by simp [execTsvErrReadClear]

@[simp] theorem execKvcCacheStatReadClear_tree {m h s} : KeepsTree s (execKvcCacheStatReadClear m h s) := by
  simp [execKvcCacheStatReadClear]

@[simp] theorem execVsPinsReadClear_tree {m v h s} : KeepsTree s (execVsPinsReadClear m v h s) := by simp [execVsPinsReadClear]
@[simp] theorem execHrlLtallyReadClear_tree {m h s} : KeepsTree s (execHrlLtallyReadClear m h s) := by simp [execHrlLtallyReadClear]
@[simp] theorem execNodeTallyReadClear_tree {m k h s} : KeepsTree s (execNodeTallyReadClear m k h s) := by simp [execNodeTallyReadClear]
@[simp] theorem execParStatReadClear_tree {m h s} : KeepsTree s (execParStatReadClear m h s) := by simp [execParStatReadClear]
@[simp] theorem execParFnStatReadClear_tree {m f h s} : KeepsTree s (execParFnStatReadClear m f h s) := by simp [execParFnStatReadClear]
@[simp] theorem execParBusCntReadClear_tree {m h s} : KeepsTree s (execParBusCntReadClear m h s) := by simp [execParBusCntReadClear]
@[simp] theorem execLedgerStatReadClear_tree {m h s} : KeepsTree s (execLedgerStatReadClear m h s) := by simp [execLedgerStatReadClear]
@[simp] theorem execFcntReadClear_tree {m n h s} : KeepsTree s (execFcntReadClear m n h s) := by simp [execFcntReadClear]
@[simp] theorem execTbStatReadClear_tree {m b h s} : KeepsTree s (execTbStatReadClear m b h s) := by simp [execTbStatReadClear]
@[simp] theorem execTbPeakReadClear_tree {m b i h s} : KeepsTree s (execTbPeakReadClear m b i h s) := by simp [execTbPeakReadClear]
@[simp] theorem execExpStatReadClear_tree {m h s} : KeepsTree s (execExpStatReadClear m h s) := by simp [execExpStatReadClear]
@[simp] theorem execSlgStatReadClear_tree {m p h s} : KeepsTree s (execSlgStatReadClear m p h s) := by simp [execSlgStatReadClear]
@[simp] theorem execPwrClkCntReadClear_tree {m h s} : KeepsTree s (execPwrClkCntReadClear m h s) := by simp [execPwrClkCntReadClear]
@[simp] theorem execPwrDvfsReadClear_tree {m h s} : KeepsTree s (execPwrDvfsReadClear m h s) := by simp [execPwrDvfsReadClear]
@[simp] theorem execPwrTempReadClear_tree {m h s} : KeepsTree s (execPwrTempReadClear m h s) := by simp [execPwrTempReadClear]
@[simp] theorem execWindowDeny_tree {f addr write s} : KeepsTree s (execWindowDeny f addr write s) := by simp [execWindowDeny]

@[simp] theorem State.hungNote_tse {s code target f addr part write} : (State.hungNote s code target f addr part write).tse = s.tse := by
  simp [State.hungNote]

@[simp] theorem State.hungResult_tree {s a} : (State.hungResult s a).tse.tree = s.tse.tree := by unfold State.hungResult; split <;> simp
@[simp] theorem State.hungDma_tse {s job} : (State.hungDma s job).tse = s.tse := by unfold State.hungDma; (repeat' split) <;> simp
@[simp] theorem State.replay_tree {s c} : (State.replay s c).tse.tree = s.tse.tree := by simp [State.replay]

@[simp] theorem execBusWatchdogExpire_tree {code job addr s} : KeepsTree s (execBusWatchdogExpire code job addr s) := by
  unfold execBusWatchdogExpire
  (repeat' split) <;> simp

/-! ### Resets -/

@[simp] theorem State.vbatRegs_tse {old s : State} : (old.vbatRegs s).tse = s.tse := by
  simp [State.vbatRegs]

@[simp] theorem State.chipReset_tse {s} : (State.chipReset s).tse = State.reset.tse := by
  simp [State.chipReset, State.reset]

/-! ### Boot -/

@[simp] theorem State.migrate_tse {s k sfmt} : (State.migrate s k sfmt).tse = s.tse := by unfold State.migrate; dsimp only; split <;> simp

@[simp] theorem State.loadSettings_tse {s b} : (State.loadSettings s b).tse = s.tse := by
  unfold State.loadSettings
  dsimp only
  (repeat' split) <;> simp

@[simp] theorem State.bootClocks_tse {s} : (State.bootClocks s).tse = s.tse := by simp [State.bootClocks]
@[simp] theorem State.bootSyn0_tse {s} : (State.bootSyn0 s).tse = s.tse := rfl
@[simp] theorem State.noFallbackOnset_tse {s} : (State.noFallbackOnset s).tse = s.tse := by simp [State.noFallbackOnset]
@[simp] theorem State.bootKeys_tse {s} : (State.bootKeys s).tse = s.tse := rfl
@[simp] theorem State.bootSlot_tse {s b k} : (State.bootSlot s b k).tse = s.tse := by simp [State.bootSlot]
@[simp] theorem State.bootRom_tree {s} : (State.bootRom s).tse.tree = s.tse.tree := by unfold State.bootRom; dsimp only; split <;> simp

@[simp] theorem execBootRomStart_tree {flash s} : KeepsTree s (execBootRomStart flash s) := by
  unfold execBootRomStart
  (repeat' split) <;> simp

@[simp] theorem State.bootReg_tree {s e} : (State.bootReg s e).tse.tree = s.tse.tree := by unfold State.bootReg; split <;> simp
@[simp] theorem State.bootKey_tse {s k} : (State.bootKey s k).tse = s.tse := by simp [State.bootKey]
@[simp] theorem State.bootImage_tse {s b} : (State.bootImage s b).tse = s.tse := by simp [State.bootImage]
@[simp] theorem State.bootStress_tse {s} : (State.bootStress s).tse = s.tse := by unfold State.bootStress; dsimp only; split <;> simp

@[simp] theorem State.bootConfig_tree {s} : (State.bootConfig s).tse.tree = s.tse.tree := by
  unfold State.bootConfig
  dsimp only
  split <;> simp

@[simp] theorem State.bootKvc_tse {s rngOk kat} : (State.bootKvc s rngOk kat).tse = s.tse := by simp [State.bootKvc]
@[simp] theorem execBootComplete_tree {rngOk kat s} : KeepsTree s (execBootComplete rngOk kat s) := by simp [execBootComplete]

/-! ### Domains -/

@[simp] theorem execDomSeed_tree {c dom t bound s} : KeepsTree s (execDomSeed c dom t bound s) := by simp [execDomSeed]
@[simp] theorem execDomStart_tree {c dom s} : KeepsTree s (execDomStart c dom s) := by simp [execDomStart]
@[simp] theorem execDomStop_tree {c dom s} : KeepsTree s (execDomStop c dom s) := by simp [execDomStop]
@[simp] theorem execDomStep_tree {c dom ticks s} : KeepsTree s (execDomStep c dom ticks s) := by simp [execDomStep]

@[simp] theorem execDomSlew_tree {c dom ticks unc slewMax s} : KeepsTree s (execDomSlew c dom ticks unc slewMax s) := by
  simp [execDomSlew]

/-! ### Isa -/

@[simp] theorem State.issued_tse {s t} : (State.issued s t).tse = s.tse := by simp [State.issued]
@[simp] theorem State.goOn_tse {s t pc n} : (State.goOn s t pc n).tse = s.tse := rfl
@[simp] theorem State.raise_tree {s t cause code data} : (State.raise s t cause code data).tse.tree = s.tse.tree := by simp [State.raise]
@[simp] theorem State.aluDone_tse {s t rd next x} : (State.aluDone s t rd next x).tse = s.tse := by simp [State.aluDone]
@[simp] theorem State.park_tse {s t st next gd} : (State.park s t st next gd).tse = s.tse := rfl
@[simp] theorem State.parkReply_tse {s t next g tr fl} : (State.parkReply s t next g tr fl).tse = s.tse := rfl
@[simp] theorem State.parkStatus_tse {s t next gd st result} : (State.parkStatus s t next gd st result).tse = s.tse := rfl
@[simp] theorem State.capT_tse {s n} : (State.capT s n).2.tse = s.tse := by unfold State.capT; dsimp only; split <;> simp

@[simp] theorem State.capTs_tse {s l} : (State.capTs s l).2.tse = s.tse := by
  induction l generalizing s with
  | nil => rfl
  | cons n l ih => simp [State.capTs, ih]

@[simp] theorem State.snapT_tree {s t tn next l} : (State.snapT s t tn next l).tse.tree = s.tse.tree := by simp [State.snapT]
@[simp] theorem State.twait_tree {s t tn gd next} : (State.twait s t tn gd next).tse.tree = s.tse.tree := by simp [State.twait]
@[simp] theorem State.temit_tree {s t tn gd gs next} : (State.temit s t tn gd gs next).tse.tree = s.tse.tree := by simp [State.temit]
@[simp] theorem State.checkBit_tse {s} : (State.checkBit s).tse = s.tse := rfl
@[simp] theorem State.eccFault_tree {s t addr} : (State.eccFault s t addr).tse.tree = s.tse.tree := by simp [State.eccFault]

@[simp] theorem State.memory_tree {s t addr next rd wide write data} :
    (State.memory s t addr next rd wide write data).tse.tree = s.tse.tree := by
  simp [State.memory]

@[simp] theorem State.queueWait_tse {s t q next gd put} : (State.queueWait s t q next gd put).tse = s.tse := rfl

@[simp] theorem State.qputIns_tree {s t gs q next fin nb} : (State.qputIns s t gs q next fin nb).tse.tree = s.tse.tree := by
  simp [State.qputIns]

@[simp] theorem State.qgetIns_tree {s t gd q next nb} : (State.qgetIns s t gd q next nb).tse.tree = s.tse.tree := by simp [State.qgetIns]

@[simp] theorem State.escIns_tree {s t gd op next x} (h : x.1 = .ok → x.2.2.tse.tree = s.tse.tree) :
    (State.escIns s t gd op next x).tse.tree = s.tse.tree := by
  unfold State.escIns
  split
  · simp
  · by_cases hx : x.1 = .ok <;> simp [hx, h]

@[simp] theorem State.pcmdIns_tse {s t gd ga cmd next} : (State.pcmdIns s t gd ga cmd next).tse = s.tse := by simp [State.pcmdIns]

@[simp] theorem State.kmacIns_tse {s t gd ga gb next} : (State.kmacIns s t gd ga gb next).tse = s.tse := by
  unfold State.kmacIns
  dsimp only
  split <;> simp

@[simp] theorem State.branch_tree {s t target f} (h : ∀ s, (f s).tse.tree = s.tse.tree) :
    (State.branch s t target f).tse.tree = s.tse.tree := by
  simp [State.branch, h]

@[simp] theorem State.yieldIns_tse {s t next} : (State.yieldIns s t next).tse = s.tse := by simp [State.yieldIns]

@[simp] theorem State.effect_tree {s t size d} : (State.effect s t size d).tse.tree = s.tse.tree := by
  cases d with
  | tset tn gs field => simp only [State.effect]; split <;> simp
  | tsub gd ta tb wb => cases wb <;> simp [State.effect]
  | ecommit gd e x late => cases x <;> simp [State.effect]
  | _ => simp [State.effect]

@[simp] theorem State.fetchFix_tse {s t size} : (State.fetchFix s t size).tse = s.tse := by simp [State.fetchFix]
@[simp] theorem State.issue_tree {s t size d} : (State.issue s t size d).tse.tree = s.tse.tree := by simp [State.issue]

/-! ### Engine -/

theorem State.sampleTake_tse {s t u} (h : State.sampleTake s t = some u) : u.tse = s.tse := by
  unfold State.sampleTake at h
  split at h
  · cases h
  · cases h
    simp

@[simp] theorem State.slotOf_tree {s t} : (State.slotOf s t).tse.tree = s.tse.tree := by
  unfold State.slotOf
  split
  · next h => exact congrArg Tse.tree (State.sampleTake_tse h)
  · simp

@[simp] theorem State.cycleTally_tse {s e chosen} : (State.cycleTally s e chosen).tse = s.tse := by simp [State.cycleTally]

@[simp] theorem State.engCycle_tree {s e} : (State.engCycle s e).tse.tree = s.tse.tree := by
  unfold State.engCycle
  dsimp only
  split <;> simp

@[simp] theorem execEngineIssueCycle_tree {e s} : KeepsTree s (execEngineIssueCycle e s) := by simp [execEngineIssueCycle]

@[simp] theorem execDsqSampleCapture_tree {t s} : KeepsTree s (execDsqSampleCapture t s) := by
  refine keepsTree_next.mpr (State.tree_of_ite rfl ?_)
  cases h : s.sampleTake t with
  | none => rfl
  | some u => exact congrArg Tse.tree (State.sampleTake_tse h)

@[simp] theorem State.replied_tree {s t g tr flags} : (State.replied s t g tr flags).tse.tree = s.tse.tree := by
  simp -implicitDefEqProofs [State.replied, -List.foldl_cons]

@[simp] theorem State.blockWrite_tse {s t addr op result} : (State.blockWrite s t addr op result).tse = s.tse := by
  simp [State.blockWrite]

@[simp] theorem State.replyArrive_tree {s t} : (State.replyArrive s t).tse.tree = s.tse.tree := by
  unfold State.replyArrive
  (repeat' split) <;> simp

@[simp] theorem execThreadReplyArrive_tree {t s} : KeepsTree s (execThreadReplyArrive t s) := by simp [execThreadReplyArrive]
@[simp] theorem execAdd_tree {t rd ra rb s} : KeepsTree s (execAdd t rd ra rb s) := by simp [execAdd]
@[simp] theorem execSub_tree {t rd ra rb s} : KeepsTree s (execSub t rd ra rb s) := by simp [execSub]
@[simp] theorem execAnd_tree {t rd ra rb s} : KeepsTree s (execAnd t rd ra rb s) := by simp [execAnd]
@[simp] theorem execOr_tree {t rd ra rb s} : KeepsTree s (execOr t rd ra rb s) := by simp [execOr]
@[simp] theorem execXor_tree {t rd ra rb s} : KeepsTree s (execXor t rd ra rb s) := by simp [execXor]
@[simp] theorem execShl_tree {t rd ra rb s} : KeepsTree s (execShl t rd ra rb s) := by simp [execShl]
@[simp] theorem execShr_tree {t rd ra rb s} : KeepsTree s (execShr t rd ra rb s) := by simp [execShr]
@[simp] theorem execSra_tree {t rd ra rb s} : KeepsTree s (execSra t rd ra rb s) := by simp [execSra]
@[simp] theorem execMul_tree {t rd ra rb s} : KeepsTree s (execMul t rd ra rb s) := by simp [execMul]
@[simp] theorem execMulhu_tree {t rd ra rb s} : KeepsTree s (execMulhu t rd ra rb s) := by simp [execMulhu]
@[simp] theorem execMulhs_tree {t rd ra rb s} : KeepsTree s (execMulhs t rd ra rb s) := by simp [execMulhs]
@[simp] theorem execCmp_tree {t ra rb s} : KeepsTree s (execCmp t ra rb s) := by simp [execCmp]
@[simp] theorem execMin_tree {t rd ra rb s} : KeepsTree s (execMin t rd ra rb s) := by simp [execMin]
@[simp] theorem execMax_tree {t rd ra rb s} : KeepsTree s (execMax t rd ra rb s) := by simp [execMax]
@[simp] theorem execAdds_tree {t rd ra rb s} : KeepsTree s (execAdds t rd ra rb s) := by simp [execAdds]
@[simp] theorem execSubs_tree {t rd ra rb s} : KeepsTree s (execSubs t rd ra rb s) := by simp [execSubs]
@[simp] theorem execAddi_tree {t rd ra e imm s} : KeepsTree s (execAddi t rd ra e imm s) := by simp [execAddi]
@[simp] theorem execAndi_tree {t rd ra e imm s} : KeepsTree s (execAndi t rd ra e imm s) := by simp [execAndi]
@[simp] theorem execOri_tree {t rd ra e imm s} : KeepsTree s (execOri t rd ra e imm s) := by simp [execOri]
@[simp] theorem execXori_tree {t rd ra e imm s} : KeepsTree s (execXori t rd ra e imm s) := by simp [execXori]
@[simp] theorem execShi_tree {t rd ra ty amount s} : KeepsTree s (execShi t rd ra ty amount s) := by simp [execShi]
@[simp] theorem execCmpi_tree {t ra e imm s} : KeepsTree s (execCmpi t ra e imm s) := by simp [execCmpi]
@[simp] theorem execLi_tree {t rd e imm s} : KeepsTree s (execLi t rd e imm s) := by simp [execLi]
@[simp] theorem execLiu_tree {t rd e imm s} : KeepsTree s (execLiu t rd e imm s) := by simp [execLiu]
@[simp] theorem execFmul_tree {t rd ra rb rm s} : KeepsTree s (execFmul t rd ra rb rm s) := by simp [execFmul]
@[simp] theorem execFmac_tree {t rd ra rb rm s} : KeepsTree s (execFmac t rd ra rb rm s) := by simp [execFmac]
@[simp] theorem execSat_tree {t rd ra rb s} : KeepsTree s (execSat t rd ra rb s) := by simp [execSat]
@[simp] theorem execItof_tree {t rd ra s} : KeepsTree s (execItof t rd ra s) := by simp [execItof]
@[simp] theorem execFtoi_tree {t rd ra rm s} : KeepsTree s (execFtoi t rd ra rm s) := by simp [execFtoi]
@[simp] theorem execLd_tree {t rd ra e imm s} : KeepsTree s (execLd t rd ra e imm s) := by simp [execLd]
@[simp] theorem execLdw_tree {t rd ra e imm s} : KeepsTree s (execLdw t rd ra e imm s) := by simp [execLdw]
@[simp] theorem execSt_tree {t rs ra e imm s} : KeepsTree s (execSt t rs ra e imm s) := by simp [execSt]
@[simp] theorem execStw_tree {t rs ra e imm s} : KeepsTree s (execStw t rs ra e imm s) := by simp [execStw]
@[simp] theorem execTread_tree {t tn dom s} : KeepsTree s (execTread t tn dom s) := by simp [execTread]
@[simp] theorem execTsnap_tree {t tn count gs s} : KeepsTree s (execTsnap t tn count gs s) := by simp [execTsnap]
@[simp] theorem execTadd_tree {t tn ta gs ns s} : KeepsTree s (execTadd t tn ta gs ns s) := by simp [execTadd]
@[simp] theorem execTsub_tree {t gd ta tb wb s} : KeepsTree s (execTsub t gd ta tb wb s) := by simp [execTsub]
@[simp] theorem execTcmp_tree {t ta tb bnd s} : KeepsTree s (execTcmp t ta tb bnd s) := by simp [execTcmp]
@[simp] theorem execTwait_tree {t tn gd s} : KeepsTree s (execTwait t tn gd s) := by simp [execTwait]
@[simp] theorem execTemit_tree {t tn gd gs s} : KeepsTree s (execTemit t tn gd gs s) := by simp [execTemit]
@[simp] theorem execTget_tree {t gd tn field s} : KeepsTree s (execTget t gd tn field s) := by simp [execTget]
@[simp] theorem execTset_tree {t tn gs field s} : KeepsTree s (execTset t tn gs field s) := by simp [execTset]
@[simp] theorem execQput_tree {t gs q fin nb s} : KeepsTree s (execQput t gs q fin nb s) := by simp [execQput]
@[simp] theorem execQget_tree {t gd q nb s} : KeepsTree s (execQget t gd q nb s) := by simp [execQget]
@[simp] theorem execQcnt_tree {t gd q s} : KeepsTree s (execQcnt t gd q s) := by simp [execQcnt]
@[simp] theorem execEbegin_tree {t gd s} : KeepsTree s (execEbegin t gd s) := by simp [execEbegin]
@[simp] theorem execEwr_tree {t gd ga gs e s} : KeepsTree s (execEwr t gd ga gs e s) := by simp [execEwr]
@[simp] theorem execEcommit_tree {t gd e at' late s} : KeepsTree s (execEcommit t gd e at' late s) := by simp [execEcommit]
@[simp] theorem execEabort_tree {t gd e s} : KeepsTree s (execEabort t gd e s) := by simp [execEabort]
@[simp] theorem execPcmd_tree {t gd ga cmd s} : KeepsTree s (execPcmd t gd ga cmd s) := by simp [execPcmd]
@[simp] theorem execKmac_tree {t gd ga gb s} : KeepsTree s (execKmac t gd ga gb s) := by simp [execKmac]
@[simp] theorem execBr_tree {t e off s} : KeepsTree s (execBr t e off s) := by simp [execBr]
@[simp] theorem execBcc_tree {t cond e off s} : KeepsTree s (execBcc t cond e off s) := by simp [execBcc]
@[simp] theorem execCall_tree {t gl e off s} : KeepsTree s (execCall t gl e off s) := by simp [execCall]
@[simp] theorem execRet_tree {t ga s} : KeepsTree s (execRet t ga s) := by simp [execRet]
@[simp] theorem execYield_tree {t s} : KeepsTree s (execYield t s) := by simp [execYield]
@[simp] theorem execHalt_tree {t s} : KeepsTree s (execHalt t s) := by simp [execHalt]
@[simp] theorem execTrap_tree {t code s} : KeepsTree s (execTrap t code s) := by simp [execTrap]
@[simp] theorem execIllegalInstruction_tree {t s} : KeepsTree s (execIllegalInstruction t s) := by simp [execIllegalInstruction]

/-! ### Ring -/

@[simp] theorem State.startEntry_tse {s f r e ext} : (State.startEntry s f r e ext).tse = s.tse := by
  unfold State.startEntry
  dsimp only
  (repeat' split) <;> simp

@[simp] theorem execCommandStart_tree {f r entry ext s} : KeepsTree s (execCommandStart f r entry ext s) := by simp [execCommandStart]
/-! ### Chip resets, which leave TSE at its reset value (R698) -/

@[simp] theorem State.warmReset_tse {s cause} : (State.warmReset s cause).tse = State.reset.tse := by simp [State.warmReset]

end Sys2Proof.Machine
end

section
/-! Every step keeps the tree of domains in order (R54, R55). -/
namespace Sys2Proof.Machine

/-- D0 is the reference domain, and every DERIVED domain has a parent of a lower number. -/
def State.treeOk (s : State) : Prop := (s.dom 0).kind = .ref ∧ s.parentsLower

theorem State.treeOk_of_tree {s t : State} (h : t.tse.tree = s.tse.tree) (hs : s.treeOk) : t.treeOk := by
  have hk : ∀ n, (t.dom n).kind = (s.dom n).kind := fun n => congrArg Prod.fst (congrFun h n)
  have hp : ∀ n, (t.dom n).parent = (s.dom n).parent := fun n => congrArg Prod.snd (congrFun h n)
  obtain ⟨href, hlow⟩ := hs
  exact ⟨(hk 0).trans href, fun n hn => (hp n).symm ▸ hlow n ((hk n).symm.trans hn)⟩

/-- A chip reset configures D0 alone. -/
theorem State.treeOk_of_reset {t : State} (h : t.tse = State.reset.tse) : t.treeOk :=
  State.treeOk_of_tree (congrArg Tse.tree h) ⟨rfl, reset_parentsLower⟩

/-- A domain other than D0 may take any kind, DERIVED under a parent of a lower number. -/
theorem State.treeOk_setDom {s : State} {n : Nat} {d : Dom} (hs : s.treeOk) (hn : n ≠ 0) (hd : d.kind = .derived → d.parent < n) :
    (s.setDom n d).treeOk := by
  have hne : ∀ k, k ≠ n → (s.setDom n d).dom k = s.dom k := fun k hk => tabGet_tabSet_ne _ _ _ hk
  obtain ⟨href, hlow⟩ := hs
  refine ⟨by rw [hne 0 hn.symm]; exact href, fun k hk => ?_⟩
  by_cases hkn : k = n
  · subst hkn
    rw [State.dom_setDom_same] at hk ⊢
    exact hd hk
  · rw [hne k hkn] at hk ⊢
    exact hlow k hk

theorem configured_kind {d k p o} : (configured d k p o).kind = k := by
  unfold configured
  split <;> rfl

theorem configured_parent {d k p o} : (configured d k p o).parent = p := by
  unfold configured
  split <;> rfl

theorem kindOfCode_derived {k : Nat} (h : (kindOfCode k).getD .off = .derived) : k = 3 := by
  unfold kindOfCode at h
  split at h <;> simp_all

/-- DOM_CONFIG with operands that its checks pass. -/
theorem State.treeOk_domConfig {s : State} {n kind parent owner : Nat} (hs : s.treeOk) (hn : n ≠ 0) (hp : kind = 3 → parent < n) :
    (s.domConfig n kind parent owner).treeOk := by
  unfold State.domConfig
  dsimp only
  split
  · split
    · exact hs
    · exact State.treeOk_setDom (State.treeOk_of_tree State.cancelDomain_tree hs) hn nofun
  · refine State.treeOk_setDom (State.treeOk_of_tree (State.tree_of_ite State.cancelDomain_tree rfl) hs) hn fun hk => ?_
    rw [configured_parent]
    exact hp (kindOfCode_derived (configured_kind.symm.trans hk))

theorem State.firstFail_none {l : List (Bool × Status)} (h : firstFail l = none) : ∀ x ∈ l, x.1 = false := by
  induction l with
  | nil => nofun
  | cons y l ih =>
    obtain ⟨b, st⟩ := y
    cases b with
    | true => cases h
    | false => exact List.forall_mem_cons.mpr ⟨rfl, ih h⟩

/-- A command keeps the tree in order where its effect does once its checks have passed. -/
theorem State.treeOk_runCmd {s eff : State} {c op l r} (hs : s.treeOk) (h : (∀ x ∈ l, x.1 = false) → eff.treeOk) :
    (s.runCmd c op l eff r).treeOk := by
  unfold State.runCmd
  split
  · exact hs
  split
  · exact State.treeOk_of_tree (by simp) hs
  split
  · exact State.treeOk_of_tree (by simp) hs
  · next hc => exact State.treeOk_of_tree (by simp) (h (State.firstFail_none hc))

theorem execDomConfig_treeOk {c dom kind parent owner} {s t : State} (hs : s.treeOk)
    (h : execDomConfig c dom kind parent owner s = .next t) : t.treeOk := by
  cases h
  refine State.treeOk_runCmd hs fun hl => ?_
  simp only [List.mem_cons, List.not_mem_nil, or_false, forall_eq_or_imp, forall_eq, Bool.or_eq_false_iff, Bool.and_eq_false_imp,
    beq_iff_eq, beq_eq_false_iff_ne, decide_eq_false_iff_not, Nat.not_le] at hl
  obtain ⟨-, ⟨⟨⟨hdom, -⟩, -⟩, -⟩, -, hparent, -⟩ := hl
  exact State.treeOk_domConfig hs hdom hparent

/-- The rows that reset the chip leave TSE as it was or at its reset value. -/
theorem treeOk_of_resets {s t : State} (hs : s.treeOk) (h : t.tse = s.tse ∨ t.tse = State.reset.tse) : t.treeOk :=
  h.elim (fun h => State.treeOk_of_tree (congrArg Tse.tree h) hs) State.treeOk_of_reset

theorem execWarmReset_tse {s t : State} (h : execWarmReset s = .next t) : t.tse = s.tse ∨ t.tse = State.reset.tse := by
  cases h
  split
  · exact .inr State.warmReset_tse
  · exact .inl rfl

theorem execChipResetReaction_tse {s t : State} (h : execChipResetReaction s = .next t) :
    t.tse = s.tse ∨ t.tse = State.reset.tse := by
  cases h
  split
  · exact .inl rfl
  · exact .inl (by simp)
  · exact .inr State.warmReset_tse

theorem execIrcFallbackTimeout_tse {s t : State} (h : execIrcFallbackTimeout s = .next t) :
    t.tse = s.tse ∨ t.tse = State.reset.tse := by
  cases h
  split
  · exact .inl rfl
  split
  · exact .inl rfl
  split
  · exact .inr State.warmReset_tse
  · exact .inl rfl

/-- Every command keeps the tree in order: DOM_CONFIG by its checks, the chip resets by the reset value, every other row because it
leaves the tree as it is. -/
theorem exec_treeOk {i : Instr} {s t : State} (hs : s.treeOk) (h : exec i s = .next t) : t.treeOk := by
  cases i with
  | domConfig => exact execDomConfig_treeOk hs h
  | coldReset => exact treeOk_of_resets hs (.inr (by cases h; exact State.chipReset_tse))
  | warmReset => exact treeOk_of_resets hs (execWarmReset_tse h)
  | chipResetReaction => exact treeOk_of_resets hs (execChipResetReaction_tse h)
  | ircFallbackTimeout => exact treeOk_of_resets hs (execIrcFallbackTimeout_tse h)
  | _ => exact State.treeOk_of_tree ((by simp : KeepsTree s (exec _ s)) t h) hs

/-- Settles O60: a step runs one command, and every command keeps the tree in order (`exec_treeOk`). -/
theorem stepsKeepTheDomainTree : Obligations.StepsKeepTheDomainTree := by
  intro s t href hlow h
  have hs : s.treeOk := ⟨href, hlow⟩
  unfold step at h
  split at h
  · cases h
    exact hs
  · next i rest _ =>
    exact exec_treeOk (s := { s with pending := rest }) hs h

end Sys2Proof.Machine
end

section
/-! PROOF. What DOM_CONFIG and DOM_SLEW refuse, and the sum that a bound is (R55, R65, R79–R81). -/
namespace Sys2Proof.Machine

/-! ### How a command's checks are judged -/

theorem State.admits_iff (s : State) (op : Nat) : s.admits op = true ↔ s.served = true ∧ s.legal op = true := by
  simp [State.admits]

theorem State.admitsOwner_iff (s : State) (c : Caller) (op : Nat) :
    s.admitsOwner c op = true ↔ s.admits op = true ∧ s.cOwner c = true := by
  simp [State.admitsOwner]

/-- A command that is admitted and whose checks all pass has its effect and completes with OK. -/
theorem State.runCmd_ok_of_admits {s : State} {op : Nat} (ha : s.admits op = true) (eff : State) (c : Caller)
    {l : List (Bool × Status)} (hf : firstFail l = none) (r : List Byte) :
    s.runCmd c op l eff r = eff.complete c op .ok r := by
  obtain ⟨hs, hl⟩ := (s.admits_iff op).1 ha
  exact s.runCmd_ok eff c op l r hs hl hf

/-- A command that is admitted and fails a check completes with that check's status. -/
theorem State.runCmd_fail_of_admits {s : State} {op : Nat} (ha : s.admits op = true) (eff : State) (c : Caller)
    {l : List (Bool × Status)} {st : Status} (hf : firstFail l = some st) (r : List Byte) :
    s.runCmd c op l eff r = s.complete c op st := by
  obtain ⟨hs, hl⟩ := (s.admits_iff op).1 ha
  exact s.runCmd_fail eff c op l r st hs hl hf

theorem firstFail_cons_pass {b : Bool} (h : b = false) (st : Status) (l : List (Bool × Status)) :
    firstFail ((b, st) :: l) = firstFail l := by simp [firstFail, h]

theorem firstFail_cons_fail {b : Bool} (h : b = true) (st : Status) (l : List (Bool × Status)) :
    firstFail ((b, st) :: l) = some st := by simp [firstFail, h]

/-- Checks that all pass, whatever status each would give. -/
theorem firstFail_eq_none {l : List (Bool × Status)} (h : ∀ x ∈ l, x.1 = false) : firstFail l = none := by
  induction l with
  | nil => rfl
  | cons x l ih =>
    rw [firstFail_cons_pass (h x (by simp))]
    exact ih fun y hy => h y (List.mem_cons_of_mem _ hy)

/-! ### A sum of bounds (R81) -/

theorem boundSum_eq_sum (l : List Nat) :
    boundSum l = if (∃ x ∈ l, x = Config.unb) ∨ 2 ^ 64 - 2 < l.sum then Config.unb else l.sum := by
  simp [boundSum, ← List.sum_eq_foldl]

end Sys2Proof.Machine

open Sys2Proof Sys2Proof.Machine

/-- Settles O6: the checks before the parent's give BAD_ARG too, or pass. -/
theorem derivedParentIsLower : Obligations.DerivedParentIsLower := by
  intro s c d parent owner ha hp
  obtain ⟨hadm, hown⟩ := (s.admitsOwner_iff c 0x10).1 ha
  rw [exec_domConfig, execDomConfig, State.runCmd_fail_of_admits hadm _ c (st := .badArg) ?_]
  rw [notOwner, firstFail_cons_pass (by simp [hown])]
  by_cases hr : (d == 0 || decide (32 ≤ d) || decide (8 ≤ owner) || decide (32 ≤ parent)) = true
  · exact firstFail_cons_fail hr _ _
  · rw [firstFail_cons_pass (by simpa using hr), firstFail_cons_pass (by decide), firstFail_cons_fail (by simp [hp])]

/-- Settles O7: past the partition's check both that remain give BAD_ARG, the second because of the rate. -/
theorem slewRateIsLimited : Obligations.SlewRateIsLimited := by
  intro s c d ticks unc slewMax h1 h32 ht hu hadm hpart hres hst hrate
  rw [exec_domSlew, execDomSlew, State.runCmd_fail_of_admits hadm _ c (st := .badArg) ?_]
  have hrate' : decide (2 ^ 47 - 1 < slewMax + (s.dom d).foff.natAbs) = true := by simpa using hrate
  simp only [ofPart, List.cons_append, List.nil_append]
  rw [firstFail_cons_pass (by simp [ht]; omega), firstFail_cons_pass (by simp [hst]), firstFail_cons_pass hres,
    firstFail_cons_pass (by simp [hpart])]
  by_cases hm : s.ownerMoves d = true
  · rw [firstFail_cons_pass (by simp [hm]), firstFail_cons_fail hrate']
  · exact firstFail_cons_fail (by simpa using hm) _ _

/-- Settles O5, by the kind of the domain and the definition of a sum of bounds. -/
theorem boundFollowsItsTerms : Obligations.BoundFollowsItsTerms := by
  refine ⟨fun d p h => ?_, fun d p hu hl hs => ⟨fun hk hh => ?_, fun hk hh => ?_, fun hk => ?_⟩, fun l h => ?_, fun l h hs => ?_⟩
  · obtain h | h | h | h | h := h <;> simp [boundOf, h]
  · obtain hk | hk := hk <;> simp [boundOf, hu, hl, hs, hk, hh]
  · obtain hk | hk := hk <;> simp [boundOf, hu, hl, hs, hk, hh]
  · simp [boundOf, hu, hl, hs, hk]
  · rw [boundSum_eq_sum, if_pos h]
  · rw [boundSum_eq_sum, if_neg]
    rintro (⟨x, hx, e⟩ | hlt)
    · exact h x hx e
    · omega
end

section
/-! PROOF. The domain commands complete: what DOM_CONFIG, DOM_SEED, DOM_START, DOM_STOP, DOM_STEP and DOM_SLEW leave of the
domain (R54, R57, R60, R61, R64, R67). -/
namespace Sys2Proof.Machine

/-! ### A domain's record and value after the operations of TSE -/

theorem State.dom_of_tse {s t : State} (h : s.tse = t.tse) (n : Nat) : s.dom n = t.dom n := by rw [State.dom, State.dom, h]

theorem domUAux_of_tse {s t : State} (h : s.tse = t.tse) (f n : Nat) : domUAux s f n = domUAux t f n := by
  induction f generalizing n with
  | zero => simp [domUAux, State.dom_of_tse h]
  | succ f ih => simp [domUAux, State.dom_of_tse h, ih]

theorem State.domU_of_tse {s t : State} (h : s.tse = t.tse) (n : Nat) : s.domU n = t.domU n := domUAux_of_tse h 31 n

/-- A domain of its own time: its value is its accumulator. -/
theorem State.domU_of_not_derived {s : State} {n : Nat} (h : (s.dom n).kind ≠ .derived) : s.domU n = (s.dom n).acc := by
  simp [State.domU, domUAux, h]

theorem ticksOfU_mul (t : Int) : ticksOfU (t * Int.ofNat Config.uPerTick) = t :=
  Int.mul_ediv_cancel t (by decide)

@[simp] theorem State.refresh_dom (s : State) (k n : Nat) : (s.refresh k).dom n = s.dom n := State.dom_of_tse (by simp) n

@[simp] theorem State.cutWindows_domU (s : State) (m n : Nat) : (s.cutWindows m).domU n = s.domU n := State.domU_of_tse (by simp) n

@[simp] theorem State.cutWindows_dom (s : State) (m n : Nat) : (s.cutWindows m).dom n = s.dom n := State.dom_of_tse (by simp) n

@[simp] theorem State.markStepped_doms (s : State) (n : Nat) : (s.markStepped n).tse.doms = s.tse.doms := rfl

/-- The record of a domain is its caller's business: what follows from a move reaches windows, pages and alarms. -/
@[simp] theorem State.afterMove_dom (s : State) (n : Nat) (diff : Int) (code issuer m : Nat) :
    (s.afterMove n diff code issuer).dom m = s.dom m := by
  have h : (s.afterMove n diff code issuer).tse.doms = s.tse.doms := by
    simp [State.afterMove, apply_ite Tse.doms]
  rw [State.dom, State.dom, h]

theorem State.stepDom_dom (s : State) (n : Nat) (ticks : Int) (issuer : Nat) :
    ((s.stepDom n ticks issuer).dom n).acc = (s.dom n).acc + ticks * Int.ofNat Config.uPerTick := by
  simp [State.stepDom, State.dom_setDom_same]

/-- What DOM_SEED leaves of the domain (R60, R61). -/
theorem State.domSeed_dom (s : State) (n t bound part : Nat) :
    let d := (s.domSeed n t bound part).dom n
    d.unseeded = false ∧ d.bound = Config.unb ∧ d.kind = (s.dom n).kind ∧
      ((s.dom n).kind ≠ .derived → d.acc = Int.ofNat t * Int.ofNat Config.uPerTick) ∧
      ((s.dom n).kind = .steered → d.bcSrc = bound) ∧
      d.prov = if (s.dom n).kind = .derived then [{ kind := 5, id := (s.dom n).parent }] else [{ kind := 8, id := part }] := by
  simp only [State.domSeed, State.setTime, State.dom_setDom_same, State.afterMove_dom]
  refine ⟨trivial, trivial, trivial, fun h => ?_, fun h => if_pos h, trivial⟩
  simp [h]

/-- What a stop leaves of the domain (R57): its value, UNBOUNDED, with a FREERUN link at its head. -/
theorem State.freezeDom_dom (s : State) (n : Nat) (st : DomState) :
    let d := (s.freezeDom n st).dom n
    d.st = st ∧ d.acc = s.domU n ∧ d.bound = Config.unb ∧ d.lost = true ∧ d.prov = { kind := 7, id := 0 } :: (s.dom n).prov := by
  simp [State.freezeDom, State.dom_setDom_same, pushLink]

theorem State.resumeDom_st (s : State) (n : Nat) : ((s.resumeDom n).dom n).st = .running := by
  unfold State.resumeDom
  by_cases h : (s.dom n).kind = .derived <;> simp [h, State.dom_setDom_same]

/-- What DOM_CONFIG leaves of a domain that was OFF (R57). -/
theorem State.domConfig_of_off {s : State} {n kind parent owner : Nat} {k : DomKind} (hk : kindOfCode kind = some k)
    (hoff : k ≠ .off) (hst : (s.dom n).st = .off) :
    (s.domConfig n kind parent owner).dom n = configured (s.dom n) k parent owner := by
  cases k with
  | off => exact absurd rfl hoff
  | ref | ring | derived | steered | free => simp [State.domConfig, hk, hst, State.dom_setDom_same]

/-! ### The checks of the domain commands -/

variable {s : State} {c : Caller} {d : Nat}

theorem domFree_pass (h : (s.dom d).st = .off ∨ s.resetting (s.dom d).owner = false) : (domFree s d).1 = false := by
  obtain h | h := h <;> simp [domFree, h]

theorem notOwner_pass (h : s.cOwner c = true) : (notOwner s c).1 = false := by simp [notOwner, h]

theorem exec_domConfig_ok {kind parent owner : Nat} {k : DomKind} (h1 : 1 ≤ d) (h32 : d < 32) (hk : kindOfCode kind = some k)
    (href : k ≠ .ref) (hp : parent < 32) (hlow : k = .derived → parent < d) (ho : owner < 8)
    (ha : s.admitsOwner c 0x10 = true) (hst : (s.dom d).st = .off) :
    exec (.domConfig c d kind parent owner) s = .next ((s.domConfig d kind parent owner).complete c 0x10 .ok) := by
  obtain ⟨hadm, hown⟩ := (s.admitsOwner_iff c 0x10).1 ha
  have hk1 : kind ≠ 1 := fun e => href (by rw [e] at hk; exact (Option.some.inj hk).symm)
  have hk3 : kind = 3 → parent < d := fun e => hlow (by rw [e] at hk; exact (Option.some.inj hk).symm)
  rw [exec_domConfig, execDomConfig, State.runCmd_ok_of_admits hadm _ c (firstFail_eq_none ?_)]
  have hfree := domFree_pass (s := s) (d := d) (.inl hst)
  simp only [List.forall_mem_cons, List.not_mem_nil, false_imp_iff, implies_true, and_true]
  refine ⟨notOwner_pass hown, ?_, ?_, ?_, ?_, hfree⟩
  · simp; omega
  · simp [hk, hk1]
  · simpa using hk3
  · simp [hst]

theorem exec_domSeed_ok {t : TimeVal} {bound : Nat} (h1 : 1 ≤ d) (h32 : d < 32) (ht : tvOk t = true) (hb : bound < 2 ^ 64)
    (ha : s.admitsOwner c 0x11 = true) (hst : (s.dom d).st ≠ .off) (hr : s.resetting (s.dom d).owner = false) :
    exec (.domSeed c d t bound) s = .next ((s.domSeed d (tvTicks t) bound (s.cPart c)).complete c 0x11 .ok) := by
  obtain ⟨hadm, hown⟩ := (s.admitsOwner_iff c 0x11).1 ha
  rw [exec_domSeed, execDomSeed, State.runCmd_ok_of_admits hadm _ c (firstFail_eq_none ?_)]
  simp only [List.forall_mem_cons, List.not_mem_nil, false_imp_iff, implies_true, and_true]
  refine ⟨notOwner_pass hown, ?_, ?_, domFree_pass (.inr hr)⟩
  · simp [ht]; omega
  · simp [hst]

/-- What DOM_START and DOM_STOP check of a domain that is not OFF. -/
theorem exec_domStart_ok (h1 : 1 ≤ d) (h32 : d < 32) (ha : s.admitsOwner c 0x12 = true) (hst : (s.dom d).st = .stopped)
    (hr : s.resetting (s.dom d).owner = false) :
    exec (.domStart c d) s = .next ((if s.pwr.tseProven then s.resumeDom d
      else (s.setDom d { s.dom d with st := .held }).refresh 4).complete c 0x12 .ok) := by
  obtain ⟨hadm, hown⟩ := (s.admitsOwner_iff c 0x12).1 ha
  rw [exec_domStart, execDomStart, if_pos hst, State.runCmd_ok_of_admits hadm _ c (firstFail_eq_none ?_)]
  simp only [List.forall_mem_cons, List.not_mem_nil, false_imp_iff, implies_true, and_true]
  refine ⟨notOwner_pass hown, ?_, ?_, ?_, domFree_pass (.inr hr)⟩
  · simp; omega
  · simp [hst]
  · simp [hst]

theorem exec_domStop_ok (h1 : 1 ≤ d) (h32 : d < 32) (ha : s.admitsOwner c 0x13 = true)
    (hst : (s.dom d).st = .running ∨ (s.dom d).st = .held) (hr : s.resetting (s.dom d).owner = false) :
    exec (.domStop c d) s = .next (((s.freezeDom d .stopped).refresh 4).complete c 0x13 .ok) := by
  obtain ⟨hadm, hown⟩ := (s.admitsOwner_iff c 0x13).1 ha
  have hstop : (s.dom d).st ≠ .stopped := by rintro e; simp [e] at hst
  have hoff : (s.dom d).st ≠ .off := by rintro e; simp [e] at hst
  rw [exec_domStop, execDomStop, if_neg hstop, State.runCmd_ok_of_admits hadm _ c (firstFail_eq_none ?_)]
  simp only [List.forall_mem_cons, List.not_mem_nil, false_imp_iff, implies_true, and_true]
  refine ⟨notOwner_pass hown, ?_, ?_, domFree_pass (.inr hr)⟩
  · simp; omega
  · simp [hoff]

/-- A move of a domain that is its owner's to move. -/
theorem ownerMoves_iff : s.ownerMoves d = true ↔ (s.dom d).kind = .derived ∨ (s.dom d).kind = .steered := by
  simp [State.ownerMoves]

theorem ownerMoves_false (h1 : (s.dom d).kind ≠ .derived) (h2 : (s.dom d).kind ≠ .steered) : s.ownerMoves d = false := by
  simp [State.ownerMoves, h1, h2]

/-- DOM_STEP comes down to whether the owner moves the domain, where its other checks pass (R54). -/
theorem exec_domStep_judged {ticks : Int} (h1 : 1 ≤ d) (h32 : d < 32) (ht : fits64 ticks = true) (ha : s.admits 0x14 = true)
    (hp : s.cPart c = (s.dom d).owner) (hr : s.resetting (s.dom d).owner = false) (hst : (s.dom d).st ≠ .off) :
    exec (.domStep c d ticks) s = .next (if s.ownerMoves d then (s.stepDom d ticks (s.cPart c)).complete c 0x14 .ok
      else s.complete c 0x14 .badArg) := by
  have hf : firstFail ([(d == 0 || decide (32 ≤ d) || !fits64 ticks, Status.badArg), ((s.dom d).st == DomState.off, Status.badArg)] ++
      ofPart s c (s.dom d).owner ++ [(!s.ownerMoves d, Status.badArg)]) = if s.ownerMoves d then none else some .badArg := by
    simp only [ofPart, List.cons_append, List.nil_append]
    rw [firstFail_cons_pass (by simp [ht]; omega), firstFail_cons_pass (by simp [hst]), firstFail_cons_pass hr,
      firstFail_cons_pass (by simp [hp])]
    cases s.ownerMoves d <;> rfl
  rw [exec_domStep, execDomStep]
  by_cases hm : s.ownerMoves d = true
  · rw [if_pos hm, State.runCmd_ok_of_admits ha _ c (hf.trans (if_pos hm))]
  · rw [if_neg hm, State.runCmd_fail_of_admits ha _ c (hf.trans (if_neg hm))]

/-- DOM_SLEW comes down to whether the owner moves the domain, where its other checks pass (R54, R65). -/
theorem exec_domSlew_judged {ticks : Int} {unc slewMax : Nat} (h1 : 1 ≤ d) (h32 : d < 32) (ht : fits64 ticks = true)
    (hu : unc < 2 ^ 64) (ha : s.admits 0x15 = true) (hp : s.cPart c = (s.dom d).owner)
    (hr : s.resetting (s.dom d).owner = false) (hst : (s.dom d).st ≠ .off)
    (hrate : slewMax + (s.dom d).foff.natAbs ≤ 2 ^ 47 - 1) :
    exec (.domSlew c d ticks unc slewMax) s = .next (if s.ownerMoves d then
      (s.setDom d (bookSlew (s.dom d) ticks unc slewMax)).complete c 0x15 .ok else s.complete c 0x15 .badArg) := by
  have hrate' : decide (2 ^ 47 - 1 < slewMax + (s.dom d).foff.natAbs) = false := by simpa using hrate
  have hf : firstFail ([(d == 0 || decide (32 ≤ d) || !fits64 ticks || decide (2 ^ 64 ≤ unc), Status.badArg),
      ((s.dom d).st == DomState.off, Status.badArg)] ++ ofPart s c (s.dom d).owner ++
      [(!s.ownerMoves d, Status.badArg), (decide (2 ^ 47 - 1 < slewMax + (s.dom d).foff.natAbs), Status.badArg)]) =
      if s.ownerMoves d then none else some .badArg := by
    simp only [ofPart, List.cons_append, List.nil_append]
    rw [firstFail_cons_pass (by simp [ht]; omega), firstFail_cons_pass (by simp [hst]), firstFail_cons_pass hr,
      firstFail_cons_pass (by simp [hp]), hrate']
    cases s.ownerMoves d <;> rfl
  rw [exec_domSlew, execDomSlew]
  by_cases hm : s.ownerMoves d = true
  · rw [if_pos hm, State.runCmd_ok_of_admits ha _ c (hf.trans (if_pos hm))]
  · rw [if_neg hm, State.runCmd_fail_of_admits ha _ c (hf.trans (if_neg hm))]

end Sys2Proof.Machine

open Sys2Proof Sys2Proof.Machine

/-- Settles O1, command by command: its checks pass, and what its effect leaves of the domain. -/
theorem domainCommandsComplete : Obligations.DomainCommandsComplete := by
  intro s c d h1 h32
  refine ⟨?config, ?seed, ?start, ?stop, ?step, ?slew⟩
  case config =>
    intro kind parent owner k hk hoff href hp hlow ho ha hst
    refine ⟨_, exec_domConfig_ok h1 h32 hk href hp hlow ho ha hst, ?_⟩
    simp [State.domConfig_of_off hk hoff hst, configured, hst]
  case seed =>
    intro t bound ht hb ha hst hr
    obtain ⟨hu, hbd, hkind, hacc, hsrc, hprov⟩ := s.domSeed_dom d (tvTicks t) bound (s.cPart c)
    refine ⟨_, exec_domSeed_ok h1 h32 ht hb ha hst hr, hu, hbd, fun hk => ?_, hsrc, hprov⟩
    rw [State.ticks, State.domU_of_not_derived (hkind ▸ hk), hacc hk, ticksOfU_mul]
  case start =>
    intro ha hst hr
    refine ⟨_, exec_domStart_ok h1 h32 ha hst hr, ?_⟩
    cases s.pwr.tseProven <;> simp [State.resumeDom_st, State.dom_setDom_same]
  case stop =>
    intro ha hst hr
    refine ⟨_, exec_domStop_ok h1 h32 ha hst hr, ?_⟩
    rw [State.refresh_dom]
    exact s.freezeDom_dom d .stopped
  case step =>
    intro ticks ht hadm hp hr hst
    have hexec := exec_domStep_judged h1 h32 ht hadm hp hr hst
    refine ⟨fun hk => ?_, fun hk hk' => ?_⟩
    · exact ⟨_, hexec.trans (by rw [if_pos (ownerMoves_iff.2 hk)]), s.stepDom_dom d ticks (s.cPart c)⟩
    · rw [hexec, if_neg (by simp [ownerMoves_false hk hk'])]
  case slew =>
    intro ticks unc slewMax ht hu hadm hp hr hst hrate
    have hexec := exec_domSlew_judged h1 h32 ht hu hadm hp hr hst hrate
    refine ⟨fun hk => ?_, fun hk hk' => ?_⟩
    · refine ⟨_, hexec.trans (by rw [if_pos (ownerMoves_iff.2 hk)]), ?_⟩
      simp [State.dom_setDom_same, bookSlew]
    · rw [hexec, if_neg (by simp [ownerMoves_false hk hk'])]
end

section
/-! PROOF. The leap and alarm commands complete: what LEAP_SET, ALM_ARM and ALM_CANCEL leave (R75, R76, R88–R95). -/
namespace Sys2Proof.Machine

/-! ### The alarm slots -/

theorem State.alarm_of_tse {s t : State} (h : s.tse = t.tse) (k : Nat) : s.alarm k = t.alarm k := by rw [State.alarm, State.alarm, h]

theorem State.alarm_setAlarm_ne (s : State) {k m : Nat} (a : Alarm) (h : m ≠ k) : (s.setAlarm k a).alarm m = s.alarm m :=
  tabGet_tabSet_ne _ _ _ h

@[simp] theorem State.put_alarm (s : State) (f : Field) (v i j k : Nat) : (s.put f v i j).alarm k = s.alarm k :=
  State.alarm_of_tse (by simp) k

@[simp] theorem State.reopenEscrow_alarm (s : State) (a : Alarm) (k : Nat) : (s.reopenEscrow a).alarm k = s.alarm k :=
  State.alarm_of_tse (by simp) k

theorem State.isPast_of_tse {s t : State} (h : s.tse = t.tse) (dom inst : Nat) : s.isPast dom inst = t.isPast dom inst := by
  rw [State.isPast, State.isPast, State.ticks, State.ticks, State.domU_of_tse h]

section Arm
variable (s : State) (k part dom inst : Nat) (kind : AlarmKind) (target period : Nat) (fire late : Bool)

/-- What an arming leaves in its slot, however the slot was before. -/
theorem State.armSlot_alarm_same :
    let a := (s.armSlot k part dom inst kind target period fire late).alarm k
    a.st = .armed ∧ a.part = part ∧ a.dom = dom ∧ a.kind = kind ∧ a.inst = inst ∧ a.target = target ∧ a.period = period ∧
      a.lateArm = late := by
  have h : (s.armSlot k part dom inst kind target period fire late).alarm k =
      { st := .armed, part := part, dom := dom, inst := inst, kind := kind, target := target, period := period,
        fire := fire, seq := s.tse.seq, lateArm := late, pinned := (s.alarm k).pinned, armEnd := s.isDue k } := by
    simp only [State.armSlot, State.alarm, State.setAlarm, tabGet_tabSet_same]
  rw [h]
  exact ⟨rfl, rfl, rfl, rfl, rfl, rfl, rfl, rfl⟩

theorem State.armSlot_alarm_ne {m : Nat} (h : m ≠ k) :
    (s.armSlot k part dom inst kind target period fire late).alarm m = s.alarm m := by
  simp only [State.armSlot, State.alarm, State.setAlarm, tabGet_tabSet_ne _ _ _ h]

@[simp] theorem State.armSlot_regs : (s.armSlot k part dom inst kind target period fire late).regs = s.regs := rfl

end Arm

/-- The slot of an armed alarm that is not due is free after a cancel (R95). -/
theorem State.cancelSlot_alarm_st {s : State} {k : Nat} (h : (s.alarm k).st = .armed) (hd : s.isDue k = false) :
    ((s.cancelSlot k).alarm k).st = .cancelled := by
  rw [State.cancelSlot, if_pos ⟨h, by simp [hd]⟩, State.alarm_setAlarm_same]

/-! ### Leap seconds -/

theorem regAddr_tseUtc_ne : regAddr .tseUtc 0 0 ≠ regAddr .tseLeapAt 0 0 := by decide

/-- What LEAP_SET leaves of a pending event: its registers, AS1 at the event, and for a positive event AS0 a second before. -/
theorem State.leapArm_pending {s : State} {type leapAt : Nat} (ht : type = 1 ∨ type = 2) (ha : leapAt < 2 ^ 48) :
    let u := s.leapArm type leapAt
    u.get F.tseUtc_LEAP_TYPE = type ∧ u.get F.tseLeapAt_LEAP_AT = leapAt ∧ (u.alarm 1).st = .armed ∧
      (u.alarm 1).inst = leapAt * Config.secTicks ∧
      (type = 1 → (u.alarm 0).st = .armed ∧ (u.alarm 0).inst = (leapAt - 1) * Config.secTicks) := by
  intro u
  have hregs : u.regs = ((s.leapClear.put F.tseUtc_LEAP_TYPE type).put F.tseLeapAt_LEAP_AT leapAt).regs := by
    simp only [u, State.leapArm]
    split <;> rfl
  refine ⟨?leapType, ?leapAt, ?slots⟩
  case leapType =>
    rw [State.get_congr hregs, State.get_put_ne _ _ _ _ _ _ _ _ regAddr_tseUtc_ne, State.get_put_same _ _ _ _ _ (by decide) (by decide)]
    obtain rfl | rfl := ht <;> rfl
  case leapAt =>
    rw [State.get_congr hregs, State.get_put_same _ _ _ _ _ (by decide) (by decide)]
    exact Nat.mod_eq_of_lt ha
  case slots =>
    simp only [u, State.leapArm]
    obtain ⟨hst, -, -, -, hinst, -⟩ := State.armSlot_alarm_same _ 1 0 0 (leapAt * Config.secTicks) .leap 1 0 true _
    refine ⟨hst, hinst, fun h1 => ?_⟩
    rw [if_pos h1, State.armSlot_alarm_ne _ _ _ _ _ _ _ _ _ _ (by decide)]
    obtain ⟨hst0, -, -, -, hinst0, -⟩ := State.armSlot_alarm_same _ 0 0 0 ((leapAt - 1) * Config.secTicks) .leap 0 0 true _
    exact ⟨hst0, hinst0⟩

/-! ### The commands -/

variable {s : State} {c : Caller}

theorem exec_leapSet_ok {type leapAt : Nat} (ha : s.admitsOwner c 0x16 = true) (ht : type = 1 ∨ type = 2) (hlt : leapAt < 2 ^ 48)
    (hday : (Int.ofNat leapAt - s.newUtcOffset type) % 86400 = 0) (hl : s.leapLate = false) :
    exec (.leapSet c type leapAt) s = .next ((s.leapArm type leapAt).complete c 0x16 .ok) := by
  obtain ⟨hadm, hown⟩ := (s.admitsOwner_iff c 0x16).1 ha
  rw [exec_leapSet, execLeapSet, if_neg (by omega), State.runCmd_ok_of_admits hadm _ c (firstFail_eq_none ?_)]
  simp only [List.forall_mem_cons, List.not_mem_nil, false_imp_iff, implies_true, and_true]
  refine ⟨notOwner_pass hown, ?_, ?_, hl⟩
  · simp only [decide_eq_false_iff_not]; omega
  · simp only [hday]; simp; omega

/-- The checks of an arming pass where the statement's conditions hold (R93, R103, R817). -/
theorem armChecks_pass {p dom inst kind target period policy : Nat} {k : AlarmKind} (hk : armKind kind = some k) (hd : dom < 32)
    (hper : period < 2 ^ 64) (hpol : policy < 2) (htgt : s.targetOk k target = true) (hgrid : period = 0 ∨ 26214400 ≤ period)
    (hlead : k = .evoEdge → evoLead ≤ inst) (hst : (s.dom dom).st ≠ .off) (hown : dom = 0 ∨ (s.dom dom).owner = p)
    (hden : s.targetDenied k target p = false) :
    ∀ x ∈ s.armChecks p dom inst kind target period policy, x.1 = false := by
  simp only [State.armChecks, hk, Option.getD_some, List.forall_mem_cons, List.not_mem_nil, false_imp_iff, implies_true, and_true]
  refine ⟨?_, ?_, ?_, ?_, ?_, hden⟩
  · simp; omega
  · simp [htgt]; omega
  · simpa using hlead
  · simp [hst]
  · simpa [or_iff_not_imp_left] using hown

/-- The checks of a slot pass where the partition holds it, or it is free within its quota (R35, R818). -/
theorem slotChecks_pass {p slot : Nat} (h8 : 8 ≤ slot) (h4096 : slot < 4096)
    (h : if s.slotHeld slot then s.slotPart slot = p else s.quotaLeft p = true) :
    ∀ x ∈ s.slotChecks p slot, x.1 = false := by
  simp only [State.slotChecks, List.forall_mem_cons, List.not_mem_nil, false_imp_iff, implies_true, and_true]
  cases hheld : s.slotHeld slot <;> simp [hheld] at h ⊢ <;> simp [h] <;> omega

theorem armLate_pass {dom inst kind policy : Nat} {k : AlarmKind} (hk : armKind kind = some k)
    (h : armFires k policy = true ∨ s.isPast dom (storedInst k inst) = false) : (s.armLate dom inst kind policy).1 = false := by
  simp only [State.armLate, hk, Option.getD_some]
  obtain h | h := h <;> simp [h]

/-- What an arming that has passed its checks leaves in its slot. -/
theorem State.armAlarm_slot {slot p dom inst kind target period policy : Nat} {k : AlarmKind} (hk : armKind kind = some k) :
    let a := (s.armAlarm slot p dom inst kind target period policy).alarm slot
    a.st = .armed ∧ a.part = p ∧ a.dom = dom ∧ a.kind = k ∧ a.inst = storedInst k inst ∧ a.target = target ∧ a.period = period ∧
      a.lateArm = s.isPast dom (storedInst k inst) := by
  have hpast : (if (s.alarm slot).st = .armed ∧ !s.isDue slot then s.reopenEscrow (s.alarm slot) else s).isPast dom
      (storedInst k inst) = s.isPast dom (storedInst k inst) := State.isPast_of_tse (by simp) _ _
  simp only [State.armAlarm, hk, Option.getD_some, hpast]
  exact State.armSlot_alarm_same _ _ _ _ _ _ _ _ _ _

theorem exec_almCancel_ok {slot : Nat} (ha : s.admits 0x19 = true) (h8 : 8 ≤ slot) (h4096 : slot < 4096)
    (hst : (s.alarm slot).st = .armed) (hp : (s.alarm slot).part = s.cPart c) (hl : s.cancelsLate (s.cPart c) slot = false) :
    exec (.almCancel c slot) s = .next
      ((((s.setAlarm slot { s.alarm slot with cancelLate := false }).cancelSlot slot).reopenEscrow (s.alarm slot)).complete
        c 0x19 .ok) := by
  have hpart : s.slotPart slot = s.cPart c := by rw [State.slotPart, if_neg (by omega), hp]
  rw [exec_almCancel, execAlmCancel, if_neg (by simp [hl]), State.runCmd_ok_of_admits ha _ c (firstFail_eq_none ?_)]
  simp only [List.forall_mem_cons, List.not_mem_nil, false_imp_iff, implies_true, and_true]
  refine ⟨?_, ?_, ?_, ?_⟩
  · simpa using h4096
  · simpa using h8
  · simp [hpart]
  · simp [hst]

end Sys2Proof.Machine

open Sys2Proof Sys2Proof.Machine

/-- Settles O2, command by command: its checks pass, and what its effect leaves of the slots. -/
theorem alarmCommandsComplete : Obligations.AlarmCommandsComplete := by
  refine ⟨?leap, ?arm, ?cancel⟩
  case leap =>
    intro s c type leapAt ha ht _ hlt hday hl
    exact ⟨_, exec_leapSet_ok ha ht hlt hday hl, State.leapArm_pending ht hlt⟩
  case arm =>
    intro s c slot dom t kind target period policy k ha hmode htv hk hd hper hpol htgt hgrid hlead hst hown hden h8 h4096 hslot hlate
    refine ⟨s.armAlarm slot (s.cPart c) dom (tvTicks t) kind target period policy, ?_, ?_⟩
    · rw [exec_almArm, execAlmArm, State.runRsh, if_neg (by simp [hmode]),
        State.runCmd_ok_of_admits ha _ c (firstFail_eq_none ?_)]
      simp only [List.forall_mem_append, List.forall_mem_singleton]
      exact ⟨⟨⟨by simp [htv], armChecks_pass hk hd hper hpol htgt hgrid hlead hst hown hden⟩, slotChecks_pass h8 h4096 hslot⟩,
        armLate_pass hk hlate⟩
    · exact State.armAlarm_slot hk
  case cancel =>
    intro s c slot ha h8 h4096 hst hp hdue hl
    refine ⟨_, exec_almCancel_ok ha h8 h4096 hst hp hl, ?_⟩
    rw [State.reopenEscrow_alarm]
    refine State.cancelSlot_alarm_st (by rw [State.alarm_setAlarm_same, hst]) ?_
    rw [← hdue, State.isDue, State.isDue, State.alarm_setAlarm_same]
    rfl
end

section
/-! RULES. A thread's instruction: what its issue leaves of the block, and what the reply does that an instruction waits for
(R330, R340, R355). -/
namespace Sys2Proof.Machine

/-! ### Flags -/

/-- Adding a power of two to a number whose bit there is clear changes no other bit. -/
theorem bit_add_two_pow {v n m : Nat} (h : v / 2 ^ n % 2 = 0) (hne : m ≠ n) : (v + 2 ^ n) / 2 ^ m % 2 = v / 2 ^ m % 2 := by
  obtain hlt | hlt := Nat.lt_or_gt_of_ne hne
  · obtain ⟨k, rfl⟩ := Nat.exists_eq_add_of_lt hlt
    rw [show 2 ^ (m + k + 1) = 2 ^ m * (2 ^ k * 2) by ring, Nat.add_mul_div_left _ _ (Nat.two_pow_pos m), Nat.add_mul_mod_self_right]
  · obtain ⟨k, rfl⟩ := Nat.exists_eq_add_of_lt hlt
    have hdiv : ∀ x : Nat, x / 2 ^ (n + k + 1) = x / 2 ^ n / 2 / 2 ^ k := fun x => by
      rw [Nat.div_div_eq_div_mul, Nat.div_div_eq_div_mul]; ring_nf
    rw [hdiv, hdiv, Nat.add_div_right _ (Nat.two_pow_pos n)]
    congr 2
    omega

theorem bitOf_withBit_ne {v n m : Nat} (hne : m ≠ n) : bitOf (withBit v n) m = bitOf v m := by
  unfold withBit
  split
  case isTrue => rfl
  case isFalse h =>
    simp only [bitOf, beq_iff_eq] at h
    rw [bitOf, bit_add_two_pow (by omega) hne, bitOf]

theorem bitOf_withoutBit_ne {v n m : Nat} (hne : m ≠ n) : bitOf (withoutBit v n) m = bitOf v m := by
  unfold withoutBit
  split
  case isFalse => rfl
  case isTrue h =>
    simp only [bitOf, beq_iff_eq] at h
    have hle : 2 ^ n ≤ v := by
      by_contra hlt
      rw [Nat.div_eq_of_lt (Nat.lt_of_not_le hlt)] at h
      omega
    have hclear : (v - 2 ^ n) / 2 ^ n % 2 = 0 := by
      have := Nat.sub_mul_div v (2 ^ n) 1
      rw [Nat.mul_one] at this
      omega
    rw [bitOf, bitOf, ← bit_add_two_pow hclear hne, Nat.sub_add_cancel hle]

theorem Flag.bit_inj {f g : Flag} : f.bit = g.bit → f = g := by cases f <;> cases g <;> decide

/-- A flag after one of the flags is set or clear. -/
theorem bitOf_flagTo (w : Nat) (f g : Flag) (b : Bool) : bitOf (flagTo w f b) g.bit = if g = f then b else bitOf w g.bit := by
  by_cases hg : g = f
  · subst hg
    cases b <;> simp [flagTo, bitOf_withBit, bitOf_withoutBit]
  · have hne : g.bit ≠ f.bit := fun h => hg (Flag.bit_inj h)
    cases b <;> simp [flagTo, bitOf_withBit_ne hne, bitOf_withoutBit_ne hne, hg]

/-- The low six bits of a FLAGS field hold every flag. -/
theorem bitOf_mod_flags (w : Nat) (f : Flag) : bitOf (w % 2 ^ 6) f.bit = bitOf w f.bit := by
  have h : f.bit < 6 := by cases f <;> decide
  simp only [bitOf, ← Nat.toNat_testBit]
  rw [Nat.testBit_mod_two_pow]
  simp [h]
/-! ### The issue -/

theorem State.thr_setThr_same (s : State) (t : Nat) (x : Thr) : (s.setThr t x).thr t = x := tabGet_tabSet_same _ _ _ _

theorem State.thr_setThr_ne (s : State) {t k : Nat} (x : Thr) (h : k ≠ t) : (s.setThr t x).thr k = s.thr k :=
  tabGet_tabSet_ne _ _ _ h

/-- A new record of a thread with the same time registers. -/
theorem State.tr_setThr (s : State) (t k : Nat) {x : Thr} (h : x.tr = (s.thr t).tr) : ((s.setThr t x).thr k).tr = (s.thr k).tr := by
  by_cases hk : k = t
  · subst hk; rw [State.thr_setThr_same, h]
  · rw [State.thr_setThr_ne _ _ hk]

/-- What an issue keeps: the threads that yielded no longer wait for it, and tally and samples count it. -/
theorem State.issued_keeps {β : Type} (f : State → β) (hthr : ∀ s k x, (x : Thr).tr = (s.thr k).tr → f (s.setThr k x) = f s)
    (hcount : ∀ s b l, f { s with sup := { s.sup with bumps := b }, dsq := { s.dsq with samples := l } } = f s) (s : State) (t : Nat) :
    f (s.issued t) = f s :=
  (foldl_keeps f _ (fun s k => hthr s k { s.thr k with yield := (s.thr k).yield.filter (· != t) } rfl) _ _).trans (hcount s _ _)

theorem State.eq_of_rest {s u : State} (h : ({ u with sup := {}, dsq := {} } : State) = { s with sup := {}, dsq := {} }) :
    u = { s with sup := u.sup, dsq := u.dsq } := by
  cases u; cases s; simpa using h

theorem State.issued_eq (s : State) (t : Nat) : s.issued t = { s with sup := (s.issued t).sup, dsq := (s.issued t).dsq } :=
  State.eq_of_rest (State.issued_keeps (fun s => { s with sup := {}, dsq := {} }) (fun _ _ _ _ => rfl) (fun _ _ _ => rfl) s t)

theorem State.issued_sup (s : State) (t : Nat) : { (s.issued t).sup with bumps := [] } = { s.sup with bumps := [] } :=
  State.issued_keeps (fun s => { s.sup with bumps := [] }) (fun _ _ _ _ => rfl) (fun _ _ _ => rfl) s t

theorem State.issued_tr (s : State) (t k : Nat) : ((s.issued t).thr k).tr = (s.thr k).tr :=
  State.issued_keeps (fun s => (s.thr k).tr) (fun s j _ h => s.tr_setThr j k h) (fun _ _ _ => rfl) s t

theorem OnlyThread.refl {s : State} {t : Nat} : OnlyThread s s t :=
  ⟨fun _ _ _ _ _ _ => rfl, fun _ _ _ => rfl, ⟨rfl, rfl, rfl⟩, ⟨rfl, rfl, rfl, rfl⟩,
    ⟨rfl, rfl, rfl, rfl, rfl, rfl, rfl, rfl, rfl, rfl, rfl, rfl, rfl⟩, rfl, ⟨rfl, rfl⟩⟩

section Issued
variable (s : State) (t : Nat)

@[simp] theorem State.issued_regs : (s.issued t).regs = s.regs := by rw [State.issued_eq]
@[simp] theorem State.issued_rd (r : RegId) (i j : Nat) : (s.issued t).rd r i j = s.rd r i j := State.rd_congr (s.issued_regs t) r i j
@[simp] theorem State.issued_get (f : Field) (i j : Nat) : (s.issued t).get f i j = s.get f i j := State.get_congr (s.issued_regs t) f i j
@[simp] theorem State.issued_getB (f : Field) (i j : Nat) : (s.issued t).getB f i j = s.getB f i j :=
  State.getB_congr (s.issued_regs t) f i j
@[simp] theorem State.issued_g (k r : Nat) : (s.issued t).g k r = s.g k r := by simp [State.g]
@[simp] theorem State.issued_treg (k n : Nat) : (s.issued t).treg k n = s.treg k n := by simp only [State.treg, State.issued_tr]
@[simp] theorem State.issued_thrPart (k : Nat) : (s.issued t).thrPart k = s.thrPart k := by simp [State.thrPart]
@[simp] theorem State.issued_pc (k : Nat) : (s.issued t).pc k = s.pc k := by simp [State.pc]
@[simp] theorem State.issued_flag (k : Nat) (f : Flag) : (s.issued t).flag k f = s.flag k f := by simp [State.flag]
@[simp] theorem State.issued_legal (op : Nat) : (s.issued t).legal op = s.legal op := by rw [State.issued_eq]; rfl
@[simp] theorem State.issued_dom (n : Nat) : (s.issued t).dom n = s.dom n := State.dom_of_tse (by simp) n
@[simp] theorem State.issued_alarm (k : Nat) : (s.issued t).alarm k = s.alarm k := State.alarm_of_tse (by simp) k
@[simp] theorem State.issued_ticks (n : Nat) : (s.issued t).ticks n = s.ticks n := by
  simp only [State.ticks, State.domU_of_tse (s.issued_tse (t := t))]
@[simp] theorem State.issued_isPast (n inst : Nat) : (s.issued t).isPast n inst = s.isPast n inst := State.isPast_of_tse (by simp) n inst
@[simp] theorem State.issued_staged : (s.issued t).dsq.staged = s.dsq.staged := 
  State.issued_keeps (fun s => s.dsq.staged) (fun _ _ _ _ => rfl) (fun _ _ _ => rfl) s t
@[simp] theorem State.issued_domMine (n : Nat) : (s.issued t).domMine t n = s.domMine t n := by simp [State.domMine]

/-- An issue alone: the thread's own record and the counts of issues may differ (R340, R682). -/
theorem OnlyThread.issued : OnlyThread s (s.issued t) t where
  regs r i j _ _ _ := s.issued_rd t r i j
  treg k n _ := s.issued_treg t k n
  mem := ⟨State.issued_keeps (fun s => s.dsq.dsram) (fun _ _ _ _ => rfl) (fun _ _ _ => rfl) s t,
    State.issued_keeps (fun s => s.dsq.isram) (fun _ _ _ _ => rfl) (fun _ _ _ => rfl) s t,
    State.issued_keeps (fun s => s.dsq.images) (fun _ _ _ _ => rfl) (fun _ _ _ => rfl) s t⟩
  dsq := ⟨State.issued_keeps (fun s => s.dsq.queues) (fun _ _ _ _ => rfl) (fun _ _ _ => rfl) s t, s.issued_staged t,
    State.issued_keeps (fun s => s.dsq.cseqOf) (fun _ _ _ _ => rfl) (fun _ _ _ => rfl) s t,
    State.issued_keeps (fun s => s.dsq.pcmd) (fun _ _ _ _ => rfl) (fun _ _ _ => rfl) s t⟩
  units := by rw [State.issued_eq]; simp only [and_self]
  sup := s.issued_sup t
  rest := by rw [State.issued_eq]; simp only [and_self]

end Issued

/-- An instruction of one word that its thread may issue has its effect (R340, R350). -/
theorem State.issue_of_mayRun {s : State} {t : Nat} (h : s.mayRun t 4) (d : DIns) (hord : d.ordered = true → s.storesPend t = false) :
    s.issue t 4 d = (s.issued t).effect t 4 d := by
  obtain ⟨ht, hready, hecc, -⟩ := h
  have hpend : ¬ (d.ordered = true ∧ s.storesPend t = true) := fun ⟨ho, hp⟩ => by simp [hord ho] at hp
  rw [State.issue, if_neg (by simp only [not_or]; exact ⟨by omega, fun hn => hn hready, hpend⟩), if_neg (by omega),
    if_neg (by simp [State.extOk]), State.fetchFix, if_pos hecc]

/-! ### What the operations on a thread leave -/

/-- The words outside THRt_STAT and THRt_G. -/
theorem regAddr_thread_ne {r q : RegId} {t i j j' : Nat} (ht : t < 128) (hi : i < (regInfo r).ni) (hj : j < (regInfo r).nj)
    (hq : q = .thrStat ∧ j' = 0 ∨ q = .thrG ∧ j' < 32) (h : ¬ (i = t ∧ (r = .thrStat ∨ r = .thrG))) :
    regAddr r i j ≠ regAddr q t j' := by
  intro e
  obtain ⟨rfl, rfl⟩ | ⟨rfl, hlt⟩ := hq
  · obtain ⟨rfl, rfl, -⟩ := regAddr_inj r .thrStat i j t 0 hi hj ht (by decide) e
    exact h ⟨rfl, .inl rfl⟩
  · obtain ⟨rfl, rfl, -⟩ := regAddr_inj r .thrG i j t j' hi hj ht hlt e
    exact h ⟨rfl, .inr rfl⟩

theorem regAddr_thrStat_ne_thrG {t j : Nat} (ht : t < 128) (hj : j < 32) : regAddr .thrStat t 0 ≠ regAddr .thrG t j := by
  intro e
  obtain ⟨h, -⟩ := regAddr_inj .thrStat .thrG t 0 t j ht (by decide) ht hj e
  exact absurd h (by decide)

section Thread
variable {s u w : State} {t : Nat}

theorem OnlyThread.trans (h : OnlyThread s u t) (h' : OnlyThread u w t) : OnlyThread s w t where
  regs r i j hi hj hne := (h'.regs r i j hi hj hne).trans (h.regs r i j hi hj hne)
  treg k n hk := (h'.treg k n hk).trans (h.treg k n hk)
  mem := by
    obtain ⟨d, i, m⟩ := h.mem
    obtain ⟨d', i', m'⟩ := h'.mem
    exact ⟨d'.trans d, i'.trans i, m'.trans m⟩
  dsq := by
    obtain ⟨q, e, n, p⟩ := h.dsq
    obtain ⟨q', e', n', p'⟩ := h'.dsq
    exact ⟨q'.trans q, e'.trans e, n'.trans n, p'.trans p⟩
  units := by simp only [h'.units, h.units, and_self]
  sup := h'.sup.trans h.sup
  rest := ⟨h'.rest.1.trans h.rest.1, h'.rest.2.trans h.rest.2⟩

theorem OnlyThread.wr {q : RegId} {j' : Nat} (ht : t < 128) (hq : q = .thrStat ∧ j' = 0 ∨ q = .thrG ∧ j' < 32) (x : Word) :
    OnlyThread s (s.wr q x t j') t where
  regs _ _ _ hi hj hne := State.rd_wr_ne _ _ _ _ _ _ _ _ (regAddr_thread_ne ht hi hj hq hne)
  treg _ _ _ := rfl
  mem := ⟨rfl, rfl, rfl⟩
  dsq := ⟨rfl, rfl, rfl, rfl⟩
  units := ⟨rfl, rfl, rfl, rfl, rfl, rfl, rfl, rfl, rfl, rfl, rfl, rfl, rfl⟩
  sup := rfl
  rest := ⟨rfl, rfl⟩

theorem OnlyThread.put (ht : t < 128) {f : Field} (hf : f.reg = .thrStat) (v : Nat) : OnlyThread s (s.put f v t) t :=
  OnlyThread.wr ht (.inl ⟨hf, rfl⟩) _

theorem OnlyThread.setG (ht : t < 128) (r : Nat) (x : Word) : OnlyThread s (s.setG t r x) t := by
  unfold State.setG
  split
  · exact OnlyThread.refl
  · exact OnlyThread.wr ht (.inr ⟨rfl, Nat.mod_lt _ (by decide)⟩) x

theorem OnlyThread.setThr (x : Thr) : OnlyThread s (s.setThr t x) t where
  regs _ _ _ _ _ _ := rfl
  treg k n hk := by simp only [State.treg, State.thr_setThr_ne s x hk]
  mem := ⟨rfl, rfl, rfl⟩
  dsq := ⟨rfl, rfl, rfl, rfl⟩
  units := ⟨rfl, rfl, rfl, rfl, rfl, rfl, rfl, rfl, rfl, rfl, rfl, rfl, rfl⟩
  sup := rfl
  rest := ⟨rfl, rfl⟩

theorem OnlyThread.foldl {α : Type} {f : State → α → State} (h : ∀ s a, OnlyThread s (f s a) t) (l : List α) :
    ∀ s : State, OnlyThread s (l.foldl f s) t := by
  induction l with
  | nil => exact fun s => OnlyThread.refl
  | cons a l ih => exact fun s => (h s a).trans (ih (f s a))

/-- A field of THRt_STAT after a write of another one. -/
theorem State.thrStat_put_other {f g : Field} (v : Nat) (hf : f.reg = .thrStat) (hg : g.reg = .thrStat) (h : f.lo ≤ f.hi ∧ f.hi < 64)
    (h' : g.lo ≤ g.hi ∧ g.hi < 64) (hd : g.hi < f.lo ∨ f.hi < g.lo) : (s.put f v t).get g t = s.get g t :=
  s.get_put_other f g v t 0 (hg.trans hf.symm) h.2 h'.2 h.1 h'.1 hd

/-- General registers lie apart from THRt_STAT. -/
theorem State.get_setG (ht : t < 128) {f : Field} (hf : f.reg = .thrStat) (r : Nat) (x : Word) : (s.setG t r x).get f t = s.get f t := by
  unfold State.setG
  split
  · rfl
  · refine State.get_of_rd (State.rd_wr_ne _ _ _ _ _ _ _ _ ?_)
    rw [hf]
    exact regAddr_thrStat_ne_thrG ht (Nat.mod_lt _ (by decide))

theorem State.g_put (ht : t < 128) {f : Field} (hf : f.reg = .thrStat) (v r : Nat) : (s.put f v t).g t r = s.g t r := by
  unfold State.g
  split
  · rfl
  · refine State.rd_wr_ne _ _ _ _ _ _ _ _ ?_
    rw [hf]
    exact (regAddr_thrStat_ne_thrG ht (Nat.mod_lt _ (by decide))).symm

theorem State.g_setG_same (r : Nat) (x : Word) : (s.setG t r x).g t r = if r % 32 = 0 then 0 else x := by
  unfold State.g State.setG
  by_cases h : r % 32 = 0
  · simp only [h, if_true]
  · simp only [h, if_false, State.rd_wr_same]

end Thread

/-! ### The reply (R330, R355) -/

/-- Thread t waits for its reply, which is ready: general registers, time registers and FLAGS to be written. -/
def State.awaits (s : State) (t next gd : Nat) (g : List (Nat × Word)) (tr : List (Nat × TReg)) (flags : Nat) : State :=
  (s.park t thReply next gd).setThr t { (s.park t thReply next gd).thr t with await := .result g tr flags }

/-- The registers that a reply writes. -/
def State.writes (s : State) (t : Nat) (g : List (Nat × Word)) (tr : List (Nat × TReg)) : State :=
  tr.foldl (fun s e => s.setTreg t e.1 e.2) (g.foldl (fun s e => s.setG t e.1 e.2) s)

/-- What a reply leaves of a thread that no stop waits for. -/
def State.answers (s : State) (t : Nat) (g : List (Nat × Word)) (tr : List (Nat × TReg)) (flags : Nat) : State :=
  let u := (s.writes t g tr).put F.thrStat_FLAGS flags t
  (u.setThr t { u.thr t with await := .none }).setThrState t thReady

section Reply
variable {s : State} {t next gd : Nat} {g : List (Nat × Word)} {tr : List (Nat × TReg)} {flags : Nat}

theorem OnlyThread.writes (ht : t < 128) : OnlyThread s (s.writes t g tr) t :=
  (OnlyThread.foldl (fun _ _ => OnlyThread.setG ht _ _) g s).trans (OnlyThread.foldl (fun _ _ => OnlyThread.setThr _) tr _)

theorem OnlyThread.answers (ht : t < 128) : OnlyThread s (s.answers t g tr flags) t :=
  (((OnlyThread.writes ht).trans (OnlyThread.put ht rfl _)).trans (OnlyThread.setThr _)).trans (OnlyThread.put ht rfl _)

theorem OnlyThread.park (ht : t < 128) (st : Nat) : OnlyThread s (s.park t st next gd) t :=
  ((OnlyThread.setThr _).trans (OnlyThread.put ht rfl _)).trans (OnlyThread.put ht rfl _)

theorem OnlyThread.awaits (ht : t < 128) : OnlyThread s (s.awaits t next gd g tr flags) t :=
  (OnlyThread.park ht _).trans (OnlyThread.setThr _)

theorem State.park_thrState (st : Nat) : (s.park t st next gd).thrState t = st % 2 ^ 3 :=
  State.get_put_same _ F.thrStat_STATE st t 0 (by decide) (by decide)

theorem State.park_pc (st : Nat) : (s.park t st next gd).pc t = next % 2 ^ 21 :=
  (State.thrStat_put_other (f := F.thrStat_STATE) (g := F.thrStat_PC) st rfl rfl (by decide) (by decide) (by decide)).trans
    ((State.get_put_same _ F.thrStat_PC _ t 0 (by decide) (by decide)).trans (Nat.mod_mod_of_dvd _ (dvd_refl _)))

/-- The fields of THRt_STAT that parking does not write. -/
theorem State.get_park (st : Nat) {f : Field} (hf : f.reg = .thrStat) (h : f.lo ≤ f.hi ∧ f.hi < 64) (hlo : 20 < f.lo)
    (hne : f.hi < 32 ∨ 34 < f.lo) : (s.park t st next gd).get f t = s.get f t :=
  (State.thrStat_put_other (f := F.thrStat_STATE) st rfl hf ⟨by decide, by decide⟩ h hne).trans
    (State.thrStat_put_other (f := F.thrStat_PC) _ rfl hf ⟨by decide, by decide⟩ h (.inr hlo))

theorem State.get_writes (ht : t < 128) {f : Field} (hf : f.reg = .thrStat) : (s.writes t g tr).get f t = s.get f t := by
  have hT := foldl_keeps (fun u : State => u.get f t) (fun u (e : Nat × TReg) => u.setTreg t e.1 e.2)
    (fun _ _ => State.get_congr (State.setThr_regs _ _ _) f t 0) tr
  have hG := foldl_keeps (fun u : State => u.get f t) (fun u (e : Nat × Word) => u.setG t e.1 e.2)
    (fun _ _ => State.get_setG ht hf _ _) g s
  exact (hT _).trans hG

theorem State.answers_thrState : (s.answers t g tr flags).thrState t = 1 :=
  State.get_put_same _ F.thrStat_STATE thReady t 0 (by decide) (by decide)

/-- The fields of THRt_STAT that a reply does not write. -/
theorem State.get_answers (ht : t < 128) {f : Field} (hf : f.reg = .thrStat) (h : f.lo ≤ f.hi ∧ f.hi < 64)
    (hflags : f.hi < 24 ∨ 29 < f.lo) (hstate : f.hi < 32 ∨ 34 < f.lo) : (s.answers t g tr flags).get f t = s.get f t :=
  (State.thrStat_put_other (f := F.thrStat_STATE) _ rfl hf ⟨by decide, by decide⟩ h hstate).trans
    ((State.thrStat_put_other (f := F.thrStat_FLAGS) flags rfl hf ⟨by decide, by decide⟩ h hflags).trans (State.get_writes ht hf))

theorem State.answers_flag (f : Flag) : (s.answers t g tr flags).flag t f = bitOf flags f.bit := by
  have h : (s.answers t g tr flags).get F.thrStat_FLAGS t = flags % 2 ^ 6 :=
    (State.thrStat_put_other (f := F.thrStat_STATE) (g := F.thrStat_FLAGS) _ rfl rfl (by decide) (by decide) (by decide)).trans
      (State.get_put_same _ F.thrStat_FLAGS flags t 0 (by decide) (by decide))
  rw [State.flag, h, bitOf_mod_flags]

theorem State.answers_g (ht : t < 128) (r : Nat) : (s.answers t g tr flags).g t r = (s.writes t g tr).g t r :=
  (State.g_put ht (f := F.thrStat_STATE) rfl _ r).trans (State.g_put ht (f := F.thrStat_FLAGS) rfl _ r)

theorem State.answers_treg (k n : Nat) : (s.answers t g tr flags).treg k n = (s.writes t g tr).treg k n := by
  have h := State.tr_setThr ((s.writes t g tr).put F.thrStat_FLAGS flags t) t k
    (x := { ((s.writes t g tr).put F.thrStat_FLAGS flags t).thr t with await := .none }) rfl
  exact congrArg (fun x => tabGet {} x (n % 8)) h

theorem State.awaits_treg (k n : Nat) : (s.awaits t next gd g tr flags).treg k n = s.treg k n := by
  have h1 := State.tr_setThr s t k (x := { s.thr t with at' := s.pc t, gd := gd }) rfl
  have h2 := State.tr_setThr (s.park t thReply next gd) t k
    (x := { (s.park t thReply next gd).thr t with await := .result g tr flags }) rfl
  exact congrArg (fun x => tabGet {} x (n % 8)) (h2.trans h1)

theorem State.awaits_g (ht : t < 128) (r : Nat) : (s.awaits t next gd g tr flags).g t r = s.g t r :=
  (State.g_put ht (f := F.thrStat_STATE) rfl _ r).trans (State.g_put ht (f := F.thrStat_PC) rfl _ r)

theorem State.replied_eq_answers (ht : t < 128) (hstop : s.getB F.thrStat_STOP_PEND t = false) :
    s.replied t g tr flags = s.answers t g tr flags := by
  have hpend : ((s.writes t g tr).put F.thrStat_FLAGS flags t).getB F.thrStat_STOP_PEND t = false := by
    have hget := (State.thrStat_put_other (s := s.writes t g tr) (f := F.thrStat_FLAGS) (g := F.thrStat_STOP_PEND) flags rfl rfl
      (by decide) (by decide) (by decide)).trans (State.get_writes ht rfl)
    rw [State.getB, hget]
    exact hstop
  refine if_neg ?_
  rw [State.getB_congr (State.setThr_regs _ _ _)]
  exact fun h => Bool.false_ne_true (hpend.symm.trans h)

/-- The reply arrives (R355). -/
theorem exec_threadReplyArrive_awaits (ht : t < 128) (hstop : s.getB F.thrStat_STOP_PEND t = false) :
    exec (.threadReplyArrive t) (s.awaits t next gd g tr flags) =
      .next ((s.awaits t next gd g tr flags).answers t g tr flags) := by
  have hwait : (s.awaits t next gd g tr flags).thrState t = thReply := State.park_thrState thReply
  have hthr : ((s.awaits t next gd g tr flags).thr t).await = .result g tr flags := by
    rw [State.awaits, State.thr_setThr_same]
  have hpend : (s.awaits t next gd g tr flags).getB F.thrStat_STOP_PEND t = false := by
    have hget : (s.awaits t next gd g tr flags).get F.thrStat_STOP_PEND t = s.get F.thrStat_STOP_PEND t :=
      State.get_park thReply rfl (by decide) (by decide) (by decide)
    rw [State.getB, hget]
    exact hstop
  rw [exec_threadReplyArrive, execThreadReplyArrive, if_neg (by omega), State.replyArrive, if_neg (by simp [hwait]), hthr]
  exact congrArg Host.Outcome.next (State.replied_eq_answers ht hpend)

end Reply

end Sys2Proof.Machine
end

section
/-! RULES. An instruction that returns a status (R330). -/
namespace Sys2Proof.Machine

/-- The FLAGS that an instruction of R330 leaves. -/
def statusFlags (w : Nat) (st : Status) : Nat := flagsTo w [(.z, st == .ok), (.n, false), (.c, false), (.v, false)]

/-- What the reply of an instruction of R330 leaves. -/
def State.afterStatus (v : State) (t next gd : Nat) (st : Status) (result : Nat) : State :=
  (v.parkStatus t next gd st result).answers t [(gd, statusWord st result)] [] (statusFlags (v.get F.thrStat_FLAGS t) st)

variable {i : Instr} {s v : State} {t next gd result : Nat} {st : Status}

theorem State.parkStatus_eq_awaits :
    v.parkStatus t next gd st result =
      v.awaits t next gd [(gd, statusWord st result)] [] (statusFlags (v.get F.thrStat_FLAGS t) st) := by
  have h : (v.park t thReply next gd).get F.thrStat_FLAGS t = v.get F.thrStat_FLAGS t :=
    State.get_park thReply rfl (by decide) (by decide) (by decide)
  simp only [State.parkStatus, State.statusReply, h]
  rfl

theorem OnlyThread.afterStatus (ht : t < 128) : OnlyThread v (v.afterStatus t next gd st result) t := by
  rw [State.afterStatus, State.parkStatus_eq_awaits]
  exact (OnlyThread.awaits ht).trans (OnlyThread.answers ht)

theorem State.afterStatus_flag (f : Flag) : (v.afterStatus t next gd st result).flag t f =
    match f with
    | .z => decide (st = .ok)
    | .n | .c | .v => false
    | .l | .s => v.flag t f := by
  rw [State.afterStatus, State.answers_flag, statusFlags]
  cases f <;> simp [flagsTo, bitOf_flagTo, State.flag, beq_eq_decide]

/-- The status word arrives where an instruction has parked its thread for it. -/
theorem returnsStatus_of_parkStatus (ht : t < 128) (hexec : exec i s = .next (v.parkStatus t next gd st result))
    (hstop : v.getB F.thrStat_STOP_PEND t = false) (hs : v.flag t .s = s.flag t .s) :
    ReturnsStatus i s (v.afterStatus t next gd st result) t next gd st result where
  runs := by
    refine ⟨_, hexec, State.park_thrState thReply, ?_⟩
    rw [State.afterStatus, State.parkStatus_eq_awaits]
    exact exec_threadReplyArrive_awaits ht hstop
  word hgd := by
    rw [State.afterStatus, State.answers_g ht]
    exact (State.g_setG_same gd _).trans (if_neg hgd)
  flags := by simp only [State.afterStatus_flag, hs, and_self]
  pc := (State.get_answers ht rfl (by decide) (by decide) (by decide)).trans (State.park_pc thReply)
  ready := State.answers_thrState

end Sys2Proof.Machine
end

section
/-! PROOF. Escrows: what EBEGIN, EWR, ECOMMIT and EABORT answer and leave, for a thread and for a host command (R96, R331, R332, R373,
R374, R378, R382). -/
namespace Sys2Proof.Machine

/-! ### Addresses -/

theorem regAddr_escStat (k : Nat) : regAddr .escStat k 0 = 0x630000 + 0x20 * k := rfl
theorem regAddr_escSeq (k : Nat) : regAddr .escSeq k 0 = 0x630008 + 0x20 * k := rfl
theorem regAddr_escLast (k : Nat) : regAddr .escLast k 0 = 0x630010 + 0x20 * k := rfl

/-- Escrow registers lie apart from those of threads. -/
theorem regAddr_thrStat_ne_esc {t k : Nat} (ht : t < 128) (hk : k < 32) {q : RegId} (hq : q = .escStat ∨ q = .escSeq) :
    regAddr .thrStat t 0 ≠ regAddr q k 0 := by
  intro e
  obtain rfl | rfl := hq
  · obtain ⟨h, -⟩ := regAddr_inj .thrStat .escStat t 0 k 0 ht (by decide) hk (by decide) e
    exact absurd h (by decide)
  · obtain ⟨h, -⟩ := regAddr_inj .thrStat .escSeq t 0 k 0 ht (by decide) hk (by decide) e
    exact absurd h (by decide)

theorem State.thrPart_lt (s : State) (t : Nat) : s.thrPart t < 8 := bitsOf_lt _ _ _ (by decide) (by decide)

/-! ### What the operations answer -/

section Ops
variable {s : State} {p e : Nat}

theorem State.escStaged_setStaged_same (s : State) (k : Nat) (l : List (Nat × Word × Bool)) : (s.setStaged k l).escStaged k = l :=
  tabGet_tabSet_same _ _ _ _

/-- An escrow that EBEGIN has opened (R373). -/
def State.escOpened (s : State) (k : Nat) : State :=
  ((s.setStaged k []).wr .escStat (showAs [(F.escStat_STATE, escOpen)]) k).wr .escSeq (s.rd .dsqCseq) k

theorem find?_first_four {f : Nat → Bool} (he : e < 4) (h : f e = true) (hlow : ∀ j < e, f j = false) :
    [0, 1, 2, 3].find? f = some e := by
  interval_cases e <;> simp [h, hlow]

theorem State.escBegin_ok (he : e < 4) (hfree : s.escState (4 * p + e) = 0 ∨ s.escState (4 * p + e) = 3)
    (hheld : ∀ j < e, s.escState (4 * p + j) = 1 ∨ s.escState (4 * p + j) = 2) :
    s.escBegin p = (.ok, e, s.escOpened (4 * p + e)) := by
  have hfind : [0, 1, 2, 3].find? (fun e => s.escState (4 * p + e) == escFreeSt || s.escState (4 * p + e) == escDone) = some e := by
    refine find?_first_four he ?_ fun j hj => ?_
    · obtain h | h := hfree <;> simp [h]
    · obtain h | h := hheld j hj <;> simp [h]
  rw [State.escBegin, hfind]
  rfl

theorem State.escBegin_busy (hheld : ∀ j < 4, s.escState (4 * p + j) = 1 ∨ s.escState (4 * p + j) = 2) :
    s.escBegin p = (.busy, 0, s) := by
  have hfind : [0, 1, 2, 3].find? (fun e => s.escState (4 * p + e) == escFreeSt || s.escState (4 * p + e) == escDone) = none := by
    rw [List.find?_eq_none]
    intro j hj
    have hlt : j < 4 := by simp at hj; omega
    obtain h | h := hheld j hlt <;> simp [h]
  rw [State.escBegin, hfind]

theorem State.escOpened_state (s : State) (k : Nat) : (s.escOpened k).escState k = 1 := by
  rw [State.escState, State.get, State.escOpened, State.rd_wr_ne _ _ _ _ _ _ _ _ (by rw [regAddr_escStat, regAddr_escSeq]; omega), State.rd_wr_same]
  decide

theorem State.escOpened_staged (s : State) (k : Nat) : (s.escOpened k).escStaged k = [] := s.escStaged_setStaged_same k []

theorem State.escOpened_seq (s : State) (k : Nat) : (s.escOpened k).rd .escSeq k = s.rd .dsqCseq := State.rd_wr_same _ _ _ _ _

/-- A write that EWR stages (R331, R332). -/
theorem State.escWrite_ok {addr : Nat} {w : Word} {own : Bool} (he : e < 4) (hopen : s.escIsOpen (4 * p + e) = true)
    (ha : addr % 8 = 0) (hst : s.stageable addr = true) (hlen : (stageIn addr w own (s.escStaged (4 * p + e))).length ≤ 1024) :
    s.escWrite p e addr w true own = (.ok, (stageIn addr w own (s.escStaged (4 * p + e))).length,
      s.setStaged (4 * p + e) (stageIn addr w own (s.escStaged (4 * p + e)))) := by
  have hlen' : ¬ 1024 < (stageIn addr w own (s.escStaged (4 * p + e))).length := by omega
  have he' : ¬ 4 ≤ e := by omega
  simp [State.escWrite, hopen, ha, hst, hlen', he']

theorem stageIn_over {addr : Nat} {w : Word} {own : Bool} {l : List (Nat × Word × Bool)} (h : ∃ y ∈ l, y.1 = addr) :
    stageIn addr w own l = l.map fun y => if y.1 = addr then (addr, w, own) else y :=
  if_pos (by simpa using h)

theorem stageIn_after {addr : Nat} {w : Word} {own : Bool} {l : List (Nat × Word × Bool)} (h : ∀ y ∈ l, y.1 ≠ addr) :
    stageIn addr w own l = l ++ [(addr, w, own)] :=
  if_neg fun hany => by
    obtain ⟨y, hy, he⟩ := List.any_eq_true.1 hany
    exact h y hy (beq_iff_eq.1 he)

theorem State.escState_of_isOpen {k : Nat} (h : s.escIsOpen k = true) : s.escState k = 1 := by
  simp only [State.escIsOpen, Bool.and_eq_true, beq_iff_eq] at h
  exact h.1

theorem State.escPends_of_isOpen {k : Nat} (h : s.escIsOpen k = true) : s.escPends k = false := by
  simpa using (Bool.and_eq_true_iff.1 h).2

theorem State.escCommit_now (he : e < 4) (hopen : s.escIsOpen (4 * p + e) = true) (late : Bool) :
    s.escCommit p e none late = (.ok, 0, { s with tse := { s.tse with imm := s.tse.imm ++ [4 * p + e] } }) := by
  have he' : ¬ 4 ≤ e := by omega
  simp [State.escCommit, hopen, he']

/-- A commit armed at an instant of a domain. -/
def State.escArmedAt (s : State) (p e slot dom inst : Nat) (late : Bool) : State :=
  ((s.armSlot slot p dom inst .escrowCommit (4 * p + e) 0 late (s.isPast dom inst)).put F.escStat_STATE escArmed (4 * p + e)).put
    F.escStat_SLOT slot (4 * p + e)

/-- What an armed commit leaves: its escrow ARMED in its slot, and the alarm of its instant (R331). -/
theorem State.escArmedAt_leaves (s : State) (p e dom inst : Nat) (late : Bool) {slot : Nat} (hslot : slot < 4096) :
    let u := s.escArmedAt p e slot dom inst late
    u.escState (4 * p + e) = 2 ∧ u.get F.escStat_SLOT (4 * p + e) = slot ∧ (u.alarm slot).st = .armed ∧
      (u.alarm slot).kind = .escrowCommit ∧ (u.alarm slot).target = 4 * p + e ∧ (u.alarm slot).dom = dom ∧
      (u.alarm slot).inst = inst ∧ (u.alarm slot).period = 0 := by
  intro u
  obtain ⟨hst, -, hdom, hkind, hinst, htgt, hper, -⟩ :=
    State.armSlot_alarm_same s slot p dom inst .escrowCommit (4 * p + e) 0 late (s.isPast dom inst)
  refine ⟨?state, ?slot, hst, hkind, htgt, hdom, hinst, hper⟩
  case state =>
    exact (State.get_put_other _ F.escStat_SLOT F.escStat_STATE _ _ _ rfl (by decide) (by decide) (by decide) (by decide)
      (by decide)).trans (State.get_put_same _ F.escStat_STATE _ _ _ (by decide) (by decide))
  case slot =>
    exact (State.get_put_same _ F.escStat_SLOT _ _ _ (by decide) (by decide)).trans (Nat.mod_eq_of_lt hslot)

theorem State.escCommit_at {dom inst slot : Nat} {late : Bool} (he : e < 4) (hopen : s.escIsOpen (4 * p + e) = true) (hd : dom < 32)
    (hown : dom = 0 ∨ (s.dom dom).owner = p) (hst : (s.dom dom).st ≠ .off) (hslot : s.freeSlot p = some slot) :
    s.escCommit p e (some (dom, inst)) late = if s.isPast dom inst && !late then (.late, 0, s)
      else (.ok, slot, s.escArmedAt p e slot dom inst late) := by
  have he' : ¬ 4 ≤ e := by omega
  have hd' : ¬ 32 ≤ dom := by omega
  have hown' : ¬ (dom ≠ 0 ∧ (s.dom dom).owner ≠ p) := fun ⟨h0, hp⟩ => hown.elim h0 hp
  simp only [State.escCommit, hopen, hslot]
  simp [he', hd', hst]
  rw [if_neg (by simpa using hown')]
  rfl

theorem State.escAbort_open (he : e < 4) (hopen : s.escIsOpen (4 * p + e) = true) :
    s.escAbort p e = (.ok, 0, (s.setStaged (4 * p + e) []).wr .escStat 0 (4 * p + e)) := by
  have he' : ¬ 4 ≤ e := by omega
  simp [State.escAbort, he', State.escState_of_isOpen hopen, State.escPends_of_isOpen hopen]

theorem State.escAbort_done (he : e < 4) (hdone : s.escState (4 * p + e) = 3) : s.escAbort p e = (.late, 0, s) := by
  have he' : ¬ 4 ≤ e := by omega
  simp [State.escAbort, he', hdone]

end Ops

/-! ### The instructions -/

section Instructions
variable {s : State} {t gd e : Nat}

@[simp] theorem State.issued_escState (s : State) (t k : Nat) : (s.issued t).escState k = s.escState k := s.issued_get t _ k 0
@[simp] theorem State.issued_escStaged (s : State) (t k : Nat) : (s.issued t).escStaged k = s.escStaged k :=
  congrArg (tabGet [] · k) (s.issued_staged t)
@[simp] theorem State.issued_escIsOpen (s : State) (t k : Nat) : (s.issued t).escIsOpen k = s.escIsOpen k := by
  simp [State.escIsOpen, State.escPends]
@[simp] theorem State.issued_stageable (s : State) (t a : Nat) : (s.issued t).stageable a = s.stageable a := by
  rw [State.issued_eq]; rfl
@[simp] theorem State.issued_thrReaches (s : State) (t k a : Nat) : (s.issued t).thrReaches k a = s.thrReaches k a := by
  rw [State.issued_eq]; rfl

theorem State.slotHeld_of_tse {s u : State} (h : s.tse = u.tse) (k : Nat) : s.slotHeld k = u.slotHeld k := by
  rw [State.slotHeld, State.slotHeld, State.alarm_of_tse h]

/-- Which slot is free is a matter of the slots and the quota. -/
theorem freeSlotFrom_of_tse {s u : State} (h : s.tse = u.tse) (f k : Nat) : freeSlotFrom s f k = freeSlotFrom u f k := by
  induction f generalizing k with
  | zero => rfl
  | succ f ih => simp only [freeSlotFrom, State.slotHeld_of_tse h, ih]

theorem freeSlotFrom_lt {s : State} {f k slot : Nat} (h : freeSlotFrom s f k = some slot) : slot < 4096 := by
  induction f generalizing k with
  | zero => cases h
  | succ f ih =>
    unfold freeSlotFrom at h
    split at h
    · cases h
    · split at h
      · exact ih h
      · cases h; omega

theorem State.freeSlot_lt {s : State} {p slot : Nat} (h : s.freeSlot p = some slot) : slot < 4096 := by
  unfold State.freeSlot at h
  split at h
  · exact freeSlotFrom_lt h
  · cases h

@[simp] theorem State.issued_slotHeld (s : State) (t k : Nat) : (s.issued t).slotHeld k = s.slotHeld k :=
  State.slotHeld_of_tse State.issued_tse k
@[simp] theorem State.issued_slotPart (s : State) (t k : Nat) : (s.issued t).slotPart k = s.slotPart k := by
  rw [State.slotPart, State.slotPart, State.issued_alarm]
@[simp] theorem State.issued_quotaLeft (s : State) (t p : Nat) : (s.issued t).quotaLeft p = s.quotaLeft p := by
  rw [State.quotaLeft, State.quotaLeft, State.almUsed, State.almUsed, State.issued_tse, State.issued_get]
@[simp] theorem State.issued_freeSlot (s : State) (t p : Nat) : (s.issued t).freeSlot p = s.freeSlot p := by
  simp only [State.freeSlot, State.issued_quotaLeft, freeSlotFrom_of_tse (s.issued_tse (t := t))]

/-- An escrow instruction whose operation succeeds (R330, R384). -/
theorem escIns_ok {i : Instr} {op r : Nat} {x : EscRes} {v : State} (h : s.mayRun t 4) (hstop : s.getB F.thrStat_STOP_PEND t = false)
    (hexec : exec i s = .next ((s.issued t).escIns t gd op (s.pc t + 4) x)) (hl : s.legal op = true) (hx : x = (.ok, r, v))
    (hrd : v.rd .thrStat t = s.rd .thrStat t) :
    ∃ w : State, ReturnsStatus i s w t (s.pc t + 4) gd .ok r ∧ OnlyThread v w t := by
  subst hx
  have hflag : v.flag t .s = s.flag t .s := by rw [State.flag, State.flag, State.get_of_rd (f := F.thrStat_FLAGS) hrd]
  have hpend : v.getB F.thrStat_STOP_PEND t = false := (State.getB_of_rd (f := F.thrStat_STOP_PEND) hrd).trans hstop
  refine ⟨_, returnsStatus_of_parkStatus h.1 (hexec.trans ?_) hpend hflag, OnlyThread.afterStatus h.1⟩
  simp [State.escIns, hl]

/-- An escrow instruction whose operation is refused. -/
theorem escIns_refused {i : Instr} {op r : Nat} {x : EscRes} {st : Status} {v : State} (h : s.mayRun t 4)
    (hstop : s.getB F.thrStat_STOP_PEND t = false) (hexec : exec i s = .next ((s.issued t).escIns t gd op (s.pc t + 4) x))
    (hl : s.legal op = true) (hx : x = (st, r, v)) (hst : st ≠ .ok) :
    ∃ w : State, ReturnsStatus i s w t (s.pc t + 4) gd st 0 ∧ OnlyThread (s.issued t) w t := by
  subst hx
  refine ⟨_, returnsStatus_of_parkStatus h.1 (hexec.trans ?_) ((s.issued_getB t _ _ _).trans hstop) (s.issued_flag t t .s),
    OnlyThread.afterStatus h.1⟩
  simp [State.escIns, hl, hst]

theorem exec_ebegin_mayRun (h : s.mayRun t 4) :
    exec (.ebegin t gd) s = .next ((s.issued t).escIns t gd 0x66 (s.pc t + 4) ((s.issued t).escBegin (s.thrPart t))) := by
  rw [exec_ebegin, execEbegin, State.issue_of_mayRun h _ (by simp [DIns.ordered])]
  simp only [State.effect, State.issued_pc, State.issued_thrPart]

theorem exec_ewr_mayRun {ga gs : Nat} (h : s.mayRun t 4) :
    exec (.ewr t gd ga gs e) s = .next ((s.issued t).escIns t gd 0x67 (s.pc t + 4)
      ((s.issued t).escWrite (s.thrPart t) e (s.g t ga).toNat (s.g t gs) (s.thrReaches t (s.g t ga).toNat) (s.thrPart t == 0))) := by
  rw [exec_ewr, execEwr, State.issue_of_mayRun h _ (by simp [DIns.ordered])]
  simp only [State.effect, State.issued_pc, State.issued_thrPart, State.issued_g, State.issued_thrReaches]

theorem exec_ecommit_now (h : s.mayRun t 4) (hp : s.storesPend t = false) (late : Bool) :
    exec (.ecommit t gd e none late) s = .next ((s.issued t).escIns t gd 0x68 (s.pc t + 4)
      ((s.issued t).escCommit (s.thrPart t) e none late)) := by
  rw [exec_ecommit, execEcommit, State.issue_of_mayRun h _ (fun _ => hp)]
  simp only [State.effect, State.issued_pc, State.issued_thrPart]

theorem exec_ecommit_at {tn : Nat} (h : s.mayRun t 4) (hp : s.storesPend t = false)
    (hmine : (s.treg t tn).dom = 0 ∨ (s.dom (s.treg t tn).dom).owner = s.thrPart t) (late : Bool) :
    exec (.ecommit t gd e (some tn) late) s = .next ((s.issued t).escIns t gd 0x68 (s.pc t + 4)
      ((s.issued t).escCommit (s.thrPart t) e (some ((s.treg t tn).dom, (s.treg t tn).t)) late)) := by
  have hm : s.domMine t (s.treg t tn).dom = true := by simpa [State.domMine] using hmine
  rw [exec_ecommit, execEcommit, State.issue_of_mayRun h _ (fun _ => hp)]
  simp only [State.effect, State.issued_pc, State.issued_thrPart, State.issued_treg, State.issued_domMine, hm, Bool.not_true,
    Bool.false_eq_true, if_false]

theorem exec_eabort_mayRun (h : s.mayRun t 4) :
    exec (.eabort t gd e) s = .next ((s.issued t).escIns t gd 0x69 (s.pc t + 4) ((s.issued t).escAbort (s.thrPart t) e)) := by
  rw [exec_eabort, execEabort, State.issue_of_mayRun h _ (by simp [DIns.ordered])]
  simp only [State.effect, State.issued_pc, State.issued_thrPart]

/-- The escrow registers are none of a thread's. -/
theorem OnlyThread.rd_esc {u w : State} {k : Nat} (h : OnlyThread u w t) (hk : k < 32) {q : RegId} (hq : q = .escStat ∨ q = .escSeq) :
    w.rd q k = u.rd q k := by
  obtain rfl | rfl := hq
  · exact h.regs .escStat k 0 hk (by decide) (by simp)
  · exact h.regs .escSeq k 0 hk (by decide) (by simp)

theorem OnlyThread.get_esc {u w : State} {k : Nat} (h : OnlyThread u w t) (hk : k < 32) {f : Field} (hf : f.reg = .escStat) :
    w.get f k = u.get f k := State.get_of_rd (by rw [hf]; exact h.rd_esc hk (.inl rfl))

theorem OnlyThread.staged {u w : State} (h : OnlyThread u w t) : w.dsq.staged = u.dsq.staged := h.dsq.2.1

theorem OnlyThread.escStaged {u w : State} (h : OnlyThread u w t) (k : Nat) : w.escStaged k = u.escStaged k :=
  congrArg (tabGet [] · k) h.staged

theorem OnlyThread.tse {u w : State} (h : OnlyThread u w t) : w.tse = u.tse := h.units.1

theorem escIndex_lt (s : State) (t : Nat) (he : e < 4) : 4 * s.thrPart t + e < 32 := by
  have := s.thrPart_lt t
  omega

variable (h : s.mayRun t 4) (hstop : s.getB F.thrStat_STOP_PEND t = false)
include h hstop

theorem ebegin_opens (hl : s.legal 0x66 = true) (he : e < 4)
    (hfree : s.escState (4 * s.thrPart t + e) = 0 ∨ s.escState (4 * s.thrPart t + e) = 3)
    (hheld : ∀ j < e, s.escState (4 * s.thrPart t + j) = 1 ∨ s.escState (4 * s.thrPart t + j) = 2) :
    ∃ w : State, ReturnsStatus (.ebegin t gd) s w t (s.pc t + 4) gd .ok e ∧ w.escState (4 * s.thrPart t + e) = 1 ∧
      w.escStaged (4 * s.thrPart t + e) = [] ∧ w.rd .escSeq (4 * s.thrPart t + e) = s.rd .dsqCseq := by
  have hk := escIndex_lt s t he
  have hx : (s.issued t).escBegin (s.thrPart t) = (.ok, e, (s.issued t).escOpened (4 * s.thrPart t + e)) :=
    State.escBegin_ok he (by simpa using hfree) (by simpa using hheld)
  obtain ⟨w, hw, only⟩ := escIns_ok h hstop (exec_ebegin_mayRun h) hl hx (by
    rw [State.escOpened, State.rd_wr_ne _ _ _ _ _ _ _ _ (regAddr_thrStat_ne_esc h.1 hk (.inr rfl)),
      State.rd_wr_ne _ _ _ _ _ _ _ _ (regAddr_thrStat_ne_esc h.1 hk (.inl rfl))]
    exact s.issued_rd t _ _ _)
  refine ⟨w, hw, ?_, ?_, ?_⟩
  · exact (only.get_esc hk rfl).trans (State.escOpened_state _ _)
  · exact (only.escStaged _).trans (State.escOpened_staged _ _)
  · rw [only.rd_esc hk (.inr rfl), State.escOpened_seq, State.issued_rd]

theorem ebegin_busy (hl : s.legal 0x66 = true)
    (hheld : ∀ j < 4, s.escState (4 * s.thrPart t + j) = 1 ∨ s.escState (4 * s.thrPart t + j) = 2) :
    ∃ w : State, ReturnsStatus (.ebegin t gd) s w t (s.pc t + 4) gd .busy 0 ∧ w.dsq.staged = s.dsq.staged ∧ w.tse = s.tse := by
  obtain ⟨w, hw, only⟩ := escIns_refused h hstop (exec_ebegin_mayRun (gd := gd) h) hl (State.escBegin_busy (by simpa using hheld))
    (by decide)
  exact ⟨w, hw, only.staged.trans (s.issued_staged t), only.tse.trans State.issued_tse⟩

/-- EWR stages a write at its place among the staged ones (R332). -/
theorem ewr_stages {ga gs : Nat} (hl : s.legal 0x67 = true) (he : e < 4) (hopen : s.escIsOpen (4 * s.thrPart t + e) = true)
    (ha : (s.g t ga).toNat % 8 = 0) (hr : s.thrReaches t (s.g t ga).toNat = true) (hst : s.stageable (s.g t ga).toNat = true)
    {l : List (Nat × Word × Bool)}
    (hstage : stageIn (s.g t ga).toNat (s.g t gs) (s.thrPart t == 0) (s.escStaged (4 * s.thrPart t + e)) = l) (hlen : l.length ≤ 1024) :
    ∃ w : State, ReturnsStatus (.ewr t gd ga gs e) s w t (s.pc t + 4) gd .ok l.length ∧ w.escStaged (4 * s.thrPart t + e) = l := by
  subst hstage
  have hx := State.escWrite_ok (s := s.issued t) (p := s.thrPart t) (w := s.g t gs) (own := s.thrPart t == 0) he (by simpa using hopen) ha
    (by simpa using hst) (by simpa using hlen)
  simp only [State.issued_escStaged] at hx
  obtain ⟨w, hw, only⟩ := escIns_ok h hstop ((exec_ewr_mayRun h).trans (by rw [hr])) hl hx (s.issued_rd t _ _ _)
  exact ⟨w, hw, (only.escStaged _).trans (State.escStaged_setStaged_same _ _ _)⟩

theorem ecommit_accepts (hl : s.legal 0x68 = true) (he : e < 4) (hopen : s.escIsOpen (4 * s.thrPart t + e) = true)
    (hp : s.storesPend t = false) (late : Bool) :
    ∃ w : State, ReturnsStatus (.ecommit t gd e none late) s w t (s.pc t + 4) gd .ok 0 ∧
      w.tse.imm = s.tse.imm ++ [4 * s.thrPart t + e] ∧ w.escStaged (4 * s.thrPart t + e) = s.escStaged (4 * s.thrPart t + e) := by
  have hx := State.escCommit_now (s := s.issued t) (p := s.thrPart t) he (by simpa using hopen) late
  obtain ⟨w, hw, only⟩ := escIns_ok h hstop (exec_ecommit_now h hp late) hl hx (s.issued_rd t _ _ _)
  refine ⟨w, hw, ?_, (only.escStaged _).trans (s.issued_escStaged t _)⟩
  rw [only.tse, State.issued_tse]

theorem eabort_open (hl : s.legal 0x69 = true) (he : e < 4) (hopen : s.escIsOpen (4 * s.thrPart t + e) = true) :
    ∃ w : State, ReturnsStatus (.eabort t gd e) s w t (s.pc t + 4) gd .ok 0 ∧ w.escState (4 * s.thrPart t + e) = 0 ∧
      w.escStaged (4 * s.thrPart t + e) = [] := by
  have hk := escIndex_lt s t he
  have hx := State.escAbort_open (s := s.issued t) (p := s.thrPart t) he (by simpa using hopen)
  obtain ⟨w, hw, only⟩ := escIns_ok h hstop (exec_eabort_mayRun h) hl hx (by
    rw [State.rd_wr_ne _ _ _ _ _ _ _ _ (regAddr_thrStat_ne_esc h.1 hk (.inl rfl))]
    exact s.issued_rd t _ _ _)
  refine ⟨w, hw, (only.get_esc hk rfl).trans ?_, (only.escStaged _).trans (State.escStaged_setStaged_same _ _ _)⟩
  rw [State.get, State.rd_wr_same]
  decide

theorem eabort_done (hl : s.legal 0x69 = true) (he : e < 4) (hdone : s.escState (4 * s.thrPart t + e) = 3) :
    ∃ w : State, ReturnsStatus (.eabort t gd e) s w t (s.pc t + 4) gd .late 0 ∧ w.escState (4 * s.thrPart t + e) = 3 ∧
      w.dsq.staged = s.dsq.staged := by
  have hx := State.escAbort_done (s := s.issued t) (p := s.thrPart t) he (by simpa using hdone)
  obtain ⟨w, hw, only⟩ := escIns_refused h hstop (exec_eabort_mayRun (gd := gd) h) hl hx (by decide)
  exact ⟨w, hw, (only.get_esc (escIndex_lt s t he) rfl).trans ((s.issued_escState t _).trans hdone),
    only.staged.trans (s.issued_staged t)⟩

section At
variable {tn slot : Nat} {late : Bool} (hl : s.legal 0x68 = true) (he : e < 4) (hopen : s.escIsOpen (4 * s.thrPart t + e) = true)
  (hp : s.storesPend t = false) (hd : (s.treg t tn).dom < 32)
  (hown : (s.treg t tn).dom = 0 ∨ (s.dom (s.treg t tn).dom).owner = s.thrPart t) (hst : (s.dom (s.treg t tn).dom).st ≠ .off)
  (hslot : s.freeSlot (s.thrPart t) = some slot)
include hl he hopen hp hd hown hst hslot

theorem ecommit_arms (hin : late = true ∨ s.ticks (s.treg t tn).dom < (s.treg t tn).t) :
    ∃ w : State, ReturnsStatus (.ecommit t gd e (some tn) late) s w t (s.pc t + 4) gd .ok slot ∧
      w.escState (4 * s.thrPart t + e) = 2 ∧ w.get F.escStat_SLOT (4 * s.thrPart t + e) = slot ∧ (w.alarm slot).st = .armed ∧
      (w.alarm slot).kind = .escrowCommit ∧ (w.alarm slot).target = 4 * s.thrPart t + e ∧ (w.alarm slot).dom = (s.treg t tn).dom ∧
      (w.alarm slot).inst = (s.treg t tn).t ∧ (w.alarm slot).period = 0 := by
  have hk := escIndex_lt s t he
  have hpast : (s.isPast (s.treg t tn).dom (s.treg t tn).t && !late) = false := by
    obtain rfl | h := hin
    · simp
    · simp [State.isPast]; omega
  have hx := State.escCommit_at (s := s.issued t) (p := s.thrPart t) (inst := (s.treg t tn).t) (late := late) he (by simpa using hopen) hd
    (by simpa using hown) (by simpa using hst) (by simpa using hslot)
  rw [State.issued_isPast, hpast, if_neg Bool.false_ne_true] at hx
  obtain ⟨w, hw, only⟩ := escIns_ok h hstop (exec_ecommit_at h hp hown late) hl hx (by
    rw [State.escArmedAt, State.put, State.put, State.rd_wr_ne _ _ _ _ _ _ _ _ (regAddr_thrStat_ne_esc h.1 hk (.inl rfl)),
      State.rd_wr_ne _ _ _ _ _ _ _ _ (regAddr_thrStat_ne_esc h.1 hk (.inl rfl))]
    exact s.issued_rd t _ _ _)
  obtain ⟨hstate, hsl, halarm⟩ := (s.issued t).escArmedAt_leaves (s.thrPart t) e (s.treg t tn).dom (s.treg t tn).t late
    (State.freeSlot_lt hslot)
  refine ⟨w, hw, (only.get_esc hk rfl).trans hstate, (only.get_esc hk rfl).trans hsl, ?_⟩
  rw [State.alarm_of_tse only.tse]
  exact halarm

theorem ecommit_late (hlate : late = false) (hin : (s.treg t tn).t ≤ s.ticks (s.treg t tn).dom) :
    ∃ w : State, ReturnsStatus (.ecommit t gd e (some tn) late) s w t (s.pc t + 4) gd .late 0 ∧ w.tse = s.tse ∧
      w.escState (4 * s.thrPart t + e) = 1 := by
  have hpast : (s.isPast (s.treg t tn).dom (s.treg t tn).t && !late) = true := by
    rw [hlate]
    simpa [State.isPast] using hin
  have hx := State.escCommit_at (s := s.issued t) (p := s.thrPart t) (inst := (s.treg t tn).t) (late := late) he (by simpa using hopen) hd
    (by simpa using hown) (by simpa using hst) (by simpa using hslot)
  rw [State.issued_isPast, hpast, if_pos rfl] at hx
  obtain ⟨w, hw, only⟩ := escIns_refused h hstop (exec_ecommit_at h hp hown late) hl hx (by decide)
  exact ⟨w, hw, only.tse.trans State.issued_tse, (only.get_esc (escIndex_lt s t he) rfl).trans
    ((s.issued_escState t _).trans (State.escState_of_isOpen hopen))⟩

end At

end Instructions

end Sys2Proof.Machine
end

section
/-! PROOF. Escrows: the host's commands, and how a commit is judged (R97, R374, R375, R377, R378, R382). -/
namespace Sys2Proof.Machine

/-! ### The registers below SUP -/

/-- The words of the registers below SUP, by bus address. -/
def State.wordsBelowSup (s : State) (a : Nat) : Word := if a < 0xa00000 then tabGet 0 s.regs a else 0

theorem State.wordsBelowSup_congr {s t : State} (h : t.regs = s.regs) : t.wordsBelowSup = s.wordsBelowSup := by
  funext a
  simp only [State.wordsBelowSup, h]

/-- A register of SUP or above it, at whatever index. -/
theorem State.wordsBelowSup_put (s : State) (f : Field) (v i j : Nat) (h : 0xa00000 ≤ (regInfo f.reg).base) :
    (s.put f v i j).wordsBelowSup = s.wordsBelowSup := by
  have hle := regAddr_base_le f.reg i j
  funext a
  simp only [State.wordsBelowSup]
  split
  · exact tabGet_tabSet_ne _ _ _ (by omega)
  · rfl

theorem State.rd_of_wordsBelowSup {s t : State} (h : t.wordsBelowSup = s.wordsBelowSup) {r : RegId} {i j : Nat}
    (hr : regAddr r i j < 0xa00000) : t.rd r i j = s.rd r i j := by
  have ha := congrFun h (regAddr r i j)
  simp only [State.wordsBelowSup, if_pos hr] at ha
  simp only [State.rd, ha]

theorem State.wordsBelowSup_log (s : State) (block inst code part sev : Nat) (data : List Byte) :
    (s.log block inst code part sev data).wordsBelowSup = s.wordsBelowSup := by
  unfold State.log
  split
  · exact State.wordsBelowSup_congr rfl
  · exact s.wordsBelowSup_put _ _ _ _ (by decide)

theorem State.wordsBelowSup_faultSticky (s : State) (n mask rise : Nat) :
    (s.faultSticky n mask rise).wordsBelowSup = s.wordsBelowSup := by
  have hcount : (s.faultCount n rise).wordsBelowSup = s.wordsBelowSup := by
    unfold State.faultCount
    split
    · exact (State.wordsBelowSup_put _ _ _ _ _ (by decide)).trans (State.wordsBelowSup_congr rfl)
    · rfl
  unfold State.faultSticky
  dsimp only
  rw [foldl_keeps State.wordsBelowSup _ (fun s p => s.wordsBelowSup_put _ _ _ _ (by decide)),
    State.wordsBelowSup_put _ _ _ _ _ (by decide), hcount]

theorem State.wordsBelowSup_pulse (s : State) (n p inst : Nat) (inj : Bool) (lane : Nat) :
    (s.pulse n p inst inj lane).wordsBelowSup = s.wordsBelowSup := by
  have hcore : ∀ (s : State) (m r : Nat) (i : Nat → Nat), (s.faultCore n m r i inj lane).wordsBelowSup = s.wordsBelowSup := by
    intro s m r i
    unfold State.faultCore
    split
    · rfl
    · exact (State.wordsBelowSup_congr (by simp)).trans (s.wordsBelowSup_faultSticky n m r)
  exact (hcore _ _ _ _).trans ((State.wordsBelowSup_put _ _ _ _ _ (by decide)).trans (State.wordsBelowSup_congr rfl))

theorem State.rd_log (s : State) (block inst code part sev : Nat) (data : List Byte) {r : RegId} {i j : Nat}
    (hr : regAddr r i j < 0xa00000) : (s.log block inst code part sev data).rd r i j = s.rd r i j :=
  State.rd_of_wordsBelowSup (s.wordsBelowSup_log block inst code part sev data) hr

/-! ### What an item for a queue leaves -/

/-- An item that hardware posts to queue q changes no register below SUP but QqSTAT of q. -/
theorem State.rd_qPostHw (s : State) {q : Nat} (l : List (Word × Bool)) {r : RegId} {i j : Nat} (hr : regAddr r i j < 0xa00000)
    (hne : regAddr r i j ≠ regAddr .qStat q 0) : (s.qPostHw q l).rd r i j = s.rd r i j := by
  have hdrop : ∀ u : State, (u.qDrop q .other).rd r i j = u.rd r i j := fun u =>
    (State.rd_of_wordsBelowSup (State.wordsBelowSup_pulse _ _ _ _ _ _) hr).trans (State.rd_wr_ne _ _ _ _ _ _ _ _ hne)
  unfold State.qPostHw
  dsimp only
  split
  · split
    · exact hdrop s
    · rfl
  · split
    · rfl
    · exact hdrop s

theorem State.qPostHw_cseqOf (s : State) (q : Nat) (l : List (Word × Bool)) : (s.qPostHw q l).dsq.cseqOf = s.dsq.cseqOf := by
  have hdrop : (s.qDrop q .other).dsq.cseqOf = s.dsq.cseqOf := by simp [State.qDrop]
  unfold State.qPostHw
  dsimp only
  split
  · split
    · exact hdrop
    · rfl
  · split
    · rfl
    · exact hdrop

/-! ### The outcome -/

theorem regAddr_dsqCseq : regAddr .dsqCseq 0 0 = 0x600008 := rfl
theorem regAddr_qStat (q : Nat) : regAddr .qStat q 0 = 0x620018 + 0x40 * q := rfl

/-- What noting an outcome leaves: ESCk_LAST holds it, and the other escrow registers and the domains are as they were (R377). -/
theorem State.escNote_leaves (s : State) {k : Nat} (hk : k < 32) (x : Word) :
    (s.escNote k x).rd .escLast k = x ∧ (s.escNote k x).escState k = s.escState k ∧ (s.escNote k x).rd .dsqCseq = s.rd .dsqCseq ∧
      (s.escNote k x).dsq.cseqOf = s.dsq.cseqOf ∧ (s.escNote k x).tse = s.tse := by
  have hq : ∀ p, (s.wr .escLast x k).get F.dsqNotify_ESC_Q p < 256 := fun p => bitsOf_lt _ _ _ (by decide) (by decide)
  have hstat : (s.wr .escLast x k).rd .escStat k = s.rd .escStat k :=
    State.rd_wr_ne _ _ _ _ _ _ _ _ (by rw [regAddr_escStat, regAddr_escLast]; omega)
  have hcseq : (s.wr .escLast x k).rd .dsqCseq = s.rd .dsqCseq :=
    State.rd_wr_ne _ _ _ _ _ _ _ _ (by rw [regAddr_dsqCseq, regAddr_escLast]; omega)
  have hlast := s.rd_wr_same .escLast x k 0
  unfold State.escNote
  dsimp only
  split
  case isFalse => exact ⟨hlast, State.get_of_rd hstat, hcseq, rfl, rfl⟩
  case isTrue =>
    have hlt := hq (k / 4)
    generalize (s.wr .escLast x k).get F.dsqNotify_ESC_Q (k / 4) = q at hlt
    have hpost : ∀ (r : RegId) (i : Nat), regAddr r i 0 < 0x620000 ∨ 0x624000 ≤ regAddr r i 0 → regAddr r i 0 < 0xa00000 →
        ((s.wr .escLast x k).qPostHw q [(x, true)]).rd r i = (s.wr .escLast x k).rd r i := fun r i hr hlow =>
      State.rd_qPostHw _ _ hlow (by rw [regAddr_qStat]; omega)
    refine ⟨(hpost .escLast k ?_ ?_).trans hlast, State.get_of_rd ((hpost .escStat k ?_ ?_).trans hstat),
      (hpost .dsqCseq 0 ?_ ?_).trans hcseq, State.qPostHw_cseqOf _ _ _, State.qPostHw_tse⟩ <;>
    · simp only [regAddr_escLast, regAddr_escStat, regAddr_dsqCseq]
      omega

theorem drainDue_of_none {s : State} (h : s.tse.due = []) : s.drainDue = s := by
  unfold State.drainDue
  generalize s.tse.due.length + s.tse.alarms.length = f
  cases f with
  | zero => rfl
  | succ f => exact if_pos h

/-- The oldest accepted commit of an open escrow is judged (R96). -/
theorem exec_escrowImmediateCommit_open {s : State} {k : Nat} {l : List Nat} (hd : s.tse.due = []) (hi : s.tse.imm = k :: l)
    (ho : s.escState k = 1) :
    exec .escrowImmediateCommit s = .next (({ s with tse := { s.tse with imm := l } } : State).escJudge k false) := by
  rw [exec_escrowImmediateCommit, execEscrowImmediateCommit, if_neg (by rw [hi]; exact List.cons_ne_nil _ _), drainDue_of_none hd,
    State.escImmediate, hi]
  exact congrArg Host.Outcome.next (if_pos ho)

/-- An escrow as its judging takes it: DONE, with no slot (R375). -/
def State.escClosed (s : State) (k : Nat) : State := (s.put F.escStat_STATE escDone k).put F.escStat_SLOT 0 k

theorem State.escClosed_state (s : State) (k : Nat) : (s.escClosed k).escState k = 3 :=
  (State.get_put_other _ F.escStat_SLOT F.escStat_STATE _ _ _ rfl (by decide) (by decide) (by decide) (by decide) (by decide)).trans
    (State.get_put_same _ F.escStat_STATE _ _ _ (by decide) (by decide))

theorem State.rd_escClosed (s : State) (k : Nat) {r : RegId} {i : Nat} (h : regAddr r i 0 ≠ regAddr .escStat k 0) :
    (s.escClosed k).rd r i = s.rd r i := (State.rd_wr_ne _ _ _ _ _ _ _ _ h).trans (State.rd_wr_ne _ _ _ _ _ _ _ _ h)

theorem foldl_min_eq {l : List Nat} {a m : Nat} (hm : m ∈ a :: l) (hle : ∀ x ∈ a :: l, m ≤ x) : l.foldl min a = m := by
  induction l generalizing a with
  | nil => exact (List.mem_singleton.1 hm).symm
  | cons b l ih =>
    simp only [List.foldl_cons]
    simp only [List.forall_mem_cons] at hle
    obtain ⟨ha, hb, hl⟩ := hle
    refine ih ?_ (by simp only [List.forall_mem_cons]; exact ⟨Nat.le_min.2 ⟨ha, hb⟩, hl⟩)
    simp only [List.mem_cons] at hm ⊢
    obtain rfl | rfl | h := hm
    · exact .inl (Nat.min_eq_left hb).symm
    · exact .inl (Nat.min_eq_right ha).symm
    · exact .inr h

/-- The conflict that a commit reports is that at the lowest address (R375). -/
theorem State.escConflict_eq {s : State} {q : Nat} {l : List (Nat × Word × Bool)} {y : Nat × Word × Bool} (hy : y ∈ l)
    (hlate : q < tabGet 0 s.dsq.cseqOf y.1) (hmin : ∀ z ∈ l, q < tabGet 0 s.dsq.cseqOf z.1 → y.1 ≤ z.1) :
    s.escConflict q l = some y.1 := by
  have hmem : y.1 ∈ (l.filter fun e => decide (q < tabGet 0 s.dsq.cseqOf e.1)).map (·.1) :=
    List.mem_map.2 ⟨y, List.mem_filter.2 ⟨hy, by simpa using hlate⟩, rfl⟩
  have hle : ∀ x ∈ (l.filter fun e => decide (q < tabGet 0 s.dsq.cseqOf e.1)).map (·.1), y.1 ≤ x := by
    intro x hx
    obtain ⟨z, hz, rfl⟩ := List.mem_map.1 hx
    obtain ⟨hz, hzl⟩ := List.mem_filter.1 hz
    exact hmin z hz (of_decide_eq_true hzl)
  unfold State.escConflict
  revert hmem hle
  generalize (l.filter fun e => decide (q < tabGet 0 s.dsq.cseqOf e.1)).map (·.1) = bad
  intro hmem hle
  cases bad with
  | nil => cases hmem
  | cons a r => exact congrArg some (foldl_min_eq hmem hle)

/-- A commit whose write set a later commit has written fails, and applies nothing (R97, R375). -/
theorem State.escJudge_conflict {s : State} {k : Nat} (hk : k < 32) (step : Bool) {y : Nat × Word × Bool} (hy : y ∈ s.escStaged k)
    (hlate : (s.rd .escSeq k).toNat < tabGet 0 s.dsq.cseqOf y.1)
    (hmin : ∀ z ∈ s.escStaged k, (s.rd .escSeq k).toNat < tabGet 0 s.dsq.cseqOf z.1 → y.1 ≤ z.1) :
    let u := s.escJudge k step
    u.escState k = 3 ∧ u.rd .escLast k = BitVec.ofNat 64 (escWord .escrowConflict k step (s.escStaged k).length y.1) ∧
      u.rd .dsqCseq = s.rd .dsqCseq ∧ u.dsq.cseqOf = s.dsq.cseqOf ∧ u.tse = s.tse := by
  intro u
  have hseq : (s.escClosed k).rd .escSeq k = s.rd .escSeq k :=
    s.rd_escClosed k (by rw [regAddr_escSeq, regAddr_escStat]; omega)
  have hconf : (s.escClosed k).escConflict ((s.escClosed k).rd .escSeq k).toNat (s.escStaged k) = some y.1 := by
    rw [hseq]
    exact State.escConflict_eq hy hlate hmin
  have hu : u = ((s.escClosed k).escNote k
      (BitVec.ofNat 64 (escWord .escrowConflict k step (s.escStaged k).length y.1))).log 0x06 0xff 0x0601 (k / 4) 1
      (beBytes 8 (escWord .escrowConflict k step (s.escStaged k).length y.1)) := by
    simp only [u, State.escJudge]
    rw [← State.escClosed, hconf]
  obtain ⟨hl, hst, hc, hco, ht⟩ := (s.escClosed k).escNote_leaves hk
    (BitVec.ofNat 64 (escWord .escrowConflict k step (s.escStaged k).length y.1))
  have hstat : regAddr .escStat k 0 < 0xa00000 := by rw [regAddr_escStat]; omega
  have hlast : regAddr .escLast k 0 < 0xa00000 := by rw [regAddr_escLast]; omega
  rw [hu]
  refine ⟨?_, (State.rd_log _ _ _ _ _ _ _ hlast).trans hl, ?_, ?_, ?_⟩
  · rw [← s.escClosed_state k, ← hst]
    exact State.get_of_rd (f := F.escStat_STATE) (State.rd_log _ _ _ _ _ _ _ hstat)
  · rw [State.rd_log _ _ _ _ _ _ _ (by decide), hc, s.rd_escClosed k (by rw [regAddr_dsqCseq, regAddr_escStat]; omega)]
  · rw [State.log_dsq, hco]; rfl
  · rw [State.log_tse, ht]; rfl

/-- A commit with no staged writes applies (R375). -/
theorem State.escJudge_empty {s : State} {k : Nat} (hk : k < 32) (step : Bool) (he : s.escStaged k = []) :
    let u := s.escJudge k step
    u.escState k = 3 ∧ u.rd .escLast k = BitVec.ofNat 64 (escWord .ok k step 0 0) ∧ u.rd .dsqCseq = s.rd .dsqCseq ∧ u.tse = s.tse := by
  intro u
  have hu : u = ((s.escClosed k).tally (.ev 0x06 0x04 0xff (k / 4) 1 0)).escNote k (BitVec.ofNat 64 (escWord .ok k step 0 0)) := by
    simp only [u, State.escJudge, he]
    rfl
  obtain ⟨hl, hst, hc, -, ht⟩ := ((s.escClosed k).tally (.ev 0x06 0x04 0xff (k / 4) 1 0)).escNote_leaves hk
    (BitVec.ofNat 64 (escWord .ok k step 0 0))
  rw [hu]
  exact ⟨hst.trans (s.escClosed_state k), hl, hc.trans (s.rd_escClosed k (by rw [regAddr_dsqCseq, regAddr_escStat]; omega)), ht⟩

/-! ### The host's commands -/

/-- A host escrow command whose operation succeeds (R382). -/
theorem State.escCmd_ok {s v : State} {c : Caller} {op r : Nat} {x : EscRes} (ha : s.admits op = true)
    (hr : s.resetting (s.cPart c) = false) (hx : x = (.ok, r, v)) (result : List Byte) :
    s.escCmd c op x result = v.complete c op .ok result := by
  subst hx
  exact State.runCmd_ok_of_admits ha _ c (firstFail_cons_pass hr _ _) result

theorem State.escState_aborted (s : State) (k : Nat) : (s.wr .escStat 0 k).escState k = 0 := by
  rw [State.escState, State.get, State.rd_wr_same]
  decide

end Sys2Proof.Machine

open Sys2Proof Sys2Proof.Machine

/-- Settles O31: the instructions, then the host's commands, then the judging of an immediate commit. -/
theorem escrowsStageJudgeAndCommit : Obligations.EscrowsStageJudgeAndCommit := by
  refine ⟨?instructions, ?host, ?judge⟩
  case instructions =>
    intro s t gd e h hstop he next p k
    refine ⟨fun hl => ⟨ebegin_opens h hstop hl he, ebegin_busy h hstop hl⟩, ?_, fun hl hopen hp late => ⟨?_, ?_⟩,
      fun hl => ⟨eabort_open h hstop hl he, eabort_done h hstop hl he⟩⟩
    · intro ga gs hl hopen a x old ha hr hst
      refine ⟨fun hover hlen => ?_, fun hafter hlen => ?_⟩
      · have hstage : stageIn a (s.g t gs) (p == 0) old = _ := stageIn_over hover
        obtain ⟨w, hw, hstaged⟩ := ewr_stages (gd := gd) h hstop hl he hopen ha hr hst hstage (by simpa using hlen)
        exact ⟨w, by simpa using hw, hstaged⟩
      · have hstage : stageIn a (s.g t gs) (p == 0) old = _ := stageIn_after hafter
        obtain ⟨w, hw, hstaged⟩ := ewr_stages (gd := gd) h hstop hl he hopen ha hr hst hstage (by simpa using hlen)
        exact ⟨w, by simpa using hw, hstaged⟩
    · exact ecommit_accepts h hstop hl he hopen hp late
    · intro tn slot x hd hown hst hslot
      exact ⟨fun hin => ecommit_arms h hstop hl he hopen hp hd hown hst hslot hin,
        fun hlate hin => ecommit_late h hstop hl he hopen hp hd hown hst hslot hlate hin⟩
  case host =>
    intro s c e he hr p k
    refine ⟨fun ha hfree hheld => ?_, fun a w ha hopen hal hreach hst hafter hlen => ?_, fun late ha hopen => ?_, fun ha hopen => ?_⟩
    · have hx := State.escBegin_ok he hfree hheld
      exact ⟨s.escOpened k, by rw [exec_escBegin, execEscBegin, State.escCmd_ok ha hr hx, hx], State.escOpened_state _ _,
        State.escOpened_staged _ _, State.escOpened_seq _ _⟩
    · have hstage := stageIn_after (w := w) (own := s.stagesOwn c) hafter
      have hx := State.escWrite_ok (w := w) (own := s.stagesOwn c) he hopen hal hst (by rw [hstage]; simpa using hlen)
      rw [hstage] at hx
      refine ⟨s.setStaged k (s.escStaged k ++ [(a, w, s.stagesOwn c)]), ?_, State.escStaged_setStaged_same _ _ _, rfl⟩
      rw [exec_escWrite, execEscWrite, hreach, State.escCmd_ok ha hr hx, hx, List.length_append, List.length_singleton]
    · have hx := State.escCommit_now he hopen late
      rw [exec_escCommit, execEscCommit]
      exact congrArg Host.Outcome.next (State.escCmd_ok ha hr hx [])
    · have hx := State.escAbort_open he hopen
      exact ⟨(s.setStaged k []).wr .escStat 0 k, by rw [exec_escAbort, execEscAbort, State.escCmd_ok ha hr hx],
        State.escState_aborted _ _, State.escStaged_setStaged_same _ _ _, rfl⟩
  case judge =>
    intro s k l hd hi hk ho staged late word
    have hexec := exec_escrowImmediateCommit_open hd hi ho
    refine ⟨fun y hy hlate hmin => ⟨_, hexec, ?_⟩, fun hempty => ⟨_, hexec, ?_⟩⟩
    · obtain ⟨hst, hlast, hcseq, hco, ht⟩ :=
        State.escJudge_conflict (s := { s with tse := { s.tse with imm := l } }) hk false hy hlate hmin
      refine ⟨hst, hlast.trans ?_, hcseq, hco, by rw [ht], by rw [ht]⟩
      simp [word, escWord, Status.code, staged, State.escStaged]
    · obtain ⟨hst, hlast, hcseq, ht⟩ := State.escJudge_empty (s := { s with tse := { s.tse with imm := l } }) hk false hempty
      refine ⟨hst, hlast.trans ?_, hcseq, by rw [ht], by rw [ht]⟩
      simp [word, escWord, Status.code, hempty]
end

section
/-! PROOF. TREAD and TSNAP: what a capture brings (R73, R312, R314). -/
namespace Sys2Proof.Machine

/-! ### Times at the start of a cycle -/

theorem movedAux_of_tse {s u : State} (h : s.tse = u.tse) (f n : Nat) : movedAux s f n = movedAux u f n := by
  induction f generalizing n with
  | zero => simp [movedAux, State.dom_of_tse h]
  | succ f ih => simp [movedAux, State.dom_of_tse h, ih]

theorem State.startTicks_of_tse {s u : State} (h : s.tse = u.tse) (n : Nat) : s.startTicks n = u.startTicks n := by
  rw [State.startTicks, State.startTicks, State.domU_of_tse h, State.movedU, State.movedU, movedAux_of_tse h]

/-- What a capture of a domain gives, where its time is in R1's format. -/
def State.captured (s : State) (n : Nat) : TReg := { t := (s.startTicks n).toNat, dom := n, b := (s.dom n).bound }

@[simp] theorem State.issued_captured (s : State) (t n : Nat) : (s.issued t).captured n = s.captured n := by
  rw [State.captured, State.captured, State.startTicks_of_tse State.issued_tse, State.issued_dom]

/-- A domain's time is in R1's format. -/
def State.inFormat (s : State) (n : Nat) : Prop := 0 ≤ s.startTicks n ∧ s.startTicks n < timeSpan

theorem State.issued_inFormat {s : State} {n : Nat} (t : Nat) (h : s.inFormat n) : (s.issued t).inFormat n := by
  rw [State.inFormat, State.startTicks_of_tse State.issued_tse]
  exact h

theorem State.capTs_of_inFormat {s : State} {l : List Nat} (h : ∀ n ∈ l, s.inFormat n) : s.capTs l = (l.map s.captured, s) := by
  induction l with
  | nil => rfl
  | cons n l ih =>
    simp only [List.forall_mem_cons] at h
    have hcap : s.capT n = (s.captured n, s) := if_pos h.1
    simp only [State.capTs, hcap, ih h.2, List.map_cons]

/-! ### Consecutive time registers -/

theorem State.treg_setTreg (s : State) (t n m : Nat) (x : TReg) :
    (s.setTreg t n x).treg t m = if m % 8 = n % 8 then x else s.treg t m := by
  simp only [State.treg, State.setTreg, State.thr_setThr_same]
  by_cases h : m % 8 = n % 8
  · rw [if_pos h, h, tabGet_tabSet_same]
  · rw [if_neg h, tabGet_tabSet_ne _ _ _ h]

/-- The writes of a capture: consecutive time registers from tn on. -/
def tregWrites (tn : Nat) (xs : List TReg) (off : Nat) : List (Nat × TReg) := (xs.zipIdx off).map fun e => (tn + e.2, e.1)

theorem State.treg_foldl_other (s : State) (t tn : Nat) {xs : List TReg} {off n : Nat}
    (h : ∀ k < xs.length, n % 8 ≠ (tn + (off + k)) % 8) :
    ((tregWrites tn xs off).foldl (fun s e => s.setTreg t e.1 e.2) s).treg t n = s.treg t n := by
  induction xs generalizing s off with
  | nil => rfl
  | cons x xs ih =>
    have h0 := h 0 (by simp)
    refine (ih (s.setTreg t (tn + off) x) (off := off + 1) fun k hk => ?_).trans ?_
    · have := h (k + 1) (by simpa using hk)
      rwa [Nat.add_assoc off 1 k, Nat.add_comm 1 k]
    · rw [State.treg_setTreg, if_neg (by simpa using h0)]

theorem State.treg_foldl_same (s : State) (t tn : Nat) {xs : List TReg} {off k : Nat} (hk : k < xs.length) (h8 : xs.length ≤ 8) :
    ((tregWrites tn xs off).foldl (fun s e => s.setTreg t e.1 e.2) s).treg t (tn + (off + k)) = xs[k] := by
  induction xs generalizing s off k with
  | nil => cases hk
  | cons x xs ih =>
    simp only [List.length_cons] at h8
    cases k with
    | zero =>
      refine (State.treg_foldl_other (s.setTreg t (tn + off) x) t tn (off := off + 1) fun k hk => by omega).trans ?_
      rw [State.treg_setTreg, if_pos (by simp)]
      rfl
    | succ k =>
      have := ih (s.setTreg t (tn + off) x) (off := off + 1) (k := k) (by simpa using hk) (by omega)
      rw [Nat.add_assoc off 1 k, Nat.add_comm 1 k] at this
      exact this

/-! ### The instructions -/

section Capture
variable {s : State} {t : Nat}

theorem domMine_iff (s : State) (t n : Nat) : s.domMine t n = true ↔ n = 0 ∨ (s.dom n).owner = s.thrPart t := by
  simp [State.domMine]

/-- What a capture of the domains of a list leaves as it arrives. -/
structure Captured (s u w : State) (t tn next : Nat) (l : List Nat) : Prop where
  waits : u.thrState t = 4
  arrives : exec (.threadReplyArrive t) u = .next w
  dest : ∀ k (h : k < l.length), w.treg t (tn + k) = s.captured l[k]
  others : ∀ n : Nat, (∀ k < l.length, n % 8 ≠ (tn + k) % 8) → w.treg t n = s.treg t n
  g : ∀ r : Nat, w.g t r = s.g t r
  pc : w.pc t = next % 2 ^ 21
  ready : w.thrState t = 1
  v : s.setV w t (l.any fun n => (s.dom n).bound == Config.unb)
  only : OnlyThread s w t

/-- A capture arrives, with times xs for the registers from tn on. -/
def State.capturing (s : State) (t tn next : Nat) (xs : List TReg) (flags : Nat) : State :=
  s.awaits t next 0 [] (tregWrites tn xs 0) flags

def State.afterCapture (s : State) (t tn next : Nat) (xs : List TReg) (flags : Nat) : State :=
  (s.capturing t tn next xs flags).answers t [] (tregWrites tn xs 0) flags

theorem State.afterCapture_treg {tn next flags k : Nat} {xs : List TReg} (hk : k < xs.length) (h8 : xs.length ≤ 8) :
    (s.afterCapture t tn next xs flags).treg t (tn + k) = xs[k] := by
  have h := State.treg_foldl_same (s.capturing t tn next xs flags) t tn (off := 0) hk h8
  rw [Nat.zero_add] at h
  exact (State.answers_treg t (tn + k)).trans h

theorem State.afterCapture_treg_other {tn next flags n : Nat} {xs : List TReg} (h : ∀ k < xs.length, n % 8 ≠ (tn + k) % 8) :
    (s.afterCapture t tn next xs flags).treg t n = s.treg t n :=
  (State.answers_treg t n).trans ((State.treg_foldl_other (s.capturing t tn next xs flags) t tn (off := 0)
    (by simpa using h)).trans (State.awaits_treg t n))

theorem State.afterCapture_g {tn next flags : Nat} {xs : List TReg} (ht : t < 128) (r : Nat) :
    (s.afterCapture t tn next xs flags).g t r = s.g t r := by
  have hT := foldl_keeps (fun u : State => u.g t r) (fun u (e : Nat × TReg) => u.setTreg t e.1 e.2) (fun _ _ => rfl)
    (tregWrites tn xs 0) (s.capturing t tn next xs flags)
  rw [State.afterCapture, State.answers_g ht, State.writes, List.foldl_nil]
  exact hT.trans (State.awaits_g ht r)

theorem State.afterCapture_pc {tn next flags : Nat} {xs : List TReg} (ht : t < 128) :
    (s.afterCapture t tn next xs flags).pc t = next % 2 ^ 21 := by
  rw [State.pc, State.afterCapture, State.get_answers ht rfl (by decide) (by decide) (by decide)]
  exact State.park_pc thReply

theorem State.afterCapture_flag {tn next flags : Nat} {xs : List TReg} (f : Flag) :
    (s.afterCapture t tn next xs flags).flag t f = bitOf flags f.bit := State.answers_flag f

theorem OnlyThread.afterCapture {tn next flags : Nat} {xs : List TReg} (ht : t < 128) :
    OnlyThread s (s.afterCapture t tn next xs flags) t := (OnlyThread.awaits ht).trans (OnlyThread.answers ht)

theorem captured_of_snapT {l : List Nat} (tn next : Nat) (ht : t < 128) (hstop : s.getB F.thrStat_STOP_PEND t = false)
    (hmine : ∀ n ∈ l, s.domMine t n = true) (hin : ∀ n ∈ l, s.inFormat n) (h8 : l.length ≤ 8) :
    ∃ w, Captured s ((s.issued t).snapT t tn next l) w t tn next l := by
  have hu : (s.issued t).snapT t tn next l = (s.issued t).capturing t tn next (l.map s.captured)
      (flagTo (s.get F.thrStat_FLAGS t) .v (l.any fun n => (s.dom n).bound == Config.unb)) := by
    have hall : l.all ((s.issued t).domMine t) = true := List.all_eq_true.2 fun n hn => by simpa using hmine n hn
    rw [State.snapT, if_pos hall, State.capTs_of_inFormat fun n hn => State.issued_inFormat t (hin n hn)]
    simp only [funext (s.issued_captured t), List.any_map, ← s.issued_get t F.thrStat_FLAGS t 0]
    rfl
  rw [hu]
  have hstop' : (s.issued t).getB F.thrStat_STOP_PEND t = false := (s.issued_getB t _ _ _).trans hstop
  refine ⟨(s.issued t).afterCapture t tn next (l.map s.captured) _, State.park_thrState thReply,
    exec_threadReplyArrive_awaits ht hstop', fun k hk => ?_, fun n hn => ?_, fun r => ?_, State.afterCapture_pc ht,
    State.answers_thrState, ⟨?_, fun f hf => ?_⟩, (OnlyThread.issued s t).trans (OnlyThread.afterCapture ht)⟩
  · rw [State.afterCapture_treg (by simpa using hk) (by simpa using h8), List.getElem_map]
  · rw [State.afterCapture_treg_other (by simpa using hn), State.issued_treg]
  · rw [State.afterCapture_g ht, State.issued_g]
  · rw [State.afterCapture_flag, bitOf_flagTo, if_pos rfl]
  · rw [State.afterCapture_flag, bitOf_flagTo, if_neg hf, State.flag]

end Capture

end Sys2Proof.Machine
end

section
/-! PROOF. TREAD, TSNAP, TWAIT and TEMIT (R312, R314, R319–R323). -/
namespace Sys2Proof.Machine

section
variable {s : State} {t : Nat}

/-! ### TREAD and TSNAP -/

theorem exec_tread_mayRun (h : s.mayRun t 4) {tn dom : Nat} (hd : dom < 32) :
    exec (.tread t tn dom) s = .next ((s.issued t).snapT t tn (s.pc t + 4) [dom]) := by
  rw [exec_tread, execTread, Nat.mod_eq_of_lt hd, State.issue_of_mayRun h _ (by simp [DIns.ordered])]
  simp only [State.effect, State.issued_pc]

/-- The domains that TSNAP names: five bits of each byte of the register (R314). -/
def tsnapDoms (x : Word) (count : Nat) : List Nat := (List.range count).map fun k => (BitVec.extractLsb' (8 * k) 5 x).toNat

theorem exec_tsnap_mayRun (h : s.mayRun t 4) {tn count gs : Nat} :
    exec (.tsnap t tn count gs) s = .next (if 8 < tn + count then (s.issued t).raise t 1
      else (s.issued t).snapT t tn (s.pc t + 4) (tsnapDoms (s.g t gs) count)) := by
  have hdoms : tsnapDoms (s.g t gs) count = (List.range count).map fun k => (s.g t gs).toNat / 2 ^ (8 * k) % 32 := by
    simp only [tsnapDoms, BitVec.extractLsb'_toNat, Nat.shiftRight_eq_div_pow, Nat.reducePow]
  rw [exec_tsnap, execTsnap, State.issue_of_mayRun h _ (by simp [DIns.ordered]), hdoms]
  simp only [State.effect, State.issued_pc, State.issued_g]

/-- A domain of another partition among those named raises ACCESS (R314). -/
theorem snapT_denied {tn next n : Nat} {l : List Nat} (hn : n ∈ l) (hm : s.domMine t n = false) :
    (s.issued t).snapT t tn next l = (s.issued t).faultThr t 4 0 (s.pc t) 0 := by
  have hall : ¬ l.all ((s.issued t).domMine t) = true := fun hall => by
    have := List.all_eq_true.1 hall n hn
    rw [State.issued_domMine, hm] at this
    cases this
  rw [State.snapT, if_neg hall, State.raise, State.issued_pc]
  rfl

/-! ### TWAIT -/

theorem exec_twait_mayRun (h : s.mayRun t 4) {tn gd : Nat} :
    exec (.twait t tn gd) s = .next ((s.issued t).twait t tn gd (s.pc t + 4)) := by
  rw [exec_twait, execTwait, State.issue_of_mayRun h _ (by simp [DIns.ordered])]
  simp only [State.effect, State.issued_pc]

theorem State.armSlot_fire (s : State) (k part dom inst : Nat) (kind : AlarmKind) (target period : Nat) (fire late : Bool) :
    ((s.armSlot k part dom inst kind target period fire late).alarm k).fire = fire := by
  simp only [State.armSlot, State.alarm, State.setAlarm, tabGet_tabSet_same]

/-- The wait slot of thread t armed at the time in a time register, and the thread parked (R319). -/
def State.waiting (s : State) (t tn gd : Nat) : State :=
  ((s.issued t).armSlot (s.get F.thrStat_SLOT t) (s.thrPart t) (s.treg t tn).dom (s.treg t tn).t .dsqWake t 0 true
    (s.isPast (s.treg t tn).dom (s.treg t tn).t)).park t thAlarm (s.pc t + 4) gd

theorem twait_waits {tn gd : Nat} (hm : s.domMine t (s.treg t tn).dom = true) (hst : (s.dom (s.treg t tn).dom).st ≠ .off) :
    (s.issued t).twait t tn gd (s.pc t + 4) = s.waiting t tn gd := by
  simp only [State.twait, State.issued_treg, State.issued_domMine, hm, State.issued_dom, Bool.not_true, Bool.false_eq_true, if_false,
    if_neg hst, State.issued_get, State.issued_thrPart, State.issued_isPast]
  rfl

/-- What the firing of its wait slot leaves of a thread that TWAIT has parked (R320). -/
theorem State.wakeThr_of_waiting {u : State} (ht : t < 128) (hu : u.thrState t = 2) {gd : Nat} (hgd : (u.thr t).gd = gd) (lat : Nat)
    (l st : Bool) :
    let w := u.wakeThr t lat l st
    w.thrState t = 1 ∧ (gd % 32 ≠ 0 → w.g t gd = BitVec.ofNat 64 lat) ∧ w.flag t .l = l ∧ w.flag t .s = st ∧
      ∀ f : Flag, f ≠ .l → f ≠ .s → w.flag t f = u.flag t f := by
  intro w
  have hw : w = ((u.setG t gd (BitVec.ofNat 64 lat)).setFlags t [(.l, l), (.s, st)]).setThrState t thReady := by
    simp only [w, State.wakeThr, hu, hgd, if_true]
  have hflag : ∀ f : Flag, w.flag t f = bitOf (flagsTo (u.get F.thrStat_FLAGS t) [(.l, l), (.s, st)]) f.bit := fun f => by
    have hget : w.get F.thrStat_FLAGS t = flagsTo (u.get F.thrStat_FLAGS t) [(.l, l), (.s, st)] % 2 ^ 6 := by
      rw [hw, State.setThrState, State.thrStat_put_other (f := F.thrStat_STATE) (g := F.thrStat_FLAGS) _ rfl rfl (by decide) (by decide)
        (by decide), State.setFlags, State.get_put_same _ F.thrStat_FLAGS _ _ _ (by decide) (by decide), State.get_setG ht rfl]
      rfl
    rw [State.flag, hget, bitOf_mod_flags]
  refine ⟨?_, fun hne => ?_, ?_, ?_, fun f hl hs => ?_⟩
  · rw [hw]
    exact State.get_put_same _ F.thrStat_STATE _ _ _ (by decide) (by decide)
  · rw [hw, State.setThrState, State.g_put ht rfl, State.setFlags, State.g_put ht rfl, State.g_setG_same, if_neg hne]
  · rw [hflag]; simp [flagsTo, bitOf_flagTo]
  · rw [hflag]; simp [flagsTo, bitOf_flagTo]
  · rw [hflag]; simp [flagsTo, bitOf_flagTo, hl, hs, State.flag]

theorem State.park_gd (st next gd : Nat) : ((s.park t st next gd).thr t).gd = gd :=
  congrArg Thr.gd (State.thr_setThr_same s t { s.thr t with at' := s.pc t, gd := gd })

/-- What TWAIT leaves: the alarm of the wait slot, and the thread parked with its flags as they were (R319). -/
theorem State.waiting_leaves {tn gd : Nat} :
    let u := s.waiting t tn gd
    let a := u.alarm (s.get F.thrStat_SLOT t)
    u.thrState t = 2 ∧ u.pc t = (s.pc t + 4) % 2 ^ 21 ∧ a.st = .armed ∧ a.kind = .dsqWake ∧ a.target = t ∧
      a.dom = (s.treg t tn).dom ∧ a.inst = (s.treg t tn).t ∧ a.fire = true ∧ a.period = 0 ∧
      a.lateArm = s.isPast (s.treg t tn).dom (s.treg t tn).t ∧ ∀ f : Flag, u.flag t f = s.flag t f := by
  intro u a
  obtain ⟨hst, -, hdom, hkind, hinst, htgt, hper, hlate⟩ := State.armSlot_alarm_same (s.issued t) (s.get F.thrStat_SLOT t)
    (s.thrPart t) (s.treg t tn).dom (s.treg t tn).t .dsqWake t 0 true (s.isPast (s.treg t tn).dom (s.treg t tn).t)
  have hfire := State.armSlot_fire (s.issued t) (s.get F.thrStat_SLOT t)
    (s.thrPart t) (s.treg t tn).dom (s.treg t tn).t .dsqWake t 0 true (s.isPast (s.treg t tn).dom (s.treg t tn).t)
  refine ⟨State.park_thrState thAlarm, State.park_pc thAlarm, hst, hkind, htgt, hdom, hinst, hfire, hper, hlate, fun f => ?_⟩
  have hget : u.get F.thrStat_FLAGS t = s.get F.thrStat_FLAGS t :=
    (State.get_park thAlarm rfl (by decide) (by decide) (by decide)).trans
      ((State.get_congr (State.armSlot_regs _ _ _ _ _ _ _ _ _ _) _ _ _).trans (s.issued_get t _ _ _))
  rw [State.flag, State.flag, hget]

/-! ### TEMIT -/

@[simp] theorem State.issued_targetOk (s : State) (t : Nat) (k : AlarmKind) (x : Nat) : (s.issued t).targetOk k x = s.targetOk k x := by
  rw [State.issued_eq]; rfl
@[simp] theorem State.issued_targetDenied (s : State) (t : Nat) (k : AlarmKind) (x p : Nat) :
    (s.issued t).targetDenied k x p = s.targetDenied k x p := by
  rw [State.issued_eq]; rfl
@[simp] theorem State.issued_kindRefused (s : State) (t k : Nat) : (s.issued t).kindRefused k = s.kindRefused k := by
  rw [State.issued_eq]; rfl

theorem exec_temit_mayRun (h : s.mayRun t 4) {tn gd gs : Nat} (hgs : gs ≠ 31) :
    exec (.temit t tn gd gs) s = .next ((s.issued t).temit t tn gd gs (s.pc t + 4)) := by
  rw [exec_temit, execTemit, State.issue_of_mayRun h _ (by simp [DIns.ordered])]
  simp only [State.effect, State.issued_pc, if_neg hgs]

/-- An arming writes no register of a thread: the escrow registers, at whatever index, lie above. -/
theorem State.rd_armAlarm (ht : t < 128) (slot p dom inst kind target period policy : Nat) :
    (s.armAlarm slot p dom inst kind target period policy).rd .thrStat t = s.rd .thrStat t := by
  have hreopen : ∀ a : Alarm, (s.reopenEscrow a).rd .thrStat t = s.rd .thrStat t := fun a => by
    have hne : regAddr .thrStat t 0 ≠ regAddr .escStat a.target 0 := by
      rw [regAddr_escStat, show regAddr .thrStat t 0 = 0x610008 + 0x200 * t from rfl]
      exact fun e => absurd ht (by omega)
    unfold State.reopenEscrow
    split
    · exact (State.rd_wr_ne _ _ _ _ _ _ _ _ hne).trans (State.rd_wr_ne _ _ _ _ _ _ _ _ hne)
    · rfl
  unfold State.armAlarm
  dsimp only
  rw [State.rd_congr (State.armSlot_regs _ _ _ _ _ _ _ _ _ _)]
  split
  · exact hreopen _
  · rfl

/-- What TEMIT's operand word names (R321). -/
structure TemitWord (s : State) (t : Nat) (d : Word) (kind target policy : Nat) (pick : Bool) (slot : Nat) : Prop where
  kind_eq : d.toNat % 256 = kind
  target_eq : d.toNat / 2 ^ 16 % 2 ^ 16 = target
  policy_eq : d.toNat / 2 ^ 32 % 2 = policy
  pick_eq : (d.toNat / 2 ^ 60 % 2 == 1) = pick
  slot_eq : (if pick then (s.freeSlot (s.thrPart t)).getD 4096 else d.toNat / 2 ^ 48 % 4096) = slot
  mayTake : ∀ x ∈ (if pick then [((s.freeSlot (s.thrPart t)).isNone, Status.busy)] else s.slotChecks (s.thrPart t) slot), x.1 = false

theorem temitWord_of_operands {d : Word} {slot : Nat}
    (hslot : if d.getLsbD 60 then s.freeSlot (s.thrPart t) = some slot
      else slot = (BitVec.extractLsb' 48 12 d).toNat ∧ 8 ≤ slot ∧
        (if s.slotHeld slot then s.slotPart slot = s.thrPart t else s.quotaLeft (s.thrPart t) = true)) :
    TemitWord s t d (BitVec.extractLsb' 0 8 d).toNat (BitVec.extractLsb' 16 16 d).toNat (BitVec.extractLsb' 32 1 d).toNat
      (d.getLsbD 60) slot where
  kind_eq := by simp [BitVec.extractLsb'_toNat]
  target_eq := by simp [BitVec.extractLsb'_toNat, Nat.shiftRight_eq_div_pow]
  policy_eq := by simp [BitVec.extractLsb'_toNat, Nat.shiftRight_eq_div_pow]
  pick_eq := by rw [BitVec.getLsbD, Nat.testBit_eq_decide_div_mod_eq, beq_eq_decide]
  slot_eq := by
    cases hp : d.getLsbD 60 <;> simp only [hp, if_true, if_false, Bool.false_eq_true] at hslot ⊢
    · simp [hslot.1, BitVec.extractLsb'_toNat, Nat.shiftRight_eq_div_pow]
    · simp [hslot]
  mayTake := by
    cases hp : d.getLsbD 60 <;> simp only [hp, if_true, if_false, Bool.false_eq_true] at hslot ⊢
    · obtain ⟨he, h8, hheld⟩ := hslot
      exact slotChecks_pass h8 (he ▸ (BitVec.extractLsb' 48 12 d).isLt) hheld
    · simp [hslot]

/-- A TEMIT whose checks pass arms its alarm, shows in L whether the instant had passed, and parks its thread (R321–R323). -/
theorem temit_accepts {tn gd gs next kind target policy slot : Nat} {pick : Bool} {k : AlarmKind}
    (hd : TemitWord s t (s.g t gs) kind target policy pick slot) (hm : s.domMine t (s.treg t tn).dom = true)
    (hl : s.legal 0x18 = true) (hmode : s.kindRefused kind = false) (hk : armKind kind = some k)
    (hchecks : ∀ x ∈ s.armChecks (s.thrPart t) (s.treg t tn).dom (s.treg t tn).t kind target (s.g t (gs + 1)).toNat policy, x.1 = false)
    (hlate : (s.armLate (s.treg t tn).dom (s.treg t tn).t kind policy).1 = false) :
    s.temit t tn gd gs next = ((s.armAlarm slot (s.thrPart t) (s.treg t tn).dom (s.treg t tn).t kind target (s.g t (gs + 1)).toNat
      policy).setFlags t [(.l, s.isPast (s.treg t tn).dom (storedInst k (s.treg t tn).t))]).parkStatus t next gd .ok slot := by
  unfold State.temit
  extract_lets x p w per kind' target' policy' pick' slot' checks k' past refused st s1 s2 s3
  have hkind : kind' = kind := hd.kind_eq
  have htarget : target' = target := hd.target_eq
  have hpolicy : policy' = policy := hd.policy_eq
  have hpick : pick' = pick := hd.pick_eq
  have hslot : slot' = slot := by rw [← hd.slot_eq, ← hpick]
  have hk' : k' = k := by simp only [k', hkind, hk, Option.getD_some]
  have hnone : firstFail checks = none := by
    refine firstFail_eq_none ?_
    simp only [checks, hkind, htarget, hpolicy, hpick, hslot, List.forall_mem_append, List.forall_mem_singleton]
    exact ⟨⟨hchecks, hd.mayTake⟩, hlate⟩
  have hrefused : refused = false := by simp only [refused, hkind, hl, hmode, Bool.not_true, Bool.or_self]
  have hst : st = .ok := by simp only [st, hrefused, hnone, Bool.false_eq_true, if_false, Option.getD_none]
  simp only [s3, s2, s1, hm, hrefused, hst, hslot, hkind, htarget, hpolicy, past, hk', x, p, per, Bool.not_true, Bool.false_eq_true,
    if_false, if_true, beq_self_eq_true, Bool.true_and]

end

end Sys2Proof.Machine
end

section
/-! PROOF. The time instructions, from issue to reply (R312, R314, R319–R323). -/
namespace Sys2Proof.Machine

@[simp] theorem State.issued_slotChecks (s : State) (t p slot : Nat) : (s.issued t).slotChecks p slot = s.slotChecks p slot := by
  simp only [State.slotChecks, State.issued_slotHeld, State.issued_slotPart, State.issued_quotaLeft]

@[simp] theorem State.issued_armChecks (s : State) (t p dom inst kind target period policy : Nat) :
    (s.issued t).armChecks p dom inst kind target period policy = s.armChecks p dom inst kind target period policy := by
  simp only [State.armChecks, State.issued_targetOk, State.issued_targetDenied, State.issued_dom]

@[simp] theorem State.issued_armLate (s : State) (t dom inst kind policy : Nat) :
    (s.issued t).armLate dom inst kind policy = s.armLate dom inst kind policy := by
  simp only [State.armLate, State.issued_isPast]

theorem TemitWord.issued {s : State} {t : Nat} {d : Word} {kind target policy slot : Nat} {pick : Bool}
    (hd : TemitWord s t d kind target policy pick slot) : TemitWord (s.issued t) t d kind target policy pick slot where
  kind_eq := hd.kind_eq
  target_eq := hd.target_eq
  policy_eq := hd.policy_eq
  pick_eq := hd.pick_eq
  slot_eq := by simpa using hd.slot_eq
  mayTake := by simpa only [State.issued_freeSlot, State.issued_thrPart, State.issued_slotChecks] using hd.mayTake

theorem domMine_false {s : State} {t n : Nat} (h : ¬ (n = 0 ∨ (s.dom n).owner = s.thrPart t)) : s.domMine t n = false :=
  Bool.eq_false_iff.2 fun hm => h ((domMine_iff s t n).1 hm)

theorem State.setFlags_flag {s : State} {t : Nat} {l : List (Flag × Bool)} (f : Flag) :
    (s.setFlags t l).flag t f = bitOf (flagsTo (s.get F.thrStat_FLAGS t) l) f.bit := by
  rw [State.flag, State.setFlags, State.get_put_same _ F.thrStat_FLAGS _ _ _ (by decide) (by decide)]
  exact bitOf_mod_flags _ f

theorem Captured.wroteT {s u w : State} {t tn next dom : Nat} (hw : Captured s u w t tn next [dom]) :
    WroteT s w t next tn (w.treg t tn) where
  dest := rfl
  others n hn := hw.others n fun k hk => by
    obtain rfl : k = 0 := by simpa using hk
    exact hn
  g := hw.g
  pc := hw.pc
  ready := hw.ready
  only := hw.only

theorem captured_spec {s : State} {n : Nat} (hin : s.inFormat n) :
    ((s.captured n).t : Int) = s.startTicks n ∧ (s.captured n).dom = n ∧ (s.captured n).b = (s.dom n).bound :=
  ⟨Int.toNat_of_nonneg hin.1, rfl, rfl⟩

section
variable {s : State} {t : Nat} (h : s.mayRun t 4) (hstop : s.getB F.thrStat_STOP_PEND t = false)
include h hstop

/-- TREAD of a domain that the thread may name (R312). -/
theorem tread_captures {tn dom : Nat} (hd : dom < 32) (hmine : dom = 0 ∨ (s.dom dom).owner = s.thrPart t) (hin : s.inFormat dom) :
    ∃ u w : State, exec (.tread t tn dom) s = .next u ∧ Captured s u w t tn (s.pc t + 4) [dom] := by
  obtain ⟨w, hw⟩ := captured_of_snapT tn (s.pc t + 4) h.1 hstop (l := [dom]) (by simpa [domMine_iff] using hmine)
    (by simpa using hin) (by simp)
  exact ⟨_, w, exec_tread_mayRun h hd, hw⟩

/-- TSNAP of domains that the thread may name (R314). -/
theorem tsnap_captures {tn count gs : Nat} (h8 : tn + count ≤ 8)
    (hdoms : ∀ n ∈ tsnapDoms (s.g t gs) count, (n = 0 ∨ (s.dom n).owner = s.thrPart t) ∧ s.inFormat n) :
    ∃ u w : State, exec (.tsnap t tn count gs) s = .next u ∧
      Captured s u w t tn (s.pc t + 4) (tsnapDoms (s.g t gs) count) := by
  have hlen : (tsnapDoms (s.g t gs) count).length = count := by simp [tsnapDoms]
  obtain ⟨w, hw⟩ := captured_of_snapT tn (s.pc t + 4) h.1 hstop (l := tsnapDoms (s.g t gs) count)
    (fun n hn => (domMine_iff s t n).2 (hdoms n hn).1) (fun n hn => (hdoms n hn).2) (by omega)
  exact ⟨_, w, (exec_tsnap_mayRun h).trans (by rw [if_neg (by omega)]), hw⟩

/-- A TEMIT whose checks pass, from issue to reply (R321–R323). -/
theorem temit_arms {tn gd gs kind target policy slot : Nat} {pick : Bool} {k : AlarmKind} (hgs : gs ≠ 31)
    (hd : TemitWord s t (s.g t gs) kind target policy pick slot)
    (hm : (s.treg t tn).dom = 0 ∨ (s.dom (s.treg t tn).dom).owner = s.thrPart t)
    (hl : s.legal 0x18 = true) (hmode : s.kindRefused kind = false) (hk : armKind kind = some k)
    (hchecks : ∀ x ∈ s.armChecks (s.thrPart t) (s.treg t tn).dom (s.treg t tn).t kind target (s.g t (gs + 1)).toNat policy, x.1 = false)
    (hlate : (s.armLate (s.treg t tn).dom (s.treg t tn).t kind policy).1 = false) :
    ∃ w : State, ReturnsStatus (.temit t tn gd gs) s w t (s.pc t + 4) gd .ok slot ∧ (w.alarm slot).st = .armed ∧
      (w.alarm slot).dom = (s.treg t tn).dom ∧ (w.alarm slot).inst = storedInst k (s.treg t tn).t ∧ (w.alarm slot).kind = k ∧
      (w.alarm slot).target = target ∧ (w.alarm slot).period = (s.g t (gs + 1)).toNat ∧
      w.flag t .l = s.isPast (s.treg t tn).dom (storedInst k (s.treg t tn).t) := by
  have hmine : (s.issued t).domMine t ((s.issued t).treg t tn).dom = true := by
    rw [State.issued_treg, State.issued_domMine]
    exact (domMine_iff s t _).2 hm
  have hu := temit_accepts (s := s.issued t) (gd := gd) (next := s.pc t + 4) (by simpa using hd.issued) hmine (by simpa using hl)
    (by simpa using hmode) hk (by simpa using hchecks) (by simpa using hlate)
  simp only [State.issued_thrPart, State.issued_treg, State.issued_g, State.issued_isPast] at hu
  have hrd := (State.rd_armAlarm (s := s.issued t) h.1 slot (s.thrPart t) (s.treg t tn).dom (s.treg t tn).t kind target
    (s.g t (gs + 1)).toNat policy).trans (s.issued_rd t _ _ _)
  obtain ⟨hst, -, hdom, hkind, hinst, htgt, hper, -⟩ := State.armAlarm_slot (s := s.issued t) (slot := slot) (p := s.thrPart t)
    (dom := (s.treg t tn).dom) (inst := (s.treg t tn).t) (target := target) (period := (s.g t (gs + 1)).toNat) (policy := policy) hk
  generalize (s.issued t).armAlarm slot (s.thrPart t) (s.treg t tn).dom (s.treg t tn).t kind target (s.g t (gs + 1)).toNat policy = v
    at hu hrd hst hdom hkind hinst htgt hper
  have hflag : ∀ f, (v.setFlags t [(.l, s.isPast (s.treg t tn).dom (storedInst k (s.treg t tn).t))]).flag t f =
      if f = .l then s.isPast (s.treg t tn).dom (storedInst k (s.treg t tn).t) else s.flag t f := fun f => by
    rw [State.setFlags_flag, State.flag, State.get_of_rd (f := F.thrStat_FLAGS) hrd]
    simp only [flagsTo, List.foldl_cons, List.foldl_nil, bitOf_flagTo]
  have hpend : (v.setFlags t [(.l, s.isPast (s.treg t tn).dom (storedInst k (s.treg t tn).t))]).getB F.thrStat_STOP_PEND t = false := by
    rw [State.getB, State.setFlags, State.thrStat_put_other (f := F.thrStat_FLAGS) (g := F.thrStat_STOP_PEND) _ rfl rfl (by decide)
      (by decide) (by decide), State.get_of_rd (f := F.thrStat_STOP_PEND) hrd]
    exact hstop
  have only := OnlyThread.afterStatus (v := v.setFlags t [(.l, s.isPast (s.treg t tn).dom (storedInst k (s.treg t tn).t))])
    (t := t) (next := s.pc t + 4) (gd := gd) (st := .ok) (result := slot) h.1
  refine ⟨_, returnsStatus_of_parkStatus h.1 ((exec_temit_mayRun h hgs).trans (congrArg _ hu)) hpend ?_, ?_⟩
  · rw [hflag, if_neg (by decide)]
  · have halarm := State.alarm_of_tse (only.tse.trans State.setFlags_tse) slot
    refine ⟨halarm ▸ hst, halarm ▸ hdom, halarm ▸ hinst, halarm ▸ hkind, halarm ▸ htgt, halarm ▸ hper, ?_⟩
    rw [State.afterStatus_flag]
    exact (hflag .l).trans (if_pos rfl)

end

end Sys2Proof.Machine

open Sys2Proof Sys2Proof.Machine

/-- Settles O28, instruction by instruction. -/
theorem timeInstructionsReadAndArm : Obligations.TimeInstructionsReadAndArm := by
  intro s t h hstop next p mine inFormat captured
  have hformat : ∀ n, inFormat n → s.inFormat n := fun n hn => by
    simpa [inFormat, State.inFormat, timeSpan] using hn
  refine ⟨?tread, ?tsnap, ?twait, ?temit⟩
  case tread =>
    intro tn dom hd
    refine ⟨fun hm hin => ?captures, fun hm => ?denied⟩
    case captures =>
      obtain ⟨u, w, hexec, hw⟩ := tread_captures (tn := tn) h hstop hd hm (hformat _ hin)
      have hdest : w.treg t tn = s.captured dom := hw.dest 0 (by simp)
      refine ⟨u, w, hexec, hw.waits, hw.arrives, ?_, hw.wroteT, by simpa [beq_eq_decide] using hw.v⟩
      rw [hdest]
      exact captured_spec (hformat _ hin)
    case denied => rw [exec_tread_mayRun h hd, snapT_denied (List.mem_singleton_self dom) (domMine_false hm)]
  case tsnap =>
    intro tn count gs hc dom
    have hmem : ∀ k < count, dom k ∈ tsnapDoms (s.g t gs) count := fun k hk => List.mem_map.2 ⟨k, List.mem_range.2 hk, rfl⟩
    refine ⟨fun h8 => ?long, fun h8 hm => ?denied, fun h8 hdoms => ?captures⟩
    case long =>
      rw [exec_tsnap_mayRun h, if_pos h8, State.raise, State.issued_pc]
      rfl
    case denied =>
      obtain ⟨k, hk, hm⟩ := hm
      rw [exec_tsnap_mayRun h, if_neg (by omega), snapT_denied (hmem k hk) (domMine_false hm)]
    case captures =>
      obtain ⟨u, w, hexec, hw⟩ := tsnap_captures (tn := tn) (count := count) (gs := gs) h hstop h8 fun n hn => by
        obtain ⟨k, hk, rfl⟩ := List.mem_map.1 hn
        obtain ⟨hm, hin⟩ := hdoms k (List.mem_range.1 hk)
        exact ⟨hm, hformat _ hin⟩
      have hlen : (tsnapDoms (s.g t gs) count).length = count := by simp [tsnapDoms]
      have hany : (tsnapDoms (s.g t gs) count).any (fun n => (s.dom n).bound == Config.unb) =
          decide (∃ k < count, (s.dom (dom k)).bound = 2 ^ 64 - 1) := by
        rw [Bool.eq_iff_iff]
        simp [tsnapDoms, dom]
      refine ⟨u, w, hexec, hw.waits, hw.arrives, fun k hk => ?_, fun n hn hout => hw.others n fun k hk => by omega, hw.g, hw.ready,
        hany ▸ hw.v, hw.only⟩
      rw [hw.dest k (by omega)]
      simpa [tsnapDoms, captured, dom] using captured_spec (hformat _ (hdoms k hk).2)
  case twait =>
    intro tn gd x k
    have hmine : mine x.dom → s.domMine t x.dom = true := (domMine_iff s t _).2
    refine ⟨fun hm hst => ?waits, fun hm hst => ?off, fun hm => ?denied⟩
    case waits =>
      obtain ⟨hstate, hpc, ha, hkind, htgt, hdom, hinst, hfire, hper, hlate, hflags⟩ :=
        State.waiting_leaves (s := s) (t := t) (tn := tn) (gd := gd)
      refine ⟨s.waiting t tn gd, (exec_twait_mayRun h).trans (congrArg _ (twait_waits (hmine hm) hst)), hstate, hpc, ha, hkind, htgt,
        hdom, hinst, hfire, hper, hlate, fun lat l st => ?_⟩
      obtain ⟨hready, hword, hl, hs, hrest⟩ := State.wakeThr_of_waiting h.1 hstate (State.park_gd _ _ _) lat l st
      exact ⟨hready, hword, hl, hs, fun f hfl hfs => (hrest f hfl hfs).trans (hflags f)⟩
    case off =>
      rw [exec_twait_mayRun h, State.twait, State.issued_treg, State.issued_domMine, hmine hm, State.issued_dom, if_neg (by simp),
        if_pos hst, State.raise, State.issued_pc]
      rfl
    case denied =>
      rw [exec_twait_mayRun h, State.twait, State.issued_treg, State.issued_domMine, domMine_false hm, Bool.not_false, if_pos rfl,
        State.raise, State.issued_pc]
      rfl
  case temit =>
    intro tn gd gs k slot hgs x d kind target policy period past hm hl hmode hk htgt hgrid hlead hst hd hden hlate hslot
    exact temit_arms h hstop hgs (temitWord_of_operands hslot) hm hl hmode hk
      (armChecks_pass hk hd (s.g t (gs + 1)).isLt (BitVec.extractLsb' 32 1 d).isLt htgt hgrid hlead hst hm hden) (armLate_pass hk hlate)
end

section
/-! RULES. Quotients rounded to the nearest and away from zero, next to the rational quotient (R303, R814). -/
namespace Sys2Proof.Machine

theorem natCast_halfUp_eq_round (a : Nat) {b : Nat} (hb : 0 < b) :
    (((2 * a + b) / (2 * b) : Nat) : Int) = round ((a : ℚ) / b) := by
  have hb' : (b : ℚ) ≠ 0 := by exact_mod_cast hb.ne'
  have hq : (a : ℚ) / b + 1 / 2 = ((2 * a + b : Nat) : ℚ) / (2 * b : Nat) := by
    push_cast
    field_simp
  rw [round_eq, hq, Rat.floor_natCast_div_natCast, Int.natCast_ediv]

/-- A rounded quotient is within half a unit of the quotient. -/
theorem abs_roundDiv_sub_le (a : Int) {b : Nat} (hb : 0 < b) : |(roundDiv a b : ℚ) - (a : ℚ) / b| ≤ 1 / 2 := by
  have h : |(((2 * a.natAbs + b) / (2 * b) : Nat) : ℚ) - (a.natAbs : ℚ) / b| ≤ 1 / 2 := by
    rw [abs_sub_comm, ← Int.cast_natCast ((2 * a.natAbs + b) / (2 * b)), natCast_halfUp_eq_round _ hb]
    exact abs_sub_round _
  simp only [roundDiv, Int.ofNat_eq_natCast]
  split
  case isTrue hneg =>
    rw [show (a : ℚ) = -(a.natAbs : ℚ) by rw [Nat.cast_natAbs, abs_of_neg hneg]; push_cast; ring, ← abs_neg]
    convert h using 2
    rw [Int.cast_neg, Int.cast_natCast]
    ring
  case isFalse hpos =>
    rw [show (a : ℚ) = (a.natAbs : ℚ) by rw [Nat.cast_natAbs, abs_of_nonneg (by omega)]]
    exact_mod_cast h

/-- A quotient rounded away from zero is within a unit beyond the quotient, on its side of zero. -/
theorem awayDiv_bounds (a : Int) {b : Nat} (hb : 0 < b) : |(a : ℚ) / b| ≤ |(awayDiv a b : ℚ)| ∧
    |(awayDiv a b : ℚ)| < |(a : ℚ) / b| + 1 ∧ 0 ≤ (a : ℚ) / b * awayDiv a b := by
  have hpos : (0 : ℚ) < b := by exact_mod_cast hb
  have hle : a.natAbs ≤ ceilDiv a.natAbs b * b := by
    have h := Nat.lt_div_mul_add (a := a.natAbs + b - 1) hb
    simp only [ceilDiv]
    omega
  have hlt : ceilDiv a.natAbs b * b < a.natAbs + b := by
    have h := Nat.div_mul_le_self (a.natAbs + b - 1) b
    simp only [ceilDiv]
    omega
  have habs : |(a : ℚ) / b| = (a.natAbs : ℚ) / b := by rw [abs_div, abs_of_pos hpos, Nat.cast_natAbs, Int.cast_abs]
  have hval : |(awayDiv a b : ℚ)| = ceilDiv a.natAbs b := by
    simp only [awayDiv, Int.ofNat_eq_natCast]
    split <;> simp
  rw [habs, hval, div_le_iff₀ hpos, ← sub_lt_iff_lt_add, lt_div_iff₀ hpos, sub_mul, one_mul, sub_lt_iff_lt_add]
  refine ⟨by exact_mod_cast hle, by exact_mod_cast hlt, ?_⟩
  simp only [awayDiv, Int.ofNat_eq_natCast]
  split
  case isTrue hneg =>
    rw [Int.cast_neg]
    refine mul_nonneg_of_nonpos_of_nonpos (div_nonpos_of_nonpos_of_nonneg ?_ hpos.le) ?_
    · exact_mod_cast hneg.le
    · simp
  case isFalse hge =>
    refine mul_nonneg (div_nonneg ?_ hpos.le) ?_
    · exact_mod_cast not_lt.mp hge
    · simp

end Sys2Proof.Machine
end

section
/-! PROOF. The time of an accepted edge (R129). -/
namespace Sys2Proof.Machine

theorem rateAux_succ (s : State) (f n : Nat) : rateAux s (f + 1) n =
    if (s.dom n).kind = .derived then rateAux s f (s.dom n).parent + slewStep (s.dom n) else (s.dom n).foff + slewStep (s.dom n) := rfl

/-- A domain's rate takes no more fuel than its number, since its parents' numbers fall (R55). -/
theorem rateAux_of_lt {s : State} (hp : s.parentsLower) {f g n : Nat} (hf : n < f) (hg : n < g) : rateAux s f n = rateAux s g n := by
  induction n using Nat.strong_induction_on generalizing f g with
  | _ n ih =>
    obtain ⟨f, rfl⟩ := Nat.exists_eq_add_one_of_ne_zero (Nat.ne_of_gt (Nat.zero_lt_of_lt hf))
    obtain ⟨g, rfl⟩ := Nat.exists_eq_add_one_of_ne_zero (Nat.ne_of_gt (Nat.zero_lt_of_lt hg))
    simp only [rateAux_succ]
    split
    case isTrue hk =>
      have hlow := hp n hk
      rw [ih _ hlow (f := f) (g := g) (by omega) (by omega)]
    case isFalse => rfl

theorem rateAux_of_tse {s t : State} (h : s.tse = t.tse) (f n : Nat) : rateAux s f n = rateAux t f n := by
  induction f generalizing n with
  | zero => rfl
  | succ f ih => simp only [rateAux_succ, State.dom_of_tse h, ih]

theorem State.domRate_of_tse {s t : State} (h : s.tse = t.tse) (n : Nat) : s.domRate n = t.domRate n := rateAux_of_tse h 32 n

theorem State.domRate_of_not_derived {s : State} {n : Nat} (h : (s.dom n).kind ≠ .derived) :
    s.domRate n = (s.dom n).foff + slewStep (s.dom n) := (rateAux_succ s 31 n).trans (if_neg h)

theorem State.domRate_of_derived {s : State} (hp : s.parentsLower) {n : Nat} (hn : n < 32) (h : (s.dom n).kind = .derived) :
    s.domRate n = s.domRate (s.dom n).parent + slewStep (s.dom n) := by
  have hlow := hp n h
  rw [State.domRate, rateAux_succ, if_pos h, rateAux_of_lt hp (f := 31) (g := 32) (by omega) (by omega), State.domRate]

end Sys2Proof.Machine

open Sys2Proof Sys2Proof.Machine

/-- Settles O10: X scaled is a rounded quotient, and a DERIVED domain's rate is its parent's with its own slew. -/
theorem edgeTimesAreScaled : Obligations.EdgeTimesAreScaled := by
  intro s dom t src p b hpar hdom hp hb delay x
  refine ⟨⟨_, rfl, ?_⟩, State.domRate_of_not_derived, State.domRate_of_derived hpar hdom⟩
  convert abs_roundDiv_sub_le _ (b := 2 ^ 56) (by decide) using 3
  simp only [x, delay, Nat.mod_eq_of_lt hp, Nat.mod_eq_of_lt hb]
  push_cast
  rfl
end

section
/-! RULES. RIM's registers and records: what a field reads as after a write of another field of the same index, and what each write of
a record leaves (R108–R140). -/
namespace Sys2Proof.Machine

/-! ### Fields at one index -/

/-- Field g stands apart from field f at every index that they share: in a family of the same strides at another base, or in the same
register without a bit in common. -/
def Field.besides (g f : Field) : Bool :=
  decide (f.hi < 64) && decide (f.lo ≤ f.hi) && decide (g.hi < 64) && decide (g.lo ≤ g.hi) &&
    (g.reg == f.reg && (decide (g.hi < f.lo) || decide (f.hi < g.lo)) ||
      (regInfo g.reg).si == (regInfo f.reg).si && (regInfo g.reg).sj == (regInfo f.reg).sj &&
        (regInfo g.reg).base != (regInfo f.reg).base)

section Field
variable (s : State) {f g : Field} (v i j : Nat)

/-- A write of a field leaves every field that stands apart from it. -/
@[simp] theorem State.get_put_besides (h : g.besides f = true) : (s.put f v i j).get g i j = s.get g i j := by
  simp only [Field.besides, Bool.and_eq_true, Bool.or_eq_true, decide_eq_true_eq, beq_iff_eq, bne_iff_ne] at h
  obtain ⟨⟨⟨⟨hf, hfl⟩, hg⟩, hgl⟩, ⟨hreg, hbits⟩ | ⟨⟨hsi, hsj⟩, hbase⟩⟩ := h
  · exact s.get_put_other f g v i j hreg hf hg hfl hgl hbits
  · refine s.get_put_ne f g v i j i j ?_
    simp only [regAddr, hsi, hsj]
    omega

@[simp] theorem State.getB_put_besides (h : g.besides f = true) : (s.put f v i j).getB g i j = s.getB g i j := by
  simp only [State.getB, s.get_put_besides v i j h]

@[simp] theorem State.getI_put_besides (h : g.besides f = true) : (s.put f v i j).getI g i j = s.getI g i j := by
  simp only [State.getI, s.get_put_besides v i j h]

/-- A register without an index lies below every family of a higher base. -/
@[simp] theorem State.get_put_above (h : regAddr g.reg 0 0 < (regInfo f.reg).base) : (s.put f v i j).get g = s.get g := by
  have hle := regAddr_base_le f.reg i j
  exact s.get_put_ne f g v i j 0 0 (by omega)

@[simp] theorem State.getB_put_above (h : regAddr g.reg 0 0 < (regInfo f.reg).base) : (s.put f v i j).getB g = s.getB g := by
  simp only [State.getB, s.get_put_above v i j h]

@[simp] theorem State.getI_put_above (h : regAddr g.reg 0 0 < (regInfo f.reg).base) : (s.put f v i j).getI g = s.getI g := by
  simp only [State.getI, s.get_put_above v i j h]

/-- A flag reads as the low bit that was written. -/
theorem State.getB_put_same (hf : f.hi < 64) (hl : f.lo = f.hi) : (s.put f v i j).getB f i j = (v % 2 == 1) := by
  rw [State.getB, s.get_put_same f v i j hf hl.le, hl, Nat.sub_self, Nat.zero_add, pow_one]

end Field

/-- The code of a number that is not negative is the number; a negative one's is its complement. -/
theorem natCast_codeOf {w : Nat} {x : Int} (hlo : -(2 ^ w : Nat) ≤ x) (hhi : x < (2 ^ w : Nat)) :
    (codeOf w x : Int) = if 0 ≤ x then x else x + (2 ^ w : Nat) := by
  have hpos : ((2 ^ w : Nat) : Int) ≠ 0 := by positivity
  rw [codeOf, Int.ofNat_eq_natCast, Int.toNat_of_nonneg (Int.emod_nonneg _ hpos)]
  split
  case isTrue h => exact Int.emod_eq_of_lt h hhi
  case isFalse h => rw [← Int.add_emod_right, Int.emod_eq_of_lt (by omega) (by omega)]

/-- A field read as two's complement gives back a number within its range. -/
theorem signedOf_codeOf {w : Nat} (hw : 0 < w) {x : Int} (hlo : -(2 ^ (w - 1) : Nat) ≤ x) (hhi : x < (2 ^ (w - 1) : Nat)) :
    signedOf w (codeOf w x) = x := by
  have hp : 2 ^ w = 2 * 2 ^ (w - 1) := by rw [← pow_succ', Nat.sub_add_cancel hw]
  have hc := natCast_codeOf (w := w) (x := x) (by omega) (by omega)
  simp only [signedOf, Nat.mod_eq_of_lt (codeOf_lt w x), Int.ofNat_eq_natCast]
  split at hc <;> split <;> omega

/-- The code of a field's two's complement reading is the field. -/
theorem codeOf_signedOf {w v : Nat} (hv : v < 2 ^ w) : codeOf w (signedOf w v) = v := by
  have hmod : ((v : Int) % (2 ^ w : Nat)).toNat = v := by
    rw [Int.emod_eq_of_lt (Int.natCast_nonneg v) (by exact_mod_cast hv), Int.toNat_natCast]
  simp only [codeOf, signedOf, Nat.mod_eq_of_lt hv, Int.ofNat_eq_natCast]
  split
  case isTrue => exact hmod
  case isFalse => rw [Int.sub_emod_right, hmod]

/-- A signed field read after it was written with a number of its range. -/
theorem State.getI_putI_same (s : State) {f : Field} (i j : Nat) (hf : f.hi < 64) (hl : f.lo ≤ f.hi) {x : Int}
    (hlo : -(2 ^ (f.hi - f.lo) : Nat) ≤ x) (hhi : x < (2 ^ (f.hi - f.lo) : Nat)) : (s.putI f x i j).getI f i j = x := by
  rw [State.getI, State.putI, s.get_put_same f _ i j hf hl, Nat.mod_eq_of_lt (codeOf_lt _ _)]
  exact signedOf_codeOf (Nat.succ_pos _) hlo hhi

/-- Saturation leaves a number of its range. -/
theorem satInt_of_fits {w : Nat} {x : Int} (hlo : -(2 ^ (w - 1) : Nat) ≤ x) (hhi : x < (2 ^ (w - 1) : Nat)) : satInt w x = x := by
  simp only [satInt, clampInt, Int.ofNat_eq_natCast]
  rw [if_neg (by omega), if_neg (by omega)]

theorem satInt_fits (w : Nat) (x : Int) : -(2 ^ (w - 1) : Nat) ≤ satInt w x ∧ satInt w x < (2 ^ (w - 1) : Nat) := by
  have hpos : 0 < 2 ^ (w - 1) := Nat.two_pow_pos _
  simp only [satInt, clampInt, Int.ofNat_eq_natCast]
  split
  case isTrue => omega
  case isFalse => split <;> omega

/-! ### The records of monitors and TDCs -/

theorem State.getI_congr {s t : State} (h : s.regs = t.regs) (f : Field) (i j : Nat) : s.getI f i j = t.getI f i j := by
  simp only [State.getI, State.get_congr h]

theorem State.mon_of_rim {s t : State} (h : s.rim = t.rim) (n : Nat) : s.mon n = t.mon n := by rw [State.mon, State.mon, h]

theorem State.tdc_of_rim {s t : State} (h : s.rim = t.rim) (n : Nat) : s.tdc n = t.tdc n := by rw [State.tdc, State.tdc, h]

section Mon
variable (s : State) (n : Nat) (x : InMon) (f : Field) (v i j : Nat)

@[simp] theorem State.setMon_get : (s.setMon n x).get f i j = s.get f i j := State.get_congr (s.setMon_regs n x) f i j
@[simp] theorem State.setMon_getB : (s.setMon n x).getB f i j = s.getB f i j := State.getB_congr (s.setMon_regs n x) f i j
@[simp] theorem State.setMon_getI : (s.setMon n x).getI f i j = s.getI f i j := State.getI_congr (s.setMon_regs n x) f i j
@[simp] theorem State.setMon_mon : (s.setMon n x).mon n = x := tabGet_tabSet_same _ _ _ _
@[simp] theorem State.put_mon : (s.put f v i j).mon n = s.mon n := State.mon_of_rim (s.put_rim f v i j) n

end Mon

section Tdc
variable (s : State) (t : Nat) (x : Tdc) (f : Field) (v i j : Nat)

@[simp] theorem State.setTdc_get : (s.setTdc t x).get f i j = s.get f i j := State.get_congr (s.setTdc_regs t x) f i j
@[simp] theorem State.setTdc_getI : (s.setTdc t x).getI f i j = s.getI f i j := State.getI_congr (s.setTdc_regs t x) f i j
@[simp] theorem State.put_tdc : (s.put f v i j).tdc t = s.tdc t := State.tdc_of_rim (s.put_rim f v i j) t
@[simp] theorem State.setTdc_tdc : (s.setTdc t x).tdc t = x := tabGet_tabSet_same _ _ _ _

end Tdc

end Sys2Proof.Machine
end

section
/-! PROOF. The monitors of an input: gaps, the accept time, edges, and the end of a fast gate (R110, R113–R118, R821). -/
namespace Sys2Proof.Machine

variable {s : State} {n : Nat}

/-- An input that RIM takes edges of has a nominal frequency of at least 1 Hz (R109). -/
theorem State.inLive_nom (h : s.inLive n = true) : 65536 ≤ s.get F.inNom_NOM_FREQ n := by
  simp only [State.inLive, State.inBad, Bool.and_eq_true, Bool.not_eq_true', Bool.and_eq_false_iff, Bool.or_eq_false_iff,
    decide_eq_false_iff_not] at h
  obtain ⟨⟨hon, hoff | ⟨⟨⟨-, hlow⟩, -⟩, -⟩⟩, -⟩ := h
  · rw [hon] at hoff; cases hoff
  · omega

/-! ### The frequency monitor forced (R116) -/

@[simp] theorem State.fmForce_mon (s : State) (n : Nat) : (s.fmForce n).mon n = { s.mon n with hold := 0, held := false } :=
  State.setMon_mon _ _ _

theorem State.fmForce_freqOk (s : State) (n : Nat) : (s.fmForce n).getB F.inStat_FREQ_OK n = false :=
  State.getB_put_same _ _ _ _ (by decide) rfl

@[simp] theorem State.fmForce_getB (s : State) (n : Nat) {g : Field} (h : g.besides F.inStat_FREQ_OK = true) :
    (s.fmForce n).getB g n = s.getB g n := State.getB_put_besides _ _ _ _ h

@[simp] theorem State.fmForce_getI (s : State) (n : Nat) {g : Field} (h : g.besides F.inStat_FREQ_OK = true) :
    (s.fmForce n).getI g n = s.getI g n := State.getI_put_besides _ _ _ _ h

/-! ### Gaps and the accept time (R113, R116) -/

theorem exec_actGapTimeout_live (hn : n < 24) (hl : s.inLive n = true) : ∃ u : State,
    exec (.actGapTimeout n) s = .next (u.monShow n) ∧ u.getB F.inStat_REJ_GAP n = true ∧ u.getB F.inStat_ACT_OK n = false ∧
      u.getB F.inStat_FREQ_OK n = false ∧ u.getB F.inStat_PRESENT n = false ∧ (u.mon n).hold = 0 := by
  have hc : ¬ (decide (24 ≤ n) || !s.inLive n) = true := by simp [hl, hn]
  refine ⟨_, by rw [exec_actGapTimeout, execActGapTimeout, if_neg hc], ?_⟩
  simp (decide := true) [State.fmForce_freqOk, State.putB, State.getB_put_same]

theorem exec_actAcceptTimeout_present (hn : n < 24) (hl : s.inLive n = true) (hp : s.getB F.inStat_PRESENT n = true) :
    exec (.actAcceptTimeout n) s = .next ((s.putB F.inStat_ACT_OK true n).monShow n) := by
  have hc : ¬ (decide (24 ≤ n) || !s.inLive n || !s.getB F.inStat_PRESENT n) = true := by simp [hl, hn, hp]
  rw [exec_actAcceptTimeout, execActAcceptTimeout, if_neg hc]

/-! ### Edges (R110, R113) -/

/-- The prescaler leaves the registers, and counts the edge and the gap. -/
theorem State.prescale_mon (s : State) (n : Nat) (rise : Bool) (gap : Nat) : (s.prescale n rise gap).mon n =
    { s.mon n with
      pre := if rise = s.getB F.inCfg_SLOPE n then (s.mon n).pre else
        if (s.mon n).pre = 0 then 2 ^ s.get F.inCfg_PRESCALE n - 1 else (s.mon n).pre - 1
      gap := (s.mon n).gap + gap } := State.setMon_mon _ _ _

@[simp] theorem State.prescale_regs (s : State) (n : Nat) (rise : Bool) (gap : Nat) : (s.prescale n rise gap).regs = s.regs :=
  State.setMon_regs _ _ _

/-- The prescaler on an edge that passes, seen from the monitors. -/
theorem State.prescale_passed (hpre : (s.mon n).pre = 0) {rise : Bool} (hr : rise ≠ s.getB F.inCfg_SLOPE n) (gap : Nat) :
    (s.prescale n rise gap).mon n =
      { s.mon n with pre := 2 ^ s.get F.inCfg_PRESCALE n - 1, gap := (s.mon n).gap + gap } := by
  rw [State.prescale_mon, if_neg hr, if_pos hpre]

@[simp] theorem State.prescale_d0Span (s : State) (n : Nat) (rise : Bool) (gap cycles : Nat) :
    (s.prescale n rise gap).d0Span cycles = s.d0Span cycles := by
  rw [State.d0Span, State.d0Span, State.domRate_of_tse State.prescale_tse]

/-- The model's test of an early edge is the rule's, with the quotients cleared of their divisors (R113). -/
theorem State.isGlitch_iff (h : 0 < s.get F.inNom_NOM_FREQ n) (gap : Nat) :
    s.isGlitch n gap = true ↔ (gap : ℚ) / 1250000000 <
      (min 3 (s.get F.inAct_EARLY n) : ℚ) / 4 * (2 ^ s.get F.inCfg_PRESCALE n / (s.get F.inNom_NOM_FREQ n / 65536)) := by
  have hpos : (0 : ℚ) < s.get F.inNom_NOM_FREQ n := by exact_mod_cast h
  have hmin : (min 3 (s.get F.inAct_EARLY n) : ℚ) = ((min 3 (s.get F.inAct_EARLY n) : Nat) : ℚ) := by push_cast; rfl
  rw [State.isGlitch, decide_eq_true_iff, hmin, ← Nat.cast_lt (α := ℚ)]
  generalize min 3 (s.get F.inAct_EARLY n) = early
  rw [div_lt_iff₀ (by norm_num), div_div_eq_mul_div, mul_div_assoc', div_mul_eq_mul_div, lt_div_iff₀ hpos, pow_add]
  push_cast
  constructor <;> intro h <;> linarith

/-- What a prescaled edge leaves of the monitors' record (R113, R114). -/
def State.monEdge (s : State) (n : Nat) : InMon :=
  { s.mon n with
    seen := true
    gap := 0
    cur := (s.mon n).cur.edge (if (s.mon n).seen then s.d0Span (s.mon n).gap else 0) }

theorem State.actEdge_of_glitch (hs : (s.mon n).seen = true) (hg : s.isGlitch n (s.mon n).gap = true) : ∃ u : State,
    s.actEdge n = u.monShow n ∧ u.getB F.inStat_REJ_GLITCH n = true ∧ u.getB F.inStat_ACT_OK n = false ∧
      u.getB F.inStat_FREQ_OK n = false ∧ u.getB F.inStat_PRESENT n = true ∧
      u.mon n = { s.monEdge n with hold := 0, held := false } := by
  refine ⟨_, by rw [State.actEdge, hs, hg]; exact if_pos rfl, ?_⟩
  simp (decide := true) [State.fmForce_freqOk, State.putB, State.getB_put_same, State.monEdge, hs]

theorem State.actEdge_of_not_glitch (h : ((s.mon n).seen && s.isGlitch n (s.mon n).gap) = false) :
    (s.actEdge n).getB F.inStat_PRESENT n = true ∧ (s.actEdge n).getB F.inStat_ACT_OK n = s.getB F.inStat_ACT_OK n ∧
      (s.actEdge n).getB F.inStat_REJ_GLITCH n = s.getB F.inStat_REJ_GLITCH n ∧ (s.actEdge n).mon n = s.monEdge n := by
  have he : s.actEdge n = (s.putB F.inStat_PRESENT true n).setMon n (s.monEdge n) := by rw [State.actEdge, h]; rfl
  rw [he]
  simp (decide := true) [State.putB, State.getB_put_same]

theorem exec_refinEdge_live (hn : n < 24) (hl : s.inLive n = true) (hd : s.tse.due = []) (rise : Bool) (gap : Nat)
    (tdc : List (Nat × Nat × Nat)) : exec (.refinEdge n ⟨rise, gap⟩ tdc) s = .next (if s.edgePasses n rise then
      (((s.prescale n rise gap).actEdge n).edgeToAdplls n).edgeToEmus n (reading tdc) else s.prescale n rise gap) := by
  rw [exec_refinEdge, execRefinEdge, drainDue_of_none hd, State.rimEdge, if_pos hn, if_neg (by simp [hl])]

theorem State.edgePasses_iff (s : State) (n : Nat) (rise : Bool) :
    s.edgePasses n rise = true ↔ rise ≠ s.getB F.inCfg_SLOPE n ∧ (s.mon n).pre = 0 := by
  simp [State.edgePasses]

/-! ### The end of a fast gate (R114, R115, R118) -/

/-- The frequency of `e` prescaled periods in `t` units u of D0, as a fraction off the nominal one (R114). -/
def State.fmDf (s : State) (n e t : Nat) : ℚ := (s.fmNum n e t : ℚ) / (t * s.get F.inNom_NOM_FREQ n : Nat)

/-- The estimate as the quotient of the measured and the nominal span (R114). -/
theorem State.fmDf_eq (hnom : 0 < s.get F.inNom_NOM_FREQ n) (e : Nat) {t : Nat} (ht : 0 < t) : s.fmDf n e t =
    (e * (2 ^ s.get F.inCfg_PRESCALE n / (s.get F.inNom_NOM_FREQ n / 65536))) / (t / (Config.secTicks * Config.uPerTick)) - 1 := by
  have hn : (s.get F.inNom_NOM_FREQ n : ℚ) ≠ 0 := by exact_mod_cast hnom.ne'
  have ht' : (t : ℚ) ≠ 0 := by exact_mod_cast ht.ne'
  simp only [State.fmDf, State.fmNum, Int.ofNat_eq_natCast, pow_add]
  push_cast
  field_simp

/-- |Δf| in 0.1 ppb times the divisor of Δf, which the model compares with limits. -/
def State.fmMag (s : State) (n e t : Nat) : Nat := (s.fmNum n e t).natAbs * 10000000000

theorem State.natCast_fmMag {e t : Nat} (h : 0 < t * s.get F.inNom_NOM_FREQ n) :
    (s.fmMag n e t : ℚ) = |s.fmDf n e t| * 10 ^ 10 * (t * s.get F.inNom_NOM_FREQ n : Nat) := by
  have hpos : (0 : ℚ) < (t * s.get F.inNom_NOM_FREQ n : Nat) := by exact_mod_cast h
  rw [State.fmDf, abs_div, abs_of_pos hpos, State.fmMag, Nat.cast_mul, Nat.cast_natAbs, Int.cast_abs]
  field_simp
  norm_num

/-- A limit in 0.1 ppb against an estimate, as the model compares them (R114). -/
theorem State.lt_fmMag_iff (hnom : 0 < s.get F.inNom_NOM_FREQ n) (lim e : Nat) {t : Nat} (ht : 0 < t) :
    lim * (t * s.get F.inNom_NOM_FREQ n) < s.fmMag n e t ↔ (lim : ℚ) * (1 / 10 ^ 10) < |s.fmDf n e t| := by
  have hpos := Nat.mul_pos ht hnom
  rw [← Nat.cast_lt (α := ℚ), State.natCast_fmMag hpos, Nat.cast_mul lim, mul_lt_mul_iff_left₀ (by exact_mod_cast hpos), mul_one_div,
    div_lt_iff₀ (by norm_num)]

theorem State.fmMag_lt_iff (hnom : 0 < s.get F.inNom_NOM_FREQ n) (lim e : Nat) {t : Nat} (ht : 0 < t) :
    s.fmMag n e t < lim * (t * s.get F.inNom_NOM_FREQ n) ↔ |s.fmDf n e t| < (lim : ℚ) * (1 / 10 ^ 10) := by
  have hpos := Nat.mul_pos ht hnom
  rw [← Nat.cast_lt (α := ℚ), State.natCast_fmMag hpos, Nat.cast_mul lim, mul_lt_mul_iff_left₀ (by exact_mod_cast hpos), mul_one_div,
    lt_div_iff₀ (by norm_num)]

/-- What the frequency monitor finds at the end of a fast gate: its hold is interrupted, it rejects, its hold goes on, it accepts. -/
inductive FmVerdict
  | interrupted | rejected | holding | accepted

/-- The verdict by the gate's estimate, the limits, and the estimate over the hold (R115, R116). -/
def State.fmVerdict (s : State) (n : Nat) : FmVerdict :=
  let nom := s.get F.inNom_NOM_FREQ n
  let fe := (s.fmFast n).1
  let ft := (s.fmFast n).2
  let le := (s.fmLong n).1
  let lt := (s.fmLong n).2
  if fe = 0 ∨ ft = 0 then .interrupted
  else if s.get F.inFmLim_REJ n * (ft * nom) < s.fmMag n fe ft then .rejected
  else if s.get F.inFmLim_ACC n * (ft * nom) ≤ s.fmMag n fe ft ∨ (s.mon n).held = false then .interrupted
  else if max 1 (s.get F.inFmGate_HOLD_S n) * Config.secTicks ≤ (s.mon n).hold + s.fastGate n ∧ 0 < lt ∧ 0 < le ∧
      s.fmMag n le lt < s.get F.inFmLim_ACC n * (lt * nom) then .accepted
  else .holding

/-- INn_FM_DF shows the estimate over the hold, where there is one (R118). -/
def State.fmShown (s : State) (n : Nat) : State :=
  let le := (s.fmLong n).1
  let lt := (s.fmLong n).2
  if le = 0 ∨ lt = 0 then s
  else s.putI F.inFmDf_DF (satInt 48 (awayDiv (s.fmNum n le lt * 10000000000) (lt * s.get F.inNom_NOM_FREQ n))) n

/-- The running gate is closed, and the next one begins. -/
def State.fmClosed (s : State) (n : Nat) : State :=
  let u := s.fmShown n
  u.setMon n { u.mon n with cur := {}, gates := u.fmGates n, held := u.getB F.inStat_ACT_OK n }

/-- The monitor after its verdict, before MON_OK follows it. -/
def State.fmJudged (s : State) (n : Nat) : FmVerdict → State
  | .interrupted => (s.fmClosed n).setMon n { (s.fmClosed n).mon n with hold := 0 }
  | .rejected => ((s.fmClosed n).putB F.inStat_REJ_FREQ true n).fmForce n
  | .holding => (s.fmClosed n).setMon n { (s.fmClosed n).mon n with hold := (s.mon n).hold + s.fastGate n }
  | .accepted => ((s.fmClosed n).setMon n { (s.fmClosed n).mon n with hold := (s.mon n).hold + s.fastGate n }).putB
      F.inStat_FREQ_OK true n

/-- What a verdict leaves: MON_OK follows a rejection and an acceptance. -/
def State.fmAfter (s : State) (n : Nat) : FmVerdict → State
  | .interrupted => s.fmJudged n .interrupted
  | .rejected => (s.fmJudged n .rejected).monShow n
  | .holding => s.fmJudged n .holding
  | .accepted => (s.fmJudged n .accepted).monShow n

@[simp] theorem State.fmShown_get (s : State) (n : Nat) {g : Field} (h : g.besides F.inFmDf_DF = true) :
    (s.fmShown n).get g n = s.get g n := by
  simp only [State.fmShown]
  split
  case isTrue => rfl
  case isFalse => exact State.get_put_besides _ _ _ _ h

@[simp] theorem State.fmShown_mon (s : State) (n : Nat) : (s.fmShown n).mon n = s.mon n := by
  simp only [State.fmShown]
  split
  case isTrue => rfl
  case isFalse => exact State.put_mon _ _ _ _ _ _

@[simp] theorem State.fmClosed_get (s : State) (n : Nat) {g : Field} (h : g.besides F.inFmDf_DF = true) :
    (s.fmClosed n).get g n = s.get g n := by
  simp only [State.fmClosed, State.setMon_get, s.fmShown_get n h]

@[simp] theorem State.fmClosed_getB (s : State) (n : Nat) {g : Field} (h : g.besides F.inFmDf_DF = true) :
    (s.fmClosed n).getB g n = s.getB g n := by
  simp only [State.getB, s.fmClosed_get n h]

theorem State.fmNum_congr {u : State} (hn : u.get F.inNom_NOM_FREQ n = s.get F.inNom_NOM_FREQ n)
    (hp : u.get F.inCfg_PRESCALE n = s.get F.inCfg_PRESCALE n) (e t : Nat) : u.fmNum n e t = s.fmNum n e t := by
  simp only [State.fmNum, hn, hp]

theorem State.fastGate_congr {u : State} (hn : u.get F.inNom_NOM_FREQ n = s.get F.inNom_NOM_FREQ n)
    (hp : u.get F.inCfg_PRESCALE n = s.get F.inCfg_PRESCALE n) (hm : u.get F.inFmGate_FAST_MS n = s.get F.inFmGate_FAST_MS n) :
    u.fastGate n = s.fastGate n := by
  rw [State.fastGate, State.fastGate, State.fastShort, State.fastShort, hn, hp, hm]

@[simp] theorem State.fmClosed_fmNum (s : State) (n e t : Nat) : (s.fmClosed n).fmNum n e t = s.fmNum n e t :=
  State.fmNum_congr (s.fmClosed_get n (by decide)) (s.fmClosed_get n (by decide)) e t

@[simp] theorem State.fmClosed_fastGate (s : State) (n : Nat) : (s.fmClosed n).fastGate n = s.fastGate n :=
  State.fastGate_congr (s.fmClosed_get n (by decide)) (s.fmClosed_get n (by decide)) (s.fmClosed_get n (by decide))

theorem State.fmShown_fmGates (s : State) (n : Nat) : (s.fmShown n).fmGates n = s.fmGates n := by
  rw [State.fmGates, State.fmGates, State.fmShown_mon, s.fmShown_get n (by decide),
    State.fastGate_congr (s.fmShown_get n (by decide)) (s.fmShown_get n (by decide)) (s.fmShown_get n (by decide))]

@[simp] theorem State.fmClosed_mon (s : State) (n : Nat) : (s.fmClosed n).mon n =
    { s.mon n with cur := {}, gates := s.fmGates n, held := s.getB F.inStat_ACT_OK n } := by
  simp only [State.fmClosed, State.setMon_mon, State.fmShown_mon, State.fmShown_fmGates, State.getB,
    s.fmShown_get n (show F.inStat_ACT_OK.besides F.inFmDf_DF = true by decide)]

theorem exec_fmFastGateEnd_live (hn : n < 24) (hl : s.inLive n = true) :
    exec (.fmFastGateEnd n () () () ()) s = .next (s.fmAfter n (s.fmVerdict n)) := by
  have hc : ¬ (decide (24 ≤ n) || !s.inLive n) = true := by simp [hl, hn]
  rw [exec_fmFastGateEnd, execFmFastGateEnd, if_neg hc]
  rcases hfast : s.fmFast n with ⟨fe, ft⟩
  rcases hlong : s.fmLong n with ⟨le, lt⟩
  have hclosed : State.fmClosed s n = State.fmClosed s n := rfl
  conv_rhs at hclosed => simp only [State.fmClosed, State.fmShown, hlong]
  have hrej := s.fmClosed_get n (g := F.inFmLim_REJ) (by decide)
  have hacc := s.fmClosed_get n (g := F.inFmLim_ACC) (by decide)
  have hhold := s.fmClosed_get n (g := F.inFmGate_HOLD_S) (by decide)
  have hmon : ((s.fmClosed n).mon n).hold = (s.mon n).hold := by rw [State.fmClosed_mon]
  simp only
  simp only [← hclosed, State.setMon_get, State.setMon_mon, State.fmClosed_fmNum, State.fmClosed_fastGate, hrej, hacc, hhold, hmon,
    Bool.and_eq_true, Bool.or_eq_true, Bool.not_eq_true', decide_eq_true_eq, and_assoc]
  simp only [State.fmVerdict, State.fmMag, hfast, hlong, apply_ite (s.fmAfter n)]
  simp only [State.fmAfter, State.fmJudged]

/-- What every verdict leaves: INn_FM_DF, and the gates. -/
theorem State.fmJudged_df (s : State) (n : Nat) (v : FmVerdict) :
    (s.fmJudged n v).getI F.inFmDf_DF n = (s.fmShown n).getI F.inFmDf_DF n := by
  have hc : (s.fmClosed n).getI F.inFmDf_DF n = (s.fmShown n).getI F.inFmDf_DF n := by
    simp only [State.fmClosed, State.setMon_getI]
  rw [← hc]
  cases v with
  | interrupted | holding => simp only [State.fmJudged, State.setMon_getI]
  | rejected => simp (decide := true) only [State.fmJudged, State.fmForce_getI, State.putB, State.getI_put_besides]
  | accepted => simp (decide := true) only [State.fmJudged, State.putB, State.getI_put_besides, State.setMon_getI]

theorem State.fmJudged_interrupted (s : State) (n : Nat) : ((s.fmJudged n .interrupted).mon n).hold = 0 ∧
    (s.fmJudged n .interrupted).getB F.inStat_FREQ_OK n = s.getB F.inStat_FREQ_OK n := by
  simp (decide := true) only [State.fmJudged, State.setMon_mon, State.setMon_getB, State.fmClosed_getB, and_self]

theorem State.fmJudged_rejected (s : State) (n : Nat) : (s.fmJudged n .rejected).getB F.inStat_FREQ_OK n = false ∧
    (s.fmJudged n .rejected).getB F.inStat_REJ_FREQ n = true ∧ ((s.fmJudged n .rejected).mon n).hold = 0 := by
  refine ⟨State.fmForce_freqOk _ _, ?_, by simp only [State.fmJudged, State.fmForce_mon]⟩
  rw [State.fmJudged, State.fmForce_getB _ _ (by decide)]
  exact State.getB_putB_same _ _ _ _ _ (by decide) rfl

theorem State.fmJudged_holding (s : State) (n : Nat) : ((s.fmJudged n .holding).mon n).hold = (s.mon n).hold + s.fastGate n ∧
    (s.fmJudged n .holding).getB F.inStat_FREQ_OK n = s.getB F.inStat_FREQ_OK n := by
  simp (decide := true) only [State.fmJudged, State.setMon_mon, State.setMon_getB, State.fmClosed_getB, and_self]

theorem State.fmJudged_accepted (s : State) (n : Nat) : ((s.fmJudged n .accepted).mon n).hold = (s.mon n).hold + s.fastGate n ∧
    (s.fmJudged n .accepted).getB F.inStat_FREQ_OK n = true :=
  ⟨by simp only [State.fmJudged, State.putB, State.put_mon, State.setMon_mon], State.getB_putB_same _ _ _ _ _ (by decide) rfl⟩

theorem State.fmJudged_gates (s : State) (n : Nat) (v : FmVerdict) :
    ((s.fmJudged n v).mon n).cur = {} ∧ ((s.fmJudged n v).mon n).gates = s.fmGates n := by
  cases v <;> simp [State.fmJudged, State.putB]

theorem State.fmShown_getI (hle : 0 < (s.fmLong n).1) (hlt : 0 < (s.fmLong n).2) : (s.fmShown n).getI F.inFmDf_DF n =
    satInt 48 (awayDiv (s.fmNum n (s.fmLong n).1 (s.fmLong n).2 * 10000000000) ((s.fmLong n).2 * s.get F.inNom_NOM_FREQ n)) := by
  have hfits := satInt_fits 48
    (awayDiv (s.fmNum n (s.fmLong n).1 (s.fmLong n).2 * 10000000000) ((s.fmLong n).2 * s.get F.inNom_NOM_FREQ n))
  simp only [State.fmShown, if_neg (show ¬ ((s.fmLong n).1 = 0 ∨ (s.fmLong n).2 = 0) by omega)]
  exact State.getI_putI_same _ _ _ (by decide) (by decide) hfits.1 hfits.2

/-- INn_FM_DF is the estimate over the hold in 0.1 ppb, rounded away from zero (R118; log entry 10). -/
theorem State.fmShown_df (hnom : 0 < s.get F.inNom_NOM_FREQ n) (hle : 0 < (s.fmLong n).1) (hlt : 0 < (s.fmLong n).2)
    (hfit : |s.fmDf n (s.fmLong n).1 (s.fmLong n).2 / (1 / 10 ^ 10)| ≤ 2 ^ 47 - 1) :
    |s.fmDf n (s.fmLong n).1 (s.fmLong n).2 / (1 / 10 ^ 10)| ≤ |((s.fmShown n).getI F.inFmDf_DF n : ℚ)| ∧
      |((s.fmShown n).getI F.inFmDf_DF n : ℚ)| < |s.fmDf n (s.fmLong n).1 (s.fmLong n).2 / (1 / 10 ^ 10)| + 1 ∧
      0 ≤ s.fmDf n (s.fmLong n).1 (s.fmLong n).2 * (s.fmShown n).getI F.inFmDf_DF n := by
  rw [State.fmShown_getI hle hlt]
  generalize (s.fmLong n).1 = le, (s.fmLong n).2 = lt at *
  have hq : ((s.fmNum n le lt * 10000000000 : Int) : ℚ) / (lt * s.get F.inNom_NOM_FREQ n : Nat) =
      s.fmDf n le lt / (1 / 10 ^ 10) := by
    rw [State.fmDf, Int.cast_mul]
    field_simp
    norm_num
  obtain ⟨hlow, hhigh, hside⟩ := awayDiv_bounds (s.fmNum n le lt * 10000000000) (Nat.mul_pos hlt hnom)
  rw [hq] at hlow hhigh hside
  generalize awayDiv (s.fmNum n le lt * 10000000000) (lt * s.get F.inNom_NOM_FREQ n) = z at hlow hhigh hside ⊢
  have hz : |(z : ℚ)| < 2 ^ 47 := by linarith
  obtain ⟨hz1, hz2⟩ := abs_lt.1 (show |z| < 2 ^ 47 by exact_mod_cast hz)
  rw [satInt_of_fits (by omega) (by omega)]
  refine ⟨hlow, hhigh, ?_⟩
  rw [div_eq_mul_inv, mul_right_comm] at hside
  exact nonneg_of_mul_nonneg_left hside (by norm_num)

/-! ### The verdicts -/

theorem State.fmVerdict_none (h : (s.fmFast n).1 = 0 ∨ (s.fmFast n).2 = 0) : s.fmVerdict n = .interrupted := by
  simp only [State.fmVerdict, if_pos h]

section Verdict
variable (hnom : 0 < s.get F.inNom_NOM_FREQ n) (hfe : 0 < (s.fmFast n).1) (hft : 0 < (s.fmFast n).2)
include hnom hfe hft

theorem State.fmVerdict_rejected
    (hrej : s.get F.inFmLim_REJ n * (1 / 10 ^ 10 : ℚ) < |s.fmDf n (s.fmFast n).1 (s.fmFast n).2|) : s.fmVerdict n = .rejected := by
  simp only [State.fmVerdict]
  rw [if_neg (by omega), if_pos ((State.lt_fmMag_iff hnom _ _ hft).2 hrej)]

variable (hrej : |s.fmDf n (s.fmFast n).1 (s.fmFast n).2| ≤ s.get F.inFmLim_REJ n * (1 / 10 ^ 10 : ℚ))
include hrej

theorem State.fmVerdict_outside
    (h : s.get F.inFmLim_ACC n * (1 / 10 ^ 10 : ℚ) ≤ |s.fmDf n (s.fmFast n).1 (s.fmFast n).2| ∨ (s.mon n).held = false) :
    s.fmVerdict n = .interrupted := by
  rw [← not_lt, ← State.fmMag_lt_iff hnom _ _ hft, not_lt] at h
  rw [← not_lt, ← State.lt_fmMag_iff hnom _ _ hft] at hrej
  simp only [State.fmVerdict]
  rw [if_neg (by omega), if_neg hrej, if_pos h]

/-- Within the accept limit the verdict is whether the hold has lasted, and its own estimate is within the limit. -/
theorem State.fmVerdict_inside (hacc : |s.fmDf n (s.fmFast n).1 (s.fmFast n).2| < s.get F.inFmLim_ACC n * (1 / 10 ^ 10 : ℚ))
    (hheld : (s.mon n).held = true) : s.fmVerdict n =
      if max 1 (s.get F.inFmGate_HOLD_S n) * Config.secTicks ≤ (s.mon n).hold + s.fastGate n ∧ 0 < (s.fmLong n).1 ∧
        0 < (s.fmLong n).2 ∧ |s.fmDf n (s.fmLong n).1 (s.fmLong n).2| < s.get F.inFmLim_ACC n * (1 / 10 ^ 10 : ℚ)
      then .accepted else .holding := by
  rw [← State.fmMag_lt_iff hnom _ _ hft] at hacc
  rw [← not_lt, ← State.lt_fmMag_iff hnom _ _ hft] at hrej
  simp only [State.fmVerdict]
  rw [if_neg (by omega), if_neg hrej, if_neg (by simp [hheld, hacc])]
  refine if_congr (and_congr_right fun _ => ?_) rfl rfl
  rw [and_left_comm]
  exact and_congr_right fun _ => and_congr_right fun hlt => State.fmMag_lt_iff hnom _ _ hlt

end Verdict

end Sys2Proof.Machine

open Sys2Proof Sys2Proof.Machine

/-- Settles O8: events and edges by what each does to the monitors, the end of a fast gate by its verdict. -/
theorem monitorsJudgeInputs : Obligations.MonitorsJudgeInputs := by
  refine ⟨fun s n hn hl => ⟨exec_actGapTimeout_live hn hl, fun hp => ?accept, ?edge⟩, fun s n hn hl => ?gate⟩
  case accept =>
    refine ⟨_, exec_actAcceptTimeout_present hn hl hp, ?_⟩
    simp (decide := true) [State.putB, State.getB_put_same]
  case edge =>
    intro rise gap tdc hd all early
    have hexec := exec_refinEdge_live hn hl hd rise gap tdc
    have hnom : 0 < s.get F.inNom_NOM_FREQ n := by have := State.inLive_nom hl; omega
    refine ⟨fun hr => ?_, fun hr hpre => ?_, fun hr hpre => ?_⟩
    · rw [if_neg (by simp [State.edgePasses_iff, hr])] at hexec
      exact ⟨_, hexec, s.prescale_regs _ _ _, by rw [State.prescale_mon, if_pos hr]⟩
    · rw [if_neg (by simp [State.edgePasses_iff, hpre])] at hexec
      exact ⟨_, hexec, s.prescale_regs _ _ _, by rw [State.prescale_mon, if_neg hr, if_neg hpre]⟩
    · rw [if_pos ((s.edgePasses_iff n rise).2 ⟨hr, hpre⟩)] at hexec
      have hmon := State.prescale_passed hpre hr gap
      have hget := fun f => State.get_congr (s.prescale_regs n rise gap) f n 0
      have hglitch : (s.prescale n rise gap).isGlitch n all = true ↔ early := by
        simpa only [hget] using State.isGlitch_iff (s := s.prescale n rise gap) (n := n) (by rwa [hget]) all
      refine ⟨fun hseen hearly => ?_, fun h => ?_⟩
      · obtain ⟨u, hu, hrej, hact, hfreq, hpres, hm⟩ := State.actEdge_of_glitch (s := s.prescale n rise gap) (n := n)
          (by rw [hmon]; exact hseen) (by rw [hmon]; exact hglitch.2 hearly)
        rw [State.monEdge, hmon] at hm
        exact ⟨u, by rw [hexec, hu], hrej, hact, hfreq, hpres, by rw [hm], by rw [hm]⟩
      · have hpass : ((s.mon n).seen && (s.prescale n rise gap).isGlitch n all) = false := by
          rw [Bool.and_eq_false_iff, ← Bool.not_eq_true ((s.prescale n rise gap).isGlitch n all), hglitch]
          exact h
        obtain ⟨hpres, hact, hrej, hm⟩ := State.actEdge_of_not_glitch (s := s.prescale n rise gap) (n := n)
          (by rw [hmon]; exact hpass)
        rw [State.monEdge, hmon, State.prescale_d0Span] at hm
        exact ⟨_, hexec, hpres, by rw [hm], hact.trans (State.getB_congr (s.prescale_regs _ _ _) _ _ _),
          hrej.trans (State.getB_congr (s.prescale_regs _ _ _) _ _ _), by rw [hm], by rw [hm], by rw [hm]⟩
  case gate =>
    intro fe ft le lt second df unit rej acc hold
    have hnom : 0 < s.get F.inNom_NOM_FREQ n := by have := State.inLive_nom hl; omega
    have hdf : ∀ e t : Nat, 0 < t → df e t = s.fmDf n e t := fun e t ht => (State.fmDf_eq hnom e ht).symm
    have hexec := exec_fmFastGateEnd_live hn hl
    refine ⟨s.fmJudged n (s.fmVerdict n), fun hle hlt hfit => ?df, fun h => ?noDf, (s.fmJudged_gates n _).1, (s.fmJudged_gates n _).2,
      fun h => ?none, fun hfe hft h => ?rejected, fun hfe hft hle h => ?outside, fun hfe hft hle hlt hheld => ?inside⟩
    case df =>
      rw [hdf _ _ hlt] at hfit ⊢
      rw [State.fmJudged_df]
      exact State.fmShown_df hnom hle hlt hfit
    case noDf =>
      rw [State.fmJudged_df, State.fmShown, if_pos h]
    case none =>
      have hv := State.fmVerdict_none h
      rw [hv] at hexec ⊢
      exact ⟨hexec, s.fmJudged_interrupted n⟩
    case rejected =>
      have hv := State.fmVerdict_rejected hnom hfe hft (by rw [← hdf _ _ hft]; exact h)
      rw [hv] at hexec ⊢
      exact ⟨hexec, s.fmJudged_rejected n⟩
    case outside =>
      have hv := State.fmVerdict_outside hnom hfe hft (by rw [← hdf _ _ hft]; exact hle) (by rw [← hdf _ _ hft]; exact h)
      rw [hv] at hexec ⊢
      exact ⟨hexec, s.fmJudged_interrupted n⟩
    case inside =>
      have hv := State.fmVerdict_inside hnom hfe hft (by rw [← hdf _ _ hft]; exact hle) (by rw [← hdf _ _ hft]; exact hlt) hheld
      have hlong : max 1 (s.get F.inFmGate_HOLD_S n) * Config.secTicks ≤ hold ∧ 0 < le ∧ 0 < lt ∧ |df le lt| < acc ↔
          max 1 (s.get F.inFmGate_HOLD_S n) * Config.secTicks ≤ hold ∧ 0 < le ∧ 0 < lt ∧ |s.fmDf n le lt| < acc :=
        and_congr_right fun _ => and_congr_right fun _ => and_congr_right fun hlt => by rw [hdf _ _ hlt]
      by_cases hlasts : max 1 (s.get F.inFmGate_HOLD_S n) * Config.secTicks ≤ hold ∧ 0 < le ∧ 0 < lt ∧ |df le lt| < acc
      case pos =>
        rw [if_pos (hlong.1 hlasts)] at hv
        rw [hv] at hexec ⊢
        obtain ⟨hhold, hpos, hpos', hin⟩ := hlasts
        exact ⟨(s.fmJudged_accepted n).1, fun _ => ⟨hexec, (s.fmJudged_accepted n).2⟩, fun h => absurd hin (by
          obtain h | h | h | h := h
          exacts [absurd hhold (not_le.2 h), absurd h hpos.ne', absurd h hpos'.ne', not_lt.2 h])⟩
      case neg =>
        rw [if_neg (mt hlong.2 hlasts)] at hv
        rw [hv] at hexec ⊢
        exact ⟨(s.fmJudged_holding n).1, fun h => absurd h hlasts, fun _ => ⟨hexec, (s.fmJudged_holding n).2⟩⟩
end

section
/-! PROOF. The tables of a calibration (R132, R133). -/
namespace Sys2Proof.Machine

/-! ### Sums -/

theorem getD_cumulate (l : List Nat) (a : Nat) {i : Nat} (hi : i < l.length) : (cumulate a l).getD i 0 = a + (l.take (i + 1)).sum := by
  induction l generalizing a i with
  | nil => cases hi
  | cons x l ih =>
    cases i with
    | zero => simp [cumulate]
    | succ i =>
      rw [cumulate, List.getD_cons_succ, ih (a + x) (Nat.lt_of_succ_lt_succ hi), List.take_succ_cons, List.sum_cons, Nat.add_assoc]

theorem length_cumulate (l : List Nat) (a : Nat) : (cumulate a l).length = l.length := by
  induction l generalizing a with
  | nil => rfl
  | cons x l ih => simp [cumulate, ih]

/-- A property of all widths between consecutive ends, the first from `a`. -/
theorem widths_all_iff (P : Int → Bool) (a : Nat) (l : List Nat) : (widths a l).all P = true ↔
    ∀ i < l.length, P ((l.getD i 0 : Int) - (if i = 0 then a else l.getD (i - 1) 0 : Nat)) = true := by
  induction l generalizing a with
  | nil => simp [widths]
  | cons x l ih =>
    rw [widths, List.all_cons, Bool.and_eq_true, ih, List.length_cons, Nat.forall_lt_succ_left]
    refine and_congr Iff.rfl (forall₂_congr fun i _ => ?_)
    cases i <;> simp

/-! ### Ends and centres -/

/-- A rounded quotient of numbers that are not negative, as a number. -/
theorem abs_toNat_roundDiv_sub_le (a : Nat) {b : Nat} (hb : 0 < b) :
    |((roundDiv (Int.ofNat a) b).toNat : ℚ) - (a : ℚ) / b| ≤ 1 / 2 := by
  have h := abs_roundDiv_sub_le (Int.ofNat a) hb
  have hnn : 0 ≤ roundDiv (Int.ofNat a) b := by
    simp only [roundDiv, Int.ofNat_eq_natCast]
    rw [if_neg (by omega)]
    exact Int.natCast_nonneg _
  have hcast : ((roundDiv (Int.ofNat a) b).toNat : ℚ) = roundDiv (Int.ofNat a) b := by exact_mod_cast Int.toNat_of_nonneg hnn
  rw [hcast]
  simpa only [Int.ofNat_eq_natCast, Int.cast_natCast] using h

theorem getD_phaseEnds {hp : List Nat} {p : Nat} (h : p < hp.length) : (phaseEnds hp).getD p 0 =
    (roundDiv (Int.ofNat (2097152 * (hp.take (p + 1)).sum)) (10 * calEdges)).toNat := by
  have hc := getD_cumulate hp 0 h
  have hl : p < (cumulate 0 hp).length := by rwa [length_cumulate]
  rw [List.getD_eq_getElem _ _ hl, Nat.zero_add] at hc
  rw [phaseEnds, List.getD_eq_getElem _ _ (by simpa using hl), List.getElem_map, hc]

theorem getD_binCentres {hb : List Nat} {b : Nat} (h : b < hb.length) : (binCentres hb).getD b 0 =
    (roundDiv (Int.ofNat (262144 * (2 * (hb.take b).sum + hb.getD b 0))) (20 * calEdges)).toNat := by
  have hc := getD_cumulate hb 0 h
  have hl : b < (cumulate 0 hb).length := by rwa [length_cumulate]
  rw [List.getD_eq_getElem _ _ hl, Nat.zero_add, List.sum_take_succ _ _ h] at hc
  rw [binCentres, List.getD_eq_getElem _ _ (by simpa [length_cumulate] using h), List.getElem_map, List.getElem_zip, hc,
    List.getD_eq_getElem _ _ h]
  simp only [Nat.add_sub_cancel]

theorem phaseEnd_near {hp : List Nat} {p : Nat} (h : p < hp.length) :
    |((phaseEnds hp).getD p 0 : ℚ) - 209715.2 * (hp.take (p + 1)).sum / 16777216| ≤ 1 / 2 := by
  rw [getD_phaseEnds h]
  convert abs_toNat_roundDiv_sub_le (2097152 * (hp.take (p + 1)).sum) (b := 10 * calEdges) (by decide) using 3
  push_cast
  ring

theorem binCentre_near {hb : List Nat} {b : Nat} (h : b < hb.length) :
    |((binCentres hb).getD b 0 : ℚ) - 26214.4 * ((hb.take b).sum + (hb.getD b 0 : ℚ) / 2) / 16777216| ≤ 1 / 2 := by
  rw [getD_binCentres h]
  convert abs_toNat_roundDiv_sub_le (262144 * (2 * (hb.take b).sum + hb.getD b 0)) (b := 20 * calEdges) (by decide) using 3
  push_cast
  ring

/-- A phase interval is within 2 % of its nominal width of 26214.4 ticks (R133). -/
theorem phaseWidth_fits_iff (w : Int) : (10 * w - 262144).natAbs ≤ 5240 ↔ |(w : ℚ) - 26214.4| ≤ 524 := by
  have h : ((10 * w - 262144 : Int) : ℚ) = 10 * ((w : ℚ) - 26214.4) := by push_cast; ring
  rw [← Nat.cast_le (α := ℚ), Nat.cast_natAbs, Int.cast_abs, h, abs_mul]
  norm_num
  constructor <;> intro h <;> linarith

/-- A bin is at most 262 ticks wide (R133). -/
theorem binWidth_fits_iff (h : Nat) : 262144 * h ≤ 2620 * calEdges ↔ 26214.4 * (h : ℚ) / 16777216 ≤ 262 := by
  rw [← Nat.cast_le (α := ℚ), div_le_iff₀ (by norm_num)]
  push_cast
  constructor <;> intro h <;> linarith

theorem tablesOk_iff {hp hb : List Nat} (hlen : hp.length = 8) : tablesOk hp hb = true ↔ hb.getD 255 0 = 0 ∧
    (∀ h ∈ hb, 26214.4 * (h : ℚ) / 16777216 ≤ 262) ∧
    ∀ p < 8, |((phaseEnds hp).getD p 0 : ℚ) - (if p = 0 then 0 else ((phaseEnds hp).getD (p - 1) 0 : ℚ)) - 26214.4| ≤ 524 := by
  have hends : (phaseEnds hp).length = 8 := by rw [phaseEnds, List.length_map, length_cumulate, hlen]
  rw [tablesOk, Bool.and_eq_true, Bool.and_eq_true, widths_all_iff, hends, and_assoc, and_comm (b := hb.all _ = true)]
  simp only [beq_iff_eq, List.all_eq_true, decide_eq_true_eq, phaseWidth_fits_iff, binWidth_fits_iff]
  refine and_congr_right fun _ => ?_
  refine and_congr_right fun _ => forall₂_congr fun p _ => ?_
  push_cast
  rfl

end Sys2Proof.Machine
end

section
/-! PROOF. The calibration state machine of a TDC (R132–R137, R139). -/
namespace Sys2Proof.Machine

variable {s : State} {t : Nat}

/-! ### The registers of a TDC -/

theorem regAddr_tdcBin (t b : Nat) : regAddr .tdcBin t b = 0x208000 + 0x1000 * t + 8 * b := rfl
theorem regAddr_tdcPhase (t p : Nat) : regAddr .tdcPhase t p = 0x208800 + 0x1000 * t + 8 * p := rfl
theorem regAddr_tdcStat (t : Nat) : regAddr .tdcStat t 0 = 0x208840 + 0x1000 * t := rfl

theorem regAddr_tdcResid (t : Nat) : regAddr .tdcResid t 0 = 0x208848 + 0x1000 * t := rfl
theorem regAddr_rimTemp : regAddr .rimTemp 0 0 = 0x200020 := rfl

/-- The temperature stands outside TDCt_STAT. -/
theorem State.get_putI_temp (s : State) {g : Field} (hg : g.reg = .tdcStat) (x : Int) (t : Nat) :
    (s.putI F.rimTemp_TEMP_NOW x).get g t = s.get g t := by
  refine s.get_put_ne _ g _ 0 0 t 0 ?_
  rw [hg, regAddr_tdcStat, regAddr_rimTemp]
  omega

theorem State.get_put_tdcStat_ne (s : State) {f g : Field} (hf : f.reg = .tdcStat) (hg : g.reg = .tdcStat) (v : Nat) {k : Nat}
    (h : t ≠ k) : (s.put f v k).get g t = s.get g t := by
  refine s.get_put_ne f g v k 0 t 0 ?_
  rw [hf, hg, regAddr_tdcStat, regAddr_tdcStat]
  omega

@[simp] theorem State.get_put_state (s : State) (t : Nat) {v : Nat} (hv : v < 4) :
    (s.put F.tdcStat_STATE v t).get F.tdcStat_STATE t = v :=
  (s.get_put_same _ v t 0 (by decide) (by decide)).trans (Nat.mod_eq_of_lt hv)

/-- TDCt_STAT and TDCt_RESID stand past the tables of their TDC. -/
theorem State.get_put_pastTables (s : State) {f g : Field} (hf : f.reg = .tdcStat ∨ f.reg = .tdcResid) (v j : Nat)
    (hg : regAddr g.reg t j < regAddr .tdcStat t 0) : (s.put f v t).get g t j = s.get g t j := by
  have hle : regAddr .tdcStat t 0 ≤ regAddr f.reg t 0 := by
    obtain h | h := hf
    · rw [h]
    · rw [h, regAddr_tdcStat, regAddr_tdcResid]
      omega
  exact s.get_put_ne f g v t 0 t j (by omega)

/-! ### Writing the tables (R132, R135) -/

/-- Rows written one after another to a family's index j: hits and value. -/
def State.putRows (s : State) (hits val : Field) (t : Nat) (rows : List ((Nat × Nat) × Nat)) : State :=
  rows.foldl (fun s e => (s.put hits e.1.1 t e.2).put val e.1.2 t e.2) s

theorem State.putRows_cons (s : State) (hits val : Field) (t : Nat) (e : (Nat × Nat) × Nat) (rows : List ((Nat × Nat) × Nat)) :
    s.putRows hits val t (e :: rows) = ((s.put hits e.1.1 t e.2).put val e.1.2 t e.2).putRows hits val t rows := rfl

section Rows
variable {hits val : Field} (hreg : hits.reg = val.reg)
include hreg

/-- Rows leave a register at another address than theirs. -/
theorem State.get_putRows_ne {g : Field} {i j : Nat} (rows : List ((Nat × Nat) × Nat)) (s : State)
    (h : ∀ e ∈ rows, regAddr g.reg i j ≠ regAddr val.reg t e.2) : (s.putRows hits val t rows).get g i j = s.get g i j := by
  induction rows generalizing s with
  | nil => rfl
  | cons e rows ih =>
    obtain ⟨he, hrows⟩ := List.forall_mem_cons.1 h
    rw [State.putRows_cons, ih _ hrows, State.get_put_ne _ _ _ _ _ _ _ _ he, State.get_put_ne _ _ _ _ _ _ _ _ (by rw [hreg]; exact he)]

/-- A row's value is read back, where the rows stand at addresses of their own. -/
theorem State.get_putRows_val (hhi : val.hi < 64) (hlo : val.lo ≤ val.hi)
    (hne : ∀ j k, j ≠ k → regAddr val.reg t j ≠ regAddr val.reg t k) (l : List (Nat × Nat)) {j : Nat} (hj : j < l.length) (k : Nat)
    (s : State) : (s.putRows hits val t (l.zipIdx k)).get val t (k + j) = (l.getD j (0, 0)).2 % 2 ^ (val.hi - val.lo + 1) := by
  induction l generalizing k j s with
  | nil => cases hj
  | cons e l ih =>
    rw [List.zipIdx_cons, State.putRows_cons]
    cases j with
    | zero =>
      have hlater : ∀ x ∈ l.zipIdx (k + 1), regAddr val.reg t k ≠ regAddr val.reg t x.2 := fun x hx => by
        have := List.le_snd_of_mem_zipIdx hx
        exact hne _ _ (by omega)
      exact (State.get_putRows_ne hreg _ _ hlater).trans (State.get_put_same _ val e.2 t k hhi hlo)
    | succ j =>
      rw [show k + (j + 1) = k + 1 + j by omega, ih (Nat.lt_of_succ_lt_succ hj) (k + 1), List.getD_cons_succ]

/-- The rows of two lists of one length: each value is read back at its index. -/
theorem State.get_putRows_zip (hhi : val.hi < 64) (hlo : val.lo ≤ val.hi)
    (hne : ∀ j k, j ≠ k → regAddr val.reg t j ≠ regAddr val.reg t k) (s : State) {hs vs : List Nat} (hlen : hs.length = vs.length)
    {j : Nat} (hj : j < vs.length) :
    (s.putRows hits val t (hs.zip vs).zipIdx).get val t j = vs.getD j 0 % 2 ^ (val.hi - val.lo + 1) := by
  have hzip : j < (hs.zip vs).length := by simpa [hlen] using hj
  have hrow := State.get_putRows_val hreg hhi hlo hne (hs.zip vs) hzip 0 s
  rwa [Nat.zero_add, List.getD_eq_getElem _ _ hzip, List.getElem_zip, ← List.getD_eq_getElem vs 0 hj] at hrow

end Rows

/-- The rows of a table: hits and END of the phase intervals, hits and CENTRE of the bins. -/
def State.putTableRows (s : State) (t : Nat) (hp hb : List Nat) : State :=
  (s.putRows F.tdcPhase_HITS F.tdcPhase_END t (hp.zip (phaseEnds hp)).zipIdx).putRows F.tdcBin_HITS F.tdcBin_CENTRE t
    (hb.zip (binCentres hb)).zipIdx

theorem State.putTables_eq (s : State) (t : Nat) (hp hb : List Nat) : s.putTables t hp hb =
    ((s.putTableRows t hp hb).put F.tdcStat_WMAX ((hb.map fun h => ceilDiv (262144 * h) (10 * calEdges)).foldl max 0) t).put
      F.tdcStat_USED (hb.filter (· != 0)).length t := rfl

section Tables
variable {hp hb : List Nat} (hlp : hp.length = 8) (hlb : hb.length = 256)
include hlp hlb

/-- The rows leave the registers outside their TDC's tables. -/
theorem State.get_putTableRows_ne (s : State) {g : Field} {i j : Nat}
    (h : regAddr g.reg i j < regAddr .tdcBin t 0 ∨ regAddr .tdcStat t 0 ≤ regAddr g.reg i j) :
    (s.putTableRows t hp hb).get g i j = s.get g i j := by
  simp only [regAddr_tdcBin, regAddr_tdcStat] at h
  rw [State.putTableRows, State.get_putRows_ne (by rfl) _ _ fun e he => ?bin, State.get_putRows_ne (by rfl) _ _ fun e he => ?phase]
  all_goals
    have hlt := List.snd_lt_of_mem_zipIdx he
    simp only [List.length_zip, hlp, hlb] at hlt
    simp only [regAddr_tdcBin, regAddr_tdcPhase]
    omega

theorem State.get_putTableRows_end (s : State) {p : Nat} (hp8 : p < 8) :
    (s.putTableRows t hp hb).get F.tdcPhase_END t p = (phaseEnds hp).getD p 0 % 2 ^ 18 := by
  have hlen : hp.length = (phaseEnds hp).length := by rw [phaseEnds, List.length_map, length_cumulate]
  have hbin : ∀ e ∈ (hb.zip (binCentres hb)).zipIdx, regAddr F.tdcPhase_END.reg t p ≠ regAddr F.tdcBin_CENTRE.reg t e.2 :=
    fun e he => by
      have hlt := List.snd_lt_of_mem_zipIdx he
      simp only [List.length_zip, hlb] at hlt
      simp only [regAddr_tdcBin, regAddr_tdcPhase]
      omega
  rw [State.putTableRows, State.get_putRows_ne (by rfl) _ _ hbin]
  exact State.get_putRows_zip (by rfl) (by decide) (by decide) (fun j k h => by simp only [regAddr_tdcPhase]; omega) s hlen (by omega)

omit hlp in
theorem State.get_putTableRows_centre (s : State) {b : Nat} (hb256 : b < 256) :
    (s.putTableRows t hp hb).get F.tdcBin_CENTRE t b = (binCentres hb).getD b 0 % 2 ^ 16 := by
  have hlen : hb.length = (binCentres hb).length := by simp [binCentres, length_cumulate]
  exact State.get_putRows_zip (by rfl) (by decide) (by decide) (fun j k h => by simp only [regAddr_tdcBin]; omega) _ hlen (by omega)

end Tables

/-! ### Starting calibrations (R136, R139) -/

theorem State.calStart_get_state (s : State) (k t : Nat) : (s.calStart k).get F.tdcStat_STATE t =
    if k = t ∧ s.get F.tdcStat_STATE t = 0 then 1 else s.get F.tdcStat_STATE t := by
  by_cases h0 : s.get F.tdcStat_STATE k = 0
  case neg =>
    have hno : ¬ (k = t ∧ s.get F.tdcStat_STATE t = 0) := by rintro ⟨rfl, h⟩; exact h0 h
    rw [State.calStart, if_neg h0, if_neg hno]
  case pos =>
    rw [State.calStart, if_pos h0, State.setTdc_get]
    by_cases hk : t = k
    case pos =>
      subst hk
      rw [if_pos ⟨rfl, h0⟩, State.get_put_same _ _ _ _ _ (by decide) (by decide)]
      rfl
    case neg => rw [State.get_put_tdcStat_ne s rfl rfl 1 hk, if_neg (fun h => hk h.1.symm)]

/-- TDCs started one after another: an idle one among them collects. -/
theorem State.foldl_calStart_get_state (l : List Nat) (s : State) (t : Nat) :
    (l.foldl (fun s k => s.calStart k) s).get F.tdcStat_STATE t =
      if t ∈ l ∧ s.get F.tdcStat_STATE t = 0 then 1 else s.get F.tdcStat_STATE t := by
  induction l generalizing s with
  | nil => simp
  | cons k l ih =>
    rw [List.foldl_cons, ih, State.calStart_get_state]
    obtain rfl | hk := eq_or_ne k t
    · by_cases h0 : s.get F.tdcStat_STATE k = 0 <;> simp [h0]
    · simp [hk, hk.symm]

@[simp] theorem State.calStart_getI_temp (s : State) (k : Nat) : (s.calStart k).getI F.rimTemp_TEMP_NOW = s.getI F.rimTemp_TEMP_NOW := by
  unfold State.calStart
  split
  case isTrue => simp (decide := true)
  case isFalse => rfl

/-! ### The rows -/

theorem exec_tdcCalCollectDone_ends (ht : t < 64) (hst : s.get F.tdcStat_STATE t = 1) (hopen : s.getB F.emuStat_OPEN (t / 2) = false)
    {hp hb : List Nat} (hc : collected hp hb = true) : exec (.tdcCalCollectDone t hp hb) s = .next (
      if tablesOk hp hb then (s.put F.tdcStat_STATE 3 t).setTdc t { s.tdc t with table := some (hp, hb) }
      else if (s.tdc t).attempt < 3 then s.put F.tdcStat_STATE 2 t
      else ((s.put F.tdcStat_STATE 0 t).putB F.tdcStat_LAST_FAIL true t).refresh 8) := by
  rw [exec_tdcCalCollectDone, execTdcCalCollectDone, if_neg (by simp [ht, hst, hopen, hc])]

/-- A new temperature starts the idle TDCs that it has moved away from their calibration, under CAL_AUTO (R136). -/
theorem exec_tdcTempTrigger_next (s : State) (temp : Int) : ∃ u : State, exec (.tdcTempTrigger temp) s = .next u ∧
    u.getI F.rimTemp_TEMP_NOW = satInt 16 temp ∧ ∀ t < 64, s.get F.tdcStat_STATE t = 0 → u.get F.tdcStat_STATE t =
      if s.getB F.rimCtl_CAL_AUTO ∧ s.getB F.tdcStat_UNCAL t = false ∧
        80 ≤ (satInt 16 temp - s.getI F.tdcStat_TEMP_CAL t).natAbs then 1 else 0 := by
  have hfits := satInt_fits 16 temp
  have hnow : (s.putI F.rimTemp_TEMP_NOW (satInt 16 temp)).getI F.rimTemp_TEMP_NOW = satInt 16 temp :=
    State.getI_putI_same _ _ _ (by decide) (by decide) hfits.1 hfits.2
  have hauto : (s.putI F.rimTemp_TEMP_NOW (satInt 16 temp)).getB F.rimCtl_CAL_AUTO = s.getB F.rimCtl_CAL_AUTO :=
    State.getB_put_above _ _ _ _ (by decide)
  have hstat : ∀ (g : Field) (t : Nat), g.reg = .tdcStat →
      (s.putI F.rimTemp_TEMP_NOW (satInt 16 temp)).get g t = s.get g t := fun g t hg => s.get_putI_temp hg _ t
  simp only [exec_tdcTempTrigger, execTdcTempTrigger, hauto, hnow]
  refine ⟨_, rfl, ?_⟩
  cases s.getB F.rimCtl_CAL_AUTO with
  | false => exact ⟨hnow, fun t _ h0 => by simpa [hstat] using h0⟩
  | true =>
    rw [if_pos rfl, ← List.foldl_filter]
    refine ⟨(foldl_keeps (fun u : State => u.getI F.rimTemp_TEMP_NOW) _ State.calStart_getI_temp _ _).trans hnow, fun t ht h0 => ?_⟩
    rw [State.foldl_calStart_get_state, hstat _ _ rfl]
    simp [h0, ht, State.getB, State.getI, hstat]

/-- The state of a TDC after its table has been installed, before CAL_FAIL follows it (R135). -/
def State.tdcInstalled (s : State) (t : Nat) (hp hb : List Nat) : State :=
  let u := ((s.putTables t hp hb).put F.tdcStat_STATE 0 t).setTdc t { table := none, fresh := true }
  let u := (u.wrap F.tdcStat_GEN 1 t).putI F.tdcStat_TEMP_CAL (u.getI F.rimTemp_TEMP_NOW) t
  let u := (u.putB F.tdcStat_UNCAL false t).putB F.tdcStat_LAST_FAIL false t
  u.put F.tdcResid_RESID (u.resid t) t

theorem exec_tdcTableInstall_swaps (ht : t < 64) (hst : s.get F.tdcStat_STATE t = 3)
    (hopen : s.getB F.emuStat_OPEN (t / 2) = false) {hp hb : List Nat} (htab : (s.tdc t).table = some (hp, hb)) :
    exec (.tdcTableInstall t) s = .next ((s.tdcInstalled t hp hb).refresh 8) := by
  rw [exec_tdcTableInstall, execTdcTableInstall, if_neg (by simp [ht, hst, hopen]), htab]
  rfl

section Installed
variable {hp hb : List Nat} (hlp : hp.length = 8) (hlb : hb.length = 256)

theorem State.tdcInstalled_flags (s : State) (t : Nat) (hp hb : List Nat) :
    (s.tdcInstalled t hp hb).get F.tdcStat_STATE t = 0 ∧ (s.tdcInstalled t hp hb).getB F.tdcStat_UNCAL t = false ∧
      (s.tdcInstalled t hp hb).getB F.tdcStat_LAST_FAIL t = false ∧ ((s.tdcInstalled t hp hb).tdc t).fresh = true := by
  simp (decide := true) [State.tdcInstalled, State.putB, State.putI, State.wrap, State.getB_put_same, State.get_put_same]

include hlp hlb

/-- The tables leave TDCt_STAT, but for WMAX and USED. -/
theorem State.get_putTables_stat (s : State) {g : Field} (hg : g.reg = .tdcStat) (hw : g.besides F.tdcStat_WMAX = true)
    (hu : g.besides F.tdcStat_USED = true) : (s.putTables t hp hb).get g t = s.get g t := by
  rw [State.putTables_eq, State.get_put_besides _ _ _ _ hu, State.get_put_besides _ _ _ _ hw,
    State.get_putTableRows_ne hlp hlb _ (.inr (by rw [hg]))]

theorem State.putTables_temp (s : State) : (s.putTables t hp hb).get F.rimTemp_TEMP_NOW = s.get F.rimTemp_TEMP_NOW := by
  rw [State.putTables_eq, State.get_put_above _ _ _ _ (by decide), State.get_put_above _ _ _ _ (by decide),
    State.get_putTableRows_ne hlp hlb _ (.inl (by rw [regAddr_rimTemp, regAddr_tdcBin]; omega))]

theorem State.tdcInstalled_gen (s : State) :
    (s.tdcInstalled t hp hb).get F.tdcStat_GEN t = (s.get F.tdcStat_GEN t + 1) % 2 ^ 16 := by
  have h := State.get_putTables_stat (t := t) hlp hlb s (g := F.tdcStat_GEN) rfl (by decide) (by decide)
  simp (decide := true) [State.tdcInstalled, State.putB, State.putI, State.wrap, State.get_put_same, h]

theorem State.tdcInstalled_temp (s : State) :
    (s.tdcInstalled t hp hb).get F.tdcStat_TEMP_CAL t = s.get F.rimTemp_TEMP_NOW := by
  have h := State.putTables_temp (t := t) hlp hlb s
  have hcode : codeOf 16 (s.getI F.rimTemp_TEMP_NOW) % 2 ^ 16 = s.get F.rimTemp_TEMP_NOW := by
    rw [Nat.mod_eq_of_lt (codeOf_lt _ _)]
    exact codeOf_signedOf (bitsOf_lt _ 15 0 (by decide) (by decide))
  simp (decide := true) [State.tdcInstalled, State.putB, State.putI, State.wrap, State.get_put_same, State.getI, h]
  exact hcode

omit hlp hlb in
theorem State.tdcInstalled_get_tables (s : State) {g : Field} {j : Nat} (hg : regAddr g.reg t j < regAddr .tdcStat t 0) :
    (s.tdcInstalled t hp hb).get g t j = (s.putTableRows t hp hb).get g t j := by
  have hput := fun (u : State) (f : Field) hf v => u.get_put_pastTables (f := f) hf v j hg
  simp (decide := true) only [State.tdcInstalled, State.putTables_eq, State.putB, State.putI, State.wrap, State.setTdc_get, hput]

end Installed

end Sys2Proof.Machine

open Sys2Proof Sys2Proof.Machine

/-- Settles O9, row by row. -/
theorem tdcCalibrationRows : Obligations.TdcCalibrationRows := by
  refine ⟨fun s t ht => ⟨fun hst hopen hp hb hlp hlb hsp hsb => ?collect, fun hp hb h => ?unfinished, fun hst => ?timeout,
    fun hst => ?wait, fun hp hb hst hopen hlp hlb htab => ?install⟩, fun s temp => ?temp,
    fun hp hb hlp hlb => ⟨fun p hp8 => phaseEnd_near (hlp ▸ hp8), fun b hb256 => binCentre_near (hlb ▸ hb256), tablesOk_iff hlp⟩⟩
  case collect =>
    have hexec := exec_tdcCalCollectDone_ends ht hst hopen (hp := hp) (hb := hb) (by simp [collected, hlp, hlb, hsp, hsb])
    refine ⟨fun hok => ?_, fun hok hat => ?_, fun hok hat => ?_⟩
    · rw [if_pos hok] at hexec
      refine ⟨_, hexec, ?_, by rw [State.setTdc_tdc]⟩
      rw [State.setTdc_get, s.get_put_state t (by decide)]
    · rw [if_neg (by simp [hok]), if_pos hat] at hexec
      exact ⟨_, hexec, s.get_put_state t (by decide)⟩
    · rw [if_neg (by simp [hok]), if_neg (by omega)] at hexec
      refine ⟨_, hexec, ?_, State.getB_putB_same _ _ _ _ _ (by decide) rfl⟩
      rw [State.putB, State.get_put_besides _ _ _ _ (by decide), s.get_put_state t (by decide)]
  case unfinished =>
    rw [exec_tdcCalCollectDone, execTdcCalCollectDone, if_pos]
    obtain h | h | h := h <;> simp [collected, h]
  case timeout =>
    refine ⟨s.put F.tdcStat_STATE 0 t, ?_, s.get_put_state t (by decide)⟩
    rw [exec_tdcCalTimeout, execTdcCalTimeout, if_neg (by simp [ht, hst])]
  case wait =>
    refine ⟨(s.put F.tdcStat_STATE 1 t).setTdc t { s.tdc t with attempt := (s.tdc t).attempt + 1 }, ?_, ?_, ?_⟩
    · rw [exec_tdcCalWaitEnd, execTdcCalWaitEnd, if_neg (by simp [ht, hst])]
    · rw [State.setTdc_get, s.get_put_state t (by decide)]
    · rw [State.setTdc_tdc]
  case install =>
    obtain ⟨hstate, huncal, hfail, hfresh⟩ := s.tdcInstalled_flags t hp hb
    refine ⟨_, exec_tdcTableInstall_swaps ht hst hopen htab, hstate, huncal, hfail, s.tdcInstalled_gen hlp hlb,
      s.tdcInstalled_temp hlp hlb, hfresh, fun p hp8 => ?_, fun b hb256 => ?_⟩
    · rw [State.tdcInstalled_get_tables _ (by simp only [regAddr_tdcPhase, regAddr_tdcStat]; omega),
        State.get_putTableRows_end hlp hlb _ hp8]
    · rw [State.tdcInstalled_get_tables _ (by simp only [regAddr_tdcBin, regAddr_tdcStat]; omega),
        State.get_putTableRows_centre hlb _ hb256]
  case temp =>
    exact exec_tdcTempTrigger_next s temp
end

section
/-! RULES. Two free alarm slots: what arming the first leaves for the second (R35, R122). -/
namespace Sys2Proof.Machine

/-! ### How many entries a write adds -/

theorem countP_tabDel_le {α : Type} (p : Nat × α → Bool) (t : Tab α) (k : Nat) : (tabDel t k).countP p ≤ t.countP p := by
  induction t with
  | nil => exact le_rfl
  | cons e t ih =>
    obtain ⟨j, w⟩ := e
    simp only [tabDel]
    split <;> simp only [List.countP_cons] <;> omega

theorem countP_tabPut_le {α : Type} (p : Nat × α → Bool) (t : Tab α) (k : Nat) (v : α) : (tabPut t k v).countP p ≤ t.countP p + 1 := by
  have hone : ∀ e : Nat × α, (if p e = true then 1 else 0) ≤ 1 := fun e => by split <;> omega
  induction t with
  | nil => simpa [tabPut] using hone (k, v)
  | cons e t ih =>
    obtain ⟨j, w⟩ := e
    have hv := hone (k, v)
    simp only [tabPut]
    split
    case isTrue =>
      simp only [List.countP_cons]
      omega
    case isFalse => split <;> simp only [List.countP_cons] <;> omega

theorem countP_tabSet_le {α : Type} [DecidableEq α] (d : α) (p : Nat × α → Bool) (t : Tab α) (k : Nat) (v : α) :
    (tabSet d t k v).countP p ≤ t.countP p + 1 := by
  unfold tabSet
  split
  · exact (countP_tabDel_le p t k).trans (Nat.le_succ _)
  · exact countP_tabPut_le p t k v

/-! ### Free slots -/

/-- The slot found is free, and no lower slot is looked at past it. -/
theorem freeSlotFrom_some {s : State} {f k j : Nat} (h : freeSlotFrom s f k = some j) : k ≤ j ∧ s.slotHeld j = false := by
  induction f generalizing k with
  | zero => cases h
  | succ f ih =>
    unfold freeSlotFrom at h
    split at h
    · cases h
    split at h
    case isTrue => exact ⟨(Nat.le_succ k).trans (ih h).1, (ih h).2⟩
    case isFalse hfree =>
      cases h
      exact ⟨le_rfl, by simpa using hfree⟩

/-- A free slot within reach is enough for one to be found. -/
theorem freeSlotFrom_isSome {s : State} {f k j : Nat} (hk : k ≤ j) (hf : j < k + f) (hj : j < 4096) (hfree : s.slotHeld j = false) :
    (freeSlotFrom s f k).isSome = true := by
  induction f generalizing k with
  | zero => omega
  | succ f ih =>
    unfold freeSlotFrom
    rw [if_neg (by omega)]
    split
    case isTrue hheld =>
      have hne : k ≠ j := by rintro rfl; rw [hfree] at hheld; cases hheld
      exact ih (by omega) (by omega)
    case isFalse => rfl

section Arm
variable (s : State) (k part dom inst : Nat) (kind : AlarmKind) (target period : Nat) (fire late : Bool)

theorem State.armSlot_slotHeld_same : (s.armSlot k part dom inst kind target period fire late).slotHeld k = true := by
  obtain ⟨hst, -⟩ := s.armSlot_alarm_same k part dom inst kind target period fire late
  simp [State.slotHeld, hst]

theorem State.armSlot_slotHeld_ne {j : Nat} (h : j ≠ k) :
    (s.armSlot k part dom inst kind target period fire late).slotHeld j = s.slotHeld j := by
  rw [State.slotHeld, State.slotHeld, State.armSlot_alarm_ne _ _ _ _ _ _ _ _ _ _ h]

theorem State.armSlot_almUsed_le (p : Nat) :
    (s.armSlot k part dom inst kind target period fire late).almUsed p ≤ s.almUsed p + 1 := by
  have h := countP_tabSet_le {} (fun e : Nat × Alarm => decide (8 ≤ e.1) && e.2.part == p && (e.2.st == .armed || e.2.pinned))
    s.tse.alarms k ((s.armSlot k part dom inst kind target period fire late).alarm k)
  have ha : (s.armSlot k part dom inst kind target period fire late).tse.alarms =
      tabSet {} s.tse.alarms k ((s.armSlot k part dom inst kind target period fire late).alarm k) := by
    simp only [State.armSlot, State.alarm, State.setAlarm, tabGet_tabSet_same]
  simp only [State.almUsed, ha, ← List.countP_eq_length_filter]
  omega

end Arm

theorem State.twoFree_of_tse {s u : State} (h : s.tse = u.tse) (hq : s.get F.tseAlmQuota_QUOTA = u.get F.tseAlmQuota_QUOTA) :
    s.twoFree = u.twoFree := by
  simp only [State.twoFree, State.freeSlot, State.quotaLeft, State.almUsed, freeSlotFrom_of_tse h, h, hq]

/-- Two slots that TSE may take: the first is free, and once it is armed a second one is. -/
theorem State.twoFree_slots {s : State} (h : s.twoFree = true) : ∃ k, s.freeSlot 0 = some k ∧
    ∀ (dom inst : Nat) (kind : AlarmKind) (target period : Nat) (fire late : Bool),
      ∃ j, (s.armSlot k 0 dom inst kind target period fire late).freeSlot 0 = some j ∧ j ≠ k := by
  unfold State.twoFree at h
  cases hk : s.freeSlot 0 with
  | none => rw [hk] at h; cases h
  | some k =>
    rw [hk] at h
    simp only [Bool.and_eq_true, decide_eq_true_eq, Option.isSome_iff_exists] at h
    obtain ⟨hquota, j, hj⟩ := h
    refine ⟨k, rfl, fun dom inst kind target period fire late => ?_⟩
    have hk8 : 8 ≤ k := by
      unfold State.freeSlot at hk
      split at hk
      · exact (freeSlotFrom_some hk).1
      · cases hk
    obtain ⟨hkj, hfree⟩ := freeSlotFrom_some hj
    have hused := s.armSlot_almUsed_le k 0 dom inst kind target period fire late 0
    have hleft : (s.armSlot k 0 dom inst kind target period fire late).quotaLeft 0 = true := by
      rw [State.quotaLeft, decide_eq_true_iff, State.get_congr (State.armSlot_regs ..)]
      omega
    have hsome := freeSlotFrom_isSome (s := s.armSlot k 0 dom inst kind target period fire late) (f := 4096) (k := 8) (j := j)
      (by omega) (by have := freeSlotFrom_lt hj; omega) (freeSlotFrom_lt hj)
      (by rw [State.armSlot_slotHeld_ne _ _ _ _ _ _ _ _ _ _ (by omega), hfree])
    obtain ⟨i, hi⟩ := Option.isSome_iff_exists.1 hsome
    refine ⟨i, by rw [State.freeSlot, if_pos hleft, hi], ?_⟩
    rintro rfl
    have hheld := s.armSlot_slotHeld_same i 0 dom inst kind target period fire late
    rw [(freeSlotFrom_some hi).2] at hheld
    cases hheld

end Sys2Proof.Machine
end

section
/-! PROOF. The measurement commands: EMU_ARM, EMU_DISARM, TDC_CAL and MON_RESTART (R122, R128, R136, R149, R150). -/
namespace Sys2Proof.Machine

variable {s : State} {c : Caller} {m : Nat}

/-! ### EMU_ARM (R122, R149) -/

/-- The registers of an EMU at arming, each operand within its field. -/
theorem State.emuSetup_regs (s : State) (m : Nat) {mode startSrc stopSrc dom : Nat} (dests queue emptyReport : Nat) (hmode : mode < 2)
    (hstart : startSrc < 256) (hstop : stopSrc < 256) (hdom : dom < 32) :
    let u := s.emuSetup m mode startSrc stopSrc dom dests queue emptyReport
    u.getB F.emuCfg_ARMED m = true ∧ u.get F.emuCfg_MODE m = mode ∧ u.get F.emuCfg_START_SRC m = startSrc ∧
      u.get F.emuCfg_STOP_SRC m = stopSrc ∧ u.get F.emuCfg_DOMAIN m = dom ∧ u.get F.emuStat_SEQ m = 0 := by
  simp (decide := true) [State.emuSetup, State.putB, State.getB_put_same, State.get_put_same, Nat.mod_eq_of_lt, hmode, hstart,
    hstop, hdom]

theorem State.emuSetup_twoFree (s : State) (m mode startSrc stopSrc dom dests queue emptyReport : Nat) :
    (s.emuSetup m mode startSrc stopSrc dom dests queue emptyReport).twoFree = s.twoFree := by
  refine State.twoFree_of_tse State.emuSetup_tse ?_
  simp (decide := true) only [State.emuSetup, State.putB, State.get_put_above]

/-- What the arming of an EMU leaves, where two slots are free: two alarms of its own, and their slots in EMUm_SLOTS. -/
theorem State.emuArm_slots (h : s.twoFree = true) (m dom t0 per w : Nat) (lateOk : Bool) :
    let u := s.emuArm m dom t0 per w lateOk
    (∀ f : Field, f.besides F.emuSlots_OPEN_SLOT = true → f.besides F.emuSlots_CLOSE_SLOT = true → u.get f m = s.get f m) ∧
    (let a := u.alarm (u.get F.emuSlots_OPEN_SLOT m)
     a.st = .armed ∧ a.part = 0 ∧ a.dom = dom ∧ a.kind = .emuOpen ∧ a.target = m ∧ a.inst = t0 ∧ a.period = per ∧ a.fire = lateOk) ∧
    (let a := u.alarm (u.get F.emuSlots_CLOSE_SLOT m)
     a.st = .armed ∧ a.part = 0 ∧ a.dom = dom ∧ a.kind = .emuClose ∧ a.target = m ∧ a.inst = t0 + w ∧ a.period = per) := by
  obtain ⟨k, hk, hnext⟩ := State.twoFree_slots h
  obtain ⟨j, hj, hjk⟩ := hnext dom t0 .emuOpen m per lateOk (decide (Int.ofNat t0 ≤ s.ticks dom))
  have hk4096 := State.freeSlot_lt hk
  have hj4096 := State.freeSlot_lt hj
  simp only [State.emuArm, hk, hj]
  generalize hlate : decide (Int.ofNat t0 ≤ s.ticks dom) = late
  generalize decide (Int.ofNat (t0 + w) ≤ _) = late'
  obtain ⟨hst, hpart, hdom, hkind, hinst, htgt, hper, -⟩ := s.armSlot_alarm_same k 0 dom t0 .emuOpen m per lateOk late
  have hfire := s.armSlot_fire k 0 dom t0 .emuOpen m per lateOk late
  obtain ⟨hst', hpart', hdom', hkind', hinst', htgt', hper', -⟩ :=
    (s.armSlot k 0 dom t0 .emuOpen m per lateOk late).armSlot_alarm_same j 0 dom (t0 + w) .emuClose m per true late'
  have hopen : ∀ u : State, ((u.put F.emuSlots_OPEN_SLOT k m).put F.emuSlots_CLOSE_SLOT j m).get F.emuSlots_OPEN_SLOT m = k := fun u => by
    rw [State.get_put_besides _ _ _ _ (by decide), State.get_put_same _ _ _ _ _ (by decide) (by decide)]
    exact Nat.mod_eq_of_lt hk4096
  have hclose : ∀ u : State, ((u.put F.emuSlots_OPEN_SLOT k m).put F.emuSlots_CLOSE_SLOT j m).get F.emuSlots_CLOSE_SLOT m = j := fun u =>
    (State.get_put_same _ _ _ _ _ (by decide) (by decide)).trans (Nat.mod_eq_of_lt hj4096)
  simp only [hopen, hclose, State.put_alarm, State.armSlot_alarm_ne _ _ _ _ _ _ _ _ _ _ hjk.symm]
  refine ⟨fun f ho hc => ?_, ⟨hst, hpart, hdom, hkind, htgt, hinst, hper, hfire⟩, hst', hpart', hdom', hkind', htgt', hinst', hper'⟩
  rw [State.get_put_besides _ _ _ _ hc, State.get_put_besides _ _ _ _ ho, State.get_congr (State.armSlot_regs ..),
    State.get_congr (State.armSlot_regs ..)]

/-- A source code that is not reserved fits its field (R121). -/
theorem srcOk_lt {src : Nat} (h : srcOk src = true) : src < 256 := by
  simp only [srcOk, Bool.or_eq_true, Bool.and_eq_true, decide_eq_true_eq] at h
  omega

/-- The checks of EMU_ARM pass where the statement's conditions hold (R122, R149, R817). -/
theorem exec_emuArm_ok {mode startSrc stopSrc dom : Nat} {t0 : TimeVal} {per w dests queue emptyReport lateOk : Nat}
    (ha : s.admitsOwner c 0x20 = true) (hm : m < 32) (hd : dom < 32) (ht : tvOk t0 = true) (hdests : dests < 8) (hq : queue < 256)
    (he : emptyReport < 2) (hl : lateOk < 2) (hper : per < 2 ^ 64)
    (hstart : mode = 0 ∧ startSrc = 0xff ∨ mode = 1 ∧ srcOk startSrc = true) (hstop : srcOk stopSrc = true)
    (hwin : per = 0 ∨ 262144000 ≤ per ∧ w * 10 + 4194304 ≤ per * 10) (hw : 4194304 ≤ w * 10) (hst : (s.dom dom).st ≠ .off)
    (hres : s.resetting (s.dom dom).owner = false) (harmed : s.getB F.emuCfg_ARMED m = false) (htwo : s.twoFree = true)
    (hlate : lateOk = 1 ∨ s.ticks dom < tvTicks t0) :
    exec (.emuArm c m mode startSrc stopSrc dom t0 per w dests queue emptyReport lateOk) s =
      .next (((s.emuSetup m mode startSrc stopSrc dom dests queue emptyReport).emuArm m dom (tvTicks t0) per w
        (lateOk == 1)).complete c 0x20 .ok) := by
  obtain ⟨hadm, hown⟩ := (s.admitsOwner_iff c 0x20).1 ha
  have hmode : mode < 2 := by omega
  rw [exec_emuArm, execEmuArm, State.runCmd_ok_of_admits hadm _ c (firstFail_eq_none ?_)]
  simp only [List.forall_mem_cons, List.not_mem_nil, false_imp_iff, implies_true, and_true]
  refine ⟨notOwner_pass hown, ?operands, ?sources, ?window, ?domain, domFree_pass (.inr hres), harmed, ?slots, ?late⟩
  case operands =>
    simp only [ht, Bool.or_eq_false_iff, decide_eq_false_iff_not, Bool.not_true, and_true]
    omega
  case sources =>
    obtain ⟨rfl, rfl⟩ | ⟨rfl, hsrc⟩ := hstart
    · simp [hstop]
    · simp [hstop, hsrc]
  case window =>
    simp only [Bool.or_eq_false_iff, Bool.and_eq_false_iff, decide_eq_false_iff_not, bne_eq_false_iff_eq]
    omega
  case domain => simp [hst]
  case slots => simp [htwo]
  case late =>
    simp only [Bool.and_eq_false_iff, beq_eq_false_iff_ne, decide_eq_false_iff_not, Int.ofNat_eq_natCast]
    omega

/-! ### EMU_DISARM (R128) -/

theorem State.releaseOwn_alarm (s : State) (k : Nat) (kind : AlarmKind) (target i : Nat) : (s.releaseOwn k kind target).alarm i =
    if i = k ∧ s.ownAlarm k kind target = true then { s.alarm k with st := .cancelled } else s.alarm i := by
  unfold State.releaseOwn
  by_cases ho : s.ownAlarm k kind target = true
  case neg => simp [ho]
  case pos =>
    have hst : (s.alarm k).st = .armed := by
      simp only [State.ownAlarm, Bool.and_eq_true, beq_iff_eq] at ho
      obtain ⟨⟨hst, -⟩, -⟩ := ho
      exact hst
    rw [if_pos ho, State.releaseSlot, if_pos hst]
    by_cases hi : i = k
    · subst hi
      simp [State.alarm_setAlarm_same, ho]
    · simp [State.alarm_setAlarm_ne _ _ hi, hi]

@[simp] theorem State.releaseOwn_regs (s : State) (k : Nat) (kind : AlarmKind) (target : Nat) :
    (s.releaseOwn k kind target).regs = s.regs := by
  unfold State.releaseOwn State.releaseSlot
  split
  · split
    · exact State.setAlarm_regs _ _ _
    · rfl
  · rfl

theorem State.releaseOwn_alarm_keeps (s : State) (k : Nat) (kind : AlarmKind) (target : Nat) {i : Nat}
    (h : s.ownAlarm i kind target = false) : (s.releaseOwn k kind target).alarm i = s.alarm i := by
  rw [State.releaseOwn_alarm, if_neg]
  rintro ⟨rfl, ho⟩
  rw [h] at ho
  cases ho

theorem State.ownAlarm_of_alarm {s u : State} {k : Nat} (h : s.alarm k = u.alarm k) (kind : AlarmKind) (target : Nat) :
    s.ownAlarm k kind target = u.ownAlarm k kind target := by
  rw [State.ownAlarm, State.ownAlarm, h]

/-- An alarm is of one kind. -/
theorem State.ownAlarm_other {s : State} {k target : Nat} {kind kind' : AlarmKind} (hne : kind ≠ kind')
    (h : s.ownAlarm k kind target = true) : s.ownAlarm k kind' target = false := by
  simp only [State.ownAlarm, Bool.and_eq_true, beq_iff_eq] at h
  simp [State.ownAlarm, h, hne]

/-- An EMU's two slots released: each alarm that is still its own is cancelled, and every other alarm stays. -/
theorem State.releaseOwn_both (s : State) (o q m : Nat) :
    let u := (s.releaseOwn o .emuOpen m).releaseOwn q .emuClose m
    (s.ownAlarm o .emuOpen m = true → (u.alarm o).st = .cancelled) ∧
    (s.ownAlarm q .emuClose m = true → (u.alarm q).st = .cancelled) ∧
    (∀ k, s.ownAlarm k .emuOpen m = false → s.ownAlarm k .emuClose m = false → u.alarm k = s.alarm k) := by
  refine ⟨fun ho => ?_, fun hq => ?_, fun k ho hq => ?_⟩
  · have hfirst : ((s.releaseOwn o .emuOpen m).alarm o).st = .cancelled := by rw [State.releaseOwn_alarm, if_pos ⟨rfl, ho⟩]
    rw [State.releaseOwn_alarm]
    split
    · rfl
    · exact hfirst
  · have hkeep := s.releaseOwn_alarm_keeps o .emuOpen m (State.ownAlarm_other (by decide) hq)
    rw [State.releaseOwn_alarm, if_pos ⟨rfl, (State.ownAlarm_of_alarm hkeep _ _).trans hq⟩]
  · have hkeep := s.releaseOwn_alarm_keeps o .emuOpen m ho
    rw [State.releaseOwn_alarm_keeps _ _ _ _ ((State.ownAlarm_of_alarm hkeep _ _).trans hq), hkeep]

theorem exec_emuDisarm_armed (ha : s.admitsOwner c 0x21 = true) (hm : m < 32) (harmed : s.getB F.emuCfg_ARMED m = true)
    (hopen : s.getB F.emuStat_OPEN m = false) : exec (.emuDisarm c m) s =
      .next ((((s.releaseOwn (s.get F.emuSlots_OPEN_SLOT m) .emuOpen m).releaseOwn (s.get F.emuSlots_CLOSE_SLOT m) .emuClose m).putB
        F.emuCfg_ARMED false m).complete c 0x21 .ok) := by
  obtain ⟨hadm, hown⟩ := (s.admitsOwner_iff c 0x21).1 ha
  have hclosed : ((s.releaseOwn (s.get F.emuSlots_OPEN_SLOT m) .emuOpen m).releaseOwn (s.get F.emuSlots_CLOSE_SLOT m) .emuClose
      m).getB F.emuStat_OPEN m = false := by
    rw [State.getB_congr (State.releaseOwn_regs ..), State.getB_congr (State.releaseOwn_regs ..), hopen]
  rw [exec_emuDisarm, execEmuDisarm, State.runCmd_ok_of_admits hadm _ c (firstFail_eq_none ?_), if_pos harmed, State.emuDisarm,
    if_neg (by simp [hclosed])]
  simp only [List.forall_mem_cons, List.not_mem_nil, false_imp_iff, implies_true, and_true]
  exact ⟨notOwner_pass hown, by simpa using hm⟩

/-! ### TDC_CAL and MON_RESTART (R136, R150) -/

theorem mem_maskList {n mask k : Nat} : k ∈ maskList n mask ↔ k < n ∧ bitOf mask k = true := by simp [maskList]

theorem exec_tdcCal_ok {mask : Nat} (ha : s.admitsOwner c 0x22 = true) (hm : mask < 2 ^ 64)
    (hidle : ∀ t < 64, bitOf mask t = true → s.get F.tdcStat_STATE t = 0) :
    exec (.tdcCal c mask) s = .next (((maskList 64 mask).foldl (fun s t => s.calStart t) s).complete c 0x22 .ok) := by
  obtain ⟨hadm, hown⟩ := (s.admitsOwner_iff c 0x22).1 ha
  rw [exec_tdcCal, execTdcCal, State.runCmd_ok_of_admits hadm _ c (firstFail_eq_none ?_)]
  simp only [List.forall_mem_cons, List.not_mem_nil, false_imp_iff, implies_true, and_true]
  refine ⟨notOwner_pass hown, by simpa using hm, List.any_eq_false.2 fun t ht => ?_⟩
  obtain ⟨h64, hbit⟩ := mem_maskList.1 ht
  simp [hidle t h64 hbit]

theorem exec_monRestart_ok {mask : Nat} (ha : s.admitsOwner c 0x23 = true) (hm : mask < 2 ^ 24) :
    exec (.monRestart c mask) s = .next (((maskList 24 mask).foldl (fun v n => v.monRestart n) s).complete c 0x23 .ok) := by
  obtain ⟨hadm, hown⟩ := (s.admitsOwner_iff c 0x23).1 ha
  rw [exec_monRestart, execMonRestart, State.runCmd_ok_of_admits hadm _ c (firstFail_eq_none ?_)]
  simp only [List.forall_mem_cons, List.not_mem_nil, false_imp_iff, implies_true, and_true]
  exact ⟨notOwner_pass hown, by simpa using hm⟩

/-- A restart leaves both monitors REJECTED, and of their record the prescaler's count alone (R150). -/
theorem State.monRestart_shows (v : State) (n : Nat) : ∃ u : State, v.monRestart n = u.monShow n ∧
    u.getB F.inStat_ACT_OK n = false ∧ u.getB F.inStat_FREQ_OK n = false ∧ u.mon n = { pre := (v.mon n).pre } := by
  refine ⟨_, rfl, ?_⟩
  simp (decide := true) [State.putB, State.getB_put_same]

end Sys2Proof.Machine

open Sys2Proof Sys2Proof.Machine

/-- Settles O11, command by command: its checks pass, and what its effect leaves. -/
theorem measurementCommandsComplete : Obligations.MeasurementCommandsComplete := by
  intro s c
  refine ⟨?arm, ?disarm, ?cal, fun mask ha hm => ⟨exec_monRestart_ok ha hm, State.monRestart_shows⟩⟩
  case arm =>
    intro m mode startSrc stopSrc dom t0 per w dests queue emptyReport lateOk ha hm hd ht hdests hq he hl hper hstart hstop hwin hw
      hst hres harmed htwo hlate
    have hmode : mode < 2 := by omega
    have hstart256 : startSrc < 256 := by
      obtain ⟨-, rfl⟩ | ⟨-, h⟩ := hstart
      · decide
      · exact srcOk_lt h
    obtain ⟨harm, hmd, hss, hsp, hdm, hseq⟩ :=
      s.emuSetup_regs m dests queue emptyReport hmode hstart256 (srcOk_lt hstop) hd
    obtain ⟨hregs, hopen, hclose⟩ := State.emuArm_slots ((s.emuSetup_twoFree m mode startSrc stopSrc dom dests queue emptyReport).trans htwo)
      m dom (tvTicks t0) per w (lateOk == 1)
    refine ⟨_, exec_emuArm_ok ha hm hd ht hdests hq he hl hper hstart hstop hwin hw hst hres harmed htwo hlate, ?_⟩
    refine ⟨?_, (hregs _ (by decide) (by decide)).trans hmd, (hregs _ (by decide) (by decide)).trans hss,
      (hregs _ (by decide) (by decide)).trans hsp, (hregs _ (by decide) (by decide)).trans hdm,
      (hregs _ (by decide) (by decide)).trans hseq, hopen, hclose⟩
    rw [State.getB, hregs _ (by decide) (by decide)]
    exact harm
  case disarm =>
    intro m ha hm harmed hopen
    obtain ⟨ho, hq, hothers⟩ := s.releaseOwn_both (s.get F.emuSlots_OPEN_SLOT m) (s.get F.emuSlots_CLOSE_SLOT m) m
    refine ⟨_, exec_emuDisarm_armed ha hm harmed hopen, State.getB_putB_same _ _ _ _ _ (by decide) rfl, ?_⟩
    simp only [State.putB, State.put_alarm]
    exact ⟨ho, hq, trivial, hothers⟩
  case cal =>
    intro mask ha hm hidle
    refine ⟨_, exec_tdcCal_ok ha hm hidle, fun t ht => ?_⟩
    rw [State.foldl_calStart_get_state]
    by_cases hbit : bitOf mask t = true
    · simp [mem_maskList, ht, hbit, hidle t ht hbit]
    · simp [mem_maskList, hbit]
end

section
/-! RULES. GNB's registers and records: what a write of one leaves of the others (R155–R198). -/
namespace Sys2Proof.Machine

variable (s : State) {f g : Field}

@[simp] theorem State.setGnb_gnb (x : Gnb) : (s.setGnb x).gnb = x := rfl
@[simp] theorem State.setGnb_get (x : Gnb) (f : Field) (i j : Nat) : (s.setGnb x).get f i j = s.get f i j := rfl
@[simp] theorem State.setGnb_getB (x : Gnb) (f : Field) (i j : Nat) : (s.setGnb x).getB f i j = s.getB f i j := rfl
@[simp] theorem State.setGnb_getI (x : Gnb) (f : Field) (i j : Nat) : (s.setGnb x).getI f i j = s.getI f i j := rfl

@[simp] theorem State.setGsp_get (n : Nat) (x : Gsp) (f : Field) (i j : Nat) : (s.setGsp n x).get f i j = s.get f i j := rfl
@[simp] theorem State.setGsp_getB (n : Nat) (x : Gsp) (f : Field) (i j : Nat) : (s.setGsp n x).getB f i j = s.getB f i j := rfl

theorem State.gsp_of_gnb {s t : State} (h : s.gnb.gsp = t.gnb.gsp) (n : Nat) : s.gsp n = t.gsp n := by rw [State.gsp, State.gsp, h]

@[simp] theorem State.setGsp_gsp (n : Nat) (x : Gsp) : (s.setGsp n x).gsp n = x := tabGet_tabSet_same _ _ _ _

theorem State.setGsp_gsp_ne {n m : Nat} (x : Gsp) (h : m ≠ n) : (s.setGsp n x).gsp m = s.gsp m := tabGet_tabSet_ne _ _ _ h

/-- A field that was written with a number that it can hold. -/
theorem State.get_put_of_lt {v : Nat} (i j : Nat) (hf : f.hi < 64) (hl : f.lo ≤ f.hi) (hv : v < 2 ^ (f.hi - f.lo + 1)) :
    (s.put f v i j).get f i j = v := (s.get_put_same f v i j hf hl).trans (Nat.mod_eq_of_lt hv)

theorem regAddr_gnbRxc : regAddr .gnbRxc 0 0 = 0x300008 := rfl
theorem regAddr_gspCfg (n : Nat) : regAddr .gspCfg n 0 = 0x300100 + 0x40 * n := rfl
theorem regAddr_gspLevel (n : Nat) : regAddr .gspLevel n 0 = 0x300120 + 0x40 * n := rfl
theorem regAddr_gnbTmsg (i : Nat) : regAddr .gnbTmsg i 0 = 0x300200 + 8 * i := rfl
theorem regAddr_gnbTstat : regAddr .gnbTstat 0 0 = 0x300220 := rfl
theorem regAddr_gnbSurvey : regAddr .gnbSurvey 0 0 = 0x300300 := rfl
theorem regAddr_gnbPos (i : Nat) : regAddr .gnbPos i 0 = 0x300308 + 8 * i := rfl
theorem regAddr_gnbPosUnc : regAddr .gnbPosUnc 0 0 = 0x300338 := rfl
theorem regAddr_chStat (c : Nat) : regAddr .chStat c 0 = 0x300800 + 8 * c := rfl

/-- A register of a family is not changed by a write at another index. -/
theorem State.rd_wr_index_ne {r : RegId} (w : Word) {i i' : Nat} (hs : 0 < (regInfo r).si) (h : i' ≠ i) :
    (s.wr r w i).rd r i' = s.rd r i' :=
  s.rd_wr_ne _ _ _ _ _ _ _ fun he => h (Nat.eq_of_mul_eq_mul_left hs (by simpa [regAddr] using he))

theorem State.get_put_index_ne (v : Nat) {i i' : Nat} (hs : 0 < (regInfo f.reg).si) (h : i' ≠ i) :
    (s.put f v i).get f i' = s.get f i' := State.get_of_rd (s.rd_wr_index_ne _ hs h)

end Sys2Proof.Machine
end

section
/-! PROOF. Channels (R166, R168, R174). -/
namespace Sys2Proof.Machine

variable {s : State} {ch : Nat}

theorem State.sigUsable_lt {code : Nat} (h : s.sigUsable code = true) : code < 256 := by
  refine Nat.lt_of_not_le fun hle => ?_
  have hnone : signalBit code = none := List.findIdx?_eq_none_iff.2 fun e he => by
    have hsmall : ∀ e ∈ signalTable, e.1 < 256 := by decide
    have := hsmall e he
    simp only [beq_eq_false_iff_ne]
    omega
  simp [State.sigUsable, hnone] at h

/-- Where every channel is IDLE, none tracks a signal. -/
theorem State.tracked_of_idle (h : ∀ k < 192, s.chState k = 0) (signal sv : Nat) : s.tracked signal sv = false :=
  List.any_eq_false.2 fun k hk => by simp [h k (List.mem_range.1 hk)]

/-- A channel that IDLE leaves for ACQUIRED: its record, and the start of its loops (R166, R168). -/
def State.chAssigned (s : State) (ch signal sv phase : Nat) (doppler : Int) : State :=
  (((s.setGnb { s.gnb with start := tabPut s.gnb.start ch (phase, doppler) }).put F.chStat_SIGNAL signal ch).put
    F.chStat_SV sv ch).put F.chStat_STATE 1 ch

theorem exec_channelAssign_idle {signal sv : Nat} (phase : Nat) (doppler : Int) (hch : ch < 192) (hst : s.chState ch = 0)
    (hu : s.sigUsable signal = true) (h1 : 1 ≤ sv) (h63 : sv ≤ 63) (hh : s.handOver signal sv = true) :
    exec (.channelAssign ch signal sv phase doppler) s = .next (s.chAssigned ch signal sv phase doppler) := by
  rw [exec_channelAssign, execChannelAssign, if_neg (by simp [hst, hu, hh, svOk, h1, h63, hch]), State.chAssigned]

/-- A signal that starts by hand-over alone does not start where there is none (R161, R166). -/
theorem exec_channelAssign_noHandOver {signal sv : Nat} (phase : Nat) (doppler : Int) (hh : s.handOver signal sv = false) :
    exec (.channelAssign ch signal sv phase doppler) s = .next s := by
  rw [exec_channelAssign, execChannelAssign, if_pos (by simp [hh])]

theorem State.chAssigned_record {signal sv : Nat} (phase : Nat) (doppler : Int) (hsig : signal < 256) (hsv : sv < 256) :
    (s.chAssigned ch signal sv phase doppler).get F.chStat_STATE ch = 1 ∧
      (s.chAssigned ch signal sv phase doppler).get F.chStat_SIGNAL ch = signal ∧
      (s.chAssigned ch signal sv phase doppler).get F.chStat_SV ch = sv ∧
      (s.chAssigned ch signal sv phase doppler).get F.chStat_CN0 ch = s.get F.chStat_CN0 ch := by
  refine ⟨State.get_put_of_lt _ _ _ (by decide) (by decide) (by decide), ?_, ?_, ?_⟩
  · simp (decide := true) only [State.chAssigned, State.get_put_besides]
    exact State.get_put_of_lt _ _ _ (by decide) (by decide) hsig
  · simp (decide := true) only [State.chAssigned, State.get_put_besides]
    exact State.get_put_of_lt _ _ _ (by decide) (by decide) hsv
  · simp (decide := true) only [State.chAssigned, State.get_put_besides, State.setGnb_get]

theorem State.chMove_of_mem {src : List Nat} (hch : ch < 192) (h : s.chState ch ∈ src) (next : Nat) :
    s.chMove ch src next = s.put F.chStat_STATE next ch := if_neg (by simpa using ⟨hch, h⟩)

end Sys2Proof.Machine

open Sys2Proof Sys2Proof.Machine

/-- Settles O12, row by row: the guard of each row holds, and what it writes. -/
theorem channelsMoveByTheirTable : Obligations.ChannelsMoveByTheirTable := by
  intro s ch hch
  have move : ∀ (src : List Nat) (next : Nat), s.chState ch ∈ src → s.chMove ch src next = s.put F.chStat_STATE next ch :=
    fun _ next h => State.chMove_of_mem hch h next
  refine ⟨?assign, ?handOver, fun h => ?lock, fun h => ?pullIn, fun h => ?bitSync, fun last h => ?frameSync, fun h => ?loss,
    fun h => ?release⟩
  case assign =>
    intro signal sv phase doppler hst hu h1 h63 hh
    exact ⟨_, exec_channelAssign_idle phase doppler hch hst hu h1 h63 hh,
      State.chAssigned_record phase doppler (State.sigUsable_lt hu) (by omega)⟩
  case handOver =>
    intro sv phase doppler hidle
    exact ⟨exec_channelAssign_noHandOver phase doppler (State.tracked_of_idle hidle 0x01 sv),
      exec_channelAssign_noHandOver phase doppler (State.tracked_of_idle hidle 0x21 sv)⟩
  case lock => rw [exec_channelLock, execChannelLock, move _ _ (by simp [h])]
  case pullIn => rw [exec_pullInTimeout, execPullInTimeout, move _ _ (by simp [h])]
  case bitSync => rw [exec_bitSyncFound, execBitSyncFound, move _ _ (by simp [h])]
  case frameSync => rw [exec_frameSyncFound, execFrameSyncFound, if_neg (by simp [h, hch])]
  case loss => rw [exec_cn0Loss, execCn0Loss, move _ _ (by simpa using h)]
  case release => rw [exec_channelRelease, execChannelRelease, if_neg (by simp [h, hch])]
end

section
/-! PROOF. The end of a coherence gate (R153, R157). -/
namespace Sys2Proof.Machine

/-- Sample port n is the same in two states: its registers and its record. -/
structure State.SamePort (n : Nat) (s t : State) : Prop where
  cfg : t.rd .gspCfg n = s.rd .gspCfg n
  level : t.rd .gspLevel n = s.rd .gspLevel n
  record : t.gsp n = s.gsp n

namespace State.SamePort

variable {n : Nat} {s t u : State}

theorem trans (h : s.SamePort n t) (k : t.SamePort n u) : s.SamePort n u :=
  ⟨k.cfg.trans h.cfg, k.level.trans h.level, k.record.trans h.record⟩

theorem get_level (h : s.SamePort n t) {f : Field} (hf : f.reg = .gspLevel) : t.get f n = s.get f n :=
  State.get_of_rd (by rw [hf]; exact h.level)

theorem getB_level (h : s.SamePort n t) {f : Field} (hf : f.reg = .gspLevel) : t.getB f n = s.getB f n := by
  rw [State.getB, State.getB, h.get_level hf]

theorem get_cfg (h : s.SamePort n t) {f : Field} (hf : f.reg = .gspCfg) : t.get f n = s.get f n :=
  State.get_of_rd (by rw [hf]; exact h.cfg)

theorem getB_cfg (h : s.SamePort n t) {f : Field} (hf : f.reg = .gspCfg) : t.getB f n = s.getB f n := by
  rw [State.getB, State.getB, h.get_cfg hf]

theorem gspOn (h : s.SamePort n t) : t.gspOn n = s.gspOn n := by
  rw [State.gspOn, State.gspOn, h.getB_cfg rfl, h.getB_level rfl]

theorem gspDiv (h : s.SamePort n t) : t.gspDiv n = s.gspDiv n := by
  rw [State.gspDiv, State.gspDiv, h.get_cfg rfl]

theorem sample (h : s.SamePort n t) (i q : Nat) : t.sample n i q = s.sample n i q := by
  rw [State.sample, State.sample, h.getB_cfg rfl, h.getB_cfg rfl, h.getB_cfg rfl]

theorem gateFigures (h : s.SamePort n t) (smp : List (Nat × Nat × Nat)) : t.gateFigures n smp = s.gateFigures n smp := by
  simp only [State.gateFigures, h.getB_cfg (f := F.gspCfg_FORMAT) rfl, h.sample]

end State.SamePort

variable {s : State} {n : Nat} {smp : List (Nat × Nat × Nat)}

/-! ### The other port -/

theorem State.samePort_wr_ne {m : Nat} (h : m ≠ n) (w : Word) : s.SamePort m (s.wr .gspLevel w n) where
  cfg := s.rd_wr_ne _ _ _ _ _ _ _ (by rw [regAddr_gspCfg, regAddr_gspLevel]; omega)
  level := s.rd_wr_index_ne w (by decide) h
  record := rfl

theorem State.samePort_setGsp_ne {m : Nat} (h : m ≠ n) (x : Gsp) : s.SamePort m (s.setGsp n x) := ⟨rfl, rfl, s.setGsp_gsp_ne x h⟩

theorem State.samePort_setGnb {m : Nat} {x : Gnb} (h : x.gsp = s.gnb.gsp) : s.SamePort m (s.setGnb x) :=
  ⟨rfl, rfl, State.gsp_of_gnb h m⟩

/-! ### The port itself -/

/-- The figures of a gate shown in GSPn_LEVEL (R153). -/
def State.gateShown (s : State) (n : Nat) (smp : List (Nat × Nat × Nat)) : State :=
  ((s.put F.gspLevel_DCLK_CNT (satNat 18 (s.gateFigures n smp).1) n).put F.gspLevel_RMS (satNat 16 (s.gateFigures n smp).2.1) n).put
    F.gspLevel_FS_FRAC (satNat 16 (s.gateFigures n smp).2.2) n

theorem State.gateShown_samePort_ne {m : Nat} (h : m ≠ n) : s.SamePort m (s.gateShown n smp) :=
  ((State.samePort_wr_ne h _).trans (State.samePort_wr_ne h _)).trans (State.samePort_wr_ne h _)

@[simp] theorem State.gateShown_gsp : (s.gateShown n smp).gsp n = s.gsp n := rfl

@[simp] theorem State.gateShown_cohOk : (s.gateShown n smp).getB F.gspLevel_COH_OK n = s.getB F.gspLevel_COH_OK n := by
  simp (decide := true) only [State.gateShown, State.getB_put_besides]

@[simp] theorem State.gateShown_gspDiv : (s.gateShown n smp).gspDiv n = s.gspDiv n := by
  simp (decide := true) only [State.gspDiv, State.gateShown, State.get_put_besides]

/-- DCLK edges of a gate (R153). -/
def dclkEdges (smp : List (Nat × Nat × Nat)) : Nat := (smp.map fun e => e.1).sum

/-- The figures of a gate as they stand in GSPn_LEVEL (R153). -/
def State.ShowsGate (s u : State) (n : Nat) (smp : List (Nat × Nat × Nat)) : Prop :=
  u.get F.gspLevel_DCLK_CNT n = min (dclkEdges smp) 262143 ∧ u.get F.gspLevel_RMS n = min (s.gateFigures n smp).2.1 65535 ∧
    u.get F.gspLevel_FS_FRAC n = min (s.gateFigures n smp).2.2 65535

theorem State.gateShown_shows : s.ShowsGate (s.gateShown n smp) n smp := by
  have hcnt : (s.gateFigures n smp).1 = dclkEdges smp := rfl
  simp (decide := true) only [State.ShowsGate, State.gateShown, State.get_put_besides, State.get_put_same, satNat_eq_min, hcnt]
  omega

theorem State.ShowsGate.of_get {u v : State} (h : s.ShowsGate u n smp)
    (hget : ∀ f : Field, f.besides F.gspLevel_COH_OK = true → v.get f n = u.get f n) : s.ShowsGate v n smp := by
  rw [State.ShowsGate, hget _ (by decide), hget _ (by decide), hget _ (by decide)]
  exact h

/-- A gate passes: its DCLK edges are 1,250,000 / DIV within one (R157). -/
def State.gatePasses (s : State) (n : Nat) (smp : List (Nat × Nat × Nat)) : Prop :=
  ((dclkEdges smp : Int) - 1250000 / s.gspDiv n).natAbs ≤ 1

theorem State.gatePasses_iff : s.gatePasses n smp ↔
    dclkEdges smp ≤ 1250000 / s.gspDiv n + 1 ∧ 1250000 / s.gspDiv n ≤ dclkEdges smp + 1 := by
  have hcast : (1250000 : Int) / s.gspDiv n = ((1250000 / s.gspDiv n : Nat) : Int) := by simp
  rw [State.gatePasses, hcast]
  omega

/-- What a gate's end leaves of its port: its figures, and the judgement of a whole gate (R153, R157). -/
def State.GateJudged (s u : State) (n : Nat) (smp : List (Nat × Nat × Nat)) : Prop :=
  s.ShowsGate u n smp ∧
    ((s.gsp n).skip = true → (u.gsp n).skip = false ∧ u.getB F.gspLevel_COH_OK n = s.getB F.gspLevel_COH_OK n) ∧
    ((s.gsp n).skip = false → s.gatePasses n smp → (u.gsp n).pass = min 1000 ((s.gsp n).pass + 1) ∧
      u.getB F.gspLevel_COH_OK n = (decide (999 ≤ (s.gsp n).pass) || s.getB F.gspLevel_COH_OK n)) ∧
    ((s.gsp n).skip = false → ¬ s.gatePasses n smp → (u.gsp n).pass = 0 ∧ u.getB F.gspLevel_COH_OK n = false)

/-- The judgement of a port concerns that port alone. -/
theorem State.GateJudged.congr {s' u u' : State} (h : s.GateJudged u n smp) (hs : s.SamePort n s') (hu : u.SamePort n u') :
    s'.GateJudged u' n smp := by
  simpa only [State.GateJudged, State.ShowsGate, State.gatePasses, hs.gateFigures, hs.gspDiv, hs.record, hu.record,
    hs.getB_level (f := F.gspLevel_COH_OK) rfl, hu.getB_level (f := F.gspLevel_COH_OK) rfl,
    hu.get_level (f := F.gspLevel_DCLK_CNT) rfl, hu.get_level (f := F.gspLevel_RMS) rfl,
    hu.get_level (f := F.gspLevel_FS_FRAC) rfl] using h

/-- COH_OK is set by the thousandth gate passed in a row, and the next timing message carries RESYNC (R157). -/
def State.cohereAt (s : State) (n pass : Nat) : State :=
  if 999 ≤ pass ∧ !s.getB F.gspLevel_COH_OK n then (s.putB F.gspLevel_COH_OK true n).setGnb { s.gnb with resync := true } else s

/-- The judgement of a gate of cnt DCLK edges (R157). -/
def State.gateJudge (s : State) (n cnt : Nat) : State :=
  if (s.gsp n).skip then s.setGsp n { s.gsp n with skip := false }
  else if cnt ≤ 1250000 / s.gspDiv n + 1 ∧ 1250000 / s.gspDiv n ≤ cnt + 1 then
    (s.setGsp n { s.gsp n with pass := min 1000 ((s.gsp n).pass + 1) }).cohereAt n (s.gsp n).pass
  else (s.setGsp n { s.gsp n with pass := 0 }).putB F.gspLevel_COH_OK false n

theorem State.gateEnd_eq (hon : s.gspOn n = true) : s.gateEnd n smp = (s.gateShown n smp).gateJudge n (dclkEdges smp) := by
  rw [State.gateEnd, if_neg (by simp [hon])]
  rfl

theorem State.gateEnd_skipped (hon : s.gspOn n = true) (hskip : (s.gsp n).skip = true) :
    s.gateEnd n smp = (s.gateShown n smp).setGsp n { s.gsp n with skip := false } := by
  rw [State.gateEnd_eq hon, State.gateJudge, State.gateShown_gsp, if_pos hskip]

theorem State.gateEnd_passed (hon : s.gspOn n = true) (hskip : (s.gsp n).skip = false) (hpass : s.gatePasses n smp) :
    s.gateEnd n smp = ((s.gateShown n smp).setGsp n { s.gsp n with pass := min 1000 ((s.gsp n).pass + 1) }).cohereAt n
      (s.gsp n).pass := by
  rw [State.gateEnd_eq hon, State.gateJudge, State.gateShown_gsp, State.gateShown_gspDiv, if_neg (by simp [hskip]),
    if_pos (State.gatePasses_iff.1 hpass)]

theorem State.gateEnd_failed (hon : s.gspOn n = true) (hskip : (s.gsp n).skip = false) (hfail : ¬ s.gatePasses n smp) :
    s.gateEnd n smp = ((s.gateShown n smp).setGsp n { s.gsp n with pass := 0 }).putB F.gspLevel_COH_OK false n := by
  rw [State.gateEnd_eq hon, State.gateJudge, State.gateShown_gsp, State.gateShown_gspDiv, if_neg (by simp [hskip]),
    if_neg (mt State.gatePasses_iff.2 hfail)]

theorem State.cohereAt_get (pass : Nat) {f : Field} (hf : f.besides F.gspLevel_COH_OK = true) :
    (s.cohereAt n pass).get f n = s.get f n := by
  unfold State.cohereAt
  split
  · exact s.get_put_besides _ _ _ hf
  · rfl

theorem State.cohereAt_gsp (pass m : Nat) : (s.cohereAt n pass).gsp m = s.gsp m := by
  unfold State.cohereAt
  split <;> rfl

theorem State.cohereAt_cohOk (pass : Nat) : (s.cohereAt n pass).getB F.gspLevel_COH_OK n =
    (decide (999 ≤ pass) || s.getB F.gspLevel_COH_OK n) := by
  unfold State.cohereAt
  split
  case isTrue h => rw [State.setGnb_getB, State.getB_putB_same _ _ _ _ _ (by decide) rfl, decide_eq_true h.1, Bool.true_or]
  case isFalse h =>
    by_cases h999 : 999 ≤ pass
    · simpa [h999] using h
    · simp [h999]

theorem State.cohereAt_samePort_ne {m : Nat} (h : m ≠ n) (pass : Nat) : s.SamePort m (s.cohereAt n pass) := by
  unfold State.cohereAt
  split
  · exact (State.samePort_wr_ne h _).trans (State.samePort_setGnb rfl)
  · exact ⟨rfl, rfl, rfl⟩

theorem State.gateEnd_judged (hon : s.gspOn n = true) : s.GateJudged (s.gateEnd n smp) n smp := by
  cases hskip : (s.gsp n).skip with
  | true =>
    rw [State.gateEnd_skipped hon hskip]
    refine ⟨State.gateShown_shows.of_get fun f _ => State.setGsp_get _ _ _ _ _ _, fun _ => ⟨?_, ?_⟩, by simp [hskip],
      by simp [hskip]⟩
    · rw [State.setGsp_gsp]
    · rw [State.setGsp_getB, State.gateShown_cohOk]
  | false =>
    by_cases hpass : s.gatePasses n smp
    · rw [State.gateEnd_passed hon hskip hpass]
      refine ⟨State.gateShown_shows.of_get fun f hf => ?_, by simp [hskip], fun _ _ => ⟨?_, ?_⟩, fun _ h => absurd hpass h⟩
      · rw [State.cohereAt_get _ hf, State.setGsp_get]
      · rw [State.cohereAt_gsp, State.setGsp_gsp]
      · rw [State.cohereAt_cohOk, State.setGsp_getB, State.gateShown_cohOk]
    · rw [State.gateEnd_failed hon hskip hpass]
      refine ⟨State.gateShown_shows.of_get fun f hf => ?_, by simp [hskip], fun _ h => absurd h hpass, fun _ _ => ⟨?_, ?_⟩⟩
      · rw [State.putB, State.get_put_besides _ _ _ _ hf, State.setGsp_get]
      · rw [State.gsp_of_gnb (congrArg Gnb.gsp (State.putB_gnb _ _ _ _ _)), State.setGsp_gsp]
      · exact State.getB_putB_same _ _ _ _ _ (by decide) rfl

theorem State.gateEnd_samePort_ne {m : Nat} (h : m ≠ n) : s.SamePort m (s.gateEnd n smp) := by
  by_cases hon : s.gspOn n = true
  case neg =>
    rw [State.gateEnd, if_pos (by simpa using hon)]
    exact ⟨rfl, rfl, rfl⟩
  case pos =>
    cases hskip : (s.gsp n).skip with
    | true =>
      rw [State.gateEnd_skipped hon hskip]
      exact (State.gateShown_samePort_ne h).trans (State.samePort_setGsp_ne h _)
    | false =>
      by_cases hpass : s.gatePasses n smp
      · rw [State.gateEnd_passed hon hskip hpass]
        exact ((State.gateShown_samePort_ne h).trans (State.samePort_setGsp_ne h _)).trans (State.cohereAt_samePort_ne h _)
      · rw [State.gateEnd_failed hon hskip hpass]
        exact ((State.gateShown_samePort_ne h).trans (State.samePort_setGsp_ne h _)).trans (State.samePort_wr_ne h _)

/-- Both ports at the end of a gate: each is judged as it stood before (R157). -/
theorem exec_cohGateEnd_judges (smp0 smp1 : List (Nat × Nat × Nat)) (hgate : s.get F.gnbRxc_RXC % 1250000 = 0)
    (hnew : s.gnb.gateAt ≠ some (s.get F.gnbRxc_RXC)) : ∃ u : State, exec (.cohGateEnd smp0 smp1 ()) s = .next (u.refresh 12) ∧
      (s.gspOn 0 = true → s.GateJudged u 0 smp0) ∧ (s.gspOn 1 = true → s.GateJudged u 1 smp1) := by
  have hnoted : ∀ (u : State) (n : Nat), u.SamePort n (u.setGnb { u.gnb with gateAt := some (s.get F.gnbRxc_RXC) }) :=
    fun u n => State.samePort_setGnb rfl
  have hfirst : s.SamePort 1 (s.gateEnd 0 smp0) := State.gateEnd_samePort_ne (by decide)
  have hsecond : (s.gateEnd 0 smp0).SamePort 0 ((s.gateEnd 0 smp0).gateEnd 1 smp1) := State.gateEnd_samePort_ne (by decide)
  refine ⟨_, congrArg _ (if_neg (by simp [hgate, hnew])), fun hon => ?_, fun hon => ?_⟩
  · exact (State.gateEnd_judged hon).congr ⟨rfl, rfl, rfl⟩ (hsecond.trans (hnoted _ 0))
  · have hjudged := State.gateEnd_judged (smp := smp1) (hfirst.gspOn.trans hon)
    exact hjudged.congr ⟨hfirst.cfg.symm, hfirst.level.symm, hfirst.record.symm⟩ (hnoted _ 1)

end Sys2Proof.Machine
end

section
/-! PROOF. Acquisition searches and measurement epochs (R164–R166, R170, R171). -/
namespace Sys2Proof.Machine

variable {s : State}

/-! ### Searches (R164–R166) -/

theorem State.onGrid_of_searchGrid {signal points bin phase : Nat} {doppler : Int} (h : searchGrid signal = some (points, bin)) :
    s.onGrid signal phase doppler = true ↔ phase < points ∧ doppler.natAbs ≤ s.gnb.acqSpan ∧ doppler.natAbs % bin = 0 := by
  simp [State.onGrid, h, and_assoc]

theorem State.onGrid_eq_false {signal : Nat} (phase : Nat) {doppler : Int}
    (h : searchGrid signal = none ∨ s.gnb.acqSpan < doppler.natAbs) : s.onGrid signal phase doppler = false := by
  cases hg : searchGrid signal with
  | none => simp [State.onGrid, hg]
  | some e =>
    refine Bool.eq_false_iff.2 fun hon => ?_
    obtain ⟨-, hspan, -⟩ := (State.onGrid_of_searchGrid hg).1 hon
    obtain h | h := h
    · simp [hg] at h
    · omega

theorem exec_acquisitionSearchDone_onGrid {signal sv phase : Nat} {doppler : Int} (found : Bool) (hu : s.sigUsable signal = true)
    (h1 : 1 ≤ sv) (h63 : sv ≤ 63) (hg : s.onGrid signal phase doppler = true) :
    exec (.acquisitionSearchDone signal sv found phase doppler) s = .next (s.setGnb
      { s.gnb with acq := some { signal := signal, sv := sv, found := found, phase := phase, doppler := doppler } }) := by
  rw [exec_acquisitionSearchDone, execAcquisitionSearchDone, if_pos (by simp [hu, hg, svOk, h1, h63])]

theorem exec_acquisitionSearchDone_offGrid {signal sv phase : Nat} {doppler : Int} (found : Bool)
    (hg : s.onGrid signal phase doppler = false) : exec (.acquisitionSearchDone signal sv found phase doppler) s = .next s := by
  rw [exec_acquisitionSearchDone, execAcquisitionSearchDone, if_neg (by simp [hg])]

/-! ### Words of the banks -/

theorem putWords_cons (t : Tab Word) (off : Nat) (w : Word) (l : List Word) :
    putWords t off (w :: l) = putWords (tabSet 0 t off w) (off + 8) l := by
  simp only [putWords, List.zipIdx_cons, List.foldl_cons, Nat.mul_zero, Nat.add_zero, List.zipIdx_succ, List.foldl_map,
    Nat.mul_add, Nat.mul_one, Nat.add_assoc, Nat.add_comm 8]

/-- Words written from an offset on leave every other place. -/
theorem tabGet_putWords_ne {a off : Nat} (t : Tab Word) {l : List Word} (h : a < off ∨ off + 8 * l.length ≤ a) :
    tabGet 0 (putWords t off l) a = tabGet 0 t a := by
  induction l generalizing t off with
  | nil => rfl
  | cons w l ih =>
    simp only [List.length_cons] at h
    rw [putWords_cons, ih _ (by omega), tabGet_tabSet_ne _ _ _ (by omega)]

theorem tabGet_putWords_same (t : Tab Word) (off : Nat) {l : List Word} {k : Nat} (h : k < l.length) :
    tabGet 0 (putWords t off l) (off + 8 * k) = l[k] := by
  induction l generalizing t off k with
  | nil => cases h
  | cons w l ih =>
    rw [putWords_cons]
    cases k with
    | zero => rw [tabGet_putWords_ne _ (by omega), Nat.mul_zero, Nat.add_zero, tabGet_tabSet_same, List.getElem_cons_zero]
    | succ k =>
      rw [show off + 8 * (k + 1) = off + 8 + 8 * k by omega, ih _ _ (Nat.lt_of_succ_lt_succ h), List.getElem_cons_succ]

theorem State.length_chanWords (s : State) (c : Nat) (m : Option ChanMeas) : (s.chanWords c m).length = 4 := by
  cases m <;> rfl

/-- The records of the channels in a bank that begins at `base` (R171). -/
def State.putRecords (s : State) (base : Nat) (meas : Nat → Option ChanMeas) (t : Tab Word) : Tab Word :=
  (List.range 192).foldl (fun b c => putWords b (base + 0x40 + 0x20 * c) (s.chanWords c (meas c))) t

/-- The records stand behind the header, within their bank. -/
theorem State.tabGet_putRecords_ne {base a : Nat} (meas : Nat → Option ChanMeas) (t : Tab Word)
    (h : a < base + 0x40 ∨ base + 0x2000 ≤ a) : tabGet 0 (s.putRecords base meas t) a = tabGet 0 t a := by
  have fold : ∀ l : List Nat, (∀ c ∈ l, c < 192) → ∀ t : Tab Word,
      tabGet 0 (l.foldl (fun b c => putWords b (base + 0x40 + 0x20 * c) (s.chanWords c (meas c))) t) a = tabGet 0 t a := by
    intro l
    induction l with
    | nil => exact fun _ _ => rfl
    | cons c l ih =>
      intro hl t
      obtain ⟨hc, hl⟩ := List.forall_mem_cons.1 hl
      rw [List.foldl_cons, ih hl, tabGet_putWords_ne _ (by rw [State.length_chanWords]; omega)]
  exact fold _ (fun c hc => List.mem_range.1 hc) t

/-! ### The epoch -/

/-- CN0 of the channels that have measured (R170). -/
def State.putCn0 (s : State) (meas : List ChanMeas) : State :=
  meas.foldl (fun s m => if m.ch < 192 ∧ s.chState m.ch ≠ 0 then s.put F.chStat_CN0 (satNat 16 m.cn0) m.ch else s) s

/-- A measured channel changes its own register alone. -/
theorem State.putCn0_keeps (meas : List ChanMeas) :
    (s.putCn0 meas).gnb = s.gnb ∧ (s.putCn0 meas).tse = s.tse ∧ (s.putCn0 meas).rd .gnbRxc = s.rd .gnbRxc := by
  refine ⟨foldl_keeps State.gnb _ (fun s m => ?_) meas s, foldl_keeps State.tse _ (fun s m => ?_) meas s,
    foldl_keeps (fun s : State => s.rd .gnbRxc) _ (fun s m => ?_) meas s⟩
  · split <;> rfl
  · split <;> rfl
  · split
    · exact s.rd_wr_ne _ _ _ _ _ _ _ (by rw [regAddr_gnbRxc, regAddr_chStat]; omega)
    · rfl

/-- The header of an epoch's bank, D0's time as the value `tv` (R171). -/
def State.epochHead (s : State) (tv : Nat) : List Word :=
  [BitVec.ofNat 64 s.gnb.epoch, s.rd .gnbRxc, BitVec.ofNat 64 (tv / 2 ^ 48), BitVec.ofNat 64 (tv % 2 ^ 48),
    BitVec.ofNat 64 (s.d0Ecode * 2 ^ 48 + s.gnb.measPer / 10), 0, 0, BitVec.ofNat 64 s.gnb.epoch]

/-- The bank that an epoch writes begins at this byte offset (R170). -/
def Gnb.epochBase (g : Gnb) : Nat := 0x2000 * (g.epoch % 2)

/-- The banks with an epoch latched (R170, R171). -/
def State.epochBank (s : State) (tv : Nat) (meas : List ChanMeas) : Tab Word :=
  s.putRecords s.gnb.epochBase (fun c => if s.chState c = 0 then none else meas.find? fun m => m.ch == c)
    (putWords s.gnb.bank s.gnb.epochBase (s.epochHead tv))

theorem State.tabGet_epochBank_head {tv k : Nat} (meas : List ChanMeas) (hk : k < (s.epochHead tv).length) :
    tabGet 0 (s.epochBank tv meas) (s.gnb.epochBase + 8 * k) = (s.epochHead tv)[k] := by
  have h8 : (s.epochHead tv).length = 8 := rfl
  rw [State.epochBank, State.tabGet_putRecords_ne _ _ (by omega), tabGet_putWords_same _ _ hk]

/-- An epoch leaves the bank of the one before. -/
theorem State.tabGet_epochBank_other {k : Nat} (tv : Nat) (meas : List ChanMeas) (hk : k < 0x2000) :
    tabGet 0 (s.epochBank tv meas) (0x2000 - s.gnb.epochBase + k) = tabGet 0 s.gnb.bank (0x2000 - s.gnb.epochBase + k) := by
  have h8 : (s.epochHead tv).length = 8 := rfl
  have hbase : s.gnb.epochBase = 0 ∨ s.gnb.epochBase = 0x2000 := by rw [Gnb.epochBase]; omega
  rw [State.epochBank, State.tabGet_putRecords_ne _ _ (by omega), tabGet_putWords_ne _ (by omega)]

/-- The state with an epoch latched (R170). -/
def State.latchEpoch (s : State) (tv : Nat) (meas : List ChanMeas) : State :=
  s.setGnb { s.gnb with epoch := s.gnb.epoch + 1, bank := s.epochBank tv meas, epochAt := some (s.get F.gnbRxc_RXC) }

@[simp] theorem State.latchEpoch_bank (tv : Nat) (meas : List ChanMeas) :
    (s.latchEpoch tv meas).gnb.bank = s.epochBank tv meas := by rw [State.latchEpoch, State.setGnb_gnb]

/-- The state with a value drawn for D0's time where that is not in R1's format. -/
def State.timeDrawn (s : State) : State := if 0 ≤ s.startTicks 0 ∧ s.startTicks 0 < timeSpan then s else s.draw.2

theorem State.timeDrawn_keeps (s : State) : s.timeDrawn.gnb = s.gnb ∧ s.timeDrawn.regs = s.regs := by
  unfold State.timeDrawn
  split <;> exact ⟨rfl, rfl⟩

theorem exec_measEpoch_due (meas : List ChanMeas) (hrun : s.getB F.gnbCtl_RUN = true)
    (hper : s.get F.gnbRxc_RXC % (s.gnb.measPer * 1250000) = 0) (hnew : s.gnb.epochAt ≠ some (s.get F.gnbRxc_RXC)) :
    exec (.measEpoch meas) s = .next ((s.putCn0 meas).timeDrawn.latchEpoch
      (timeVal (s.putCn0 meas).draw.1 ((s.putCn0 meas).startTicks 0)) meas) :=
  congrArg _ (if_neg (by simp [hrun, hper, hnew]))

/-- The seconds of a time in R1's format. -/
theorem toNat_timeVal_sec (free : Nat) {t : Int} (h0 : 0 ≤ t) (h1 : t < timeSpan) :
    ((BitVec.ofNat 64 (timeVal free t / 2 ^ 48)).toNat : Int) = t / Config.secTicks := by
  have hsec : (BitVec.ofNat 64 (timeVal free t / 2 ^ 48)).toNat = t.toNat / Config.secTicks := (timeVal_words h0 h1).1
  rw [hsec, Int.natCast_ediv, Int.toNat_of_nonneg h0]

/-- A latched epoch: its header, and the other bank as it was (R170, R171). -/
theorem exec_measEpoch_latches (meas : List ChanMeas) (hrun : s.getB F.gnbCtl_RUN = true)
    (hper : s.get F.gnbRxc_RXC % (s.gnb.measPer * 1250000) = 0) (hnew : s.gnb.epochAt ≠ some (s.get F.gnbRxc_RXC)) :
    ∃ (u v : State) (tv : Nat), exec (.measEpoch meas) s = .next u ∧ u.gnb.epoch = s.gnb.epoch + 1 ∧
      u.gnb.bank = v.epochBank tv meas ∧ v.gnb = s.gnb ∧ v.rd .gnbRxc = s.rd .gnbRxc ∧
      (0 ≤ s.startTicks 0 → s.startTicks 0 < timeSpan →
        ((BitVec.ofNat 64 (tv / 2 ^ 48)).toNat : Int) = s.startTicks 0 / Config.secTicks) := by
  obtain ⟨hgnb, htse, hrxc⟩ := s.putCn0_keeps meas
  obtain ⟨hgnb', hregs⟩ := (s.putCn0 meas).timeDrawn_keeps
  refine ⟨_, (s.putCn0 meas).timeDrawn, _, exec_measEpoch_due meas hrun hper hnew, ?_, State.latchEpoch_bank _ _, hgnb'.trans hgnb,
    (State.rd_congr hregs _ _ _).trans hrxc, fun h0 h1 => ?_⟩
  · rw [State.latchEpoch, State.setGnb_gnb, hgnb', hgnb]
  · rw [State.startTicks_of_tse htse]
    exact toNat_timeVal_sec _ h0 h1

end Sys2Proof.Machine
end

section
/-! PROOF. Navigation units (R173–R175, R177, R178). -/
namespace Sys2Proof.Machine

variable {s : State} {ch fmt nbits : Nat}

/-! ### The bits of a unit -/

@[simp] theorem length_wordBits (n : Nat) (l : List Word) : (wordBits n l).length = n := by simp [wordBits]

@[simp] theorem length_packBits (l : List Bool) : (packBits l).length = ceilDiv l.length 64 := by simp [packBits]

theorem navFormat_bounds {sigs : List Nat} (h : navFormat fmt = some (nbits, sigs)) :
    nbits < 2 ^ 16 ∧ fmt < 2 ^ 8 ∧ (fmt = 0x01 → nbits = 32) := by
  unfold navFormat at h
  split at h <;> cases h <;> decide

theorem State.length_navBits (h : fmt = 0x01 → nbits = 32) (inverted : Bool) (received : List Word) :
    (s.navBits ch fmt nbits inverted received).length = nbits := by
  unfold State.navBits
  split
  case isTrue hf => simp [h hf]
  case isFalse => simp

/-! ### The record (R177) -/

/-- N0 of a navigation record. -/
def navHead (ch sig sv nbits fmt : Nat) (fail inverted lost : Bool) : Nat :=
  2 ^ 56 + ch * 2 ^ 48 + sig * 2 ^ 40 + sv * 2 ^ 32 + nbits * 2 ^ 16 + (if fail then 2 ^ 15 else 0) + (if inverted then 2 ^ 14 else 0) +
    (if lost then 2 ^ 12 else 0) + fmt

theorem bitsOf_navHead {sig sv : Nat} (fail inverted lost : Bool) (hch : ch < 2 ^ 8) (hsig : sig < 2 ^ 8) (hsv : sv < 2 ^ 8)
    (hn : nbits < 2 ^ 16) (hf : fmt < 2 ^ 8) :
    let n0 : Word := BitVec.ofNat 64 (navHead ch sig sv nbits fmt fail inverted lost)
    bitsOf n0 63 56 = 1 ∧ bitsOf n0 55 48 = ch ∧ bitsOf n0 47 40 = sig ∧ bitsOf n0 39 32 = sv ∧ bitsOf n0 31 16 = nbits ∧
      bitsOf n0 15 15 = fail.toNat ∧ bitsOf n0 14 14 = inverted.toNat ∧ bitsOf n0 12 12 = lost.toNat ∧ bitsOf n0 7 0 = fmt := by
  have flag : ∀ (b : Bool) (k : Nat), (if b then 2 ^ k else 0) = b.toNat * 2 ^ k := fun b k => by cases b <;> simp
  have hfail := fail.toNat_lt
  have hinv := inverted.toNat_lt
  have hlost := lost.toNat_lt
  simp (decide := true) only [bitsOf_eq_div_mod, BitVec.toNat_ofNat, navHead, flag]
  omega

/-- The record of a unit of channel ch (R177). -/
def State.navRecord (s : State) (ch fmt nbits : Nat) (inverted : Bool) (rxc : Nat) (received : List Word) (lost : Bool) : List Word :=
  BitVec.ofNat 64 (navHead ch (s.get F.chStat_SIGNAL ch) (s.get F.chStat_SV ch) nbits fmt
    (navFails fmt (s.navBits ch fmt nbits inverted received)) inverted lost) ::
    BitVec.ofNat 64 rxc :: packBits (s.navBits ch fmt nbits inverted received)

theorem State.length_navRecord (h : fmt = 0x01 → nbits = 32) (inverted : Bool) (rxc : Nat) (received : List Word) (lost : Bool) :
    (s.navRecord ch fmt nbits inverted rxc received lost).length = 2 + ceilDiv nbits 64 := by
  simp only [State.navRecord, List.length_cons, length_packBits, State.length_navBits h]
  omega

/-! ### The FIFOs (R178) -/

theorem navInto_fits {f : Fifo} {lost : Bool} {record : Bool → List Word} (h : f.words + (record lost).length ≤ 8192) :
    navInto f lost record = (f.add (record lost), false, false) := if_pos h

theorem navInto_full {f : Fifo} {lost : Bool} {record : Bool → List Word} (h : 8192 < f.words + (record lost).length) :
    navInto f lost record = (f, true, true) := if_neg (by omega)

/-- A dropped record is counted, and NAV_LOST pulses (R178). -/
def State.navDropped (s : State) (f : Field) (ch : Nat) (d : Bool) : State := if d then (s.bump f 1).pulse 15 0 ch else s

@[simp] theorem State.navDropped_gnb (s : State) (f : Field) (ch : Nat) (d : Bool) : (s.navDropped f ch d).gnb = s.gnb := by
  cases d
  · rfl
  · simp [State.navDropped]

/-- D29* and D30* noted for the channel's next LNAV word (R174). -/
def State.lnavNoted (s : State) (ch fmt : Nat) (unit : List Bool) : State :=
  if fmt = 0x01 then s.setGnb { s.gnb with lnav := tabSet 0 s.gnb.lnav ch (bitsNat (unit.drop 30)) } else s

/-- The record into NAVF (R178). -/
def State.navInNavf (s : State) (ch : Nat) (record : Bool → List Word) : State :=
  let e := navInto s.gnb.navf s.gnb.navLost record
  (s.setGnb { s.gnb with navf := e.1, navLost := e.2.1 }).navDropped F.gnbNavStat_NAV_LOST ch e.2.2

/-- The record into TAPF while TAP_EN is set (R178). -/
def State.navInTapf (s : State) (tap : Bool) (ch : Nat) (record : Bool → List Word) : State :=
  if tap then
    let e := navInto s.gnb.tapf s.gnb.tapLost record
    (s.setGnb { s.gnb with tapf := e.1, tapLost := e.2.1 }).navDropped F.gnbNavStat_TAP_LOST ch e.2.2
  else s

theorem exec_navUnitComplete_sync {sigs : List Nat} (inverted : Bool) (rxc : Nat) (received : List Word) (taken : Nat)
    (hch : ch < 192) (hst : s.chState ch = 4) (hfmt : navFormat fmt = some (nbits, sigs))
    (hsig : sigs.contains (s.get F.chStat_SIGNAL ch) = true) :
    exec (.navUnitComplete ch fmt inverted () rxc received taken) s =
      .next ((((s.setGnb { s.gnb with navf := s.gnb.navf.dropItems taken }).lnavNoted ch fmt
        (s.navBits ch fmt nbits inverted received)).navInNavf ch (s.navRecord ch fmt nbits inverted rxc received)).navInTapf
          (s.getB F.gnbCtl_TAP_EN) ch (s.navRecord ch fmt nbits inverted rxc received)) := by
  have hguard : (decide (192 ≤ ch) || s.chState ch != 4 || !sigs.contains (s.get F.chStat_SIGNAL ch)) = false := by
    simpa [hst, hch] using hsig
  rw [exec_navUnitComplete, execNavUnitComplete, hfmt]
  refine congrArg _ ((if_neg (Bool.not_eq_true _ ▸ hguard)).trans ?_)
  by_cases hf : fmt = 0x01
  · simp only [State.lnavNoted, if_pos hf]
    rfl
  · simp only [State.lnavNoted, if_neg hf]
    rfl

/-! ### What a unit leaves -/

variable {record : Bool → List Word}

@[simp] theorem State.lnavNoted_gnb (unit : List Bool) : (s.lnavNoted ch fmt unit).gnb =
    { s.gnb with lnav := if fmt = 0x01 then tabSet 0 s.gnb.lnav ch (bitsNat (unit.drop 30)) else s.gnb.lnav } := by
  by_cases h : fmt = 0x01
  · simp only [State.lnavNoted, if_pos h, State.setGnb_gnb]
  · simp only [State.lnavNoted, if_neg h]

@[simp] theorem State.navInNavf_gnb : (s.navInNavf ch record).gnb =
    { s.gnb with navf := (navInto s.gnb.navf s.gnb.navLost record).1, navLost := (navInto s.gnb.navf s.gnb.navLost record).2.1 } :=
  State.navDropped_gnb _ _ _ _

/-- TAPF apart, a tapped record leaves what GNB holds. -/
@[simp] theorem State.navInTapf_gnb (tap : Bool) : (s.navInTapf tap ch record).gnb =
    { s.gnb with tapf := if tap then (navInto s.gnb.tapf s.gnb.tapLost record).1 else s.gnb.tapf,
                 tapLost := if tap then (navInto s.gnb.tapf s.gnb.tapLost record).2.1 else s.gnb.tapLost } := by
  cases tap with
  | false => rfl
  | true => exact State.navDropped_gnb _ _ _ _

/-- A unit of a channel in FRAME_SYNC: each FIFO takes the record by itself (R178). -/
theorem exec_navUnitComplete_leaves {sigs : List Nat} (inverted : Bool) (rxc : Nat) (received : List Word) (taken : Nat)
    (hch : ch < 192) (hst : s.chState ch = 4) (hfmt : navFormat fmt = some (nbits, sigs))
    (hsig : sigs.contains (s.get F.chStat_SIGNAL ch) = true) :
    let record := s.navRecord ch fmt nbits inverted rxc received
    let e := navInto (s.gnb.navf.dropItems taken) s.gnb.navLost record
    let e' := navInto s.gnb.tapf s.gnb.tapLost record
    ∃ u : State, exec (.navUnitComplete ch fmt inverted () rxc received taken) s = .next u ∧
      u.gnb.navf = e.1 ∧ u.gnb.navLost = e.2.1 ∧
      (fmt = 0x01 → tabGet 0 u.gnb.lnav ch = bitsNat ((s.navBits ch fmt nbits inverted received).drop 30)) ∧
      (s.getB F.gnbCtl_TAP_EN = false → u.gnb.tapf = s.gnb.tapf) ∧
      (s.getB F.gnbCtl_TAP_EN = true → u.gnb.tapf = e'.1 ∧ u.gnb.tapLost = e'.2.1) := by
  refine ⟨_, exec_navUnitComplete_sync inverted rxc received taken hch hst hfmt hsig, ?_, ?_, fun h => ?_, fun h => ?_, fun h => ?_⟩
  · simp only [State.navInTapf_gnb, State.navInNavf_gnb, State.lnavNoted_gnb, State.setGnb_gnb]
  · simp only [State.navInTapf_gnb, State.navInNavf_gnb, State.lnavNoted_gnb, State.setGnb_gnb]
  · simp only [State.navInTapf_gnb, State.navInNavf_gnb, State.lnavNoted_gnb, State.setGnb_gnb, if_pos h, tabGet_tabSet_same]
  · simp [h]
  · simp [h]

end Sys2Proof.Machine

open Sys2Proof Sys2Proof.Machine

/-- Settles O13: gates port by port, searches by the grid, epochs by the words of their bank, and units by what each FIFO takes. -/
theorem gnssRecordsComplete : Obligations.GnssRecordsComplete := by
  refine ⟨fun s => ⟨?gate, ?search, ?epoch⟩, ?unit⟩
  case gate =>
    intro smp0 smp1 hgate hnew
    obtain ⟨u, hexec, h0, h1⟩ := exec_cohGateEnd_judges smp0 smp1 hgate hnew
    refine ⟨u, hexec, fun n hn hon => ?_⟩
    obtain rfl | rfl : n = 0 ∨ n = 1 := by omega
    · obtain ⟨⟨hcnt, hrms, hfrac⟩, hjudged⟩ := h0 hon
      exact ⟨hcnt, hrms, hfrac, hjudged⟩
    · obtain ⟨⟨hcnt, hrms, hfrac⟩, hjudged⟩ := h1 hon
      exact ⟨hcnt, hrms, hfrac, hjudged⟩
  case search =>
    intro signal sv phase found doppler hu h1 h63
    refine ⟨fun points bin hg hp hs hb => ?_, fun h => exec_acquisitionSearchDone_offGrid found (State.onGrid_eq_false phase h)⟩
    exact ⟨_, exec_acquisitionSearchDone_onGrid found hu h1 h63 ((State.onGrid_of_searchGrid hg).2 ⟨hp, hs, hb⟩), rfl⟩
  case epoch =>
    intro meas hrun hper hnew
    obtain ⟨u, v, tv, hexec, hn, hbank, hgnb, hrxc, hsec⟩ := exec_measEpoch_latches meas hrun hper hnew
    have head : ∀ k (hk : k < 8), tabGet 0 u.gnb.bank (s.gnb.epochBase + 8 * k) = (v.epochHead tv)[k]'hk := fun k hk => by
      rw [hbank, ← hgnb]
      exact State.tabGet_epochBank_head meas hk
    refine ⟨u, hexec, hn, ?_, ?_, ?_, fun h0 h1 => ?_, fun k hk => ?_⟩
    · exact (head 0 (by decide)).trans (by rw [← hgnb]; rfl)
    · exact (head 1 (by decide)).trans hrxc
    · exact (head 7 (by decide)).trans (by rw [← hgnb]; rfl)
    · exact (congrArg (fun w : Word => (w.toNat : Int)) (head 2 (by decide))).trans (hsec h0 h1)
    · rw [hbank, ← hgnb]
      exact State.tabGet_epochBank_other tv meas hk
  case unit =>
    intro s ch fmt nbits sigs inverted rxc received taken hch hst hfmt hsig f size unit
    obtain ⟨hn, hf, h32⟩ := navFormat_bounds hfmt
    obtain ⟨u, hexec, hnavf, hlost, hlnav, hoff, hon⟩ :=
      exec_navUnitComplete_leaves inverted rxc received taken hch hst hfmt hsig
    have hlen : ∀ lost, (s.navRecord ch fmt nbits inverted rxc received lost).length = size :=
      fun lost => State.length_navRecord h32 inverted rxc received lost
    refine ⟨u, hexec, fun hfits => ?_, fun hfull => ?_, hlnav, hoff, fun htap hfits => ?_, fun htap hfull => ?_⟩
    · rw [navInto_fits (by rwa [hlen])] at hnavf hlost
      exact ⟨hlost, _, hnavf, bitsOf_navHead _ inverted _ (by omega) (bitsOf_lt _ _ _ (by decide) (by decide))
        (bitsOf_lt _ _ _ (by decide) (by decide)) hn hf⟩
    · rw [navInto_full (by rwa [hlen])] at hnavf hlost
      exact ⟨hnavf, hlost⟩
    · obtain ⟨htapf, htapLost⟩ := hon htap
      rw [navInto_fits (by rwa [hlen])] at htapf htapLost
      exact ⟨htapLost, _, htapf⟩
    · obtain ⟨htapf, htapLost⟩ := hon htap
      rw [navInto_full (by rwa [hlen])] at htapf htapLost
      exact ⟨htapf, htapLost⟩
end

section
/-! PROOF. What a schedule holds of a solution, and which schedules are taken (R180–R188, R192, R195, R196). -/
namespace Sys2Proof.Machine

variable {s : State} {sysSec est sigma mode flags used : Nat}

/-! ### The edge and its error (R181) -/

theorem edgeOf_bounds (est : Nat) : est ≤ edgeOf est * 2 ^ 32 ∧ edgeOf est * 2 ^ 32 - est < 2 ^ 32 := by
  simp only [edgeOf, ceilDiv]
  omega

/-- QERR is the estimate less the edge in ticks, a CLK_TSE cycle being 209,715.2 ticks, to the nearest. -/
theorem abs_qerrOf_add_le (est : Nat) : |(qerrOf est : ℚ) + ((edgeOf est : ℚ) * 2 ^ 32 - est) / 2 ^ 32 * 209715.2| ≤ 1 / 2 := by
  have hcast : ((edgeOf est * 2 ^ 32 - est : Nat) : ℚ) = (edgeOf est : ℚ) * 2 ^ 32 - est := by
    rw [Nat.cast_sub (edgeOf_bounds est).1]
    push_cast
    rfl
  rw [qerrOf, ← hcast]
  generalize edgeOf est * 2 ^ 32 - est = d
  convert abs_roundDiv_sub_le (-(Int.ofNat (d * 1048576))) (b := 5 * 2 ^ 32) (by decide) using 2
  push_cast
  rw [Int.ofNat_eq_natCast]
  push_cast
  ring

theorem qerrOf_bounds (est : Nat) : -209715 ≤ qerrOf est ∧ qerrOf est ≤ 0 := by
  obtain ⟨-, hlt⟩ := edgeOf_bounds est
  simp only [qerrOf, roundDiv, Int.ofNat_eq_natCast]
  split <;> omega

/-! ### SIGMA, PATH_ALLOW and the flags (R186, R188, R192, R196) -/

theorem State.sigmaOf_le (mode : Nat) (dual : Bool) (sigma : Nat) : s.sigmaOf mode dual sigma ≤ 0xffffffff := Nat.min_le_left _ _

theorem State.sigmaFloor_le_sigmaOf (mode : Nat) (dual : Bool) (sigma : Nat) : sigmaFloor mode dual ≤ s.sigmaOf mode dual sigma := by
  have hfloor : sigmaFloor mode dual ≤ 0xffffffff := by
    unfold sigmaFloor
    split <;> decide
  exact Nat.le_min.2 ⟨hfloor, Nat.le_max_left _ _⟩

theorem State.sigmaFloor_solMode (dual : Bool) (h : mode ≠ 0) : sigmaFloor (s.solMode mode) dual =
    if s.get F.gnbSurvey_POS_MODE = 2 then (if dual then 786432 else 2097152) else (if dual then 3145728 else 5242880) := by
  rw [State.solMode, if_neg h]
  split <;> cases dual <;> rfl

theorem constOf_lt (used : Nat) : constOf used < 16 := by
  unfold constOf
  split <;> split <;> split <;> split <;> decide

theorem bitOf_add_of_lt (a : Nat) (b : Bool) {r k : Nat} (h : r < 2 ^ k) : bitOf (a * 2 ^ (k + 1) + b.toNat * 2 ^ k + r) k = b := by
  have hdiv : (a * 2 ^ (k + 1) + b.toNat * 2 ^ k + r) / 2 ^ k = 2 * a + b.toNat := by
    rw [pow_succ, show a * (2 ^ k * 2) + b.toNat * 2 ^ k + r = r + 2 ^ k * (2 * a + b.toNat) by ring,
      Nat.add_mul_div_left _ _ (Nat.two_pow_pos k), Nat.div_eq_of_lt h, Nat.zero_add]
  rw [bitOf, hdiv, Nat.mul_add_mod]
  cases b <;> rfl

/-- VALID of a schedule is the solution's, where PATH_ALLOW fits its field (R186, R188). -/
theorem State.schedOf_valid : bitOf (s.schedOf sysSec est sigma mode flags used).flags 25 =
    (decide (s.pathAllow (bitOf flags 27) ≤ 0xfffffffe) && bitOf flags 25) := by
  have weight : ∀ (b : Bool) (k : Nat), (if b then 2 ^ k else 0) = b.toNat * 2 ^ k := fun b k => by cases b <;> simp
  have valid : ∀ fits b : Bool, (if fits then b.toNat * 2 ^ 25 else 0) = (fits && b).toNat * 2 ^ 25 :=
    fun fits b => by cases fits <;> simp
  have hconst := constOf_lt used
  have hresync := (bitOf flags 24).toNat_lt
  have hflags : (s.schedOf sysSec est sigma mode flags used).flags =
      (s.solMode (mode % 16) * 4 + (bitOf flags 27).toNat * 2 + (bitOf flags 26).toNat) * 2 ^ (25 + 1) +
        (decide (s.pathAllow (bitOf flags 27) ≤ 0xfffffffe) && bitOf flags 25).toNat * 2 ^ 25 +
        ((bitOf flags 24).toNat * 2 ^ 24 + constOf used * 2 ^ 20 + s.get F.gnbCfg_TSYS % 4 * 2 ^ 18 + flags % 2 ^ 8) := by
    simp only [State.schedOf, m3Dual, m3Resync, weight, valid]
    omega
  rw [hflags]
  exact bitOf_add_of_lt _ _ (by omega)

theorem State.schedOf_allow_fits (h : s.pathAllow (bitOf flags 27) ≤ 0xfffffffe) :
    (s.schedOf sysSec est sigma mode flags used).allow = s.pathAllow (bitOf flags 27) := if_pos (by simpa using h)

theorem State.schedOf_allow_over (h : 0xfffffffe < s.pathAllow (bitOf flags 27)) :
    (s.schedOf sysSec est sigma mode flags used).allow = 0xffffffff := if_neg (by simpa using h)

/-! ### Which schedules are taken (R183–R185, R195) -/

/-- A schedule is not taken: its edge is less than 1 µs off, or lies off the second after the previous one where RESYNC does not excuse
that (R184, R185). -/
def State.schedMissed (s : State) (x : Sched) (flags : Nat) : Bool :=
  decide (x.edge < s.get F.gnbRxc_RXC + 1250) || s.gnb.prev.any fun e =>
    !bitOf flags 24 && (decide (x.edge < e + 1248750000) || decide (e + 1251250000 < x.edge))

theorem State.schedMissed_iff {x : Sched} : s.schedMissed x flags = true ↔ x.edge < s.get F.gnbRxc_RXC + 1250 ∨
    ∃ e, s.gnb.prev = some e ∧ bitOf flags 24 = false ∧ (x.edge < e + 1248750000 ∨ e + 1251250000 < x.edge) := by
  simp only [State.schedMissed, Bool.or_eq_true, Bool.and_eq_true, decide_eq_true_eq, Option.any_eq_true, Bool.not_eq_true']

/-- The signals that the solution uses, as a schedule names them (R198). -/
def State.usedNoted (s : State) (used : Nat) : State := s.setGnb { s.gnb with used := used % 1024 }

theorem exec_gppsScheduleWrite_judged (hsec : s.earliestSec ≤ (s.schedOf sysSec est sigma mode flags used).sec) :
    exec (.gppsScheduleWrite sysSec est sigma mode flags used) s =
      .next (if s.schedMissed (s.schedOf sysSec est sigma mode flags used) flags then (s.usedNoted used).bump F.gnbTstat_SCHED_LATE 1
        else if !s.pwr.tseProven then (s.usedNoted used).bump F.gnbTstat_SCHED_SKIP 1
        else s.setGnb { (s.usedNoted used).gnb with sched := some (s.schedOf sysSec est sigma mode flags used) }) := by
  refine congrArg Host.Outcome.next ((if_neg (not_lt.2 hsec)).trans (if_congr ?_ rfl rfl))
  obtain ⟨prev, hprev⟩ : ∃ o, s.gnb.prev = o := ⟨_, rfl⟩
  simp only [State.schedMissed, State.setGnb_gnb, State.setGnb_get, hprev]
  cases prev with
  | none => rfl
  | some e => rfl

end Sys2Proof.Machine
end

section
/-! PROOF. The GPPS edge, its message, and the loss of the solution (R158, R180, R182, R184–R186, R200). -/
namespace Sys2Proof.Machine

variable {s : State} {x : Sched}

/-- The words of a timing message in GNB_TMSG0 to GNB_TMSG3 (R186). -/
def State.putTmsg (s : State) (g : TMsg) : State :=
  (((s.put F.gnbTmsg_WORD g.m0 0).put F.gnbTmsg_WORD g.m1 1).put F.gnbTmsg_WORD g.m2 2).put F.gnbTmsg_WORD g.m3 3

@[simp] theorem State.putTmsg_gnb (g : TMsg) : (s.putTmsg g).gnb = s.gnb := rfl
@[simp] theorem State.putTmsg_out (g : TMsg) : (s.putTmsg g).out = s.out := rfl

theorem State.putTmsg_get_ne (g : TMsg) {f : Field} (h : ∀ i < 4, regAddr f.reg 0 0 ≠ regAddr .gnbTmsg i 0) :
    (s.putTmsg g).get f = s.get f := by
  have word : ∀ (u : State) (v i : Nat), i < 4 → (u.put F.gnbTmsg_WORD v i).get f = u.get f :=
    fun u v i hi => u.get_put_ne _ f v i 0 0 0 (h i hi)
  rw [State.putTmsg, word _ _ 3 (by decide), word _ _ 2 (by decide), word _ _ 1 (by decide), word _ _ 0 (by decide)]

theorem State.putTmsg_words (g : TMsg) : (s.putTmsg g).get F.gnbTmsg_WORD 0 = g.m0 % 2 ^ 64 ∧
    (s.putTmsg g).get F.gnbTmsg_WORD 1 = g.m1 % 2 ^ 64 ∧ (s.putTmsg g).get F.gnbTmsg_WORD 2 = g.m2 % 2 ^ 64 ∧
    (s.putTmsg g).get F.gnbTmsg_WORD 3 = g.m3 % 2 ^ 64 := by
  have same : ∀ (u : State) (v i : Nat), (u.put F.gnbTmsg_WORD v i).get F.gnbTmsg_WORD i = v % 2 ^ 64 :=
    fun u v i => u.get_put_same _ v i 0 (by decide) (by decide)
  have other : ∀ (u : State) (v i j : Nat), j ≠ i → (u.put F.gnbTmsg_WORD v i).get F.gnbTmsg_WORD j = u.get F.gnbTmsg_WORD j :=
    fun u v i j h => u.get_put_index_ne v (by decide) h
  refine ⟨?_, ?_, ?_, same _ _ _⟩
  · rw [State.putTmsg, other _ _ _ _ (by decide), other _ _ _ _ (by decide), other _ _ _ _ (by decide), same]
  · rw [State.putTmsg, other _ _ _ _ (by decide), other _ _ _ _ (by decide), same]
  · rw [State.putTmsg, other _ _ _ _ (by decide), same]

/-- A message that carries RESYNC is counted (R186). -/
def State.resyncCounted (s : State) (resync : Bool) : State := if resync then s.bump F.gnbTstat_RESYNC 1 else s

@[simp] theorem State.resyncCounted_gnb (b : Bool) : (s.resyncCounted b).gnb = s.gnb := by cases b <;> rfl
@[simp] theorem State.resyncCounted_out (b : Bool) : (s.resyncCounted b).out = s.out := by cases b <;> rfl

theorem State.resyncCounted_get_ne (b : Bool) {f : Field} {i : Nat} (h : regAddr f.reg i 0 ≠ regAddr .gnbTstat 0 0) :
    (s.resyncCounted b).get f i = s.get f i := by
  cases b
  · rfl
  · exact State.get_put_ne _ _ _ _ _ _ _ _ h

/-- The next timing message carries RESYNC (R184, R186). -/
def State.gppsResync (s : State) (x : Sched) : Bool := bitOf x.flags 24 || s.gnb.resync || s.gnb.prev.isNone

/-- The message of a schedule's edge (R186). -/
def State.gppsMsg (s : State) (x : Sched) : TMsg := tmsgOf x s.gnb.seq (s.gppsResync x)

/-- What GNB holds of an edge that it has emitted with a message, VALID or not (R184–R186, R200). -/
def Gnb.edgeNoted (g : Gnb) (x : Sched) (valid : Bool) : Gnb :=
  { g with seq := (g.seq + 1) % 2 ^ 16, prev := some x.edge, resync := false, seenValid := g.seenValid || valid,
           solLost := g.solLost && !valid }

/-- An edge with its message in GNB's registers (R180, R186). -/
def State.gppsShown (s : State) (x : Sched) : State :=
  (((s.setGnb { s.gnb with sched := none }).emit (.gppsEdge x.edge)).putTmsg (s.gppsMsg x)).resyncCounted (s.gppsResync x)

/-- An edge with its message, before the faults that follow from it are judged (R180, R184–R186). -/
def State.gppsEmitted (s : State) (x : Sched) : State :=
  let v := (s.gppsShown x).setGnb ((s.gppsShown x).gnb.edgeNoted x (bitOf (s.gppsMsg x).m3 25))
  v.put F.gnbSurvey_POS_MODE (posMode (v.get F.gnbSurvey_POS_MODE) ((s.gppsMsg x).m3 / 2 ^ 28 % 4))

theorem State.gppsEmitted_gnb : (s.gppsEmitted x).gnb =
    ({ s.gnb with sched := none } : Gnb).edgeNoted x (bitOf (s.gppsMsg x).m3 25) := by
  simp only [State.gppsEmitted, State.put_gnb, State.setGnb_gnb, State.gppsShown, State.resyncCounted_gnb, State.putTmsg_gnb,
    State.emit_gnb]

theorem State.gppsEmitted_out : (s.gppsEmitted x).out = .gppsEdge x.edge :: s.out := by
  simp only [State.gppsEmitted, State.put_out, State.setGnb_out, State.gppsShown, State.resyncCounted_out, State.putTmsg_out,
    State.emit]

theorem State.gppsShown_words : (s.gppsShown x).get F.gnbTmsg_WORD 0 = (s.gppsMsg x).m0 % 2 ^ 64 ∧
    (s.gppsShown x).get F.gnbTmsg_WORD 1 = (s.gppsMsg x).m1 % 2 ^ 64 ∧
    (s.gppsShown x).get F.gnbTmsg_WORD 2 = (s.gppsMsg x).m2 % 2 ^ 64 ∧
    (s.gppsShown x).get F.gnbTmsg_WORD 3 = (s.gppsMsg x).m3 % 2 ^ 64 := by
  have later : ∀ (u : State) (b : Bool) (i : Nat), i < 4 → (u.resyncCounted b).get F.gnbTmsg_WORD i = u.get F.gnbTmsg_WORD i :=
    fun u b i hi => State.resyncCounted_get_ne b (by rw [regAddr_gnbTmsg, regAddr_gnbTstat]; omega)
  simp only [State.gppsShown]
  rw [later _ _ 0 (by decide), later _ _ 1 (by decide), later _ _ 2 (by decide), later _ _ 3 (by decide)]
  exact State.putTmsg_words _

theorem State.gppsEmitted_words : (s.gppsEmitted x).get F.gnbTmsg_WORD 0 = (s.gppsMsg x).m0 % 2 ^ 64 ∧
    (s.gppsEmitted x).get F.gnbTmsg_WORD 1 = (s.gppsMsg x).m1 % 2 ^ 64 ∧
    (s.gppsEmitted x).get F.gnbTmsg_WORD 2 = (s.gppsMsg x).m2 % 2 ^ 64 ∧
    (s.gppsEmitted x).get F.gnbTmsg_WORD 3 = (s.gppsMsg x).m3 % 2 ^ 64 := by
  have later : ∀ i < 4, (s.gppsEmitted x).get F.gnbTmsg_WORD i = (s.gppsShown x).get F.gnbTmsg_WORD i := fun i hi => by
    refine State.get_put_ne _ _ _ _ _ _ _ _ ?_
    rw [regAddr_gnbTmsg, regAddr_gnbSurvey]
    omega
  rw [later 0 (by decide), later 1 (by decide), later 2 (by decide), later 3 (by decide)]
  exact State.gppsShown_words

theorem posMode_lt (old mode : Nat) : posMode old mode < 4 := by
  unfold posMode
  split <;> omega

theorem posMode_eq_hold_iff (old mode : Nat) : posMode old mode = 2 ↔ old = 2 := by
  unfold posMode
  split <;> omega

/-- No message enters HOLD or leaves it (R193). -/
theorem State.gppsEmitted_hold_iff : (s.gppsEmitted x).get F.gnbSurvey_POS_MODE = 2 ↔ s.get F.gnbSurvey_POS_MODE = 2 := by
  have hshown : (s.gppsShown x).get F.gnbSurvey_POS_MODE = s.get F.gnbSurvey_POS_MODE :=
    (State.resyncCounted_get_ne _ (by decide)).trans (State.putTmsg_get_ne _ (by decide))
  rw [State.gppsEmitted, State.get_put_of_lt _ _ _ (by decide) (by decide) (posMode_lt _ _), posMode_eq_hold_iff, State.setGnb_get,
    hshown]

/-! ### The row -/

theorem exec_gppsEdge_idle (tdc : List (Nat × Nat × Nat)) (hd : s.tse.due = []) (hx : s.gnb.sched = some x)
    (h : s.get F.gnbRxc_RXC ≠ x.edge) : exec (.gppsEdge tdc) s = .next s := by
  rw [exec_gppsEdge, execGppsEdge, drainDue_of_none hd, State.gppsEdge, hx]
  exact congrArg _ (if_pos h)

theorem exec_gppsEdge_emits (tdc : List (Nat × Nat × Nat)) (hd : s.tse.due = []) (hx : s.gnb.sched = some x)
    (h : s.get F.gnbRxc_RXC = x.edge) (h0 : s.getB F.gspLevel_COH_OK 0 = true)
    (h1 : bitOf x.flags 27 = true → s.getB F.gspLevel_COH_OK 1 = true) :
    exec (.gppsEdge tdc) s = .next ((((s.gppsEmitted x).refresh 13).tmsgToRsh (s.gppsMsg x)).edgeToEmus 0x40
      (((s.gppsEmitted x).refresh 13).startReading tdc)) := by
  have hcoh : ¬ (!s.getB F.gspLevel_COH_OK 0 || (bitOf x.flags 27 && !s.getB F.gspLevel_COH_OK 1)) = true := by simpa [h0] using h1
  rw [exec_gppsEdge, execGppsEdge, drainDue_of_none hd, State.gppsEdge, hx]
  exact congrArg _ ((if_neg (not_not.2 h)).trans (if_neg hcoh))

theorem exec_gppsEdge_incoherent (tdc : List (Nat × Nat × Nat)) (hd : s.tse.due = []) (hx : s.gnb.sched = some x)
    (h : s.get F.gnbRxc_RXC = x.edge)
    (hcoh : s.getB F.gspLevel_COH_OK 0 = false ∨ (bitOf x.flags 27 = true ∧ s.getB F.gspLevel_COH_OK 1 = false)) :
    exec (.gppsEdge tdc) s = .next ((s.setGnb { s.gnb with sched := none }).bump F.gnbTstat_SCHED_SKIP 1) := by
  have hlost : (!s.getB F.gspLevel_COH_OK 0 || (bitOf x.flags 27 && !s.getB F.gspLevel_COH_OK 1)) = true := by simpa using hcoh
  rw [exec_gppsEdge, execGppsEdge, drainDue_of_none hd, State.gppsEdge, hx]
  exact congrArg _ ((if_neg (not_not.2 h)).trans (if_pos hlost))

end Sys2Proof.Machine

open Sys2Proof Sys2Proof.Machine

/-- Settles O14: a schedule by its parts, then how it is judged, and the edge by what it leaves. -/
theorem gppsFollowsItsSchedule : Obligations.GppsFollowsItsSchedule := by
  intro s
  refine ⟨?schedule, ?taken, ?edge, ⟨_, rfl, rfl, rfl⟩⟩
  case schedule =>
    intro sysSec est sigma mode flags used x dual hold cycle
    refine ⟨rfl, abs_qerrOf_add_le est, (qerrOf_bounds est).1, (qerrOf_bounds est).2, State.sigmaOf_le _ _ _, fun hm => ?_,
      fun hfits => ⟨State.schedOf_allow_fits hfits, ?_⟩, fun hover => ⟨State.schedOf_allow_over hover, ?_⟩⟩
    · exact (State.sigmaFloor_solMode dual hm).symm.le.trans (State.sigmaFloor_le_sigmaOf _ _ _)
    · exact State.schedOf_valid.trans (by rw [decide_eq_true hfits, Bool.true_and])
    · exact State.schedOf_valid.trans (by rw [decide_eq_false (Nat.not_le.2 hover), Bool.false_and])
  case taken =>
    intro sysSec est sigma mode flags used x near off hsec
    have hexec := exec_gppsScheduleWrite_judged hsec
    have hmissed : s.schedMissed x flags = true ↔ near ∨ off := State.schedMissed_iff
    refine ⟨fun hn ho hp => ?_, fun hn ho hp => ?_, fun h => ?_⟩
    · rw [if_neg (by rw [hmissed]; exact not_or.2 ⟨hn, ho⟩), if_neg (by simp [hp])] at hexec
      exact ⟨_, hexec, rfl, rfl⟩
    · rw [if_neg (by rw [hmissed]; exact not_or.2 ⟨hn, ho⟩), if_pos (by simp [hp])] at hexec
      exact ⟨_, hexec, rfl, State.get_bump_same _ _ _ _ _ (by decide) (by decide)⟩
    · rw [if_pos (hmissed.2 h)] at hexec
      exact ⟨_, hexec, rfl, State.get_bump_same _ _ _ _ _ (by decide) (by decide)⟩
  case edge =>
    intro x tdc hd hx
    refine ⟨exec_gppsEdge_idle tdc hd hx, fun he h0 h1 => ?_, fun he hcoh => ?_⟩
    · obtain ⟨hw0, hw1, hw2, hw3⟩ := State.gppsEmitted_words (s := s) (x := x)
      exact ⟨_, _, exec_gppsEdge_emits tdc hd hx he h0 h1, rfl, State.gppsEmitted_out,
        by rw [State.gppsEmitted_gnb]; rfl, by rw [State.gppsEmitted_gnb]; rfl, by rw [State.gppsEmitted_gnb]; rfl,
        by rw [State.gppsEmitted_gnb]; rfl, hw0, hw1, hw2, hw3,
        State.gppsEmitted_hold_iff.2, mt State.gppsEmitted_hold_iff.1⟩
    · exact ⟨_, exec_gppsEdge_incoherent tdc hd hx he hcoh, rfl, rfl, State.get_bump_same _ _ _ _ _ (by decide) (by decide)⟩
end

section
/-! PROOF. Survey, position and the GNSS commands (R189–R193, R197, R198). -/
namespace Sys2Proof.Machine

variable {s : State} {c : Caller} {x y z : Int} {unc : Nat}

/-! ### Coordinates -/

theorem fits64_iff : fits64 x = true ↔ -2 ^ 63 ≤ x ∧ x < 2 ^ 63 := by simp [fits64]

theorem State.getI_putI_coord (i : Nat) (h : fits64 x = true) : (s.putI F.gnbPos_COORD x i).getI F.gnbPos_COORD i = x := by
  obtain ⟨hlo, hhi⟩ := fits64_iff.1 h
  exact State.getI_putI_same _ _ _ (by decide) (by decide) hlo hhi

theorem State.getI_putI_coord_ne {i j : Nat} (h : j ≠ i) :
    (s.putI F.gnbPos_COORD x i).getI F.gnbPos_COORD j = s.getI F.gnbPos_COORD j := by
  rw [State.getI, State.getI, State.putI, s.get_put_index_ne _ (by decide) h]

/-- A position in three registers, from `base` on. -/
theorem State.putPos_coords (base : Nat) (hx : fits64 x = true) (hy : fits64 y = true) (hz : fits64 z = true) :
    (s.putPos base x y z).getI F.gnbPos_COORD base = x ∧ (s.putPos base x y z).getI F.gnbPos_COORD (base + 1) = y ∧
      (s.putPos base x y z).getI F.gnbPos_COORD (base + 2) = z := by
  refine ⟨?_, ?_, State.getI_putI_coord _ hz⟩
  · rw [State.putPos, State.getI_putI_coord_ne (by omega), State.getI_putI_coord_ne (by omega), State.getI_putI_coord _ hx]
  · rw [State.putPos, State.getI_putI_coord_ne (by omega), State.getI_putI_coord _ hy]

theorem State.putPos_coord_ne {base j : Nat} (h : j < base ∨ base + 2 < j) :
    (s.putPos base x y z).getI F.gnbPos_COORD j = s.getI F.gnbPos_COORD j := by
  rw [State.putPos, State.getI_putI_coord_ne (by omega), State.getI_putI_coord_ne (by omega), State.getI_putI_coord_ne (by omega)]

/-- A position changes no register but its three. -/
theorem State.putPos_get {base : Nat} {f : Field} (h : regAddr f.reg 0 0 < (regInfo .gnbPos).base) :
    (s.putPos base x y z).get f = s.get f := by
  simp only [State.putPos, State.putI]
  rw [State.get_put_above _ _ _ _ h, State.get_put_above _ _ _ _ h, State.get_put_above _ _ _ _ h]

/-- A register that is not GNB_POS keeps the coordinates. -/
theorem State.getI_put_coord {f : Field} (v j : Nat) (h : regAddr .gnbPos j 0 ≠ regAddr f.reg 0 0) :
    (s.put f v).getI F.gnbPos_COORD j = s.getI F.gnbPos_COORD j := by
  rw [State.getI, State.getI, s.get_put_ne f F.gnbPos_COORD v 0 0 j 0 h]

/-! ### The settings store (R191, R727) -/

theorem State.setPlace_lt (s : State) : s.setPlace < 2 := by
  unfold State.setPlace
  split
  · assumption
  · split <;> decide

/-- The settings that were written are the settings in use. -/
theorem State.settings_setSettings (s : State) (v : Settings) : (s.setSettings v).settings = v := by
  have hlt := s.setPlace_lt
  obtain h | h : s.setPlace = 0 ∨ s.setPlace = 1 := by omega
  · simp [State.settings, State.setCopy, State.setSettings, h]
  · simp [State.settings, State.setCopy, State.setSettings, h]

@[simp] theorem State.setSettings_regs (s : State) (v : Settings) : (s.setSettings v).regs = s.regs := rfl

/-! ### The held position (R190, R191, R193) -/

/-- The registers of a held position: HOLD, and HOLD_SUSPECT clear. -/
def State.held (s : State) (x y z : Int) (unc : Nat) : State :=
  (((s.putPos 0 x y z).put F.gnbPosUnc_HOLD_UNC unc).put F.gnbSurvey_POS_MODE 2).putB F.gnbSurvey_HOLD_SUSPECT false

theorem State.holdPos_eq : s.holdPos x y z unc =
    ((s.held x y z unc).refresh 14).setSettings { s.settings with pos := some (x, y, z, unc) } := rfl

theorem State.held_coord (j : Nat) (hj : j < 6) :
    (s.held x y z unc).getI F.gnbPos_COORD j = (s.putPos 0 x y z).getI F.gnbPos_COORD j := by
  have h : ∀ r : RegId, r = .gnbPosUnc ∨ r = .gnbSurvey → regAddr .gnbPos j 0 ≠ regAddr r 0 0 := by
    rintro r (rfl | rfl)
    · rw [regAddr_gnbPos, regAddr_gnbPosUnc]
      omega
    · rw [regAddr_gnbPos, regAddr_gnbSurvey]
      omega
  rw [State.held, State.putB, State.getI_put_coord _ _ (h _ (.inr rfl)), State.getI_put_coord _ _ (h _ (.inr rfl)),
    State.getI_put_coord _ _ (h _ (.inl rfl))]

theorem State.held_position (hx : fits64 x = true) (hy : fits64 y = true) (hz : fits64 z = true) :
    (s.held x y z unc).getI F.gnbPos_COORD 0 = x ∧ (s.held x y z unc).getI F.gnbPos_COORD 1 = y ∧
      (s.held x y z unc).getI F.gnbPos_COORD 2 = z := by
  rw [State.held_coord 0 (by decide), State.held_coord 1 (by decide), State.held_coord 2 (by decide)]
  exact State.putPos_coords 0 hx hy hz

theorem State.held_state (hunc : unc < 2 ^ 32) : (s.held x y z unc).get F.gnbPosUnc_HOLD_UNC = unc ∧
    (s.held x y z unc).get F.gnbSurvey_POS_MODE = 2 ∧ (s.held x y z unc).getB F.gnbSurvey_HOLD_SUSPECT = false := by
  refine ⟨?_, ?_, State.getB_putB_same _ _ _ _ _ (by decide) rfl⟩
  · rw [State.held, State.putB, State.get_put_besides _ _ _ _ (by decide), State.get_put_besides _ _ _ _ (by decide)]
    exact State.get_put_of_lt _ _ _ (by decide) (by decide) hunc
  · rw [State.held, State.putB, State.get_put_besides _ _ _ _ (by decide)]
    exact State.get_put_of_lt _ _ _ (by decide) (by decide) (by decide)

/-! ### The end of a survey (R189, R190) -/

/-- The registers of a survey that has found a position. -/
def State.surveyed (s : State) (unc : Nat) : State :=
  ((s.put F.gnbSurvey_STATE 2).put F.gnbSurvey_ELAPSED s.survElapsed).put F.gnbPosUnc_SURV_UNC unc

theorem State.survElapsed_lt (s : State) : s.survElapsed < 2 ^ 32 := by
  rw [State.survElapsed, satNat_eq_min]
  omega

theorem State.surveyed_record : (s.surveyed unc).get F.gnbSurvey_STATE = 2 ∧
    (s.surveyed unc).get F.gnbSurvey_ELAPSED = s.survElapsed := by
  constructor
  · rw [State.surveyed, State.get_put_besides _ _ _ _ (by decide), State.get_put_besides _ _ _ _ (by decide)]
    exact State.get_put_of_lt _ _ _ (by decide) (by decide) (by decide)
  · rw [State.surveyed, State.get_put_besides _ _ _ _ (by decide)]
    exact State.get_put_of_lt _ _ _ (by decide) (by decide) s.survElapsed_lt

/-- The candidate that a survey leaves in TRACK and STANDBY (R190). -/
def State.candidate (s : State) (x y z : Int) (unc : Nat) : State :=
  (((s.putPos 3 x y z).putB F.gnbSurvey_CAND true).setGnb { s.gnb with candUnc := unc }).putB F.gnbSurvey_HOLD_SUSPECT false

theorem State.candidate_coord (j : Nat) (hj : j < 6) :
    (s.candidate x y z unc).getI F.gnbPos_COORD j = (s.putPos 3 x y z).getI F.gnbPos_COORD j := by
  have h : regAddr .gnbPos j 0 ≠ regAddr .gnbSurvey 0 0 := by
    rw [regAddr_gnbPos, regAddr_gnbSurvey]
    omega
  rw [State.candidate, State.putB, State.getI_put_coord (f := F.gnbSurvey_HOLD_SUSPECT) _ j h, State.setGnb_getI, State.putB,
    State.getI_put_coord (f := F.gnbSurvey_CAND) _ j h]

theorem State.candidate_get {f : Field} (h : f.besides F.gnbSurvey_CAND = true) (h' : f.besides F.gnbSurvey_HOLD_SUSPECT = true)
    (hpos : regAddr f.reg 0 0 < (regInfo .gnbPos).base) : (s.candidate x y z unc).get f = s.get f := by
  rw [State.candidate, State.putB, State.get_put_besides _ _ _ _ h', State.setGnb_get, State.putB, State.get_put_besides _ _ _ _ h,
    State.putPos_get hpos]

theorem State.candidate_cand : (s.candidate x y z unc).getB F.gnbSurvey_CAND = true := by
  rw [State.candidate, State.putB, State.getB_put_besides _ _ _ _ (by decide), State.setGnb_getB,
    State.getB_putB_same _ _ _ _ _ (by decide) rfl]

/-- What a survey that has found a position does with it, by the mode (R190). -/
theorem exec_surveyDone_found (hst : s.get F.gnbSurvey_STATE = 1) (hmin : s.gnb.survMin ≤ s.survElapsed)
    (hmax : s.survElapsed ≤ s.gnb.survMax) (htgt : unc ≤ s.gnb.survTgt) :
    exec (.surveyDone () x y z unc) s = .next (if s.mode = .track ∨ s.mode = .standby then
        ((s.surveyed unc).candidate x y z unc).refresh 14
      else (s.surveyed unc).holdPos x y z unc) :=
  congrArg Host.Outcome.next (if_neg (by simp only [not_or, not_not, not_lt]; exact ⟨hst, hmin, hmax, htgt⟩))

theorem exec_surveyFailed_late (hst : s.get F.gnbSurvey_STATE = 1) (hmax : s.gnb.survMax ≤ s.survElapsed) :
    exec (.surveyFailed () unc) s = .next (((s.put F.gnbSurvey_STATE 3).put F.gnbSurvey_ELAPSED s.survElapsed).put
      F.gnbPosUnc_SURV_UNC (satNat 32 unc)) :=
  congrArg Host.Outcome.next (if_neg (by simp only [not_or, not_not, not_lt]; exact ⟨hst, hmax⟩))

/-! ### A suspect position (R193) -/

/-- A held position given up: NAV, HOLD_SUSPECT and RESYNC. -/
def State.suspected (s : State) : State :=
  ((s.putB F.gnbSurvey_HOLD_SUSPECT true).put F.gnbSurvey_POS_MODE 1).setGnb { s.gnb with resync := true }

theorem exec_holdSuspect_held (h : s.get F.gnbSurvey_POS_MODE = 2) :
    exec .holdSuspect s = .next ((s.suspected.log 0x03 0xff 0x0301 0 2 []).refresh 14) :=
  congrArg Host.Outcome.next (if_neg (not_not.2 h))

theorem State.suspected_log (block inst code part sev : Nat) (data : List Byte) :
    (s.suspected.log block inst code part sev data).get F.gnbSurvey_POS_MODE = 1 ∧
      (s.suspected.log block inst code part sev data).getB F.gnbSurvey_HOLD_SUSPECT = true ∧
      (s.suspected.log block inst code part sev data).gnb.resync = true := by
  have hrd := s.suspected.rd_log block inst code part sev data (r := .gnbSurvey) (i := 0) (j := 0) (by decide)
  rw [State.get_of_rd (f := F.gnbSurvey_POS_MODE) hrd, State.getB_of_rd (f := F.gnbSurvey_HOLD_SUSPECT) hrd, State.log_gnb]
  refine ⟨?_, ?_, rfl⟩
  · rw [State.suspected, State.setGnb_get]
    exact State.get_put_of_lt _ _ _ (by decide) (by decide) (by decide)
  · rw [State.suspected, State.setGnb_getB, State.getB_put_besides _ _ _ _ (by decide)]
    exact State.getB_putB_same _ _ _ _ _ (by decide) rfl

/-! ### The commands (R197, R198) -/

/-- GNB_CFG as GNSS_CFG writes it (R198). -/
def State.cfgWritten (s : State) (sigEn tsys elev cn0 : Nat) : State :=
  (((s.put F.gnbCfg_SIG_EN sigEn).put F.gnbCfg_TSYS tsys).put F.gnbCfg_ELEV_MASK elev).put F.gnbCfg_CN0_MASK cn0

/-- What GNSS_CFG sets (R198). -/
def State.gnssConfigured (s : State) (sigEn tsys elev cn0 span per : Nat) : State :=
  (s.cfgWritten sigEn tsys elev cn0).setGnb
    { s.gnb with resync := s.gnb.resync || tsys != s.get F.gnbCfg_TSYS || s.disablesUsed sigEn, acqSpan := span, measPer := per }

theorem State.gnssConfigured_get (sigEn tsys elev cn0 span per : Nat) (f : Field) :
    (s.gnssConfigured sigEn tsys elev cn0 span per).get f = (s.cfgWritten sigEn tsys elev cn0).get f := by
  rw [State.gnssConfigured, State.setGnb_get]

theorem exec_gnssCfg_ok {sigEn tsys elev cn0 span per : Nat} (ha : s.admitsOwner c 0x30 = true) (hsig : sigEn < 1024) (htsys : tsys ≤ 2)
    (helev : elev ≤ 90) (hcn0 : cn0 < 256) (hspan : span ≤ 50000) (h10 : 10 ≤ per) (h1000 : per ≤ 1000) :
    exec (.gnssCfg c sigEn tsys elev cn0 span per) s =
      .next ((s.gnssConfigured sigEn tsys elev cn0 span per).showOob.complete c 0x30 .ok) := by
  obtain ⟨hadm, hown⟩ := (s.admitsOwner_iff c 0x30).1 ha
  rw [exec_gnssCfg, execGnssCfg, State.runCmd_ok_of_admits hadm _ c (firstFail_eq_none ?_), State.gnssConfigured, State.cfgWritten]
  simp only [List.forall_mem_cons, List.not_mem_nil, false_imp_iff, implies_true, and_true]
  refine ⟨notOwner_pass hown, ?_⟩
  simp only [Bool.or_eq_false_iff, decide_eq_false_iff_not]
  omega

theorem State.cfgWritten_fields {sigEn tsys elev cn0 : Nat} (hsig : sigEn < 1024) (htsys : tsys ≤ 2) (helev : elev ≤ 90)
    (hcn0 : cn0 < 256) : (s.cfgWritten sigEn tsys elev cn0).get F.gnbCfg_SIG_EN = sigEn ∧
      (s.cfgWritten sigEn tsys elev cn0).get F.gnbCfg_TSYS = tsys ∧ (s.cfgWritten sigEn tsys elev cn0).get F.gnbCfg_ELEV_MASK = elev ∧
      (s.cfgWritten sigEn tsys elev cn0).get F.gnbCfg_CN0_MASK = cn0 := by
  simp (decide := true) only [State.cfgWritten, State.get_put_besides, State.get_put_same]
  omega

theorem exec_gnssRestart_ok {kind : Nat} (ha : s.admitsOwner c 0x31 = true) (hk : kind < 2) : exec (.gnssRestart c kind) s =
    .next ((s.setGnb { s.gnb with acq := none, coldStart := kind == 0 }).complete c 0x31 .ok) := by
  obtain ⟨hadm, hown⟩ := (s.admitsOwner_iff c 0x31).1 ha
  rw [exec_gnssRestart, execGnssRestart, State.runCmd_ok_of_admits hadm _ c (firstFail_eq_none ?_)]
  simp only [List.forall_mem_cons, List.not_mem_nil, false_imp_iff, implies_true, and_true]
  exact ⟨notOwner_pass hown, by simp; omega⟩

/-- A survey that has started (R189). -/
def State.surveying (s : State) (min target max : Nat) : State :=
  ((s.put F.gnbSurvey_STATE 1).put F.gnbSurvey_ELAPSED 0).setGnb
    { s.gnb with survMin := min, survTgt := target, survMax := max, survAt := s.get F.gnbRxc_RXC }

theorem exec_gnssSurvey_ok {min target max : Nat} (ha : s.admitsOwner c 0x32 = true) (hmin : min < 2 ^ 32) (htgt : target < 2 ^ 32)
    (hmax : max < 2 ^ 32) (hst : s.get F.gnbSurvey_STATE ≠ 1) :
    exec (.gnssSurvey c min target max) s = .next ((s.surveying min target max).complete c 0x32 .ok) := by
  obtain ⟨hadm, hown⟩ := (s.admitsOwner_iff c 0x32).1 ha
  rw [exec_gnssSurvey, execGnssSurvey, State.runCmd_ok_of_admits hadm _ c (firstFail_eq_none ?_), State.surveying]
  simp only [List.forall_mem_cons, List.not_mem_nil, false_imp_iff, implies_true, and_true]
  refine ⟨notOwner_pass hown, ?_, by simpa using hst⟩
  simp only [Bool.or_eq_false_iff, decide_eq_false_iff_not]
  omega

theorem State.surveying_fields (min target max : Nat) : (s.surveying min target max).get F.gnbSurvey_STATE = 1 ∧
    (s.surveying min target max).get F.gnbSurvey_ELAPSED = 0 := by
  simp (decide := true) only [State.surveying, State.setGnb_get, State.get_put_besides, State.get_put_same, and_self]

/-- GNSS_POS_SET of a position given with the command (R191). -/
theorem exec_gnssPosSet_given (ha : s.admitsOwner c 0x33 = true) (hx : fits64 x = true) (hy : fits64 y = true) (hz : fits64 z = true)
    (hunc : unc < 2 ^ 32) : exec (.gnssPosSet c 0 x y z unc) s = .next ((s.holdPos x y z unc).complete c 0x33 .ok) := by
  obtain ⟨hadm, hown⟩ := (s.admitsOwner_iff c 0x33).1 ha
  rw [exec_gnssPosSet, execGnssPosSet, State.runCmd_ok_of_admits hadm _ c (firstFail_eq_none ?_), if_neg (by decide)]
  simp only [List.forall_mem_cons, List.not_mem_nil, false_imp_iff, implies_true, and_true]
  exact ⟨notOwner_pass hown, by simp, by simpa [hx, hy, hz] using hunc⟩

/-- GNSS_POS_SET of the candidate (R190, R191). -/
theorem exec_gnssPosSet_candidate (x y z : Int) (unc : Nat) (ha : s.admitsOwner c 0x33 = true) (hcand : s.getB F.gnbSurvey_CAND = true) :
    exec (.gnssPosSet c 1 x y z unc) s = .next (s.adoptCand.complete c 0x33 .ok) := by
  obtain ⟨hadm, hown⟩ := (s.admitsOwner_iff c 0x33).1 ha
  rw [exec_gnssPosSet, execGnssPosSet, State.runCmd_ok_of_admits hadm _ c (firstFail_eq_none ?_), if_pos rfl]
  simp only [List.forall_mem_cons, List.not_mem_nil, false_imp_iff, implies_true, and_true]
  exact ⟨notOwner_pass hown, by simp [hcand], by simp⟩

/-- The held position cleared: HOLD is left for NAV (R191, R193). -/
def State.posCleared (s : State) : State :=
  ((s.putPos 0 0 0 0).put F.gnbPosUnc_HOLD_UNC 0).put F.gnbSurvey_POS_MODE
    (if s.get F.gnbSurvey_POS_MODE = 2 then 1 else s.get F.gnbSurvey_POS_MODE)

theorem exec_gnssPosClear_ok (ha : s.admitsOwner c 0x34 = true) : exec (.gnssPosClear c) s =
    .next ((s.posCleared.setSettings { s.settings with pos := none }).complete c 0x34 .ok) := by
  obtain ⟨hadm, hown⟩ := (s.admitsOwner_iff c 0x34).1 ha
  rw [exec_gnssPosClear, execGnssPosClear, State.runCmd_ok_of_admits hadm _ c (firstFail_eq_none ?_), State.posCleared]
  simp only [List.forall_mem_cons, List.not_mem_nil, false_imp_iff, implies_true, and_true]
  exact notOwner_pass hown

theorem State.posCleared_fields : s.posCleared.getI F.gnbPos_COORD 0 = 0 ∧ s.posCleared.get F.gnbPosUnc_HOLD_UNC = 0 ∧
    s.posCleared.get F.gnbSurvey_POS_MODE ≠ 2 := by
  have hlt : s.get F.gnbSurvey_POS_MODE < 2 ^ 2 := bitsOf_lt _ _ _ (by decide) (by decide)
  refine ⟨?_, ?_, ?_⟩
  · rw [State.posCleared, State.getI_put_coord _ _ (by decide), State.getI_put_coord _ _ (by decide)]
    exact (State.putPos_coords 0 (by decide) (by decide) (by decide)).1
  · rw [State.posCleared, State.get_put_besides _ _ _ _ (by decide)]
    exact State.get_put_same _ _ _ _ _ (by decide) (by decide)
  · have hmode : (if s.get F.gnbSurvey_POS_MODE = 2 then 1 else s.get F.gnbSurvey_POS_MODE) < 2 ^ 2 := by split <;> omega
    rw [State.posCleared, State.get_put_of_lt _ _ _ (by decide) (by decide) hmode]
    split <;> omega

theorem exec_gnssTap_ok {on : Nat} (ha : s.admitsOwner c 0x35 = true) (hon : on < 2) :
    exec (.gnssTap c on) s = .next ((s.putB F.gnbCtl_TAP_EN (on == 1)).complete c 0x35 .ok) := by
  obtain ⟨hadm, hown⟩ := (s.admitsOwner_iff c 0x35).1 ha
  rw [exec_gnssTap, execGnssTap, State.runCmd_ok_of_admits hadm _ c (firstFail_eq_none ?_)]
  simp only [List.forall_mem_cons, List.not_mem_nil, false_imp_iff, implies_true, and_true]
  exact ⟨notOwner_pass hown, by simp; omega⟩

end Sys2Proof.Machine

open Sys2Proof Sys2Proof.Machine

/-- Settles O15: surveys and positions by the registers that they leave, then command by command. -/
theorem gnssCommandsComplete : Obligations.GnssCommandsComplete := by
  intro s
  refine ⟨?survey, fun unc hst hmax => ?failed, fun h => ⟨_, exec_holdSuspect_held h, s.suspected_log _ _ _ _ _ _⟩, ?held,
    s.settings_setSettings, ?cfg, fun c kind => exec_gnssRestart_ok, ?start, fun c x y z unc ha => ⟨exec_gnssPosSet_given ha, fun hcand =>
      ⟨_, exec_gnssPosSet_candidate x y z unc ha hcand, rfl⟩⟩, fun c ha => ?clear, fun c on => exec_gnssTap_ok⟩
  case survey =>
    intro x y z unc hst hmin hmax htgt hx hy hz hunc
    have hexec := exec_surveyDone_found (x := x) (y := y) (z := z) hst hmin hmax htgt
    obtain ⟨hdone, helapsed⟩ := State.surveyed_record (s := s) (unc := unc)
    refine ⟨fun hmode => ?_, fun ht hs => ?_⟩
    · rw [if_pos hmode] at hexec
      obtain ⟨h3, h4, h5⟩ := State.putPos_coords (s := s.surveyed unc) 3 hx hy hz
      have hkept : (s.surveyed unc).getI F.gnbPos_COORD 0 = s.getI F.gnbPos_COORD 0 := by
        rw [State.surveyed, State.getI_put_coord _ _ (by decide), State.getI_put_coord _ _ (by decide),
          State.getI_put_coord _ _ (by decide)]
      refine ⟨_, hexec, (State.candidate_get (by decide) (by decide) (by decide)).trans hdone,
        (State.candidate_get (by decide) (by decide) (by decide)).trans helapsed, State.candidate_cand,
        (State.candidate_coord 3 (by decide)).trans h3, (State.candidate_coord 4 (by decide)).trans h4,
        (State.candidate_coord 5 (by decide)).trans h5, rfl, ?_⟩
      rw [State.candidate_coord 0 (by decide), State.putPos_coord_ne (by decide), hkept]
    · rw [if_neg (by simp [ht, hs])] at hexec
      exact ⟨_, hexec, hdone⟩
  case failed =>
    refine ⟨_, exec_surveyFailed_late hst hmax, ?_⟩
    rw [State.get_put_besides _ _ _ _ (by decide), State.get_put_besides _ _ _ _ (by decide)]
    exact State.get_put_of_lt _ _ _ (by decide) (by decide) (by decide)
  case held =>
    intro x y z unc hx hy hz hunc
    obtain ⟨h0, h1, h2⟩ := State.held_position (s := s) (unc := unc) hx hy hz
    exact ⟨_, State.holdPos_eq, h0, h1, h2, State.held_state hunc⟩
  case cfg =>
    intro c sigEn tsys elev cn0 span per ha hsig htsys helev hcn0 hspan h10 h1000
    obtain ⟨h1, h2, h3, h4⟩ := State.cfgWritten_fields (s := s) hsig htsys helev hcn0
    refine ⟨_, exec_gnssCfg_ok ha hsig htsys helev hcn0 hspan h10 h1000, ?_, ?_, ?_, ?_, rfl, rfl, fun h => ?_⟩
    · rw [State.gnssConfigured_get, h1]
    · rw [State.gnssConfigured_get, h2]
    · rw [State.gnssConfigured_get, h3]
    · rw [State.gnssConfigured_get, h4]
    · obtain h | h := h <;> simp [State.gnssConfigured, h]
  case start =>
    intro c min target max ha hmin htgt hmax hst
    obtain ⟨hstate, helapsed⟩ := State.surveying_fields (s := s) min target max
    exact ⟨_, exec_gnssSurvey_ok ha hmin htgt hmax hst, hstate, helapsed, rfl, rfl, rfl, rfl⟩
  case clear =>
    obtain ⟨hpos, hunc, hmode⟩ := State.posCleared_fields (s := s)
    have hregs := s.posCleared.setSettings_regs { s.settings with pos := none }
    refine ⟨_, exec_gnssPosClear_ok ha, congrArg Settings.pos (State.settings_setSettings _ _), ?_, ?_, ?_⟩
    · rw [State.getI_congr hregs, hpos]
    · rw [State.get_congr hregs, hunc]
    · rw [State.get_congr hregs]
      exact hmode
end

section
/-! RULES. What faults and the event ledger leave of the registers below SUP, and of a thread's partition (R338, R660–R662, R675). -/
namespace Sys2Proof.Machine

variable (s : State)

/-! ### The registers below SUP -/

theorem State.wordsBelowSup_refresh (n : Nat) : (s.refresh n).wordsBelowSup = s.wordsBelowSup := by
  have hcore : ∀ (u : State) (m r : Nat) (i : Nat → Nat), (u.faultCore n m r i false).wordsBelowSup = u.wordsBelowSup := by
    intro u m r i
    unfold State.faultCore
    split
    · rfl
    · exact (State.wordsBelowSup_congr (by simp)).trans (u.wordsBelowSup_faultSticky n m r)
  unfold State.refresh
  dsimp only
  split
  · rfl
  · exact (hcore _ _ _ _).trans (foldl_keeps State.wordsBelowSup _ (fun u p => u.wordsBelowSup_put _ _ _ _ (by decide)) _ _)

theorem State.wordsBelowSup_gainAbort (why : Nat) : (s.gainAbort why).wordsBelowSup = s.wordsBelowSup := by
  unfold State.gainAbort
  split
  · exact (State.wordsBelowSup_log _ _ _ _ _ _ _).trans (State.wordsBelowSup_congr rfl)
  · rfl

theorem State.get_refresh (n : Nat) {f : Field} {i j : Nat} (h : regAddr f.reg i j < 0xa00000) :
    (s.refresh n).get f i j = s.get f i j := State.get_of_rd (State.rd_of_wordsBelowSup (s.wordsBelowSup_refresh n) h)

theorem State.get_gainAbort (why : Nat) {f : Field} {i j : Nat} (h : regAddr f.reg i j < 0xa00000) :
    (s.gainAbort why).get f i j = s.get f i j := State.get_of_rd (State.rd_of_wordsBelowSup (s.wordsBelowSup_gainAbort why) h)

/-! ### The partition of a thread

A thread's number is any number, so THRt_CFG of a thread that does not exist may lie at the address of another register: its bits
[2:0] are followed wherever they lie. -/

/-- Bits [2:0] of the words at the addresses that THRt_CFG can have, whatever t is. -/
def State.partBits (a : Nat) : Nat := if a % 0x200 = 0 ∧ 0x610000 ≤ a then (tabGet 0 s.regs a).toNat % 8 else 0

theorem State.partBits_congr {s t : State} (h : t.regs = s.regs) : t.partBits = s.partBits := by
  funext a
  simp only [State.partBits, h]

theorem regAddr_thrCfg (t : Nat) : regAddr .thrCfg t 0 = 0x610000 + 0x200 * t := rfl

theorem State.thrPart_eq_partBits (t : Nat) : s.thrPart t = s.partBits (0x610000 + 0x200 * t) := by
  have hrst : regRst .thrCfg t = 0#64 := rfl
  rw [State.partBits, if_pos (by omega), State.thrPart, State.get, bitsOf_eq_div_mod _ _ _ (by decide) (by decide), State.rd, hrst,
    regAddr_thrCfg, BitVec.xor_zero]
  simp

theorem State.cPart_of_partBits {s t : State} (h : t.partBits = s.partBits) (c : Caller) : t.cPart c = s.cPart c := by
  cases c with
  | host f r => rfl
  | thread k => simp only [State.cPart, State.thrPart_eq_partBits, h]
  | firmware => rfl

/-- A register that no THRt_CFG shares its address with. -/
theorem State.partBits_put (f : Field) (v i j : Nat) (h : regAddr f.reg i j % 0x200 ≠ 0 ∨ regAddr f.reg i j < 0x610000) :
    (s.put f v i j).partBits = s.partBits := by
  funext a
  simp only [State.partBits]
  split
  · rw [State.put, State.wr]
    rw [tabGet_tabSet_ne _ _ _ (by omega)]
  · rfl

theorem withBit_mod_eight (v : Nat) {n : Nat} (h : 3 ≤ n) : withBit v n % 8 = v % 8 := by
  obtain ⟨k, rfl⟩ := Nat.exists_eq_add_of_le h
  unfold withBit
  split
  · rfl
  · rw [pow_add, show 2 ^ 3 = 8 from rfl, Nat.add_mul_mod_self_left]

/-- The word of a register that is one field, of reset value zero. -/
theorem State.word_eq_get {f : Field} {i : Nat} (hf : f.hi = 63 ∧ f.lo = 0) (hr : regRst f.reg i = 0#64) :
    tabGet 0 s.regs (regAddr f.reg i 0) = BitVec.ofNat 64 (s.get f i) := by
  rw [State.get, hf.1, hf.2, bitsOf_eq_div_mod _ _ _ (by decide) (by decide), State.rd, hr, BitVec.xor_zero]
  have hlt := (tabGet 0 s.regs (regAddr f.reg i 0)).isLt
  simp only [Nat.pow_zero, Nat.div_one, Nat.mod_eq_of_lt hlt, BitVec.ofNat_toNat, BitVec.setWidth_eq]

/-- A sticky bit of a source from the fourth on. -/
theorem State.partBits_putBit {f : Field} (i : Nat) {n : Nat} (hn : 3 ≤ n) (hf : f.hi = 63 ∧ f.lo = 0) (hr : regRst f.reg i = 0#64) :
    (s.put f (withBit (s.get f i) n) i).partBits = s.partBits := by
  funext a
  simp only [State.partBits]
  by_cases ha : a = regAddr f.reg i 0
  · have hsame := s.get_put_same f (withBit (s.get f i) n) i 0 (by omega) (by omega)
    rw [hf.1, hf.2] at hsame
    rw [ha, State.word_eq_get _ hf hr, State.word_eq_get _ hf hr, hsame, BitVec.toNat_ofNat, BitVec.toNat_ofNat,
      Nat.mod_mod_of_dvd _ (by decide), Nat.mod_mod_of_dvd _ (by decide), Nat.mod_mod_of_dvd _ (by decide), withBit_mod_eight _ hn]
  · rw [State.put, State.wr, tabGet_tabSet_ne _ _ _ ha]

theorem State.partBits_log (block inst code part sev : Nat) (data : List Byte) :
    (s.log block inst code part sev data).partBits = s.partBits := by
  unfold State.log
  split
  · exact State.partBits_congr rfl
  · exact s.partBits_put _ _ _ _ (.inl (by decide))

theorem State.partBits_faultCore {n : Nat} (hn : 3 ≤ n) (hn' : n < 64) (mask rise : Nat) (inst : Nat → Nat) (inj : Bool) (lane : Nat) :
    (s.faultCore n mask rise inst inj lane).partBits = s.partBits := by
  have hcount : (s.faultCount n rise).partBits = s.partBits := by
    have haddr : regAddr .supFcnt n 0 = 0xa00400 + 8 * n := rfl
    unfold State.faultCount
    split
    · exact (State.partBits_put _ _ _ _ _ (.inl (by rw [haddr]; omega))).trans (State.partBits_congr rfl)
    · rfl
  have hsticky : (s.faultSticky n mask rise).partBits = s.partBits := by
    unfold State.faultSticky
    dsimp only
    rw [foldl_keeps State.partBits _ (fun u p => u.partBits_putBit p hn ⟨rfl, rfl⟩ rfl),
      State.partBits_putBit _ _ hn ⟨rfl, rfl⟩ rfl, hcount]
  unfold State.faultCore
  split
  · rfl
  · exact (State.partBits_congr (by simp)).trans hsticky

theorem regAddr_supPflive (p : Nat) : regAddr .supPflive p 0 = 0xa00808 + 0x10 * p := rfl

theorem State.partBits_putLive (v p : Nat) : (s.put F.supPflive_S_or_L v p).partBits = s.partBits :=
  s.partBits_put _ _ _ _ (.inl (by rw [regAddr_supPflive]; omega))

theorem State.partBits_pulse {n : Nat} (hn : 3 ≤ n) (hn' : n < 64) (p inst : Nat) : (s.pulse n p inst).partBits = s.partBits :=
  (State.partBits_faultCore _ hn hn' _ _ _ _ _).trans ((State.partBits_putLive _ _ _).trans (State.partBits_congr rfl))

theorem State.partBits_refresh {n : Nat} (hn : 3 ≤ n) (hn' : n < 64) : (s.refresh n).partBits = s.partBits := by
  unfold State.refresh
  dsimp only
  split
  · rfl
  · exact (State.partBits_faultCore _ hn hn' _ _ _ _ _).trans (foldl_keeps State.partBits _ (fun u p => u.partBits_putLive _ p) _ _)

theorem State.partBits_stepPages (n : Nat) : (s.stepPages n).partBits = s.partBits := by
  refine foldl_keeps State.partBits _ (fun u l => ?_) _ _
  have haddr : regAddr .slgStat l 0 = 0x1004008 + 0x20000 * l := rfl
  split
  · exact u.partBits_put _ _ _ _ (.inl (by rw [haddr]; omega))
  · rfl

theorem State.partBits_stepWindows (n : Nat) (diff : Int) : (s.stepWindows n diff).partBits = s.partBits :=
  State.partBits_congr (foldl_keeps State.regs _ (fun u m => by split <;> rfl) _ _)

/-- A move of a domain leaves every thread in its partition. -/
theorem State.partBits_afterMove (n : Nat) (diff : Int) (code issuer : Nat) : (s.afterMove n diff code issuer).partBits = s.partBits := by
  have hpulse : ∀ (u : State) (p : Nat) (b : Prop) [Decidable b], (if b then u.pulse 7 p n else u).partBits = u.partBits := by
    intro u p b _
    split
    · exact State.partBits_pulse _ (by decide) (by decide) _ _
    · rfl
  have hmark : ∀ (u : State) (b : Prop) [Decidable b], (if b then u.markStepped n else u).partBits = u.partBits := by
    intro u b _
    split
    · exact State.partBits_congr rfl
    · rfl
  unfold State.afterMove
  rw [hmark, hpulse, State.partBits_log, State.partBits_stepPages, State.partBits_stepWindows]
  exact State.partBits_congr (by split <;> rfl)

end Sys2Proof.Machine
end

section
/-! RULES. Numbers held within a range, and what each write of the servo's registers and records leaves (R63, R217, R218). -/
namespace Sys2Proof.Machine

/-! ### Numbers held within a range -/

theorem clampInt_eq_max_min {lo hi : Int} (h : lo ≤ hi) (x : Int) : clampInt lo hi x = max lo (min hi x) := by
  unfold clampInt
  split
  · omega
  · split <;> omega

theorem clampInt_bounds {lo hi : Int} (h : lo ≤ hi) (x : Int) : lo ≤ clampInt lo hi x ∧ clampInt lo hi x ≤ hi := by
  rw [clampInt_eq_max_min h]
  omega

theorem clampInt_of_mem {lo hi x : Int} (hlo : lo ≤ x) (hhi : x ≤ hi) : clampInt lo hi x = x := by
  rw [clampInt_eq_max_min (hlo.trans hhi)]
  omega

theorem natAbs_clampInt_le (m : Nat) (x : Int) : (clampInt (-(m : Int)) m x).natAbs ≤ m := by
  have h := clampInt_bounds (lo := -(m : Int)) (hi := m) (by omega) x
  omega

/-- Holding a number within a range takes it no further from a rational number that is held within the same range. -/
theorem abs_clampInt_sub_le {lo hi : Int} (h : lo ≤ hi) (x : Int) (q : ℚ) :
    |(clampInt lo hi x : ℚ) - max (lo : ℚ) (min (hi : ℚ) q)| ≤ |(x : ℚ) - q| := by
  rw [clampInt_eq_max_min h, Int.cast_max, Int.cast_min]
  refine (abs_max_sub_max_le_max _ _ _ _).trans (max_le (by simp) ?_)
  exact (abs_min_sub_min_le_max _ _ _ _).trans (max_le (by simp) le_rfl)

/-! ### Records -/

variable (s : State)

@[simp] theorem State.setRsh_rsh (r : Rsh) : (s.setRsh r).rsh = r := rfl
@[simp] theorem State.setRsh_dom (r : Rsh) (n : Nat) : (s.setRsh r).dom n = s.dom n := rfl
@[simp] theorem State.setRsh_get (r : Rsh) (f : Field) (i j : Nat) : (s.setRsh r).get f i j = s.get f i j := rfl
@[simp] theorem State.setRsh_getI (r : Rsh) (f : Field) (i j : Nat) : (s.setRsh r).getI f i j = s.getI f i j := rfl
@[simp] theorem State.put_dom (f : Field) (v i j n : Nat) : (s.put f v i j).dom n = s.dom n := rfl
@[simp] theorem State.putB_dom (f : Field) (b : Bool) (i j n : Nat) : (s.putB f b i j).dom n = s.dom n := rfl

/-! ### FOFF of D0 -/

theorem State.setFoff0_dom (f : Int) : (s.setFoff0 f).dom 0 =
    { s.dom 0 with foff := clampInt (-(2 ^ 47 - 1)) (2 ^ 47 - 1) f,
                   foffSat := (s.dom 0).foffSat || clampInt (-(2 ^ 47 - 1)) (2 ^ 47 - 1) f != f } :=
  s.dom_setDom_same 0 _

theorem State.setFoff0_foff (f : Int) : ((s.setFoff0 f).dom 0).foff = clampInt (-(2 ^ 47 - 1)) (2 ^ 47 - 1) f := by
  rw [State.setFoff0_dom]

/-- A FOFF within the range of R63 is taken as it is. -/
theorem State.setFoff0_dom_of_fits {f : Int} (h : f.natAbs ≤ 2 ^ 47 - 1) : (s.setFoff0 f).dom 0 = { s.dom 0 with foff := f } := by
  rw [State.setFoff0_dom, clampInt_of_mem (by omega) (by omega)]
  simp

theorem State.natAbs_setFoff0_le (f : Int) : ((s.setFoff0 f).dom 0).foff.natAbs ≤ 2 ^ 47 - 1 := by
  rw [State.setFoff0_foff]
  exact natAbs_clampInt_le (2 ^ 47 - 1) f

theorem State.setFoff0_get (f : Int) {g : Field} {i j : Nat} (h : regAddr g.reg i j ≠ regAddr .rshServoF 0 0) :
    (s.setFoff0 f).get g i j = s.get g i j := State.get_put_ne _ F.rshServoF_FOFF g _ 0 0 i j h

theorem State.setFoff0_getB (f : Int) {g : Field} {i j : Nat} (h : regAddr g.reg i j ≠ regAddr .rshServoF 0 0) :
    (s.setFoff0 f).getB g i j = s.getB g i j := by rw [State.getB, State.getB, s.setFoff0_get f h]

theorem State.setFoff0_getI (f : Int) {g : Field} {i j : Nat} (h : regAddr g.reg i j ≠ regAddr .rshServoF 0 0) :
    (s.setFoff0 f).getI g i j = s.getI g i j := by rw [State.getI, State.getI, s.setFoff0_get f h]

theorem State.setFoff0_servoF (f : Int) : (s.setFoff0 f).getI F.rshServoF_FOFF = ((s.setFoff0 f).dom 0).foff := by
  have h := s.natAbs_setFoff0_le f
  rw [State.setFoff0_foff] at h ⊢
  exact State.getI_putI_same _ 0 0 (by decide) (by decide) (by simp only; omega) (by simp only; omega)

/-! ### The integrator -/

/-- The integrator and SERVO_SAT. -/
theorem State.get_servoShown (x : Int) (i f : Bool) {g : Field} (hI : g.besides F.rshServoI_VALUE = true)
    (hS : g.besides F.rshStat_SERVO_SAT = true) : ((s.putI F.rshServoI_VALUE x).showSat i f).get g = s.get g := by
  rw [State.showSat, State.putB, State.get_put_besides _ _ _ _ hS, State.setRsh_get, State.putI, State.get_put_besides _ _ _ _ hI]

theorem State.getI_servoShown (i f : Bool) (x : Int) :
    ((s.putI F.rshServoI_VALUE (clampInt (-servoLim) servoLim x)).showSat i f).getI F.rshServoI_VALUE =
      clampInt (-servoLim) servoLim x := by
  have h := clampInt_bounds (lo := -servoLim) (hi := servoLim) (by decide) x
  have hlim : servoLim = 8388608000000000 := rfl
  rw [State.showSat, State.putB, State.getI_put_besides _ _ _ _ (by decide), State.setRsh_getI]
  exact State.getI_putI_same _ 0 0 (by decide) (by decide) (by simp only; omega) (by simp only; omega)

end Sys2Proof.Machine
end

section
/-! PROOF. The PI filter (R217, R218). -/
namespace Sys2Proof.Machine

variable (s : State) (e : Int)

/-- The integrator after an error of e ticks, in units of 2^-32 ppb (R217, R218). -/
def State.filterI : Int :=
  clampInt (-servoLim) servoLim
    (s.getI F.rshServoI_VALUE + roundDiv (Int.ofNat (s.get F.rshServoKi_GAIN) * (e * 16384)) 4294967296)

/-- The frequency command after an error of e ticks, in units of 2^-32 ppb (R217, R218). -/
def State.filterF : Int :=
  clampInt (-servoLim) servoLim (roundDiv (Int.ofNat (s.get F.rshServoKp_GAIN) * (e * 16384)) 4294967296 + s.filterI e)

theorem State.piFilter_servoI : (s.piFilter e).getI F.rshServoI_VALUE = s.filterI e := by
  rw [State.piFilter, State.setFoff0_getI _ _ (by decide)]
  exact State.getI_servoShown _ _ _ _

theorem State.piFilter_foff : ((s.piFilter e).dom 0).foff =
    clampInt (-(2 ^ 47 - 1)) (2 ^ 47 - 1) (roundDiv (s.filterF e * 16777216) 1000000000) := State.setFoff0_foff _ _

/-- A gain's product with an error, in units of 2^-32 ppb, is rounded to the nearest unit: 16,384 units of gain and error are one
unit of 2^-32 ppb, the error being in ticks (R217). -/
theorem abs_gainProduct_sub_le (k : Nat) : |(roundDiv (Int.ofNat k * (e * 16384)) 4294967296 : ℚ) -
    (k / 2 ^ 32 * (e / 262144) : ℚ) * 2 ^ 32| ≤ 1 / 2 := by
  convert abs_roundDiv_sub_le (Int.ofNat k * (e * 16384)) (b := 4294967296) (by decide) using 2
  rw [Int.ofNat_eq_natCast]
  push_cast
  ring

/-- The limit of ±1,953,125 ppb, in units of 2^-32 ppb. -/
theorem servoSat_mul (q : ℚ) : max (-1953125) (min 1953125 q) * 2 ^ 32 =
    max ((-servoLim : Int) : ℚ) (min ((servoLim : Int) : ℚ) (q * 2 ^ 32)) := by
  rw [max_mul_of_nonneg _ _ (by norm_num), min_mul_of_nonneg _ _ (by norm_num)]
  norm_num [servoLim]

theorem abs_clampFoff_sub_le (x : Int) (q : ℚ) :
    |(clampInt (-(2 ^ 47 - 1)) (2 ^ 47 - 1) x : ℚ) - max (-(2 ^ 47 - 1)) (min (2 ^ 47 - 1) q)| ≤ |(x : ℚ) - q| := by
  have h := abs_clampInt_sub_le (lo := -(2 ^ 47 - 1)) (hi := 2 ^ 47 - 1) (by decide) x q
  norm_num only [Int.cast_neg, Int.cast_sub] at h ⊢
  exact h

theorem abs_div_sub_le {x q c d : ℚ} (hc : 0 < c) (h : |x - q * c| ≤ d) : |x / c - q| ≤ d / c := by
  rw [le_div_iff₀ hc, ← abs_of_pos hc, ← abs_mul, abs_of_pos hc, sub_mul, div_mul_cancel₀ _ hc.ne']
  exact h

end Sys2Proof.Machine

open Sys2Proof Sys2Proof.Machine

/-- Settles O18: holding a number within a range adds no error, so that what is left is the rounding of each product and of FOFF. -/
theorem servoFollowsItsFilter : Obligations.ServoFollowsItsFilter := by
  intro s e sat ki kp en i0 i f
  have hi : (s.filterI e : ℚ) = i * 2 ^ 32 := by
    simp only [i, State.piFilter_servoI]
    ring
  have hF : |(s.filterF e : ℚ) - f * 2 ^ 32| ≤ 1 / 2 := by
    simp only [f, sat, State.filterF, servoSat_mul]
    refine (abs_clampInt_sub_le (by decide) _ _).trans (le_of_eq_of_le ?_ (abs_gainProduct_sub_le e (s.get F.rshServoKp_GAIN)))
    rw [Int.cast_add, hi]
    congr 1
    ring
  refine ⟨?integrator, ?command, State.setFoff0_servoF _ _, State.natAbs_setFoff0_le _ _⟩
  case integrator =>
    have hI : |(s.filterI e : ℚ) - sat (i0 + ki * en) * 2 ^ 32| ≤ 1 / 2 := by
      simp only [sat, State.filterI, servoSat_mul]
      refine (abs_clampInt_sub_le (by decide) _ _).trans (le_of_eq_of_le ?_ (abs_gainProduct_sub_le e (s.get F.rshServoKi_GAIN)))
      rw [Int.cast_add]
      congr 1
      simp only [i0, ki, en]
      ring
    have h := abs_div_sub_le (by norm_num) hI
    rw [hi, mul_div_cancel_right₀ _ (by norm_num)] at h
    exact h.trans (by norm_num)
  case command =>
    have hround := abs_roundDiv_sub_le (s.filterF e * 16777216) (b := 1000000000) (by decide)
    have hscale : |((s.filterF e * 16777216 : Int) : ℚ) / (1000000000 : Nat) - f * (2 ^ 56 / 10 ^ 9)| ≤ 1 / 2 := by
      have h : ((s.filterF e * 16777216 : Int) : ℚ) / (1000000000 : Nat) - f * (2 ^ 56 / 10 ^ 9) =
          (s.filterF e - f * 2 ^ 32) * (2 ^ 24 / 10 ^ 9) := by
        push_cast
        ring
      rw [h, abs_mul, abs_of_pos (by norm_num : (0 : ℚ) < 2 ^ 24 / 10 ^ 9)]
      linarith
    rw [State.piFilter_foff]
    exact (abs_clampFoff_sub_le _ _).trans ((abs_sub_le _ _ _).trans ((add_le_add hround hscale).trans (by norm_num)))
end

section
/-! PROOF. The timed rows of RSH (R204, R211, R229, R230, R232). -/
namespace Sys2Proof.Machine

variable (s : State)

/-- A second of holdover has passed. -/
def State.holdCounted : State := s.setRsh { s.rsh with holdS := s.rsh.holdS + 1 }

/-- What ends holdover at a second (R232, R234). -/
def State.holdEnds : Prop :=
  s.get F.rshHoldCfg_HOLD_MAX_S ≤ s.rsh.holdS + 1 ∨ s.holdBroken = true ∨ ∃ c < 24, s.holdCounted.verifyFails c = true

/-- A second of holdover that goes on: FOFF by the model, and the temperature integral of R230. -/
def State.holdSecond : State :=
  let v := s.holdCounted.setFoff0 (s.rsh.holdF + s.rsh.holdA * Int.ofNat (s.rsh.holdS + 1))
  v.setDom 0 { v.dom 0 with tint := (v.dom 0).tint + ceilDiv (v.thetaQ - s.rsh.holdTh).natAbs 65536 }

theorem exec_holdoverSecondTick_ends {s : State} (hhold : (s.dom 0).hold = true) (h : s.holdEnds) :
    exec .holdoverSecondTick s = .next s.holdCounted.enterFreerun := by
  have hany : s.get F.rshHoldCfg_HOLD_MAX_S ≤ s.rsh.holdS + 1 ∨ s.holdBroken = true ∨
      (List.range 24).any (fun c => s.holdCounted.verifyFails c) = true := by simpa [State.holdEnds] using h
  rw [exec_holdoverSecondTick, execHoldoverSecondTick, if_neg (by simp [hhold])]
  exact congrArg _ (if_pos hany)

theorem exec_holdoverSecondTick_goesOn {s : State} (hhold : (s.dom 0).hold = true) (h : ¬ s.holdEnds) :
    exec .holdoverSecondTick s = .next s.holdSecond := by
  have hany : ¬ (s.get F.rshHoldCfg_HOLD_MAX_S ≤ s.rsh.holdS + 1 ∨ s.holdBroken = true ∨
      (List.range 24).any (fun c => s.holdCounted.verifyFails c) = true) := by simpa [State.holdEnds] using h
  rw [exec_holdoverSecondTick, execHoldoverSecondTick, if_neg (by simp [hhold])]
  exact congrArg _ (if_neg hany)

/-- θ is no matter of FOFF. -/
theorem State.setFoff0_thetaQ (f : Int) : (s.setFoff0 f).thetaQ = s.thetaQ := by
  rw [State.thetaQ, State.thetaQ, s.setFoff0_getB f (by decide), s.setFoff0_getI f (by decide), s.setFoff0_getI f (by decide),
    s.setFoff0_getI f (by decide), s.setFoff0_get f (by decide)]

theorem State.holdSecond_dom {s : State} (h : (s.rsh.holdF + s.rsh.holdA * Int.ofNat (s.rsh.holdS + 1)).natAbs ≤ 2 ^ 47 - 1) :
    s.holdSecond.dom 0 = { s.dom 0 with foff := s.rsh.holdF + s.rsh.holdA * Int.ofNat (s.rsh.holdS + 1),
                                        tint := (s.dom 0).tint + ceilDiv (s.thetaQ - s.rsh.holdTh).natAbs 65536 } := by
  rw [State.holdSecond, State.dom_setDom_same, State.setFoff0_dom_of_fits _ h, State.setFoff0_thetaQ]
  rfl

/-- The newest sample of the SELECTED candidate anchors the cross-check (R211). -/
theorem exec_crossCheckAnchor_selected {s : State} {x : Sample} (hx : (s.cand s.sel).smp.getLast? = some x) (hsel : s.sel ≠ cNone)
    (hlearned : s.getB F.rshStat_LEARNED = true) :
    exec .crossCheckAnchor s = .next (s.setRsh { s.rsh with chk := some (anchorAt x) }) := by
  rw [exec_crossCheckAnchor, execCrossCheckAnchor, hx]
  exact congrArg _ (if_pos ⟨hsel, hlearned⟩)

end Sys2Proof.Machine

open Sys2Proof Sys2Proof.Machine

/-- Settles O19: a second of holdover ends it or goes on by the model, and the other two rows change one record each. -/
theorem holdoverRowsComplete : Obligations.HoldoverRowsComplete := by
  refine fun s => ⟨rfl, fun hhold => ⟨exec_holdoverSecondTick_ends hhold, fun hgo hfits => ?_⟩,
    fun x => exec_crossCheckAnchor_selected⟩
  have hdom := State.holdSecond_dom hfits
  refine ⟨_, exec_holdoverSecondTick_goesOn hhold hgo, ?_⟩
  rw [hdom]
  exact ⟨rfl, rfl, hhold, rfl, rfl, rfl⟩
end

section
/-! RULES. Candidates, STEER and the seed of D0: what each operation of RSH leaves (R209, R214, R222, R235). -/
namespace Sys2Proof.Machine

variable (s : State)

theorem regAddr_refStat (c : Nat) : regAddr .refStat c 0 = 0x401008 + 0x40 * c := rfl
theorem regAddr_rshStat : regAddr .rshStat 0 0 = 0x400008 := rfl

/-! ### FORCED and LOCKOUT (R214, R248) -/

theorem State.getB_putB_index (f : Field) (b : Bool) (i j : Nat) (hs : 0 < (regInfo f.reg).si) (hf : f.hi < 64) (hl : f.lo = f.hi) :
    (s.putB f b i).getB f j = if j = i then b else s.getB f j := by
  split
  case isTrue h => rw [h, State.getB_putB_same _ _ _ _ _ hf hl]
  case isFalse h => rw [State.putB, State.getB, State.get_put_index_ne _ _ hs h, State.getB]

/-- No candidate is forced. -/
def State.unforced : State := (List.range 26).foldl (fun s k => s.putB F.refStat_FORCED false k) s

theorem State.getB_foldl_unforce (l : List Nat) (j : Nat) :
    (l.foldl (fun s k => s.putB F.refStat_FORCED false k) s).getB F.refStat_FORCED j = (s.getB F.refStat_FORCED j && decide (j ∉ l)) := by
  induction l generalizing s with
  | nil => simp
  | cons k l ih =>
    rw [List.foldl_cons, ih, State.getB_putB_index _ _ _ _ _ (by decide) (by decide) rfl]
    by_cases h : j = k <;> simp [h]

theorem State.unforced_forced {j : Nat} (hj : j < 26) : s.unforced.getB F.refStat_FORCED j = false := by
  rw [State.unforced, State.getB_foldl_unforce]
  simp [hj]

/-- What REF_FORCE leaves: one candidate is forced, or none. -/
def State.forcedTo (k : Nat) : State := if k = cNone then s.unforced else s.unforced.putB F.refStat_FORCED true k

theorem State.forcedTo_forced {k j : Nat} (hj : j < 26) : (s.forcedTo k).getB F.refStat_FORCED j = decide (j = k) := by
  unfold State.forcedTo
  split
  case isTrue h =>
    have hne : j ≠ k := by rw [h, show cNone = 31 from rfl]; omega
    rw [s.unforced_forced hj]
    simp [hne]
  case isFalse =>
    rw [State.getB_putB_index _ _ _ _ _ (by decide) (by decide) rfl, s.unforced_forced hj]
    by_cases h : j = k <;> simp [h]

/-! ### Disqualification (R209) -/

/-- REFc_STAT of a candidate that is disqualified. -/
theorem State.disqualify_refStat (c : Nat) : (s.disqualify c).rd .refStat c =
    ((((s.put F.refStat_STATE 0 c).put F.refStat_QUAL_LEFT 0 c).putB F.refStat_FORCED false c).putB F.refStat_DISAGREE false c).rd
      .refStat c := by
  have hne : regAddr .refStat c 0 ≠ regAddr .rshStat 0 0 := by
    rw [regAddr_refStat, regAddr_rshStat]
    omega
  unfold State.disqualify
  dsimp only
  split
  · exact State.rd_wr_ne _ _ _ _ _ _ _ _ hne
  · rfl

theorem State.disqualify_refState (c : Nat) : (s.disqualify c).refState c = 0 := by
  rw [State.refState, State.get_of_rd (f := F.refStat_STATE) (s.disqualify_refStat c), State.putB,
    State.get_put_besides _ _ _ _ (by decide), State.putB, State.get_put_besides _ _ _ _ (by decide), State.get_put_besides _ _ _ _ (by decide)]
  exact State.get_put_of_lt _ _ _ (by decide) (by decide) (by decide)

theorem State.disqualify_lockout (c : Nat) : (s.disqualify c).getB F.refStat_LOCKOUT c = s.getB F.refStat_LOCKOUT c := by
  rw [State.getB_of_rd (f := F.refStat_LOCKOUT) (s.disqualify_refStat c), State.putB,
    State.getB_put_besides _ _ _ _ (by decide), State.putB, State.getB_put_besides _ _ _ _ (by decide), State.getB_put_besides _ _ _ _ (by decide), State.getB_put_besides _ _ _ _ (by decide)]

/-- A candidate that is disqualified is not SELECTED. -/
theorem State.disqualify_sel {c : Nat} (h : c ≠ cNone) : (s.disqualify c).sel ≠ c := by
  unfold State.disqualify
  dsimp only
  split
  case isTrue =>
    rw [State.sel, State.setRsh_get, State.get_put_of_lt _ _ _ (by decide) (by decide) (by decide)]
    exact h.symm
  case isFalse hne => exact hne

/-! ### HOLD and STEER (R222, R235) -/

@[simp] theorem State.holdOff_regs : s.holdOff.regs = s.regs := by
  unfold State.holdOff
  split <;> rfl

theorem State.holdOff_dom : s.holdOff.dom 0 = { s.dom 0 with hold := false } := by
  unfold State.holdOff
  split
  case isTrue => exact s.dom_setDom_same 0 _
  case isFalse h => rw [← Bool.eq_false_of_not_eq_true h]

/-- D0 with no source: a STEER link in front, and BC_SRC UNBOUNDED. -/
def steerUnbound (d : Dom) : Dom := { pushLink d 6 0 with bcSrc := Config.unb }

theorem State.rshOpen_dom : s.rshOpen.dom 0 =
    if s.sel = cNone then steerUnbound { s.dom 0 with hold := false } else { s.dom 0 with hold := false } := by
  have hsel : s.holdOff.sel = s.sel := State.get_congr s.holdOff_regs _ _ _
  unfold State.rshOpen
  dsimp only [State.setRshState]
  rw [State.put_dom, show (s.holdOff.setRsh { s.holdOff.rsh with cur := s.holdOff.sel }).sel = s.sel from hsel]
  split
  · rw [State.unboundSrc, State.dom_setDom_same, State.push0, State.dom_setDom_same, State.setRsh_dom, s.holdOff_dom]
    rfl
  · exact s.holdOff_dom

/-- RSH_STAT.STATE is all that STEER's opening writes of the registers. -/
theorem State.rshOpen_regs : s.rshOpen.regs = (s.put F.rshStat_STATE 6).regs := by
  have h : ∀ u : State, u.regs = s.regs → (u.setRshState 6).regs = (s.put F.rshStat_STATE 6).regs := fun u hu => by
    simp only [State.setRshState, State.put, State.wr, State.rd, hu]
  refine h _ ?_
  dsimp only
  split
  · exact s.holdOff_regs
  · exact s.holdOff_regs

theorem State.rshOpen_rshState : s.rshOpen.rshState = 6 := by
  rw [State.rshState, State.get_congr s.rshOpen_regs]
  exact State.get_put_of_lt _ _ _ (by decide) (by decide) (by decide)

theorem State.rshOpen_get {f : Field} (h : f.besides F.rshStat_STATE = true) : s.rshOpen.get f = s.get f := by
  rw [State.get_congr s.rshOpen_regs, State.get_put_besides _ _ _ _ h]

theorem State.rshOpen_partBits : s.rshOpen.partBits = s.partBits :=
  (State.partBits_congr s.rshOpen_regs).trans (s.partBits_put _ _ _ _ (.inr (by decide)))

/-! ### The seed of D0 (R61, R222) -/

@[simp] theorem State.armServo_dom (n : Nat) : s.armServo.dom n = s.dom n := rfl

theorem State.armServo_partBits : s.armServo.partBits = s.partBits :=
  (State.partBits_congr rfl).trans (s.partBits_put F.rshStat_CFG_ERR _ _ _ (.inr (by decide)))

/-- What a seed leaves of D0, which derives from no domain. -/
theorem State.seed0_dom (hk : (s.dom 0).kind = .ref) (t : Int) (issuer : Nat) :
    let d := (s.seed0 t issuer).dom 0
    d.kind = .ref ∧ d.acc = t * Int.ofNat Config.uPerTick ∧ d.unseeded = false ∧ d.bound = Config.unb := by
  have h : (s.seed0 t issuer).dom 0 = (s.setTime 0 t issuer).dom 0 := by
    unfold State.seed0
    dsimp only
    split
    · rw [State.armServo_dom, State.refresh_dom]
      rfl
    · rw [State.refresh_dom]
      rfl
  intro d
  simp only [d, h, State.setTime, State.afterMove_dom, State.dom_setDom_same, hk]
  simp

theorem State.seed0_partBits (t : Int) (issuer : Nat) : (s.seed0 t issuer).partBits = s.partBits := by
  have hmove : (s.setTime 0 t issuer).partBits = s.partBits :=
    (State.partBits_afterMove _ _ _ _ _).trans (State.partBits_congr rfl)
  have hseed : (((s.setTime 0 t issuer).rebase (t - s.ticks 0)).refresh 5).partBits = s.partBits :=
    (State.partBits_refresh _ (by decide) (by decide)).trans ((State.partBits_congr rfl).trans hmove)
  unfold State.seed0
  dsimp only
  split
  · exact (State.armServo_partBits _).trans hseed
  · exact hseed

/-- What RSH_D0_SEED leaves (R222). -/
def State.d0Seeded (c : Caller) (t : TimeVal) : State :=
  let v := if s.rshState = 6 then s else s.rshOpen
  let w := v.seed0 (Int.ofNat (tvTicks t)) (v.cPart c)
  let x := w.setRsh { w.rsh with seedN := 1 }
  x.setDom 0 { x.dom 0 with prov := [{ kind := 8, id := x.cPart c }] }

theorem State.d0Seeded_leaves {c : Caller} {t : TimeVal} (hk : (s.dom 0).kind = .ref) :
    let u := s.d0Seeded c t
    u.ticks 0 = Int.ofNat (tvTicks t) ∧ (u.dom 0).unseeded = false ∧ (u.dom 0).bound = Config.unb ∧
      (u.dom 0).prov = [{ kind := 8, id := s.cPart c }] := by
  intro u
  have hopen : ∀ v, v = (if s.rshState = 6 then s else s.rshOpen) → (v.dom 0).kind = .ref ∧ v.partBits = s.partBits := by
    rintro v rfl
    split
    · exact ⟨hk, rfl⟩
    · refine ⟨?_, s.rshOpen_partBits⟩
      rw [State.rshOpen_dom]
      split <;> exact hk
  obtain ⟨hkind, hpart⟩ := hopen _ rfl
  simp only [u, State.d0Seeded]
  generalize (if s.rshState = 6 then s else s.rshOpen) = v at hkind hpart
  obtain ⟨hk', hacc, hseeded, hbound⟩ := v.seed0_dom hkind (Int.ofNat (tvTicks t)) (v.cPart c)
  have hcaller : (v.seed0 (Int.ofNat (tvTicks t)) (v.cPart c)).cPart c = s.cPart c :=
    State.cPart_of_partBits ((v.seed0_partBits _ _).trans hpart) c
  generalize v.seed0 (Int.ofNat (tvTicks t)) (v.cPart c) = w at hk' hacc hseeded hbound hcaller
  refine ⟨?_, ?_, ?_, ?_⟩
  · rw [State.ticks, State.domU_of_not_derived (by simp [State.dom_setDom_same, hk']), State.dom_setDom_same]
    simp only [State.setRsh_dom, hacc, ticksOfU_mul]
  · rw [State.dom_setDom_same]
    exact hseeded
  · rw [State.dom_setDom_same]
    exact hbound
  · rw [State.dom_setDom_same]
    exact congrArg (fun p => [({ kind := 8, id := p } : Link)]) hcaller

end Sys2Proof.Machine
end

section
/-! RULES. The C-field drive: what a change of CODE_CMD and of CODE_OUT leaves (R239–R242). -/
namespace Sys2Proof.Machine

variable (s : State)

/-- Field g stands apart from what the loop's compensation writes: RSH_SERVO_F, RSH_SERVO_I and SERVO_SAT. -/
def Field.besidesLoop (g : Field) : Bool :=
  decide (regAddr g.reg 0 0 ≠ regAddr .rshServoF 0 0) && g.besides F.rshServoI_VALUE && g.besides F.rshStat_SERVO_SAT

/-- Field g stands apart from what a new CODE_OUT writes. -/
def Field.besidesCode (g : Field) : Bool := g.besidesLoop && g.besides F.aoiCfdStat_CODE_OUT

/-- D0's FOFF and the FOFF that holdover goes by are moved by df, and i by di (R241). -/
def State.compensated (df di : Int) : State :=
  let s := s.setFoff0 ((s.dom 0).foff + df)
  let s := s.setRsh { s.rsh with holdF := s.rsh.holdF + df }
  s.setServoI (s.getI F.rshServoI_VALUE + di)

theorem State.setServoI_get (x : Int) {g : Field} (hI : g.besides F.rshServoI_VALUE = true) (hS : g.besides F.rshStat_SERVO_SAT = true) :
    (s.setServoI x).get g = s.get g := by
  unfold State.setServoI
  exact s.get_servoShown _ _ _ hI hS

theorem State.compensated_get (df di : Int) {g : Field} (h : g.besidesLoop = true) : (s.compensated df di).get g = s.get g := by
  simp only [Field.besidesLoop, Bool.and_eq_true, decide_eq_true_eq] at h
  obtain ⟨⟨hF, hI⟩, hS⟩ := h
  rw [State.compensated, State.setServoI_get _ _ hI hS, State.setRsh_get, s.setFoff0_get _ hF]

theorem State.compensated_foff (df di : Int) : ((s.compensated df di).dom 0).foff =
    clampInt (-(2 ^ 47 - 1)) (2 ^ 47 - 1) ((s.dom 0).foff + df) := by
  rw [State.compensated, State.dom_of_tse State.setServoI_tse, State.setRsh_dom, s.setFoff0_foff]

/-- What a change of CODE_OUT by dc moves FOFF by (R241). -/
def State.codeFoff (dc : Int) : Int := -(roundDiv (s.getI F.aoiCfdGain_GAIN * dc) 256)

/-- What a change of CODE_OUT by dc moves i by (R241). -/
def State.codeServo (dc : Int) : Int := -(roundDiv (s.getI F.aoiCfdGain_GAIN * dc * 1000000000) 4294967296)

theorem State.setCodeOut_eq (v : Nat) : s.setCodeOut v =
    if v = s.get F.aoiCfdStat_CODE_OUT then s
    else (s.put F.aoiCfdStat_CODE_OUT v).compensated (s.codeFoff (Int.ofNat v - Int.ofNat (s.get F.aoiCfdStat_CODE_OUT)))
      (s.codeServo (Int.ofNat v - Int.ofNat (s.get F.aoiCfdStat_CODE_OUT))) := by
  have hdc : Int.ofNat v - Int.ofNat (s.get F.aoiCfdStat_CODE_OUT) = 0 ↔ v = s.get F.aoiCfdStat_CODE_OUT := by
    simp only [Int.ofNat_eq_natCast]
    omega
  unfold State.setCodeOut
  by_cases h : v = s.get F.aoiCfdStat_CODE_OUT
  · rw [if_pos h]
    exact if_pos (hdc.2 h)
  · rw [if_neg h]
    exact if_neg (mt hdc.1 h)

theorem State.setCodeOut_codeOut {v : Nat} (hv : v < 2 ^ 24) : (s.setCodeOut v).get F.aoiCfdStat_CODE_OUT = v := by
  rw [State.setCodeOut_eq]
  split
  case isTrue h => exact h.symm
  case isFalse =>
    rw [State.compensated_get _ _ _ (by decide)]
    exact State.get_put_of_lt _ _ _ (by decide) (by decide) hv

theorem State.setCodeOut_get (v : Nat) {g : Field} (h : g.besidesCode = true) : (s.setCodeOut v).get g = s.get g := by
  simp only [Field.besidesCode, Bool.and_eq_true] at h
  obtain ⟨hloop, hcode⟩ := h
  rw [State.setCodeOut_eq]
  split
  · rfl
  · rw [State.compensated_get _ _ _ hloop, State.get_put_besides _ _ _ _ hcode]

/-- The compensation of D0's FOFF (R241). -/
theorem State.setCodeOut_foff (v : Nat) : ((s.setCodeOut v).dom 0).foff =
    if v = s.get F.aoiCfdStat_CODE_OUT then (s.dom 0).foff else
      clampInt (-(2 ^ 47 - 1)) (2 ^ 47 - 1) ((s.dom 0).foff -
        roundDiv (s.getI F.aoiCfdGain_GAIN * (Int.ofNat v - Int.ofNat (s.get F.aoiCfdStat_CODE_OUT))) 256) := by
  rw [State.setCodeOut_eq]
  split
  · rfl
  · rw [State.compensated_foff, State.put_dom, State.codeFoff, ← sub_eq_add_neg]

/-- CFD delivers some code, or leaves everything as it is. -/
theorem State.cfdDeliver_cases : s.cfdDeliver = s ∨ ∃ v, s.cfdDeliver = s.setCodeOut v := by
  unfold State.cfdDeliver
  split
  case isTrue => exact .inl rfl
  case isFalse =>
    dsimp only
    split
    · exact .inr ⟨_, rfl⟩
    · exact .inr ⟨_, rfl⟩

theorem State.cfdDeliver_get {g : Field} (h : g.besidesCode = true) : s.cfdDeliver.get g = s.get g := by
  obtain he | ⟨v, he⟩ := s.cfdDeliver_cases
  · rw [he]
  · rw [he, s.setCodeOut_get v h]

theorem State.cfdDeliver_off {s : State} (h : s.getB F.aoiCfdCtl_CFD_EN = false) : s.cfdDeliver = s := if_pos (by simp [h])

theorem State.cfdDeliver_on {s : State} (hon : s.getB F.aoiCfdCtl_CFD_EN = true) (hsat : s.getB F.aoiCfdStat_CFD_SAT = false) :
    s.cfdDeliver = s.setCodeOut (s.get F.aoiCfdCtl_CODE_CMD) := by
  unfold State.cfdDeliver
  rw [if_neg (by simp [hon])]
  exact if_neg (by simp [hsat])

/-! ### CODE_CMD -/

/-- CODE_CMD is held to its 24 bits. -/
theorem State.get_put_codeCmd (v : Int) :
    (s.put F.aoiCfdCtl_CODE_CMD (clampInt 0 16777215 v).toNat).get F.aoiCfdCtl_CODE_CMD = (clampInt 0 16777215 v).toNat := by
  have h := clampInt_bounds (lo := 0) (hi := 16777215) (by decide) v
  exact State.get_put_of_lt _ _ _ (by decide) (by decide) (by simp only; omega)

theorem State.setCodeCmd_codeCmd (v : Int) : (s.setCodeCmd v).get F.aoiCfdCtl_CODE_CMD = (clampInt 0 16777215 v).toNat := by
  rw [State.setCodeCmd, State.cfdDeliver_get _ (by decide), s.get_put_codeCmd]

/-- With CFD_EN clear CFD holds its current (R239). -/
theorem State.setCodeCmd_codeOut_off (h : s.getB F.aoiCfdCtl_CFD_EN = false) (v : Int) :
    (s.setCodeCmd v).get F.aoiCfdStat_CODE_OUT = s.get F.aoiCfdStat_CODE_OUT := by
  rw [State.setCodeCmd, State.cfdDeliver_off (by rwa [State.getB_put_besides _ _ _ _ (by decide)]),
    State.get_put_besides _ _ _ _ (by decide)]

/-- With CFD_EN set and CFD_SAT clear CFD delivers what is commanded (R239, R240). -/
theorem State.setCodeCmd_codeOut_on (hon : s.getB F.aoiCfdCtl_CFD_EN = true) (hsat : s.getB F.aoiCfdStat_CFD_SAT = false) (v : Int) :
    (s.setCodeCmd v).get F.aoiCfdStat_CODE_OUT = (clampInt 0 16777215 v).toNat := by
  have h := clampInt_bounds (lo := 0) (hi := 16777215) (by decide) v
  rw [State.setCodeCmd, State.cfdDeliver_on (by rwa [State.getB_put_besides _ _ _ _ (by decide)])
    (by rwa [State.getB_put_besides _ _ _ _ (by decide)]), s.get_put_codeCmd]
  exact State.setCodeOut_codeOut _ (by omega)

end Sys2Proof.Machine
end

section
/-! PROOF. The RSH commands complete: what each leaves (R209, R214, R222, R235, R248, R249, R252). -/
namespace Sys2Proof.Machine

variable {s : State} {c : Caller}

/-! ### The checks -/

/-- A command of RSH that its own rule does not refuse, and whose checks all pass. -/
theorem State.runRsh_ok_of_admits {op : Nat} {b : Bool} (ha : s.admits op = true) (hb : b = true) (eff : State) (c : Caller)
    {l : List (Bool × Status)} (hf : firstFail l = none) (r : List Byte) :
    s.runRsh c op b l eff r = eff.complete c op .ok r := by
  rw [State.runRsh, if_neg (by simp [hb]), State.runCmd_ok_of_admits ha _ c hf]

theorem exec_refForce_ok {k : Nat} (ha : s.admitsOwner c 0x40 = true)
    (hk : k = cNone ∨ k < 26 ∧ 2 ≤ s.refState k ∧ s.getB F.refStat_FREQ_ONLY k = false) :
    exec (.refForce c k) s = .next ((s.forcedTo k).complete c 0x40 .ok) := by
  obtain ⟨hadm, hown⟩ := (s.admitsOwner_iff c 0x40).1 ha
  rw [exec_refForce, execRefForce, State.runCmd_ok_of_admits hadm _ c (firstFail_eq_none ?_)]
  · rfl
  simp only [List.forall_mem_cons, List.not_mem_nil, false_imp_iff, implies_true, and_true]
  refine ⟨notOwner_pass hown, ?_⟩
  obtain rfl | ⟨hlt, hstate, hfreq⟩ := hk
  · simp
  · simp [candCode, hlt, hfreq, Nat.not_lt.2 hstate]

/-- LOCKOUT disqualifies a candidate that is not DISQUALIFIED (R209, R248). -/
theorem exec_refLockout_ok {k on : Nat} (ha : s.admitsOwner c 0x41 = true) (hk : k < 26) (hon : on < 2) :
    exec (.refLockout c k on) s = .next ((if on = 1 ∧ s.refState k ≠ 0 then
      ((s.putB F.refStat_LOCKOUT (on == 1) k).disqualify k).refresh 16 else s.putB F.refStat_LOCKOUT (on == 1) k).complete c 0x41 .ok) := by
  obtain ⟨hadm, hown⟩ := (s.admitsOwner_iff c 0x41).1 ha
  have hstate : (s.putB F.refStat_LOCKOUT (on == 1) k).refState k = s.refState k := State.get_put_besides _ _ _ _ (by decide)
  rw [exec_refLockout, execRefLockout, State.runCmd_ok_of_admits hadm _ c (firstFail_eq_none ?_)]
  · dsimp only
    rw [hstate]
  simp only [List.forall_mem_cons, List.not_mem_nil, false_imp_iff, implies_true, and_true]
  exact ⟨notOwner_pass hown, by simp [candCode, hk]; omega⟩

theorem exec_rshOpen_ok (ha : s.admitsOwner c 0x42 = true) (h : s.mode ≠ .steer ∨ s.rshState ≠ 6) :
    exec (.rshOpen c) s = .next (s.rshOpen.complete c 0x42 .ok) := by
  obtain ⟨hadm, hown⟩ := (s.admitsOwner_iff c 0x42).1 ha
  rw [exec_rshOpen, execRshOpen, State.runRsh_ok_of_admits hadm (by simpa using h) _ c (firstFail_eq_none (by simp [notOwner_pass hown]))]

theorem exec_rshClose_ok (ha : s.admitsOwner c 0x43 = true) (h : s.rshState = 6) :
    exec (.rshClose c) s = .next (s.closeLoop.complete c 0x43 .ok) := by
  obtain ⟨hadm, hown⟩ := (s.admitsOwner_iff c 0x43).1 ha
  rw [exec_rshClose, execRshClose, State.runRsh_ok_of_admits hadm (by simpa using h) _ c (firstFail_eq_none (by simp [notOwner_pass hown]))]

theorem exec_steerFreq_ok {foff : Int} (ha : s.admitsOwner c 0x44 = true) (h : s.rshState = 6) (hf : foff.natAbs ≤ 2 ^ 47 - 1) :
    exec (.steerFreq c foff) s = .next ((s.setFoff0 foff).complete c 0x44 .ok) := by
  obtain ⟨hadm, hown⟩ := (s.admitsOwner_iff c 0x44).1 ha
  rw [exec_steerFreq, execSteerFreq, State.runRsh_ok_of_admits hadm (by simpa using h) _ c (firstFail_eq_none ?_)]
  simp only [List.forall_mem_cons, List.not_mem_nil, false_imp_iff, implies_true, and_true]
  exact ⟨notOwner_pass hown, by simpa using hf⟩

theorem exec_steerPhase_ok {ticks : Int} {unc slewMax : Nat} (ha : s.admitsOwner c 0x45 = true) (h : s.rshState = 6)
    (ht : fits64 ticks = true) (hu : unc < 2 ^ 64) (hm : slewMax + (s.dom 0).foff.natAbs ≤ 2 ^ 47 - 1) :
    exec (.steerPhase c ticks unc slewMax) s =
      .next ((s.setDom 0 (bookSlew (s.dom 0) ticks unc slewMax)).complete c 0x45 .ok) := by
  obtain ⟨hadm, hown⟩ := (s.admitsOwner_iff c 0x45).1 ha
  rw [exec_steerPhase, execSteerPhase, State.runRsh_ok_of_admits hadm (by simpa using h) _ c (firstFail_eq_none ?_)]
  simp only [List.forall_mem_cons, List.not_mem_nil, false_imp_iff, implies_true, and_true]
  exact ⟨notOwner_pass hown, by simpa [ht] using hu, by simpa using hm⟩

theorem exec_rshD0Seed_ok {t : TimeVal} {bound : Nat} (ha : s.admitsOwner c 0x46 = true) (ht : tvOk t = true) (hb : bound < 2 ^ 64) :
    exec (.rshD0Seed c t bound) s = .next ((s.d0Seeded c t).complete c 0x46 .ok) := by
  obtain ⟨hadm, hown⟩ := (s.admitsOwner_iff c 0x46).1 ha
  rw [exec_rshD0Seed, execRshD0Seed, State.runCmd_ok_of_admits hadm _ c (firstFail_eq_none ?_)]
  · rfl
  simp only [List.forall_mem_cons, List.not_mem_nil, false_imp_iff, implies_true, and_true]
  exact ⟨notOwner_pass hown, by simpa [ht] using hb⟩

theorem exec_aoiSteer_ok {on : Nat} (ha : s.admitsOwner c 0x47 = true) (hon : on < 2) (haoi : s.aoiOn = true)
    (h : on = 0 ∨ s.getB F.aoiCfdStat_CFD_SAT = false) :
    exec (.aoiSteer c on) s = .next ((s.putB F.aoiCfdCtl_STEER (on == 1)).complete c 0x47 .ok) := by
  obtain ⟨hadm, hown⟩ := (s.admitsOwner_iff c 0x47).1 ha
  have hallowed : (on != 1 || !s.getB F.aoiCfdStat_CFD_SAT) = true := by
    obtain rfl | h := h
    · rfl
    · simp [h]
  rw [exec_aoiSteer, execAoiSteer, State.runRsh_ok_of_admits hadm hallowed _ c (firstFail_eq_none ?_)]
  simp only [List.forall_mem_cons, List.not_mem_nil, false_imp_iff, implies_true, and_true]
  exact ⟨notOwner_pass hown, by simp [haoi]; omega⟩

theorem exec_aoiCfdSet_ok {code : Nat} (ha : s.admitsOwner c 0x48 = true) (hcode : code < 2 ^ 24) (haoi : s.aoiOn = true)
    (hsteer : s.getB F.aoiCfdCtl_STEER = false) :
    exec (.aoiCfdSet c code) s = .next ((s.setCodeCmd (Int.ofNat code)).complete c 0x48 .ok) := by
  obtain ⟨hadm, hown⟩ := (s.admitsOwner_iff c 0x48).1 ha
  rw [exec_aoiCfdSet, execAoiCfdSet, State.runCmd_ok_of_admits hadm _ c (firstFail_eq_none ?_)]
  simp only [List.forall_mem_cons, List.not_mem_nil, false_imp_iff, implies_true, and_true]
  exact ⟨notOwner_pass hown, by simpa [haoi] using hcode, hsteer⟩

/-- A calibration of the C-field gain begins with its first step (R250). -/
def State.gainBegun (s : State) (step : Int) : State :=
  let v := s.setCodeCmd (Int.ofNat (s.get F.aoiCfdCtl_CODE_CMD) + step)
  v.setRsh { v.rsh with gain := some { step := step, second := false, i0 := v.getI F.rshServoI_VALUE, di := 0 } }

theorem exec_cfdGainCal_ok {step : Int} (ha : s.admitsOwner c 0x49 = true) (hz : step ≠ 0)
    (hlo : 0 ≤ s.get F.aoiCfdCtl_CODE_CMD + step) (hhi : s.get F.aoiCfdCtl_CODE_CMD + step < 2 ^ 24) (hg : s.rsh.gain = none) :
    exec (.cfdGainCal c step) s = .next ((s.gainBegun step).complete c 0x49 .ok) := by
  obtain ⟨hadm, hown⟩ := (s.admitsOwner_iff c 0x49).1 ha
  rw [exec_cfdGainCal, execCfdGainCal]
  dsimp only
  rw [State.runCmd_ok_of_admits hadm _ c (firstFail_eq_none ?_)]
  · rfl
  simp only [List.forall_mem_cons, List.not_mem_nil, false_imp_iff, implies_true, and_true]
  refine ⟨notOwner_pass hown, ?_, by simp [hg]⟩
  simp [hz]
  omega

end Sys2Proof.Machine

open Sys2Proof Sys2Proof.Machine

/-- Settles O16, command by command: its checks pass, and what its effect leaves. -/
theorem rshCommandsComplete : Obligations.RshCommandsComplete := by
  intro s c
  refine ⟨fun k ha hk => ⟨_, exec_refForce_ok ha hk, fun j => s.forcedTo_forced⟩, ?lockout, ?opened, exec_rshClose_ok,
    fun foff ha h hf => ?freq, fun ticks unc slewMax ha h ht hu hm => ?phase, fun t bound ha ht hb hk => ?seed,
    fun on => exec_aoiSteer_ok, ?code, ?gain⟩
  case lockout =>
    intro k on ha hk hon
    have hexec := exec_refLockout_ok ha hk hon
    have hlock : (s.putB F.refStat_LOCKOUT (on == 1) k).getB F.refStat_LOCKOUT k = (on == 1) :=
      State.getB_putB_same _ _ _ _ _ (by decide) rfl
    by_cases h : on = 1 ∧ s.refState k ≠ 0
    · rw [if_pos h] at hexec
      have hne : k ≠ cNone := by rw [show cNone = 31 from rfl]; omega
      exact ⟨_, (State.disqualify_lockout _ k).trans hlock, fun h0 => by omega,
        fun _ _ => ⟨hexec, State.disqualify_refState _ k, State.disqualify_sel _ hne⟩⟩
    · rw [if_neg h] at hexec
      exact ⟨_, hlock, fun _ => ⟨hexec, State.get_put_besides _ _ _ _ (by decide)⟩, fun h1 h0 => absurd ⟨h1, h0⟩ h⟩
  case opened =>
    intro ha h
    have hdom := s.rshOpen_dom
    refine ⟨_, exec_rshOpen_ok ha h, s.rshOpen_rshState, ?_, s.rshOpen_get (by decide), ?_, ?_, fun hsel => ?_⟩
    · rw [hdom]
      split <;> rfl
    · rw [State.getI, s.rshOpen_get (by decide), State.getI]
    · rw [hdom]
      split <;> rfl
    · rw [hdom, if_pos hsel]
      exact ⟨rfl, _, rfl⟩
  case freq =>
    have hdom := s.setFoff0_dom_of_fits hf
    refine ⟨_, exec_steerFreq_ok ha h hf, ?_⟩
    rw [hdom]
    exact ⟨rfl, rfl, rfl⟩
  case phase =>
    refine ⟨_, exec_steerPhase_ok ha h ht hu hm, rfl, ?_⟩
    rw [State.dom_setDom_same]
    exact ⟨rfl, rfl, rfl, rfl⟩
  case seed => exact ⟨_, exec_rshD0Seed_ok ha ht hb, s.d0Seeded_leaves hk⟩
  case code =>
    intro code ha hcode haoi hsteer
    have hclamp : (clampInt 0 16777215 (Int.ofNat code)).toNat = code := by
      rw [clampInt_of_mem (by simp) (by simp only [Int.ofNat_eq_natCast]; omega)]
      rfl
    refine ⟨_, exec_aoiCfdSet_ok ha hcode haoi hsteer, ?_, fun hon hsat => ?_, fun hoff => s.setCodeCmd_codeOut_off hoff _⟩
    · rw [State.setCodeCmd_codeCmd, hclamp]
    · rw [s.setCodeCmd_codeOut_on hon hsat, hclamp]
  case gain =>
    intro step ha hz hlo hhi hg
    refine ⟨_, _, exec_cfdGainCal_ok ha hz hlo hhi hg, rfl, rfl, rfl, ?_⟩
    rw [State.gainBegun, State.setRsh_get, State.setCodeCmd_codeCmd, Int.ofNat_eq_natCast, clampInt_of_mem hlo (by omega),
      Int.toNat_of_nonneg hlo]
end

section
/-! PROOF. The compliance monitor of the C-field drive (R240, R241, R243). -/
namespace Sys2Proof.Machine

variable (s : State) (vloop vcfd imeas : Nat)

/-! ### The sample -/

/-- The registers that show a sample of the compliance (R240). -/
def State.cfdSampled : State :=
  (((s.put F.aoiCfdStat_VLOOP_MV vloop).put F.aoiCfdStat_VCFD_MV vcfd).put F.aoiCfdLoad_IMEAS_UA imeas).put F.aoiCfdLoad_RLOAD
    (if 1000 ≤ imeas then vcfd * 1000 / imeas else
      (((s.put F.aoiCfdStat_VLOOP_MV vloop).put F.aoiCfdStat_VCFD_MV vcfd).put F.aoiCfdLoad_IMEAS_UA imeas).get F.aoiCfdLoad_RLOAD_INIT)

/-- Field g stands apart from what a sample of the compliance writes. -/
def Field.besidesSample (g : Field) : Bool :=
  g.besides F.aoiCfdStat_VLOOP_MV && g.besides F.aoiCfdStat_VCFD_MV && g.besides F.aoiCfdLoad_IMEAS_UA && g.besides F.aoiCfdLoad_RLOAD

theorem State.cfdSampled_get {g : Field} (h : g.besidesSample = true) : (s.cfdSampled vloop vcfd imeas).get g = s.get g := by
  simp only [Field.besidesSample, Bool.and_eq_true] at h
  obtain ⟨⟨⟨hloop, hcfd⟩, hmeas⟩, hload⟩ := h
  rw [State.cfdSampled, State.get_put_besides _ _ _ _ hload, State.get_put_besides _ _ _ _ hmeas, State.get_put_besides _ _ _ _ hcfd,
    State.get_put_besides _ _ _ _ hloop]

theorem State.cfdSampled_getB {g : Field} (h : g.besidesSample = true) : (s.cfdSampled vloop vcfd imeas).getB g = s.getB g := by
  rw [State.getB, State.cfdSampled_get _ _ _ _ h, State.getB]

theorem State.cfdSampled_getI {g : Field} (h : g.besidesSample = true) : (s.cfdSampled vloop vcfd imeas).getI g = s.getI g := by
  rw [State.getI, State.cfdSampled_get _ _ _ _ h, State.getI]

/-- The registers show what was sampled. -/
def State.ShowsSample (u : State) (vloop vcfd imeas : Nat) : Prop :=
  u.get F.aoiCfdStat_VLOOP_MV = vloop ∧ u.get F.aoiCfdStat_VCFD_MV = vcfd ∧ u.get F.aoiCfdLoad_IMEAS_UA = imeas

variable {vloop vcfd imeas}

theorem State.cfdSampled_shows (hloop : vloop < 2 ^ 16) (hcfd : vcfd < 2 ^ 16) (hmeas : imeas < 2 ^ 16) :
    (s.cfdSampled vloop vcfd imeas).ShowsSample vloop vcfd imeas := by
  refine ⟨?_, ?_, ?_⟩
  · rw [State.cfdSampled, State.get_put_besides _ _ _ _ (by decide), State.get_put_besides _ _ _ _ (by decide),
      State.get_put_besides _ _ _ _ (by decide)]
    exact State.get_put_of_lt _ _ _ (by decide) (by decide) hloop
  · rw [State.cfdSampled, State.get_put_besides _ _ _ _ (by decide), State.get_put_besides _ _ _ _ (by decide)]
    exact State.get_put_of_lt _ _ _ (by decide) (by decide) hcfd
  · rw [State.cfdSampled, State.get_put_besides _ _ _ _ (by decide)]
    exact State.get_put_of_lt _ _ _ (by decide) (by decide) hmeas

/-- The load in ohms that a sample gives: V_CFD over I_meas, in mV and µA, from 1 mA on; else RLOAD_INIT (R240). -/
def State.cfdLoadOf (vcfd imeas : Nat) : ℚ := if 1000 ≤ imeas then 1000 * vcfd / imeas else s.get F.aoiCfdLoad_RLOAD_INIT

/-- The highest code that a sample allows: 25 mA are full scale (R240). -/
def State.cfdMax (vloop vcfd imeas : Nat) : Nat :=
  ⌊((vloop - s.get F.aoiCfdLim_HR_MV : Nat) : ℚ) / s.cfdLoadOf vcfd imeas * (2 ^ 24 / 25)⌋₊

theorem State.cfdSampled_cfdLimit (hloop : vloop < 2 ^ 16) (hcfd : vcfd < 2 ^ 16) (hmeas : imeas < 2 ^ 16)
    (hpos : 0 < s.cfdLoadOf vcfd imeas) : (s.cfdSampled vloop vcfd imeas).cfdLimit = some (s.cfdMax vloop vcfd imeas) := by
  obtain ⟨h1, h2, h3⟩ := s.cfdSampled_shows hloop hcfd hmeas
  simp only [State.cfdLimit, h1, h2, h3, State.cfdSampled_get _ _ _ _ (show F.aoiCfdLim_HR_MV.besidesSample = true by decide),
    State.cfdSampled_get _ _ _ _ (show F.aoiCfdLoad_RLOAD_INIT.besidesSample = true by decide), State.cfdMax]
  generalize vloop - s.get F.aoiCfdLim_HR_MV = head
  unfold State.cfdLoadOf at hpos ⊢
  by_cases hbig : 1000 ≤ imeas
  · rw [if_pos hbig] at hpos ⊢
    have hv : vcfd ≠ 0 := by
      rintro rfl
      simp at hpos
    rw [if_pos hbig, if_neg hv, ← Nat.floor_div_eq_div (K := ℚ)]
    congr 2
    have hi : (imeas : ℚ) ≠ 0 := by exact_mod_cast (by omega : imeas ≠ 0)
    have hv' : (vcfd : ℚ) ≠ 0 := by exact_mod_cast hv
    push_cast
    field_simp
    ring
  · rw [if_neg hbig] at hpos ⊢
    have hr : s.get F.aoiCfdLoad_RLOAD_INIT ≠ 0 := by exact_mod_cast hpos.ne'
    have hr' : (s.get F.aoiCfdLoad_RLOAD_INIT : ℚ) ≠ 0 := hpos.ne'
    rw [if_neg hbig, if_neg hr, ← Nat.floor_div_eq_div (K := ℚ)]
    congr 2
    push_cast
    field_simp
    norm_num

/-! ### The judgement -/

/-- CFD delivers a code, where it is enabled (R239). -/
def State.cfdFollow (v : Nat) : State := if s.getB F.aoiCfdCtl_CFD_EN then s.setCodeOut v else s

/-- What a sample that does not allow CODE_CMD leaves, but for a calibration that it ends: the output is clamped at m, CFD_SAT is set and
STEER cleared (R240, R243). -/
def State.cfdClamped (m : Nat) : State :=
  let s := s.cfdFollow m
  let s := s.setRsh { s.rsh with satClear := 0 }
  ((s.putB F.aoiCfdStat_CFD_SAT true).putB F.aoiCfdCtl_STEER false).raiseDfuSat

/-- The n-th sample in a row of which CODE_CMD lies 1% below the limit, one every 100 µs: CFD_SAT clears after 1 s (R240). -/
def State.cfdHealed (n : Nat) : State :=
  if 10000 ≤ n then ((s.setRsh { s.rsh with satClear := 0 }).putB F.aoiCfdStat_CFD_SAT false).refresh 17
  else s.setRsh { s.rsh with satClear := n }

/-- What a sample that allows CODE_CMD leaves while CFD_SAT is set (R240). -/
def State.cfdHealing : State :=
  let v := (s.cfdFollow (s.get F.aoiCfdCtl_CODE_CMD)).gainAbort 3
  v.cfdHealed (if s.cfdLimit.all (decide <| s.get F.aoiCfdCtl_CODE_CMD * 100 ≤ 99 * ·) then v.rsh.satClear + 1 else 0)

/-- What a sample comes to: it clamps, or CFD_SAT heals, or nothing follows. -/
theorem exec_cfdComplianceSample_on {s : State} (haoi : s.aoiOn = true) : exec (.cfdComplianceSample vloop vcfd imeas) s =
    .next (let v := s.cfdSampled vloop vcfd imeas
      if v.cfdLimit.any (decide <| · < v.get F.aoiCfdCtl_CODE_CMD) then ((v.cfdClamped (v.cfdLimit.getD 0)).gainAbort 3).refresh 17
      else if v.getB F.aoiCfdStat_CFD_SAT then v.cfdHealing else v) := by
  rw [exec_cfdComplianceSample, execCfdComplianceSample, if_neg (by simp [haoi])]
  rfl

theorem State.raiseDfuSat_foff : ((s.raiseDfuSat).dom 0).foff = (s.dom 0).foff := by
  unfold State.raiseDfuSat
  dsimp only
  split
  · rw [State.dom_setDom_same]
  · rfl

@[simp] theorem State.raiseDfuSat_regs : s.raiseDfuSat.regs = s.regs := by
  unfold State.raiseDfuSat
  dsimp only
  split <;> rfl

theorem State.cfdFollow_on {s : State} (h : s.getB F.aoiCfdCtl_CFD_EN = true) (v : Nat) : s.cfdFollow v = s.setCodeOut v := if_pos h

theorem State.cfdFollow_off {s : State} (h : s.getB F.aoiCfdCtl_CFD_EN = false) (v : Nat) : s.cfdFollow v = s := if_neg (by simp [h])

/-- A clamp writes CFD_SAT and STEER besides what CFD delivers. -/
theorem State.cfdClamped_get (m : Nat) {g : Field} (hsat : g.besides F.aoiCfdStat_CFD_SAT = true)
    (hsteer : g.besides F.aoiCfdCtl_STEER = true) : (s.cfdClamped m).get g = (s.cfdFollow m).get g := by
  rw [State.cfdClamped, State.get_congr (State.raiseDfuSat_regs _), State.putB, State.get_put_besides _ _ _ _ hsteer, State.putB,
    State.get_put_besides _ _ _ _ hsat, State.setRsh_get]

theorem State.cfdHealed_get (n : Nat) {g : Field} (hsat : g.besides F.aoiCfdStat_CFD_SAT = true) (hlow : regAddr g.reg 0 0 < 0xa00000) :
    (s.cfdHealed n).get g = s.get g := by
  unfold State.cfdHealed
  split
  · rw [State.get_refresh _ _ hlow, State.putB, State.get_put_besides _ _ _ _ hsat, State.setRsh_get]
  · rw [State.setRsh_get]

theorem State.cfdClamped_flags (m : Nat) : (s.cfdClamped m).getB F.aoiCfdStat_CFD_SAT = true ∧
    (s.cfdClamped m).getB F.aoiCfdCtl_STEER = false := by
  rw [State.cfdClamped, State.getB_congr (State.raiseDfuSat_regs _), State.getB_congr (State.raiseDfuSat_regs _)]
  refine ⟨?_, State.getB_putB_same _ _ _ _ _ (by decide) rfl⟩
  rw [State.putB, State.getB_put_besides _ _ _ _ (by decide)]
  exact State.getB_putB_same _ _ _ _ _ (by decide) rfl

theorem State.cfdClamped_foff (m : Nat) : ((s.cfdClamped m).dom 0).foff = ((s.cfdFollow m).dom 0).foff := by
  rw [State.cfdClamped, State.raiseDfuSat_foff, State.putB_dom, State.putB_dom, State.setRsh_dom]

/-- A sample that does not allow CODE_CMD clamps the output, and D0's FOFF is compensated (R240, R241). -/
theorem exec_cfdComplianceSample_clamps {s : State} {m : Nat} (haoi : s.aoiOn = true)
    (hlim : (s.cfdSampled vloop vcfd imeas).cfdLimit = some m) (hon : s.getB F.aoiCfdCtl_CFD_EN = true)
    (hover : m < s.get F.aoiCfdCtl_CODE_CMD) :
    ∃ u : State, exec (.cfdComplianceSample vloop vcfd imeas) s = .next ((u.gainAbort 3).refresh 17) ∧
      u.get F.aoiCfdStat_CODE_OUT = m ∧ u.getB F.aoiCfdStat_CFD_SAT = true ∧ u.getB F.aoiCfdCtl_STEER = false ∧
      (u.dom 0).foff = if m = s.get F.aoiCfdStat_CODE_OUT then (s.dom 0).foff else
        clampInt (-(2 ^ 47 - 1)) (2 ^ 47 - 1) ((s.dom 0).foff -
          roundDiv (s.getI F.aoiCfdGain_GAIN * (Int.ofNat m - Int.ofNat (s.get F.aoiCfdStat_CODE_OUT))) 256) := by
  have hcmd : s.get F.aoiCfdCtl_CODE_CMD < 2 ^ 24 := bitsOf_lt _ _ _ (by decide) (by decide)
  have hfollow := State.cfdFollow_on (s := s.cfdSampled vloop vcfd imeas) ((s.cfdSampled_getB _ _ _ (by decide)).trans hon) m
  refine ⟨(s.cfdSampled vloop vcfd imeas).cfdClamped m, ?_, ?_, (State.cfdClamped_flags _ m).1, (State.cfdClamped_flags _ m).2, ?_⟩
  · rw [exec_cfdComplianceSample_on haoi]
    dsimp only
    rw [hlim, s.cfdSampled_get _ _ _ (by decide), if_pos (by simpa using hover)]
    rfl
  · rw [State.cfdClamped_get _ _ (by decide) (by decide), hfollow, State.setCodeOut_codeOut _ (hover.trans hcmd)]
  · rw [State.cfdClamped_foff, hfollow, State.setCodeOut_foff, s.cfdSampled_get _ _ _ (by decide), s.cfdSampled_getI _ _ _ (by decide)]
    rfl

/-- A sample that allows CODE_CMD only shows, where CFD_SAT is clear. -/
theorem exec_cfdComplianceSample_allows {s : State} {m : Nat} (haoi : s.aoiOn = true)
    (hlim : (s.cfdSampled vloop vcfd imeas).cfdLimit = some m) (hsat : s.getB F.aoiCfdStat_CFD_SAT = false)
    (hle : s.get F.aoiCfdCtl_CODE_CMD ≤ m) :
    exec (.cfdComplianceSample vloop vcfd imeas) s = .next (s.cfdSampled vloop vcfd imeas) := by
  rw [exec_cfdComplianceSample_on haoi]
  dsimp only
  rw [hlim, s.cfdSampled_get _ _ _ (by decide), s.cfdSampled_getB _ _ _ (by decide), if_neg (by simpa using hle), if_neg (by simp [hsat])]

/-- With CFD_EN clear a sample, whatever it is judged to be, writes CFD_SAT and STEER alone of CFD's registers (R239). -/
theorem exec_cfdComplianceSample_off {s : State} (haoi : s.aoiOn = true) (hoff : s.getB F.aoiCfdCtl_CFD_EN = false) :
    ∃ u : State, exec (.cfdComplianceSample vloop vcfd imeas) s = .next u ∧
      ∀ g : Field, g.besides F.aoiCfdStat_CFD_SAT = true → g.besides F.aoiCfdCtl_STEER = true → regAddr g.reg 0 0 < 0xa00000 →
        u.get g = (s.cfdSampled vloop vcfd imeas).get g := by
  have hv := State.cfdFollow_off (s := s.cfdSampled vloop vcfd imeas) ((s.cfdSampled_getB _ _ _ (by decide)).trans hoff)
  refine ⟨_, exec_cfdComplianceSample_on haoi, fun g hsat hsteer hlow => ?_⟩
  dsimp only
  split
  · rw [State.get_refresh _ _ hlow, State.get_gainAbort _ _ hlow, State.cfdClamped_get _ _ hsat hsteer, hv]
  split
  · rw [State.cfdHealing, hv]
    exact (State.cfdHealed_get _ _ hsat hlow).trans (State.get_gainAbort _ _ hlow)
  · rfl

end Sys2Proof.Machine
end

section
/-! PROOF. The offload, the monitors, the ageing fit and the phases of a gain calibration (R242, R244, R245, R247, R250). -/
namespace Sys2Proof.Machine

variable (s : State)

/-! ### The offload (R242) -/

/-- The step of the offload, limited to ±STEP_MAX. -/
def State.offloadStep : Int :=
  clampInt (-(Int.ofNat (s.get F.aoiCfdLim_STEP_MAX))) (Int.ofNat (s.get F.aoiCfdLim_STEP_MAX))
    (roundDiv (roundDiv (s.getI F.rshServoI_VALUE * 16777216) 1000000000 * Int.ofNat (s.get F.aoiCfdLim_PER_S))
      (Int.ofNat (s.get F.aoiOffload_TAU_S) * s.getI F.aoiCfdGain_GAIN).natAbs)

theorem exec_aoiOffloadStep_locked {s : State} (haoi : s.aoiOn = true) (hsteer : s.getB F.aoiCfdCtl_STEER = true)
    (hlock : s.rshState = 2) (hden : 0 < Int.ofNat (s.get F.aoiOffload_TAU_S) * s.getI F.aoiCfdGain_GAIN) :
    exec .aoiOffloadStep s = .next (s.setCodeCmd (Int.ofNat (s.get F.aoiCfdCtl_CODE_CMD) + s.offloadStep)) := by
  rw [exec_aoiOffloadStep, execAoiOffloadStep, if_neg (by simp [haoi, hsteer, hlock])]
  dsimp only
  rw [if_neg hden.ne', if_neg hden.ne', if_neg hden.not_gt]
  rfl

/-! ### Masks -/

theorem sum_bits_lt (p : Nat → Bool) (n : Nat) : ((List.range n).map fun k => if p k then 2 ^ k else 0).sum < 2 ^ n := by
  induction n with
  | zero => simp
  | succ n ih =>
    simp only [List.range_succ, List.map_append, List.map_cons, List.map_nil, List.sum_append, List.sum_singleton, pow_succ]
    split <;> omega

/-- Bit k of the mask of a predicate. -/
theorem bitOf_sum_bits (p : Nat → Bool) {n k : Nat} (hk : k < n) :
    bitOf ((List.range n).map fun k => if p k then 2 ^ k else 0).sum k = p k := by
  induction n with
  | zero => omega
  | succ n ih =>
    have hlt := sum_bits_lt p n
    simp only [List.range_succ, List.map_append, List.map_cons, List.map_nil, List.sum_append, List.sum_singleton]
    generalize ((List.range n).map fun k => if p k then 2 ^ k else 0).sum = m at ih hlt
    have hclear : m / 2 ^ n = 0 := Nat.div_eq_of_lt hlt
    obtain rfl | hne := eq_or_ne k n
    · cases p k with
      | false => simp [bitOf, hclear]
      | true => simp [bitOf, Nat.add_div_right _ (Nat.two_pow_pos k), hclear]
    · rw [← ih (by omega)]
      cases p n with
      | false => rfl
      | true => rw [bitOf, if_pos rfl, bit_add_two_pow (by rw [hclear]) hne, bitOf]

/-! ### The monitors (R244, R245) -/

theorem regAddr_aoiMon (k : Nat) : regAddr .aoiMon k 0 = 0x402100 + 0x10 * k := rfl
theorem regAddr_aoiMonLim (k : Nat) : regAddr .aoiMonLim k 0 = 0x402108 + 0x10 * k := rfl

/-- The registers show the means of the channels. -/
def State.monShown (codes : List Nat) : State := codes.zipIdx.foldl (fun s e => s.put F.aoiMon_VALUE e.1 e.2) s

theorem State.get_foldl_monShown (codes : List Nat) (n k : Nat) :
    ((codes.zipIdx n).foldl (fun s e => s.put F.aoiMon_VALUE e.1 e.2) s).get F.aoiMon_VALUE k =
      if n ≤ k ∧ k < n + codes.length then codes.getD (k - n) 0 % 2 ^ 16 else s.get F.aoiMon_VALUE k := by
  induction codes generalizing s n with
  | nil => rw [if_neg (by simp)]; rfl
  | cons x codes ih =>
    rw [List.zipIdx_cons, List.foldl_cons, ih]
    simp only [List.length_cons]
    obtain hlt | rfl | hgt := lt_trichotomy k n
    · rw [if_neg (by omega), if_neg (by omega), State.get_put_index_ne _ _ (by decide) hlt.ne]
    · rw [if_neg (by omega), if_pos (by omega), State.get_put_same _ _ _ _ _ (by decide) (by decide), Nat.sub_self]
      rfl
    · rw [State.get_put_index_ne _ _ (by decide) hgt.ne', show k - n = k - (n + 1) + 1 by omega, List.getD_cons_succ]
      exact if_congr (by omega) rfl rfl

theorem State.monShown_value {codes : List Nat} {k : Nat} (hk : k < codes.length) :
    (s.monShown codes).get F.aoiMon_VALUE k = codes.getD k 0 % 2 ^ 16 := by
  rw [State.monShown, State.get_foldl_monShown, if_pos (by omega)]
  rfl

theorem State.monShown_rsh (codes : List Nat) : (s.monShown codes).rsh = s.rsh :=
  foldl_keeps State.rsh (fun (u : State) (e : Nat × Nat) => u.put F.aoiMon_VALUE e.1 e.2) (fun u _ => u.put_rsh _ _ _ _) _ _

theorem State.monShown_lim (codes : List Nat) {f : Field} (hf : f.reg = .aoiMonLim) (k : Nat) :
    (s.monShown codes).get f k = s.get f k :=
  foldl_keeps (fun u : State => u.get f k) _
    (fun u e => u.get_put_ne _ _ _ _ _ _ _ (by rw [hf, regAddr_aoiMonLim, regAddr_aoiMon]; omega)) _ _

/-- Channel k is outside its limits. -/
def State.monOutside (k : Nat) : Bool :=
  decide (s.get F.aoiMon_VALUE k < s.get F.aoiMonLim_LO k ∨ s.get F.aoiMonLim_HI k < s.get F.aoiMon_VALUE k)

/-- The channels outside their limits are noted. -/
def State.monNoted : State := s.setRsh { s.rsh with monBad := ((List.range 4).map fun k => if s.monOutside k then 2 ^ k else 0).sum }

/-- What the judgement of the means leads to: an AOI unlock stops AOI steering and learning, and holdover on the AOI's model (R245). -/
def State.monActed (bad : Bool) : State :=
  if bad then
    let v := (s.putB F.aoiCfdCtl_STEER false).learnReset
    if (v.dom 0).hold && v.modelSet == 0 then v.enterFreerun else v
  else s

theorem State.aoiJudge_eq : s.aoiJudge = (s.monNoted.monActed (bitOf s.monNoted.rsh.monBad 2)).refresh 18 := by
  simp only [State.aoiJudge, State.monNoted, State.monOutside, decide_eq_true_eq]
  rfl

/-- The sums of which the daily means are formed take a second's means (R247). -/
def State.daySummed : State :=
  let r := s.rsh
  let add (k v : Nat) (t : Tab Nat) : Tab Nat := tabSet 0 t k (tabGet 0 t k + v)
  s.setRsh { r with dayN := r.dayN + 1,
                    daySum := add 0 (s.get F.aoiMon_VALUE 0) (add 1 (s.get F.aoiMon_VALUE 1)
                      (add 2 (s.get F.aoiCfdStat_CODE_OUT) r.daySum)) }

theorem exec_aoiMonMean_judged {s : State} {codes : List Nat} (haoi : s.aoiOn = true) (h4 : codes.length = 4) :
    exec (.aoiMonMean codes) s = .next (s.monShown codes).daySummed.aoiJudge := by
  rw [exec_aoiMonMean, execAoiMonMean, if_neg (by simp [haoi, h4])]
  rfl

/-- What a second's means leave before they are acted on. -/
theorem State.monNoted_leaves {codes : List Nat} (h4 : codes.length = 4) :
    let u := (s.monShown codes).daySummed.monNoted
    (∀ k < 4, u.get F.aoiMon_VALUE k = codes.getD k 0 % 2 ^ 16) ∧
      (∀ k < 4, bitOf u.rsh.monBad k = decide (u.get F.aoiMon_VALUE k < s.get F.aoiMonLim_LO k ∨
        s.get F.aoiMonLim_HI k < u.get F.aoiMon_VALUE k)) ∧ u.rsh.dayN = s.rsh.dayN + 1 := by
  refine ⟨fun k hk => s.monShown_value (by omega), fun k hk => ?_, congrArg (fun r : Rsh => r.dayN + 1) (s.monShown_rsh codes)⟩
  refine (bitOf_sum_bits _ hk).trans ?_
  rw [← s.monShown_lim codes (f := F.aoiMonLim_LO) rfl k, ← s.monShown_lim codes (f := F.aoiMonLim_HI) rfl k]
  rfl

/-! ### The ageing fit (R247) -/

/-- A daily mean joins the last 365 of its channel. -/
theorem State.aoiEolFit_rsh (k : Nat) : (s.aoiEolFit k).rsh =
    { s.rsh with days := tabSet [] s.rsh.days k ((tabGet 0 s.rsh.daySum k / s.rsh.dayN :: tabGet [] s.rsh.days k).take 365) } := rfl

/-- The daily means of all channels are formed, and the sums start from zero. -/
def State.eolFitted : State :=
  let v := ((s.aoiEolFit 0).aoiEolFit 1).aoiEolFit 2
  v.setRsh { v.rsh with dayN := 0, daySum := [] }

theorem exec_aoiEolFit_day {s : State} (h : 0 < s.rsh.dayN) : exec .aoiEolFit s = .next (s.eolFitted.refresh 54) := by
  rw [exec_aoiEolFit, execAoiEolFit, if_neg h.ne']
  rfl

theorem State.eolFitted_days {k : Nat} (hk : k < 3) : tabGet [] s.eolFitted.rsh.days k =
    (tabGet 0 s.rsh.daySum k / s.rsh.dayN :: tabGet [] s.rsh.days k).take 365 := by
  simp only [State.eolFitted, State.setRsh_rsh, State.aoiEolFit_rsh]
  obtain rfl | rfl | rfl : k = 0 ∨ k = 1 ∨ k = 2 := by omega
  · rw [tabGet_tabSet_ne _ _ _ (by decide), tabGet_tabSet_ne _ _ _ (by decide), tabGet_tabSet_same]
  · rw [tabGet_tabSet_ne _ _ _ (by decide), tabGet_tabSet_same, tabGet_tabSet_ne _ _ _ (by decide)]
  · rw [tabGet_tabSet_same, tabGet_tabSet_ne _ _ _ (by decide), tabGet_tabSet_ne _ _ _ (by decide)]

/-! ### The phases of a calibration of the gain (R250) -/

/-- The second step begins: the first one's change of i is kept. -/
def State.gainTurned (g : GainCal) : State :=
  let v := s.setCodeCmd (Int.ofNat (s.get F.aoiCfdCtl_CODE_CMD) - g.step)
  v.setRsh { v.rsh with gain := some { g with second := true, i0 := v.getI F.rshServoI_VALUE,
                                              di := s.getI F.rshServoI_VALUE - g.i0 } }

theorem exec_gainCalPhaseEnd_sat {s : State} {g : GainCal} (hg : s.rsh.gain = some g) (hsat : s.getB F.aoiCfdStat_CFD_SAT = true) :
    exec .gainCalPhaseEnd s = .next (s.gainAbort 3) := by
  rw [exec_gainCalPhaseEnd, execGainCalPhaseEnd, hg]
  exact congrArg _ (if_pos hsat)

theorem exec_gainCalPhaseEnd_first {s : State} {g : GainCal} (hg : s.rsh.gain = some g) (hsat : s.getB F.aoiCfdStat_CFD_SAT = false)
    (hfirst : g.second = false) : exec .gainCalPhaseEnd s = .next (s.gainTurned g) := by
  rw [exec_gainCalPhaseEnd, execGainCalPhaseEnd, hg]
  dsimp only
  rw [if_neg (by simp [hsat]), if_pos (by simp [hfirst])]
  rfl

theorem exec_gainCalPhaseEnd_second {s : State} {g : GainCal} (hg : s.rsh.gain = some g) (hsat : s.getB F.aoiCfdStat_CFD_SAT = false)
    (hsecond : g.second = true) : ∃ gain : Int, exec .gainCalPhaseEnd s =
      .next ((s.setRsh { s.rsh with gain := none }).putI F.aoiCfdGain_GAIN gain) := by
  rw [exec_gainCalPhaseEnd, execGainCalPhaseEnd, hg]
  dsimp only
  rw [if_neg (by simp [hsat]), if_neg (by simp [hsecond])]
  exact ⟨_, rfl⟩

end Sys2Proof.Machine

open Sys2Proof Sys2Proof.Machine

/-- Settles O20, row by row: what each branch of a row's meaning leaves of the drive, the monitors and the calibration. -/
theorem aoiRowsComplete : Obligations.AoiRowsComplete := by
  intro s haoi
  refine ⟨?sample, ?off, fun hsteer hlock hden => ⟨_, exec_aoiOffloadStep_locked haoi hsteer hlock hden, natAbs_clampInt_le _ _⟩,
    ?mean, fun h => ⟨_, exec_aoiEolFit_day h, rfl, rfl, fun k => s.eolFitted_days⟩, ?phases⟩
  case sample =>
    intro vloop vcfd imeas hloop hcfd hmeas head load m cmd
    have hlim := fun hpos => s.cfdSampled_cfdLimit hloop hcfd hmeas hpos
    refine ⟨fun hpos hon hover => exec_cfdComplianceSample_clamps haoi (hlim hpos) hon hover, fun hpos _ hle hsat => ?_⟩
    obtain ⟨h1, h2, h3⟩ := s.cfdSampled_shows hloop hcfd hmeas
    exact ⟨_, exec_cfdComplianceSample_allows haoi (hlim hpos) hsat hle, h1, h2, h3, s.cfdSampled_get _ _ _ (by decide)⟩
  case off =>
    intro vloop vcfd imeas hloop hcfd hmeas hoff
    obtain ⟨u, hexec, hkept⟩ := exec_cfdComplianceSample_off (vloop := vloop) (vcfd := vcfd) (imeas := imeas) haoi hoff
    obtain ⟨h1, h2, h3⟩ := s.cfdSampled_shows hloop hcfd hmeas
    refine ⟨u, hexec, ?_, ?_, ?_, ?_⟩
    · rw [hkept _ (by decide) (by decide) (by decide), s.cfdSampled_get _ _ _ (by decide)]
    · rw [hkept _ (by decide) (by decide) (by decide), h1]
    · rw [hkept _ (by decide) (by decide) (by decide), h2]
    · rw [hkept _ (by decide) (by decide) (by decide), h3]
  case mean =>
    intro codes h4
    have hexec := exec_aoiMonMean_judged haoi h4
    rw [State.aoiJudge_eq] at hexec
    obtain ⟨hvalue, hbad, hday⟩ := s.monNoted_leaves h4
    refine ⟨_, hvalue, hbad, hday, fun h => ?_, fun h => ?_⟩
    · rwa [h] at hexec
    · rwa [h] at hexec
  case phases =>
    intro g hg
    refine ⟨exec_gainCalPhaseEnd_sat hg, fun hsat hfirst => ?_, fun hsat hsecond => ?_⟩
    · exact ⟨_, _, exec_gainCalPhaseEnd_first hg hsat hfirst, rfl, rfl, rfl, rfl, State.setCodeCmd_codeCmd _ _⟩
    · obtain ⟨gain, hexec⟩ := exec_gainCalPhaseEnd_second hg hsat hsecond
      exact ⟨_, hexec, rfl⟩
end

section
/-! RULES. SYN's registers and records: what a write of one leaves of the others (R260–R276). -/
namespace Sys2Proof.Machine

/-! ### Registers of an ADPLL and rows of its band memory -/

section Field
variable (s : State) {f g : Field} (v n e : Nat)

/-- A unit's register is not changed by a write to a row that lies above it in the unit's part of the map. -/
theorem State.get_put_row (hs : (regInfo g.reg).si = (regInfo f.reg).si) (hb : (regInfo g.reg).base < (regInfo f.reg).base) :
    (s.put f v n e).get g n = s.get g n := by
  refine s.get_put_ne f g v n e n 0 ?_
  simp only [regAddr, hs]
  omega

/-- A field at a row is not changed by a write of it at another row. -/
theorem State.get_put_row_ne {e' : Nat} (hs : 0 < (regInfo f.reg).sj) (h : e' ≠ e) : (s.put f v n e).get f n e' = s.get f n e' :=
  s.get_put_ne f f v n e n e' fun he => h (Nat.eq_of_mul_eq_mul_left hs (by simpa [regAddr] using he))

end Field

/-! ### Records -/

theorem State.adpll_of_syn {s t : State} (h : s.syn = t.syn) (n : Nat) : s.adpll n = t.adpll n := by rw [State.adpll, State.adpll, h]

section Adpll
variable (s : State) (n : Nat) (a : Adpll) (f : Field) (v i j : Nat)

@[simp] theorem State.setAdpll_get : (s.setAdpll n a).get f i j = s.get f i j := State.get_congr (s.setAdpll_regs n a) f i j
@[simp] theorem State.setAdpll_getB : (s.setAdpll n a).getB f i j = s.getB f i j := State.getB_congr (s.setAdpll_regs n a) f i j
@[simp] theorem State.setAdpll_getI : (s.setAdpll n a).getI f i j = s.getI f i j := State.getI_congr (s.setAdpll_regs n a) f i j
@[simp] theorem State.setAdpll_adpll : (s.setAdpll n a).adpll n = a := tabGet_tabSet_same _ _ _ _
@[simp] theorem State.put_adpll : (s.put f v i j).adpll n = s.adpll n := State.adpll_of_syn (s.put_syn f v i j) n

end Adpll

end Sys2Proof.Machine
end

section
/-! PROOF. The retune of an ADPLL (R260–R263, R265–R268). -/
namespace Sys2Proof.Machine

variable (s : State) (n : Nat)

/-! ### Frequencies in Hz (R260, R261, R265) -/

/-- A count over 250 µs is at most the target. -/
theorem State.count_le_target_iff (count : Nat) :
    (count : ℚ) * 4000 ≤ (s.synTarget n : ℚ) / 2 ^ 24 ↔ ¬ s.synTarget n < count * 4000 * 16777216 := by
  rw [le_div_iff₀ (by norm_num), not_lt, ← Nat.cast_le (α := ℚ)]
  norm_num

theorem State.verifyOk_iff (count : Nat) : s.verifyOk n count = true ↔
    |(count : ℚ) * 62500 - (s.synTarget n : ℚ) / 2 ^ 24| ≤ (s.synTarget n : ℚ) / 2 ^ 24 * 800 / 10 ^ 6 := by
  have hdist : (count : ℚ) * 62500 - (s.synTarget n : ℚ) / 2 ^ 24 =
      ((Int.ofNat (count * 62500 * 16777216) - Int.ofNat (s.synTarget n) : Int) : ℚ) / 2 ^ 24 := by
    push_cast [Int.ofNat_eq_natCast]
    ring
  rw [hdist, abs_div, abs_of_pos (by norm_num : (0 : ℚ) < 2 ^ 24), ← Int.cast_abs, ← Nat.cast_natAbs, div_mul_eq_mul_div,
    div_div, div_mul_eq_div_div_swap, div_le_div_iff_of_pos_right (by norm_num), le_div_iff₀ (by norm_num)]
  simp only [State.verifyOk, decide_eq_true_eq]
  rw [← Nat.cast_le (α := ℚ)]
  norm_num [mul_comm]

theorem targetInRange_iff (tf : Nat) : targetInRange tf = true ↔
    (1150000000 : ℚ) ≤ (tf : ℚ) / 2 ^ 24 ∧ (tf : ℚ) / 2 ^ 24 ≤ 1600000000 := by
  rw [targetInRange, Bool.and_eq_true, decide_eq_true_iff, decide_eq_true_iff, le_div_iff₀ (by norm_num), div_le_iff₀ (by norm_num),
    ← Nat.cast_le (α := ℚ), ← Nat.cast_le (α := ℚ)]
  norm_num [hz24]

/-! ### The band search (R260) -/

/-- The low bits of a number are those of its remainder. -/
theorem bitOf_mod_two_pow {w b : Nat} (v : Nat) (h : b < w) : bitOf (v % 2 ^ w) b = bitOf v b := by
  simp only [bitOf, ← Nat.toNat_testBit]
  rw [Nat.testBit_mod_two_pow]
  simp [h]

/-- BAND after a count has decided bit b. -/
def State.decidedBand (count b : Nat) : Nat :=
  if s.synTarget n < count * 4000 * 16777216 then withoutBit (s.get F.synStat_BAND n) b else s.get F.synStat_BAND n

theorem State.bitOf_decidedBand (count b : Nat) : bitOf (s.decidedBand n count b) b =
    (bitOf (s.get F.synStat_BAND n) b && decide ((count : ℚ) * 4000 ≤ (s.synTarget n : ℚ) / 2 ^ 24)) := by
  simp only [State.decidedBand, s.count_le_target_iff n count]
  split
  case isTrue h => simp [bitOf_withoutBit, h]
  case isFalse h => simp [h]

theorem State.synState_put_band (v : Nat) : (s.put F.synStat_BAND v n).synState n = s.synState n :=
  State.get_put_besides _ _ _ _ (by decide)

theorem State.bitOf_put_band (v : Nat) {b : Nat} (hb : b ≤ 7) :
    bitOf ((s.put F.synStat_BAND v n).get F.synStat_BAND n) b = bitOf v b := by
  rw [State.get_put_same _ _ _ _ _ (by decide) (by decide)]
  exact bitOf_mod_two_pow v (by simp only; omega)

variable {s n}

/-- The last bit of a search is followed by the verification. -/
theorem exec_bandSearchStepEnd_last {count : Nat} (hn : n < 8) (hst : s.synState n = 2) (hb : (s.adpll n).bit = 0) :
    exec (.bandSearchStepEnd n count) s =
      .next ((s.put F.synStat_BAND (s.decidedBand n count 0) n).setAdpll n { s.adpll n with bit := 8 }) := by
  rw [exec_bandSearchStepEnd, execBandSearchStepEnd, if_neg (by omega)]
  dsimp only
  rw [if_pos hb, hb]
  rfl

theorem exec_bandSearchStepEnd_next {count b : Nat} (hn : n < 8) (hst : s.synState n = 2) (hb : (s.adpll n).bit = b) (h0 : 0 < b)
    (h7 : b ≤ 7) : exec (.bandSearchStepEnd n count) s =
      .next ((s.put F.synStat_BAND (withBit (s.decidedBand n count b) (b - 1)) n).setAdpll n { s.adpll n with bit := b - 1 }) := by
  rw [exec_bandSearchStepEnd, execBandSearchStepEnd, if_neg (by omega)]
  dsimp only
  rw [if_neg (by omega), hb]
  rfl

/-! ### Band memory (R262, R263) -/

variable (s n)

/-- A field of SYN's registers of an ADPLL, below its band memory. -/
def Field.belowMem (g : Field) : Bool :=
  (regInfo g.reg).si == (regInfo .synMemVal).si && decide ((regInfo g.reg).base < (regInfo .synMemKey).base)

theorem State.get_put_mem {f g : Field} (v e : Nat) (hf : f.reg = .synMemKey ∨ f.reg = .synMemVal) (hg : g.belowMem = true) :
    (s.put f v n e).get g n = s.get g n := by
  simp only [Field.belowMem, Bool.and_eq_true, beq_iff_eq, decide_eq_true_eq] at hg
  obtain ⟨hs, hb⟩ := hg
  obtain hf | hf := hf
  · exact s.get_put_row v n e (by rw [hf, hs]; rfl) (by rwa [hf])
  · exact s.get_put_row v n e (by rw [hf, hs]) (by rw [hf]; exact hb.trans (by decide))

theorem State.memTouch_get (e : Nat) {g : Field} (hg : g.belowMem = true) : (s.memTouch n e).get g n = s.get g n := by
  rw [State.memTouch, State.get_put_mem _ _ _ _ (.inr rfl) hg]
  refine foldl_keeps (fun u : State => u.get g n) _ (fun u k => ?_) _ _
  split
  · exact u.get_put_mem n _ _ (.inr rfl) hg
  · rfl

theorem State.memTouch_lru (e : Nat) : (s.memTouch n e).get F.synMemVal_LRU n e = 0 :=
  State.get_put_same _ _ _ _ _ (by decide) (by decide)

/-- The entry that a search is stored in is one of the sixteen. -/
theorem State.memSlot_lt : s.memSlot n < 16 := by
  unfold State.memSlot
  dsimp only
  generalize hsame : List.find? _ (List.range 16) = same
  cases same with
  | some e => exact List.mem_range.1 (List.mem_of_find?_eq_some hsame)
  | none =>
    rw [Option.getD_none]
    refine List.foldlRecOn (motive := (· < 16)) _ _ (by decide) fun b hb e he => ?_
    split
    · exact List.mem_range.1 he
    · exact hb

end Sys2Proof.Machine
end

section
/-! PROOF. The end of a retune, and the phase monitor (R261–R263, R266–R268). -/
namespace Sys2Proof.Machine

theorem State.get_put_stat_ne {n : Nat} {g : Field} {i j : Nat} (h : regAddr g.reg i j ≠ regAddr .synStat n 0) (s : State) {f : Field}
    (hf : f.reg = .synStat) (v : Nat) : (s.put f v n).get g i j = s.get g i j := s.get_put_ne f g v n 0 i j (by rwa [hf])

variable (s : State) (n : Nat)

theorem State.get_lt (f : Field) (i j : Nat) (hf : f.hi < 64) (hl : f.lo ≤ f.hi) : s.get f i j < 2 ^ (f.hi - f.lo + 1) :=
  bitsOf_lt _ _ _ hf hl

/-! ### A full search starts -/

theorem State.startSearch_get {g : Field} {i j : Nat} (h : regAddr g.reg i j ≠ regAddr .synStat n 0) :
    (s.startSearch n).get g i j = s.get g i j := by
  simp (decide := true) only [State.startSearch, State.bump, State.setAdpll_get, State.get_put_stat_ne h]

theorem State.startSearch_flSeen : (s.startSearch n).getB F.synStat_FL_SEEN n = s.getB F.synStat_FL_SEEN n := by
  simp (decide := true) only [State.startSearch, State.bump, State.setAdpll_getB, State.getB_put_besides]

theorem State.startSearch_synState : (s.startSearch n).synState n = 2 := by
  simp (decide := true) only [State.synState, State.startSearch, State.setAdpll_get, State.get_put_besides, State.get_put_same]

theorem State.startSearch_band : (s.startSearch n).get F.synStat_BAND n = 128 := by
  simp (decide := true) only [State.startSearch, State.setAdpll_get, State.get_put_besides, State.get_put_same]

theorem State.startSearch_adpll : (s.startSearch n).adpll n = { s.adpll n with bit := 7, mem := none } := by
  rw [State.startSearch, State.setAdpll_adpll]
  rfl

/-! ### An entry is dropped, or stored -/

theorem State.memDrop_get {g : Field} (hg : g.belowMem = true) : (s.memDrop n).get g n = s.get g n := by
  unfold State.memDrop
  split
  · exact s.get_put_mem n _ _ (.inr rfl) hg
  · rfl

theorem State.memDrop_valid {e : Nat} (h : (s.adpll n).mem = some e) : (s.memDrop n).getB F.synMemVal_VALID n e = false := by
  rw [State.memDrop, h]
  exact State.getB_putB_same _ _ _ _ _ (by decide) rfl

/-- What a verified search leaves in the entry that it is stored in (R263). -/
theorem State.memStore_entry : let u := s.memStore n
    let e := s.memSlot n
    u.getB F.synMemVal_VALID n e = true ∧ u.get F.synMemKey_TARGET_F n e = s.synTarget n ∧
      u.get F.synMemKey_REF_MODE n e = s.get F.synCfg_REF_MODE n ∧ u.get F.synMemVal_BAND n e = s.get F.synStat_BAND n ∧
      u.get F.synMemVal_FINE n e = s.get F.synStat_FINE n ∧ u.get F.synMemVal_LRU n e = 0 ∧ (u.adpll n).mem = some e := by
  have htgt := s.get_lt F.synFreq_TARGET_F n 0 (by decide) (by decide)
  have hmode : s.get F.synCfg_REF_MODE n < 2 ^ (57 - 56 + 1) := s.get_lt F.synCfg_REF_MODE n 0 (by decide) (by decide)
  have hband := s.get_lt F.synStat_BAND n 0 (by decide) (by decide)
  have hfine := s.get_lt F.synStat_FINE n 0 (by decide) (by decide)
  simp (decide := true) only [State.memStore, State.putB, State.putI, State.synTarget, State.setAdpll_get, State.setAdpll_getB,
    State.setAdpll_adpll, State.get_put_besides, State.get_put_mem, State.memTouch_get, State.memTouch_lru, State.get_put_same,
    State.getB_put_same, Nat.mod_eq_of_lt, htgt, hmode, hband, hfine, and_self]

theorem State.memStore_get {g : Field} (hg : g.belowMem = true) : (s.memStore n).get g n = s.get g n := by
  simp (decide := true) only [State.memStore, State.putB, State.putI, State.setAdpll_get, State.get_put_mem, State.memTouch_get, hg]

/-! ### The verification (R261–R263, R265) -/

variable {s n}

theorem exec_bandVerifyEnd_hit {count e : Nat} (hn : n < 8) (hbit : (s.adpll n).bit = 8) (hst : s.synState n = 1)
    (hm : (s.adpll n).mem = some e) (hok : s.verifyOk n count = true) : exec (.bandVerifyEnd n count) s =
      .next (((s.putB F.synStat_HIT true n).put F.synStat_STATE 3 n).memTouch n e) := by
  rw [exec_bandVerifyEnd, execBandVerifyEnd, if_neg (by omega), if_pos hst, if_pos hok]
  simp only [State.putB, State.put_adpll, hm]

theorem exec_bandVerifyEnd_miss {count : Nat} (hn : n < 8) (hbit : (s.adpll n).bit = 8) (hst : s.synState n = 1)
    (hok : s.verifyOk n count = false) : exec (.bandVerifyEnd n count) s = .next ((s.memDrop n).startSearch n) := by
  rw [exec_bandVerifyEnd, execBandVerifyEnd, if_neg (by omega), if_pos hst, if_neg (by simp [hok])]

theorem State.synTarget_noHit : (s.putB F.synStat_HIT false n).synTarget n = s.synTarget n := State.get_put_besides _ _ _ _ (by decide)

/-- The end of a search is judged on the target, whatever HIT was. -/
theorem exec_bandVerifyEnd_search {count : Nat} (hn : n < 8) (hbit : (s.adpll n).bit = 8) (hst : s.synState n = 2) :
    exec (.bandVerifyEnd n count) s = .next (if (s.verifyOk n count && targetInRange (s.synTarget n)) = true then
      ((s.putB F.synStat_HIT false n).put F.synStat_STATE 3 n).memStore n
      else ((s.putB F.synStat_HIT false n).put F.synStat_STATE 7 n).synChanged) := by
  rw [exec_bandVerifyEnd, execBandVerifyEnd, if_neg (by omega), if_neg (by omega), if_pos hst]
  simp only [State.verifyOk, State.synTarget_noHit]
  rfl

/-! ### LOCK_WAIT (R266, R267) -/

/-- The phase that the end of LOCK_WAIT gives: free after SETTLE, kept after RELOCK. -/
def State.lockPhase (s : State) (n : Nat) : Int := if s.synState n = 3 then Int.ofNat s.draw.1 else (s.adpll n).phase

/-- The state that the end of LOCK_WAIT leaves, before the clocks follow. -/
def State.lockedAt (s : State) (n : Nat) : State :=
  ((if s.synState n = 3 then s.draw.2 else s).setAdpll n
    { s.adpll n with phase := s.lockPhase n, pm0 := s.lockPhase n, edges := 0, slewed := 0, tripped := false }).put
      F.synStat_STATE 4 n

theorem exec_lockWaitExpire_due (hn : n < 8) (hst : s.synState n = 3 ∨ s.synState n = 6) :
    exec (.lockWaitExpire n) s = .next (s.lockedAt n).synChanged := by
  rw [exec_lockWaitExpire, execLockWaitExpire, if_neg (by omega), State.lockedAt, State.lockPhase]
  obtain h | h := hst <;> simp [h, State.adpll_of_syn (show s.draw.2.syn = s.syn from rfl)]

/-! ### The phase monitor (R268) -/

/-- The difference of a comparison is shown. -/
abbrev State.pmonShown (s : State) (n count : Nat) : State :=
  s.putI F.synPmon_DIFF (satInt 32 (Int.ofNat count - s.pmonExpected n)) n

/-- A comparison beyond the tolerance: the entry in use is dropped and the monitor trips. -/
def State.pmonTripped (s : State) (n count : Nat) : State :=
  let u := ((s.pmonShown n count).putB F.synStat_FL_SEEN true n).memDrop n
  u.setAdpll n { u.adpll n with tripped := true }

theorem State.pmonShown_tol (count : Nat) : (s.pmonShown n count).get F.synPmon_PMON_TOL n = s.get F.synPmon_PMON_TOL n :=
  State.get_put_besides _ _ _ _ (by decide)

theorem State.pmonTripped_autoRelock (count : Nat) :
    (s.pmonTripped n count).getB F.synCfg_AUTO_RELOCK n = s.getB F.synCfg_AUTO_RELOCK n := by
  simp (decide := true) only [State.getB, State.pmonTripped, State.pmonShown, State.putB, State.putI, State.setAdpll_get,
    State.memDrop_get, State.get_put_besides]

theorem State.pmonTripped_flSeen (count : Nat) : (s.pmonTripped n count).getB F.synStat_FL_SEEN n = true := by
  rw [State.pmonTripped, State.setAdpll_getB, State.getB, State.memDrop_get _ _ (by decide)]
  exact State.getB_putB_same _ _ _ _ _ (by decide) rfl

theorem State.pmonTripped_tripped (count : Nat) : ((s.pmonTripped n count).adpll n).tripped = true := by
  rw [State.pmonTripped, State.setAdpll_adpll]

theorem exec_phaseMonitorCompare_within {count : Nat} (hn : n < 8) (hst : s.synState n = 4)
    (hd : (Int.ofNat count - s.pmonExpected n).natAbs ≤ max 2 (s.get F.synPmon_PMON_TOL n)) :
    exec (.phaseMonitorCompare n count) s = .next (s.pmonShown n count) := by
  rw [exec_phaseMonitorCompare, execPhaseMonitorCompare, if_neg (by omega)]
  dsimp only
  rw [if_pos (by rwa [State.pmonShown_tol])]

theorem exec_phaseMonitorCompare_beyond {count : Nat} (hn : n < 8) (hst : s.synState n = 4)
    (hd : max 2 (s.get F.synPmon_PMON_TOL n) < (Int.ofNat count - s.pmonExpected n).natAbs) :
    exec (.phaseMonitorCompare n count) s = .next (if s.getB F.synCfg_AUTO_RELOCK n = true then
      (s.pmonTripped n count).startSearch n else (s.pmonTripped n count).put F.synStat_STATE 7 n).synChanged := by
  rw [exec_phaseMonitorCompare, execPhaseMonitorCompare, if_neg (by omega)]
  dsimp only
  rw [if_neg (by rw [State.pmonShown_tol]; omega), ← s.pmonTripped_autoRelock (n := n) count]
  rfl

end Sys2Proof.Machine

open Sys2Proof Sys2Proof.Machine

/-- Settles O21, row by row: what the decision, the verification, the end of LOCK_WAIT and the comparison each leave. -/
theorem retuneRowsComplete : Obligations.RetuneRowsComplete := by
  intro s n hn target
  refine ⟨?search, ?verify, ?lockWait, ?monitor⟩
  case search =>
    intro count b hst hb h7
    obtain rfl | h0 := Nat.eq_zero_or_pos b
    · refine ⟨_, exec_bandSearchStepEnd_last hn hst hb, (s.synState_put_band n _).trans hst, ?_, fun _ => ?_,
        fun h => absurd h (lt_irrefl 0)⟩
      · rw [State.setAdpll_get, State.bitOf_put_band _ _ _ h7, State.bitOf_decidedBand]
      · rw [State.setAdpll_adpll]
    · refine ⟨_, exec_bandSearchStepEnd_next hn hst hb h0 h7, (s.synState_put_band n _).trans hst, ?_,
        fun h => absurd h h0.ne', fun _ => ⟨?_, ?_⟩⟩
      · rw [State.setAdpll_get, State.bitOf_put_band _ _ _ h7, bitOf_withBit_ne (by omega), State.bitOf_decidedBand]
      · rw [State.setAdpll_adpll]
      · rw [State.setAdpll_get, State.bitOf_put_band _ _ _ (by omega), bitOf_withBit]
  case verify =>
    intro count hbit pass
    have hpass : s.verifyOk n count = true ↔ pass := s.verifyOk_iff n count
    refine ⟨fun hst e _ hm => ⟨fun hp => ?hit, fun hp => ?miss⟩, fun hst => ?searched⟩
    case hit =>
      refine ⟨_, exec_bandVerifyEnd_hit hn hbit hst hm (hpass.2 hp), ?_, ?_, State.memTouch_lru _ n e⟩
      · rw [State.synState, State.memTouch_get _ _ _ (by decide)]
        exact State.get_put_same _ _ _ _ _ (by decide) (by decide)
      · rw [State.getB, State.memTouch_get _ _ _ (by decide), State.get_put_besides _ _ _ _ (by decide)]
        exact State.getB_putB_same _ _ _ _ _ (by decide) rfl
    case miss =>
      refine ⟨_, exec_bandVerifyEnd_miss hn hbit hst (Bool.eq_false_iff.2 (hp ∘ hpass.1)), State.startSearch_synState _ n,
        State.startSearch_band _ n, ?_, ?_⟩
      · rw [State.getB, State.startSearch_get _ _ (by simp only [regAddr, regInfo]; omega)]
        exact State.memDrop_valid s n hm
      · rw [State.startSearch_adpll]
    case searched =>
      have hrow := exec_bandVerifyEnd_search (count := count) hn hbit hst
      have hjudge : (s.verifyOk n count && targetInRange (s.synTarget n)) = true ↔
          pass ∧ 1150000000 ≤ target ∧ target ≤ 1600000000 := by
        rw [Bool.and_eq_true, hpass, targetInRange_iff]
      refine ⟨fun h => ?_, fun h => ?_⟩
      · rw [if_pos (hjudge.2 h)] at hrow
        obtain ⟨hvalid, htgt, hmode, hband, hfine, hlru, hmem⟩ :=
          ((s.putB F.synStat_HIT false n).put F.synStat_STATE 3 n).memStore_entry n
        refine ⟨_, _, hrow, ?_, ?_, State.memSlot_lt _ n, hmem, hvalid, htgt.trans ?_, hmode.trans ?_, hband.trans ?_,
          hfine.trans ?_, hlru⟩
        · rw [State.synState, State.memStore_get _ _ (by decide)]
          exact State.get_put_same _ _ _ _ _ (by decide) (by decide)
        · rw [State.getB, State.memStore_get _ _ (by decide), State.get_put_besides _ _ _ _ (by decide)]
          exact State.getB_putB_same _ _ _ _ _ (by decide) rfl
        all_goals simp (decide := true) only [State.synTarget, State.putB, State.get_put_besides]
      · rw [if_neg (h ∘ hjudge.1)] at hrow
        exact ⟨_, hrow, State.get_put_same _ _ _ _ _ (by decide) (by decide)⟩
  case lockWait =>
    intro hst
    have hadpll : (s.lockedAt n).adpll n = _ := State.setAdpll_adpll _ n _
    refine ⟨_, exec_lockWaitExpire_due hn hst, State.get_put_same _ _ _ _ _ (by decide) (by decide), ?_, ?_, fun h => ?_⟩ <;>
      rw [hadpll]
    rw [State.lockPhase, if_neg (by omega)]
  case monitor =>
    intro count hst d
    refine ⟨fun hd => ⟨_, exec_phaseMonitorCompare_within hn hst hd, rfl⟩,
      fun hd => ⟨_, exec_phaseMonitorCompare_beyond hn hst hd, ?_⟩⟩
    cases s.getB F.synCfg_AUTO_RELOCK n with
    | false =>
      refine ⟨?_, s.pmonTripped_tripped count, State.get_put_same _ _ _ _ _ (by decide) (by decide)⟩
      exact (State.getB_put_besides _ _ _ _ (by decide)).trans (s.pmonTripped_flSeen count)
    | true =>
      refine ⟨?_, ?_, State.startSearch_synState _ n⟩
      · rw [if_pos rfl, State.startSearch_flSeen]
        exact s.pmonTripped_flSeen count
      · rw [if_pos rfl, State.startSearch_adpll]
        exact s.pmonTripped_tripped count
end

section
/-! PROOF. The alignment error of an output, and the settings it takes up (R275, R280). -/
namespace Sys2Proof.Machine

variable {s : State} {n : Nat}

/-! ### ALIGN_ERR (R275) -/

/-- What is left of x after whole periods, held to half a period on each side. -/
def nearRem (x per : Int) : Int := if 2 * (x % per) < per then x % per else x % per - per

theorem nearRem_bounds {per : Int} (h : 0 < per) (x : Int) : -per ≤ 2 * nearRem x per ∧ 2 * nearRem x per < per := by
  have hlo := Int.emod_nonneg x h.ne'
  have hhi := Int.emod_lt_of_pos x h
  unfold nearRem
  split <;> omega

/-- Whole periods lie between a number and its rest. -/
theorem exists_nearRem_add (x per : Int) : ∃ k : Int, x = nearRem x per + k * per := by
  have hdiv := Int.emod_add_mul_ediv x per
  unfold nearRem
  split
  · exact ⟨x / per, by linarith [mul_comm per (x / per)]⟩
  · exact ⟨x / per + 1, by linarith [mul_comm per (x / per), add_one_mul (x / per) per]⟩

/-- Whole ticks, and less than one tick more. -/
theorem phaseTicks_spec (x : Int) : 0 ≤ x - phaseTicks x * phasePerTick ∧ x - phaseTicks x * phasePerTick < phasePerTick := by
  have hpos : 0 < phasePerTick := by decide
  have hdiv := Int.emod_add_mul_ediv x phasePerTick
  have hlo := Int.emod_nonneg x hpos.ne'
  have hhi := Int.emod_lt_of_pos x hpos
  rw [phaseTicks, mul_comm]
  omega

/-- Ticks of a rest of whole ticks a period lie within half the period, but for the tick that the rounding takes. -/
theorem phaseTicks_bounds {x per : Int} (hlo : -(per * phasePerTick) ≤ 2 * x) (hhi : 2 * x < per * phasePerTick) :
    0 ≤ 2 * phaseTicks x + per + 1 ∧ 2 * phaseTicks x < per := by
  obtain ⟨h0, h1⟩ := phaseTicks_spec x
  have hpos : 0 < phasePerTick := by decide
  constructor
  · by_contra hneg
    nlinarith
  · by_contra hge
    nlinarith

/-- The error of the edge grid against D0 + PHASE_OFS, in fine units, before whole periods are taken off. -/
def State.gridOffset (s : State) (n : Nat) : Int :=
  s.domU 0 * phaseFine - ((s.adpll n).phase + (s.adpll n).grid) - s.getI F.synPhaseOfs_VALUE n * phasePerTick

theorem State.alignErr_eq (s : State) (n : Nat) :
    s.alignErr n = nearRem (s.gridOffset n) (Int.ofNat (s.get F.synAlignPer_ALIGN_PER n) * phasePerTick) := rfl

/-- ALIGN_ERR is half a period at most, in ticks. -/
theorem State.alignErr_bounds (hper : 0 < s.get F.synAlignPer_ALIGN_PER n) :
    0 ≤ 2 * phaseTicks (s.alignErr n) + s.get F.synAlignPer_ALIGN_PER n + 1 ∧
      2 * phaseTicks (s.alignErr n) < s.get F.synAlignPer_ALIGN_PER n := by
  have hpos : (0 : Int) < Int.ofNat (s.get F.synAlignPer_ALIGN_PER n) * phasePerTick :=
    Int.mul_pos (Int.natCast_pos.2 hper) (by decide)
  obtain ⟨hlo, hhi⟩ := nearRem_bounds hpos (s.gridOffset n)
  exact phaseTicks_bounds hlo hhi

/-- The error and MISALIGNED are shown. -/
def State.alignShown (s : State) (n : Nat) : State :=
  ({ s with tse := { s.tse with d0Moved := withoutBit s.tse.d0Moved n } }.putI F.synAlignErr_VALUE (phaseTicks (s.alignErr n)) n).putB
    F.synStat_MISALIGNED (phaseTicks (s.alignErr n) != 0) n

theorem State.alignShown_misaligned : (s.alignShown n).getB F.synStat_MISALIGNED n = decide (phaseTicks (s.alignErr n) ≠ 0) :=
  (State.getB_putB_same _ _ _ _ _ (by decide) rfl).trans (by simp [bne, beq_eq_decide])

theorem State.alignShown_value (hper : 0 < s.get F.synAlignPer_ALIGN_PER n) :
    (s.alignShown n).getI F.synAlignErr_VALUE n = phaseTicks (s.alignErr n) := by
  obtain ⟨hlo, hhi⟩ := State.alignErr_bounds hper
  have hlt := s.get_lt F.synAlignPer_ALIGN_PER n 0 (by decide) (by decide)
  simp only at hlt
  rw [State.alignShown, State.putB, State.getI_put_besides _ _ _ _ (by decide)]
  exact State.getI_putI_same _ _ _ (by decide) (by decide) (by simp only; omega) (by simp only; omega)

theorem State.addRem_get {f : Field} (x : Int) (h : f.besides F.synPstepRem_VALUE = true) : (s.addRem n x).get f n = s.get f n := by
  rw [State.addRem, State.showRem, State.putI, State.get_put_besides _ _ _ _ h, State.setAdpll_get]

/-- The row shows the error, and sets the remaining step from it or not (R275, R277). -/
theorem exec_alignErrCompute_shown (hn : n < 8) (hmode : s.get F.synCfg_REF_MODE n = 1) (h4 : 4 ≤ s.synState n) (h6 : s.synState n ≤ 6)
    (hper : 0 < s.get F.synAlignPer_ALIGN_PER n) : ∃ u : State, exec (.alignErrCompute n) s = .next u ∧
      ∀ f : Field, f.besides F.synPstepRem_VALUE = true → u.get f n = (s.alignShown n).get f n := by
  have hrow : ∃ b x, exec (.alignErrCompute n) s = .next (if b = true then (s.alignShown n).addRem n x else s.alignShown n) := by
    rw [exec_alignErrCompute, execAlignErrCompute, if_neg (by omega), beq_eq_false_iff_ne.2 hper.ne']
    exact ⟨_, _, rfl⟩
  obtain ⟨b, x, hexec⟩ := hrow
  refine ⟨_, hexec, fun f hf => ?_⟩
  cases b with
  | false => rfl
  | true => exact State.addRem_get x hf

/-! ### The settings of an output (R280) -/

variable (s)

@[simp] theorem State.setOut_clkOut (o : Nat) (c : ClkOut) : (s.setOut o c).clkOut o = c := tabGet_tabSet_same _ _ _ _

theorem State.setOut_clkOut_ne {o p : Nat} (c : ClkOut) (h : p ≠ o) : (s.setOut o c).clkOut p = s.clkOut p := tabGet_tabSet_ne _ _ _ h

/-- Starting or stopping leaves an output's settings. -/
theorem State.outFollow_settings (o p : Nat) :
    ((s.outFollow o).clkOut p).cfg = (s.clkOut p).cfg ∧ ((s.outFollow o).clkOut p).div = (s.clkOut p).div := by
  unfold State.outFollow
  dsimp only
  split
  · exact ⟨rfl, rfl⟩
  · by_cases h : p = o
    · subst h
      simp only [State.setOut_clkOut, and_self]
    · simp only [State.setOut_clkOut_ne s _ h, and_self]

theorem State.outFollow_clkOut_ne {o p : Nat} (h : p ≠ o) : (s.outFollow o).clkOut p = s.clkOut p := by
  unfold State.outFollow
  dsimp only
  split
  · rfl
  · exact s.setOut_clkOut_ne _ h

theorem State.takeOut_clkOut (o : Nat) :
    ((s.takeOut o).clkOut o).cfg = s.rd .outCfg o ∧ ((s.takeOut o).clkOut o).div = s.rd .outDiv o := by
  obtain ⟨hcfg, hdiv⟩ := (s.setOut o { s.clkOut o with cfg := s.rd .outCfg o, div := s.rd .outDiv o }).outFollow_settings o o
  rw [State.setOut_clkOut] at hcfg hdiv
  exact ⟨hcfg, hdiv⟩

/-- The settings of the registers act, those that wait for a boundary and those that do not (R280). -/
theorem State.takeOut_settings (o : Nat) :
    ((s.takeOut o).out' o).cfg = s.rd .outCfg o ∧ ((s.takeOut o).out' o).div = s.rd .outDiv o := by
  obtain ⟨hcfg, hdiv⟩ := s.takeOut_clkOut o
  refine ⟨?_, hdiv⟩
  simp only [State.out', hcfg, State.rd_congr (s.takeOut_regs o)]
  rw [← BitVec.and_or_distrib_left, BitVec.or_comm, BitVec.or_not_self, BitVec.and_allOnes]

theorem State.takeOut_settings_ne {o p : Nat} (h : p ≠ o) : (s.takeOut o).out' p = s.out' p := by
  have hclk : (s.takeOut o).clkOut p = s.clkOut p := (State.outFollow_clkOut_ne _ h).trans (s.setOut_clkOut_ne _ h)
  simp only [State.out', hclk, State.rd_congr (s.takeOut_regs o)]

end Sys2Proof.Machine

open Sys2Proof Sys2Proof.Machine

/-- Settles O22: the error is the rest of the grid's offset over whole periods, in whole ticks, and what an output takes up. -/
theorem outputRowsComplete : Obligations.OutputRowsComplete := by
  refine ⟨?align, fun s n _ _ _ _ _ => ⟨_, rfl⟩, ?settings⟩
  case align =>
    intro s n hn hmode h4 h6 hper
    obtain ⟨u, hexec, hkept⟩ := exec_alignErrCompute_shown hn hmode h4 h6 hper
    have hval : u.getI F.synAlignErr_VALUE n = phaseTicks (s.alignErr n) := by
      rw [State.getI, hkept _ (by decide)]
      exact State.alignShown_value hper
    have hmis : u.getB F.synStat_MISALIGNED n = decide (phaseTicks (s.alignErr n) ≠ 0) := by
      rw [State.getB, hkept _ (by decide)]
      exact State.alignShown_misaligned
    obtain ⟨hlo, hhi⟩ := State.alignErr_bounds hper
    obtain ⟨h0, h1⟩ := phaseTicks_spec (s.alignErr n)
    obtain ⟨k, hk⟩ := exists_nearRem_add (s.gridOffset n) (Int.ofNat (s.get F.synAlignPer_ALIGN_PER n) * phasePerTick)
    rw [← State.alignErr_eq, State.gridOffset, Int.ofNat_eq_natCast] at hk
    refine ⟨u, hexec, ?_⟩
    simp only [hval, hmis]
    refine ⟨hlo, hhi, trivial, k, ?_, ?_⟩ <;> linarith
  case settings =>
    intro s o ho
    obtain ⟨hcfg, hdiv⟩ := s.takeOut_settings o
    refine ⟨s.takeOut o, ?_, s.takeOut_regs o, hcfg, hdiv, fun p hp => s.takeOut_settings_ne hp⟩
    rw [exec_clkoutSettingApply, execClkoutSettingApply, if_neg (by omega)]
end

section
/-! PROOF. The edges of an event output: their placement, and what becomes of each (R284, R286–R288). -/
namespace Sys2Proof.Machine

variable {s : State} {v : Nat}

/-! ### Placement (R284) -/

/-- The delay from the start of the firing cycle to the edge in ticks, by the domain's rate and less the fixed delays. -/
def State.edgeDelay (s : State) (v dom lat : Nat) : ℚ :=
  (10485760 - lat) * 2 ^ 56 / (2 ^ 56 + s.domRate dom) -
    ((min 1048576 (Config.fusePadDelay v (s.get F.evoCfg_STD v)) + min 5242880 (s.get F.evoDelay_DELAY v) : Nat) : ℚ)

/-- An edge is placed at the nearest interpolator step of 204.8 ticks. -/
theorem State.abs_evoPlace_sub_le (dom lat : Nat) (h : 0 < 2 ^ 56 + s.domRate dom) :
    |(s.evoPlace v dom lat : ℚ) - s.edgeDelay v dom lat / 204.8| ≤ 1 / 2 := by
  obtain ⟨den, hden⟩ := Int.eq_ofNat_of_zero_le h.le
  have hpos : 0 < den := by omega
  have hrate : (2 ^ 56 + s.domRate dom : ℚ) = den := by exact_mod_cast hden
  have hne : (den : ℚ) ≠ 0 := by exact_mod_cast hpos.ne'
  rw [State.evoPlace, hden]
  simp only [Int.toNat_natCast]
  convert abs_roundDiv_sub_le _ (b := den * 1024) (by omega) using 3
  rw [State.edgeDelay, hrate, State.evoFused, State.evoDelay]
  push_cast [Int.ofNat_eq_natCast]
  field_simp
  ring

/-! ### What becomes of an edge (R286–R288) -/

theorem State.evoFire_suppressed {d : Due} (hv : d.al.target % 8 = v) (h : s.evoEmits v = false) (last : Bool) :
    s.evoFire d last = s.bump F.evoStat_SUPPRESSED 1 v := by
  subst hv
  rw [State.evoFire, if_pos (by simp [h])]

theorem State.evoFire_merged {d : Due} (hv : d.al.target % 8 = v) (h : s.evoEmits v = true) :
    s.evoFire d false = s.bump F.evoStat_MERGED 1 v := by
  subst hv
  rw [State.evoFire, if_neg (by simp [h]), if_pos (by simp)]

/-- An edge on time to the present level is no transition. -/
theorem State.evoFire_same {d : Due} (hv : d.al.target % 8 = v) (h : s.evoEmits v = true) (hlat : d.lat < 209716)
    (hl : s.getB F.evoStat_LEVEL v = bitOf d.al.target 8) : s.evoFire d true = s := by
  subst hv
  rw [State.evoFire, if_neg (by simp [h]), if_neg (by simp), decide_eq_false (by omega)]
  exact if_pos hl

/-- An edge on time, 4 ns or more after the last one, is driven at its placement. -/
theorem State.evoFire_onTime {d : Due} (hv : d.al.target % 8 = v) (h : s.evoEmits v = true) (hlat : d.lat < 209716)
    (hl : s.getB F.evoStat_LEVEL v ≠ bitOf d.al.target 8)
    (hgap : ∀ t0, tabGet none s.syn.evoLast v = some t0 → t0 + 5120 ≤ s.cycStep + s.evoPlace v d.al.dom d.lat) :
    s.evoFire d true = s.evoDrive v (bitOf d.al.target 8) (s.cycStep + s.evoPlace v d.al.dom d.lat) := by
  subst hv
  rw [State.evoFire, if_neg (by simp [h]), if_neg (by simp), decide_eq_false (by omega)]
  simp only [Bool.false_eq_true, if_false, if_neg hl]
  split
  case h_1 t0 ht0 => rw [if_neg (by have := hgap t0 ht0; omega)]
  case h_2 => rfl

/-- A late edge of an EVO without an edge before counts in LATE, raises EVO_LATE, and is driven as if it were on time. -/
theorem State.evoFire_late {d : Due} (hv : d.al.target % 8 = v) (h : s.evoEmits v = true) (hlat : 209716 ≤ d.lat)
    (hlast : tabGet none s.syn.evoLast v = none) :
    let u := (s.bump F.evoStat_LATE 1 v).pulse 23 0 (0x10 + v)
    s.evoFire d true = u.evoDrive v (bitOf d.al.target 8) (u.cycStep + u.evoPlace v d.al.dom 0) := by
  subst hv
  intro u
  have hnone : tabGet none u.syn.evoLast (d.al.target % 8) = none := by rw [State.pulse_syn, State.bump_syn, hlast]
  rw [State.evoFire, if_neg (by simp [h]), if_neg (by simp), decide_eq_true hlat]
  simp only [if_true]
  change (if u.getB F.evoStat_LEVEL (d.al.target % 8) = bitOf d.al.target 8 then u else _) = _
  split
  case isTrue hl => rw [State.evoDrive, if_pos hl]
  case isFalse => rw [hnone]

/-- An EVO that takes another level shows it, and its edge goes out at the placement. -/
theorem State.evoDrive_leaves {level : Bool} (hl : s.getB F.evoStat_LEVEL v ≠ level) (t : Int) :
    (s.evoDrive v level t).getB F.evoStat_LEVEL v = level ∧ (s.evoDrive v level t).out = .evoEdge v level t :: s.out ∧
      tabGet none (s.evoDrive v level t).syn.evoLast v = some t := by
  rw [State.evoDrive, if_neg hl]
  exact ⟨State.getB_putB_same s _ _ _ _ (by decide) rfl, rfl, tabGet_tabSet_same none s.syn.evoLast v (some t)⟩

end Sys2Proof.Machine

open Sys2Proof Sys2Proof.Machine

/-- Settles O23: the placement is a rounded quotient, and the cases of an edge are the branches of its firing. -/
theorem evoEdgesArePlaced : Obligations.EvoEdgesArePlaced := by
  refine ⟨fun s v dom lat _ hden => State.abs_evoPlace_sub_le dom lat hden, fun s d last => ?_⟩
  intro v level
  refine ⟨fun hoff => State.evoFire_suppressed rfl hoff last, ?merged, ?same, ?onTime, ?late⟩
  case merged =>
    rintro hon rfl
    exact State.evoFire_merged rfl hon
  case same =>
    rintro hon rfl hlat hl
    exact State.evoFire_same rfl hon hlat hl
  case onTime =>
    rintro hon rfl hlat hl t hgap
    rw [State.evoFire_onTime rfl hon hlat hl hgap]
    exact State.evoDrive_leaves hl t
  case late =>
    rintro hon rfl hlat _ hlast
    exact ⟨s.bump F.evoStat_LATE 1 v, State.evoFire_late rfl hon hlat hlast, State.get_bump_same _ _ _ _ _ (by decide) (by decide)⟩
end

section
/-! RULES. SYN_CFG and the steps of an ADPLL: what each part of them leaves (R262, R271, R276, R293). -/
namespace Sys2Proof.Machine

variable (s : State) (n : Nat)

/-! ### SYN_CFG: settings, target and mode (R254, R256, R293) -/

/-- What SYN_CFG writes whatever follows: bandwidth and LOCK_WAIT, but of SYN1, and the follow limit. -/
def State.synSettings (bw lockWait fl : Nat) : State :=
  let u := if n = 1 then s else (s.put F.synCfg_BW bw n).put F.synCfg_LOCK_WAIT lockWait n
  let u := u.put F.synLimits_FOLLOW_LIM (followClamp n fl) n
  if fl = followClamp n fl then u else u.putB F.synStat_CFG_ERR true n

/-- What SYN_CFG writes where the target or the mode is another one. -/
def State.synAim (tf mode refin : Nat) : State :=
  let u := (s.put F.synFreq_TARGET_F tf n).put F.synCfg_REF_MODE mode n
  if mode = 2 then u.put F.synCfg_REFIN refin n else u

/-- The three effects of SYN_CFG (R293): settings alone, another mode at the same frequency of D0, or a retune. -/
theorem State.synCfg_eq (tf mode refin bw lockWait fl : Nat) : s.synCfg n tf mode refin bw lockWait fl =
    if s.synState n ≠ 0 ∧ (tf == s.synTarget n) = true ∧ mode = s.get F.synCfg_REF_MODE n then s.synSettings n bw lockWait fl
    else if s.synState n ≠ 0 ∧ (tf == s.synTarget n) = true ∧ mode ≤ 1 ∧ s.get F.synCfg_REF_MODE n ≤ 1 then
      ((s.synSettings n bw lockWait fl).synAim n tf mode refin).putB F.synStat_MISALIGNED true n
    else (((s.synSettings n bw lockWait fl).synAim n tf mode refin).retune n).synChanged := rfl

theorem State.synSettings_syn (bw lockWait fl : Nat) : (s.synSettings n bw lockWait fl).syn = s.syn := by
  unfold State.synSettings
  dsimp only
  (repeat' split) <;> rfl

/-- A field that SYN_CFG's settings leave. -/
def Field.besidesSettings (g : Field) : Bool :=
  g.besides F.synCfg_BW && g.besides F.synCfg_LOCK_WAIT && g.besides F.synLimits_FOLLOW_LIM && g.besides F.synStat_CFG_ERR

theorem State.synSettings_get (bw lockWait fl : Nat) {g : Field} (hg : g.besidesSettings = true) :
    (s.synSettings n bw lockWait fl).get g n = s.get g n := by
  simp only [Field.besidesSettings, Bool.and_eq_true] at hg
  obtain ⟨⟨⟨hbw, hlw⟩, hfl⟩, herr⟩ := hg
  unfold State.synSettings
  dsimp only
  (repeat' split) <;> simp only [State.putB, State.get_put_besides, hbw, hlw, hfl, herr]

theorem followClamp_eq_min (n v : Nat) : followClamp n v = min v (if n = 1 then 500000 else 5000000) := rfl

/-- The settings as SYN_CFG leaves them, each operand within its field. -/
theorem State.synSettings_shows {bw lockWait fl : Nat} (hbw : bw ≤ 4) (hlw : lockWait ≤ 100000) :
    let u := s.synSettings n bw lockWait fl
    u.get F.synCfg_BW n = (if n = 1 then s.get F.synCfg_BW n else bw) ∧
      u.get F.synCfg_LOCK_WAIT n = (if n = 1 then s.get F.synCfg_LOCK_WAIT n else lockWait) ∧
      u.get F.synLimits_FOLLOW_LIM n = min fl (if n = 1 then 500000 else 5000000) := by
  have hfl : followClamp n fl < 2 ^ (63 - 32 + 1) := by
    rw [followClamp_eq_min]
    split <;> omega
  have hbw8 : bw < 2 ^ (10 - 8 + 1) := by omega
  have hlw17 : lockWait < 2 ^ (56 - 40 + 1) := by omega
  rw [← followClamp_eq_min]
  unfold State.synSettings
  dsimp only
  split <;> split <;>
    simp (decide := true) only [State.putB, State.get_put_besides, State.get_put_same, Nat.mod_eq_of_lt, hfl, hbw8, hlw17, and_self]

theorem State.synAim_syn (tf mode refin : Nat) : (s.synAim n tf mode refin).syn = s.syn := by
  unfold State.synAim
  dsimp only
  split <;> rfl

/-- A field that another target or mode leaves. -/
def Field.besidesAim (g : Field) : Bool :=
  g.besides F.synFreq_TARGET_F && g.besides F.synCfg_REF_MODE && g.besides F.synCfg_REFIN

theorem State.synAim_get (tf mode refin : Nat) {g : Field} (hg : g.besidesAim = true) :
    (s.synAim n tf mode refin).get g n = s.get g n := by
  simp only [Field.besidesAim, Bool.and_eq_true] at hg
  obtain ⟨⟨htf, hmode⟩, hrefin⟩ := hg
  unfold State.synAim
  dsimp only
  split <;> simp only [State.get_put_besides, htf, hmode, hrefin]

theorem State.synAim_shows {tf mode refin : Nat} (htf : tf < 2 ^ 56) (hmode : mode ≤ 2) (hrefin : mode = 2 → refin < 24) :
    let u := s.synAim n tf mode refin
    u.synTarget n = tf ∧ u.get F.synCfg_REF_MODE n = mode ∧ (mode = 2 → u.get F.synCfg_REFIN n = refin) := by
  have htf' : tf < 2 ^ (55 - 0 + 1) := htf
  have hmode' : mode < 2 ^ (1 - 0 + 1) := by omega
  unfold State.synAim
  dsimp only
  split
  case isTrue h2 =>
    have hrefin' : refin < 2 ^ (20 - 16 + 1) := by have := hrefin h2; omega
    simp (decide := true) only [State.synTarget, State.get_put_besides, State.get_put_same, Nat.mod_eq_of_lt, htf', hmode', hrefin',
      implies_true, and_self]
  case isFalse h2 =>
    simp (decide := true) only [State.synTarget, State.get_put_besides, State.get_put_same, Nat.mod_eq_of_lt, htf', hmode', h2,
      false_imp_iff, and_self]

/-! ### A retune begins (R262) -/

/-- A retune is a hop or a search, and leaves the registers but for SYNn_STAT. -/
theorem State.retune_starts : ((s.retune n).synState n = 1 ∨ (s.retune n).synState n = 2) ∧
    ∀ g : Field, regAddr g.reg n 0 ≠ regAddr .synStat n 0 → (s.retune n).get g n = s.get g n := by
  unfold State.retune
  split
  · refine ⟨.inl (State.get_put_same _ _ _ _ _ (by decide) (by decide)), fun g h => ?_⟩
    simp (decide := true) only [State.get_put_stat_ne h, State.setAdpll_get]
  · exact ⟨.inr (s.startSearch_synState n), fun _ => s.startSearch_get n⟩

/-! ### The remaining step (R271, R276) -/

theorem State.addRem_adpll (x : Int) : (s.addRem n x).adpll n = { s.adpll n with rem := (s.adpll n).rem + x } := by
  rw [State.addRem, State.showRem, State.putI, State.put_adpll, State.setAdpll_adpll]

/-- Whole f_S periods taken out of a step leave less than one period of it, up to the rounding to fine units. -/
theorem wholePeriods_bounds (a : Int) {tf sec : Int} (htf : 0 < tf) (hsec : 0 < sec) :
    0 ≤ a - a * tf / sec * sec / tf ∧ (a - a * tf / sec * sec / tf - 1) * tf < sec := by
  have hk := Int.ediv_mul_le (a * tf) hsec.ne'
  have hk' := Int.lt_ediv_add_one_mul_self (a * tf) hsec
  rw [add_one_mul] at hk'
  generalize a * tf / sec * sec = x at hk hk' ⊢
  have hw := Int.ediv_mul_le x htf.ne'
  have hw' := Int.lt_ediv_add_one_mul_self x htf
  generalize x / tf = w at hw hw' ⊢
  constructor
  · by_contra hneg
    nlinarith
  · nlinarith

/-- The whole f_S periods that METHOD JUMP takes out of the alignment error, in fine units. -/
def State.jumpWhole : Int :=
  -(s.getI F.synAlignErr_VALUE n) * phasePerTick * Int.ofNat (max 1 (s.synTarget n)) / phaseSec * phaseSec /
    Int.ofNat (max 1 (s.synTarget n))

/-- JUMP moves the outputs' grid by whole periods and leaves the rest to be slewed (R276). -/
theorem State.synJump_adpll : (s.synJump n).adpll n =
    { s.adpll n with grid := (s.adpll n).grid - s.jumpWhole n
                     rem := (s.adpll n).rem + (-(s.getI F.synAlignErr_VALUE n) * phasePerTick - s.jumpWhole n) } := by
  unfold State.synJump
  dsimp only
  rw [foldl_keeps (fun u : State => u.adpll n) _ (fun u o => by split <;> rfl), State.addRem_adpll, State.setAdpll_adpll]
  rfl

/-! ### Band memory cleared -/

theorem State.getB_foldl_memClear (l : List Nat) (j : Nat) :
    (l.foldl (fun u e => u.putB F.synMemVal_VALID false n e) s).getB F.synMemVal_VALID n j =
      (s.getB F.synMemVal_VALID n j && decide (j ∉ l)) := by
  induction l generalizing s with
  | nil => simp
  | cons e l ih =>
    rw [List.foldl_cons, ih]
    obtain rfl | hne := eq_or_ne j e
    · rw [State.getB_putB_same _ _ _ _ _ (by decide) rfl]
      simp
    · rw [State.getB, State.putB, State.get_put_row_ne _ _ _ _ (by decide) hne, ← State.getB]
      simp [hne]

end Sys2Proof.Machine
end

section
/-! PROOF. The SYN commands of an ADPLL complete (R271, R276, R292–R294). -/
namespace Sys2Proof.Machine

variable {s : State} {c : Caller} {n : Nat}

/-! ### SYN_CFG (R292, R293) -/

/-- The operands of a SYN_CFG that is not refused. -/
theorem State.synCfgBad_pass {tf mode refin bw lockWait : Nat} (h : s.synCfgBad n tf mode refin bw lockWait = false) :
    mode ≤ 2 ∧ tf < 2 ^ 56 ∧ bw ≤ 4 ∧ lockWait ≤ 100000 ∧ (mode = 2 → refin < 24) := by
  simp only [State.synCfgBad, Bool.or_eq_false_iff, Bool.and_eq_false_iff, decide_eq_false_iff_not, beq_eq_false_iff_ne] at h
  obtain ⟨⟨⟨⟨⟨⟨⟨⟨-, -⟩, hmode⟩, htf⟩, hbw⟩, -⟩, hlw⟩, -⟩, hrefin⟩ := h
  refine ⟨by omega, by omega, by omega, by omega, fun h2 => ?_⟩
  obtain hne | ⟨hlt, -⟩ := hrefin
  · exact absurd h2 hne
  · omega

theorem exec_synCfg_ok {tf mode refin bw lockWait fl : Nat} (ha : s.admitsOwner c 0x50 = true)
    (hbad : s.synCfgBad n tf mode refin bw lockWait = false) (hfl : fl < 2 ^ 32) (h1 : s.synState n ≠ 1) (h2 : s.synState n ≠ 2)
    (h3 : s.synState n ≠ 3) :
    exec (.synCfg c n tf mode refin bw lockWait fl) s = .next ((s.synCfg n tf mode refin bw lockWait fl).complete c 0x50 .ok) := by
  obtain ⟨hadm, hown⟩ := (s.admitsOwner_iff c 0x50).1 ha
  rw [exec_synCfg, execSynCfg, State.runCmd_ok_of_admits hadm _ c (firstFail_eq_none ?_)]
  simp only [List.forall_mem_cons, List.not_mem_nil, false_imp_iff, implies_true, and_true]
  refine ⟨notOwner_pass hown, ?_, ?_⟩
  · simpa [hbad] using hfl
  · simp [h1, h2, h3]

/-- What SYN_CFG leaves where another target or mode takes effect: its settings, its target, its mode. -/
theorem State.synAimed_shows {tf mode refin bw lockWait : Nat} (hbad : s.synCfgBad n tf mode refin bw lockWait = false) (fl : Nat) :
    let u := (s.synSettings n bw lockWait fl).synAim n tf mode refin
    u.synState n = s.synState n ∧ u.synTarget n = tf ∧ u.get F.synCfg_REF_MODE n = mode ∧
      u.get F.synCfg_BW n = (if n = 1 then s.get F.synCfg_BW n else bw) ∧
      u.get F.synCfg_LOCK_WAIT n = (if n = 1 then s.get F.synCfg_LOCK_WAIT n else lockWait) ∧
      (mode = 2 → u.get F.synCfg_REFIN n = refin) := by
  obtain ⟨hmode, htf, hbw, hlw, hrefin⟩ := State.synCfgBad_pass hbad
  obtain ⟨hsbw, hslw, -⟩ := s.synSettings_shows n (fl := fl) hbw hlw
  obtain ⟨htgt, hm, hr⟩ := (s.synSettings n bw lockWait fl).synAim_shows n htf hmode hrefin
  refine ⟨?_, htgt, hm, ?_, ?_, hr⟩
  · rw [State.synState, State.synAim_get _ _ _ _ _ (by decide), State.synSettings_get _ _ _ _ _ (by decide), State.synState]
  · rw [State.synAim_get _ _ _ _ _ (by decide), hsbw]
  · rw [State.synAim_get _ _ _ _ _ (by decide), hslw]

/-! ### The other commands of an ADPLL (R271, R276, R294) -/

theorem exec_synPstep_ok {ticks : Int} (ha : s.admitsOwner c 0x51 = true) (h2 : 2 ≤ n) (h8 : n < 8) (hf : fits64 ticks = true)
    (hr : s.synRuns n = true) : exec (.synPstep c n ticks) s =
      .next (((s.putI F.synPhaseOfs_VALUE (s.getI F.synPhaseOfs_VALUE n + ticks) n).addRem n (ticks * phasePerTick)).complete c 0x51
        .ok) := by
  obtain ⟨hadm, hown⟩ := (s.admitsOwner_iff c 0x51).1 ha
  rw [exec_synPstep, execSynPstep, State.runCmd_ok_of_admits hadm _ c (firstFail_eq_none ?_)]
  simp only [List.forall_mem_cons, List.not_mem_nil, false_imp_iff, implies_true, and_true]
  refine ⟨notOwner_pass hown, ?_, ?_⟩
  · simp [hf]; omega
  · simp [hr]

theorem exec_synAlign_ok {method : Nat} (ha : s.admitsOwner c 0x52 = true) (h2 : 2 ≤ n) (h8 : n < 8) (hm : method ≤ 1)
    (hmode : s.get F.synCfg_REF_MODE n = 1) (hr : s.synRuns n = true) : exec (.synAlign c n method) s =
      .next ((if method = 0 then s.addRem n (-(s.getI F.synAlignErr_VALUE n) * phasePerTick) else s.synJump n).complete c 0x52 .ok) := by
  obtain ⟨hadm, hown⟩ := (s.admitsOwner_iff c 0x52).1 ha
  rw [exec_synAlign, execSynAlign, State.runCmd_ok_of_admits hadm _ c (firstFail_eq_none ?_)]
  simp only [List.forall_mem_cons, List.not_mem_nil, false_imp_iff, implies_true, and_true]
  refine ⟨notOwner_pass hown, ?_, ?_⟩
  · simp [hmode]; omega
  · simp [hr]

/-- Every entry of an ADPLL's band memory is invalid. -/
def State.memCleared (s : State) (n : Nat) : State := (List.range 16).foldl (fun s e => s.putB F.synMemVal_VALID false n e) s

theorem State.memCleared_valid (s : State) (n : Nat) {e : Nat} (he : e < 16) : (s.memCleared n).getB F.synMemVal_VALID n e = false := by
  rw [State.memCleared, State.getB_foldl_memClear]
  simp [he]

theorem State.memCleared_synState (s : State) (n : Nat) : (s.memCleared n).synState n = s.synState n :=
  foldl_keeps (fun u : State => u.synState n) _ (fun u e => u.get_put_mem n _ e (.inr rfl) (by decide)) _ _

theorem exec_synMemClear_ok (ha : s.admitsOwner c 0x53 = true) (h1 : 1 ≤ n) (h8 : n < 8) :
    exec (.synMemClear c n) s = .next ((s.memCleared n).complete c 0x53 .ok) := by
  obtain ⟨hadm, hown⟩ := (s.admitsOwner_iff c 0x53).1 ha
  rw [exec_synMemClear, execSynMemClear, State.runCmd_ok_of_admits hadm _ c (firstFail_eq_none ?_), State.memCleared]
  simp only [List.forall_mem_cons, List.not_mem_nil, false_imp_iff, implies_true, and_true]
  exact ⟨notOwner_pass hown, by simp; omega⟩

theorem exec_synOff_ok (ha : s.admitsOwner c 0x54 = true) (h2 : 2 ≤ n) (h8 : n < 8) : exec (.synOff c n) s =
    .next (((s.put F.synStat_STATE 0 n).putB F.synStat_FOLLOW_SAT false n).synChanged.complete c 0x54 .ok) := by
  obtain ⟨hadm, hown⟩ := (s.admitsOwner_iff c 0x54).1 ha
  rw [exec_synOff, execSynOff, State.runCmd_ok_of_admits hadm _ c (firstFail_eq_none ?_)]
  simp only [List.forall_mem_cons, List.not_mem_nil, false_imp_iff, implies_true, and_true]
  exact ⟨notOwner_pass hown, by simp; omega⟩

end Sys2Proof.Machine
end

section
/-! PROOF. The SYN commands of an event output complete (R290, R294). -/
namespace Sys2Proof.Machine

variable {s : State} {c : Caller} {v : Nat}

/-! ### SYN_EVO_ARM (R290) -/

/-- The two slots found are different ones. -/
theorem State.twoSlots_some {p : Nat} {slots : Nat × Nat} (h : s.twoSlots p = some slots) : slots.1 < slots.2 ∧ slots.2 < 4096 := by
  unfold State.twoSlots at h
  split at h
  case isFalse => cases h
  cases ha : freeSlotFrom s 4096 8 with
  | none => rw [ha] at h; cases h
  | some a =>
    rw [ha] at h
    obtain ⟨b, hb, rfl⟩ := Option.map_eq_some_iff.1 h
    exact ⟨(freeSlotFrom_some hb).1, freeSlotFrom_lt hb⟩

theorem State.armSlot_seq (s : State) (k part dom inst : Nat) (kind : AlarmKind) (target period : Nat) (fire late : Bool) :
    ((s.armSlot k part dom inst kind target period fire late).alarm k).seq = s.tse.seq := by
  simp only [State.armSlot, State.alarm, State.setAlarm, tabGet_tabSet_same]

/-- The leading alarm of an EVO. -/
abbrev State.evoLeadArmed (s : State) (v dom e0 per pol : Nat) (lateOk : Bool) (slot : Nat) : State :=
  s.armSlot slot 0 dom (e0 - evoLead) .evoEdge (v + 256 * pol) per lateOk (s.isPast dom (e0 - evoLead))

/-- The trailing alarm of an EVO. -/
abbrev State.evoTrailArmed (s : State) (v dom e0 per width pol : Nat) (lateOk : Bool) (slot : Nat) : State :=
  s.armSlot slot 0 dom (e0 + width - evoLead) .evoEdge (v + 256 * (1 - pol)) per lateOk (s.isPast dom (e0 + width - evoLead))

section Arm
variable (s : State) (v dom e0 per width pol : Nat) (lateOk : Bool) (slots : Nat × Nat)

theorem State.evoArm_alarm (k : Nat) : (s.evoArm v dom e0 per width pol lateOk slots).alarm k =
    ((s.evoLeadArmed v dom e0 per pol lateOk slots.1).evoTrailArmed v dom e0 per width pol lateOk slots.2).alarm k := by
  simp only [State.evoArm, State.put_alarm]
  rfl

theorem State.evoArm_evoSeqs : (s.evoArm v dom e0 per width pol lateOk slots).evoSeqs v = (s.tse.seq, s.tse.seq + 1) := by
  simp only [State.evoSeqs, State.evoArm, State.put_syn, tabGet_tabSet_same]

variable {slots}

theorem State.evoArm_slotNumbers (h1 : slots.1 < 4096) (h2 : slots.2 < 4096) :
    (s.evoArm v dom e0 per width pol lateOk slots).get F.evoSlots_LEAD_SLOT v = slots.1 ∧
      (s.evoArm v dom e0 per width pol lateOk slots).get F.evoSlots_TRAIL_SLOT v = slots.2 := by
  refine ⟨?_, (State.get_put_same _ _ _ _ _ (by decide) (by decide)).trans (Nat.mod_eq_of_lt h2)⟩
  rw [State.evoArm, State.get_put_besides _ _ _ _ (by decide), State.get_put_same _ _ _ _ _ (by decide) (by decide)]
  exact Nat.mod_eq_of_lt h1

/-- The pair of alarms that SYN_EVO_ARM arms, with their slots in EVOv_SLOTS. -/
theorem State.evoArm_slots (hlt : slots.1 < slots.2) (hmax : slots.2 < 4096) :
    let u := s.evoArm v dom e0 per width pol lateOk slots
    u.evoArmed v = true ∧
    (let a := u.alarm (u.get F.evoSlots_LEAD_SLOT v)
     a.st = .armed ∧ a.dom = dom ∧ a.kind = .evoEdge ∧ a.target = v + 256 * pol ∧ a.inst = e0 - evoLead ∧ a.period = per) ∧
    (let a := u.alarm (u.get F.evoSlots_TRAIL_SLOT v)
     a.st = .armed ∧ a.dom = dom ∧ a.kind = .evoEdge ∧ a.target = v + 256 * (1 - pol) ∧ a.inst = e0 + width - evoLead ∧
       a.period = per) := by
  intro u
  obtain ⟨hlead, htrail⟩ := s.evoArm_slotNumbers v dom e0 per width pol lateOk (hlt.trans hmax) hmax
  have hfirst : u.alarm slots.1 = (s.evoLeadArmed v dom e0 per pol lateOk slots.1).alarm slots.1 := by
    rw [State.evoArm_alarm]
    exact State.armSlot_alarm_ne _ _ _ _ _ _ _ _ _ _ hlt.ne
  have hsecond := s.evoArm_alarm v dom e0 per width pol lateOk slots slots.2
  obtain ⟨hst, -, hdom, hkind, hinst, htgt, hper, -⟩ := s.armSlot_alarm_same slots.1 0 dom (e0 - evoLead) .evoEdge (v + 256 * pol) per
    lateOk (s.isPast dom (e0 - evoLead))
  have hseq := s.armSlot_seq slots.1 0 dom (e0 - evoLead) .evoEdge (v + 256 * pol) per lateOk (s.isPast dom (e0 - evoLead))
  obtain ⟨hst', -, hdom', hkind', hinst', htgt', hper', -⟩ := (s.evoLeadArmed v dom e0 per pol lateOk slots.1).armSlot_alarm_same
    slots.2 0 dom (e0 + width - evoLead) .evoEdge (v + 256 * (1 - pol)) per lateOk
    ((s.evoLeadArmed v dom e0 per pol lateOk slots.1).isPast dom (e0 + width - evoLead))
  simp only [u, State.evoArmed, State.evoOwns, hlead, htrail, hsecond, State.evoArm_evoSeqs] at hfirst ⊢
  simp only [hfirst, hst, hseq, hdom, hkind, hinst, htgt, hper, hst', hdom', hkind', hinst', htgt', hper', and_self, beq_self_eq_true,
    Bool.and_self, Bool.true_or]

end Arm

theorem exec_synEvoArm_ok {dom : Nat} {e0 : TimeVal} {per width pol lateOk : Nat} {slots : Nat × Nat} (ha : s.admitsOwner c 0x55 = true)
    (hv : v < 8) (hd : dom < 32) (ht : tvOk e0 = true) (hper : per < 2 ^ 63) (hw : width < 2 ^ 63) (hpol : pol < 2) (hl : lateOk < 2)
    (hgrid : per = 0 ∨ 26214400 ≤ per ∧ width + 1048576 ≤ per) (hmin : 1048576 ≤ width) (hlead : evoLead ≤ tvTicks e0)
    (hst : (s.dom dom).st ≠ .off) (hres : s.resetting (s.dom dom).owner = false) (harmed : s.evoArmed v = false)
    (hslots : s.twoSlots 0 = some slots) (hlate : lateOk = 1 ∨ s.ticks dom < tvTicks e0 - evoLead) :
    exec (.synEvoArm c v dom e0 per width pol lateOk) s =
      .next ((s.evoArm v dom (tvTicks e0) per width pol (lateOk == 1) slots).complete c 0x55 .ok) := by
  obtain ⟨hadm, hown⟩ := (s.admitsOwner_iff c 0x55).1 ha
  rw [exec_synEvoArm, execSynEvoArm, hslots, Option.getD_some, State.runCmd_ok_of_admits hadm _ c (firstFail_eq_none ?_)]
  simp only [List.forall_mem_cons, List.not_mem_nil, false_imp_iff, implies_true, and_true]
  refine ⟨notOwner_pass hown, ?operands, domFree_pass (.inr hres), ?slots, ?late⟩
  case operands =>
    simp only [State.evoArmBad, ht, Bool.or_eq_false_iff, Bool.and_eq_false_iff, decide_eq_false_iff_not, bne_eq_false_iff_eq,
      beq_eq_false_iff_ne, Bool.not_true, ne_eq, hst, not_false_eq_true, and_true]
    omega
  case slots => simp [harmed]
  case late =>
    simp only [State.isPast, Bool.and_eq_false_iff, beq_eq_false_iff_ne, decide_eq_false_iff_not, Int.ofNat_eq_natCast]
    omega

/-! ### SYN_EVO_DISARM (R294) -/

/-- Slot k released where an alarm accepted as number q is armed in it. -/
def State.evoReleased (s : State) (k q : Nat) : State := if s.evoOwns k q then s.releaseSlot k else s

theorem State.evoReleased_alarm (s : State) (k q i : Nat) : (s.evoReleased k q).alarm i =
    if i = k ∧ s.evoOwns k q = true then { s.alarm k with st := .cancelled } else s.alarm i := by
  unfold State.evoReleased
  by_cases ho : s.evoOwns k q = true
  case neg => simp [ho]
  case pos =>
    have hst : (s.alarm k).st = .armed := by
      simp only [State.evoOwns, Bool.and_eq_true, beq_iff_eq] at ho
      exact ho.1
    rw [if_pos ho, State.releaseSlot, if_pos hst]
    obtain rfl | hi := eq_or_ne i k
    · simp [State.alarm_setAlarm_same, ho]
    · simp [State.alarm_setAlarm_ne _ _ hi, hi]

/-- A release writes alarm slots alone. -/
theorem State.evoReleased_eq (s : State) (k q : Nat) :
    s.evoReleased k q = { s with tse := { s.tse with alarms := (s.evoReleased k q).tse.alarms } } := by
  unfold State.evoReleased State.releaseSlot
  split
  · split <;> rfl
  · rfl

theorem State.evoReleased_ends (s : State) (k q : Nat) : (s.evoReleased k q).evoOwns k q = false := by
  by_cases ho : s.evoOwns k q = true
  · rw [State.evoOwns, State.evoReleased_alarm, if_pos ⟨rfl, ho⟩]
    rfl
  · rw [State.evoOwns, State.evoReleased_alarm, if_neg (fun h => ho h.2)]
    exact Bool.eq_false_iff.2 ho

theorem State.evoReleased_evoOwns {s : State} {i r : Nat} (h : s.evoOwns i r = false) (k q : Nat) :
    (s.evoReleased k q).evoOwns i r = false := by
  rw [State.evoOwns, State.evoReleased_alarm]
  split
  · rfl
  · exact h

/-- An alarm is kept, or it was armed in the slot and is cancelled. -/
theorem State.evoReleased_cases (s : State) (k q i : Nat) : (s.evoReleased k q).alarm i = s.alarm i ∨
    (i = k ∧ (s.alarm i).st = .armed ∧ ((s.evoReleased k q).alarm i).st = .cancelled) := by
  rw [State.evoReleased_alarm]
  split
  case isTrue h =>
    obtain ⟨rfl, ho⟩ := h
    simp only [State.evoOwns, Bool.and_eq_true, beq_iff_eq] at ho
    exact .inr ⟨rfl, ho.1, rfl⟩
  case isFalse => exact .inl rfl

theorem State.evoRelease_eq (s : State) (v : Nat) : s.evoRelease v =
    (s.evoReleased (s.get F.evoSlots_LEAD_SLOT v) (s.evoSeqs v).1).evoReleased (s.get F.evoSlots_TRAIL_SLOT v) (s.evoSeqs v).2 := rfl

theorem State.evoRelease_alarms (s : State) (v : Nat) :
    s.evoRelease v = { s with tse := { s.tse with alarms := (s.evoRelease v).tse.alarms } } := by
  have hfirst := s.evoReleased_eq (s.get F.evoSlots_LEAD_SLOT v) (s.evoSeqs v).1
  have hsecond := (s.evoReleased (s.get F.evoSlots_LEAD_SLOT v) (s.evoSeqs v).1).evoReleased_eq (s.get F.evoSlots_TRAIL_SLOT v)
    (s.evoSeqs v).2
  rw [State.evoRelease_eq]
  generalize s.evoReleased (s.get F.evoSlots_LEAD_SLOT v) (s.evoSeqs v).1 = u at hfirst hsecond ⊢
  rw [hfirst] at hsecond
  rwa [hfirst]

/-- Neither of the alarms that SYN_EVO_ARM armed is armed after the release. -/
theorem State.evoRelease_evoArmed (s : State) (v : Nat) : (s.evoRelease v).evoArmed v = false := by
  have hregs : (s.evoRelease v).regs = s.regs := by rw [State.evoRelease_alarms]
  have hseqs : (s.evoRelease v).evoSeqs v = s.evoSeqs v := by rw [State.evoRelease_alarms]; rfl
  rw [State.evoArmed, State.get_congr hregs, State.get_congr hregs, hseqs, State.evoRelease_eq, State.evoReleased_ends,
    State.evoReleased_evoOwns (s.evoReleased_ends _ _)]
  rfl

/-- Of the alarms, the release cancels those of the EVO's two slots at most. -/
theorem State.evoRelease_cases (s : State) (v k : Nat) : (s.evoRelease v).alarm k = s.alarm k ∨
    ((k = s.get F.evoSlots_LEAD_SLOT v ∨ k = s.get F.evoSlots_TRAIL_SLOT v) ∧ (s.alarm k).st = .armed ∧
      ((s.evoRelease v).alarm k).st = .cancelled) := by
  rw [State.evoRelease_eq]
  have hfirst := s.evoReleased_cases (s.get F.evoSlots_LEAD_SLOT v) (s.evoSeqs v).1 k
  generalize s.evoReleased (s.get F.evoSlots_LEAD_SLOT v) (s.evoSeqs v).1 = u at hfirst ⊢
  obtain hkept | ⟨htrail, harmed, hcancel⟩ := u.evoReleased_cases (s.get F.evoSlots_TRAIL_SLOT v) (s.evoSeqs v).2 k
  · rw [hkept]
    exact hfirst.imp_right fun ⟨hlead, h⟩ => ⟨.inl hlead, h⟩
  · obtain hsame | ⟨hlead, h, -⟩ := hfirst
    · exact .inr ⟨.inr htrail, hsame ▸ harmed, hcancel⟩
    · exact .inr ⟨.inl hlead, h, hcancel⟩

theorem exec_synEvoDisarm_ok (ha : s.admitsOwner c 0x56 = true) (hv : v < 8) : exec (.synEvoDisarm c v) s =
    .next ((if s.evoArmed v = true then (s.evoRelease v).evoParkOrIdle v else s).complete c 0x56 .ok) := by
  obtain ⟨hadm, hown⟩ := (s.admitsOwner_iff c 0x56).1 ha
  rw [exec_synEvoDisarm, execSynEvoDisarm, State.runCmd_ok_of_admits hadm _ c (firstFail_eq_none ?_)]
  simp only [List.forall_mem_cons, List.not_mem_nil, false_imp_iff, implies_true, and_true]
  exact ⟨notOwner_pass hown, by simpa using hv⟩

end Sys2Proof.Machine

open Sys2Proof Sys2Proof.Machine

/-- Settles O24, command by command: its checks pass, and what its effect leaves. -/
theorem synCommandsComplete : Obligations.SynCommandsComplete := by
  intro s c
  refine ⟨?cfg, ?pstep, ?align, fun n ha h1 h8 => ⟨_, exec_synMemClear_ok ha h1 h8, fun e he => s.memCleared_valid n he,
    s.memCleared_synState n⟩, fun n ha h2 h8 => exec_synOff_ok ha h2 h8, ?arm, ?disarm⟩
  case cfg =>
    intro n tf mode refin bw lockWait fl ha hbad hfl h1 h2 h3 same
    have hexec := exec_synCfg_ok ha hbad hfl h1 h2 h3
    rw [State.synCfg_eq] at hexec
    obtain ⟨hmode2, -, hbw, hlw, -⟩ := State.synCfgBad_pass hbad
    obtain ⟨hst, htgt, hmode, hubw, hulw, hrefin⟩ := State.synAimed_shows hbad fl
    refine ⟨?kept, ?follows, ?retuned⟩
    case kept =>
      rintro ⟨⟨hon, rfl⟩, hm⟩
      rw [if_pos ⟨hon, beq_self_eq_true _, hm⟩] at hexec
      obtain ⟨hsbw, hslw, hsfl⟩ := s.synSettings_shows n (fl := fl) hbw hlw
      exact ⟨_, hexec, s.synSettings_get n _ _ _ (by decide), hsbw, hslw, s.synSettings_get n _ _ _ (by decide),
        s.synSettings_syn n _ _ _, hsfl⟩
    case follows =>
      rintro ⟨hon, rfl⟩ hm h0 h1
      rw [if_neg (fun h => hm h.2.2), if_pos ⟨hon, beq_self_eq_true _, h0, h1⟩] at hexec
      refine ⟨_, hexec, ?_, ?_, State.getB_putB_same _ _ _ _ _ (by decide) rfl, ?_⟩
      · exact (State.get_put_besides _ _ _ _ (by decide)).trans hst
      · exact (State.get_put_besides _ _ _ _ (by decide)).trans hmode
      · rw [State.putB_syn, State.synAim_syn, State.synSettings_syn]
    case retuned =>
      intro hnew
      rw [if_neg (by rw [beq_iff_eq]; omega), if_neg (by rw [beq_iff_eq]; omega)] at hexec
      obtain ⟨hstarts, hkept⟩ := ((s.synSettings n bw lockWait fl).synAim n tf mode refin).retune_starts n
      have hcfg : regAddr .synCfg n 0 ≠ regAddr .synStat n 0 := by simp only [regAddr, regInfo]; omega
      have hfreq : regAddr .synFreq n 0 ≠ regAddr .synStat n 0 := by simp only [regAddr, regInfo]; omega
      exact ⟨_, hexec, hstarts, (hkept F.synFreq_TARGET_F hfreq).trans htgt, (hkept F.synCfg_REF_MODE hcfg).trans hmode,
        (hkept F.synCfg_BW hcfg).trans hubw, (hkept F.synCfg_LOCK_WAIT hcfg).trans hulw,
        fun h => (hkept F.synCfg_REFIN hcfg).trans (hrefin h)⟩
  case pstep =>
    intro n ticks ha h2 h8 hf hr
    refine ⟨_, exec_synPstep_ok ha h2 h8 hf hr, ?_, ?_, ?_⟩
    · rw [State.addRem_get _ (by decide), State.putI, State.get_put_same _ _ _ _ _ (by decide) (by decide)]
      exact Nat.mod_eq_of_lt (codeOf_lt _ _)
    · rw [State.addRem_adpll, State.putI, State.put_adpll]
    · rw [State.addRem_adpll, State.putI, State.put_adpll]
  case align =>
    intro n ha h2 h8 hmode hr
    refine ⟨⟨_, exec_synAlign_ok ha h2 h8 (by decide) hmode hr, ?_, ?_, ?_⟩,
      ⟨_, exec_synAlign_ok ha h2 h8 (by decide) hmode hr, ?_⟩⟩
    · rw [if_pos rfl, State.addRem_adpll]
      ring
    · rw [if_pos rfl, State.addRem_adpll]
    · rw [if_pos rfl, State.addRem_get _ (by decide)]
    · obtain ⟨h0, hmax⟩ := wholePeriods_bounds (-(s.getI F.synAlignErr_VALUE n) * phasePerTick)
        (tf := Int.ofNat (max 1 (s.synTarget n))) (sec := phaseSec) (by simp) (by decide)
      rw [← State.jumpWhole] at h0 hmax
      have hsec : phaseSec = phasePerTick * (262144000000000 * 2 ^ 24) := by decide
      rw [hsec, Int.ofNat_eq_natCast] at hmax
      rw [if_neg (by decide), State.synJump_adpll, add_sub_cancel_left]
      exact ⟨rfl, by ring, h0, hmax⟩
  case arm =>
    intro v dom e0 per width pol lateOk ha hv hd ht hper hw hpol hl hgrid hmin hlead hst hres harmed hslots hlate
    obtain ⟨slots, hslots⟩ := Option.ne_none_iff_exists'.1 hslots
    obtain ⟨hlt, hmax⟩ := State.twoSlots_some hslots
    exact ⟨_, exec_synEvoArm_ok ha hv hd ht hper hw hpol hl hgrid hmin hlead hst hres harmed hslots hlate,
      State.evoArm_slots _ _ _ _ _ _ _ _ hlt hmax⟩
  case disarm =>
    intro v ha hv
    have hexec := exec_synEvoDisarm_ok ha hv
    refine ⟨fun hoff => ?_, fun hon => ⟨s.evoRelease v, ?_, s.evoRelease_evoArmed v, s.evoRelease_alarms v, s.evoRelease_cases v⟩⟩
    · rwa [if_neg (by simp [hoff])] at hexec
    · rwa [if_pos hon] at hexec
end

section
/-! RULES. Instructions that end with their issue: what writing a register, a time register or flags and going on to the next word
leaves of a thread (R297–R300, R309, R340). -/
namespace Sys2Proof.Machine

/-! ### The issue -/

/-- An instruction of either size that its thread may issue has its effect (R340, R350). -/
theorem State.issue_of_mayRun_size {s : State} {t size : Nat} (hsize : size = 4 ∨ size = 8) (h : s.mayRun t size) {d : DIns}
    (hord : d.ordered = false) : s.issue t size d = (s.issued t).effect t size d := by
  obtain rfl | rfl := hsize
  · exact State.issue_of_mayRun h d (by simp [hord])
  · obtain ⟨ht, hready, hecc, hext⟩ := h
    obtain ⟨i, hi, hcode⟩ := hext rfl
    have hok : s.extOk t 8 = true := by simp [State.extOk, hi, hcode]
    rw [State.issue, if_neg (by simp [hord, hready, thReady]; omega), if_neg (by omega), if_neg (by simp [hok]), State.fetchFix,
      if_pos hecc]

@[simp] theorem State.issued_thrState (s : State) (t k : Nat) : (s.issued t).thrState k = s.thrState k := by simp [State.thrState]

/-! ### One write -/

section Writes
variable {s : State} {t : Nat}

@[simp] theorem State.setG_treg (r : Nat) (x : Word) (k n : Nat) : (s.setG t r x).treg k n = s.treg k n := by
  unfold State.setG
  split <;> rfl

theorem State.g_setG (r : Nat) (x : Word) (m : Nat) :
    (s.setG t r x).g t m = if m % 32 = r % 32 then (if r % 32 = 0 then 0 else x) else s.g t m := by
  unfold State.g State.setG
  by_cases hr : r % 32 = 0
  · by_cases hm : m % 32 = r % 32 <;> simp [hr, hm]
    · exact fun h => absurd (h.trans hr.symm) hm
  · by_cases hm : m % 32 = r % 32
    · simp [hr, hm, State.rd_wr_same]
    · have hne : regAddr .thrG t (m % 32) ≠ regAddr .thrG t (r % 32) := by
        simp only [regAddr, regInfo]
        omega
      simp only [hr, hm, if_false, State.rd_wr_ne _ _ _ _ _ _ _ _ hne]

@[simp] theorem State.setFlags_treg (l : List (Flag × Bool)) (k n : Nat) : (s.setFlags t l).treg k n = s.treg k n := rfl

@[simp] theorem State.setTreg_g (n : Nat) (x : TReg) (k r : Nat) : (s.setTreg t n x).g k r = s.g k r := rfl
@[simp] theorem State.setTreg_flag (n : Nat) (x : TReg) (k : Nat) (f : Flag) : (s.setTreg t n x).flag k f = s.flag k f := rfl
@[simp] theorem State.setTreg_thrState (n : Nat) (x : TReg) (k : Nat) : (s.setTreg t n x).thrState k = s.thrState k := rfl

/-- A flag after several are set or clear. -/
theorem State.flag_setFlags (l : List (Flag × Bool)) (f : Flag) :
    (s.setFlags t l).flag t f = l.foldl (fun b e => if f = e.1 then e.2 else b) (s.flag t f) := by
  rw [State.setFlags_flag, State.flag]
  generalize s.get F.thrStat_FLAGS t = w
  induction l generalizing w with
  | nil => rfl
  | cons e l ih =>
    rw [List.foldl_cons, ← bitOf_flagTo]
    exact ih (flagTo w e.1 e.2)

theorem OnlyThread.setFlags (ht : t < 128) (l : List (Flag × Bool)) : OnlyThread s (s.setFlags t l) t := OnlyThread.put ht rfl _

theorem OnlyThread.setTreg (n : Nat) (x : TReg) : OnlyThread s (s.setTreg t n x) t := OnlyThread.setThr _

section InRange
variable (ht : t < 128)
include ht

theorem State.setG_flag (r : Nat) (x : Word) (f : Flag) : (s.setG t r x).flag t f = s.flag t f := by
  rw [State.flag, State.get_setG ht rfl, State.flag]

theorem State.setG_thrState (r : Nat) (x : Word) : (s.setG t r x).thrState t = s.thrState t := State.get_setG ht rfl r x

theorem State.setFlags_g (l : List (Flag × Bool)) (r : Nat) : (s.setFlags t l).g t r = s.g t r := State.g_put ht rfl _ r

end InRange

theorem State.setFlags_thrState (l : List (Flag × Bool)) : (s.setFlags t l).thrState t = s.thrState t :=
  State.thrStat_put_other (f := F.thrStat_FLAGS) (g := F.thrStat_STATE) _ rfl rfl (by decide) (by decide) (by decide)

end Writes

/-! ### Going on -/

section GoOn
variable {s v : State} {t pc n : Nat}

theorem State.goOn_g (ht : t < 128) (r : Nat) : (s.goOn t pc n).g t r = s.g t r := State.g_put ht rfl _ r

theorem State.goOn_treg (k m : Nat) : (s.goOn t pc n).treg k m = s.treg k m :=
  congrArg (fun x => tabGet ({} : TReg) x (m % 8)) (s.tr_setThr t k (x := { s.thr t with cool := (s.eng (t / 16)).cyc + n }) rfl)

theorem State.goOn_flag (f : Flag) : (s.goOn t pc n).flag t f = s.flag t f := by
  have h : (s.goOn t pc n).get F.thrStat_FLAGS t = s.get F.thrStat_FLAGS t :=
    State.thrStat_put_other (f := F.thrStat_PC) (g := F.thrStat_FLAGS) _ rfl rfl (by decide) (by decide) (by decide)
  rw [State.flag, h, State.flag]

theorem State.goOn_thrState : (s.goOn t pc n).thrState t = s.thrState t :=
  State.thrStat_put_other (f := F.thrStat_PC) (g := F.thrStat_STATE) _ rfl rfl (by decide) (by decide) (by decide)

theorem State.goOn_pc : (s.goOn t pc n).pc t = pc % 2 ^ 21 :=
  (State.get_put_same _ F.thrStat_PC _ t 0 (by decide) (by decide)).trans (Nat.mod_mod_of_dvd _ (dvd_refl _))

theorem OnlyThread.goOn (ht : t < 128) : OnlyThread s (s.goOn t pc n) t := (OnlyThread.setThr _).trans (OnlyThread.put ht rfl _)

/-- What going on leaves, where all that was done before is one write of a general register. -/
theorem wroteG_goOn {rd : Nat} {x : Word} (ht : t < 128) (only : OnlyThread s v t) (hready : v.thrState t = 1)
    (hg : ∀ r, v.g t r = if r % 32 = rd % 32 then (if rd % 32 = 0 then 0 else x) else s.g t r)
    (htreg : ∀ m, v.treg t m = s.treg t m) : WroteG s (v.goOn t pc n) t pc rd x where
  dest := by rw [State.goOn_g ht, hg, if_pos rfl]
  others r hr := by rw [State.goOn_g ht, hg, if_neg hr]
  treg m := (State.goOn_treg t m).trans (htreg m)
  pc := State.goOn_pc
  ready := State.goOn_thrState.trans hready
  only := only.trans (OnlyThread.goOn ht)

/-- What going on leaves, where all that was done before is one write of a time register. -/
theorem wroteT_goOn {tn : Nat} {x : TReg} (ht : t < 128) (only : OnlyThread s v t) (hready : v.thrState t = 1)
    (hg : ∀ r, v.g t r = s.g t r) (htreg : ∀ m, v.treg t m = if m % 8 = tn % 8 then x else s.treg t m) :
    WroteT s (v.goOn t pc n) t pc tn x where
  dest := by rw [State.goOn_treg, htreg, if_pos rfl]
  others m hm := by rw [State.goOn_treg, htreg, if_neg hm]
  g r := (State.goOn_g ht r).trans (hg r)
  pc := State.goOn_pc
  ready := State.goOn_thrState.trans hready
  only := only.trans (OnlyThread.goOn ht)

end GoOn

/-! ### A result in a general register -/

section Result
variable {s : State} {t pc n rd : Nat} {x : Word} (ht : t < 128) (hready : s.thrState t = 1)
include ht hready

/-- An instruction that writes a general register and no flag. -/
theorem wroteG_setG : WroteG s (((s.issued t).setG t rd x).goOn t pc n) t pc rd x :=
  wroteG_goOn ht ((OnlyThread.issued s t).trans (OnlyThread.setG ht rd x))
    (by rw [State.setG_thrState ht, State.issued_thrState, hready])
    (fun r => by rw [State.g_setG, State.issued_g]) (fun m => by rw [State.setG_treg, State.issued_treg])

/-- An instruction that writes a general register and flags. -/
theorem wroteG_setG_setFlags (l : List (Flag × Bool)) :
    WroteG s ((((s.issued t).setG t rd x).setFlags t l).goOn t pc n) t pc rd x :=
  wroteG_goOn ht (((OnlyThread.issued s t).trans (OnlyThread.setG ht rd x)).trans (OnlyThread.setFlags ht l))
    (by rw [State.setFlags_thrState, State.setG_thrState ht, State.issued_thrState, hready])
    (fun r => by rw [State.setFlags_g ht, State.g_setG, State.issued_g])
    (fun m => by rw [State.setFlags_treg, State.setG_treg, State.issued_treg])

/-- An instruction that writes flags alone. -/
theorem wroteG_setFlags (l : List (Flag × Bool)) : WroteG s (((s.issued t).setFlags t l).goOn t pc n) t pc 0 0 :=
  wroteG_setG_setFlags ht hready (rd := 0) (x := 0) l

/-- An instruction that writes a time register and flags. -/
theorem wroteT_setTreg_setFlags (tn : Nat) (y : TReg) (l : List (Flag × Bool)) :
    WroteT s ((((s.issued t).setTreg t tn y).setFlags t l).goOn t pc n) t pc tn y :=
  wroteT_goOn ht (((OnlyThread.issued s t).trans (OnlyThread.setTreg tn y)).trans (OnlyThread.setFlags ht l))
    (by rw [State.setFlags_thrState, State.setTreg_thrState, State.issued_thrState, hready])
    (fun r => by rw [State.setFlags_g ht, State.setTreg_g, State.issued_g])
    (fun m => by rw [State.setFlags_treg, State.treg_setTreg, State.issued_treg])

/-- An instruction of a time register that has no effect on it. -/
theorem wroteT_setFlags (tn : Nat) (l : List (Flag × Bool)) :
    WroteT s (((s.issued t).setFlags t l).goOn t pc n) t pc tn (s.treg t tn) :=
  wroteT_goOn ht ((OnlyThread.issued s t).trans (OnlyThread.setFlags ht l))
    (by rw [State.setFlags_thrState, State.issued_thrState, hready])
    (fun r => by rw [State.setFlags_g ht, State.issued_g])
    (fun m => by
      rw [State.setFlags_treg, State.issued_treg]
      split
      case isTrue hm => simp only [State.treg, hm]
      case isFalse => rfl)

end Result

/-! ### Flags -/

section Flags
variable {s v : State} {t pc n : Nat} {l : List (Flag × Bool)} (hv : ∀ f, v.flag t f = s.flag t f)
include hv

/-- Each flag after an instruction that sets those of a list. -/
theorem flag_goOn_setFlags (f : Flag) :
    ((v.setFlags t l).goOn t pc n).flag t f = l.foldl (fun b e => if f = e.1 then e.2 else b) (s.flag t f) := by
  rw [State.goOn_flag, State.flag_setFlags, hv]

theorem setV_goOn (b : Bool) : s.setV ((v.setFlags t [(.v, b)]).goOn t pc n) t b :=
  ⟨flag_goOn_setFlags hv .v, fun f hf => (flag_goOn_setFlags hv f).trans (if_neg hf)⟩

theorem setZNCV_goOn (z m c b : Bool) :
    s.setZNCV ((v.setFlags t [(.z, z), (.n, m), (.c, c), (.v, b)]).goOn t pc n) t z m c b :=
  ⟨flag_goOn_setFlags hv .z, flag_goOn_setFlags hv .n, flag_goOn_setFlags hv .c, flag_goOn_setFlags hv .v, flag_goOn_setFlags hv .l,
    flag_goOn_setFlags hv .s⟩

theorem sameFlags_goOn : s.sameFlags (v.goOn t pc n) t := fun f => (State.goOn_flag f).trans (hv f)

end Flags

end Sys2Proof.Machine
end

section
/-! PROOF. The ALU, the immediate and the fixed-point instructions (R302, R303, R307, R309–R311). -/
namespace Sys2Proof.Machine

/-! ### Results -/

theorem overflows_eq (x : Int) : overflows x = decide (x < -(2 ^ 63) ∨ 2 ^ 63 ≤ x) := by
  rw [Bool.eq_iff_iff]
  simp [overflows, fits64]

theorem satInt_eq (x : Int) : satInt 64 x = max (-(2 ^ 63)) (min (2 ^ 63 - 1) x) := by
  simp only [satInt, clampInt]
  norm_num
  split_ifs <;> omega

theorem satRes_eq (x : Int) : satRes x =
    (BitVec.ofInt 64 (max (-(2 ^ 63)) (min (2 ^ 63 - 1) x)), false, decide (x < -(2 ^ 63) ∨ 2 ^ 63 ≤ x)) := by
  rw [satRes, satInt_eq, overflows_eq]

theorem bitOf_toNat (a : Word) (k : Nat) : bitOf a.toNat k = a.getLsbD k := by
  rw [bitOf, BitVec.getLsbD, Nat.testBit_eq_decide_div_mod_eq, beq_eq_decide]

theorem bitOf_toNat_msb (a : Word) : bitOf a.toNat 63 = a.msb := by rw [bitOf_toNat, BitVec.msb_eq_getLsbD_last]

/-- A shift to the left: C is the last bit shifted out. -/
theorem aluShift_left (a : Word) (n : Nat) : aluShift 0 a n = (a <<< n, decide (n ≠ 0) && a.getLsbD (64 - n), false) := by
  simp [aluShift, bitOf_toNat, bne, beq_eq_decide]

theorem aluShift_right (a : Word) (n : Nat) : aluShift 1 a n = (a >>> n, decide (n ≠ 0) && a.getLsbD (n - 1), false) := by
  simp [aluShift, bitOf_toNat, bne, beq_eq_decide]

theorem aluShift_arith (a : Word) (n : Nat) : aluShift 2 a n = (a.sshiftRight n, decide (n ≠ 0) && a.getLsbD (n - 1), false) := by
  simp [aluShift, bitOf_toNat, bne, beq_eq_decide]

/-! ### From issue to result -/

section
variable {s : State} {t size rd : Nat}

/-- What an instruction of the ALU or of fixed-point arithmetic leaves (R309, R311). -/
theorem aluTo_aluDone (ht : t < 128) (hready : s.thrState t = 1) (next : Nat) (x : AluRes) :
    s.aluTo ((s.issued t).aluDone t rd next x) t next rd x.1 x.2.1 x.2.2 := by
  rw [State.aluTo, State.aluDone, aluFlags, ← bitOf_toNat_msb]
  refine ⟨?result, ?flags⟩
  case result => exact wroteG_setG_setFlags ht hready _
  case flags => exact setZNCV_goOn (fun f => (State.setG_flag ht rd x.1 f).trans (s.issued_flag t t f)) _ _ _ _

/-- A comparison's result goes nowhere: it leaves its flags alone (R309). -/
theorem compares_aluDone (ht : t < 128) (hready : s.thrState t = 1) (next : Nat) (a b : Word) (c v : Bool) :
    let u := (s.issued t).aluDone t 0 next (a - b, c, v)
    (∀ r, u.g t r = s.g t r) ∧ (∀ k, u.treg t k = s.treg t k) ∧ u.pc t = next % 2 ^ 21 ∧ OnlyThread s u t ∧
      s.setZNCV u t (a == b) (a - b).msb c v := by
  obtain ⟨hw, hflags⟩ := aluTo_aluDone (rd := 0) ht hready next (a - b, c, v)
  have hz : (a - b == 0) = (a == b) := by rw [beq_eq_decide, beq_eq_decide]; simp only [sub_eq_zero]
  rw [hz] at hflags
  refine ⟨fun r => ?_, hw.treg, hw.pc, hw.only, hflags⟩
  by_cases hr : r % 32 = 0
  · simp only [State.g, hr, if_true]
  · exact hw.others r (by simpa using hr)

variable (hsize : size = 4 ∨ size = 8) (h : s.mayRun t size)
include h

/-- An instruction whose issue gives an ALU result. -/
theorem aluTo_of_issue {i : Instr} {d : DIns} {r : AluRes} {x : Word} {c v : Bool} (hexec : exec i s = .next (s.issue t size d))
    (hissue : s.issue t size d = (s.issued t).aluDone t rd (s.pc t + size) r) (hr : r = (x, c, v)) :
    ∃ u : State, exec i s = .next u ∧ s.aluTo u t (s.pc t + size) rd x c v := by
  subst hr
  exact ⟨_, hexec.trans (congrArg _ hissue), aluTo_aluDone h.1 h.2.1 _ _⟩

include hsize

theorem issue_alu (fn ra rb : Nat) : s.issue t size (.alu fn rd ra rb) =
    (s.issued t).aluDone t (if fn = 0xb then 0 else rd) (s.pc t + size) (aluFn fn (s.g t ra) (s.g t rb)) := by
  rw [State.issue_of_mayRun_size hsize h rfl]
  simp only [State.effect, State.issued_pc, State.issued_g]

theorem issue_aluImm (fn ra : Nat) (b : Word) : s.issue t size (.aluImm fn rd ra b) =
    (s.issued t).aluDone t (if fn = 0xb then 0 else rd) (s.pc t + size) (aluFn fn (s.g t ra) b) := by
  rw [State.issue_of_mayRun_size hsize h rfl]
  simp only [State.effect, State.issued_pc, State.issued_g]

end

end Sys2Proof.Machine

open Sys2Proof Sys2Proof.Machine

/-- Settles O25, function by function of R309. -/
theorem aluResultsAndFlags : Obligations.AluResultsAndFlags := by
  intro s t rd ra rb h a b n gives sat big
  have hn : b.toNat % 64 = n := by simp [n, BitVec.extractLsb'_toNat]
  have hgives : ∀ {i : Instr} {fn : Nat} {x : Word} {c v : Bool}, fn ≠ 0xb → exec i s = .next (s.issue t 4 (.alu fn rd ra rb)) →
      aluFn fn a b = (x, c, v) → gives i rd x c v := fun hfn hexec hx =>
    aluTo_of_issue h hexec ((issue_alu (.inl rfl) h _ ra rb).trans (by rw [if_neg hfn])) hx
  have hsub : aluSub a b = (a - b, decide (b.toNat ≤ a.toNat), big (a.toInt - b.toInt)) := by rw [aluSub, overflows_eq]
  refine ⟨?add, ?sub, ?and, ?or, ?xor, ?shl, ?shr, ?sra, ?mul, ?mulhu, ?mulhs, ?cmp, ?min, ?max, ?adds, ?subs⟩
  case add => exact hgives (by decide) exec_add (by rw [aluFn, aluAdd, overflows_eq])
  case sub => exact hgives (by decide) exec_sub hsub
  case and => exact hgives (by decide) exec_and rfl
  case or => exact hgives (by decide) exec_or rfl
  case xor => exact hgives (by decide) exec_xor rfl
  case shl => exact hgives (by decide) exec_shl (by rw [aluFn, hn, aluShift_left])
  case shr => exact hgives (by decide) exec_shr (by rw [aluFn, hn, aluShift_right])
  case sra => exact hgives (by decide) exec_sra (by rw [aluFn, hn, aluShift_arith])
  case mul => exact hgives (by decide) exec_mul (by rw [aluFn, overflows_eq])
  case mulhu => exact hgives (by decide) exec_mulhu rfl
  case mulhs => exact hgives (by decide) exec_mulhs rfl
  case cmp =>
    refine ⟨_, exec_cmp.trans (congrArg Host.Outcome.next (issue_alu (rd := 0) (.inl rfl) h 0xb ra rb)), ?_⟩
    rw [if_pos rfl, aluFn, hsub]
    exact compares_aluDone h.1 h.2.1 (s.pc t + 4) a b _ _
  case min => exact hgives (by decide) exec_min rfl
  case max => exact hgives (by decide) exec_max rfl
  case adds => exact hgives (by decide) exec_adds (satRes_eq _)
  case subs => exact hgives (by decide) exec_subs (satRes_eq _)
end

section
/-! PROOF. The immediate and the fixed-point instructions (R302, R303, R307, R310, R311). -/
namespace Sys2Proof.Machine

/-! ### Immediates -/

theorem signedOf_eq_toInt {w : Nat} (hw : 0 < w) (n : Nat) : signedOf w (n % 2 ^ w) = (BitVec.ofNat w n).toInt := by
  have hpow : 2 ^ w = 2 * 2 ^ (w - 1) := by rw [← pow_succ', Nat.sub_add_cancel hw]
  rw [BitVec.toInt_eq_toNat_cond, BitVec.toNat_ofNat, signedOf, Nat.mod_mod]
  by_cases h : n % 2 ^ w < 2 ^ (w - 1)
  · rw [if_pos h, if_pos (by omega)]; rfl
  · rw [if_neg h, if_neg (by omega)]; rfl

/-- The model's immediate is the sign-extended one of R307. -/
theorem immOf_eq (e : Bool) (imm : Nat) : immOf e imm = immVal e imm := by
  cases e
  · exact congrArg (BitVec.ofInt 64) (signedOf_eq_toInt (by decide) imm)
  · exact congrArg (BitVec.ofInt 64) (signedOf_eq_toInt (by decide) imm)

/-- LIU writes the upper half (R310). -/
theorem setBits_upper (b x : Word) :
    setBits x 63 32 (b.toNat % 2 ^ 32) = (BitVec.extractLsb' 0 32 b ++ BitVec.extractLsb' 0 32 x : BitVec 64) := by
  apply BitVec.eq_of_getLsbD_eq
  intro k hk
  have hmask := getLsbD_fieldMask 63 32 k (by decide) (by decide)
  simp only [setBits, BitVec.getLsbD_or, BitVec.getLsbD_and, BitVec.getLsbD_not, hmask, BitVec.getLsbD_shiftLeft, BitVec.getLsbD_ofNat,
    Nat.testBit_mod_two_pow, BitVec.getLsbD_append, BitVec.getLsbD_extractLsb', BitVec.testBit_toNat]
  by_cases h : k < 32
  · simp [h, hk]
  · have h1 : 32 ≤ k := by omega
    have h2 : k ≤ 63 := by omega
    have h3 : k - 32 < 32 := by omega
    have h4 : k - 32 < 64 := by omega
    simp [h, hk, h1, h2, h3, h4]

/-! ### Rounding -/

/-- A number of 2^32 parts, rounded up. -/
theorem ceil_div_two_pow (x : Int) : ⌈(x : ℚ) / 2 ^ 32⌉ = if x % 2 ^ 32 = 0 then x / 2 ^ 32 else x / 2 ^ 32 + 1 := by
  have h : ⌈(x : ℚ) / 2 ^ 32⌉ = -(-x / 2 ^ 32) := by exact_mod_cast Rat.ceil_intCast_div_natCast x (2 ^ 32)
  rw [h]
  split_ifs <;> omega

theorem floor_div_two_pow (x : Int) : ⌊(x : ℚ) / 2 ^ 32⌋ = x / 2 ^ 32 := by
  exact_mod_cast Rat.floor_intCast_div_natCast x (2 ^ 32)

/-- How R303 rounds a quotient. -/
def roundRat (rm : Nat) (x : ℚ) : Int :=
  match rm with
  | 0 => if 0 ≤ x then ⌊x + 1 / 2⌋ else ⌈x - 1 / 2⌉
  | 1 => ⌈x⌉
  | 2 => ⌊x⌋
  | _ => if 0 ≤ x then ⌊x⌋ else ⌈x⌉

/-- The model's rounding is R303's, of the quotient by 2^32. -/
theorem roundQ_eq {rm : Nat} (hrm : rm < 4) (x : Int) : roundQ rm x = roundRat rm ((x : ℚ) / 2 ^ 32) := by
  have hsign : (0 : ℚ) ≤ (x : ℚ) / 2 ^ 32 ↔ 0 ≤ x := by
    rw [le_div_iff₀ (by positivity), zero_mul]
    exact_mod_cast Iff.rfl
  have hup : (x : ℚ) / 2 ^ 32 + 1 / 2 = ((x + 2 ^ 31 : Int) : ℚ) / 2 ^ 32 := by push_cast; ring
  have hdown : (x : ℚ) / 2 ^ 32 - 1 / 2 = ((x - 2 ^ 31 : Int) : ℚ) / 2 ^ 32 := by push_cast; ring
  obtain rfl | rfl | rfl | rfl : rm = 0 ∨ rm = 1 ∨ rm = 2 ∨ rm = 3 := by omega
  case inl =>
    simp only [roundQ, roundRat, hsign, hup, hdown, floor_div_two_pow, ceil_div_two_pow]
    split_ifs <;> omega
  case inr.inl => simp only [roundQ, roundRat, ceil_div_two_pow]; norm_num
  case inr.inr.inl => simp only [roundQ, roundRat, floor_div_two_pow]; norm_num
  case inr.inr.inr =>
    simp only [roundQ, roundRat, hsign, floor_div_two_pow, ceil_div_two_pow]
    split_ifs <;> omega

/-! ### Fixed-point results -/

/-- A result brought into 64 bits: V where that changes it. -/
theorem satRes_lim (x : Int) : satRes x = (BitVec.ofInt 64 (max (-(2 ^ 63)) (min (2 ^ 63 - 1) x)), false,
    decide (max (-(2 ^ 63)) (min (2 ^ 63 - 1) x) ≠ x)) := by
  have hiff : (x < -(2 ^ 63) ∨ 2 ^ 63 ≤ x) ↔ max (-(2 ^ 63)) (min (2 ^ 63 - 1) x) ≠ x := by omega
  rw [satRes_eq]
  simp only [hiff]

theorem fxSat_eq (a b : Word) : let m : Int := min (b.toInt.natAbs : Int) (2 ^ 63 - 1)
    fxSat a b = (BitVec.ofInt 64 (max (-m) (min m a.toInt)), false, decide (m < (a.toInt.natAbs : Int))) := by
  intro m
  have hm : 0 ≤ m := by omega
  have hclamp : clampInt (-m) m a.toInt = max (-m) (min m a.toInt) := by
    unfold clampInt
    split_ifs <;> omega
  have hv : (max (-m) (min m a.toInt) != a.toInt) = decide (m < (a.toInt.natAbs : Int)) := by
    rw [Bool.eq_iff_iff]
    simp only [bne_iff_ne, decide_eq_true_eq]
    omega
  rw [fxSat, ← hv, ← hclamp]

section
variable {s : State} {t size rd : Nat} (h : s.mayRun t size)
include h

/-- The instructions that write a register and no flag. -/
theorem wroteG_of_issue {i : Instr} {d : DIns} {x : Word} (hexec : exec i s = .next (s.issue t size d))
    (hissue : s.issue t size d = ((s.issued t).setG t rd x).goOn t (s.pc t + size) 1) :
    ∃ u : State, exec i s = .next u ∧ WroteG s u t (s.pc t + size) rd x ∧ s.sameFlags u t :=
  ⟨_, hexec.trans (congrArg _ hissue), wroteG_setG h.1 h.2.1, sameFlags_goOn fun f => (State.setG_flag h.1 rd x f).trans (s.issued_flag t t f)⟩

end

end Sys2Proof.Machine

open Sys2Proof Sys2Proof.Machine

/-- Settles O26: the immediate instructions by their ALU functions, the fixed-point ones by R303's rounding. -/
theorem immediatesAndFixedPoint : Obligations.ImmediatesAndFixedPoint := by
  refine ⟨?immediate, ?fixedPoint⟩
  case immediate =>
    intro s t rd ra imm e h next a b gives big
    have hsize : (if e then 8 else 4) = 4 ∨ (if e then 8 else 4) = 8 := by cases e <;> simp
    have himm : immOf e imm = b := immOf_eq e imm
    have hgives : ∀ {i : Instr} {fn : Nat} {x : Word} {c v : Bool}, fn ≠ 0xb →
        exec i s = .next (s.issue t (sizeOf' e) (.aluImm fn rd ra (immOf e imm))) → aluFn fn a b = (x, c, v) → gives i rd x c v :=
      fun hfn hexec hx =>
        aluTo_of_issue h hexec ((issue_aluImm hsize h _ ra _).trans (by rw [if_neg hfn, himm])) hx
    have hsub : aluSub a b = (a - b, decide (b.toNat ≤ a.toNat), big (a.toInt - b.toInt)) := by rw [aluSub, overflows_eq]
    refine ⟨?addi, ?andi, ?ori, ?xori, ?cmpi, ?li, ?liu, ?shi⟩
    case addi => exact hgives (by decide) exec_addi (by rw [aluFn, aluAdd, overflows_eq])
    case andi => exact hgives (by decide) exec_andi rfl
    case ori => exact hgives (by decide) exec_ori rfl
    case xori => exact hgives (by decide) exec_xori rfl
    case cmpi =>
      refine ⟨_, exec_cmpi.trans (congrArg Host.Outcome.next (issue_aluImm (rd := 0) hsize h 0xb ra _)), ?_⟩
      rw [if_pos rfl, himm, aluFn, hsub]
      obtain ⟨hg, -, hpc, honly, hflags⟩ := compares_aluDone h.1 h.2.1 next a b (decide (b.toNat ≤ a.toNat)) (big (a.toInt - b.toInt))
      exact ⟨hg, hpc, honly, hflags⟩
    case li =>
      refine wroteG_of_issue h exec_li ((State.issue_of_mayRun_size hsize h rfl).trans ?_)
      simp only [State.effect, State.issued_pc, himm]
    case liu =>
      obtain ⟨u, hu, hw, hflags⟩ := wroteG_of_issue (i := .liu t rd e imm) (rd := rd)
        (x := (BitVec.extractLsb' 0 32 b ++ BitVec.extractLsb' 0 32 (s.g t rd) : BitVec 64)) h exec_liu
        ((State.issue_of_mayRun_size hsize h rfl).trans (by
          simp only [State.effect, State.issued_pc, State.issued_g, liuOf, himm, setBits_upper]))
      exact ⟨u, hu, hflags, hw⟩
    case shi =>
      rintro rfl ty n hn
      have hshi : ∀ {x : Word} {c v : Bool}, ty < 3 → aluShift ty a n = (x, c, v) → gives (.shi t rd ra ty n) rd x c v := fun hty hx => by
        refine aluTo_of_issue h exec_shi ?_ hx
        rw [if_pos hty, State.issue_of_mayRun_size hsize h rfl]
        simp only [State.effect, State.issued_pc, State.issued_g, Nat.mod_eq_of_lt hn]
        rfl
      refine ⟨?left, ?right, ?arith, ?reserved⟩
      case left => rintro rfl; exact hshi (by decide) (aluShift_left a n)
      case right => rintro rfl; exact hshi (by decide) (aluShift_right a n)
      case arith => rintro rfl; exact hshi (by decide) (aluShift_arith a n)
      case reserved =>
        rintro rfl
        rw [exec_shi, execShi, if_neg (by decide), State.issue_of_mayRun_size (.inl rfl) h rfl, State.effect, State.raise, State.issued_pc]
        rfl
  case fixedPoint =>
    intro s t rd ra rb rm hrm h a b round lim gives m
    have hround : ∀ x : Int, roundQ rm x = round ((x : ℚ) / 2 ^ 32) := roundQ_eq hrm
    have hmul : roundQ rm (a.toInt * b.toInt) = round ((a.toInt : ℚ) * b.toInt / 2 ^ 32) := by rw [hround]; push_cast; rfl
    have hissue : ∀ {d : DIns} {r : AluRes}, d.ordered = false → (∀ u, u = s.issued t → u.effect t 4 d = u.aluDone t rd (u.pc t + 4) r) →
        s.issue t 4 d = (s.issued t).aluDone t rd (s.pc t + 4) r := fun hord hd => by
      rw [State.issue_of_mayRun_size (.inl rfl) h hord, hd _ rfl, State.issued_pc]
    have ha : (s.issued t).g t ra = a := s.issued_g t t ra
    have hb : (s.issued t).g t rb = b := s.issued_g t t rb
    refine ⟨?fmul, ?fmac, ?sat, ?itof, ?ftoi⟩
    case fmul =>
      refine aluTo_of_issue h exec_fmul (hissue rfl ?_) (satRes_lim _)
      rintro _ rfl
      rw [State.effect, ha, hb, fxMul, hmul]
    case fmac =>
      refine aluTo_of_issue h exec_fmac (hissue rfl ?_) (satRes_lim _)
      rintro _ rfl
      rw [State.effect, ha, hb, State.issued_g, fxMac, hmul]
    case sat =>
      refine aluTo_of_issue h exec_sat (hissue rfl ?_) (fxSat_eq a b)
      rintro _ rfl
      rw [State.effect, ha, hb]
    case itof =>
      refine aluTo_of_issue h exec_itof (hissue rfl ?_) (satRes_lim _)
      rintro _ rfl
      rw [State.effect, ha, fxItof]
      norm_num
    case ftoi =>
      refine aluTo_of_issue h exec_ftoi (hissue rfl ?_) (satRes_lim _)
      rintro _ rfl
      rw [State.effect, ha, fxFtoi, hround]
end

section
/-! PROOF. TADD, TSUB, TCMP, TGET and TSET (R315–R318). -/
namespace Sys2Proof.Machine

/-! ### Values -/

theorem clampInt_eq {lo hi : Int} (h : lo ≤ hi) (x : Int) : clampInt lo hi x = max lo (min hi x) := by
  unfold clampInt
  split_ifs <;> omega

/-- The sum of two bounds: UNBOUNDED where one is or where the sum leaves the register (R81). -/
theorem boundSum_pair (x y : Nat) :
    boundSum [x, y] = if x = 2 ^ 64 - 1 ∨ y = 2 ^ 64 - 1 ∨ 2 ^ 64 - 2 < x + y then 2 ^ 64 - 1 else x + y := by
  simp [boundSum, or_assoc]

/-- The intervals of R317 meet where their centres are no farther apart than their half-widths together. -/
theorem intervals_meet_iff (x y : TReg) :
    (∃ p : Int, (x.t : Int) - x.b ≤ p ∧ p ≤ x.t + x.b ∧ (y.t : Int) - y.b ≤ p ∧ p ≤ y.t + y.b) ↔
      ((x.t : Int) - y.t).natAbs ≤ x.b + y.b := by
  constructor
  · rintro ⟨p, h1, h2, h3, h4⟩
    omega
  · intro h
    exact ⟨max ((x.t : Int) - x.b) ((y.t : Int) - y.b), by omega, by omega, by omega, by omega⟩

/-- Z of an interval comparison: an UNBOUNDED side, or intervals that meet (R317). -/
theorem intervalFlags_z (x y : TReg) : (intervalFlags x y).1 = true ↔ (x.b = 2 ^ 64 - 1 ∨ y.b = 2 ^ 64 - 1) ∨
    ∃ p : Int, (x.t : Int) - x.b ≤ p ∧ p ≤ x.t + x.b ∧ (y.t : Int) - y.b ≤ p ∧ p ≤ y.t + y.b := by
  rw [intervals_meet_iff, intervalFlags]
  by_cases hu : x.b = Config.unb ∨ y.b = Config.unb
  · simp [hu]
  · rw [if_neg hu]
    by_cases hd : ((x.t : Int) - y.t).natAbs ≤ x.b + y.b
    · simp [hd]
    · simp [hd, hu]

/-- N of an interval comparison: the first interval lies before the other (R317). -/
theorem intervalFlags_n (x y : TReg) : (intervalFlags x y).2 = true ↔ ¬ (x.b = 2 ^ 64 - 1 ∨ y.b = 2 ^ 64 - 1) ∧
    (x.t : Int) + x.b < (y.t : Int) - y.b := by
  rw [intervalFlags]
  by_cases hu : x.b = Config.unb ∨ y.b = Config.unb
  · simp [hu]
  · rw [if_neg hu]
    by_cases hd : ((x.t : Int) - y.t).natAbs ≤ x.b + y.b
    · simp [hd, hu]; omega
    · simp [hd, hu]; omega

/-- The fraction of a second in a value of 48 bits needs no mask (R318). -/
theorem tsetField_sub (x : TReg) (w : Nat) : tsetField x 1 w = if w < 2 ^ 48 ∧ w / 2 ^ 18 < 10 ^ 9 then
    some { x with t := x.t / (10 ^ 9 * 2 ^ 18) * (10 ^ 9 * 2 ^ 18) + w / 2 ^ 18 * 2 ^ 18 + w % 2 ^ 18 } else none := by
  rw [tsetField]
  by_cases hw : w < 2 ^ 48
  · have hns : w / 2 ^ 18 % 2 ^ 30 = w / 2 ^ 18 := by omega
    rw [hns]
    rfl
  · rw [if_neg (fun h => hw h.1), if_neg (fun h => hw h.1)]

/-- The field of a time register that TGET reads (R318). -/
def tgetField (x : TReg) (field : Nat) : Nat :=
  match field with
  | 0 => tregSec x.t
  | 1 => tregSub x.t
  | 2 => x.b
  | _ => x.dom

/-! ### The instructions -/

section
variable {s : State} {t tn field : Nat} (h : s.mayRun t 4)
include h

/-- An instruction that writes a time register and V. -/
theorem wroteT_of_issue {i : Instr} {d : DIns} {y : TReg} {v : Bool} (hexec : exec i s = .next (s.issue t 4 d))
    (hissue : s.issue t 4 d = (((s.issued t).setTreg t tn y).setFlags t [(.v, v)]).goOn t (s.pc t + 4) 1) :
    ∃ u : State, exec i s = .next u ∧ WroteT s u t (s.pc t + 4) tn y ∧ s.setV u t v := by
  rw [hissue] at hexec
  exact ⟨_, hexec, wroteT_setTreg_setFlags h.1 h.2.1 tn y _, setV_goOn (fun f => (State.setTreg_flag tn y t f).trans (s.issued_flag t t f)) v⟩

/-- An instruction of a time register that sets V alone. -/
theorem keptT_of_issue {i : Instr} {d : DIns} {v : Bool} (hexec : exec i s = .next (s.issue t 4 d))
    (hissue : s.issue t 4 d = ((s.issued t).setFlags t [(.v, v)]).goOn t (s.pc t + 4) 1) :
    ∃ u : State, exec i s = .next u ∧ WroteT s u t (s.pc t + 4) tn (s.treg t tn) ∧ s.setV u t v := by
  rw [hissue] at hexec
  exact ⟨_, hexec, wroteT_setFlags h.1 h.2.1 tn _, setV_goOn (fun f => s.issued_flag t t f) v⟩

theorem tset_some {gs : Nat} {y : TReg} (hy : tsetField (s.treg t tn) field (s.g t gs).toNat = some y) :
    ∃ u : State, exec (.tset t tn gs field) s = .next u ∧ WroteT s u t (s.pc t + 4) tn y ∧ s.setV u t false := by
  refine wroteT_of_issue h exec_tset ((State.issue_of_mayRun_size (.inl rfl) h rfl).trans ?_)
  simp only [State.effect, State.issued_pc, State.issued_treg, State.issued_g, hy]

theorem tset_none {gs : Nat} (hy : tsetField (s.treg t tn) field (s.g t gs).toNat = none) :
    ∃ u : State, exec (.tset t tn gs field) s = .next u ∧ WroteT s u t (s.pc t + 4) tn (s.treg t tn) ∧ s.setV u t true := by
  refine keptT_of_issue h exec_tset ((State.issue_of_mayRun_size (.inl rfl) h rfl).trans ?_)
  simp only [State.effect, State.issued_pc, State.issued_treg, State.issued_g, hy]

/-- TSET by whether its value is in range (R318). -/
theorem tset_sets {gs : Nat} {ok : Prop} [Decidable ok] {y : TReg}
    (hy : tsetField (s.treg t tn) field (s.g t gs).toNat = if ok then some y else none) :
    ∃ u : State, exec (.tset t tn gs field) s = .next u ∧ WroteT s u t (s.pc t + 4) tn (if ok then y else s.treg t tn) ∧
      s.setV u t (decide (¬ ok)) := by
  by_cases hok : ok
  · rw [if_pos hok, decide_eq_false (not_not.2 hok)]
    exact tset_some h (hy.trans (if_pos hok))
  · rw [if_neg hok, decide_eq_true hok]
    exact tset_none h (hy.trans (if_neg hok))

/-- The instant that TADD forms (R315). -/
def State.taddInstant (s : State) (t ta gs : Nat) (ns : Bool) : Int :=
  (s.treg t ta).t + (s.g t gs).toInt * (if ns then 2 ^ 18 else 1)

theorem issue_tadd {ta gs : Nat} {ns : Bool} : s.issue t 4 (.tadd tn ta gs ns) =
    (if 0 ≤ s.taddInstant t ta gs ns ∧ s.taddInstant t ta gs ns < timeSpan then
      ((s.issued t).setTreg t tn { s.treg t ta with t := (s.taddInstant t ta gs ns).toNat }).setFlags t [(.v, false)]
    else (s.issued t).setFlags t [(.v, true)]).goOn t (s.pc t + 4) 1 := by
  rw [State.issue_of_mayRun_size (.inl rfl) h rfl]
  simp only [State.effect, State.issued_pc, State.issued_treg, State.issued_g]
  rfl

/-- The state of a TSUB before its bound, if any, is written (R316). -/
def State.tsubbed (s : State) (t gd : Nat) (d : Int) : State :=
  (s.setG t gd (BitVec.ofInt 64 (max (-(2 ^ 63 - 1)) (min (2 ^ 63 - 1) d)))).setFlags t [(.v, decide (2 ^ 63 ≤ d.natAbs))]

theorem issue_tsub_elim {gd ta tb : Nat} {wb : Option Nat} {d : Int} (hd : Int.ofNat (s.treg t ta).t - Int.ofNat (s.treg t tb).t = d) :
    s.issue t 4 (.tsub gd ta tb wb) = (wb.elim ((s.issued t).tsubbed t gd d) fun bn =>
      ((s.issued t).tsubbed t gd d).setTreg t bn { s.treg t bn with b := boundSum [(s.treg t ta).b, (s.treg t tb).b] }).goOn
        t (s.pc t + 4) 1 := by
  have hv : decide ((2 : Int) ^ 63 - 1 < d.natAbs) = decide (2 ^ 63 ≤ d.natAbs) := by
    rw [decide_eq_decide]
    omega
  rw [State.issue_of_mayRun_size (.inl rfl) h rfl]
  simp only [State.effect, State.issued_pc, State.issued_treg, hd, clampInt_eq (show -((2 : Int) ^ 63 - 1) ≤ 2 ^ 63 - 1 by decide), hv,
    State.tsubbed]
  cases wb with
  | none => rfl
  | some bn => simp only [Option.elim_some, State.setFlags_treg, State.setG_treg, State.issued_treg]

/-- TSUB without a bound (R316). -/
theorem issue_tsub {gd ta tb : Nat} : s.issue t 4 (.tsub gd ta tb none) =
    ((s.issued t).tsubbed t gd (Int.ofNat (s.treg t ta).t - Int.ofNat (s.treg t tb).t)).goOn t (s.pc t + 4) 1 := issue_tsub_elim h rfl

/-- TSUB with its bound in a time register (R316). -/
theorem issue_tsub_bound {gd ta tb bn : Nat} : s.issue t 4 (.tsub gd ta tb (some bn)) =
    (((s.issued t).tsubbed t gd (Int.ofNat (s.treg t ta).t - Int.ofNat (s.treg t tb).t)).setTreg t bn
      { s.treg t bn with b := boundSum [(s.treg t ta).b, (s.treg t tb).b] }).goOn t (s.pc t + 4) 1 := issue_tsub_elim h rfl

theorem issue_tcmp {ta tb : Nat} : s.issue t 4 (.tcmp ta tb false) =
    ((s.issued t).setFlags t [(.z, (s.treg t ta).t == (s.treg t tb).t), (.n, decide ((s.treg t ta).t < (s.treg t tb).t)), (.c, false),
      (.v, false)]).goOn t (s.pc t + 4) 1 := by
  rw [State.issue_of_mayRun_size (.inl rfl) h rfl]
  simp only [State.effect, State.issued_pc, State.issued_treg]
  rfl

theorem issue_tcmp_intervals {ta tb : Nat} : s.issue t 4 (.tcmp ta tb true) =
    ((s.issued t).setFlags t [(.z, (intervalFlags (s.treg t ta) (s.treg t tb)).1),
      (.n, (intervalFlags (s.treg t ta) (s.treg t tb)).2)]).goOn t (s.pc t + 4) 1 := by
  rw [State.issue_of_mayRun_size (.inl rfl) h rfl]
  simp only [State.effect, State.issued_pc, State.issued_treg]
  rfl

theorem tget_leaves {gd : Nat} {x : Nat} (hx : tgetField (s.treg t tn) field = x) :
    ∃ u : State, exec (.tget t gd tn field) s = .next u ∧ s.sameFlags u t ∧ WroteG s u t (s.pc t + 4) gd (BitVec.ofNat 64 x) := by
  have hissue : s.issue t 4 (.tget gd tn field) = ((s.issued t).setG t gd (BitVec.ofNat 64 x)).goOn t (s.pc t + 4) 1 := by
    rw [State.issue_of_mayRun_size (.inl rfl) h rfl, ← hx]
    simp only [State.effect, State.issued_pc, State.issued_treg]
    rfl
  obtain ⟨u, hu, hw, hflags⟩ := wroteG_of_issue h exec_tget hissue
  exact ⟨u, hu, hflags, hw⟩

end

end Sys2Proof.Machine

open Sys2Proof Sys2Proof.Machine

/-- Settles O27, instruction by instruction. -/
theorem timeRegisterInstructions : Obligations.TimeRegisterInstructions := by
  intro s t h next
  have hissued : ∀ f, (s.issued t).flag t f = s.flag t f := fun f => s.issued_flag t t f
  refine ⟨?tadd, ?tsub, ?tcmp, ?tget, ?tset⟩
  case tadd =>
    intro tn ta gs ns x y
    refine ⟨fun h0 hlt => ?inFormat, fun hout => ?outside⟩
    case inFormat =>
      have hin : 0 ≤ s.taddInstant t ta gs ns ∧ s.taddInstant t ta gs ns < timeSpan := ⟨h0, hlt⟩
      exact wroteT_of_issue h exec_tadd ((issue_tadd h).trans (congrArg (State.goOn · t next 1) (if_pos hin)))
    case outside =>
      have hin : ¬ (0 ≤ s.taddInstant t ta gs ns ∧ s.taddInstant t ta gs ns < timeSpan) :=
        fun hin => hout.elim (not_lt.2 hin.1) (not_le.2 hin.2)
      exact keptT_of_issue h exec_tadd ((issue_tadd h).trans (congrArg (State.goOn · t next 1) (if_neg hin)))
  case tsub =>
    intro gd ta tb d g b
    have hflags : ∀ f, ((s.issued t).setG t gd g).flag t f = s.flag t f := fun f => (State.setG_flag h.1 gd g f).trans (hissued f)
    have hplain := exec_tsub.trans (congrArg Host.Outcome.next (issue_tsub (gd := gd) (ta := ta) (tb := tb) h))
    refine ⟨⟨_, hplain, ?_, ?_⟩, fun bn => ⟨_, exec_tsub.trans (congrArg Host.Outcome.next (issue_tsub_bound h)), ?_⟩⟩
    · exact wroteG_setG_setFlags h.1 h.2.1 _
    · exact setV_goOn hflags _
    · have htreg : ∀ m, (((s.issued t).tsubbed t gd d).setTreg t bn
          { s.treg t bn with b := boundSum [(s.treg t ta).b, (s.treg t tb).b] }).treg t m =
            if m % 8 = bn % 8 then { s.treg t bn with b := boundSum [(s.treg t ta).b, (s.treg t tb).b] } else s.treg t m := fun m => by
        rw [State.treg_setTreg, State.tsubbed, State.setFlags_treg, State.setG_treg, State.issued_treg]
      have hbn := htreg bn
      rw [if_pos rfl] at hbn
      refine ⟨fun hgd => ?_, ?_, ?_, ?_, ?_, fun m hm => ?_, ?_⟩
      · rw [State.goOn_g h.1, State.setTreg_g, State.tsubbed, State.setFlags_g h.1, State.g_setG, if_pos rfl, if_neg hgd]
      · rw [State.goOn_treg, hbn]
      · rw [State.goOn_treg, hbn]
      · refine ⟨?_, fun f hf => ?_⟩
        · rw [State.goOn_flag, State.setTreg_flag, State.tsubbed, State.flag_setFlags]; rfl
        · rw [State.goOn_flag, State.setTreg_flag, State.tsubbed, State.flag_setFlags, hflags]
          exact if_neg hf
      · rw [State.goOn_treg, hbn, ← boundSum_pair]
      · rw [State.goOn_treg, htreg, if_neg hm]
      · exact ((((OnlyThread.issued s t).trans (OnlyThread.setG h.1 gd g)).trans (OnlyThread.setFlags h.1 _)).trans
          (OnlyThread.setTreg bn _)).trans (OnlyThread.goOn h.1)
  case tcmp =>
    intro ta tb x y lo hi unb
    refine ⟨⟨_, exec_tcmp.trans (congrArg Host.Outcome.next (issue_tcmp h)), wroteG_setFlags h.1 h.2.1 _, ?_⟩,
      ⟨_, exec_tcmp.trans (congrArg Host.Outcome.next (issue_tcmp_intervals h)), wroteG_setFlags h.1 h.2.1 _, ?_, ?_, fun f hz hn => ?_⟩⟩
    · rw [← beq_eq_decide]
      exact setZNCV_goOn hissued _ _ _ _
    · rw [flag_goOn_setFlags hissued]
      exact intervalFlags_z x y
    · rw [flag_goOn_setFlags hissued]
      exact intervalFlags_n x y
    · rw [flag_goOn_setFlags hissued]
      exact (if_neg hn).trans (if_neg hz)
  case tget =>
    intro gd tn field hf x
    have hsub : tregSub x.t = x.t / 2 ^ 18 % 10 ^ 9 * 2 ^ 18 + x.t % 2 ^ 18 := by
      simp only [tregSub, Config.secTicks]
      omega
    interval_cases field
    · exact tget_leaves h rfl
    · exact tget_leaves h hsub
    · exact tget_leaves h rfl
    · exact tget_leaves h rfl
  case tset =>
    intro tn gs x g sets
    refine ⟨tset_sets h ?_, tset_sets h ?_, ?_, tset_sets h ?_⟩
    · rfl
    · exact tsetField_sub (s.treg t tn) (s.g t gs).toNat
    · exact tset_sets (ok := True) h rfl
    · rfl
end

section
/-! REFUTATIONS. A thread's end (R336, R355, R361) in a state that is not well formed, where it writes a general register. -/
namespace Sys2Proof.Machine

/-- A state that is not well formed: queue 0 holds aside a result of EMU 16577, where RIM has 32 units. The address that the stride of
EMUm_STAT gives this unit is that of G2 of thread 0. Thread 0 is READY and has an item open on the queue, which is not enabled, so that
the item held aside is dropped as the thread's is aborted (R365, R366, R372). -/
def holdsStrayResult : State :=
  let s := (State.reset.setThrState 0 thReady).setQueue 0 { opn := some (.thread 0, 0), held := some ([(0, true)], .emu 16577) }
  { s with cpx := { s.cpx with mode := .track } }

theorem holdsStrayResult_g : holdsStrayResult.g 0 2 = 0 := by decide +kernel

theorem holdsStrayResult_mayRun : holdsStrayResult.mayRun 0 4 := ⟨by decide, by decide +kernel, by decide +kernel, by decide⟩

/-- The stray result is counted as lost in EMUm_STAT.LOST (R146), which is the upper half of G2. -/
theorem holdsStrayResult_faultThr_g : (holdsStrayResult.faultThr 0 0 0 0 0).g 0 2 = 0x100000000 := by decide +kernel

theorem holdsStrayResult_halt_g : (holdsStrayResult.issue 0 4 .halt).g 0 2 = 0x100000000 := by decide +kernel

theorem holdsStrayResult_stopThr_g : (holdsStrayResult.stopThr 0).g 0 2 = 0x100000000 := by decide +kernel

/-- THR_STOP of thread 0 by the firmware, whose commands complete without a trace (R646). -/
theorem exec_thrStop_holdsStrayResult : exec (.thrStop .firmware 0) holdsStrayResult = .next (holdsStrayResult.stopThr 0) := by
  have hadmits : holdsStrayResult.admits 0x63 = true := by decide +kernel
  exact exec_thrStop.trans (congrArg Host.Outcome.next (State.runCmd_ok_of_admits hadmits _ .firmware (by decide +kernel) []))

end Sys2Proof.Machine

open Sys2Proof Sys2Proof.Machine

/-- Refutes O32, in its clause on HALT (R336): the general registers of a thread that halts are not as they were where the end of its
open item drops an item that the queue holds aside for an EMU beyond RIM's 32 units, whose EMUm_STAT would stand at the address of one
of them. The statement takes such a state in. -/
theorem not_controlInstructionsMovePc : ¬ Obligations.ControlInstructionsMovePc := by
  intro h
  obtain ⟨-, h⟩ := h holdsStrayResult 0
  obtain ⟨-, -, ⟨u, hu, -, -, -, hg, -⟩, -⟩ := h holdsStrayResult_mayRun
  have hu : holdsStrayResult.issue 0 4 .halt = u := Host.Outcome.next.inj hu
  have hkept := hg 2
  rw [← hu, holdsStrayResult_halt_g, holdsStrayResult_g] at hkept
  exact absurd hkept (by decide)

/-- Refutes O33, in its clause on the general registers (R361): in the same state, which is not well formed and which the statement takes
in, a thread's exception counts the loss of the stray result in G2. -/
theorem not_exceptionsAreRecorded : ¬ Obligations.ExceptionsAreRecorded := by
  intro h
  obtain ⟨-, -, -, -, -, hg, -⟩ := h holdsStrayResult 0 0 0 0 0 (by decide) (by decide) (by decide) (by decide)
  have hkept := hg 2
  rw [holdsStrayResult_faultThr_g, holdsStrayResult_g] at hkept
  exact absurd hkept (by decide)

/-- Refutes O35, in its clause on THR_STOP of a READY thread (R355): in the same state, which is not well formed and which the statement
takes in, the general registers of the stopped thread are not as they were. -/
theorem not_threadCommandsComplete : ¬ Obligations.ThreadCommandsComplete := by
  intro h
  obtain ⟨-, h, -⟩ := h holdsStrayResult .firmware 0 (by decide)
  obtain ⟨-, -, hstop⟩ := h ⟨.inl (by decide +kernel), by decide +kernel⟩ (by decide +kernel)
  obtain ⟨u, hu, -, -, -, hg, -⟩ := hstop (.inl (by decide +kernel))
  have hu : holdsStrayResult.stopThr 0 = u := Host.Outcome.next.inj (exec_thrStop_holdsStrayResult.symm.trans hu)
  have hkept := hg 2
  rw [← hu, holdsStrayResult_stopThr_g, holdsStrayResult_g] at hkept
  exact absurd hkept (by decide)
end

section
/-! PROOF. QPUT, QGET and QCNT (R329, R367). -/
namespace Sys2Proof.Machine

/-! ### What a queue instruction leaves as it was -/

/-- From s to u the queues other than q, the time registers of thread t, the data SRAM, the time engine and the outputs are as they
were. -/
structure State.KeptBesides (s u : State) (t q : Nat) : Prop where
  queues : ∀ k : Nat, k ≠ q → u.queue k = s.queue k
  treg : ∀ n : Nat, u.treg t n = s.treg t n
  dsram : u.dsq.dsram = s.dsq.dsram
  tse : u.tse = s.tse
  out : u.out = s.out

theorem OnlyThread.queue {s u : State} {t : Nat} (h : OnlyThread s u t) (k : Nat) : u.queue k = s.queue k :=
  congrArg (tabGet ({} : Queue) · k) h.dsq.1

section
variable {s v u : State} {t q : Nat}

theorem State.KeptBesides.trans (h : s.KeptBesides v t q) (h' : v.KeptBesides u t q) : s.KeptBesides u t q where
  queues k hk := (h'.queues k hk).trans (h.queues k hk)
  treg n := (h'.treg n).trans (h.treg n)
  dsram := h'.dsram.trans h.dsram
  tse := h'.tse.trans h.tse
  out := h'.out.trans h.out

theorem OnlyThread.keptBesides (h : OnlyThread s u t) (htreg : ∀ n, u.treg t n = s.treg t n) : s.KeptBesides u t q where
  queues k _ := h.queue k
  treg := htreg
  dsram := h.mem.1
  tse := h.units.1
  out := h.rest.1

theorem State.KeptBesides.setQueue (x : Queue) : s.KeptBesides (s.setQueue q x) t q where
  queues _ hk := State.queue_setQueue_ne s x hk
  treg _ := rfl
  dsram := rfl
  tse := rfl
  out := rfl

theorem State.park_treg (st next gd n : Nat) : (s.park t st next gd).treg t n = s.treg t n :=
  congrArg (fun x => tabGet ({} : TReg) x (n % 8)) (State.tr_setThr s t t (x := { s.thr t with at' := s.pc t, gd := gd }) rfl)

theorem State.park_flag (st next gd : Nat) (f : Flag) : (s.park t st next gd).flag t f = s.flag t f := by
  have h : (s.park t st next gd).get F.thrStat_FLAGS t = s.get F.thrStat_FLAGS t :=
    State.get_park st rfl (by decide) (by decide) (by decide)
  rw [State.flag, h, State.flag]

@[simp] theorem State.issued_queue (s : State) (t k : Nat) : (s.issued t).queue k = s.queue k := (OnlyThread.issued s t).queue k

@[simp] theorem State.issued_qCanPut (s : State) (t q : Nat) (m : Master) : (s.issued t).qCanPut q m = s.qCanPut q m := by
  simp only [State.qCanPut, State.qDepth, State.issued_queue, State.issued_get, State.issued_getB]
  rfl

@[simp] theorem State.issued_qCanGet (s : State) (t q : Nat) (m : Master) : (s.issued t).qCanGet q m = s.qCanGet q m := by
  simp only [State.qCanGet, State.issued_queue]

theorem State.keptBesides_issued (s : State) (t q : Nat) : s.KeptBesides (s.issued t) t q :=
  (OnlyThread.issued s t).keptBesides (s.issued_treg t t)

theorem State.keptBesides_goOn_setFlags (ht : t < 128) (l : List (Flag × Bool)) (pc n : Nat) :
    s.KeptBesides ((s.setFlags t l).goOn t pc n) t q :=
  ((OnlyThread.setFlags ht l).trans (OnlyThread.goOn ht)).keptBesides (State.goOn_treg t)

end

/-! ### The queue -/

section
variable {s : State} {q : Nat} {m : Master}

theorem State.qRelease_of_not_held (h : (s.queue q).held = none) : s.qRelease q = s := by
  rw [State.qRelease, h]
  split
  · rename_i h'; cases h'
  · rfl

/-- A queue with one more word, of m's item (R365). -/
def State.withWord (s : State) (q : Nat) (m : Master) (w : Word) (fin : Bool) : Queue :=
  let x := s.queue q
  { x with words := x.words ++ [(w, fin)], wr := s.qStep q x.wr 1,
           opn := if fin then none else some (m, (match x.opn with | none => 0 | some (_, n) => n) + 1) }

theorem State.withWord_words (s : State) (q : Nat) (m : Master) (w : Word) (fin : Bool) :
    (s.withWord q m w fin).words = (s.queue q).words ++ [(w, fin)] := rfl

theorem State.withWord_opn (s : State) (q : Nat) (m : Master) (w : Word) (fin : Bool) :
    (s.withWord q m w fin).opn = none ↔ fin = true := by cases fin <;> simp [State.withWord]

theorem State.qPut_of_not_held (h : (s.queue q).held = none) (w : Word) (fin : Bool) :
    s.qPut q m w fin = s.setQueue q (s.withWord q m w fin) :=
  State.qRelease_of_not_held (by rw [State.queue_setQueue_same]; exact h)

end

/-! ### The instructions, where no thread waits on the queue -/

section
variable {s : State} {t g q next : Nat} {fin nb : Bool} (hpart : s.get F.qCfg_PART q = s.thrPart t) (hw : (s.queue q).waiters = [])
include hpart hw

theorem State.qputIns_of_canPut (ht : t < 128) (hheld : (s.queue q).held = none) (hcan : s.qCanPut q (.thread t) = true) :
    s.qputIns t g q next fin nb =
      ((s.setQueue q (s.withWord q (.thread t) (s.g t g) fin)).setFlags t [(.v, false)]).goOn t next 2 := by
  have hafter := (((OnlyThread.setFlags (s := s.setQueue q (s.withWord q (.thread t) (s.g t g) fin)) ht [(.v, false)]).trans
    (OnlyThread.goOn (pc := next) (n := 2) ht)).queue q).trans (State.queue_setQueue_same s q _)
  rw [State.qputIns, if_neg (not_not.2 hpart), State.qAssign_of_no_waiters hw, if_pos hcan, State.qPut_of_not_held hheld]
  exact State.qAssign_of_no_waiters ((congrArg Queue.waiters hafter).trans hw)

theorem State.qputIns_of_cannotPut (hcan : s.qCanPut q (.thread t) = false) :
    s.qputIns t g q next fin nb =
      if nb then (s.setFlags t [(.v, true)]).goOn t next 2 else s.queueWait t q next 0 (some (s.g t g, fin)) := by
  rw [State.qputIns, if_neg (not_not.2 hpart), State.qAssign_of_no_waiters hw, if_neg (by simp [hcan])]

theorem State.qgetIns_of_canGet (ht : t < 128) (hcan : s.qCanGet q (.thread t) = true) :
    s.qgetIns t g q next nb = (((s.qTake q (.thread t)).setG t g (s.qHead q).1).setFlags t
      [(.c, (s.qHead q).2), (.v, false)]).goOn t next 2 := by
  have hafter := ((((OnlyThread.setG (s := s.qTake q (.thread t)) ht g (s.qHead q).1).trans
    (OnlyThread.setFlags ht [(.c, (s.qHead q).2), (.v, false)])).trans (OnlyThread.goOn (pc := next) (n := 2) ht)).queue q).trans
      (State.queue_setQueue_same s q _)
  rw [State.qgetIns, if_neg (not_not.2 hpart), State.qAssign_of_no_waiters hw, if_pos hcan]
  exact State.qAssign_of_no_waiters ((congrArg Queue.waiters hafter).trans hw)

theorem State.qgetIns_of_cannotGet (hcan : s.qCanGet q (.thread t) = false) :
    s.qgetIns t g q next nb =
      if nb then ((s.setG t g 0).setFlags t [(.c, false), (.v, true)]).goOn t next 2 else s.queueWait t q next g none := by
  rw [State.qgetIns, if_neg (not_not.2 hpart), State.qAssign_of_no_waiters hw, if_neg (by simp [hcan])]

end

/-- What a thread that waits on a queue leaves (R355, R368). -/
structure State.WaitsOn (s u : State) (t q next : Nat) (put : Option (Word × Bool)) : Prop where
  state : u.thrState t = 3
  pc : u.pc t = next % 2 ^ 21
  words : (u.queue q).words = (s.queue q).words
  waiters : ((u.queue q).waiters.map fun y => (y.thread, y.put)) = [(t, put)]
  flags : s.sameFlags u t
  kept : s.KeptBesides u t q

theorem State.queueWait_waits {s : State} {t q next gd : Nat} {put : Option (Word × Bool)} (ht : t < 128)
    (hw : (s.queue q).waiters = []) : s.WaitsOn (s.queueWait t q next gd put) t q next put := by
  have hqueue : (s.park t thQueue next gd).queue q = s.queue q := (OnlyThread.park ht _).queue q
  refine ⟨State.park_thrState thQueue, State.park_pc thQueue, ?words, ?waiters, State.park_flag _ _ _,
    ((OnlyThread.park ht _).keptBesides (State.park_treg _ _ _)).trans (.setQueue _)⟩
  case words => rw [State.queueWait, State.queue_setQueue_same, hqueue]
  case waiters => rw [State.queueWait, State.queue_setQueue_same, hqueue, hw]; rfl

theorem State.raise_issued (s : State) (t cause : Nat) :
    (s.issued t).raise t cause = (s.issued t).faultThr t cause 0 (s.pc t) 0 := by
  rw [State.raise, State.issued_pc]
  rfl

theorem State.qHead_of_words {s : State} {q : Nat} {y : Word × Bool} {l : List (Word × Bool)} (h : (s.queue q).words = y :: l) :
    s.qHead q = y := by
  rw [State.qHead, h]; rfl

end Sys2Proof.Machine

open Sys2Proof Sys2Proof.Machine

/-- Settles O30: the issue makes its thread alone go on; then the queue's own rule, since no thread waits on it. -/
theorem queueInstructionsMoveWords : Obligations.QueueInstructionsMoveWords := by
  intro s t g q fin nb h hq hw hheld next x others waits
  have ht : t < 128 := h.1
  have hready : (s.issued t).thrState t = 1 := (s.issued_thrState t t).trans h.2.1
  have hmod : q % 256 = q := Nat.mod_eq_of_lt hq
  have hqueue : (s.issued t).queue q = x := s.issued_queue t q
  have hwaiters : ((s.issued t).queue q).waiters = [] := by rw [hqueue]; exact hw
  have hnotHeld : ((s.issued t).queue q).held = none := by rw [hqueue]; exact hheld
  have hkept : s.KeptBesides (s.issued t) t q := s.keptBesides_issued t q
  have hflag : ∀ f, (s.issued t).flag t f = s.flag t f := s.issued_flag t t
  have hpc : (s.issued t).pc t + 4 = next := congrArg (· + 4) (s.issued_pc t t)
  have hput : s.storesPend t = false → exec (.qput t g q fin nb) s = .next ((s.issued t).qputIns t g q next fin nb) := fun hst => by
    rw [exec_qput, execQput, hmod, State.issue_of_mayRun h _ fun _ => hst, ← hpc]
    rfl
  have hget : exec (.qget t g q nb) s = .next ((s.issued t).qgetIns t g q next nb) := by
    rw [exec_qget, execQget, hmod, State.issue_of_mayRun_size (.inl rfl) h rfl, ← hpc]
    rfl
  have hothers : ∀ u, s.KeptBesides u t q → others u := fun u k => ⟨k.queues, k.treg, k.dsram, k.tse, k.out⟩
  have hwaits : ∀ u put, (s.issued t).WaitsOn u t q next put → waits u put := fun u put k =>
    ⟨k.state, k.pc, k.words.trans (congrArg Queue.words hqueue), k.waiters, fun f => (k.flags f).trans (hflag f),
      hothers u (hkept.trans k.kept)⟩
  have hcnt : exec (.qcnt t g q) s = .next (if (s.issued t).get F.qCfg_PART q ≠ (s.issued t).thrPart t then (s.issued t).raise t 4
      else ((s.issued t).setG t g (BitVec.ofNat 64 (qCount ((s.issued t).queue q)))).goOn t next 2) := by
    rw [exec_qcnt, execQcnt, hmod, State.issue_of_mayRun_size (.inl rfl) h rfl, ← hpc]
    rfl
  refine ⟨fun hother => ?denied, fun hmine => ?_⟩
  case denied =>
    have hother : (s.issued t).get F.qCfg_PART q ≠ (s.issued t).thrPart t := by rwa [State.issued_get, State.issued_thrPart]
    rw [hget, hcnt, State.qgetIns, if_pos hother, if_pos hother, State.raise_issued]
    exact ⟨fun hst => by rw [hput hst, State.qputIns, if_pos hother, State.raise_issued], rfl, rfl⟩
  have hpart : (s.issued t).get F.qCfg_PART q = (s.issued t).thrPart t := by rwa [State.issued_get, State.issued_thrPart]
  refine ⟨?counts, fun hst hcan => ?puts, fun hst hcan => ?cannotPut, fun hcan y last l hwords => ?gets, fun hcan => ?cannotGet⟩
  case counts =>
    rw [if_neg (not_not.2 hpart), hqueue] at hcnt
    exact ⟨_, hcnt, sameFlags_goOn fun f => (State.setG_flag ht g _ f).trans (hflag f), wroteG_setG ht h.2.1⟩
  case puts =>
    have hcan : (s.issued t).qCanPut q (.thread t) = true := by rwa [State.issued_qCanPut]
    rw [State.qputIns_of_canPut hpart hwaiters ht hnotHeld hcan, State.issued_g] at hput
    have hafter := ((OnlyThread.setFlags (s := (s.issued t).setQueue q ((s.issued t).withWord q (.thread t) (s.g t g) fin)) ht
      [(.v, false)]).trans (OnlyThread.goOn (pc := next) (n := 2) ht)).queue q
    rw [State.queue_setQueue_same] at hafter
    have hflags : ∀ f, ((s.issued t).setQueue q ((s.issued t).withWord q (.thread t) (s.g t g) fin)).flag t f = s.flag t f := hflag
    refine ⟨_, hput hst, ?words, ?opn, setV_goOn hflags false, ?ready, State.goOn_pc, fun r => ?regs,
      hothers _ (hkept.trans ((State.KeptBesides.setQueue _).trans (State.keptBesides_goOn_setFlags ht _ _ _)))⟩
    case words => rw [hafter, State.withWord_words, hqueue]
    case opn => rw [hafter]; exact State.withWord_opn _ q _ _ fin
    case ready => exact (State.goOn_thrState.trans (State.setFlags_thrState _)).trans hready
    case regs => exact ((State.goOn_g ht r).trans (State.setFlags_g ht _ r)).trans (s.issued_g t t r)
  case cannotPut =>
    have hcan : (s.issued t).qCanPut q (.thread t) = false := by rwa [State.issued_qCanPut]
    rw [State.qputIns_of_cannotPut hpart hwaiters hcan, State.issued_g] at hput
    refine ⟨_, hput hst, fun hnb => ?returns, fun hnb => ?waits⟩
    case returns =>
      rw [if_pos hnb]
      exact ⟨setV_goOn hflag true, wroteG_setFlags ht h.2.1 _⟩
    case waits =>
      rw [if_neg (by simp [hnb])]
      exact hwaits _ _ (State.queueWait_waits ht hwaiters)
  case gets =>
    have hcan : (s.issued t).qCanGet q (.thread t) = true := by rwa [State.issued_qCanGet]
    have hhead : (s.issued t).qHead q = (y, last) := State.qHead_of_words (by rw [hqueue]; exact hwords)
    have took := (s.issued t).qTake_took (.thread t) q
    rw [State.qgetIns_of_canGet hpart hwaiters ht hcan, hhead] at hget
    have honly := ((OnlyThread.setG (s := (s.issued t).qTake q (.thread t)) ht g y).trans
      (OnlyThread.setFlags ht [(.c, last), (.v, false)])).trans (OnlyThread.goOn (pc := next) (n := 2) ht)
    have hflags := flag_goOn_setFlags (v := ((s.issued t).qTake q (.thread t)).setG t g y) (pc := next) (n := 2)
      (l := [(.c, last), (.v, false)]) (fun f => (State.setG_flag ht g y f).trans (hflag f))
    refine ⟨_, hget, fun hg => ?dest, hflags .c, hflags .v, fun f hc hv => ?flags, ?words, ?claim, ?ready, State.goOn_pc,
      hothers _ (hkept.trans ((State.KeptBesides.setQueue _).trans (honly.keptBesides fun n => ?treg)))⟩
    case dest => rw [State.goOn_g ht, State.setFlags_g ht, State.g_setG, if_pos rfl, if_neg hg]
    case treg => rw [State.goOn_treg, State.setFlags_treg, State.setG_treg]
    case flags => exact (hflags f).trans ((if_neg hv).trans (if_neg hc))
    case words => rw [honly.queue q, took.words, hqueue, hwords]; rfl
    case claim => rw [honly.queue q, took.claim, hhead]
    case ready => exact (State.goOn_thrState.trans ((State.setFlags_thrState _).trans (State.setG_thrState ht g y))).trans hready
  case cannotGet =>
    have hcan : (s.issued t).qCanGet q (.thread t) = false := by rwa [State.issued_qCanGet]
    rw [State.qgetIns_of_cannotGet hpart hwaiters hcan] at hget
    refine ⟨_, hget, fun hnb => ?returns, fun hnb => ?waits⟩
    case returns =>
      have hflags := flag_goOn_setFlags (v := (s.issued t).setG t g 0) (pc := next) (n := 2) (l := [(.c, false), (.v, true)])
        (fun f => (State.setG_flag ht g 0 f).trans (hflag f))
      have hwrote : WroteG s ((((s.issued t).setG t g 0).setFlags t [(.c, false), (.v, true)]).goOn t next 2) t next g 0 :=
        wroteG_setG_setFlags ht h.2.1 _
      rw [if_pos hnb]
      exact ⟨hflags .v, hflags .c, hwrote⟩
    case waits =>
      rw [if_neg (by simp [hnb])]
      exact hwaits _ _ (State.queueWait_waits ht hwaiters)
end

section
/-! PROOF. The share rule (R351). -/
namespace Sys2Proof.Machine

/-! ### Least elements of a rising list -/

/-- Of a rising list, `find?` gives the least element that satisfies a predicate. -/
theorem find?_rising_iff {l : List Nat} (hl : l.Pairwise (· < ·)) (f : Nat → Bool) (p : Nat) :
    l.find? f = some p ↔ p ∈ l ∧ f p = true ∧ ∀ q ∈ l, f q = true → p ≤ q := by
  induction l with
  | nil => simp
  | cons a l ih =>
    obtain ⟨ha, hl⟩ := List.pairwise_cons.1 hl
    by_cases hf : f a = true
    · rw [List.find?_cons_of_pos hf]
      constructor
      · rintro ⟨⟩
        refine ⟨List.mem_cons_self, hf, fun q hq _ => ?_⟩
        obtain rfl | hq := List.mem_cons.1 hq
        · exact le_rfl
        · exact (ha q hq).le
      · rintro ⟨hp, -, hmin⟩
        obtain rfl | hp := List.mem_cons.1 hp
        · rfl
        · exact absurd (ha p hp) (not_lt.2 (hmin a List.mem_cons_self hf))
    · rw [List.find?_cons_of_neg hf, ih hl]
      constructor
      · rintro ⟨hp, hfp, hmin⟩
        refine ⟨List.mem_cons_of_mem _ hp, hfp, fun q hq hfq => ?_⟩
        obtain rfl | hq := List.mem_cons.1 hq
        · exact absurd hfq hf
        · exact hmin q hq hfq
      · rintro ⟨hp, hfp, hmin⟩
        obtain rfl | hp := List.mem_cons.1 hp
        · exact absurd hfp hf
        · exact ⟨hp, hfp, fun q hq => hmin q (List.mem_cons_of_mem _ hq)⟩

/-! ### Tables written key by key -/

/-- A table each of whose entries at the keys of a list is rewritten from its own value. -/
theorem tabGet_foldl_tabSet (f : Nat → Int → Int) {l : List Nat} (hl : l.Nodup) (c : Tab Int) (q : Nat) :
    tabGet 0 (l.foldl (fun c p => tabSet 0 c p (f p (tabGet 0 c p))) c) q = if q ∈ l then f q (tabGet 0 c q) else tabGet 0 c q := by
  induction l generalizing c with
  | nil => rfl
  | cons a l ih =>
    obtain ⟨ha, hl⟩ := List.nodup_cons.1 hl
    rw [List.foldl_cons, ih hl]
    by_cases hq : q = a
    · subst hq
      rw [if_neg ha, if_pos List.mem_cons_self, tabGet_tabSet_same]
    · have hmem : q ∈ a :: l ↔ q ∈ l := List.mem_cons.trans (or_iff_right hq)
      rw [tabGet_tabSet_ne _ _ _ hq]
      simp only [hmem]

/-! ### The highest credit -/

theorem mem_of_topCredit {c : Tab Int} {l : List Nat} {p : Nat} (h : topCredit c l = some p) : p ∈ l := by
  induction l generalizing p with
  | nil => cases h
  | cons a l ih =>
    rw [topCredit] at h
    cases ht : topCredit c l with
    | none =>
      rw [ht] at h
      cases h
      exact List.mem_cons_self
    | some q =>
      rw [ht] at h
      simp only at h
      split at h
      · cases h
        exact List.mem_cons_of_mem _ (ih ht)
      · cases h
        exact List.mem_cons_self

/-- The partition of the highest credit, the lowest of equals, is chosen from a rising list. -/
theorem topCredit_eq_some {c : Tab Int} {l : List Nat} (hl : l.Pairwise (· < ·)) {p : Nat} (hp : p ∈ l)
    (hmax : ∀ q ∈ l, tabGet 0 c q ≤ tabGet 0 c p) (hfirst : ∀ q ∈ l, q < p → tabGet 0 c q < tabGet 0 c p) :
    topCredit c l = some p := by
  induction l with
  | nil => cases hp
  | cons a l ih =>
    obtain ⟨ha, hl⟩ := List.pairwise_cons.1 hl
    rw [topCredit]
    obtain rfl | hp := List.mem_cons.1 hp
    · cases ht : topCredit c l with
      | none => rfl
      | some q => exact if_neg (not_lt.2 (hmax q (List.mem_cons_of_mem _ (mem_of_topCredit ht))))
    · rw [ih hl hp (fun q hq => hmax q (List.mem_cons_of_mem _ hq)) fun q hq => hfirst q (List.mem_cons_of_mem _ hq)]
      exact if_pos (hfirst a List.mem_cons_self (ha p hp))

/-! ### The rule -/

section
variable (a : Arb) (window : Nat) (min weight : Nat → Nat) (ready : Nat → Bool)

/-- The partitions that are ready. -/
def readyParts : List Nat := (List.range 8).filter ready

theorem mem_readyParts (p : Nat) : p ∈ readyParts ready ↔ p < 8 ∧ ready p = true := by simp [readyParts]

theorem readyParts_rising : (readyParts ready).Pairwise (· < ·) := List.pairwise_lt_range.filter _

/-- A ready partition whose issues of the window fall short of its minimum. -/
def Arb.below (p : Nat) : Bool := decide (((a.hist.take window).filter (· == p)).length < min p)

theorem Arb.below_iff (p : Nat) : a.below window min p = true ↔ (a.hist.take window).count p < min p := by
  rw [Arb.below, decide_eq_true_iff, List.count_eq_length_filter]

/-- The credits, zero where a partition is not ready. -/
def Arb.zeroed : Tab Int := (List.range 8).foldl (fun c p => if ready p then c else tabSet 0 c p 0) a.credit

theorem Arb.zeroed_get {q : Nat} (hq : q < 8) : tabGet 0 (a.zeroed ready) q = if ready q then tabGet 0 a.credit q else 0 := by
  have hfold : a.zeroed ready = ((List.range 8).filter (!ready ·)).foldl (fun c p => tabSet 0 c p 0) a.credit := by
    rw [Arb.zeroed, List.foldl_filter]
    congr
    funext c p
    cases ready p <;> rfl
  rw [hfold, tabGet_foldl_tabSet (fun _ _ => 0) (List.nodup_range.filter _)]
  cases hr : ready q <;> simp [hr, hq]

/-- The credits after each ready partition's weight is added. -/
def Arb.credited : Tab Int := (readyParts ready).foldl (fun c p => tabSet 0 c p (tabGet 0 c p + Int.ofNat (weight p))) (a.zeroed ready)

theorem Arb.credited_get {q : Nat} (hq : q < 8) :
    tabGet 0 (a.credited weight ready) q = if ready q then tabGet 0 a.credit q + weight q else 0 := by
  rw [Arb.credited, tabGet_foldl_tabSet (fun p x => x + Int.ofNat (weight p)) ((readyParts_rising ready).imp fun h => h.ne),
    a.zeroed_get ready hq]
  simp only [mem_readyParts, hq, true_and]
  cases ready q <;> rfl

/-- Those that the rule chooses from by credit: of weight 0 only where no other is ready. -/
def shareCands : List Nat :=
  if (readyParts ready).any fun p => decide (0 < weight p) then (readyParts ready).filter fun p => decide (0 < weight p)
  else readyParts ready

theorem mem_shareCands (p : Nat) : p ∈ shareCands weight ready ↔
    p < 8 ∧ ready p = true ∧ (0 < weight p ∨ ∀ q < 8, ready q = true → weight q = 0) := by
  rw [shareCands]
  split
  case isTrue h =>
    obtain ⟨k, hk, hw⟩ := List.any_eq_true.1 h
    obtain ⟨hk8, hkr⟩ := (mem_readyParts ready k).1 hk
    have hpos : 0 < weight k := of_decide_eq_true hw
    rw [List.mem_filter, mem_readyParts, decide_eq_true_iff, and_assoc]
    refine and_congr_right fun _ => and_congr_right fun _ => (or_iff_left fun hz => ?_).symm
    exact absurd (hz k hk8 hkr) hpos.ne'
  case isFalse h =>
    have hz : ∀ q < 8, ready q = true → weight q = 0 := fun q hq hr => by
      by_contra hne
      exact h (List.any_eq_true.2 ⟨q, (mem_readyParts ready q).2 ⟨hq, hr⟩, decide_eq_true (Nat.pos_of_ne_zero hne)⟩)
    rw [mem_readyParts]
    exact and_congr_right fun _ => ⟨fun hr => ⟨hr, .inr hz⟩, fun hr => hr.1⟩

theorem shareCands_rising : (shareCands weight ready).Pairwise (· < ·) := by
  rw [shareCands]
  split
  · exact (readyParts_rising ready).filter _
  · exact readyParts_rising ready

/-- The weights of those that are ready, together. -/
def weightSum : Int := ((readyParts ready).map fun p => (weight p : Int)).sum

theorem weightSum_eq : Int.ofNat ((readyParts ready).map weight).sum = weightSum weight ready := by
  rw [weightSum, Int.ofNat_eq_natCast, Nat.cast_list_sum, List.map_map]
  rfl

/-- A partition that issues pays the weights of those that are ready. -/
def Arb.paid (c : Tab Int) (p : Nat) : Tab Int := tabSet 0 c p (tabGet 0 c p - weightSum weight ready)

variable {a window min weight ready} {p : Nat}

theorem Arb.pick_of_below (h : (readyParts ready).find? (a.below window min) = some p) :
    (a.pick window min weight ready).1 = some p ∧
      (a.pick window min weight ready).2.credit = Arb.paid weight ready (a.zeroed ready) p := by
  unfold readyParts Arb.below at h
  simp only [Arb.pick, h, Arb.paid, ← weightSum_eq]
  exact ⟨trivial, rfl⟩

theorem Arb.pick_of_credit (h : (readyParts ready).find? (a.below window min) = none)
    (ht : topCredit (a.credited weight ready) (shareCands weight ready) = some p) :
    (a.pick window min weight ready).1 = some p ∧
      (a.pick window min weight ready).2.credit = Arb.paid weight ready (a.credited weight ready) p := by
  unfold readyParts Arb.below at h
  unfold Arb.credited shareCands Arb.zeroed readyParts at ht
  simp only [Arb.pick, h, ht, Arb.paid, ← weightSum_eq]
  exact ⟨trivial, rfl⟩

theorem Arb.pick_of_none (h : (readyParts ready).find? (a.below window min) = none)
    (ht : topCredit (a.credited weight ready) (shareCands weight ready) = none) : (a.pick window min weight ready).1 = none := by
  unfold readyParts Arb.below at h
  unfold Arb.credited shareCands Arb.zeroed readyParts at ht
  simp only [Arb.pick, h, ht]

/-- Only a ready partition is chosen. -/
theorem Arb.ready_of_pick (h : (a.pick window min weight ready).1 = some p) : p < 8 ∧ ready p = true := by
  cases hf : (readyParts ready).find? (a.below window min) with
  | some q =>
    obtain rfl : q = p := Option.some.inj ((Arb.pick_of_below hf).1.symm.trans h)
    exact (mem_readyParts ready q).1 (List.mem_of_find?_eq_some hf)
  | none =>
    cases ht : topCredit (a.credited weight ready) (shareCands weight ready) with
    | none => cases (Arb.pick_of_none hf ht).symm.trans h
    | some q =>
      obtain rfl : q = p := Option.some.inj ((Arb.pick_of_credit hf ht).1.symm.trans h)
      obtain ⟨h8, hready, -⟩ := (mem_shareCands weight ready q).1 (mem_of_topCredit ht)
      exact ⟨h8, hready⟩

theorem Arb.paid_get_same (c : Tab Int) : tabGet 0 (Arb.paid weight ready c p) p = tabGet 0 c p - weightSum weight ready :=
  tabGet_tabSet_same _ _ _ _

theorem Arb.paid_get_ne (c : Tab Int) {q : Nat} (h : q ≠ p) : tabGet 0 (Arb.paid weight ready c p) q = tabGet 0 c q :=
  tabGet_tabSet_ne _ _ _ h

end

end Sys2Proof.Machine
end

section
/-! PROOF. An engine's cycle (R350–R352). -/
namespace Sys2Proof.Machine

/-! ### What the threads that yielded leave -/

/-- A register whose addresses and THRt_STAT's differ in their last four bits. -/
theorem regAddr_ne_thrStat {r : RegId} (h : (regInfo r).base % 16 = 0 ∧ (regInfo r).si % 16 = 0) (i t : Nat) :
    regAddr r i 0 ≠ regAddr .thrStat t 0 := by
  obtain ⟨hbase, hsi⟩ := h
  have hmod : regAddr r i 0 % 16 = 0 := by
    rw [regAddr, Nat.mul_zero, Nat.add_zero, Nat.add_mod, hbase, Nat.mul_mod, hsi]
    simp
  intro heq
  rw [heq] at hmod
  simp only [regAddr, regInfo] at hmod
  omega

theorem State.yieldRelease_eq (s : State) (t : Nat) : s.yieldRelease t = { s with regs := (s.yieldRelease t).regs } := by
  unfold State.yieldRelease
  split <;> rfl

/-- The engine's state after the threads that yielded have been released. -/
def State.released (s : State) (e : Nat) : State :=
  ((List.range 16).map (16 * e + ·)).foldl (fun s t => s.yieldRelease t) (s.setEng e { s.eng e with cyc := (s.eng e).cyc + 1 })

theorem State.yieldRelease_get {f : Field} (h : (regInfo f.reg).base % 16 = 0 ∧ (regInfo f.reg).si % 16 = 0) (s : State) (t i : Nat) :
    (s.yieldRelease t).get f i = s.get f i := by
  unfold State.yieldRelease
  split
  · exact State.get_put_ne _ _ _ _ _ _ _ _ (regAddr_ne_thrStat h i t)
  · rfl

theorem State.released_get {f : Field} (h : (regInfo f.reg).base % 16 = 0 ∧ (regInfo f.reg).si % 16 = 0) (s : State) (e i : Nat) :
    (s.released e).get f i = s.get f i :=
  foldl_keeps (fun u : State => u.get f i) _ (fun u t => State.yieldRelease_get h u t i) _ _

theorem State.released_dsq (s : State) (e : Nat) :
    (s.released e).dsq = (s.setEng e { s.eng e with cyc := (s.eng e).cyc + 1 }).dsq :=
  foldl_keeps (fun u : State => u.dsq) _ (fun u t => by rw [State.yieldRelease_eq]) _ _

@[simp] theorem State.eng_setEng (s : State) (e : Nat) (x : Engine) : (s.setEng e x).eng e = x := tabGet_tabSet_same _ _ _ _

theorem State.released_eng (s : State) (e : Nat) : (s.released e).eng e = { s.eng e with cyc := (s.eng e).cyc + 1 } := by
  rw [State.eng, State.released_dsq]
  exact s.eng_setEng e _

theorem State.released_last (s : State) (e : Nat) : ((s.released e).eng e).last = (s.eng e).last := by rw [State.released_eng]

/-! ### The thread that follows (R352) -/

theorem mem_threads_iff (e t : Nat) : t ∈ (List.range 16).map (16 * e + ·) ↔ t / 16 = e := by
  simp only [List.mem_map, List.mem_range]
  constructor
  · rintro ⟨k, hk, rfl⟩
    omega
  · rintro rfl
    exact ⟨t % 16, Nat.mod_lt _ (by decide), Nat.div_add_mod t 16⟩

theorem threads_rising (e : Nat) : ((List.range 16).map (16 * e + ·)).Pairwise (· < ·) :=
  List.pairwise_map.2 (List.pairwise_lt_range.imp fun h => by omega)

/-- The thread that follows may issue; none of its partition that may stands between the one last issued and it. -/
theorem State.nextThr_eq_some {s : State} {e p t : Nat} (h : s.nextThr e p = some t) :
    t / 16 = e ∧ s.thrPart t = p ∧ s.canIssue t = true ∧ ∀ k : Nat, k / 16 = e → s.thrPart k = p → s.canIssue k = true →
      tabGet 0 (s.eng e).last p ≤ k → tabGet 0 (s.eng e).last p ≤ t ∧ t ≤ k := by
  set l := ((List.range 16).map (16 * e + ·)).filter fun t => s.thrPart t == p && s.canIssue t with hl
  have hmem : ∀ k, k ∈ l ↔ k / 16 = e ∧ s.thrPart k = p ∧ s.canIssue k = true := fun k => by
    rw [hl, List.mem_filter, mem_threads_iff, Bool.and_eq_true, beq_iff_eq]
  have hrising : l.Pairwise (· < ·) := (threads_rising e).filter _
  unfold State.nextThr at h
  cases hf : l.find? fun t => decide (tabGet 0 (s.eng e).last p ≤ t) with
  | some u =>
    simp only [← hl, hf] at h
    obtain rfl : u = t := Option.some.inj h
    obtain ⟨hu, hlast, hmin⟩ := (find?_rising_iff hrising _ u).1 hf
    obtain ⟨he, hp, hmay⟩ := (hmem u).1 hu
    exact ⟨he, hp, hmay, fun k hke hkp hk hle =>
      ⟨of_decide_eq_true hlast, hmin k ((hmem k).2 ⟨hke, hkp, hk⟩) (decide_eq_true hle)⟩⟩
  | none =>
    simp only [← hl, hf] at h
    obtain ⟨he, hp, hmay⟩ := (hmem t).1 (List.mem_of_head? h)
    exact ⟨he, hp, hmay, fun k hke hkp hk hle =>
      absurd (decide_eq_true hle) (List.find?_eq_none.1 hf k ((hmem k).2 ⟨hke, hkp, hk⟩))⟩

/-! ### The cycle -/

/-- The choice of an engine's cycle (R351). -/
def State.choice (s : State) (e : Nat) : Option Nat × Arb :=
  (s.eng e).arb.pick 256 (fun p => s.get F.dsqShare_MIN p) (fun p => s.get F.dsqShare_WEIGHT p)
    fun p => ((s.released e).nextThr e p).isSome

/-- The state with an engine's choice noted. -/
def State.noted (r : State) (e : Nat) (arb : Arb) : State := r.setEng e { r.eng e with arb := arb }

/-- The state in which a chosen thread has its slot. -/
def State.slotting (w : State) (e p t : Nat) : State :=
  let v := w.cycleTally e (if w.dsq.samples.any fun x => x.thread == t then none else some t)
  v.setEng e { v.eng e with last := tabSet 0 (v.eng e).last p (t + 1) }

/-- What an engine's choice brings. -/
def State.slotFor (w : State) (e : Nat) : Option (Nat × Nat) → State
  | none => w.cycleTally e none
  | some (p, t) => (w.slotting e p t).slotOf t

theorem State.choice_eq (s : State) (e : Nat) : ((s.released e).eng e).arb.pick 256 (fun p => (s.released e).get F.dsqShare_MIN p)
    (fun p => (s.released e).get F.dsqShare_WEIGHT p) (fun p => ((s.released e).nextThr e p).isSome) = s.choice e := by
  have hmin : ∀ p, (s.released e).get F.dsqShare_MIN p = s.get F.dsqShare_MIN p := s.released_get (by decide) e
  have hweight : ∀ p, (s.released e).get F.dsqShare_WEIGHT p = s.get F.dsqShare_WEIGHT p := s.released_get (by decide) e
  simp only [hmin, hweight, State.released_eng]
  rfl

theorem State.noted_nextThr (r : State) (e : Nat) (arb : Arb) (p : Nat) : (r.noted e arb).nextThr e p = r.nextThr e p := by
  have hcyc : ∀ k, ((r.noted e arb).eng k).cyc = (r.eng k).cyc := fun k => by
    by_cases hk : k = e
    · rw [hk, State.noted, State.eng_setEng]
    · exact congrArg Engine.cyc (tabGet_tabSet_ne _ _ _ hk)
  have hlast : ((r.noted e arb).eng e).last = (r.eng e).last := by rw [State.noted, State.eng_setEng]
  have hmay : ∀ t, (r.noted e arb).canIssue t = r.canIssue t := fun t => by
    rw [State.canIssue, hcyc]
    rfl
  unfold State.nextThr
  simp only [hmay, hlast]
  rfl

theorem State.engCycle_eq (s : State) (e : Nat) : s.engCycle e =
    ((s.released e).noted e (s.choice e).2).slotFor e
      ((s.choice e).1.bind fun p => ((s.released e).nextThr e p).map fun t => (p, t)) := by
  have hnext : (fun p => ((s.released e).nextThr e p).map fun t => (p, t)) =
      fun p => (((s.released e).noted e (s.choice e).2).nextThr e p).map fun t => (p, t) :=
    funext fun p => by rw [State.noted_nextThr]
  rw [hnext, ← State.choice_eq]
  unfold State.engCycle State.slotFor
  rfl

theorem State.engCycle_of_none {s : State} {e : Nat} (h : (s.choice e).1 = none) :
    s.engCycle e = ((s.released e).noted e (s.choice e).2).cycleTally e none := by
  rw [State.engCycle_eq, h]
  rfl

theorem State.engCycle_of_some {s : State} {e p t : Nat} (h : (s.choice e).1 = some p) (ht : (s.released e).nextThr e p = some t) :
    s.engCycle e = (((s.released e).noted e (s.choice e).2).slotting e p t).slotOf t := by
  rw [State.engCycle_eq, h, Option.bind_some, ht]
  rfl

/-! ### What the cycle leaves as it was -/

/-- All that an engine's cycle leaves as it was, besides the slot itself. -/
def State.slotView (s : State) :=
  (s.regs, s.tse, s.dsq.thr, s.dsq.queues, s.dsq.isram, s.dsq.dsram, s.dsq.samples, s.par, s.out)

theorem State.cycleTally_slotView (s : State) (e : Nat) (c : Option Nat) : (s.cycleTally e c).slotView = s.slotView :=
  foldl_keeps State.slotView _ (fun u t => by dsimp only; split_ifs <;> rfl) _ _

theorem State.noted_slotView (s : State) (e : Nat) (arb : Arb) : (s.noted e arb).slotView = s.slotView := rfl

theorem State.slotting_slotView (s : State) (e p t : Nat) : (s.slotting e p t).slotView = s.slotView :=
  s.cycleTally_slotView e _

theorem State.slotting_last (s : State) (e p t : Nat) : tabGet 0 ((s.slotting e p t).eng e).last p = t + 1 := by
  rw [State.slotting, State.eng_setEng, tabGet_tabSet_same]

theorem State.released_samples (s : State) (e : Nat) : (s.released e).dsq.samples = s.dsq.samples := by
  rw [State.released_dsq]
  rfl

/-- The instruction that the chosen thread issues is the word at its PC, with the word after it (R304, R305). -/
theorem State.fetchIns_of_slotView {s w : State} {e p t : Nat} (h : w.slotView = (s.released e).slotView)
    (hp : (s.released e).thrPart t = p) : w.fetchIns t =
      decodeIns ((s.released e).pc t) (tabGet 0 s.dsq.isram ((4096 * s.get F.dsqIwin_BASE p + (s.released e).pc t) / 4))
        (tabGet 0 s.dsq.isram ((4096 * s.get F.dsqIwin_BASE p + (s.released e).pc t + 4) / 4)) := by
  have hregs : w.regs = (s.released e).regs := congrArg Prod.fst h
  have hisram : w.dsq.isram = s.dsq.isram := by
    have hw : w.dsq.isram = (s.released e).dsq.isram := congrArg (fun v => v.2.2.2.2.1) h
    rw [hw, State.released_dsq]
    rfl
  have hpc : w.pc t = (s.released e).pc t := State.get_congr hregs _ _ _
  have hpart : w.thrPart t = p := (State.get_congr hregs F.thrCfg_PART t 0).trans hp
  have hbase : w.get F.dsqIwin_BASE p = s.get F.dsqIwin_BASE p :=
    (State.get_congr hregs _ _ _).trans (s.released_get (by decide) e p)
  simp only [State.fetchIns, State.iwin, State.iword, hpc, hpart, hbase, hisram]

theorem State.slotOf_of_no_sample {w : State} {t : Nat} (h : ∀ x ∈ w.dsq.samples, x.thread ≠ t) :
    w.slotOf t = w.issue t (w.fetchIns t).2 (w.fetchIns t).1 := by
  have hfind : (w.dsq.samples.find? fun x => x.thread == t) = none := List.find?_eq_none.2 fun x hx => by simpa using h x hx
  simp only [State.slotOf, State.sampleTake, hfind]

theorem State.slotOf_of_sample {w : State} {t : Nat} {x : SampleReq} (h : (w.dsq.samples.find? fun x => x.thread == t) = some x) :
    w.slotOf t = ({ w with dsq := { w.dsq with samples := w.dsq.samples.erase x } }).samplePost x := by
  simp only [State.slotOf, State.sampleTake, h]

end Sys2Proof.Machine

open Sys2Proof Sys2Proof.Machine

/-- Settles O34: the share rule by its lists of those below their minimum and of those chosen by credit; the cycle by its choice. -/
theorem enginesIssueByShare : Obligations.EnginesIssueByShare := by
  refine ⟨fun a window min weight ready => ?share, fun s e he hreset hclock => ?cycle⟩
  case share =>
    intro below sum credit cand b
    have hbelow : ∀ p, below p ↔ ready p = true ∧ a.below window min p = true := fun p =>
      and_congr_right fun _ => (a.below_iff window min p).symm
    have hcand : ∀ p, p ∈ shareCands weight ready ↔ p < 8 ∧ cand p := mem_shareCands weight ready
    have hcredit : ∀ p < 8, tabGet 0 (a.credited weight ready) p = credit p := fun p hp => a.credited_get weight ready hp
    refine ⟨fun hnone => ?none, fun p hp8 hp hfirst => ?below, fun hno p hp8 hp hmax hfirst => ?credit⟩
    case none =>
      have hready : readyParts ready = [] := List.eq_nil_iff_forall_not_mem.2 fun p hp => by
        obtain ⟨hp8, hp⟩ := (mem_readyParts ready p).1 hp
        rw [hnone p hp8] at hp
        cases hp
      refine Arb.pick_of_none (by rw [hready]; rfl) ?_
      rw [shareCands, hready]
      rfl
    case below =>
      obtain ⟨hready, hshort⟩ := (hbelow p).1 hp
      have hfind : (readyParts ready).find? (a.below window min) = some p :=
        (find?_rising_iff (readyParts_rising ready) _ p).2 ⟨(mem_readyParts ready p).2 ⟨hp8, hready⟩, hshort, fun q hq hqs =>
          not_lt.1 fun hlt => hfirst q hlt ((hbelow q).2 ⟨((mem_readyParts ready q).1 hq).2, hqs⟩)⟩
      obtain ⟨hchoice, hpaid⟩ := Arb.pick_of_below (weight := weight) hfind
      refine ⟨hchoice, ?_, fun q hq hne => ?_⟩
      · rw [hpaid, Arb.paid_get_same, a.zeroed_get ready hp8, if_pos hready]
        rfl
      · rw [hpaid, Arb.paid_get_ne _ hne, a.zeroed_get ready hq]
    case credit =>
      have hfind : (readyParts ready).find? (a.below window min) = none := List.find?_eq_none.2 fun q hq hqs => by
        obtain ⟨hq8, hqr⟩ := (mem_readyParts ready q).1 hq
        exact hno q hq8 ((hbelow q).2 ⟨hqr, hqs⟩)
      have htop : topCredit (a.credited weight ready) (shareCands weight ready) = some p := by
        refine topCredit_eq_some (shareCands_rising weight ready) ((hcand p).2 ⟨hp8, hp⟩) (fun q hq => ?_) fun q hq hlt => ?_
        all_goals
          obtain ⟨hq8, hqc⟩ := (hcand q).1 hq
          rw [hcredit q hq8, hcredit p hp8]
        · exact hmax q hq8 hqc
        · exact hfirst q hlt hqc
      obtain ⟨hchoice, hpaid⟩ := Arb.pick_of_credit hfind htop
      refine ⟨hchoice, ?_, fun q hq hne => ?_⟩
      · rw [hpaid, Arb.paid_get_same, hcredit p hp8]
        rfl
      · rw [hpaid, Arb.paid_get_ne _ hne, hcredit q hq]
  case cycle =>
    intro ts s1 choice same may
    have hexec : exec (.engineIssueCycle e) s = .next (s.engCycle e) := by
      rw [exec_engineIssueCycle, execEngineIssueCycle, if_neg (by simp [hreset, hclock, he])]
    have hsame : ∀ w : State, w.slotView = s1.slotView → same w := fun w h => by
      simpa only [State.slotView, Prod.mk.injEq] using h
    refine ⟨fun hnone => ?idle, fun p hp => ?issue⟩
    case idle =>
      exact ⟨_, hexec.trans (congrArg Host.Outcome.next (State.engCycle_of_none hnone)), hsame _ (State.cycleTally_slotView _ e none)⟩
    case issue =>
      obtain ⟨t, ht⟩ := Option.isSome_iff_exists.1 (Arb.ready_of_pick hp).2
      obtain ⟨hte, htp, hmay, hnext⟩ := State.nextThr_eq_some ht
      have hlast : (s1.eng e).last = (s.eng e).last := s.released_last e
      rw [hlast] at hnext
      refine ⟨t, hte, htp, hmay, hnext, ((s.released e).noted e (s.choice e).2).slotting e p t, hsame _ (State.slotting_slotView _ e p t),
        State.slotting_last _ e p t, fun hno => ?word, fun x hx => ?sample⟩
      all_goals rw [hexec, State.engCycle_of_some hp ht]
      all_goals
        have hview : (((s.released e).noted e (s.choice e).2).slotting e p t).slotView = (s.released e).slotView :=
          (State.slotting_slotView _ e p t).trans (State.noted_slotView _ e _)
        have hsamples : (((s.released e).noted e (s.choice e).2).slotting e p t).dsq.samples = s.dsq.samples :=
          (congrArg (fun v => v.2.2.2.2.2.2.1) hview).trans (s.released_samples e)
      case word =>
        rw [State.slotOf_of_no_sample (by rw [hsamples]; exact hno), State.fetchIns_of_slotView hview htp]
        rfl
      case sample =>
        rw [State.slotOf_of_sample (by rw [hsamples]; exact hx)]
end

section
/-! RULES. Bytes of data SRAM (R327, R337). -/
namespace Sys2Proof.Machine

/-! ### A byte of a word -/

/-- The byte at bit k of a number. -/
def byteAt (x k : Nat) : Nat := x / 2 ^ k % 256

/-- The number with the byte at bit k replaced. -/
def byteTo (x k b : Nat) : Nat := x - x / 2 ^ k % 256 * 2 ^ k + b * 2 ^ k

theorem byteTo_eq (x k b : Nat) : byteTo x k b = (x / 2 ^ k / 256 * 256 + b) * 2 ^ k + x % 2 ^ k := by
  have hx := Nat.div_add_mod' x (2 ^ k)
  have hq := Nat.div_add_mod' (x / 2 ^ k) 256
  have hsplit : x = (x / 2 ^ k / 256 * 256) * 2 ^ k + x / 2 ^ k % 256 * 2 ^ k + x % 2 ^ k := by
    rw [← Nat.add_mul, hq, hx]
  rw [byteTo, Nat.add_mul]
  omega

theorem byteTo_div (x k : Nat) {b : Nat} : byteTo x k b / 2 ^ k = x / 2 ^ k / 256 * 256 + b := by
  rw [byteTo_eq, Nat.add_comm, Nat.add_mul_div_right _ _ (Nat.two_pow_pos k), Nat.div_eq_of_lt (Nat.mod_lt _ (Nat.two_pow_pos k)),
    Nat.zero_add]

/-- Bits above a byte do not matter to it. -/
theorem byteAt_mod (x : Nat) {k n : Nat} (h : k + 8 ≤ n) : byteAt (x % 2 ^ n) k = byteAt x k := by
  obtain ⟨m, rfl⟩ := Nat.exists_eq_add_of_le h
  have hpow : 2 ^ (k + 8 + m) = 2 ^ k * (256 * 2 ^ m) := by rw [pow_add, pow_add, Nat.mul_assoc]; rfl
  rw [byteAt, byteAt, hpow, Nat.mod_mul_right_div_self, Nat.mod_mul_right_mod]

theorem byteAt_byteTo_same (x k : Nat) {b : Nat} (hb : b < 256) : byteAt (byteTo x k b) k = b := by
  rw [byteAt, byteTo_div]
  omega

theorem byteAt_byteTo_ne (x : Nat) {k j b : Nat} (hb : b < 256) (h : j + 8 ≤ k ∨ k + 8 ≤ j) : byteAt (byteTo x k b) j = byteAt x j := by
  obtain h | h := h
  · have hmod : byteTo x k b % 2 ^ k = x % 2 ^ k := by
      rw [byteTo_eq, Nat.mul_add_mod_self_right, Nat.mod_mod]
    rw [← byteAt_mod _ h, hmod, byteAt_mod _ h]
  · obtain ⟨m, rfl⟩ := Nat.exists_eq_add_of_le h
    have hdiv : ∀ y : Nat, y / 2 ^ (k + 8 + m) = y / 2 ^ k / 256 / 2 ^ m := fun y => by
      rw [pow_add, pow_add, ← Nat.div_div_eq_div_mul, ← Nat.div_div_eq_div_mul]
      rfl
    have hup : byteTo x k b / 2 ^ k / 256 = x / 2 ^ k / 256 := by
      rw [byteTo_div]
      omega
    rw [byteAt, byteAt, hdiv, hdiv, hup]

/-! ### A byte of data SRAM -/

/-- One byte written. -/
def State.setDbyte (s : State) (a : Nat) (b : Byte) : State :=
  s.setDword a (BitVec.ofNat 64 (byteTo (s.dword a).toNat (8 * (7 - a % 8)) b.toNat))

theorem State.setDbytes_cons (s : State) (a : Nat) (b : Byte) (l : List Byte) :
    s.setDbytes a (b :: l) = (s.setDbyte a b).setDbytes (a + 1) l := rfl

theorem State.dbyte_eq (s : State) (a : Nat) : s.dbyte a = BitVec.ofNat 8 (byteAt (s.dword a).toNat (8 * (7 - a % 8))) := by
  refine BitVec.eq_of_toNat_eq ?_
  rw [State.dbyte, byteAt, BitVec.toNat_ofNat, BitVec.toNat_ofNat]
  exact (Nat.mod_mod _ 256).symm

theorem State.dbyte_setDbyte (s : State) {a c : Nat} (b : Byte) (ha : 0x2400000 ≤ a) (hc : 0x2400000 ≤ c) :
    (s.setDbyte a b).dbyte c = if c = a then b else s.dbyte c := by
  by_cases hw : (c - 0x2400000) / 8 = (a - 0x2400000) / 8
  · have hword : ∀ u : State, u.dword c = u.dword a := fun u => by rw [State.dword, State.dword, hw]
    have hread : ((s.setDbyte a b).dword c).toNat = byteTo (s.dword a).toNat (8 * (7 - a % 8)) b.toNat % 2 ^ 64 := by
      rw [hword, State.setDbyte, State.dword_setDword_same, BitVec.toNat_ofNat]
    rw [State.dbyte_eq, hread, byteAt_mod _ (by omega)]
    by_cases hac : c = a
    · rw [if_pos hac, hac, byteAt_byteTo_same _ _ b.isLt, BitVec.ofNat_toNat]
      rfl
    · rw [if_neg hac, byteAt_byteTo_ne _ b.isLt (by omega), State.dbyte_eq, hword]
  · have hac : c ≠ a := fun h => hw (by rw [h])
    rw [if_neg hac, State.dbyte, State.setDbyte, State.dword_setDword_ne _ _ _ _ hw, State.dbyte]

theorem State.dbyte_setDbytes_below (s : State) {a c : Nat} (l : List Byte) (hc : 0x2400000 ≤ c) (h : c < a) :
    (s.setDbytes a l).dbyte c = s.dbyte c := by
  induction l generalizing s a with
  | nil => rfl
  | cons b l ih =>
    rw [State.setDbytes_cons, ih _ (Nat.lt_succ_of_lt h), State.dbyte_setDbyte _ _ (by omega) hc, if_neg h.ne]

/-- A byte read after a row of bytes was written over it. -/
theorem State.dbyte_setDbytes (s : State) {a i : Nat} (l : List Byte) (ha : 0x2400000 ≤ a) (hi : i < l.length) :
    (s.setDbytes a l).dbyte (a + i) = l.getD i 0 := by
  induction l generalizing s a i with
  | nil => cases hi
  | cons b l ih =>
    rw [State.setDbytes_cons]
    cases i with
    | zero =>
      exact (State.dbyte_setDbytes_below _ _ ha (Nat.lt_add_one a)).trans ((State.dbyte_setDbyte _ _ ha ha).trans (if_pos rfl))
    | succ i =>
      have hstep : a + (i + 1) = a + 1 + i := by omega
      rw [hstep, ih _ (by omega) (Nat.lt_of_succ_lt_succ hi)]
      rfl

/-- What no write of data SRAM changes, writing bytes does not. -/
theorem State.setDbytes_keeps {β : Type} (f : State → β) (hf : ∀ s a w, f (State.setDword s a w) = f s) (s : State) (a : Nat)
    (l : List Byte) : f (s.setDbytes a l) = f s := by
  induction l generalizing s a with
  | nil => rfl
  | cons b l ih => exact (ih _ _).trans (hf _ _ _)

end Sys2Proof.Machine
end

section
/-! PROOF. PCMD and KMAC (R337, R339). -/
namespace Sys2Proof.Machine

/-! ### What an issue and parking leave of the partition's view -/

theorem OnlyThread.thrPart {s u : State} {t : Nat} (ht : t < 128) (h : OnlyThread s u t) : u.thrPart t = s.thrPart t :=
  State.get_of_rd (h.regs .thrCfg t 0 ht (by decide) (by simp))

theorem OnlyThread.dwin {s u : State} {t p : Nat} (hp : p < 8) (h : OnlyThread s u t) : u.dwin p = s.dwin p := by
  have hrd : u.rd .dsqDwin p 0 = s.rd .dsqDwin p 0 := h.regs .dsqDwin p 0 hp (by decide) (by simp)
  rw [State.dwin, State.dwin, State.get_of_rd (f := F.dsqDwin_BASE) hrd, State.get_of_rd (f := F.dsqDwin_SIZE) hrd]

theorem State.dbyte_of_dsram {s u : State} (h : u.dsq.dsram = s.dsq.dsram) (a : Nat) : u.dbyte a = s.dbyte a := by
  rw [State.dbyte, State.dword, h, State.dbyte, State.dword]

section
variable (s : State) (t : Nat)

@[simp] theorem State.issued_dwin (p : Nat) : (s.issued t).dwin p = s.dwin p := by simp only [State.dwin, State.issued_get]
@[simp] theorem State.issued_vsPart (v : Nat) : (s.issued t).vsPart v = s.vsPart v := s.issued_get t _ v 0
@[simp] theorem State.issued_keyUsable (v p a : Nat) : (s.issued t).keyUsable v p a = s.keyUsable v p a := by
  simp only [State.keyUsable, State.issued_get, State.issued_vsPart]
@[simp] theorem State.issued_kvcOk : (s.issued t).kvcOk = s.kvcOk := by simp only [State.kvcOk, State.issued_getB]
@[simp] theorem State.issued_dbytes (a n : Nat) : (s.issued t).dbytes a n = s.dbytes a n := by
  simp only [State.dbytes, State.dbyte_of_dsram (OnlyThread.issued s t).mem.1]

end

theorem within_iff (a n b k : Nat) : within a n (b, k) = true ↔ b ≤ a ∧ a + n ≤ b + k := by simp [within]

/-! ### PCMD (R337) -/

/-- A thread that waits for a command over its argument block. -/
def State.awaitsCmd (v : State) (t next gd a cmd : Nat) : State :=
  let s := v.park t thReply next gd
  let s := s.setThr t { s.thr t with await := .cmd gd a cmd }
  { s with dsq := { s.dsq with pcmd := tabSet none s.dsq.pcmd t none } }

section
variable {v : State} {t next gd a cmd : Nat} {st : Status} {r : List Byte}

theorem State.awaitsCmd_regs : (v.awaitsCmd t next gd a cmd).regs = (v.park t thReply next gd).regs := rfl

theorem State.awaitsCmd_await : ((v.awaitsCmd t next gd a cmd).thr t).await = .cmd gd a cmd :=
  congrArg Thr.await (State.thr_setThr_same (v.park t thReply next gd) t _)

theorem State.awaitsCmd_thrState : (v.awaitsCmd t next gd a cmd).thrState t = 4 := State.park_thrState thReply

/-- No reply has come yet. -/
theorem State.replyArrive_awaitsCmd : (v.awaitsCmd t next gd a cmd).replyArrive t = v.awaitsCmd t next gd a cmd := by
  have hpcmd : tabGet none (v.awaitsCmd t next gd a cmd).dsq.pcmd t = none :=
    tabGet_tabSet_same none (v.park t thReply next gd).dsq.pcmd t none
  rw [State.replyArrive, if_neg (by rw [State.awaitsCmd_thrState]; decide), State.awaitsCmd_await]
  simp only [hpcmd]

/-- The state once a thread's command has completed and its completion is taken up. -/
def State.cmdTaken (u : State) (t : Nat) (st : Status) (r : List Byte) : State :=
  { u.replyThread t st r with dsq := { (u.replyThread t st r).dsq with pcmd := tabSet none (u.replyThread t st r).dsq.pcmd t none } }

theorem State.cmdTaken_regs (u : State) (t : Nat) : (u.cmdTaken t st r).regs = u.regs := rfl

theorem State.replyArrive_of_completed {u : State} (hwait : u.thrState t = 4) (hawait : (u.thr t).await = .cmd gd a cmd) :
    (u.replyThread t st r).replyArrive t = ((u.cmdTaken t st r).blockWrite t a cmd r).replied t [(gd, statusWord st 0)] []
      (statusFlags (u.get F.thrStat_FLAGS t) st) := by
  have hpcmd : tabGet none (u.replyThread t st r).dsq.pcmd t = some (st, r) := tabGet_tabSet_same none u.dsq.pcmd t (some (st, r))
  have hwait' : (u.replyThread t st r).thrState t = 4 := hwait
  have hawait' : ((u.replyThread t st r).thr t).await = .cmd gd a cmd := hawait
  rw [State.replyArrive, if_neg (by rw [hwait']; decide), hawait']
  simp only [hpcmd]
  rfl

/-- A completion that fits the data range stands over the argument block. -/
theorem State.blockWrite_of_fits {y : State} (hcmd : cmd ≠ 0x81) (hfits : a + r.length ≤ (y.dwin (y.thrPart t)).1 + (y.dwin (y.thrPart t)).2) :
    y.blockWrite t a cmd r = y.setDbytes a r := by
  simp only [State.blockWrite, if_neg hcmd]
  rw [List.take_of_length_le (by omega)]

theorem State.setDbytes_regs (s : State) (a : Nat) (l : List Byte) : (s.setDbytes a l).regs = s.regs :=
  State.setDbytes_keeps State.regs (fun _ _ _ => rfl) s a l

/-- The thread goes on once its command has completed (R337). -/
theorem State.awaitsCmd_completes (ht : t < 128) (hstop : v.getB F.thrStat_STOP_PEND t = false) (hcmd : cmd ≠ 0x81)
    (ha : 0x2400000 ≤ a) (hfits : a + r.length ≤ (v.dwin (v.thrPart t)).1 + (v.dwin (v.thrPart t)).2) :
    ∃ w : State, exec (.threadReplyArrive t) ((v.awaitsCmd t next gd a cmd).replyThread t st r) = .next w ∧ w.thrState t = 1 ∧
      (gd % 32 ≠ 0 → w.g t gd = BitVec.ofNat 64 (st.code * 2 ^ 56)) ∧ w.flag t .z = decide (st = .ok) ∧
      ∀ i < r.length, w.dbyte (a + i) = r.getD i 0 := by
  have honly : OnlyThread v (v.park t thReply next gd) t := OnlyThread.park ht _
  set y := (v.awaitsCmd t next gd a cmd).cmdTaken t st r with hy
  have hregs : y.regs = (v.park t thReply next gd).regs := (State.cmdTaken_regs _ t).trans State.awaitsCmd_regs
  have hpart : y.thrPart t = v.thrPart t := (State.get_congr hregs F.thrCfg_PART t 0).trans (honly.thrPart ht)
  have hdwin : y.dwin (y.thrPart t) = v.dwin (v.thrPart t) := by
    rw [hpart, ← honly.dwin (v.thrPart_lt t)]
    simp only [State.dwin, State.get_congr hregs]
  have hblock : y.blockWrite t a cmd r = y.setDbytes a r := State.blockWrite_of_fits hcmd (by rw [hdwin]; exact hfits)
  have hpend : (y.setDbytes a r).getB F.thrStat_STOP_PEND t = false := by
    have hget : (v.park t thReply next gd).get F.thrStat_STOP_PEND t = v.get F.thrStat_STOP_PEND t :=
      State.get_park thReply rfl (by decide) (by decide) (by decide)
    rw [State.getB_congr ((y.setDbytes_regs a r).trans hregs), State.getB, hget]
    exact hstop
  have hexec : exec (.threadReplyArrive t) ((v.awaitsCmd t next gd a cmd).replyThread t st r) =
      .next ((y.setDbytes a r).answers t [(gd, statusWord st 0)] []
        (statusFlags ((v.awaitsCmd t next gd a cmd).get F.thrStat_FLAGS t) st)) := by
    rw [exec_threadReplyArrive, execThreadReplyArrive, if_neg (by omega),
      State.replyArrive_of_completed State.awaitsCmd_thrState State.awaitsCmd_await, ← hy, hblock,
      State.replied_eq_answers ht hpend]
  refine ⟨_, hexec, State.answers_thrState, fun hgd => ?word, ?flag, fun i hi => ?bytes⟩
  case word =>
    rw [State.answers_g ht, State.writes, List.foldl_nil, List.foldl_cons, List.foldl_nil, State.g_setG_same, if_neg hgd, statusWord,
      Nat.add_zero]
  case flag =>
    rw [State.answers_flag, statusFlags]
    simp [flagsTo, bitOf_flagTo, beq_eq_decide]
  case bytes => rw [State.dbyte_of_dsram (OnlyThread.answers ht).mem.1, State.dbyte_setDbytes _ _ ha hi]

end

/-! ### KMAC (R339) -/

section
variable {v : State} {t next gd ga gb k a len : Nat}

/-- What KMAC is judged by, in order. -/
def State.kmacChecks (v : State) (p k a len : Nat) : List (Bool × Status) :=
  [(v.vsPart k != p, .partitionDenied), (!v.keyUsable k p attrDsq || !v.kvcOk, .noKey),
    ((v.get F.vsCfg_TYPE k != tyAes128 && v.get F.vsCfg_TYPE k != tyAes256) || len == 0 || decide (4096 < len) ||
      !within a len (v.dwin p), .badArg)]

theorem State.kmacChecks_last_iff {p base size : Nat} (h : v.dwin p = (base, size)) :
    ((v.get F.vsCfg_TYPE k != tyAes128 && v.get F.vsCfg_TYPE k != tyAes256) || len == 0 || decide (4096 < len) ||
      !within a len (v.dwin p)) = true ↔
    ¬ (v.get F.vsCfg_TYPE k = tyAes128 ∨ v.get F.vsCfg_TYPE k = tyAes256) ∨ len = 0 ∨ 4096 < len ∨ a < base ∨ base + size < a + len := by
  have hout : ¬ (base ≤ a ∧ a + len ≤ base + size) ↔ a < base ∨ base + size < a + len := by omega
  rw [h, Bool.or_eq_true, Bool.or_eq_true, Bool.or_eq_true, Bool.and_eq_true, bne_iff_ne, bne_iff_ne, beq_iff_eq, decide_eq_true_iff,
    Bool.not_eq_true', ← Bool.not_eq_true (within _ _ _), within_iff, hout, not_or, or_assoc, or_assoc]

theorem State.kmacIns_of_fails {st : Status} (ha : (v.g t ga).toNat = a) (hk : (v.g t gb).toNat % 256 = k)
    (hlen : (v.g t gb).toNat / 2 ^ 16 % 2 ^ 13 = len) (h : firstFail (v.kmacChecks (v.thrPart t) k a len) = some st) :
    v.kmacIns t gd ga gb next = v.parkStatus t next gd st 0 := by
  subst ha hk hlen
  unfold State.kmacChecks at h
  simp only [State.kmacIns, h]

theorem State.kmacIns_of_passes (ha : (v.g t ga).toNat = a) (hk : (v.g t gb).toNat % 256 = k)
    (hlen : (v.g t gb).toNat / 2 ^ 16 % 2 ^ 13 = len) (h : firstFail (v.kmacChecks (v.thrPart t) k a len) = none) :
    v.kmacIns t gd ga gb next = (v.park t thReply next gd).keyOpStart k (.kmac t gd (v.dbytes a len)) := by
  subst ha hk hlen
  unfold State.kmacChecks at h
  simp only [State.kmacIns, h]

/-- The tag that KMAC writes. -/
def kmacWrites (gd tag : Nat) : List (Nat × Word) :=
  [(gd, statusWord .ok 0), (gd + 1, BitVec.ofNat 64 (tag / 2 ^ 64)), (gd + 2, BitVec.ofNat 64 tag)]

theorem State.kmacReply_eq_awaits (tag : Nat) : (v.park t thReply next gd).kmacReply t gd .ok tag =
    v.awaits t next gd (kmacWrites gd tag) [] (statusFlags (v.get F.thrStat_FLAGS t) .ok) := by
  have h : (v.park t thReply next gd).get F.thrStat_FLAGS t = v.get F.thrStat_FLAGS t :=
    State.get_park thReply rfl (by decide) (by decide) (by decide)
  simp only [State.kmacReply, State.statusReply, h]
  rfl

/-- The tag arrives in the two registers after the status word's. -/
theorem State.kmac_completes (ht : t < 128) (hstop : v.getB F.thrStat_STOP_PEND t = false) (hgd : gd < 30) (tag : Nat) :
    ∃ w : State, exec (.threadReplyArrive t) ((v.park t thReply next gd).kmacReply t gd .ok tag) = .next w ∧ w.thrState t = 1 ∧
      w.g t (gd + 1) = BitVec.ofNat 64 (tag / 2 ^ 64) ∧ w.g t (gd + 2) = BitVec.ofNat 64 tag := by
  rw [State.kmacReply_eq_awaits]
  refine ⟨_, exec_threadReplyArrive_awaits ht hstop, State.answers_thrState, ?high, ?low⟩
  all_goals
    rw [State.answers_g ht, State.writes, kmacWrites, List.foldl_nil, List.foldl_cons, List.foldl_cons, List.foldl_cons, List.foldl_nil]
    simp only [State.g_setG]
  case high => rw [if_neg (by omega), if_pos trivial, if_neg (by omega)]
  case low => rw [if_pos trivial, if_neg (by omega)]

end

end Sys2Proof.Machine

open Sys2Proof Sys2Proof.Machine

/-- Settles O36: PCMD by its admission and the completion's arrival; KMAC by the first of its checks that fails. -/
theorem privilegedInstructionsComplete : Obligations.PrivilegedInstructionsComplete := by
  intro s t gd h hstop next p base size
  have ht : t < 128 := h.1
  have hstop' : (s.issued t).getB F.thrStat_STOP_PEND t = false := (s.issued_getB t _ t 0).trans hstop
  have hpc : (s.issued t).pc t + 4 = next := congrArg (· + 4) (s.issued_pc t t)
  have hdwin : (s.issued t).dwin ((s.issued t).thrPart t) = (base, size) := by rw [State.issued_dwin, State.issued_thrPart]; rfl
  have hs : (s.issued t).flag t .s = s.flag t .s := s.issued_flag t t .s
  have honly : ∀ st, OnlyThread s ((s.issued t).afterStatus t next gd st 0) t := fun st =>
    (OnlyThread.issued s t).trans (OnlyThread.afterStatus ht)
  refine ⟨fun ga cmd hst => ?pcmd, fun ga gb hgd => ?kmac, fun ga gb hgd => ?reserved⟩
  case pcmd =>
    intro a
    have hexec : exec (.pcmd t gd ga cmd) s = .next ((s.issued t).pcmdIns t gd ga cmd next) := by
      rw [exec_pcmd, execPcmd, State.issue_of_mayRun h _ fun _ => hst, ← hpc]
      rfl
    have ha : ((s.issued t).g t ga).toNat = a := congrArg BitVec.toNat (s.issued_g t t ga)
    refine ⟨fun hadmits hlo hhi => ?admitted, fun hbad => ?refused⟩
    case admitted =>
      have hins : (s.issued t).pcmdIns t gd ga cmd next = (s.issued t).awaitsCmd t next gd a cmd := by
        rw [State.pcmdIns, ha, hdwin, if_neg (by simp [hadmits, within_iff, hlo, hhi])]
        rfl
      rw [hins] at hexec
      have hwaits : exec (.threadReplyArrive t) ((s.issued t).awaitsCmd t next gd a cmd) = .next ((s.issued t).awaitsCmd t next gd a cmd) := by
        rw [exec_threadReplyArrive, execThreadReplyArrive, if_neg (by omega), State.replyArrive_awaitsCmd]
      refine ⟨_, hexec, State.awaitsCmd_thrState, State.park_pc thReply, hwaits, fun st r hcmd hfits => ?_⟩
      exact State.awaitsCmd_completes ht hstop' hcmd (by omega) (by rw [hdwin]; exact hfits)
    case refused =>
      have hins : (s.issued t).pcmdIns t gd ga cmd next = (s.issued t).parkStatus t next gd .badArg 0 := by
        rw [State.pcmdIns, ha, hdwin, if_pos]
        rw [Bool.or_eq_true, Bool.not_eq_true', Bool.not_eq_true', ← Bool.not_eq_true (within _ _ _), within_iff]
        exact hbad.imp_right fun hout => by omega
      rw [hins] at hexec
      exact ⟨_, returnsStatus_of_parkStatus ht hexec hstop' hs, (honly _).mem.1⟩
  case kmac =>
    intro a k len usable aes
    have hexec : exec (.kmac t gd ga gb) s = .next ((s.issued t).kmacIns t gd ga gb next) := by
      rw [exec_kmac, execKmac, State.issue_of_mayRun_size (.inl rfl) h rfl, ← hpc]
      exact congrArg Host.Outcome.next (if_neg (by omega))
    have ha : ((s.issued t).g t ga).toNat = a := congrArg BitVec.toNat (s.issued_g t t ga)
    have hk : ((s.issued t).g t gb).toNat % 256 = k := by
      rw [s.issued_g]
      exact (BitVec.extractLsb'_toNat 0 8 _).symm
    have hlen : ((s.issued t).g t gb).toNat / 2 ^ 16 % 2 ^ 13 = len := by
      rw [s.issued_g]
      exact ((BitVec.extractLsb'_toNat 16 13 _).trans (by rw [Nat.shiftRight_eq_div_pow])).symm
    have hchecks : (s.issued t).kmacChecks ((s.issued t).thrPart t) k a len = s.kmacChecks p k a len := by
      simp only [State.kmacChecks, State.issued_thrPart, State.issued_vsPart, State.issued_keyUsable, State.issued_kvcOk,
        State.issued_get, State.issued_dwin]
      rfl
    have hfails : ∀ st, firstFail (s.kmacChecks p k a len) = some st →
        ∃ w : State, ReturnsStatus (.kmac t gd ga gb) s w t next gd st 0 ∧ w.kvc = s.kvc := fun st hst => by
      rw [State.kmacIns_of_fails ha hk hlen (hchecks ▸ hst)] at hexec
      obtain ⟨-, -, -, -, -, -, -, -, hkvc, -⟩ := (honly st).units
      exact ⟨_, returnsStatus_of_parkStatus ht hexec hstop' hs, hkvc⟩
    have hpart : s.vsPart k = p → (s.vsPart k != p) = false := fun hp => bne_eq_false_iff_eq.2 hp
    have husable : usable → (!s.keyUsable k p attrDsq || !s.kvcOk) = false := fun ⟨hu, hok⟩ => by rw [hu, hok]; rfl
    refine ⟨fun hp => hfails _ ?denied, fun hp hu => hfails _ ?noKey, fun hp hu hbad => hfails _ ?badArg,
      fun hp hu haes hlo hhi hbase hend => ?starts⟩
    case denied => exact firstFail_cons_fail (bne_iff_ne.2 hp) _ _
    case noKey =>
      refine (firstFail_cons_pass (hpart hp) _ _).trans (firstFail_cons_fail ?_ _ _)
      simpa [usable, imp_iff_not_or] using hu
    case badArg =>
      refine (firstFail_cons_pass (hpart hp) _ _).trans ((firstFail_cons_pass (husable hu) _ _).trans (firstFail_cons_fail ?_ _ _))
      exact (State.kmacChecks_last_iff rfl).2 hbad
    case starts =>
      have hpasses : firstFail (s.kmacChecks p k a len) = none := by
        refine (firstFail_cons_pass (hpart hp) _ _).trans ((firstFail_cons_pass (husable hu) _ _).trans (firstFail_cons_pass ?_ _ _))
        refine Bool.eq_false_of_not_eq_true fun hbad => ?_
        obtain hty | hlen0 | hlong | hlow | hhigh := (State.kmacChecks_last_iff (base := base) (size := size) rfl).1 hbad
        · exact hty haes
        all_goals omega
      rw [State.kmacIns_of_passes ha hk hlen (hchecks ▸ hpasses), State.issued_dbytes] at hexec
      have hkvc : ((s.issued t).park t thReply next gd).kvc = s.kvc := by
        obtain ⟨-, -, -, -, -, -, -, -, hkvc, -⟩ := ((OnlyThread.issued s t).trans (OnlyThread.park ht thReply)).units
        exact hkvc
      exact ⟨_, hexec, State.park_thrState thReply, hkvc, State.park_pc thReply, fun tag _ => State.kmac_completes ht hstop' hgd tag⟩
  case reserved =>
    rw [exec_kmac, execKmac, State.issue_of_mayRun_size (.inl rfl) h rfl, ← State.raise_issued]
    exact congrArg Host.Outcome.next (if_pos hgd)
end

section
/-! PROOF. LD, LDW, ST and STW on data SRAM (R324, R325, R327, R340, R354). -/
namespace Sys2Proof.Machine

/-! ### Words and halves -/

theorem getLsbD_halfMask (h : Half) {i : Nat} (hi : i < 64) : (halfMask h).getLsbD i =
    match h with
    | .full => true
    | .low => decide (i < 32)
    | .high => decide (32 ≤ i) := by
  have hfull : halfMask .full = fieldMask 63 0 := by decide
  have hlow : halfMask .low = fieldMask 31 0 := by decide
  have hhigh : halfMask .high = fieldMask 63 32 := by decide
  have hfrom0 : decide (0 ≤ i) = true := decide_eq_true (Nat.zero_le i)
  have hto63 : decide (i ≤ 63) = true := decide_eq_true (Nat.le_of_lt_succ hi)
  have hto31 : decide (i ≤ 31) = decide (i < 32) := decide_eq_decide.2 Nat.lt_succ_iff.symm
  cases h
  · rw [hfull, getLsbD_fieldMask _ _ _ (by decide) (by decide), hfrom0, hto63]
    rfl
  · rw [hlow, getLsbD_fieldMask _ _ _ (by decide) (by decide), hfrom0, hto31]
    rfl
  · rw [hhigh, getLsbD_fieldMask _ _ _ (by decide) (by decide), hto63, Bool.and_true]

/-- The half that a load or store of an address reaches. -/
def memHalf (wide : Bool) (addr : Nat) : Half := if wide then .full else if addr % 8 = 0 then .low else .high

/-- The word of data SRAM after a store (R325). -/
def storedWord (wide : Bool) (addr : Nat) (old data : Word) : Word :=
  withHalf (memHalf wide addr) old (if wide then data else data &&& 0xffffffff)

theorem memHalf_low {addr : Nat} (h : addr % 8 = 0) : memHalf false addr = .low := by simp [memHalf, h]
theorem memHalf_high {addr : Nat} (h : addr % 8 = 4) : memHalf false addr = .high := by simp [memHalf, h]

theorem storedWord_wide (addr : Nat) (old data : Word) : storedWord true addr old data = data := by
  have hword : storedWord true addr old data = (old &&& ~~~halfMask .full) ||| (data &&& halfMask .full) := rfl
  rw [hword]
  refine BitVec.eq_of_getLsbD_eq fun i hi => ?_
  rw [BitVec.getLsbD_or, BitVec.getLsbD_and, BitVec.getLsbD_and, BitVec.getLsbD_not, getLsbD_halfMask _ hi]
  simp

theorem storedWord_low {addr : Nat} (h : addr % 8 = 0) (old data : Word) :
    storedWord false addr old data = BitVec.extractLsb' 32 32 old ++ BitVec.extractLsb' 0 32 data := by
  have hhalf : memHalf false addr = .low := memHalf_low h
  have hword : storedWord false addr old data =
      (old &&& ~~~halfMask .low) ||| (data &&& halfMask .low &&& halfMask .low &&& halfMask .low) := by
    rw [storedWord, hhalf]
    rfl
  rw [hword]
  refine BitVec.eq_of_getLsbD_eq fun i hi => ?_
  rw [BitVec.getLsbD_append, BitVec.getLsbD_extractLsb', BitVec.getLsbD_extractLsb']
  simp only [BitVec.getLsbD_or, BitVec.getLsbD_and, BitVec.getLsbD_not, getLsbD_halfMask _ hi, hi]
  by_cases hlow : i < 32
  · simp [hlow]
  · have hi' : 32 + (i - 32) = i := by omega
    have hlt : i - 32 < 32 := by omega
    simp [hlow, hi', hlt]

theorem storedWord_high {addr : Nat} (h : addr % 8 = 4) (old data : Word) :
    storedWord false addr old data = BitVec.extractLsb' 0 32 data ++ BitVec.extractLsb' 0 32 old := by
  have hhalf : memHalf false addr = .high := memHalf_high h
  have hword : storedWord false addr old data =
      (old &&& ~~~halfMask .high) ||| ((data &&& halfMask .low) <<< 32 &&& halfMask .high) := by
    rw [storedWord, hhalf]
    rfl
  rw [hword]
  refine BitVec.eq_of_getLsbD_eq fun i hi => ?_
  rw [BitVec.getLsbD_append, BitVec.getLsbD_extractLsb', BitVec.getLsbD_extractLsb']
  simp only [BitVec.getLsbD_or, BitVec.getLsbD_and, BitVec.getLsbD_not, BitVec.getLsbD_shiftLeft, getLsbD_halfMask _ hi,
    getLsbD_halfMask (i := i - 32) _ (by omega), hi]
  by_cases hlow : i < 32
  · have hhigh : ¬ 32 ≤ i := by omega
    simp [hlow, hhigh]
  · have hhigh : 32 ≤ i := by omega
    have hi' : i - 32 < 32 := by omega
    simp [hlow, hhigh, hi']

/-- The word that a load of a half brings (R324). -/
theorem halfOf_low {addr : Nat} (h : addr % 8 = 0) (x : Word) :
    halfOf (memHalf false addr) x = 0#32 ++ BitVec.extractLsb' 0 32 x := by
  have hhalf : memHalf false addr = .low := memHalf_low h
  have hword : halfOf .low x = x &&& halfMask .low := rfl
  rw [hhalf, hword]
  refine BitVec.eq_of_getLsbD_eq fun i hi => ?_
  rw [BitVec.getLsbD_append, BitVec.getLsbD_extractLsb', BitVec.getLsbD_and, getLsbD_halfMask _ hi]
  by_cases hlow : i < 32 <;> simp [hlow]

theorem halfOf_high {addr : Nat} (h : addr % 8 = 4) (x : Word) :
    halfOf (memHalf false addr) x = 0#32 ++ BitVec.extractLsb' 32 32 x := by
  have hhalf : memHalf false addr = .high := memHalf_high h
  have hword : halfOf .high x = x >>> 32 := rfl
  rw [hhalf, hword]
  refine BitVec.eq_of_getLsbD_eq fun i hi => ?_
  rw [BitVec.getLsbD_append, BitVec.getLsbD_extractLsb', BitVec.getLsbD_ushiftRight]
  by_cases hlow : i < 32
  · simp [hlow]
  · have hout : x.getLsbD (32 + i) = false := BitVec.getLsbD_of_ge x _ (by omega)
    simp [hlow, hout]

/-! ### An access to data SRAM -/

section
variable {v : State} {t b : Nat} {a : Access}

theorem State.gated_of_inDsram (h : inDsram b = true) : v.gated b = false := by
  simp only [inDsram, Bool.and_eq_true, decide_eq_true_eq] at h
  have hblock : b / 0x100000 = 36 := by omega
  have hlane : laneWindow b = false := by
    simp only [laneWindow, Bool.and_eq_false_iff, decide_eq_false_iff_not]
    omega
  simp only [State.gated, hblock, hlane, Bool.false_and]

variable (hm : a.m = .thread t) (hstall : tabGet none v.par.stalls (2 + t / 16) = none) (hin : inDsram a.addr = true)
  (h8 : a.addr % 8 = 0)
include hm hstall hin h8

theorem State.access_stores (hw : a.write = true) : v.access a = v.setDword a.addr (withHalf a.h (v.dword a.addr) a.data) := by
  have hport : portCode a.m = 2 + t / 16 := by rw [hm]; rfl
  have hcp : cpOnly a.m a.addr = false := by rw [hm]; rfl
  simp [State.access, hport, hstall, State.serve, hw, State.serveWrite, State.gated_of_inDsram hin, hcp, hin, h8]

theorem State.access_loads (hw : a.write = false) : v.access a = v.busAnswer a (halfOf a.h (v.dword a.addr)) := by
  have hport : portCode a.m = 2 + t / 16 := by rw [hm]; rfl
  have hcp : cpOnly a.m a.addr = false := by rw [hm]; rfl
  simp [State.access, hport, hstall, State.serve, hw, State.serveRead, State.gated_of_inDsram hin, hcp, hin, h8]

end

/-! ### What a load or store does -/

/-- A thread that waits for a load from data SRAM (R354). -/
def State.awaitsBus (v : State) (t next rd : Nat) : State :=
  let s := v.park t thReply next rd
  s.setThr t { s.thr t with await := .bus, cool := (s.eng (t / 16)).cyc + 3 }

/-- A thread whose load from data SRAM has its word. -/
def State.loads (v : State) (t next rd : Nat) (x : Word) : State :=
  let s := v.awaitsBus t next rd
  s.setThr t { s.thr t with await := .result [(rd, x)] [] (s.get F.thrStat_FLAGS t) }

theorem State.awaitsBus_thr (v : State) (t next rd : Nat) : (v.awaitsBus t next rd).thr t =
    { (v.park t thReply next rd).thr t with await := .bus, cool := ((v.park t thReply next rd).eng (t / 16)).cyc + 3 } :=
  State.thr_setThr_same _ _ _

theorem State.busAnswer_awaitsBus {v : State} {t next rd : Nat} {a : Access} (x : Word) (hm : a.m = .thread t) (hrd : a.rd = rd) :
    (v.awaitsBus t next rd).busAnswer a x = v.loads t next rd x := by
  have hawait : ((v.awaitsBus t next rd).thr t).await = .bus := congrArg Thr.await (v.awaitsBus_thr t next rd)
  unfold State.busAnswer
  simp only [hm, hawait, if_true, hrd]
  rfl

section
variable {v : State} {t addr next rd : Nat} {wide write : Bool} {data : Word}

theorem State.memory_of_misaligned (h : addr % (if wide then 8 else 4) ≠ 0) :
    v.memory t addr next rd wide write data = v.raise t 3 0 addr := if_pos h

variable (hal : addr % (if wide then 8 else 4) = 0)
include hal

theorem State.memory_of_unreached (h : v.thrReaches t (8 * (addr / 8)) = false) :
    v.memory t addr next rd wide write data = v.raise t 4 0 addr := by
  rw [Nat.mul_comm] at h
  rw [State.memory, if_neg (not_not.2 hal), if_pos (by simp [h])]

variable (hreach : v.thrReaches t (8 * (addr / 8)) = true) (hin : inDsram (8 * (addr / 8)) = true)
include hreach hin

theorem State.memory_of_eccError (h : v.dataEcc (8 * (addr / 8)) = 2) :
    v.memory t addr next rd wide false data = v.eccFault t addr := by
  rw [Nat.mul_comm] at hreach hin h
  rw [State.memory, if_neg (not_not.2 hal), if_neg (by simp [hreach]), if_neg (by decide), if_pos (by simp [hin, h])]

variable (hstall : tabGet none v.par.stalls (2 + t / 16) = none)
include hstall

theorem State.memory_stores : v.memory t addr next rd wide true data =
    (v.goOn t next 1).setDword (8 * (addr / 8)) (storedWord wide addr (v.dword (8 * (addr / 8))) data) := by
  rw [Nat.mul_comm] at hreach hin ⊢
  rw [State.memory, if_neg (not_not.2 hal), if_neg (by simp [hreach]), if_pos rfl]
  exact State.access_stores (t := t) rfl hstall hin (Nat.mul_mod_left _ _) rfl

theorem State.memory_loads (hecc : v.dataEcc (8 * (addr / 8)) = 0) :
    v.memory t addr next rd wide false data = v.loads t next rd (halfOf (memHalf wide addr) (v.dword (8 * (addr / 8)))) := by
  rw [Nat.mul_comm] at hreach hin hecc ⊢
  rw [State.memory, if_neg (not_not.2 hal), if_neg (by simp [hreach]), if_neg (by decide), if_neg (by simp [hecc])]
  simp only [hin, hecc, Bool.true_and, if_true]
  rw [if_neg (by decide)]
  exact (State.access_loads (v := v.awaitsBus t next rd) (t := t) rfl hstall hin (Nat.mul_mod_left _ _) rfl).trans
    (State.busAnswer_awaitsBus _ rfl rfl)

end

/-! ### A load's word arrives -/

/-- A reply that is ready is written (R355). -/
theorem exec_threadReplyArrive_result {u : State} {t fl : Nat} {g : List (Nat × Word)} {tr : List (Nat × TReg)} (ht : t < 128)
    (hwait : u.thrState t = 4) (hawait : (u.thr t).await = .result g tr fl) (hstop : u.getB F.thrStat_STOP_PEND t = false) :
    exec (.threadReplyArrive t) u = .next (u.answers t g tr fl) := by
  rw [exec_threadReplyArrive, execThreadReplyArrive, if_neg (by omega), State.replyArrive, if_neg (by simp [hwait]), hawait]
  exact congrArg Host.Outcome.next (State.replied_eq_answers ht hstop)

section
variable {v : State} {t next rd : Nat} {x : Word}

/-- What a load's reply leaves. -/
def State.afterLoad (v : State) (t next rd : Nat) (x : Word) : State :=
  (v.loads t next rd x).answers t [(rd, x)] [] (v.get F.thrStat_FLAGS t)

theorem State.loads_regs : (v.loads t next rd x).regs = (v.park t thReply next rd).regs := rfl

theorem State.loads_thr : (v.loads t next rd x).thr t =
    { (v.awaitsBus t next rd).thr t with await := .result [(rd, x)] [] (v.get F.thrStat_FLAGS t) } := by
  have h : (v.awaitsBus t next rd).get F.thrStat_FLAGS t = v.get F.thrStat_FLAGS t :=
    State.get_park thReply rfl (by decide) (by decide) (by decide)
  rw [State.loads, State.thr_setThr_same, h]

theorem State.loads_thrState : (v.loads t next rd x).thrState t = 4 := State.park_thrState thReply

theorem OnlyThread.loads (ht : t < 128) : OnlyThread v (v.loads t next rd x) t :=
  ((OnlyThread.park ht _).trans (OnlyThread.setThr _)).trans (OnlyThread.setThr _)

theorem State.loads_treg (n : Nat) : (v.loads t next rd x).treg t n = v.treg t n := by
  have hawait := State.awaitsBus_thr v t next rd
  have htr : ((v.loads t next rd x).thr t).tr = ((v.park t thReply next rd).thr t).tr := by rw [State.loads_thr, hawait]
  exact (congrArg (fun r => tabGet ({} : TReg) r (n % 8)) htr).trans (State.park_treg _ _ _ n)

theorem exec_threadReplyArrive_loads (ht : t < 128) (hstop : v.getB F.thrStat_STOP_PEND t = false) :
    exec (.threadReplyArrive t) (v.loads t next rd x) = .next (v.afterLoad t next rd x) := by
  have hpend : (v.loads t next rd x).getB F.thrStat_STOP_PEND t = false := by
    have hget : (v.park t thReply next rd).get F.thrStat_STOP_PEND t = v.get F.thrStat_STOP_PEND t :=
      State.get_park thReply rfl (by decide) (by decide) (by decide)
    rw [State.getB_congr State.loads_regs, State.getB, hget]
    exact hstop
  exact exec_threadReplyArrive_result ht State.loads_thrState (congrArg Thr.await State.loads_thr) hpend

theorem State.setG_thr (s : State) (t r : Nat) (x : Word) (k : Nat) : (s.setG t r x).thr k = s.thr k := by
  unfold State.setG
  split <;> rfl

/-- The thread goes on with the word in its register, no earlier than the third cycle after the load (R354). -/
theorem State.afterLoad_cool : ((v.afterLoad t next rd x).thr t).cool = (v.eng (t / 16)).cyc + 3 := by
  have hthr : (v.afterLoad t next rd x).thr t =
      { ((v.loads t next rd x).setG t rd x).thr t with await := .none } := State.thr_setThr_same _ _ _
  rw [hthr, State.setG_thr, State.loads_thr, State.awaitsBus_thr]
  rfl

theorem State.afterLoad_flag (f : Flag) : (v.afterLoad t next rd x).flag t f = v.flag t f := State.answers_flag f

theorem wroteG_afterLoad (ht : t < 128) : WroteG v (v.afterLoad t next rd x) t next rd x := by
  have hg : ∀ r, (v.afterLoad t next rd x).g t r = ((v.loads t next rd x).setG t rd x).g t r := State.answers_g ht
  have hloads : ∀ r, (v.loads t next rd x).g t r = v.g t r := fun r =>
    (State.g_put ht (f := F.thrStat_STATE) rfl _ r).trans (State.g_put ht (f := F.thrStat_PC) rfl _ r)
  refine ⟨?dest, fun r hr => ?others, fun n => ?treg, ?pc, State.answers_thrState, (OnlyThread.loads ht).trans (OnlyThread.answers ht)⟩
  case dest => rw [hg, State.g_setG_same]
  case others => rw [hg, State.g_setG, if_neg hr, hloads]
  case treg => exact (State.answers_treg t n).trans ((State.setG_treg rd x t n).trans (State.loads_treg n))
  case pc => exact (State.get_answers ht rfl (by decide) (by decide) (by decide)).trans (State.park_pc thReply)

end

/-- A write of one general register after a change that shows in none of them. -/
theorem WroteG.of_issued {s u : State} {t next rd : Nat} {x : Word} (h : WroteG (s.issued t) u t next rd x) : WroteG s u t next rd x where
  dest := h.dest
  others r hr := (h.others r hr).trans (s.issued_g t t r)
  treg n := (h.treg n).trans (s.issued_treg t t n)
  pc := h.pc
  ready := h.ready
  only := (OnlyThread.issued s t).trans h.only

/-! ### The instructions -/

section
variable {s : State} {t : Nat}

@[simp] theorem State.issued_eng (k : Nat) : (s.issued t).eng k = s.eng k :=
  State.issued_keeps (fun s => s.eng k) (fun _ _ _ _ => rfl) (fun _ _ _ => rfl) s t

@[simp] theorem State.issued_dataEcc (a : Nat) : (s.issued t).dataEcc a = s.dataEcc a :=
  State.issued_keeps (fun s => s.dataEcc a) (fun _ _ _ _ => rfl) (fun _ _ _ => rfl) s t

@[simp] theorem State.issued_dword (a : Nat) : (s.issued t).dword a = s.dword a := by
  rw [State.dword, (OnlyThread.issued s t).mem.1, State.dword]

@[simp] theorem State.issued_par : (s.issued t).par = s.par := by rw [State.issued_eq]

variable {rd ra imm : Nat} {e wide : Bool} (h : s.mayRun t (if e then 8 else 4))
include h

theorem State.issue_memory {d : DIns} (hord : d.ordered = false) : s.issue t (sizeOf' e) d = (s.issued t).effect t (sizeOf' e) d := by
  cases e
  · exact State.issue_of_mayRun_size (.inl rfl) h hord
  · exact State.issue_of_mayRun_size (.inr rfl) h hord

theorem State.issue_load : s.issue t (sizeOf' e) (.load wide rd ra (immOf e imm)) =
    (s.issued t).memory t (s.g t ra + immVal e imm).toNat (s.pc t + if e then 8 else 4) rd wide false 0 := by
  rw [State.issue_memory h rfl, immOf_eq]
  simp only [State.effect, State.issued_pc, State.issued_g]
  rfl

theorem State.issue_store : s.issue t (sizeOf' e) (.store wide rd ra (immOf e imm)) =
    (s.issued t).memory t (s.g t ra + immVal e imm).toNat (s.pc t + if e then 8 else 4) 0 wide true (s.g t rd) := by
  rw [State.issue_memory h rfl, immOf_eq]
  simp only [State.effect, State.issued_pc, State.issued_g]
  rfl

end

/-- An exception of a load or store has the address as its DATA (R340). -/
theorem State.raise_issued_data (s : State) (t cause : Nat) (w : Word) :
    (s.issued t).raise t cause 0 w.toNat = (s.issued t).faultThr t cause 0 (s.pc t) w := by
  rw [State.raise, State.issued_pc, BitVec.ofNat_toNat, BitVec.setWidth_eq]

theorem State.pulse_pc (s : State) (n p inst : Nat) {k : Nat} (hk : k < 128) : (s.pulse n p inst).pc k = s.pc k := by
  refine State.get_of_rd (State.rd_of_wordsBelowSup (s.wordsBelowSup_pulse n p inst _ _) ?_)
  simp only [regAddr, regInfo]
  omega

theorem State.eccFault_issued (s : State) {t : Nat} (ht : t < 128) (w : Word) :
    (s.issued t).eccFault t w.toNat = ((s.issued t).pulse 25 (s.thrPart t) t).faultThr t 6 0 (s.pc t) w := by
  rw [State.eccFault, State.raise, State.pulse_pc _ _ _ _ ht, State.issued_pc, State.issued_thrPart, BitVec.ofNat_toNat,
    BitVec.setWidth_eq]

/-! ### A load and a store on data SRAM -/

section
variable {s : State} {t addr next : Nat} {x : Word}

/-- What a store on data SRAM leaves (R325, R327). -/
structure State.Stored (s u : State) (t next addr : Nat) (x : Word) : Prop where
  word : u.dword (8 * (addr / 8)) = x
  others : ∀ b : Nat, inDsram b = true → b / 8 ≠ addr / 8 → u.dword b = s.dword b
  flags : s.sameFlags u t
  g : ∀ r : Nat, u.g t r = s.g t r
  treg : ∀ n : Nat, u.treg t n = s.treg t n
  pc : u.pc t = next % 2 ^ 21
  ready : u.thrState t = 1
  tse : u.tse = s.tse
  out : u.out = s.out
  isram : u.dsq.isram = s.dsq.isram

theorem State.stored_setDword (ht : t < 128) (hready : s.thrState t = 1) (hin : inDsram (8 * (addr / 8)) = true) :
    s.Stored (((s.issued t).goOn t next 1).setDword (8 * (addr / 8)) x) t next addr x := by
  have honly : OnlyThread s ((s.issued t).goOn t next 1) t := (OnlyThread.issued s t).trans (OnlyThread.goOn ht)
  refine ⟨State.dword_setDword_same _ _ _, fun b hb hne => ?others, sameFlags_goOn (s.issued_flag t t),
    fun r => (State.goOn_g ht r).trans (s.issued_g t t r), fun n => (State.goOn_treg (pc := next) t n).trans (s.issued_treg t t n), State.goOn_pc,
    State.goOn_thrState.trans ((s.issued_thrState t t).trans hready), honly.units.1, honly.rest.1, honly.mem.2.1⟩
  case others =>
    simp only [inDsram, Bool.and_eq_true, decide_eq_true_eq] at hb hin
    rw [State.dword_setDword_ne _ _ _ _ (by omega), State.dword, honly.mem.1, State.dword]

theorem State.load_completes (ht : t < 128) (hstop : s.getB F.thrStat_STOP_PEND t = false) (rd : Nat) :
    ∃ w : State, exec (.threadReplyArrive t) ((s.issued t).loads t next rd x) = .next w ∧ WroteG s w t next rd x ∧
      s.sameFlags w t ∧ (w.thr t).cool = (s.eng (t / 16)).cyc + 3 := by
  have hstop' : (s.issued t).getB F.thrStat_STOP_PEND t = false := (s.issued_getB t _ t 0).trans hstop
  refine ⟨_, exec_threadReplyArrive_loads ht hstop', (wroteG_afterLoad ht).of_issued, fun f => ?_, ?_⟩
  · rw [State.afterLoad_flag, State.issued_flag]
  · rw [State.afterLoad_cool, State.issued_eng]

end

end Sys2Proof.Machine

open Sys2Proof Sys2Proof.Machine

/-- Settles O29: each instruction is one access of `State.memory`, which data SRAM serves at once. -/
theorem loadsAndStoresReachDataSram : Obligations.LoadsAndStoresReachDataSram := by
  intro s t rd ra imm e h hstop hstall next w a at' hit stored loaded fails lo hi
  have ht : t < 128 := h.1
  have hready : s.thrState t = 1 := h.2.1
  have hstall' : tabGet none (s.issued t).par.stalls (2 + t / 16) = none := by rwa [State.issued_par]
  have hload : ∀ wide, s.issue t (sizeOf' e) (.load wide rd ra (immOf e imm)) = (s.issued t).memory t a next rd wide false 0 :=
    fun wide => State.issue_load h
  have hstore : ∀ wide, s.issue t (sizeOf' e) (.store wide rd ra (immOf e imm)) =
      (s.issued t).memory t a next 0 wide true (s.g t rd) := fun wide => State.issue_store h
  have hraise : ∀ {i : Instr} {cause : Nat} {v : State}, exec i s = .next v → v = (s.issued t).raise t cause 0 a → fails i cause :=
    fun hexec hv => hexec.trans (congrArg Host.Outcome.next (hv.trans (s.raise_issued_data t _ w)))
  have hstored : ∀ {i : Instr} {wide : Bool} {x : Word}, hit → a % (if wide then 8 else 4) = 0 →
      exec i s = .next (s.issue t (sizeOf' e) (.store wide rd ra (immOf e imm))) →
      storedWord wide a (s.dword at') (s.g t rd) = x → stored i x := by
    intro i wide x ⟨hreach, hin⟩ hal hexec hx
    rw [hstore, State.memory_stores hal (by rwa [State.issued_thrReaches]) hin hstall', State.issued_dword, hx] at hexec
    have hs := State.stored_setDword (next := next) (x := x) ht hready hin
    exact ⟨_, hexec, hs.word, hs.others, hs.flags, hs.g, hs.treg, hs.pc, hs.ready, hs.tse, hs.out, hs.isram⟩
  have hloaded : ∀ {i : Instr} {wide : Bool} {x : Word}, hit → a % (if wide then 8 else 4) = 0 →
      exec i s = .next (s.issue t (sizeOf' e) (.load wide rd ra (immOf e imm))) →
      halfOf (memHalf wide a) (s.dword at') = x → loaded i x := by
    intro i wide x ⟨hreach, hin⟩ hal hexec hx
    have hreach' : (s.issued t).thrReaches t (8 * (a / 8)) = true := by rwa [State.issued_thrReaches]
    rw [hload] at hexec
    refine ⟨fun hecc => ?clean, fun hecc => ?error⟩
    case clean =>
      rw [State.memory_loads hal hreach' hin hstall' (by rwa [State.issued_dataEcc]), State.issued_dword, hx] at hexec
      obtain ⟨v, hv, hw, hflags, hcool⟩ := State.load_completes (next := next) (x := x) ht hstop rd
      exact ⟨_, v, hexec, State.loads_thrState, hv, hw, hflags, hcool⟩
    case error =>
      rw [State.memory_of_eccError hal hreach' hin (by rwa [State.issued_dataEcc]), State.eccFault_issued s ht w] at hexec
      exact hexec
  have hword : a % 8 = 0 → s.dword at' = s.dword a := fun h8 => congrArg s.dword (by omega)
  have hfour : a % 8 = 0 ∨ a % 8 = 4 → a % 4 = 0 := fun h => by omega
  have hdenied : s.thrReaches t at' = false → (s.issued t).thrReaches t (8 * (a / 8)) = false := fun hno => by
    rwa [State.issued_thrReaches]
  refine ⟨fun hhit h8 => ⟨?st, ?ld, ?stwLow, ?ldwLow⟩, fun hhit h4 => ⟨?stwHigh, ?ldwHigh⟩, fun h8 => ⟨?_, ?_⟩, fun h4 => ⟨?_, ?_⟩,
    fun hno => ⟨fun h8 => ⟨?_, ?_⟩, fun h4 => ⟨?_, ?_⟩⟩⟩
  case st => exact hstored (wide := true) hhit h8 exec_st (storedWord_wide _ _ _)
  case ld => exact hloaded (wide := true) hhit h8 exec_ld (hword h8)
  case stwLow => exact hstored (wide := false) hhit (hfour (.inl h8)) exec_stw (by rw [storedWord_low h8, hword h8])
  case ldwLow => exact hloaded (wide := false) hhit (hfour (.inl h8)) exec_ldw (by rw [halfOf_low h8, hword h8])
  case stwHigh => exact hstored (wide := false) hhit (hfour (.inr h4)) exec_stw (storedWord_high h4 _ _)
  case ldwHigh => exact hloaded (wide := false) hhit (hfour (.inr h4)) exec_ldw (halfOf_high h4 _)
  · exact hraise exec_ld ((hload true).trans (State.memory_of_misaligned h8))
  · exact hraise exec_st ((hstore true).trans (State.memory_of_misaligned h8))
  · exact hraise exec_ldw ((hload false).trans (State.memory_of_misaligned h4))
  · exact hraise exec_stw ((hstore false).trans (State.memory_of_misaligned h4))
  · exact hraise exec_ld ((hload true).trans (State.memory_of_unreached h8 (hdenied hno)))
  · exact hraise exec_st ((hstore true).trans (State.memory_of_unreached h8 (hdenied hno)))
  · exact hraise exec_ldw ((hload false).trans (State.memory_of_unreached h4 (hdenied hno)))
  · exact hraise exec_stw ((hstore false).trans (State.memory_of_unreached h4 (hdenied hno)))
end
